-- ==== Sys2Proof/Word.lean ====
section
/-! DEFINITION. The word and byte types of the AJ48's host port, rings and memories (00 R5, R6). -/

namespace Sys2Proof

/-- One 32-bit host-port word or ring-entry word (R6). -/
abbrev Word := BitVec 32

/-- One byte of MRAM, of the NOR or of a host frame. -/
abbrev Byte := BitVec 8

end Sys2Proof
end

