-- ==== Sys2Proof/Syntax.lean ====
section
/-! DEFINITION. The commands of the block: one constructor per row of spec/opcode_table.json. A command is a host frame, a
register or ring operation, a measurement, an expiry or an external event; what the outside supplies (readings, received
bytes, solver results) is its operands. -/

namespace Sys2Proof

/-- What the NOR on MCS0 answers at discovery (17 R768-R773). -/
structure NorPart where
  /-- False when the JEDEC ID reads all 0x00 or all 0xFF with no SFDP signature, or three pairs of reads differ. -/
  answers : Bool := false
  /-- JEDEC ID, first byte in [23:16]. -/
  jedec : Nat := 0
  /-- The SFDP basic table of major revision 1: minor revision and DWORDs 1 up; none when no valid table is found. -/
  sfdp : Option (Nat × List Word) := none
  /-- The quad-enable bit as read, and whether it reads set after one write (R773). -/
  qe : Bool := false
  qeTakes : Bool := false
  /-- DWORD 16 of the table declares a continuous-read method (R771, R777). -/
  contRead : Bool := false
  /-- Pairs of discovery reads that differed and were read again (R769). -/
  retries : Nat := 0
  /-- Blocks programmed into the NOR from outside the AJ48 since the last discovery: NOR address and bytes. -/
  programmed : List (Nat × List Byte) := []
  deriving DecidableEq, Repr

/-- What the solver computes for one epoch or snapshot (13 R595-R599): the position fix and the quantities the trust checks test. -/
structure Solution where
  /-- The solve converged and its residual check was passed or made possible. -/
  ok : Bool
  signals : Nat
  systems : Nat
  lat : Int
  lon : Int
  height : Int
  /-- Horizontal and vertical error estimates, dm. -/
  hErr : Nat
  vErr : Nat
  /-- cm/s and 0.01 degree. -/
  speed : Nat
  heading : Nat
  towMs : Nat
  week : Nat
  /-- Highest C/N0 in 0.01 dB-Hz; per band, the number of signals and the standard deviation of C/N0 in 0.01 dB. -/
  cn0Max : Nat
  l1Count : Nat
  l1Spread : Nat
  l5Count : Nat
  l5Spread : Nat
  /-- Largest move of an inter-system offset (tracking) or mean residual of a system (snapshot), ns. -/
  isoNs : Nat
  /-- Doppler velocity against position change, cm/s, and the excess over 3 sigma allowed; Doppler residual in bins (snapshot). -/
  doppler : Nat
  sigma3 : Nat
  /-- Clock bias against the model in ns (tracking); coarse-time error in us (snapshot). -/
  clock : Nat
  raimExcl : Bool
  raimFail : Bool
  /-- A redundant signal made a residual test possible. -/
  checked : Bool
  /-- Offsets of Galileo, BeiDou, QZSS and GLONASS from GPS time in 0.1 ns, where estimated. -/
  offsets : List (Option Int)
  /-- TBM drift and its uncertainty, ppb, and the converter-die temperature in 1/16 degree. -/
  drift : Int
  driftUnc : Nat
  temp : Int
  /-- GNSS time of the solution as keeper time: seconds and sub-second count at the moment of the command. -/
  sec : Nat
  sub : Nat
  deriving DecidableEq, Repr

/-- What one tracker channel latches at an epoch edge (13 R585, R588). -/
structure Meas where
  ch : Nat
  codePhase : Nat
  /-- Carrier cycles since the previous epoch, 1/256 cycle. -/
  carrier : Int
  doppler : Int
  cn0 : Nat
  txValid : Bool
  txMs : Nat
  half : Bool
  blanked : Bool
  /-- Time since the previous epoch, 0.1 s. -/
  elapsed : Nat
  deriving DecidableEq, Repr

/-- What a navigation unit contributes to the keep (13 R594, 12 R558). -/
inductive NavContent where
  | other
  | ephemeris (refSec : Nat) (words : List (BitVec 64))
  | almanac (words : List (BitVec 64))
  /-- UTC parameters: leap seconds since 2000, a pending event and its day, and keep words 32-47. -/
  | utc (count : Int) (pending delete : Bool) (day : Nat) (words : List (BitVec 64))
  deriving DecidableEq, Repr

/-- Reception data of a frame (14 R655): carrier offset, sync time, FINE, symbol-rate error. -/
structure RxMeta where
  foff : Int
  sec : Nat
  sub : Nat
  fine : Nat
  toff : Int
  deriving DecidableEq, Repr

/-- A baseline the lead solves (15 R711): E, N, U in dm, signals used, whether carrier was used. -/
structure Baseline where
  e : Int
  n : Int
  u : Int
  signals : Nat
  carrier : Bool
  deriving DecidableEq, Repr

/-- The commands of the AJ48: one constructor per row of the table of operations and events, with what the row's
writer, measurement or event supplies. -/
inductive Instr where
  /-- GIRTH_TRANSFER (R26): A 16-bit transfer is received whole on a girth link and acknowledged. Operands: a transfer on girth lane `lane`: its eight symbol groups (0-3; 4 for a group that holds no symbol) and its message kind. -/
  | girthTransfer (lane : Nat) (groups : List Nat) (kind : Nat)
  /-- LANE_PROBE (R30): A LIVE lane that has carried no transfer for 1 ms while the core is in RUN or DOZE carries a probe transfer. -/
  | laneProbe (lane : Nat)
  /-- LANE_SILENT (R32): A transfer has waited 2 ms for its acknowledge, so its girth lane is declared SILENT and the remote die is isolated. -/
  | laneSilent (lane : Nat)
  /-- LANE_WAKE_HANDSHAKE (R34): The wake handshake of a powered-up remote die completes and its lane becomes LIVE. -/
  | laneWakeHandshake (lane : Nat)
  /-- REMOTE_SET_APPLY (R60): An accepted set for a remote unit is applied at the next safe boundary of that unit once its lane is LIVE. Operands: the safe boundary of the unit whose ARM field is at address `arm`. -/
  | remoteSetApply (arm : Nat)
  /-- LANE_WAKE_TIMEOUT (R34): A lane has not completed its wake handshake 2 ms after power-good and is declared SILENT. -/
  | laneWakeTimeout (lane : Nat)
  /-- FIELD_LANE_TIMEOUT (R39): The field die's end of the field lane has waited 2 ms for an acknowledge, so it switches off the converter and radio supplies and FOUT. -/
  | fieldLaneTimeout
  /-- PROTECTION_LANE_TIMEOUT (R40): A protection-lane transfer has waited 2 ms, so the field die sends that event and every later one on the field lane. Operands: the protection event the transfer carried. -/
  | protectionLaneTimeout (code : Nat) (arg0 : Nat) (arg1 : Nat)
  /-- CONVERTER_LANE_TIMEOUT (R529): The converter die's end of its lane has waited 2 ms, so it switches EXC0–EXC3 to Z and stops the monitor and awl pulses. -/
  | converterLaneTimeout
  /-- FIELD_TRANSFER_WAKE (R31): A transfer that the field die starts on the field or protection lane wakes the core from retention. -/
  | fieldTransferWake (prot : Bool)
  /-- SAMPLE_LANE_FAIL (R47): An enabled sample lane gives no strobe for 1 ms and is handled as a silent radio lane. -/
  | sampleLaneFail (lane : Nat)
  /-- TIMEBASE_LINE_FAIL (R49): A receiving die reports a timebase line that gave no edge for 1 ms, and the line is handled as a silent lane. -/
  | timebaseLineFail (line : Nat)
  /-- REMOTE_WORD_READY (R53): A remote register word that a host read fetched over the girth becomes ready. Operands: the next remote word of the read in progress; `late` when it missed the start of its byte window. -/
  | remoteWordReady (late : Bool)
  /-- REMOTE_WRITE_ACK (R52): A remote die acknowledges a host register write word. -/
  | remoteWriteAck
  /-- NRST_RESET (R74): NRST is held low for at least 10 µs outside SHIP and begins a start with trigger NRST. -/
  | nrstReset
  /-- VIO_LOST (R92): VIO falls below its good threshold, so the VIO lands enter Z and host and memory operations end. Operands: the ALIVE of the host frame that the loss cuts short; none when HCS is high. -/
  | vioLost (frame : Option Nat)
  /-- VIO_GOOD (R750): VIO rises above its good threshold again, and the host port and memory port resume. -/
  | vioGood
  /-- IO_DRIVE_ARM (R97): An ARM of SYS_IO_DRIVE is always accepted, and the GPIO and TIME groups are applied within 2 µs. -/
  | ioDriveArm
  /-- IO_DRIVE_APPLY (R97): The HOST or MEM drive group is applied once HCS is high, or once every MCS is high with no transfer in progress. Operands: the MEM group when `mem`, the HOST group otherwise. -/
  | ioDriveApply (mem : Bool)
  /-- GP_CFG_ARM (R98): An ARM of SYS_GP_CTL checks and applies the GP pin configurations. -/
  | gpCfgArm
  /-- GP_WATCH_REARM (R98): 10 µs after a GP pin configuration is applied, its wake watch is re-armed against the present level. Operands: the land level at the moment of re-arming. -/
  | gpWatchRearm (pin : Nat) (level : Bool)
  /-- GP_EDGE (R98): A wake-enabled GP input edge lasting at least 1 µs sets SYS_GP_EDGE, raises a keeper event and posts GP_EDGE. Operands: the land level after the edge. -/
  | gpEdge (pin : Nat) (level : Bool)
  /-- FVIN_TAKEN (R100): FVIN has stayed above its take threshold for the qualification time and is taken by the power path. -/
  | fvinTaken
  /-- FVIN_RELEASE (R100): FVIN falls below its release threshold and the power path switches to the cell. -/
  | fvinRelease
  /-- FVIN_OV (R103): FVIN rises above the overvoltage threshold, so the buck regulator stops and FVIN is released. Operands: VBAT and FVIN in mV. -/
  | fvinOv (vbat : Int) (fvin : Int)
  /-- CELL_CUT (R105): VBAT falls below the cut threshold, or the cell is removed, and the field die disconnects the cell. Operands: VBAT and FVIN in mV. -/
  | cellCut (vbat : Int) (fvin : Int)
  /-- CELL_RECONNECT (R105): VBAT rises above the reconnect threshold and the cell is connected to the system rail. -/
  | cellReconnect
  /-- BAT_HOLD (R106): With FVIN not taken, VBAT has stayed below 2.50 V for 10 ms and battery hold begins. Operands: VBAT and FVIN in mV. -/
  | batHold (vbat : Int) (fvin : Int)
  /-- BAT_HOLD_END (R106): VBAT has stayed above 2.70 V for 10 ms, or FVIN is taken, and battery hold ends. -/
  | batHoldEnd
  /-- CELL_REVERSED (R107): A reversed cell is detected and recorded. Operands: VBAT and FVIN in mV. -/
  | cellReversed (vbat : Int) (fvin : Int)
  /-- CHG_STATE_CHANGE (R110): The charger moves between precharge, constant current, constant voltage, done and restart as VBAT and the current cross their thresholds. Operands: VBAT in mV and the charge current in mA at the crossing. -/
  | chgStateChange (vbat : Nat) (current : Nat)
  /-- CHG_TIMER (R112): The charge safety timer expires and charging stops with FAULT. -/
  | chgTimer
  /-- NTC_OPEN (R113): An open BATNTC with NTC_FITTED 1 stops charging. -/
  | ntcOpen
  /-- FOUT_LIMIT (R116): A FOUT output has been in current limit for its cut time and is switched off and latched. -/
  | foutLimit (out : Nat)
  /-- FOUT_THERM (R116): A FOUT switch reaches its thermal cut and is switched off and latched. -/
  | foutTherm (out : Nat)
  /-- GBIAS_SHORT (R118): GBIAS has been in current limit for its cut time and is switched off. -/
  | gbiasShort
  /-- GBIAS_OPEN (R524): GBIAS has drawn less than its open-load threshold for 100 ms while on, and GBIAS_OPEN is set. -/
  | gbiasOpen
  /-- FOUT_OPEN (R524): A closed FOUT switch has carried less than 5 mA for 100 ms with FOUT_OPEN_EN set. -/
  | foutOpen (out : Nat)
  /-- BUCK_SAG (R859): The system rail stays below 2.40 V for 50 µs while FVIN is taken, so FVIN is released and BUCK_SAG is set. -/
  | buckSag
  /-- SUPPLY_OUT (R858): A filtered supply comparison changes whether a supply lies outside operating conditions. Operands: comparison 0 FVIN, 1 VBAT low, 2 VBAT high, 3 VIO high, and its filtered outcome. -/
  | supplyOut (which : Nat) (outside : Bool)
  /-- KEEPER_EVENT_POST (R362): The keeper domain posts a pending timer expiry, hold expiry or keeper event as a ring-2 entry. -/
  | keeperEventPost
  /-- MODE_REQ_SHIP (R131): A SYS_MODE_REQ write of 0x0 requests SHIP and is decided under the rank, FVIN, policy and theft rules. -/
  | modeReqShip
  /-- MODE_REQ_KEEPER_WATCH (R136): A SYS_MODE_REQ write of 0x1 or 0x2 requests KEEPER or WATCH. Operands: the request is for WATCH when `watch`, for KEEPER otherwise. -/
  | modeReqKeeperWatch (watch : Bool)
  /-- MODE_REQ_FIX (R136): A SYS_MODE_REQ write of 0x3 requests one fix as a START_FIX with TARGET 0. -/
  | modeReqFix
  /-- MODE_REQ_BURST (R136): A SYS_MODE_REQ write of 0x4 requests one burst for every waiting ring-34 entry that is due. -/
  | modeReqBurst
  /-- MODE_REQ_DUTY (R136): A SYS_MODE_REQ write of 0x5 requests DUTY, accepted only while FVIN is taken. -/
  | modeReqDuty
  /-- MODE_REQ_INVALID (R136): A SYS_MODE_REQ write of 0x6 or above is refused with REFUSED_INVALID. -/
  | modeReqInvalid (mode : Nat)
  /-- MODE_CHANGED (R901): A mode transition completes with the new mode's domains powered and lanes LIVE, and a MODE_CHANGED entry is written. -/
  | modeChanged
  /-- MODE_POLICY_ARM (R144): An ARM of SYS_MODE_POLICY checks and applies SHIP_ALLOWED, DUTY_ON_FVIN, FIRST_MODE and IDLE_MODE. -/
  | modePolicyArm
  /-- FLD_CHG_ARM (R144): An ARM of FLD_CHG_CTL checks the charger set, which takes effect within 1 ms. -/
  | fldChgArm
  /-- FLD_FOUT_ARM (R116): An ARM of FLD_FOUT_CTL applies the FOUT switch states within 50 µs, re-enabling a cut output whose fault bit was cleared. -/
  | fldFoutArm
  /-- FLD_GBIAS_ARM (R118): An ARM of FLD_GBIAS_CTL applies the GBIAS voltage and enable. -/
  | fldGbiasArm
  /-- SHIP_EXIT (R132): In SHIP, WAKE stays above its threshold for 100 µs or FVIN is taken, and a start with trigger SHIP_EXIT begins. Operands: by FVIN taken when `fvin`, by WAKE otherwise. -/
  | shipExit (fvin : Bool)
  /-- CORE_POWER_ON (R248): The logic-die core receives supply after having none, and a start with trigger POWER begins. -/
  | corePowerOn
  /-- SYS_START_CMD (R249): A write of 0x5354_4152 to SYS_START_CMD outside SHIP begins a start with trigger HOST. Operands: the value written. -/
  | sysStartCmd (key : Word)
  /-- START_RETRY (R255): After a failed start and 1.0 s in KEEPER, a start with trigger RETRY begins. -/
  | startRetry
  /-- START_LOAD (R262): Once dies, lanes and timebases are ready, the start runs memory discovery, slot choice, image check and load up to the first mode. Operands: what the NOR on MCS0 answers at discovery. -/
  | startLoad (part : NorPart)
  /-- START_TIMEOUT (R254): A start has not reached its first mode within 10 s of its trigger and ends with START_TIMEOUT. -/
  | startTimeout
  /-- SUPPLY_CYCLE (R278): FVIN below its take threshold and VBAT below 1.0 V together for 100 ms is recorded as a supply cycle that ends STIRRUP at the next start. -/
  | supplyCycle
  /-- STIRRUP_BEACON (R279): The stirrup beacon falls due 10 s after STIRRUP is entered and every 900 s after, and is sent with a new challenge. -/
  | stirrupBeacon
  /-- STIRRUP_LISTEN_END (R284): The 1.5 s listen window after a stirrup beacon closes. -/
  | stirrupListenEnd
  /-- RESTART (R287): An accepted RESTART recovery command resets the start record and begins a normal start with trigger RECOVERY. Operands: the command bytes of a radio frame, or none for the host buffer. -/
  | restart (frame : Option (List Byte))
  /-- RESTART_SLOT (R840): An accepted RESTART_SLOT recovery command sets the update state to the named slot, confirmed, then begins a start. Operands: as RESTART. -/
  | restartSlot (frame : Option (List Byte))
  /-- RESTART_DEFAULTS (R287): An accepted RESTART_DEFAULTS recovery command begins a start that treats settings as absent without committing defaults. Operands: as RESTART. -/
  | restartDefaults (frame : Option (List Byte))
  /-- RESTART_CAL_DEFAULTS (R287): An accepted RESTART_CAL_DEFAULTS recovery command begins a start that uses the image's calibration defaults. Operands: as RESTART. -/
  | restartCalDefaults (frame : Option (List Byte))
  /-- TBK_PROVEN (R153): Four consecutive TBK windows measure within ±4 % against TBS and TBK is proven. -/
  | tbkProven
  /-- TBM_PROVEN (R155): The amplitude detector reports oscillation and four TBM windows measure within ±3 %, so TBM is proven. -/
  | tbmProven
  /-- TBK_FAIL (R195): TBK is declared failed and the keeper domain moves to TBS until the next start. Operands: cause 1 a window outside its limits, 2 no edge; the frequency error in 0.01 %. -/
  | tbkFail (cause : Nat) (err : Int)
  /-- TBM_FAIL (R194): TBM is declared failed, gates 2–6 close and the mode controller acts as for a silent radio lane. Operands: as TBK_FAIL. -/
  | tbmFail (cause : Nat) (err : Int)
  /-- LOOP_LOCKED (R165): A multiplier loop locks, and its domain is asked to move to it unless forced onto TBF. Operands: loop 0 ML-G, 1 ML-C, 2 ML-S. -/
  | loopLocked (loop : Nat)
  /-- ML_UNLOCK (R196): ML-C or ML-S loses lock and its domain moves to TBF. Operands: loop 1 ML-C, 2 ML-S. -/
  | mlUnlock (loop : Nat)
  /-- MLG_UNLOCK (R197): ML-G loses lock and gates 4 and 5 stop. -/
  | mlgUnlock
  /-- LOOP_LOCK_RETRY (R196): An unlocked loop retries lock every 10 ms. -/
  | loopLockRetry (loop : Nat) (locks : Bool)
  /-- DOMAIN_SWITCH_REQUEST (R175): A timebase domain is asked to stop so that it can change source. Operands: domain 0 converter, 1 SPI, 2 keeper, 3 CKO. -/
  | domainSwitchRequest (dom : Nat) (target : Nat)
  /-- STOP_ACKNOWLEDGED (R175): The domain acknowledges the stop at its next safe point. -/
  | stopAcknowledged (dom : Nat)
  /-- SOURCE_SWITCH (R175): After exactly 2 cycles of the old root, the source selector changes. -/
  | sourceSwitch (dom : Nat)
  /-- DOMAIN_RELEASE (R175): After exactly 4 cycles of the new root, the domain is released. -/
  | domainRelease (dom : Nat)
  /-- GATE_ARM (R171): An ARM of GATE_CTL checks the shadow gate enables in order and applies or refuses them. -/
  | gateArm
  /-- TB_SRC_ARM (R165): An ARM of TB_SRC applies the source-forcing bits and the TCXO selection. -/
  | tbSrcArm
  /-- TB_CKO_ARM (R188): An ARM of TB_CKO checks the output rate and applies the CKO source, divisor and enable. -/
  | tbCkoArm
  /-- CKO_DIV_APPLY (R189): A new CKO divisor or a clear of EN takes effect at the end of the current output period. -/
  | ckoDivApply
  /-- POWER_STATE_CHANGE (R174): The logic die moves between RUN, DOZE and DEEP, and each gate applies its enable for the new state. Operands: whether a block has a handshake pending or in progress. -/
  | powerStateChange (busy : Bool)
  /-- CAPTURE_COMPLETE (R183): A capture port completes a capture request at the timebase side's next edge. Operands: the value the timebase side freezes at its next edge. -/
  | captureComplete (port : Nat) (value : Word)
  /-- CAPTURE_STALE (R199): A capture to a domain with no edge for 2 ms completes with the last frozen value. -/
  | captureStale (port : Nat)
  /-- TB_SPEED_UPDATE (R150): TB_SPEED is updated every 1 ms while the power state is RUN. -/
  | tbSpeedUpdate (speed : Nat)
  /-- LEAP_INSERT (R215): The inserted leap second 23:59:60 ends, COUNT increases by 1 and PENDING clears. -/
  | leapInsert
  /-- LEAP_DELETE (R216): 23:59:59 of the deletion day is skipped, COUNT decreases by 1 and PENDING clears. -/
  | leapDelete
  /-- CALENDAR_ARM (R219): An ARM of KEEP_SET_CTL checks the written date and time and accepts or refuses it. -/
  | calendarArm
  /-- CALENDAR_APPLY (R220): An accepted calendar write sets SEC and SUB at the first keeper-domain edge after ARM. -/
  | calendarApply
  /-- KEEP_DISC_ARM (R208): An ARM of KEEP_DISC applies RATE_EN and MIN_TRUST to the running discipline set. -/
  | keepDiscArm
  /-- KEEP_LOOP_ARM (R223): An ARM of KEEP_LOOP_CTL applies the tamper loop mode and period. -/
  | keepLoopArm
  /-- LOOP_SAMPLE (R223): The tamper loop takes a sample at its period and classifies the loop. Operands: the loop resistance measured, and FLOOP to FGND before the pulse in mV. -/
  | loopSample (ohms : Nat) (idleMv : Int)
  /-- WAKE_ROSE (R225): WAKE stays above its threshold for 100 µs, sets WAKE_ROSE and raises a keeper event. Operands: the WAKE level once the event has been taken. -/
  | wakeRose (level : Bool)
  /-- TWO_BANK_COMMIT (R232): The MRAM controller writes a structure's body, CRC and commit word into the non-current bank. -/
  | twoBankCommit
  /-- JOURNAL_RECORD_WRITE (R233): The MRAM controller consumes a ring-1 entry and writes its record into the next journal slot. -/
  | journalRecordWrite
  /-- JOURNAL_EVENT_RECORD (R310): The MRAM controller, as an observer, journals a ring-0 entry with JOURNAL set as an EVENT record. -/
  | journalEventRecord
  /-- HOUR_COMMIT (R237): A meter has counted 60 s since its last commit, or stops, and an HOUR_COMMIT record is produced. -/
  | hourCommit (meter : Nat)
  /-- METER_MARK (R379): A meter's count first reaches its MARK and METER_MARK is posted. -/
  | meterMark (meter : Nat)
  /-- METER_CEILING (R238): A meter reaches 3 599 999 964 s, stops counting and commits with CEILING. -/
  | meterCeiling (meter : Nat)
  /-- RING_PRODUCE (R314): An on-die producer produces an entry into a ring, which it takes, holds, waits for, discards or refuses according to its class. -/
  | ringProduce (agent : Nat) (ring : Nat) (entry : List Word)
  /-- RING_PRODUCE_RESUME (R299): A producer waiting on a full LOSSLESS ring gets room and its entry is produced. -/
  | ringProduceResume (ring : Nat)
  /-- HOLDING_BUFFER_DRAIN (R298): An entry held in a holding buffer is produced in order once its ring has room or a window copy ends. -/
  | holdingBufferDrain (ring : Nat)
  /-- LOSSY_CONVERSION (R325): A LOSSLESS external-consumer ring misses its service time and is converted to DROP_NEWEST. -/
  | lossyConversion (ring : Nat)
  /-- RING_CONSUME (R322): A host write to RING_CONSUMEn consumes COUNT entries or is refused whole. Operands: the word written to RING_CONSUMEn. -/
  | ringConsume (ring : Nat) (w : Word)
  /-- RING_PRODUCE_PUBLISH (R322): A host write to RING_PRODUCEn publishes COUNT staged entries or is refused whole. Operands: the word written to RING_PRODUCEn. -/
  | ringProducePublish (ring : Nat) (w : Word)
  /-- RING_OBS_ACK (R309): A host write to RING_OBS_ACK advances the host observer index of ring 0. -/
  | ringObsAck (w : Word)
  /-- RING_WINDOW_STAGE (R320): A host write to a ring entry window stages a word at HEAD + e or is discarded. Operands: window word `index` (8e + w). -/
  | ringWindowStage (ring : Nat) (index : Nat) (w : Word)
  /-- RING_WINDOW_READ (R321): A host read of a ring entry window copies the requested words before any further produce or consume acts on that ring. -/
  | ringWindowRead (ring : Nat) (first : Nat) (count : Nat)
  /-- RING_CFG_ARM (R346): An ARM of RING_CFGn checks a ring descriptor in order and applies its class, priority, service time and size. -/
  | ringCfgArm (ring : Nat)
  /-- RING_CFG_APPLY (R340): A PRODUCER or CONSUMER change applies when the ring next is empty. -/
  | ringCfgApply (ring : Nat)
  /-- ARBITER_GRANT (R329): The ring arbiter grants the pending request of highest priority and age. Operands: the requests posted at this instant: ring, and whether to consume. -/
  | arbiterGrant (posted : List (Nat × Bool))
  /-- RING0_CONSUME (R308): The mode controller consumes a ring-0 entry in ESEQ order and decides its outcome. -/
  | ring0Consume
  /-- TEST_HARNESS_FORWARD (R302): The test harness consumes a test-ring entry and returns it to the next test ring. -/
  | testHarnessForward (ring : Nat)
  /-- RULE_SWEEP (R360): The rule engine consumes a ring-2 entry and evaluates every enabled rule once in load order. -/
  | ruleSweep
  /-- RULE_FIRE (R355): A FIRE command entry on ring 2 runs the named rule's actions if its guard allows the mode. -/
  | ruleFire
  /-- RULE_TIMER_EXPIRED (R374): A rule timer expires, stops and posts TIMER_EXPIRED. -/
  | ruleTimerExpired (timer : Nat)
  /-- HOLD_TIMER_EXPIRED (R358): A condition rule's hold timer expires, and the rule fires if its term is still true. -/
  | holdTimerExpired (timer : Nat)
  /-- THEFT_WINDOW_EXPIRED (R386): WINDOW seconds pass in SUSPECT and the state returns to ARMED with score 0. -/
  | theftWindowExpired
  /-- RULE_HOST_EVT (R356): A host write to RULE_HOST_EVT posts a HOST_EVENT of that index. -/
  | ruleHostEvt (index : Nat)
  /-- RULE_EDIT_ARM (R395): An ARM of RULE_EDIT_CTL checks the table with the edited rule and refuses a malformed record or a cycle. -/
  | ruleEditArm
  /-- RULE_EN_ARM (R396): An ARM of RULE_EN_CTL checks the graph of the rules it would enable and refuses a cycle. -/
  | ruleEnArm
  /-- RULE_METER_ARM (R380): An ARM of RULE_METER_CTL checks the value to set a meter to. -/
  | ruleMeterArm
  /-- METER_SET_APPLY (R380): An accepted meter value applies at the next keeper second and is committed at once. -/
  | meterSetApply
  /-- RULE_FENCE_ARM (R385): An ARM of RULE_FENCE_CTL checks a fence record and replaces that fence, set to UNKNOWN. -/
  | ruleFenceArm
  /-- RULE_WATCH_ARM (R397): An ARM of RULE_WATCH_CTL applies the watch sources. -/
  | ruleWatchArm
  /-- RULE_THEFT_CFG_ARM (R397): An ARM of RULE_THEFT_CFG applies THRESHOLD, WINDOW and LAPSE_STATE. -/
  | ruleTheftCfgArm
  /-- RULE_SET_APPLY (R399): An accepted rule edit, enable, watch, fence or theft set applies between two sweeps. -/
  | ruleSetApply
  /-- THEFT_CMD_ARM (R386): RULE_THEFT_CMD with REQ ARM requests ARM of the theft state with rule number 0xFF. -/
  | theftCmdArm
  /-- THEFT_CMD_DISARM (R386): RULE_THEFT_CMD with REQ DISARM requests DISARM of the theft state. -/
  | theftCmdDisarm
  /-- THEFT_CMD_SUSPECT (R386): RULE_THEFT_CMD with REQ SUSPECT requests SUSPECT with WEIGHT. -/
  | theftCmdSuspect (weight : Nat)
  /-- THEFT_CMD_DECLARE (R386): RULE_THEFT_CMD with REQ DECLARE requests DECLARE of the theft state. -/
  | theftCmdDeclare
  /-- THEFT_CLEAR_DISARM (R392): A signed theft clear command with OPCODE 0x01 is checked and, if accepted, clears to DISARMED. Operands: the 144 bytes carried by a yard command, or none for the host buffer. -/
  | theftClearDisarm (frame : Option (List Byte))
  /-- THEFT_CLEAR_ARM (R392): A signed theft clear command with OPCODE 0x02 is checked and, if accepted, clears to ARMED. Operands: as THEFT_CLEAR_DISARM. -/
  | theftClearArm (frame : Option (List Byte))
  /-- THEFT_CLEAR_APPLY (R394): An accepted clear posted as a ring-2 COMMAND entry is applied in that entry's sweep. -/
  | theftClearApply
  /-- SEQ_ROUND_START (R423): A sequencer round falls due at its period and begins at its first slot. -/
  | seqRoundStart (m : Nat)
  /-- SEQ_ARM (R426): An ARM of CNV_SEQ_CTLm checks the control and slots and accepts or refuses the set. -/
  | seqArm (m : Nat)
  /-- CHAIN_SAMPLE (R452): A decimation chain produces an output at a sample boundary, which may end a slot and start the next. Operands: the aligned chain value (the 24 bits in RAW), and whether a stage saturated. -/
  | chainSample (m : Nat) (x : Int) (sat : Bool)
  /-- FAST_PATH_VALUE (R462): The fast path delivers one corrected coarse value of the slot to its fast-path ring. Operands: the coarse value before correction, in codes. -/
  | fastPathValue (m : Nat) (x : Int)
  /-- MOD_OVERLOAD (R410): A modulator input exceeds its overload level for 4 cycles, and the modulator resets and restarts. -/
  | modOverload (m : Nat)
  /-- RUN_LISTEN_WINDOW (R434): A run-signature listen window falls due and runs at the next slot boundary of its modulator. -/
  | runListenWindow
  /-- RUN_WINDOW_END (R435): A listen window ends and the classifier reports FREQ, AMP and VIB. -/
  | runWindowEnd (freq : Nat) (amp : Nat) (vib : Nat)
  /-- RUN_CFG_ARM (R439): An ARM of CNV_RUN_CFG0 checks and applies the classifier settings. -/
  | runCfgArm
  /-- FIN_SAMPLE (R415): A field input comparator samples at its period, with its wetting pulse. -/
  | finSample (input : Nat) (mv : Int)
  /-- FIGN_SAMPLE (R419): FIGN is sampled every 15.625 ms and changes state when two samples agree. -/
  | fignSample (mv : Int)
  /-- FIN_CFG_ARM (R416): An ARM of FLD_FIN_CTL checks and applies the field input settings. -/
  | finCfgArm
  /-- AWL_TEST_END (R518): An awl test ends and the pin is classified from its readings. Operands: the readings of R517 in mV. -/
  | awlTestEnd (m : Nat) (v0 : Int) (v1 : Int) (v2 : Int)
  /-- FLT_CTL_ARM (R456): An ARM of FLT_CTLm checks the shift set and applies it at the next slot. -/
  | fltCtlArm (m : Nat)
  /-- FLT_SWAP (R472): A write to FLT_SWAP requests a coefficient bank swap of the named chains. -/
  | fltSwap (mask : Nat)
  /-- BANK_SWAP (R471): A requested bank swap takes effect at the chain's next sample boundary. -/
  | bankSwap (m : Nat)
  /-- FLT_BANK_DATA (R473): A write to FLT_BANK_DATA stores one inactive-bank word and advances the pointer. -/
  | fltBankData (w : Word)
  /-- BURNISH_REQUEST (R474): A CAL_REQ write with GO requests a burnish, merged with one under way. -/
  | burnishRequest (target : Nat) (mask : Nat)
  /-- BURNISH_STEP_END (R476): A burnish step of 60 STEADY periods ends with its result. Operands: the step's averaged reading in 1/256 code (the difference of the two readings in a gain step, the ratio in 2^-30 in a divider step), the monitor's reading of an excitation step or the offset of a divider step, and the converter-die temperature in 1/16 degree. -/
  | burnishStepEnd (m : Nat) (value : Int) (mon : Int) (temp : Int)
  /-- EXC_CODE_WRITE (R501): A write to EXC_CODEn sets the drive code, or starts a deglitch hold on a major transition. -/
  | excCodeWrite (ch : Nat) (code : Nat)
  /-- DEGLITCH_END (R502): The deglitch hold ends and the output steps to the last code written. -/
  | deglitchEnd (ch : Nat)
  /-- EXC_CUT (R505): An excitation channel has been in current limit for its cut time and is cut. Operands: the land's reading in mV. -/
  | excCut (ch : Nat) (mv : Nat)
  /-- EXC_CFG_ARM (R506): An ARM of EXC_CFGn checks and applies the channel set, loading EXC_PRESETn when LOAD is set. -/
  | excCfgArm (ch : Nat)
  /-- MON_SCAN (R512): The monitor converter scans its enabled inputs at its period. Operands: raw codes and land voltages of inputs 0-15, and the readings excluded under R513 as bits. -/
  | monScan (codes : List Nat) (mvs : List Nat) (excluded : Nat)
  /-- MON_CTL_ARM (R512): An ARM of MON_CTL applies the monitor period and enables. -/
  | monCtlArm
  /-- AWL_CTL_ARM (R518): An ARM of CNV_AWL_CTL applies the awl threshold sets and selections. -/
  | awlCtlArm
  /-- FLD_PIN_ARM (R521): An ARM of FLD_PIN_CFG applies the field-die pin check settings. -/
  | fldPinArm
  /-- FIGN_OPEN_CHECK (R522): Every 60 s while FIGN reads 0, a source pulse tests FIGN for an open wire. -/
  | fignOpenCheck (mv : Int)
  /-- FIGN_SUSPECT (R523): FIGN reads 1 for 10 s while FVIN is below its take threshold. -/
  | fignSuspect
  /-- SNAPSHOT_CAPTURE_START (R551): With the front ends ready and the AGC settled, a snapshot capture starts filling memory. -/
  | snapshotCaptureStart (scount : Word)
  /-- SNAPSHOT_CAPTURE_END (R552): A snapshot capture ends, the RG domain is powered down, and a blanked capture is discarded and taken again. Operands: the bytes captured, the blanked intervals in units of 1024 instants, and the AGC gains in 0.1 dB. -/
  | snapshotCaptureEnd (samples : List Byte) (blanks : List (Nat × Nat)) (agc1 : Nat) (agc5 : Nat)
  /-- LIVE_BLOCK_COMPLETE (R556): A 20 ms live block of a tracking burst is complete and passes work on it. -/
  | liveBlockComplete (samples : List Byte)
  /-- ACQ_PASS_END (R542): An acquisition pass ends and reports its peak, and the engine takes the next pass. -/
  | acqPassEnd (engine : Nat) (pnr : Nat) (code : Word) (doppler : Int) (cn0 : Nat)
  /-- SNAPSHOT_SOLUTION (R553): The solver completes a coarse-time solution or fails the fix with TOO_FEW. -/
  | snapshotSolution (sol : Solution)
  /-- TRACKING_BURST_END (R617): A tracking burst reaches its length, channels are released and the keep is committed. -/
  | trackingBurstEnd
  /-- GACQ_KEEP_COMMIT (R559): A write of 0x434F_4D54 to GACQ_KEEP_CTL commits the ephemeris keep. -/
  | gacqKeepCommit
  /-- GACQ_KEEP_CLEAR (R560): A write of 0x434C_5200 to GACQ_KEEP_CTL marks both keep banks absent. -/
  | gacqKeepClear
  /-- GACQ_RF_ARM (R571): An ARM of GACQ_RF_CFG applies at the end of the fix in progress. -/
  | gacqRfArm
  /-- GACQ_PLAN_ARM (R571): An ARM of GACQ_PLAN applies at the end of the fix in progress. -/
  | gacqPlanArm
  /-- CODE_LOCK_TIMEOUT (R578): A channel has not reached code lock 200 ms after hand-off and is released. -/
  | codeLockTimeout (ch : Nat)
  /-- CHANNEL_LOSS (R579): A channel below LOSS_CN0 for 1 s, or failing code lock for 200 ms, is released to acquisition. -/
  | channelLoss (ch : Nat)
  /-- MEASUREMENT_EPOCH (R585): At the epoch edge every locked channel latches its measurements and the epoch is produced on ring 18 or skipped. Operands: the counters at the epoch edge and what each channel latches. -/
  | measurementEpoch (mlg : Word) (scount : Word) (meas : List Meas)
  /-- NAV_UNIT (R593): A navigation message unit passes its check and is produced on ring 21. -/
  | navUnit (ch : Nat) (txMs : Nat) (nbits : Nat) (bits : List Word) (content : NavContent)
  /-- NAV_SOLUTION (R595): The solver produces a solution for an epoch, sets its trust and writes it to ring 19. -/
  | navSolution (sol : Solution)
  /-- TIME_MESSAGE (R606): A time message for the next pulse is produced on ring 20. Operands: the pulse instant, the ML-G count of the epoch, the ideal instant in ps after it, the error estimate and GPS minus UTC. -/
  | timeMessage (sec : Nat) (ms : Nat) (epochMlg : Word) (idealPs : Nat) (tErr : Nat) (leap : Int)
  /-- TIME_PULSE (R604): TP drives a leading edge on the ML-G edge nearest the ideal instant. -/
  | timePulse
  /-- PULSE_SKIPPED (R608): A pulse due while gate 5 is closed or TP is not in state F gives a SKIPPED message. -/
  | pulseSkipped (sec : Nat) (ms : Nat) (leap : Int)
  /-- TP_STOPPED (R607): Holdover expires, TP is held inactive and a STOPPED message is produced. -/
  | tpStopped
  /-- GTRK_CFG_ARM (R615): An ARM of GTRK_CFG applies at the next epoch. -/
  | gtrkCfgArm
  /-- GTRK_TRUST_ARM (R615): An ARM of GTRK_TRUST_CFG applies to the next solution. -/
  | gtrkTrustArm
  /-- TP_CFG_ARM (R614): An ARM of GTIM_TP_CFG applies the pulse settings from the next announced pulse. -/
  | tpCfgArm
  /-- BURST_REQUEST (R658): 15 ms before LAUNCH the modem requests a radio burst from the mode controller. -/
  | burstRequest (ring : Nat)
  /-- FRAME_LAUNCH (R657): A transmit frame whose entries are present is checked against the budget and launched at LAUNCH + FINE, or refused. Operands: how late the frame starts, in ms. -/
  | frameLaunch (ring : Nat) (lateMs : Nat)
  /-- FRAME_SENT (R656): A frame's ramp-down ends and a SENT status entry is written to ring 38. -/
  | frameSent
  /-- REFLECT_CHECK (R637): After ramp-up and every 16 symbols, the return loss is measured and power folded back. Operands: return loss in 0.1 dB. -/
  | reflectCheck (loss : Nat)
  /-- LISTEN_WINDOW_START (R654): A listen window requested by a LISTEN entry opens and the receiver searches. -/
  | listenWindowStart (ring : Nat)
  /-- WINDOW_END (R662): A listen window ends with no frame and gives WINDOW_END. -/
  | windowEnd
  /-- SYNC_DETECT (R642): The receiver finds a preamble and a sync word with the expected yard code. Operands: consecutive up-sweeps of one shift, and the shifts of the two down-sweeps. -/
  | syncDetect (sweeps : Nat) (shift1 : Nat) (shift2 : Nat) (rssi : Int) (snr : Int)
  /-- HEADER_DECODE (R643): The receiver decodes the header and drops the frame on a CRC-8 failure. Operands: the 24 information bits and the 8 CRC bits received. -/
  | headerDecode (hdr : Nat) (crc : Nat)
  /-- FRAME_RECEIVED (R648): The last payload symbol ends and a frame passing its CRC-32 is delivered to a receive ring. -/
  | frameReceived (payload : List Byte) (crc : Word) (rx : RxMeta)
  /-- TX_QUEUE_EMPTY (R663): The TX symbol queue runs empty, the PA ramps down and the frame is aborted with LANE. -/
  | txQueueEmpty
  /-- TX_ABORT (R664): A write of 1 to WRF_TX_CTL.ABORT aborts the frame with reason HOST. -/
  | txAbort
  /-- WRF_RX_ARM (R667): An ARM of WRF_RX_CFG applies at the first idle symbol boundary. -/
  | wrfRxArm
  /-- WRF_TX_ARM (R667): An ARM of WRF_TX_CFG applies at the first idle symbol boundary. -/
  | wrfTxArm
  /-- WRF_RF_ARM (R667): An ARM of WRF_RF_CFG applies at the first idle symbol boundary. -/
  | wrfRfArm
  /-- WRF_DUTY_ARM (R667): An ARM of WRF_DUTY_CTL applies the budget table. -/
  | wrfDutyArm
  /-- WRF_HOP_ARM (R667): An ARM of WRF_HOP_CFG applies the hop settings and table. -/
  | wrfHopArm
  /-- YARD_ROUND_START (R677): A 64 s yard round begins, and leases and command retransmissions are handled. -/
  | yardRoundStart
  /-- YARD_SLOT_START (R678): A yard slot begins, with its alarm minislot and any slot frame due in it. -/
  | yardSlotStart (slot : Nat)
  /-- BEACON (R683): A member accepts the lead's beacon, takes time from it and reads its ACK and DOWN fields. -/
  | beacon
  /-- BEACON_MISSED (R685): A beacon listen window closes without a frame and the member sends no slot frame that round. -/
  | beaconMissed
  /-- REPORT_REQ (R692): The yard engine takes a REPORT_REQ entry from ring 33 when no report is in flight and builds the report. -/
  | reportReq
  /-- REPORT (R696): The lead accepts a REPORT frame and sets its ACK bit, or recognises a duplicate. Operands: the baseline solved from the epoch block of the frame, when there is one. -/
  | report (baseline : Option Baseline)
  /-- REPLY (R700): The lead accepts a REPLY to a command and produces its result on ring 43. -/
  | reply
  /-- YARD_COMMAND_QUEUED (R700): The yard engine takes a ring-42 command and names it in a beacon, or refuses it as too long. -/
  | yardCommandQueued
  /-- THEFT_CLEAR (R701): A yard COMMAND with OPCODE THEFT_CLEAR carries a theft clear command to be checked. -/
  | theftClear
  /-- UPDATE_DATA (R701): A yard COMMAND with OPCODE UPDATE_DATA produces its ring-6 entries together or refuses them. -/
  | updateData
  /-- YARD_HOST_EVENT (R701): A yard COMMAND with OPCODE HOST_EVENT posts HOST_EVENT of index ARG. -/
  | yardHostEvent
  /-- REQUEST_REPORT (R701): A yard COMMAND with OPCODE REQUEST_REPORT builds a report from template ARG. -/
  | requestReport
  /-- REBUCKLE (R701): A yard COMMAND with OPCODE REBUCKLE drops the number after the reply is acknowledged and restarts buckling. -/
  | rebuckle
  /-- ALARM (R706): An ALARM frame is received: the lead acknowledges it and a listening member may relay it. -/
  | alarm
  /-- ALARM_ACK (R704): An ALARM_ACK is received, ending the origin's retries and the members' relays for that alarm. -/
  | alarmAck
  /-- ALARM_RETRY (R704): An origin's alarm has had no ALARM_ACK for 8 yard slots and is sent again, or fails after TRY 7. -/
  | alarmRetry
  /-- BUCKLE_REQ (R708): The lead receives a BUCKLE_REQ and assigns a number for the offer. -/
  | buckleReq
  /-- BUCKLE_OFFER (R709): A joining unit receives a BUCKLE_OFFER and commits its number and new ERA. -/
  | buckleOffer
  /-- BUCKLE_CONFIRM (R709): The lead accepts a BUCKLE_CONFIRM and sets its ACK bit. -/
  | buckleConfirm
  /-- BUCKLE_RETRY (R709): A joining unit that received no offer waits 1–8 rounds and sends the request again. -/
  | buckleRetry
  /-- BUCKLE_LISTEN_TIMEOUT (R707): A unit's window of up to 130 s for a beacon with buckling open closes. -/
  | buckleListenTimeout
  /-- YARD_KEY_LOAD (R673): A signed yard-key load with OPCODE LOAD writes the code and key and increments ERA. -/
  | yardKeyLoad
  /-- YARD_KEY_ERASE (R673): A signed yard-key load with OPCODE ERASE empties the yard record. -/
  | yardKeyErase
  /-- YARD_CFG_ARM (R721): An ARM of YARD_CFG applies LEASE and MINI_LISTEN at the next round start. -/
  | yardCfgArm
  /-- NOP (R736): A NOP frame makes the stored reply the pending reply, replayed. -/
  | nop (alive : Nat) (fill : Nat)
  /-- READ (R728): A READ frame is checked, classed by its alive value and fetches COUNT words. -/
  | read (alive : Nat) (addr : Nat) (count : Nat) (fill : Nat)
  /-- WRITE (R728): A WRITE frame is checked, classed by its alive value and stores its words in address order. -/
  | write (alive : Nat) (addr : Nat) (words : List Word) (fill : Nat)
  /-- PUSH (R727): A PUSH frame received by the slave port is rejected with BAD_CMD. -/
  | push (alive : Nat) (addr : Nat) (words : List Word) (fill : Nat)
  /-- WRITE_DONE (R740): A WRITE finishes storing or being acknowledged, its reply is stored and DONE is set if it was answered BUSY. -/
  | writeDone
  /-- HOST_CTL_ARM (R753): An ARM of HOST_CTL checks HOST_CTL, HOST_MST_CFG and HOST_MST_RINGS together. -/
  | hostCtlArm
  /-- MASTER_SWITCH (R748): A changed MASTER takes effect once HCS is high and no frame runs, discarding the replies. -/
  | masterSwitch
  /-- MASTER_PUSH (R746): As master, the port sends a PUSH of whole entries of the next ring to serve. -/
  | masterPush
  /-- MASTER_NOP (R747): TURN µs after a PUSH, the master sends a NOP and acts on the modem's reply. Operands: the modem's reply. -/
  | masterNop (status : Nat) (echo : Nat) (crcOk : Bool)
  /-- MEM_XFER_GO (R764): A write of GO to MEM_XFER_GO checks and starts an explicit transfer. -/
  | memXferGo
  /-- XFER_DONE (R766): An explicit transfer ends, its result is shown, and an XFER_DONE entry is written if enabled. Operands: the bits received, as bytes. -/
  | xferDone (data : List Byte)
  /-- KEEP_CHAIN_TIMEOUT (R765): No transfer continues a KEEP chain within 10 ms, so the chip select rises with ABORTED_KEEP. -/
  | keepChainTimeout
  /-- MEM_CTL_ARM (R794): An ARM of MEM_CTL applies chip-select, GP claim and map settings once no affected transfer runs. -/
  | memCtlArm
  /-- MEM_INIT_ARM (R789): An ARM of MEM_INIT_CTL checks the start-up list and runs it once. -/
  | memInitArm
  /-- MAPPED_READ (R776): A mapped read from the start sequence or update engine is served from the prefetch buffer or the NOR, suspending an erase if needed. -/
  | mappedRead (addr : Nat) (len : Nat)
  /-- ERASE_READ_TIMEOUT (R782): Without suspend support, a read waiting 50 ms behind an erase is refused with ERASING. -/
  | eraseReadTimeout
  /-- PAGE_PROGRAM (R779): A page program request sends write enable and program to the NOR. -/
  | pageProgram (addr : Nat) (bytes : List Byte)
  /-- SECTOR_ERASE (R780): A sector erase request sends write enable and the 4 KiB erase opcode. -/
  | sectorErase (addr : Nat)
  /-- STATUS_POLL (R779): A status poll reads the NOR's WIP bit, ending a program with its read-back or an erase when WIP clears. Operands: WIP as read, and whether a finished program's read-back matches. -/
  | statusPoll (wip : Bool) (intact : Bool)
  /-- NVM_SILENT (R788): The NOR misses a program, erase, suspend or VIO limit and is declared silent. -/
  | nvmSilent
  /-- BEGIN (R802): A ring-6 BEGIN entry starts or resumes a download into the inactive slot. -/
  | begin
  /-- DATA (R803): A ring-6 DATA entry places its bytes into the staging buffer of its chunk, or is discarded. -/
  | data
  /-- ACTIVATE (R815): A ring-6 ACTIVATE entry commits BOOT and STATE TRIAL, with a start if NOW is set. -/
  | activate
  /-- ABORT (R809): A ring-6 ABORT entry returns the download to IDLE with a cleared bitmap. -/
  | abort
  /-- REVERT (R839): A ring-6 REVERT entry in TRIAL commits TRIAL_STARTS 3 and begins a reverting start. -/
  | revert
  /-- UPDATE_ENTRY_INVALID (R801): A ring-6 entry of unknown KIND or with broken fields is consumed and discarded with LAST_ERR FORMAT. -/
  | updateEntryInvalid
  /-- CHUNK_WRITE (R805): A staging buffer is complete and its chunk is erased, programmed and read back. Operands: whether the erase, the programs and the read-back succeeded. -/
  | chunkWrite (intact : Bool)
  /-- CHUNK_COMMIT (R805): A chunk is read back correctly and its bitmap bit is committed, with DOWNLOADED after the last one. -/
  | chunkCommit
  /-- VERIFICATION (R812): Verification of the downloaded image ends and commits VERIFIED or returns to DOWNLOADING. -/
  | verification
  /-- TRIAL_CHECK (R818): A trial check passes and its bit is committed, confirming the image once all five are set. Operands: check 0 SETTINGS to 4 REPORT. -/
  | trialCheck (check : Nat)
  /-- CHECK_FAILED (R821): A trial check fails, the failure is committed, and a retry start follows after 1.0 s. -/
  | checkFailed (check : Nat)
  /-- TRIAL_SEC_COMMIT (R820): TRIAL_SEC is committed every 600 s of a trial start. -/
  | trialSecCommit
  /-- SETTINGS_SAVE (R830): A write of 0x5341_5645 to UPD_SETTINGS_CTL saves the settings list into the non-current bank, or holds or refuses it. -/
  | settingsSave
  /-- SETTINGS_CLEAR (R831): A write of 0x434C_5253 to UPD_SETTINGS_CTL invalidates both settings banks outside TRIAL. -/
  | settingsClear
  /-- SET_NEXT (R832): An accepted key-roll command SET_NEXT commits NEXT_KEY_HASH. -/
  | setNext
  /-- CLEAR_NEXT (R832): An accepted key-roll command CLEAR_NEXT commits NEXT_KEY_HASH as zero. -/
  | clearNext
  /-- THERMAL_SAMPLE (R845): The temperature supervisor samples every die and begins or ends WARNING or thermal hold. Operands: readings in 1/16 degree. -/
  | thermalSample (logic : Int) (conv : Int) (radio : Int) (field : Int)
  /-- THERM_TRIP (R846): A TRIP comparator fires or a die reads 140 °C, and writes are ended or parked. -/
  | thermTrip (die : Nat) (reading : Int)
  /-- THERMAL_HOLD_ENTER (R855): Once writes have ended after TRIP, the AJ48 enters thermal hold. -/
  | thermalHoldEnter
  /-- REGISTER_WRITE (R11): A host write to a register without a row of its own stores, clears, shadows, ignores or discards the word by its access code. -/
  | registerWrite (addr : Nat) (w : Word)
  /-- CORE_RAIL_SCALING (R146): The system rail falls below 2.75 V or rises above 2.80 V, and DVD1 moves between 0.74 V and 0.80 V, changing TB_STAT.CORE_LOW. -/
  | coreRailScaling (railMv : Nat)
  /-- RETENTION_LOST (R89): VCAP falls below 1.6 V while it alone feeds the keeper, and keeper retention is lost. -/
  | retentionLost
  /-- FIRST_STROBE (R47): An enabled sample lane delivers its first strobe and SYS_LANE_STAT moves from starting to running. -/
  | firstStrobe (lane : Nat)
  /-- TIMEBASE_PROOF_DEADLINE (R158): During a start, TBK is not proven within 3.0 s or TBM within 50 ms, and the start fails with TIMEBASE_KEEPER or TIMEBASE_MAIN. Operands: the TBM deadline when `tbm`, the TBK deadline otherwise. -/
  | timebaseProofDeadline (tbm : Bool)
  /-- CHARGE_WINDOW (R110): The BATNTC temperature leaves or re-enters the charge window, pausing or resuming charging. -/
  | chargeWindow (inside : Bool)
  /-- CALENDAR_HOUR_CHANGE (R353): Keeper time crosses an hour or day boundary, and the HOUR or WEEKDAY signal changes and puts a SIGNAL entry on ring 2. -/
  | calendarHourChange (day : Bool)
  /-- CODE_LOCK (R578): A tracker channel reaches code lock after hand-off. -/
  | codeLock (ch : Nat)
  /-- CARRIER_LOCK (R578): A tracker channel's phase lock indicator passes, with bit sync for data-only signals, and it becomes carrier locked, restarting CARRIER_PHASE and LOCK. -/
  | carrierLock (ch : Nat) (bitSync : Bool)
  /-- CYCLE_SLIP (R589): A tracker channel detects a cycle slip, and CARRIER_PHASE and LOCK restart from 0. -/
  | cycleSlip (ch : Nat)
  /-- NAV_SYNC_LOST (R591): A channel's navigation units fail their check three times in a row, alignment is lost and the sync search restarts. -/
  | navSyncLost (ch : Nat)
  /-- SYNTH_UNLOCK (R670): A radio synthesizer loses lock and WRF_FAULT.SYNTH_UNLOCK is set. -/
  | synthUnlock
  /-- REJECTED_FRAME (R727): A host frame with a bad length, bad CRC, or a CMD outside 0x00–0x03 is rejected and leaves a rejection as the pending reply. Operands: the bytes received and the bits of an incomplete last byte. -/
  | rejectedFrame (bytes : List Byte) (extraBits : Nat)
  /-- SYSTEM_COMMAND (R355): The system command processor consumes a ring-4 system command and acts on it, for example by posting a FIRE entry on ring 2 or a reply on ring 5. -/
  | systemCommand
  /-- PULSE_END (R602): WIDTH ms after a leading edge, TP returns to its inactive level. -/
  | pulseEnd
  deriving DecidableEq, Repr

end Sys2Proof
end

