-- ==== Sys2Proof/Decode.lean ====
section
/-! DEFINITION. Words of the table: its rows give no bits, so that no word spells a command. -/

namespace Sys2Proof

/-- The command that a table word spells: none, for no row gives bits. -/
def decodeTableWord (_nbits _w : Nat) : Option Instr := none

end Sys2Proof
end

