-- ==== Sys2Proof/Config.lean ====
section
/-! DEFINITION. What the spec leaves open, as constants without a body: nothing can be proved of the values they take. -/

namespace Sys2Proof

/-- The crypto engine's random source: the n-th challenge less one, so that a challenge is never 0 (06 R283). -/
opaque Config.challenge : Nat → Fin 4294967295

/-- Random waits of 1-8 rounds after an unanswered BUCKLE_REQ, less one (15 R709). -/
opaque Config.buckleWait : Nat → Fin 8

/-- SEQ of a joining frame, from the random source (15 R707). -/
opaque Config.joinSeq : Nat → Word

/-- What the system command processor does with a ring-4 entry, whose format the spec does not give (08 R355, 07 R300):
the rule to FIRE, when it posts one, and the reply entry it puts on ring 5, when it makes one. -/
opaque Config.systemCommand : List Word → Option (Fin 256) × Option (List Word)

/-- Elevation in 0.01 degree of a satellite at a place and time, from its kept ephemeris or almanac words, whose orbit model
the spec leaves to the signal documents (12 R545, R548, R550): system, satellite, words, keeper second, latitude, longitude. -/
opaque Config.elevation : Nat → Nat → List (BitVec 64) → Nat → Int → Int → Int

/-- Receiver clock bias predicted by the drift model at the n-th epoch, 0.1 ns (13 R587): the model's equation is not given. -/
opaque Config.clockBias : Nat → Word

/-- Reset taps of HB1-HB9, 72 words of 20 bits, which the spec says the converter die loads at every start and does not list
(10 R470, R458). -/
opaque Config.resetTap : Fin 72 → BitVec 20

/-- The monitor converter's OFFSET and GAIN fitted to pairs of its own reading and the modulator's (11 R508): the fit is not given. -/
opaque Config.monitorFit : List (Int × Int) → Int × Int

/-- CODE of the protection event of a lost VIO, which the spec does not give (02 R92). -/
opaque Config.vioCode : Fin 65536

/-- A byte of a NOR page or sector whose program or erase was cut short or failed its read-back: the n-th such operation, address
(17 R779, R791-R793 name no contents). -/
opaque Config.norByte : Nat → Nat → BitVec 8

/-- ALIVE_ECHO of the rejection of a frame that ended before its ALIVE byte, which the spec does not give (16 R729, R731): by the number of
bytes received. -/
opaque Config.shortEcho : Nat → BitVec 8

end Sys2Proof
end

