-- ==== Sys2Proof/Machine/Bits.lean ====
section
/-! DEFINITION. Bit fields, byte order, sign extension, saturation, and the sparse maps (registers, ring memory, MRAM, NOR) in one canonical form. -/

namespace Sys2Proof.Machine

/-- Field `[hi:lo]` of a word, bit 0 the least significant (R5). -/
def fld (w : Word) (hi lo : Nat) : Nat := (w.toNat / 2 ^ lo) % 2 ^ (hi - lo + 1)

/-- Bit `i` of a word (R5). -/
def bit (w : Word) (i : Nat) : Bool := w.getLsbD i

/-- A word of a natural number, modulo 2^32. -/
def wd (n : Nat) : Word := BitVec.ofNat 32 n

/-- A word in two's complement. -/
def wdI (i : Int) : Word := BitVec.ofInt 32 i

/-- The mask of field `[hi:lo]`. -/
def fmask (hi lo : Nat) : Word := wd ((2 ^ (hi - lo + 1) - 1) * 2 ^ lo)

/-- `w` with field `[hi:lo]` replaced by `v`. -/
def putFld (w : Word) (hi lo v : Nat) : Word :=
  (w &&& ~~~(fmask hi lo)) ||| (wd (v * 2 ^ lo) &&& fmask hi lo)

/-- A Boolean as one bit. -/
def b2n (b : Bool) : Nat := if b then 1 else 0

/-- The two's complement value of an `n`-bit field. -/
def sx (n v : Nat) : Int := if v % 2 ^ n < 2 ^ (n - 1) then (v % 2 ^ n : Nat) else ((v % 2 ^ n : Nat) : Int) - (2 ^ n : Nat)

/-- `v` as an `n`-bit two's complement field. -/
def ux (n : Nat) (v : Int) : Nat := (v % ((2 ^ n : Nat) : Int)).toNat

/-- Saturation of an integer to a range. -/
def clampI (lo hi v : Int) : Int := if v < lo then lo else if hi < v then hi else v

/-- A count that stops at its largest value. -/
def satAdd (top a b : Nat) : Nat := min top (a + b)

/-- Division rounded to nearest, a half away from zero upward, for a positive divisor. -/
def divRound (a : Int) (d : Nat) : Int := (2 * a + (d : Int)) / (2 * (d : Int))

/-- Whether serial number `a` is later than `b` (R231). -/
def serialLater (a b : Word) : Bool :=
  let d := (a - b).toNat
  decide (1 ≤ d) && decide (d ≤ 2 ^ 31 - 1)

/-- Little-endian value of bytes (least significant byte first). -/
def leNat : List Byte → Nat
  | [] => 0
  | b :: bs => b.toNat + 256 * leNat bs

/-- The `n` bytes of a number, least significant first. -/
def leBytes : Nat → Nat → List Byte
  | 0, _ => []
  | n + 1, v => BitVec.ofNat 8 v :: leBytes n (v / 256)

/-- Big-endian value of bytes. -/
def beNat (bs : List Byte) : Nat := bs.foldl (fun a b => 256 * a + b.toNat) 0

/-- The `n` bytes of a number, most significant first. -/
def beBytes (n v : Nat) : List Byte := (leBytes n v).reverse

/-- The bytes of words, each least significant byte first. -/
def wordsToBytes (ws : List Word) : List Byte := ws.flatMap (fun w => leBytes 4 w.toNat)

/-- Words of bytes, each least significant byte first; a short tail is filled with zeros. -/
def bytesToWords (bs : List Byte) : List Word :=
  (List.range ((bs.length + 3) / 4)).map (fun i => wd (leNat ((bs.drop (4 * i)).take 4)))

/-- `n` bytes from offset `off`; bytes beyond the end read 0. -/
def slice (bs : List Byte) (off n : Nat) : List Byte :=
  (List.range n).map (fun i => bs.getD (off + i) 0)

/-- The little-endian field of `n` bytes at offset `off`. -/
def leAt (bs : List Byte) (off n : Nat) : Nat := leNat (slice bs off n)

/-- A list of exactly `n` elements: `l` cut or filled with `d`. -/
def padTo {α : Type} (n : Nat) (d : α) (l : List α) : List α := l.take n ++ List.replicate (n - l.length) d

/-! ### Sparse maps

A map lists its keys strictly rising and lists no value equal to the default, so that equal maps are equal lists. -/

/-- The value at a key; an unlisted key has the default `d`. -/
def mget {α : Type} (d : α) : List (Nat × α) → Nat → α
  | [], _ => d
  | (k, v) :: m, a => if a = k then v else mget d m a

/-- Insertion of a value known to differ from the default. -/
def minsert {α : Type} (a : Nat) (x : α) : List (Nat × α) → List (Nat × α)
  | [] => [(a, x)]
  | (k, v) :: m =>
    if a < k then (a, x) :: (k, v) :: m
    else if a = k then (a, x) :: m
    else (k, v) :: minsert a x m

/-- Removal of a key. -/
def merase {α : Type} (a : Nat) : List (Nat × α) → List (Nat × α)
  | [] => []
  | (k, v) :: m => if a = k then merase a m else (k, v) :: merase a m

/-- Writing a value: the default removes the entry, so that the canonical form is kept. -/
def mset {α : Type} [DecidableEq α] (d : α) (m : List (Nat × α)) (a : Nat) (x : α) : List (Nat × α) :=
  if x = d then merase a m else minsert a x m

/-- Keys strictly rising above `lo` and no value equal to the default. -/
def mwfAbove {α : Type} [DecidableEq α] (d : α) : Nat → List (Nat × α) → Bool
  | _, [] => true
  | lo, (k, v) :: m => decide (lo ≤ k) && decide (v ≠ d) && mwfAbove d (k + 1) m

/-- The canonical form. -/
def mwf {α : Type} [DecidableEq α] (d : α) (m : List (Nat × α)) : Bool := mwfAbove d 0 m

/-- Registers by word address; an unlisted word reads 0. -/
abbrev RegFile := List (Nat × Word)

/-- One 32-byte ring entry: eight words (R304). -/
abbrev Entry := List Word

/-- The all-zero ring entry: what ring memory holds where nothing has been written since the start (R319). -/
def zeroEntry : Entry := List.replicate 8 0

/-- Word `i` of an entry. -/
def ew (e : Entry) (i : Nat) : Word := e.getD i 0

/-- `n` bytes from address `a` of a memory whose cells below `a` have been passed. -/
def memWalk (d : Byte) : List Host.Cell → Nat → Nat → List Byte
  | _, _, 0 => []
  | [], a, n + 1 => d :: memWalk d [] (a + 1) n
  | (k, v) :: m, a, n + 1 => if k = a then v :: memWalk d m (a + 1) n else d :: memWalk d ((k, v) :: m) (a + 1) n

/-- Bytes of a memory from an address, in rising address order. -/
def memRead (d : Byte) (m : List Host.Cell) (a n : Nat) : List Byte :=
  memWalk d (m.dropWhile (fun p => decide (p.1 < a))) a n

/-- The cells of bytes placed from an address: a byte equal to the default is not listed. -/
def cellsOf (d : Byte) (a : Nat) : List Byte → List Host.Cell
  | [] => []
  | b :: bs => if b = d then cellsOf d (a + 1) bs else (a, b) :: cellsOf d (a + 1) bs

/-- Bytes written to a memory from an address, in rising address order. -/
def memWrite (d : Byte) (m : List Host.Cell) (a : Nat) (bs : List Byte) : List Host.Cell :=
  m.filter (fun p => decide (p.1 < a)) ++ cellsOf d a bs ++ m.filter (fun p => decide (a + bs.length ≤ p.1))

/-! ### Checks -/

/-- One byte into a reflected CRC of `bits` rounds. -/
def crcStepR (poly : Nat) : Nat → Nat → Nat
  | 0, c => c
  | n + 1, c => crcStepR poly n (if c % 2 = 1 then (c / 2).xor poly else c / 2)

/-- One byte into an unreflected CRC of width `w`. -/
def crcStepL (w poly : Nat) : Nat → Nat → Nat
  | 0, c => c
  | n + 1, c => crcStepL w poly n (if 2 ^ (w - 1) ≤ c then ((2 * c) % 2 ^ w).xor poly else (2 * c) % 2 ^ w)

/-- CRC-16, polynomial 0x1021, initial value 0xFFFF, not reflected (R726, journal CHECK). -/
def crc16 (bs : List Byte) : Nat :=
  bs.foldl (fun c b => crcStepL 16 0x1021 8 (c.xor (b.toNat * 256))) 0xFFFF

/-- CRC-32, polynomial 0x04C1_1DB7, initial value 0xFFFF_FFFF, reflected, final XOR 0xFFFF_FFFF (R632). -/
def crc32 (bs : List Byte) : Nat :=
  (bs.foldl (fun c b => crcStepR 0xEDB88320 8 (c.xor b.toNat)) 0xFFFFFFFF).xor 0xFFFFFFFF

/-- CRC-8, polynomial 0x07, initial value 0, bit by bit over `n` bits of `v`, bit 0 first (R630). -/
def crc8 : Nat → Nat → Nat → Nat
  | 0, _, c => c
  | n + 1, v, c =>
    let top := (if 128 ≤ c then 1 else 0 : Nat).xor (v % 2)
    crc8 n (v / 2) (if top = 1 then ((2 * c) % 256).xor 7 else (2 * c) % 256)

end Sys2Proof.Machine
end

