-- ==== Sys2Proof/Machine/State.lean ====
section
/-! DEFINITION. The state of the AJ48 as plain data: every register, ring, buffer, counter, mode and queue the spec names,
each sub-structure after the chapter that owns it, the value at reset beside each field; the fault and refusal reasons;
State.reset. -/

namespace Sys2Proof.Machine

/-! ### Girth and lanes (01) -/

/-- A girth lane's state (01 "Lane states", SYS_LANE_STAT). -/
inductive LaneState where
  | parked | waking | live | silent
  deriving DecidableEq, Repr

/-- A sample lane's state (R47, SYS_LANE_STAT). -/
inductive SampleState where
  | off | starting | running | failed
  deriving DecidableEq, Repr

/-- An accepted set waiting for the boundary at which it applies: the address of its ARM field and its words (R60, R882). -/
structure ArmedSet where
  arm : Nat
  words : List (Nat × Word)
  deriving DecidableEq, Repr

/-- A transfer on a girth lane that waits for its acknowledge: message kind and its 16 bits (R25-R27). -/
structure Transfer where
  kind : Nat
  data : BitVec 16
  deriving DecidableEq, Repr

/-- A protection event the field die holds until it can be acknowledged (R40), or until the first mode is reached when its fault bit
was set while the core had no supply (R861): its fault bit, CODE and arguments. -/
structure HeldEvent where
  afterStart : Bool
  bit : Nat
  code : Nat
  arg0 : Nat
  arg1 : Nat
  deriving DecidableEq, Repr

/-- The girth: four lanes (0 converter, 1 radio, 2 field, 3 protection), two sample lanes, and the functions refused
until the next start (R24-R63). -/
structure Girth where
  lanes : List LaneState := List.replicate 4 .parked
  /-- Acknowledged transfers per lane, wrapping (SYS_LANE_XFER0-3). -/
  xfer : List Word := List.replicate 4 0
  /-- The last transfer received whole on each lane (R26). -/
  last : List Transfer := List.replicate 4 { kind := 0, data := 0 }
  gsamp : SampleState := .off
  rsamp : SampleState := .off
  /-- The field die sends protection events on the field lane until the next start (R40). -/
  rerouted : Bool := false
  /-- Protection events held by the field die (R40, R861). -/
  heldProt : List HeldEvent := []
  /-- The field die has switched off the converter and radio supplies and FOUT (R39). -/
  fieldCut : Bool := false
  /-- The converter die has switched its outputs off on its own wait (R529). -/
  converterCut : Bool := false
  /-- Functions refused until the next start (R38). -/
  convRefused : Bool := false
  radioRefused : Bool := false
  fieldRefused : Bool := false
  beaconRefused : Bool := false
  /-- Accepted sets not yet applied at their unit (R60, R427 and the owning chapters). -/
  armed : List ArmedSet := []
  /-- Read-only words of remote dies as latched when the die was last powered down; an unlisted word has its reset value (R55). -/
  latched : RegFile := []
  /-- Dies whose lane was SILENT at start: converter, radio, field (SYS_REV). -/
  revAbsent : List Bool := [false, false, false]
  deriving DecidableEq, Repr

/-! ### Lands (02) -/

/-- VIO, the drive groups and the general-purpose pins (02 R92-R99). -/
structure Lands where
  vioGood : Bool := false
  /-- HOST and MEM drive groups armed and not yet applied (R97). -/
  hostDrive : Option Nat := none
  memDrive : Option Nat := none
  /-- Present level of each GP land (SYS_GP_IN). -/
  gpIn : BitVec 8 := 0
  /-- Pins whose wake watch is re-armed, and the reference level of each (R98). -/
  gpWatch : BitVec 8 := 0
  gpRef : BitVec 8 := 0
  deriving DecidableEq, Repr

/-! ### Power path and modes (03) -/

/-- CHG_STATE (R144). -/
inductive ChgState where
  | off | precharge | constCurrent | constVoltage | done | paused | fault | primary
  deriving DecidableEq, Repr

/-- The power path of the field die (R100-R118). -/
structure Power where
  coreSupplied : Bool := false
  fvinTaken : Bool := false
  fvinPresent : Bool := false
  fvinOv : Bool := false
  cellConnected : Bool := false
  cellReversed : Bool := false
  vcapGood : Bool := false
  onVcapSeen : Bool := false
  ntcOpen : Bool := false
  chg : ChgState := .off
  /-- Charging step to resume when the charge window is entered again. -/
  chgResume : ChgState := .precharge
  /-- Safety timer expired; charging resumes only after FVIN has been released and taken (R112). -/
  chgTimedOut : Bool := false
  /-- Latest VBAT reading in mV. -/
  vbat : Nat := 0
  fout0 : Bool := false
  fout1 : Bool := false
  /-- A FOUT cut by its timer or thermal cut and not yet armed on again (R116). -/
  cut0 : Bool := false
  cut1 : Bool := false
  gbias : Bool := false
  gbiasCut : Bool := false
  deriving DecidableEq, Repr

/-- The source of a mode change (SYS_MODE.REASON). -/
inductive Reason where
  | start | protection | theft | host | rule | supply | burstEnd
  deriving DecidableEq, Repr

/-- The mode controller (R119-R144). -/
structure Modes where
  /-- 0-7; 0xF while a start is in progress. -/
  mode : Nat := 0xF
  prev : Nat := 0xF
  reason : Reason := .start
  thermalHold : Bool := false
  batHold : Bool := false
  reqMode : Nat := 0xF
  reqResult : Nat := 0
  /-- The transition in progress: target and source (R132). -/
  transition : Option (Nat × Reason) := none
  /-- The second of two listed transitions (R902). -/
  thenTo : Option (Nat × Reason) := none
  /-- The mode held before a hold (R133). -/
  before : Option Nat := none
  /-- Host and rule requests queued (R143, R136); a rule request with its rule and action index. -/
  queuedHost : Option Nat := none
  queuedRule : Option (Nat × Nat × Nat) := none
  deriving DecidableEq, Repr

/-! ### Timebases, gates and domain switching (04) -/

/-- A stage of a domain switch (R175). -/
inductive SwitchStage where
  | requested | acknowledged | switched
  deriving DecidableEq, Repr

/-- A domain switch in progress (R175, R177). -/
structure Switch where
  stage : SwitchStage
  target : Nat
  deriving DecidableEq, Repr

/-- A timebase domain: its source, the switch in progress and the queued request (R175, R191).
Converter and SPI sources: 0 TBF, 1 the loop. Keeper: 0 TBS, 1 TBK. CKO: TB_CKO.SRC. -/
structure Domain where
  source : Nat := 0
  switch : Option Switch := none
  queued : Option Nat := none
  deriving DecidableEq, Repr

/-- A capture port: the value frozen at the domain's last edge and the copy the fabric holds (R182, R198, R199). -/
structure CapturePort where
  frozen : Word := 0
  copy : Word := 0
  deriving DecidableEq, Repr

/-- Timebases (R145-R201). -/
structure Timebases where
  tbkProven : Bool := false
  tbkFailed : Bool := false
  tbmProven : Bool := false
  tbmFailed : Bool := false
  mlg : Bool := false
  mlc : Bool := false
  mls : Bool := false
  /-- Loops that lost lock and retry every 10 ms: ML-G, ML-C, ML-S (R196, R197). -/
  retry : List Bool := [false, false, false]
  /-- 0 RUN, 1 DOZE, 2 DEEP. -/
  pstate : Nat := 0
  coreLow : Bool := false
  /-- Domains: 0 converter, 1 SPI, 2 keeper, 3 CKO. -/
  domains : List Domain := List.replicate 4 {}
  /-- Capture ports: one per domain, and 4 for the GNSS domain, 5 for the radio symbol timebase. -/
  ports : List CapturePort := List.replicate 6 {}
  /-- CKO in force: enabled and divisor. -/
  ckoEn : Bool := false
  ckoDiv : Nat := 1
  /-- The start's own request for TBM (R157). -/
  tbmTest : Bool := false
  deriving DecidableEq, Repr

/-! ### Start and STIRRUP (06) -/

/-- The start record (06 "Start record"). -/
structure StartRec where
  count : Word := 0
  unfinished : Nat := 0
  /-- 0 NORMAL, 1 IN_PROGRESS, 2 STIRRUP. -/
  state : Nat := 0
  trigger : Nat := 0
  stirrupCause : Nat := 0
  timeValid : Bool := false
  sec : Nat := 0
  /-- HIST0-HIST7, newest first, as stored. -/
  hist : List (BitVec 64) := List.replicate 8 0
  deriving DecidableEq, Repr

/-- Where a start stands. -/
inductive StartPhase where
  /-- Steps 1-5: dies, lanes and timebases. -/
  | dies
  /-- Stopped by a thermal TRIP (R259). -/
  | tripped
  /-- Ended with a counted cause; waits 1.0 s in KEEPER (R255). -/
  | failed
  /-- The first mode has been reached. -/
  | done
  /-- STIRRUP has been entered. -/
  | stirrup
  deriving DecidableEq, Repr

/-- The start sequence and STIRRUP (06). -/
structure StartCtl where
  record : StartRec := {}
  phase : StartPhase := .dies
  trigger : Nat := 0
  /-- The present start is a stirrup start (R252, R276). -/
  stirrupStart : Bool := false
  /-- SYS_START_STAT.CAUSE. -/
  cause : Nat := 0
  /-- 0 slot A, 1 slot B, 2 none. -/
  slot : Nat := 2
  trial : Bool := false
  keysBlank : Bool := false
  calDefault : Bool := false
  settingsDefault : Bool := false
  /-- The latest start wrote a counted cause (R256). -/
  countedWritten : Bool := false
  /-- A supply cycle recorded for the next start (R278). -/
  supplyCycle : Bool := false
  /-- One-start effects of RESTART_DEFAULTS and RESTART_CAL_DEFAULTS (R287). -/
  useDefaults : Bool := false
  useCalDefaults : Bool := false
  nonce : Word := 0
  beacons : BitVec 16 := 0
  listening : Bool := false
  /-- SYS_RECOVERY_CTL.RESULT. -/
  result : Nat := 0
  /-- The last beacon's 24 payload bytes (R282). -/
  beacon : List Byte := []
  /-- A start requested 1.0 s after a failed trial check (R821). -/
  retryDue : Bool := false
  /-- Draws taken from the random source and the other free values (the model's own counter). -/
  freeCtr : Nat := 0
  /-- SYS_UID1:SYS_UID0, fixed at manufacture. -/
  uid : BitVec 64 := 0
  deriving DecidableEq, Repr

/-! ### Rings (07) -/

/-- What a full ring does with a new entry (R314, R315, R316). -/
inductive RingClass where
  | lossless | dropOldest | dropNewest
  deriving DecidableEq, Repr

/-- What the ring hardware answers a producer (R298, R299, R301, R314-R316). -/
inductive Answer where
  | done | counted | dropped | held | waiting | refusedFull | unpowered
  deriving DecidableEq, Repr

/-- One ring: its running descriptor (RING_CFGn, RING_SVCn, words 0-1), its indices and its status (R346). -/
structure Ring where
  /-- SIZE_LOG2 in force; 0 disables the ring. -/
  sizeLog2 : Nat := 0
  cls : RingClass := .lossless
  prio : Nat := 0
  producer : Nat := 0
  consumer : Nat := 0
  irqEn : Bool := false
  irqFill : Nat := 0
  /-- SVC_TIME in ms; 0: never converted (R327). -/
  svc : Nat := 0
  base : Nat := 0
  /-- Free-running count of entries produced. -/
  head : BitVec 16 := 0
  /-- Free-running count of entries consumed. -/
  tail : BitVec 16 := 0
  peak : Nat := 0
  drop : Word := 0
  lossy : Bool := false
  overrun : Bool := false
  dropped : Bool := false
  stale : Bool := false
  /-- Converted to DROP_NEWEST and not yet returned to its class (R325, R326). -/
  converted : Bool := false
  /-- CFG_PENDING: the producer and consumer that apply when the ring next is empty (R340). -/
  pendAgents : Option (Nat × Nat) := none
  result : Nat := 0
  opstat : Nat := 0
  /-- Holding buffers of the timebase-driven producers, in order, each entry with its agent (R298, R900). -/
  held : List (Nat × Entry) := []
  /-- Entries of producers that wait for room, oldest first, each with its agent (R299). -/
  waiting : List (Nat × Entry) := []
  /-- A window copy of this ring is in progress (R321). -/
  copying : Bool := false
  deriving DecidableEq, Repr

/-- A request posted at the ring arbiter (R328-R331). -/
structure ArbReq where
  ring : Nat
  consume : Bool
  /-- Grants that passed the request over. -/
  passed : Nat := 0
  /-- Raised to priority 0 (R330). -/
  raised : Bool := false
  deriving DecidableEq, Repr

/-- An observer of ring 0: its read index, entries skipped, and whether an OBSERVER_OVERRUN episode is open (R309). -/
structure Observer where
  index : BitVec 16 := 0
  skipped : Nat := 0
  episode : Bool := false
  deriving DecidableEq, Repr

/-- The 64 rings, ring memory, the ring-0 observers and the arbiter (07). -/
structure RingSys where
  rings : List Ring :=
    { sizeLog2 := 6, consumer := 0x01 } :: { sizeLog2 := 7, consumer := 0x02, base := 64 } :: List.replicate 62 {}
  /-- Ring memory: 8192 entries by entry number; an unlisted entry is zero (R319). -/
  mem : List (Nat × Entry) := []
  /-- ESEQ of the next ring-0 entry (R305). -/
  eseq : Word := 0
  obsHost : Observer := {}
  obsMram : Observer := {}
  obsRule : Observer := {}
  arb : List ArbReq := []
  /-- The request granted last. -/
  granted : Option (Nat × Bool) := none
  promotions : Word := 0
  /-- The answer given to the last producer (R299). -/
  answer : Answer := .done
  /-- An EVENT record has been written since the last ring-1 record (R311). -/
  eventWritten : Bool := false
  /-- Words of the last window copy made for a host read (R321). -/
  copied : List Word := []
  deriving DecidableEq, Repr

/-! ### Yard (15) -/

/-- A radio setting of the yard section (R674). -/
structure RadioSetting where
  freq : Nat := 0
  k : Nat := 0
  bw : Nat := 0
  cr : Nat := 0
  preLen : Nat := 0
  port : Nat := 0
  power : Int := 0
  deriving DecidableEq, Repr

/-- A report template (R674). -/
structure Template where
  ackReq : Bool := false
  alarm : Bool := false
  epochs : Bool := false
  content : Nat := 0
  meters : Nat := 0
  watch : Nat := 0
  deriving DecidableEq, Repr

/-- The yard section of the image (R674). -/
structure YardSection where
  present : Bool := false
  lead : Bool := false
  moveDm : Nat := 0
  pursuitTpl : Nat := 0
  slot : RadioSetting := {}
  beacon : RadioSetting := {}
  alarm : RadioSetting := {}
  templates : List Template := []
  deriving DecidableEq, Repr

/-- What a receiver keeps for each SRC (R690). -/
structure Replay where
  src : Nat
  era : Nat
  /-- Highest SEQ accepted and the SEQs accepted of the last 64. -/
  high : Nat
  seen : List Nat
  /-- The last 16 executed command SEQs with their stored replies. -/
  replies : List (Nat × List Byte) := []
  deriving DecidableEq, Repr

/-- A yard frame that waits for its slot or its acknowledgement: PTYPE, DST, SEQ, ENC body, TRY. -/
structure YardFrame where
  ptype : Nat
  dst : Nat
  seq : Nat
  bcast : Bool := false
  join : Bool := false
  body : List Byte
  tries : Nat := 0
  ackReq : Bool := false
  /-- Sent in the present or previous round and not yet acknowledged. -/
  sent : Bool := false
  /-- TAG of the host command, for ring 43. -/
  tag : Nat := 0
  /-- Yard slot named in the beacon (R700). -/
  slot : Nat := 0
  /-- Rounds since it was sent, for R700. -/
  age : Nat := 0
  /-- Keeper time, in 1/32768 s, before which a reply does not go out (R701). -/
  notBefore : Nat := 0
  deriving DecidableEq, Repr

/-- A row of the lead's table (R708, R710). -/
structure YardMember where
  number : Nat
  uid : Option (BitVec 64)
  /-- Rounds since last heard. -/
  quiet : Nat
  /-- Latest baseline in dm, and consecutive moved solutions (R711, R712). -/
  baseline : Option (Int × Int × Int) := none
  moved : Nat := 0
  deriving DecidableEq, Repr

/-- An alarm in flight: ORIGIN, ALARM_ID, HOPS, RULE, THEFT, TRY, yard slots since it was sent (R703-R706). -/
structure Alarm where
  origin : Nat
  id : Nat
  hops : Nat
  rule : Nat
  theft : Nat
  tries : Nat := 0
  waited : Nat := 0
  seq : Nat := 0
  /-- It goes out in the next minislot of this unit. -/
  due : Bool := true
  deriving DecidableEq, Repr

/-- Buckling (R707-R709). -/
inductive Buckle where
  | idle | listening | requested | offered | waiting (rounds : Nat)
  deriving DecidableEq, Repr

/-- The yard engine (R671-R721). -/
structure Yard where
  sec : YardSection := {}
  /-- Running YARD_CFG: LEASE and MINI_LISTEN (R721). -/
  lease : Nat := 0
  miniListen : Nat := 0
  /-- Counters per DST (256 is broadcast), held in the keeper domain (R688). -/
  counters : List (Nat × Nat) := []
  replay : List Replay := []
  seenAlarms : List (Nat × Nat) := []
  ackedAlarms : List (Nat × Nat) := []
  nextAlarm : BitVec 8 := 0
  alarm : Option Alarm := none
  relay : Option Alarm := none
  /-- ALARM_ACK owed by the lead: ORIGIN and ALARM_ID (R705). -/
  ackOwed : Option (Nat × Nat) := none
  /-- The report in flight (R692). -/
  report : Option YardFrame := none
  replies : List YardFrame := []
  confirm : Option YardFrame := none
  /-- Lead: commands in progress, at most four (R681, R700). -/
  commands : List YardFrame := []
  offer : Option YardFrame := none
  /-- PTYPE of the frame with ACK_REQ sent in the own slot of the previous round (R696); 0 for none. -/
  lastSent : Nat := 0
  /-- Yard slot in which a command to this unit follows (R681). -/
  downSlot : Nat := 0
  /-- Lead: ACK bits collected in the present round (R696). -/
  acks : BitVec 256 := 0
  buckle : Buckle := .idle
  /-- Member since its confirm was acknowledged (R709). -/
  member : Bool := false
  openSlot : Nat := 0
  /-- REBUCKLE waits for the acknowledgement of its reply (R701). -/
  rebuckle : Bool := false
  beaconHeard : Bool := false
  beaconNeeded : Bool := false
  slot : Nat := 0
  round : Nat := 0
  /-- Rounds since a frame of this unit was acknowledged (R695). -/
  sinceAck : Nat := 0
  members : List YardMember := []
  /-- Rounds after a keeper lapse in which no number is assigned (R710). -/
  holdOff : Nat := 0
  replayCount : BitVec 16 := 0
  micFail : BitVec 16 := 0
  dup : BitVec 16 := 0
  retry : BitVec 16 := 0
  nonce : Word := 0
  /-- ERA 0xFFFF has been reached: no frame is sent until the next yard-key load (R689). -/
  exhausted : Bool := false
  deriving DecidableEq, Repr

/-- The yard record of the key store (R673). -/
structure YardRecord where
  present : Bool := false
  code : Nat := 0
  key : List Byte := []
  number : Option Nat := none
  era : Nat := 0
  deriving DecidableEq, Repr

/-- The protected key store (R229, R268, R269, R673). -/
structure KeyStore where
  locked : Bool := false
  imageKeyHash : List Byte := []
  recoveryKeyHash : List Byte := []
  region : Nat := 0
  yard : YardRecord := {}
  deriving DecidableEq, Repr

/-! ### Keeper domain (05) -/

/-- A class of the tamper loop (R221-R224). -/
inductive LoopClass where
  | normal | opened | shorted | foreign
  deriving DecidableEq, Repr

/-- A rule timer, in steps of 1/64 s (R374, R375). -/
structure RuleTimer where
  running : Bool := false
  remain : Nat := 0
  deriving DecidableEq, Repr

/-- An hour meter (R237, R238, R376-R380). -/
structure Meter where
  count : Nat := 0
  running : Bool := false
  /-- Count at the latest start of the meter: the floor of a debit (R377). -/
  floor : Nat := 0
  /-- Count at the last HOUR_COMMIT. -/
  committed : Nat := 0
  /-- METER_MARK has fired for the MARK in force (R379). -/
  marked : Bool := false
  /-- An accepted value that applies at the next keeper second (R380). -/
  pendingSet : Option Nat := none
  /-- An HOUR_COMMIT is due: a stop or an accepted set not yet committed (R237, R380). -/
  commitDue : Bool := false
  deriving DecidableEq, Repr

/-- The theft states (R386). -/
inductive TheftState where
  | disarmed | armed | suspect | declared
  deriving DecidableEq, Repr

/-- A pending bit of the keeper domain: the ring-2 word 0 code and argument of its entry (R362). -/
structure KeeperPending where
  /-- Source key; one pending bit per source. -/
  source : Nat
  origin : Nat
  code : Nat
  arg : Word
  deriving DecidableEq, Repr

/-- The keeper domain: keeper time, discipline, leap seconds, tamper loop, wake comparator, timers, meters and theft state (05, 08). -/
structure Keeper where
  /-- SEC (R202, R204). -/
  sec : BitVec 33 := 0
  /-- SUB (R202). -/
  sub : BitVec 15 := 0
  valid : Bool := false
  /-- TSRC: 0 none, 1 HOST, 2 YARD, 3 GNSS. -/
  tsrc : Nat := 0
  /-- Position in the 125-cycle pattern of TBS counting (R202). -/
  tbsPhase : Nat := 0
  /-- Ticks of the timer and meter divider, modulo 32768 (R375, R376). -/
  divider : Nat := 0
  /-- SUB increments still to be added (positive) or withheld (negative) by the slew (R207). -/
  slew : Int := 0
  /-- Increments since the last slewed one, modulo 2000 (R207). -/
  slewPhase : Nat := 0
  /-- Rate correction in units of 10 ppb (R208). -/
  rate : Int := 0
  /-- Accumulated rate correction, in 10^-8 increments (R208). -/
  rateAcc : Int := 0
  /-- First qualifying GNSS time of the estimate: its time and the keeper count then, in SUB units (R208). -/
  qual : Option (Nat × Nat) := none
  /-- Free-running count of keeper timebase ticks, for the rate estimate (R208). -/
  ticks : Nat := 0
  /-- SEC when keeper time was last set, for the time uncertainty (R546). -/
  setSec : Nat := 0
  /-- Temperature at the last rate estimate, 1/16 degree, and whether it has stayed within 5 degrees of it (R546). -/
  rateTemp : Int := 0
  rateTempOk : Bool := false
  leapCount : BitVec 8 := 0
  leapPending : Bool := false
  leapDelete : Bool := false
  leapDay : BitVec 17 := 0
  /-- The accepted calendar write waiting for the next keeper edge (R220): its seconds. -/
  calPending : Option Nat := none
  /-- Running set of KEEP_DISC (R899). -/
  rateEn : Bool := false
  minTrust : Nat := 0
  /-- Running set of KEEP_LOOP_CTL: MODE 0 off, 1 DIRECT, 2 EOL; PERIOD (R899). -/
  loopMode : Nat := 0
  loopPeriod : Nat := 0
  /-- Loop state; none is OFF (R223). -/
  loop : Option LoopClass := none
  /-- Class of the latest sample, and whether one was taken since the loop was turned on (R223). -/
  loopLast : Option LoopClass := none
  loopChanges : BitVec 16 := 0
  wake : Bool := false
  /-- Keeper retention was lost before this start (KEEP_STAT.LAPSE). -/
  lapse : Bool := false
  /-- Keeper retention has been lost since the last start (R140). -/
  lost : Bool := false
  /-- The keeper domain has been powered since the block's first supply: before it no time is kept, and its first start is no lapse
  (R203, R204). -/
  powered : Bool := false
  timers : List RuleTimer := List.replicate 64 {}
  meters : List Meter := List.replicate 16 {}
  theft : TheftState := .disarmed
  score : Nat := 0
  /-- Seconds left of the SUSPECT window (R386). -/
  window : Nat := 0
  /-- RULE_THEFT_NONCE (R388). -/
  theftNonce : Word := 0
  /-- JSEQ at the last THEFT record (R390). -/
  theftJseq : Word := 0
  /-- After a lapse that left no THEFT record: the state is LAPSE_STATE of the rule table loaded next (R391). -/
  theftOpen : Bool := false
  pending : List KeeperPending := []
  /-- HOUR_COMMIT records deferred during WARNING, as meter and payload word 1 (R241). -/
  deferredHours : List (Nat × Nat) := []
  deriving DecidableEq, Repr

/-- The MRAM, its controller and the journal (05). -/
structure Mram where
  /-- 256 KiB by byte offset; an unlisted byte reads 0 (R228). -/
  bytes : List Host.Cell := []
  /-- JSEQ of the newest valid record, when there is one (R235). -/
  newest : Option Word := none
  ueCount : Nat := 0
  ceCount : Nat := 0
  /-- A commit begun and not finished: structure code, format and body (R232). -/
  commits : List (Nat × Nat × List Byte) := []
  keys : KeyStore := {}
  deriving DecidableEq, Repr

/-! ### Rule engine (08) -/

/-- A term of a rule (R348, R349). -/
structure Term where
  signal : Nat := 0
  op : Nat := 0
  value : Nat := 0
  deriving DecidableEq, Repr

/-- An action of a rule (R348, R366). -/
structure RuleAct where
  code : Nat := 0
  target : Nat := 0
  value : Nat := 0
  deriving DecidableEq, Repr

/-- A rule record (R348). -/
structure Rule where
  en : Bool := false
  condition : Bool := false
  combineOr : Bool := false
  journals : Bool := false
  guard : Nat := 0
  event : Nat := 0
  hold : Nat := 0
  holdTimer : Nat := 0xFF
  terms : List Term := []
  acts : List RuleAct := []
  deriving DecidableEq, Repr

/-- A geofence record (R381). -/
structure Fence where
  shape : Nat := 0
  n : Nat := 0
  minTrust : Nat := 0
  announceFirst : Bool := false
  margin : Nat := 0
  radius : Nat := 0
  /-- Latitude and longitude of each vertex, in units of 10^-7 degree. -/
  vertices : List (Int × Int) := []
  deriving DecidableEq, Repr

/-- A fence's state (R384, R385). -/
inductive FenceState where
  | unknown | inside | outside
  deriving DecidableEq, Repr

/-- An accepted set that applies between two sweeps (R395-R399). -/
inductive RuleSet where
  | edit (rule : Nat) (r : Rule)
  | enables (en : List Bool)
  | watch (sources : List Word)
  | fence (n : Nat) (f : Fence)
  | theft (threshold window : Nat) (lapseArmed : Bool)
  deriving DecidableEq, Repr

/-- The rule engine (08 R347-R405). -/
structure RuleEngine where
  rules : List Rule := List.replicate 256 {}
  /-- Load order of the enabled rules (R365). -/
  order : List Nat := []
  /-- FIRED flag of each condition rule (R358). -/
  fired : List Bool := List.replicate 256 false
  flags : BitVec 8 := 0
  marks : List Nat := List.replicate 16 0
  /-- Running WATCH sources and values (R354). -/
  watchSrc : List Word := List.replicate 8 0
  watchVal : List Int := List.replicate 8 0
  fences : List Fence := List.replicate 16 {}
  fenceState : List FenceState := List.replicate 16 .unknown
  threshold : Nat := 0
  windowCfg : Nat := 0
  lapseArmed : Bool := false
  pendingSets : List RuleSet := []
  merged : Nat := 0
  checkResult : Nat := 0
  checkRule : Nat := 0
  /-- The loaded table passed the cycle check (RING_GUARD.RULES_CHECKED, R336). -/
  checked : Bool := false
  /-- Values of the signals that come from measurements: FIGN, FIN0-7, RUN, CELL, TRUST, SPEED, TEMP, VBAT, by signal number (R351, R352). -/
  signals : List (Nat × Nat) := []
  /-- Keeper second in which each rate-limited signal last put an entry on ring 2 (R353). -/
  sigSecond : List (Nat × Nat) := []
  /-- An accepted theft clear waiting for its ring-2 entry: the state it clears to (R394). -/
  clearTo : List TheftState := []
  deriving DecidableEq, Repr

/-! ### Measurement front end (09) and decimation (10) -/

/-- A sequencer and its modulator and chain (R406-R472). -/
structure Sequencer where
  /-- Running OPEN, FIRST and PERIOD (1/64 s); the slots are in the running words 0x1100 + 64m. -/
  opened : Bool := false
  first : Nat := 0
  period : Nat := 0
  /-- A round runs. -/
  round : Bool := false
  slot : Nat := 0
  /-- The slot waits under R442. -/
  waiting : Bool := false
  gap : Bool := false
  /-- Suspended while no converter die is powered (R430). -/
  suspended : Bool := false
  /-- SEQ_OPEN or SEQ_CLOSE waits for the sample boundary: the new FIRST, or none for a close (R428). -/
  pendingOpen : Option (Option Nat) := none
  late : Nat := 0
  skipped : Nat := 0
  /-- ROUND count since the sequence opened (R466). -/
  rounds : BitVec 16 := 0
  /-- Late starts waiting for the end of the round (R424). -/
  due : Nat := 0
  /-- Settled samples taken in the slot, and samples since the latest settling restart (R460, R461). -/
  taken : Nat := 0
  sinceRestart : Nat := 0
  /-- Index within the slot of the next sample. -/
  index : Nat := 0
  /-- Samples of the entry being filled: VALUE and TAGS words (R466, R468). -/
  samples : List Word := []
  /-- INDEX of the first sample of that entry. -/
  firstIndex : Nat := 0
  eseq : BitVec 8 := 0
  fastEseq : BitVec 8 := 0
  /-- Samples left whose span includes a domain switch (R180), an overload restart or an awl pulse (R467). -/
  tbGap : Nat := 0
  ovlSpan : Nat := 0
  awlSpan : Nat := 0
  /-- A listen window runs on the modulator or waits for its slot boundary (R434). -/
  listenDue : Bool := false
  listening : Bool := false
  /-- An awl test is in progress on the slot (R446). -/
  awl : Bool := false
  /-- Slots of the present round already started, for the steal (R478). -/
  slotIndex : Nat := 0
  /-- Rounds since the burnish request, for STEAL_N (R477). -/
  stealRounds : Nat := 0
  steals : Nat := 0
  /-- The slot is replaced by a burnish step (R478). -/
  stolen : Bool := false
  deriving DecidableEq, Repr

/-- The run-signature classifier (R433-R439). -/
structure RunSig where
  freq : Nat := 0
  amp : Nat := 0
  vib : Nat := 0
  conf : Nat := 0
  /-- Latest windows, newest first: FREQ, AMP, VIB (at most 8, so that level 2 of the latest 6 can be judged). -/
  history : List (Nat × Nat × Nat) := []
  /-- Consecutive windows that failed the present level (R437). -/
  fails : Nat := 0
  deriving DecidableEq, Repr

/-- Field inputs and FIGN (R414-R419). -/
structure FieldInputs where
  state : BitVec 8 := 0
  /-- Result of the last comparator sample of each input that called for a change (R415). -/
  lastDiffers : BitVec 8 := 0
  fign : Bool := false
  fignDiffers : Bool := false
  deriving DecidableEq, Repr

/-- A decimation chain's two coefficient banks (R470-R473). -/
structure Chain where
  bankA : List Word := List.replicate 136 0
  bankB : List Word := List.replicate 136 0
  /-- Bank B is active. -/
  activeB : Bool := false
  swapPending : Bool := false
  /-- The inactive bank is held by a burnish (R494). -/
  held : Bool := false
  deriving DecidableEq, Repr

/-- A step of a burnish (R475, R507). -/
inductive BurnishStep where
  | offset (m gain : Nat)
  | gain (m g : Nat)
  | divider (m input div : Nat)
  | excitation (m channel range point : Nat)
  deriving DecidableEq, Repr

/-- A burnish (R474-R496). -/
structure Burnish where
  /-- Burnish-active bit, held in the keeper domain (R484). -/
  active : Bool := false
  /-- A burnish is under way. -/
  under : Bool := false
  target : Nat := 0
  mask : Nat := 0
  left : List BurnishStep := []
  /-- Results so far: step, result word pair (OFFSET and GAIN as signed fields). -/
  done : List (BurnishStep × Int × Int) := []
  begun : Bool := false
  firstTemp : Int := 0
  lastTemp : Int := 0
  committing : Bool := false
  lastEnd : Nat := 0
  reqResult : Nat := 0
  /-- An INTERRUPTED event owed after STARTED (R489). -/
  owed : Bool := false
  /-- Words 0-79 of the corrections in use: 640 bytes of the calibration bank or the defaults (R271, R486). -/
  calUse : List Byte := []
  /-- The corrections in use are the defaults. -/
  defaults : Bool := false
  deriving DecidableEq, Repr

/-! ### Excitation and monitor converter (11) -/

/-- An excitation channel (R499-R506). -/
structure ExcChannel where
  /-- Drive code in force on the output. -/
  drive : Nat := 0
  driven : Bool := false
  /-- Deglitch hold in progress (R502). -/
  hold : Bool := false
  cut : Bool := false
  clamped : Bool := false
  deriving DecidableEq, Repr

/-- The monitor converter's memory between scans (R512-R514) and the awl results are in the register file. -/
structure Monitor where
  /-- Inputs whose window check failed in the latest scan. -/
  failed : BitVec 16 := 0
  /-- Corrections of excitation (8 words) and monitor (1 word): OFFSET and GAIN (R508). -/
  excCorr : List (Int × Int) := List.replicate 8 (0, 1073741824)
  monCorr : Int × Int := (0, 1073741824)
  deriving DecidableEq, Repr

/-! ### GNSS acquisition (12) -/

/-- A search task (R544, R548, R549). -/
structure Task where
  system : Nat
  band : Nat
  sv : Nat
  /-- 0 HOT, 1 AIDED, 2 WARM, 3 COLD. -/
  cls : Nat
  phase : Nat
  passesLeft : Nat
  passesRun : Nat := 0
  detected : Bool := false
  deriving DecidableEq, Repr

/-- Where a fix stands (GACQ_STAT.STATE). -/
inductive FixState where
  | idle | waiting | capturing | correlating | solving | burst | paused
  deriving DecidableEq, Repr

/-- An ephemeris slot or almanac entry of the keep: system, satellite, reference time in keeper seconds, words (R558). -/
structure KeptSat where
  system : Nat
  sv : Nat
  refSec : Nat
  words : List (BitVec 64)
  deriving DecidableEq, Repr

/-- The ephemeris and almanac keep: the working copy (R558-R560). -/
structure Keep where
  present : Bool := false
  bankB : Bool := false
  changed : Bool := false
  deferred : Bool := false
  commitSec : Nat := 0
  lat : Int := 0
  lon : Int := 0
  height : Int := 0
  hErr : Nat := 0
  solSec : Nat := 0
  /-- A last solution is kept. -/
  solved : Bool := false
  drift : Int := 0
  driftUnc : Nat := 0
  driftTemp : Int := 0
  driftSec : Nat := 0
  driftKept : Bool := false
  /-- Galileo, BeiDou, QZSS, GLONASS minus GPS time, 0.1 ns (GTIM_SYSOFF); none is 0x8000_0000. -/
  offsets : List (Option Int) := List.replicate 4 none
  /-- UTC and ionosphere parameters, words 32-47. -/
  utc : List (BitVec 64) := List.replicate 16 0
  eph : List KeptSat := []
  alm : List KeptSat := []
  deriving DecidableEq, Repr

/-- GNSS acquisition (R534-R573). -/
structure Acq where
  state : FixState := .idle
  cls : Nat := 0
  phase : Nat := 0
  /-- START_FIX asked for a tracking burst. -/
  wantBurst : Bool := false
  burstLen : Nat := 0
  /-- The failed snapshot continues as a burst in the same fix (R554). -/
  fellBack : Bool := false
  /-- A capture was discarded once for blanking (R552). -/
  retaken : Bool := false
  found : Nat := 0
  reason : Nat := 0
  fixSnap : BitVec 16 := 0
  snapId : BitVec 16 := 0
  snapLen : Nat := 0
  snapBands : Nat := 0
  /-- Snapshot memory: 1 MiB by byte address; an unlisted byte reads 0. -/
  memory : List Host.Cell := []
  tasks : List Task := []
  /-- Task number each engine runs. -/
  engines : List (Option Nat) := List.replicate 32 none
  /-- Live block that passes work on (R556). -/
  liveBlock : Nat := 0
  blanked : List (Nat × Nat) := []
  /-- GNSS sample counter (R564). -/
  scount : Word := 0
  keep : Keep := {}
  /-- Keeper time at the first instant of the capture, as ring-0 words 2-3 (R563). -/
  capLo : Word := 0
  capHi : Word := 0
  /-- The burst has produced a solution. -/
  burstSolved : Bool := false
  /-- Growth of the position uncertainty since the last solution, in km/h times s, and the seconds it covers (R547). -/
  grown : Nat := 0
  grownSec : Nat := 0
  deriving DecidableEq, Repr

/-! ### GNSS tracking and time (13) -/

/-- A tracker channel (R576-R594). -/
structure Channel where
  busy : Bool := false
  system : Nat := 0
  band : Nat := 0
  sv : Nat := 0
  /-- 0.01 dB-Hz. -/
  cn0 : Nat := 0
  code : Bool := false
  carrier : Bool := false
  navSync : Bool := false
  slip : Bool := false
  slips : BitVec 16 := 0
  half : Bool := false
  blanked : Bool := false
  /-- Accumulated carrier phase, 1/256 cycle, and time since carrier lock, 0.1 s. -/
  phase : Word := 0
  lock : Nat := 0
  txValid : Bool := false
  txMs : Nat := 0
  deriving DecidableEq, Repr

/-- Time pulse state (GTIM_STAT.STATE). -/
inductive PulseState where
  | off | waiting | running | holdover
  deriving DecidableEq, Repr

/-- GNSS tracking, solver and time pulse (R574-R620). -/
structure Track where
  channels : List Channel := List.replicate 72 {}
  epochId : BitVec 16 := 0
  discont : Bool := true
  skip : Word := 0
  /-- GPS-aligned epochs: a solution of trust 2 or higher exists (R584). -/
  aligned : Bool := false
  /-- Words of the latest ring-19 entry (GTRK_SOL0-3, GTRK_SOL_STAT). -/
  solution : Entry := List.replicate 8 0
  trust : Nat := 0
  flags : Nat := 0
  signals : Nat := 0
  /-- A solution has been produced since the start (R352). -/
  solved : Bool := false
  tp : PulseState := .off
  /-- TP drives its active level. -/
  tpActive : Bool := false
  pulseNo : BitVec 16 := 0
  /-- The announced pulse: its message (R606, R613). -/
  announced : Option Entry := none
  qerr : Int := 0
  /-- Pulse settings that govern the announced and later pulses (R614): the words of GTIM_TP_CFG, PERIOD and HOLD. -/
  tpCfg : List Word := [0, 0, 0]
  deriving DecidableEq, Repr

/-! ### Chirp radio (14) -/

/-- The modem's state (WRF_STAT.STATE). -/
inductive RadioState where
  | off | idle | searching | receiving | transmitting
  deriving DecidableEq, Repr

/-- One on-air interval counted against the budget and the hop entry (R650, R651): keeper second, microseconds on air,
budget entry, hop entry. -/
structure AirTime where
  sec : Nat
  us : Nat
  entry : Nat
  hop : Option Nat
  deriving DecidableEq, Repr

/-- A frame or listen window of the modem: its ring and its header and payload entries (R654). -/
structure RadioFrame where
  ring : Nat
  header : Entry
  payload : List Byte := []
  foldback : Nat := 0
  freq : Nat := 0
  airUs : Nat := 0
  entry : Nat := 0
  hop : Option Nat := none
  /-- Keeper time of the end of the sync word, and TBM cycles after its sub-second edge. -/
  syncSec : Nat := 0
  syncSub : Nat := 0
  syncFine : Nat := 0
  deriving DecidableEq, Repr

/-- The radio modem and transceiver (R621-R670). -/
structure Radio where
  state : RadioState := .off
  /-- A burst has been requested from the mode controller (R658). -/
  burstWanted : Bool := false
  /-- Frame on air. -/
  tx : Option RadioFrame := none
  /-- Listen window open: its LISTEN entry; suspended while transmitting (R660). -/
  window : Option RadioFrame := none
  /-- The window has accepted a frame (R662). -/
  gotFrame : Bool := false
  /-- Yard code of the sync word accepted, with RSSI and SNR latched (R642, R645). -/
  sync : Option (Nat × Nat × Nat) := none
  /-- Header information bits decoded and accepted (R643). -/
  rxHeader : Option Nat := none
  air : List AirTime := []
  crcFail : BitVec 16 := 0
  rxOk : BitVec 16 := 0
  syncOther : BitVec 16 := 0
  hdrFail : BitVec 16 := 0
  aborted : BitVec 16 := 0
  sent : BitVec 16 := 0
  foldback : Nat := 0
  power : Int := 0
  /-- PA on: GNSS samples are blanked (R540, R669). -/
  paOn : Bool := false
  deriving DecidableEq, Repr

/-! ### Host port (16) -/

/-- A word of a READ's reply: the word, whether it came after the start of its byte window, and the flags [7:4] it raised (R54, R729). -/
structure ReplyWord where
  word : Word
  late : Bool := false
  flags : Nat := 0
  deriving DecidableEq, Repr

/-- A reply (R729): STATUS for a reply without data, ALIVE_ECHO, ALIVE_GAP, the flags [7:4] raised by a WRITE, and the words of a READ as they
arrive, with the number asked for. -/
structure Reply where
  status : Nat := 0
  alive : Nat
  gap : Bool := false
  flags : Nat := 0
  data : List ReplyWord := []
  count : Nat := 0
  deriving DecidableEq, Repr

/-- The request frame accepted last (R735). -/
structure Request where
  cmd : Nat
  alive : Nat
  addr : Nat
  count : Nat
  crc : Nat
  deriving DecidableEq, Repr

/-- The pending reply (R731, R736): the stored reply for the first time, its replay, or a 6-byte reply of its own. -/
inductive PendingReply where
  | fresh
  | replay
  | short (r : Reply)
  deriving DecidableEq, Repr

/-- The host port (R722-R753). -/
structure HostPort where
  last : Option Request := none
  stored : Option Reply := none
  pending : Option PendingReply := none
  /-- A WRITE that executes: its words still to be stored or acknowledged, address and value (R739). -/
  writing : Option (List (Nat × Word)) := none
  /-- A frame has been answered BUSY while the WRITE executes (R740). -/
  busyAnswered : Bool := false
  /-- The bytes the port drove in the latest frame (R729). -/
  hsdo : List Byte := []
  /-- The previous reply was cut short, and its transmission was spoiled (R732, R743). -/
  trunc : Bool := false
  underrun : Bool := false
  /-- A frame that a loss of VIO cut short: its ALIVE, for the reply that follows (R750). -/
  vioCut : Option Nat := none
  /-- MASTER in force, and an accepted change that waits for its moment (R748, R749). -/
  master : Bool := false
  masterNext : Option Bool := none
  accepted : BitVec 16 := 0
  retry : BitVec 16 := 0
  crcErr : BitVec 16 := 0
  lenErr : BitVec 16 := 0
  clash : BitVec 16 := 0
  gap : BitVec 16 := 0
  underruns : BitVec 16 := 0
  busy : BitVec 16 := 0
  /-- Master: alive of the last PUSH, STATUS last received, ring last pushed, ring and entries of the PUSH that awaits its reply, CRC failures in
  a row, and whether the PUSH is to be sent again (R747). -/
  mstAlive : BitVec 8 := 0
  mstStatus : Nat := 0
  mstRing : Nat := 0
  mstOut : Option (Nat × Nat) := none
  mstFails : Nat := 0
  mstResend : Bool := false
  /-- Rings no longer served (R747). -/
  mstStopped : List Nat := []
  pushed : BitVec 16 := 0
  resent : BitVec 16 := 0
  deriving DecidableEq, Repr
/-! ### Memory port (17) -/

/-- NOR_STATE (R796). -/
inductive NorState where
  | undiscovered | ready | erasing | suspended | silent
  deriving DecidableEq, Repr


/-- The parameters in use after discovery (MEM_DENSITY, MEM_SFDP, MEM_LIMITS, MEM_STAT). -/
structure NorParams where
  density : Nat := 0
  minor : Nat := 0
  dwords : Nat := 0
  eraseOp : Nat := 0
  suspendOp : Nat := 0
  eraseMs : Nat := 0
  page : Nat := 0
  suspendOk : Bool := false
  fallback : Bool := false
  qeSet : Bool := false
  /-- Quad reads that may be used: bit 0 1-1-4, bit 1 1-4-4. -/
  quad : Nat := 0
  contRead : Bool := false
  deriving DecidableEq, Repr

/-- A page program: address and bytes, before and after its command has been sent (R779, R784). -/
structure Program where
  addr : Nat
  bytes : List Byte
  sent : Bool := false
  deriving DecidableEq, Repr

/-- An explicit transfer running (R762-R766): chip select, KEEP, DIR, LEN and the GO word copy. -/
structure Transfer2 where
  cs : Nat
  keep : Bool
  rx : Bool
  len : Nat
  cmd : Nat
  /-- Sent by the start-up list: its entry (R789). -/
  init : Option Nat := none
  deriving DecidableEq, Repr

/-- The memory port and the NOR on MCS0 (R754-R796). -/
structure MemPort where
  part : NorPart := {}
  /-- NOR contents by address; an unlisted byte is erased, 0xFF. -/
  nor : List Host.Cell := []
  state : NorState := .undiscovered
  jedec : Nat := 0
  par : NorParams := {}
  /-- Prefetch lines: address of each 64-byte line held, most recently used first (R776). -/
  lines : List Nat := []
  /-- The last mapped read left the command omitted (R777). -/
  omitCmd : Bool := false
  /-- Sector being erased or suspended, its sector address. -/
  erase : Option Nat := none
  program : Option Program := none
  xfer : Option Transfer2 := none
  /-- Result shown in MEM_XFER_STAT. -/
  result : Nat := 0
  /-- Chip select held low by KEEP (R765). -/
  chain : Option Nat := none
  /-- The mapped read that waits for its turn: address and length (R755, R782). -/
  readWaits : Option (Nat × Nat) := none
  /-- The answer to the last NOR request: 0 done, 1 waiting, 2 ERASING, 3 SILENT, 4 THERMAL, 5 PROG_FAIL, 6 VIO_LOST (R779, R782, R788, R790, R792). -/
  answer : Nat := 0
  /-- The bytes of the last mapped read. -/
  readData : List Byte := []
  /-- The 8 KiB buffer by byte number. -/
  buf : List Host.Cell := []
  /-- The soft reset is owed before the next MCS0 command (R792). -/
  resetOwed : Bool := false
  /-- A program runs its 3 ms after TRIP (R790). -/
  tripGrace : Bool := false
  dirty : Option (Nat × Nat) := none
  programs : BitVec 16 := 0
  erases : BitVec 16 := 0
  suspends : BitVec 16 := 0
  retries : BitVec 16 := 0
  initLast : Nat := 0
  initLeft : List Nat := []
  deriving DecidableEq, Repr

/-! ### Image update and settings (18) -/

/-- The update-state record (R798). -/
structure UpdRec where
  /-- 0 IDLE, 1 DOWNLOADING, 2 DOWNLOADED, 3 VERIFYING, 4 VERIFIED, 5 TRIAL. -/
  state : Nat := 0
  boot : Nat := 0
  confirmed : Nat := 0
  trialStarts : Nat := 0
  target : Nat := 0
  migBank : Nat := 0xFF
  lastErr : Nat := 0
  failedCheck : Nat := 0xFF
  total : Nat := 0
  version : Nat := 0
  trialSec : Nat := 0
  /-- Bits 24-28 of R818 as bits 0-4. -/
  checks : BitVec 5 := 0
  bitmap : BitVec 512 := 0
  nextKeyHash : List Byte := List.replicate 32 0
  deriving DecidableEq, Repr

/-- A staging buffer: its chunk, bytes received by offset (word present when written), and its stage (R804, R805). -/
structure Staging where
  chunk : Nat
  bytes : List Host.Cell := []
  /-- Words received, by word offset. -/
  words : List Nat := []
  /-- Erased, programmed and read back: waits for its commit. -/
  written : Bool := false
  deriving DecidableEq, Repr

/-- The update engine (R797-R842). -/
structure Update where
  record : UpdRec := {}
  present : Bool := false
  staging : List Staging := []
  dup : BitVec 16 := 0
  dropped : BitVec 16 := 0
  /-- Settings save held until confirmation (R830). -/
  heldSave : Bool := false
  /-- Settings in use are defaults because the structure was unreadable (R270, R830). -/
  unreadable : Bool := false
  saveResult : Nat := 0
  nonce : Word := 0
  keyResult : Nat := 0
  /-- Settings list of the loaded image: addresses in order (R823), its format, CONFIRM_HOURS and signer hash. -/
  settingsList : List Nat := []
  settingsFormat : Nat := 0
  confirmHours : Nat := 0
  signerHash : List Byte := []
  /-- Trial checks of the present start begin at its first mode (R819). -/
  trial : Bool := false
  /-- Keeper seconds since the last TRIAL_SEC commit (R820). -/
  trialRun : Nat := 0
  /-- A REPORT 0 event has been posted in this start (R818). -/
  reported : Bool := false
  /-- What follows the held commit of the record: 1 a start with trigger HOST, 2 the wait before the start of a failed check (R815, R821,
  R839). -/
  after : Nat := 0
  deriving DecidableEq, Repr

/-! ### Thermal and supply supervision (19) -/

/-- The temperature supervisor, the deferral store and the supply comparisons (R843-R869). -/
structure Thermal where
  /-- Latest readings in 1/16 degree: logic, converter, radio, field. -/
  temps : List Int := [0, 0, 0, 0]
  warning : Bool := false
  /-- TRIP has begun and thermal hold has not ended (R846). -/
  trip : Bool := false
  /-- TRIP has begun and writes have not yet led to the hold (R853, R855). -/
  tripDies : BitVec 4 := 0
  warnDies : BitVec 4 := 0
  below120 : Nat := 0
  below115 : Nat := 0
  peak : Int := 0
  peakDie : Nat := 0
  peakSeen : Bool := false
  /-- Deferral store: entry words of the records in order, at most 32 (R850). -/
  deferred : List (List Word) := []
  lost : Nat := 0
  /-- Held commits by structure: format and body (R851). -/
  held : List (Nat × Nat × List Byte) := []
  fvinOut : Bool := false
  vbatLow : Bool := false
  vbatHigh : Bool := false
  vioHigh : Bool := false
  /-- A calibration commit held by WARNING applies R483 when it ends (R492). -/
  calHeld : Bool := false
  deriving DecidableEq, Repr

/-! ### The machine -/

/-- Everything of the AJ48 but the queue of commands. -/
structure Chip where
  /-- Registers held as words: shadow and read-write fields, W1C bits, results; by word address (20). -/
  regs : RegFile := []
  /-- Running sets applied by accepted ARMs, by the word address of their shadow (R11, R882). -/
  run : RegFile := []
  girth : Girth := {}
  lands : Lands := {}
  power : Power := {}
  modes : Modes := {}
  tb : Timebases := {}
  keeper : Keeper := {}
  mram : Mram := {}
  start : StartCtl := {}
  rings : RingSys := {}
  rules : RuleEngine := {}
  seqs : List Sequencer := List.replicate 4 {}
  runSig : RunSig := {}
  fin : FieldInputs := {}
  chains : List Chain := List.replicate 4 {}
  burnish : Burnish := {}
  exc : List ExcChannel := List.replicate 4 {}
  mon : Monitor := {}
  acq : Acq := {}
  track : Track := {}
  radio : Radio := {}
  yard : Yard := {}
  host : HostPort := {}
  mem : MemPort := {}
  upd : Update := {}
  therm : Thermal := {}
  deriving DecidableEq, Repr

/-- The machine: the block, and the queue of the commands that wait, first in, first out. -/
structure State where
  chip : Chip
  pending : List Instr
  deriving DecidableEq, Repr

/-- Reasons for which the machine stops: there is none. Every command of the table has an effect in every state
(an event that cannot happen in a state changes nothing), so no step raises a fault. -/
inductive Fault where
  deriving DecidableEq, Repr

/-- Reasons for which a command has no meaning. -/
inductive Refusal where
  /-- Raised by an arm of `exec` whose command has no meaning yet; safe. No arm of the finished model raises it. -/
  | notModelled (mnemonic : String)
  deriving DecidableEq, Repr

/-- Words whose Reset column is not zero, by word address (20 R878, R879 and the register tables). -/
def resetRegs : RegFile := [
  (0x0011, wd 0xA69), (0x0022, wd 0x11),
  (0x0080, wd 0x20), (0x0081, wd 0x20), (0x0082, wd 0x20), (0x0083, wd 0x20), (0x0084, wd 0x20), (0x0085, wd 0x20),
  (0x0086, wd 0x20), (0x0087, wd 0x20), (0x0403, wd 1), (0x0410, wd 0x6DB6DF), (0x0411, wd 0x6DB6DB),
  (0x0412, wd 0x1B), (0x0414, wd 0x1F00), (0x0800, wd 0x00010006), (0x0810, wd 0x00020007),
  (0x1200, wd 0x400000), (0x1201, wd 0x400000), (0x1202, wd 0x400000), (0x1203, wd 0x400000),
  (0x1204, wd 0x09000000), (0x1205, wd 0x09000000), (0x1206, wd 0x09000000), (0x1207, wd 0x09000000),
  (0x1300, wd 0x03E80005), (0x1301, wd 0x01F40005), (0x1302, wd 0x03E80005), (0x1303, wd 0x01F40005),
  (0x1304, wd 0x03E80005), (0x1305, wd 0x01F40005), (0x1306, wd 0x03E80005), (0x1307, wd 0x01F40005),
  (0x3E08, wd 0x04020204), (0x3E12, wd 0x1A)]

/-- The block before its first supply: every register is at its reset value, nothing is written to MRAM or the NOR, and the core
has no supply; CORE_POWER_ON begins the first start (R248). -/
def Chip.reset : Chip := { regs := resetRegs, run := resetRegs }

/-- The machine right after reset, its queue empty. -/
def State.reset : State := { chip := Chip.reset, pending := [] }

end Sys2Proof.Machine
end

