-- ==== Sys2Proof/Machine/Ops.lean ====
section
/-! DEFINITION. The operations that the meanings share: registers and running sets, ARM results, keeper-time stamps, producing
into a ring by its class, ring-0 entries and their observers, ring-1 records, ring-2 events and ring-3 entries, keeper events. -/

namespace Sys2Proof.Machine

/-- The core has supply and the mode is not SHIP. Without supply nothing but the power path and the keeper acts (R139), and in SHIP
only the wake comparator and the take detector do (R119). -/
def Chip.awake (c : Chip) : Bool := c.power.coreSupplied && decide (c.modes.mode ≠ 0)

/-! ### One part of the block changed -/

/-- The block with its girth changed. -/
def Chip.upGirth (c : Chip) (f : Girth → Girth) : Chip := { c with girth := f c.girth }

/-- The block with its lands changed. -/
def Chip.upLands (c : Chip) (f : Lands → Lands) : Chip := { c with lands := f c.lands }

/-- The block with its power path changed. -/
def Chip.upPower (c : Chip) (f : Power → Power) : Chip := { c with power := f c.power }

/-- The block with its mode controller changed. -/
def Chip.upModes (c : Chip) (f : Modes → Modes) : Chip := { c with modes := f c.modes }

/-- The block with its timebases changed. -/
def Chip.upTb (c : Chip) (f : Timebases → Timebases) : Chip := { c with tb := f c.tb }

/-- The block with its keeper domain changed. -/
def Chip.upKeeper (c : Chip) (f : Keeper → Keeper) : Chip := { c with keeper := f c.keeper }

/-- The block with its MRAM changed. -/
def Chip.upMram (c : Chip) (f : Mram → Mram) : Chip := { c with mram := f c.mram }

/-- The block with its start changed. -/
def Chip.upStart (c : Chip) (f : StartCtl → StartCtl) : Chip := { c with start := f c.start }

/-- The block with its rings changed. -/
def Chip.upRings (c : Chip) (f : RingSys → RingSys) : Chip := { c with rings := f c.rings }

/-- The block with its rule engine changed. -/
def Chip.upRules (c : Chip) (f : RuleEngine → RuleEngine) : Chip := { c with rules := f c.rules }

/-- The block with its run signature changed. -/
def Chip.upRunSig (c : Chip) (f : RunSig → RunSig) : Chip := { c with runSig := f c.runSig }

/-- The block with its field inputs changed. -/
def Chip.upFin (c : Chip) (f : FieldInputs → FieldInputs) : Chip := { c with fin := f c.fin }

/-- The block with its burnish changed. -/
def Chip.upBurnish (c : Chip) (f : Burnish → Burnish) : Chip := { c with burnish := f c.burnish }

/-- The block with its monitor converter changed. -/
def Chip.upMon (c : Chip) (f : Monitor → Monitor) : Chip := { c with mon := f c.mon }

/-- The block with its acquisition changed. -/
def Chip.upAcq (c : Chip) (f : Acq → Acq) : Chip := { c with acq := f c.acq }

/-- The block with its tracking changed. -/
def Chip.upTrack (c : Chip) (f : Track → Track) : Chip := { c with track := f c.track }

/-- The block with its radio changed. -/
def Chip.upRadio (c : Chip) (f : Radio → Radio) : Chip := { c with radio := f c.radio }

/-- The block with its yard engine changed. -/
def Chip.upYard (c : Chip) (f : Yard → Yard) : Chip := { c with yard := f c.yard }

/-- The block with its host port changed. -/
def Chip.upHost (c : Chip) (f : HostPort → HostPort) : Chip := { c with host := f c.host }

/-- The block with its memory port changed. -/
def Chip.upMem (c : Chip) (f : MemPort → MemPort) : Chip := { c with mem := f c.mem }

/-- The block with its update engine changed. -/
def Chip.upUpd (c : Chip) (f : Update → Update) : Chip := { c with upd := f c.upd }

/-- The block with its thermal supervisor changed. -/
def Chip.upTherm (c : Chip) (f : Thermal → Thermal) : Chip := { c with therm := f c.therm }

/-! ### Registers -/

/-- The word held for an address. -/
def Chip.reg (c : Chip) (a : Nat) : Word := mget 0 c.regs a

/-- The block with one held word replaced. -/
def Chip.setReg (c : Chip) (a : Nat) (w : Word) : Chip := { c with regs := mset 0 c.regs a w }

/-- A field of a held word. -/
def Chip.rf (c : Chip) (a hi lo : Nat) : Nat := fld (c.reg a) hi lo

/-- The block with one field of a held word replaced. -/
def Chip.setFld (c : Chip) (a hi lo v : Nat) : Chip := c.setReg a (putFld (c.reg a) hi lo v)

/-- The block with bits of a held word set (a W1C bit is set by its event, R10). -/
def Chip.setBits (c : Chip) (a mask : Nat) : Chip := c.setReg a (c.reg a ||| wd mask)

/-- The block with bits of a held word cleared. -/
def Chip.clrBits (c : Chip) (a mask : Nat) : Chip := c.setReg a (c.reg a &&& ~~~(wd mask))

/-- A word of the running configuration (R11). -/
def Chip.runW (c : Chip) (a : Nat) : Word := mget 0 c.run a

/-- A field of the running configuration. -/
def Chip.runF (c : Chip) (a hi lo : Nat) : Nat := fld (c.runW a) hi lo

/-- A bit of the running configuration. -/
def Chip.runB (c : Chip) (a i : Nat) : Bool := bit (c.runW a) i

/-- The block with one running word replaced. -/
def Chip.setRun (c : Chip) (a : Nat) (w : Word) : Chip := { c with run := mset 0 c.run a w }

/-- The shadow words of a unit, `n` from address `a`. -/
def Chip.shadow (c : Chip) (a n : Nat) : List (Nat × Word) := (List.range n).map (fun i => (a + i, c.reg (a + i)))

/-- An accepted set becomes the running configuration (R11, R882). -/
def Chip.applyWords (c : Chip) (ws : List (Nat × Word)) : Chip :=
  ws.foldl (fun c p => c.setRun p.1 p.2) c

/-- SYS_ARM_LAST takes the address of the ARM field and the outcome of its check (R883, R888). -/
def Chip.armLast (c : Chip) (arm res : Nat) : Chip := c.setReg 0x0023 (wd (arm * 65536 + res))

/-- The accepted set that waits for a unit, if there is one. -/
def Chip.armedSet (c : Chip) (arm : Nat) : Option ArmedSet := c.girth.armed.find? (fun a => a.arm == arm)

/-- The set that waits for a unit is dropped. -/
def Chip.dropArmed (c : Chip) (arm : Nat) : Chip :=
  { c with girth := { c.girth with armed := c.girth.armed.filter (fun a => a.arm != arm) } }

/-- An accepted set waits for its boundary; it replaces an earlier one of the same unit (R60, R865). -/
def Chip.holdSet (c : Chip) (arm : Nat) (ws : List (Nat × Word)) : Chip :=
  { c with girth := { c.girth with armed := c.girth.armed.filter (fun a => a.arm != arm) ++ [{ arm := arm, words := ws }] } }

/-! ### Lanes and modes -/

/-- The state of a girth lane: 0 converter, 1 radio, 2 field, 3 protection. -/
def Chip.lane (c : Chip) (l : Nat) : LaneState := c.girth.lanes.getD l .parked

/-- Whether a girth lane is LIVE. -/
def Chip.live (c : Chip) (l : Nat) : Bool := decide (c.lane l = .live)

/-- Whether a girth lane is SILENT (R32). -/
def Chip.silent (c : Chip) (l : Nat) : Bool := decide (c.lane l = .silent)

/-- A girth lane takes a state. -/
def Chip.setLane (c : Chip) (l : Nat) (x : LaneState) : Chip :=
  { c with girth := { c.girth with lanes := c.girth.lanes.set l x } }

/-- SYS_MODE.MODE: 0 SHIP, 1 KEEPER, 2 WATCH, 3 FIX, 4 LINK, 5 DUTY, 6 PURSUIT, 7 STIRRUP; 0xF while a start is in progress. -/
def Chip.mode (c : Chip) : Nat := c.modes.mode

/-- The converter die is powered (03, domain CD). -/
def cdPowered (m : Nat) : Bool := decide (2 ≤ m) && decide (m ≤ 6)

/-- The GNSS receive path is powered (03, domain RG). -/
def rgPowered (m : Nat) : Bool := decide (m = 3) || decide (m = 5) || decide (m = 6)

/-- The chirp transceiver is powered (03, domain RC). -/
def rcPowered (m : Nat) : Bool := decide (m = 4) || decide (m = 5) || decide (m = 6)

/-- The field die's full domain is powered (03, domain FF). -/
def ffPowered (m : Nat) : Bool := decide (2 ≤ m) && decide (m ≤ 6)

/-- Lanes whose die a mode powers (03): converter, radio, field, protection. -/
def modeLanes (m : Nat) : List Bool :=
  [cdPowered m, rgPowered m || rcPowered m, decide (1 ≤ m) && decide (m ≤ 7), decide (1 ≤ m) && decide (m ≤ 7)]

/-- Thermal or battery hold in force. -/
def Chip.held (c : Chip) : Bool := c.modes.thermalHold || c.modes.batHold

/-- The first mode of the present start has been reached. -/
def Chip.started (c : Chip) : Bool := decide (c.start.phase = .done)

/-! ### The gates of the sample lanes, and a command's effect -/

/-- The running enable of a gate for a power state: 0 RUN, 1 DOZE, 2 DEEP (R166, R201). -/
def Chip.gateEn (c : Chip) (g st : Nat) : Bool := c.runB (0x0410 + g / 8) (3 * (g % 8) + st)

/-- The enable for the present power state. -/
def Chip.gateOpen (c : Chip) (g : Nat) : Bool := c.gateEn g c.tb.pstate

/-- Tracking runs: a tracking burst, PURSUIT, or DUTY with DUTY_TRACK (R576). -/
def Chip.tracking (c : Chip) : Bool :=
  decide (c.acq.state = .burst) || decide (c.mode = 6) || (decide (c.mode = 5) && c.runB 0x2800 8)

/-- TBM reaches gate 3 or 6 through gate 2. -/
def Chip.tbmGate (c : Chip) (g : Nat) : Bool := decide (c.mode ≠ 0) && !c.tb.tbmFailed && c.gateOpen 2 && c.gateOpen g

/-- Gate 4 passes ML-G to the GNSS sample lane (R166-R169, R197). -/
def Chip.gnssGate (c : Chip) : Bool :=
  c.awake && rgPowered c.mode && (c.tracking || decide (c.acq.state = .capturing)) && c.tbmGate 3 && c.gateOpen 4 && c.tb.mlg

/-- Gate 6 passes TBM to the radio sample lane and the radio die's receiver runs (R47, R166). -/
def Chip.radioGate (c : Chip) : Bool :=
  c.awake && ((rcPowered c.mode && (decide (c.radio.state = .searching) || decide (c.radio.state = .receiving))) ||
   (decide (c.mode = 7) && c.start.listening)) && c.tbmGate 6

/-- A sample lane follows its enable: starting from the moment it becomes enabled, off while it is not; a failed lane stays failed
(R47, R42). -/
def SampleState.follow (x : SampleState) (on : Bool) : SampleState :=
  match x with
  | .failed => .failed
  | .off => if on then .starting else .off
  | .starting => if on then .starting else .off
  | .running => if on then .running else .off

/-- What follows a command: the sample lanes, and a discontinuity of the next epoch when gate 4 has closed (R47, R181). -/
def Chip.follow (c was : Chip) : Chip :=
  { c with
    girth := { c.girth with gsamp := c.girth.gsamp.follow (c.gnssGate && c.live 1), rsamp := c.girth.rsamp.follow (c.radioGate && c.live 1) }
    track := { c.track with discont := c.track.discont || (was.gnssGate && !c.gnssGate) } }

/-- A command's effect: it changes the block and leaves the queue of waiting commands alone. Commands of the power path, the wake comparator
and the supplies need no core. -/
def State.runPower (s : State) (f : Chip → Chip) : Host.Outcome State Fault Refusal :=
  .next { s with chip := (f s.chip).follow s.chip }

/-- The effect of every other command: none without core supply and in SHIP (R119, R139). -/
def State.run (s : State) (f : Chip → Chip) : Host.Outcome State Fault Refusal :=
  s.runPower (fun c => if c.awake then f c else c)

/-- Host writes are executed: a first mode or STIRRUP has been reached (R275). -/
def Chip.hostOpen (c : Chip) : Bool := c.started || decide (c.mode = 7)

/-- The run of a host write: discarded until the first mode or STIRRUP is reached (R275). -/
def State.runHost (s : State) (f : Chip → Chip) : Host.Outcome State Fault Refusal :=
  s.run (fun c => if c.hostOpen then f c else c)

/-! ### Keeper time -/

/-- Ring-0 word 2: SEC[31:0] (R304). -/
def Chip.timeLo (c : Chip) : Word := wd c.keeper.sec.toNat

/-- Ring-0 word 3: SEC[32], TIME_VALID, SUB (R304). -/
def Chip.timeHi (c : Chip) : Word :=
  wd ((c.keeper.sec.toNat / 2 ^ 32) * 2 ^ 31 + b2n c.keeper.valid * 2 ^ 30 + c.keeper.sub.toNat)

/-! ### Rings -/

/-- Ring `n`. -/
def Chip.ring (c : Chip) (n : Nat) : Ring := c.rings.rings.getD n {}

/-- Ring `n` changed. -/
def Chip.upRing (c : Chip) (n : Nat) (f : Ring → Ring) : Chip :=
  { c with rings := { c.rings with rings := c.rings.rings.modify n f } }

/-- Entries a ring holds at most; 0 for a disabled ring. -/
def Ring.size (r : Ring) : Nat := if r.sizeLog2 = 0 then 0 else 2 ^ r.sizeLog2

/-- Unconsumed entries: (HEAD − TAIL) mod 65 536. -/
def Ring.fill (r : Ring) : Nat := (r.head - r.tail).toNat

/-- Every entry of the ring is unconsumed. -/
def Ring.full (r : Ring) : Bool := decide (r.size ≤ r.fill)

/-- The class in force: DROP_NEWEST while converted (R326). -/
def Ring.active (r : Ring) : RingClass := if r.converted then .dropNewest else r.cls

/-- Ring-memory entry of position `p`. -/
def Ring.slot (r : Ring) (p : BitVec 16) : Nat := r.base + p.toNat % (if r.sizeLog2 = 0 then 1 else 2 ^ r.sizeLog2)

/-- Timebase-driven producers, which never wait (R297). -/
def timebaseDriven (agent : Nat) : Bool :=
  [0x02, 0x04, 0x05, 0x06, 0x07, 0x08, 0x09].contains agent

/-- Drain rank of an agent; an agent that consumes no ring counts as rank 4, the host as external (R299). -/
def drainRank (agent : Nat) : Nat :=
  if agent = 0x01 then 0 else if agent = 0x02 then 1 else if agent = 0x03 then 2
  else if agent = 0x12 ∨ agent = 0x0D then 3 else if agent = 0x0B then 5 else 4

/-- CLASS of a ring-0 entry (R304). -/
def entryClass (e : Entry) : Nat := fld (ew e 0) 31 24

/-- Ring `n` is full for this entry: the last 16 entries of ring 0 are kept for CLASS PROTECTION (R307). -/
def Ring.fullFor (r : Ring) (n : Nat) (e : Entry) : Bool :=
  if n = 0 ∧ entryClass e ≠ 1 then decide (48 ≤ r.fill) else r.full

/-- What the ring hardware writes into an entry when it is produced: ESEQ and time on ring 0, the time of the record on ring
1, the time on rings 2 and 3 (R305, R313, R355, R372). -/
def Chip.stamp (c : Chip) (n : Nat) (e : Entry) : Entry :=
  if n = 0 then ((e.set 1 c.rings.eseq).set 2 c.timeLo).set 3 c.timeHi
  else if n = 1 then
    let s := c.keeper.sec.toNat
    (e.set 0 (wd ((s % 2 ^ 17) * 2 ^ 15 + c.keeper.sub.toNat))).set 1
      (wd (fld (ew e 1) 31 24 * 2 ^ 24 + b2n c.keeper.valid * 2 ^ 23 + fld (ew e 1) 22 16 * 2 ^ 16 + s / 2 ^ 17))
  else if n = 2 ∨ n = 3 then (e.set 2 c.timeLo).set 3 c.timeHi
  else e

/-- Ring memory with an entry written; an unlisted entry is zero (R319). -/
def Chip.putEntry (c : Chip) (slot : Nat) (e : Entry) : Chip :=
  { c with rings := { c.rings with mem := mset zeroEntry c.rings.mem slot e } }

/-- The entry at a ring-memory position. -/
def Chip.entryAt (c : Chip) (slot : Nat) : Entry := mget zeroEntry c.rings.mem slot

/-- HEAD advances over one entry, and PEAK follows FILL. -/
def Ring.pushed (r : Ring) : Ring :=
  { r with head := r.head + 1, peak := max r.peak (r.head + 1 - r.tail).toNat }

/-- An entry goes into a ring that has room. -/
def Chip.pushEntry (c : Chip) (n : Nat) (e : Entry) : Chip :=
  let r := c.ring n
  let c1 := (c.putEntry (r.slot r.head) (c.stamp n e)).upRing n Ring.pushed
  if n = 0 then { c1 with rings := { c1.rings with eseq := c1.rings.eseq + 1 } } else c1

/-- `k` entries of a ring are discarded and counted (RING_DROPn, RING_STATn.DROPPED). -/
def Ring.drops (r : Ring) (k : Nat) : Ring :=
  if k = 0 then r else { r with drop := r.drop + wd k, dropped := true }

/-- The answer to the producer. -/
def Chip.answer (c : Chip) (a : Answer) : Chip := { c with rings := { c.rings with answer := a } }

/-- A producer meets the ring as full: it is full for the entry, or earlier entries of the same kind of producer wait for it. -/
def Ring.meetsFull (r : Ring) (n : Nat) (agent : Nat) (e : Entry) : Bool :=
  r.fullFor n e ||
  (if timebaseDriven agent || (decide (n = 0) && decide (agent = 0x01)) then r.held.any (fun h => h.1 == agent) else !r.waiting.isEmpty)

/-- One produce request (R298–R301, R314–R316, R321, R900), without the OVERRUN event it may raise. The second component is
true when the holding buffer overran and RING_STATn.OVERRUN was clear. -/
def Chip.produceRaw (c : Chip) (agent n : Nat) (e : Entry) : Chip × Bool :=
  let r := c.ring n
  let holds := timebaseDriven agent || (decide (n = 0) && decide (agent = 0x01))
  let hold : Chip × Bool :=
    if (r.held.filter (fun h => h.1 == agent)).length < 4 then
      ((c.upRing n (fun r => { r with held := r.held ++ [(agent, e)] })).answer .held, false)
    else ((c.upRing n (fun r => { (r.drops 1) with overrun := true })).answer .dropped, !r.overrun)
  let wait : Chip × Bool := ((c.upRing n (fun r => { r with waiting := r.waiting ++ [(agent, e)] })).answer .waiting, false)
  if r.sizeLog2 = 0 then
    ((c.upRing n (fun r => r.drops 1)).answer (if holds then .counted else .unpowered), false)
  else if r.consumer = 0 ∧ n ≠ 0 then ((c.upRing n (fun r => r.drops 1)).answer .counted, false)
  else if r.copying then (if holds then hold else wait)
  else match r.active with
    | .dropOldest =>
      if r.full then
        (((c.upRing n (fun r => { (r.drops 1) with tail := r.tail + 1 })).pushEntry n e).answer .done, false)
      else ((c.pushEntry n e).answer .done, false)
    | .dropNewest =>
      if r.full then ((c.upRing n (fun r => r.drops 1)).answer .dropped, false)
      else ((c.pushEntry n e).answer .done, false)
    | .lossless =>
      if r.meetsFull n agent e then
        if holds then hold
        else if agent ≠ 0x13 ∧ (drainRank r.consumer < drainRank agent ∨ r.consumer = 0x0B) then wait
        else (c.answer .refusedFull, false)
      else ((c.pushEntry n e).answer .done, false)

/-- A ring-0 entry as its producer supplies it: CLASS, JOURNAL, ORIGIN, CODE and the arguments (R304). -/
def entry0 (origin cls code : Nat) (journal : Bool) (a0 a1 a2 a3 : Nat) : Entry :=
  [wd (cls * 2 ^ 24 + b2n journal * 2 ^ 23 + origin * 2 ^ 16 + code), 0, 0, 0, wd a0, wd a1, wd a2, wd a3]

/-- A ring event: CLASS RING, JOURNAL set, from the ring hardware (R306). -/
def ringEvent (code a0 a1 : Nat) : Entry := entry0 0x11 4 code true a0 a1 0 0

/-- Entries of ring 0 that an observer has not yet passed. -/
def Chip.behind (c : Chip) (o : Observer) : Nat := ((c.ring 0).head - o.index).toNat

/-- One observer against R309: more than 64 behind, its index moves to the oldest entry held, and OBSERVER_OVERRUN is raised
once per episode. -/
def Chip.observe1 (c : Chip) (agent : Nat) (get : RingSys → Observer) (put : RingSys → Observer → RingSys) : Chip :=
  let o := get c.rings
  let b := c.behind o
  if b ≤ 64 then c
  else
    let o1 : Observer := { index := o.index + BitVec.ofNat 16 (b - 64), skipped := o.skipped + (b - 64), episode := true }
    let c1 := { c with rings := put c.rings o1 }
    if o.episode then c1 else (c1.produceRaw 0x11 0 (ringEvent 0x0003 agent (b - 64))).1

/-- The three observers of ring 0 (R300, R309). -/
def Chip.observeAll (c : Chip) : Chip :=
  let c1 := c.observe1 0x02 RingSys.obsMram (fun r o => { r with obsMram := o })
  let c2 := c1.observe1 0x03 RingSys.obsRule (fun r o => { r with obsRule := o })
  c2.observe1 0x0B RingSys.obsHost (fun r o => { r with obsHost := { o with skipped := min o.skipped 65535 } })

/-- Every observer has been moved: each raises its event at most once, so four passes settle them. -/
def Chip.observe (c : Chip) : Chip := c.observeAll.observeAll.observeAll.observeAll

/-- One produce request with the events it raises: OVERRUN on the first overrun of a ring (R306), and the observers of ring 0
(R309). The answer is that of the request itself. -/
def Chip.produce (c : Chip) (agent n : Nat) (e : Entry) : Chip :=
  let p := c.produceRaw agent n e
  let a := p.1.rings.answer
  let c1 := if p.2 then (p.1.produceRaw 0x11 0 (ringEvent 0x0002 n agent)).1 else p.1
  c1.observe.answer a

/-- An event on ring 0 (R304, R305). -/
def Chip.post0 (c : Chip) (origin cls code : Nat) (journal : Bool) (a0 a1 a2 a3 : Nat) : Chip :=
  c.produce origin 0 (entry0 origin cls code journal a0 a1 a2 a3)

/-- A protection event: CLASS PROTECTION, JOURNAL set (R305). -/
def Chip.protect (c : Chip) (origin code a0 a1 a2 a3 : Nat) : Chip := c.post0 origin 1 code true a0 a1 a2 a3

/-- A journal record on ring 1: TYPE, ORIGIN, two payload words, PROTECTION (R312, R313). -/
def Chip.journal (c : Chip) (agent type w1 w2 : Nat) (prot : Bool) : Chip :=
  c.produce agent 1 [0, wd (type * 2 ^ 24 + agent * 2 ^ 16), wd w1, wd (w1 / 2 ^ 32), wd w2, wd (w2 / 2 ^ 32), wd (b2n prot), 0]

/-- An entry on ring 2: KIND 1 EVENT, 2 SIGNAL, 3 COMMAND (R355). -/
def Chip.post2 (c : Chip) (origin kind code arg : Nat) : Chip :=
  c.produce origin 2 [wd (kind * 2 ^ 24 + origin * 2 ^ 16 + code), wd arg, 0, 0, 0, 0, 0, 0]

/-- A triggering event of class and index (R356). -/
def Chip.event (c : Chip) (origin cls idx arg : Nat) : Chip := c.post2 origin 1 (cls * 256 + idx) arg

/-- An entry on ring 3: KIND 1 FIRED, 2 REFUSED, 3 THEFT (R372). -/
def Chip.post3 (c : Chip) (kind rule tag trigger arg : Nat) : Chip :=
  c.produce 0x03 3 [wd (kind * 2 ^ 24 + rule * 2 ^ 16 + tag), wd trigger, 0, 0, wd arg, 0, 0, 0]

/-! ### Signals and keeper events -/

/-- A signal is named in an enabled rule's terms (R353). -/
def Chip.signalNamed (c : Chip) (sig : Nat) : Bool :=
  c.rules.rules.any (fun r => r.en && r.terms.any (fun t => t.signal == sig && t.signal != 0))

/-- The signals with at most one entry a second: SPEED, TEMP, VBAT and WATCH (R353). -/
def slowSignal (sig : Nat) : Bool := [0x13, 0x16, 0x17].contains sig || (decide (0x40 ≤ sig) && decide (sig ≤ 0x47))

/-- A change of a signal puts a SIGNAL entry on ring 2 when an enabled rule names it (R353). -/
def Chip.postSignal (c : Chip) (origin sig : Nat) : Chip :=
  if c.signalNamed sig then
    if slowSignal sig then
      let now := c.keeper.sec.toNat
      if (c.rules.sigSecond.find? (fun p => p.1 == sig)).any (fun p => p.2 == now) then c
      else
        let c1 := { c with rules := { c.rules with sigSecond := (sig, now) :: c.rules.sigSecond.filter (fun p => p.1 != sig) } }
        c1.post2 origin 2 sig 0
    else c.post2 origin 2 sig 0
  else c

/-- The last value of a measured signal. -/
def Chip.sigVal (c : Chip) (sig : Nat) : Nat := mget 0 c.rules.signals sig

/-- A measured signal takes a value; a change is announced under R353. -/
def Chip.setSignal (c : Chip) (origin sig v : Nat) : Chip :=
  if c.sigVal sig = v then c
  else ({ c with rules := { c.rules with signals := mset 0 c.rules.signals sig v } }).postSignal origin sig

/-- A keeper-domain source becomes pending; one already pending is merged and counted (R362). -/
def Chip.keeperEvent (c : Chip) (source origin code arg : Nat) : Chip :=
  if c.keeper.pending.any (fun p => p.source == source) then
    { c with rules := { c.rules with merged := satAdd 65535 c.rules.merged 1 } }
  else
    { c with keeper := { c.keeper with
        pending := c.keeper.pending ++ [{ source := source, origin := origin, code := code, arg := wd arg }] } }

/-- A draw of the random source: a challenge, never 0 (R283). -/
def Chip.draw (c : Chip) : Chip × Word :=
  ({ c with start := { c.start with freeCtr := c.start.freeCtr + 1 } }, wd ((Config.challenge c.start.freeCtr).val + 1))

end Sys2Proof.Machine
end

