-- ==== Sys2Proof/Machine/Store.lean ====
section
/-! DEFINITION. The MRAM: banks and two-bank commits (05 R230-R232), the journal (R233-R236), the deferral of records at
WARNING (19 R848-R851), the start record and its cause history (06). -/

namespace Sys2Proof.Machine

/-! ### Two-bank structures -/

/-- Offsets of banks A and B and the size of a bank, by STRUCT (R228). -/
def bankOf (struct : Nat) : Nat × Nat × Nat :=
  match struct with
  | 1 => (0x00000, 0x00800, 2048)
  | 2 => (0x01000, 0x01800, 2048)
  | 3 => (0x02000, 0x06000, 16384)
  | 4 => (0x0A000, 0x0C000, 8192)
  | _ => (0x0E000, 0x14000, 24576)

/-- The bytes of one bank. -/
def Mram.bank (m : Mram) (struct : Nat) (b : Bool) : List Byte :=
  let k := bankOf struct
  memRead 0 m.bytes (if b then k.2.1 else k.1) k.2.2

/-- The bank is valid: MAGIC, STRUCT and CRC-32 (R230). -/
def bankValid (struct : Nat) (bs : List Byte) : Bool :=
  let n := bs.length
  decide (leAt bs (n - 2) 2 = 0x4B43) && decide (leAt bs (n - 3) 1 = struct) && decide (leAt bs (n - 12) 4 = 0) &&
    decide (leAt bs (n - 16) 4 = crc32 (bs.take (n - 16)))

/-- The commit word's SEQ. -/
def bankSeq (bs : List Byte) : Word := wd (leAt bs (bs.length - 8) 4)

/-- The commit word's FORMAT. -/
def bankFormat (bs : List Byte) : Nat := leAt bs (bs.length - 4) 1

/-- The current bank: the valid bank with the later SEQ, bank A when neither is later; none when the structure is absent (R231). -/
def Mram.current (m : Mram) (struct : Nat) : Option (Bool × List Byte) :=
  let a := m.bank struct false
  let b := m.bank struct true
  match bankValid struct a, bankValid struct b with
  | true, true => if serialLater (bankSeq b) (bankSeq a) then some (true, b) else some (false, a)
  | true, false => some (false, a)
  | false, true => some (true, b)
  | false, false => none

/-- The bytes of a bank: body, CRC-32 and commit word (R230). -/
def bankBytes (struct fmt : Nat) (seq : Word) (size : Nat) (body : List Byte) : List Byte :=
  let b := padTo (size - 16) 0 body
  b ++ leBytes 8 (crc32 b) ++ leBytes 8 (0x4B43 * 2 ^ 48 + struct * 2 ^ 40 + (fmt % 256) * 2 ^ 32 + seq.toNat)

/-- A two-bank commit: the bank that is not current takes the body with SEQ one greater; an absent structure takes bank A with
SEQ 1 (R232). -/
def Mram.commit (m : Mram) (struct fmt : Nat) (body : List Byte) : Mram :=
  let k := bankOf struct
  let p : Bool × Word := match m.current struct with
    | some (b, bs) => (!b, bankSeq bs + 1)
    | none => (false, 1)
  { m with bytes := memWrite 0 m.bytes (if p.1 then k.2.1 else k.1) (bankBytes struct fmt p.2 k.2.2 body) }

/-- A commit made in one step. -/
def Chip.commitNow (c : Chip) (struct fmt : Nat) (body : List Byte) : Chip :=
  { c with mram := c.mram.commit struct fmt body }

/-- A commit that WARNING does not except: held until WARNING ends, replacing a held one of the same structure (R851), else
queued for the MRAM controller (TWO_BANK_COMMIT). -/
def Chip.requestCommit (c : Chip) (struct fmt : Nat) (body : List Byte) : Chip :=
  if c.therm.warning || c.therm.trip then
    { c with therm := { c.therm with held := c.therm.held.filter (fun h => h.1 != struct) ++ [(struct, fmt, body)] } }
  else { c with mram := { c.mram with commits := c.mram.commits ++ [(struct, fmt, body)] } }

/-! ### Journal -/

/-- Offset of a journal slot (R228). -/
def slotOffset (slot : Nat) : Nat := 0x20000 + 32 * (slot % 4096)

/-- The 32 bytes of a journal slot. -/
def Mram.slotBytes (m : Mram) (slot : Nat) : List Byte := memRead 0 m.bytes (slotOffset slot) 32

/-- A record is valid when its CHECK matches (R233). -/
def recValid (bs : List Byte) : Bool :=
  decide (leAt bs 24 2 = crc16 (slice bs 0 24 ++ slice bs 26 6))

/-- JSEQ of a record. -/
def recSeq (bs : List Byte) : Word := wd (leAt bs 28 4)

/-- TYPE of a record. -/
def recType (bs : List Byte) : Nat := leAt bs 7 1

/-- The bytes of a record: words 0-2, then word 3 with JSEQ and CHECK. -/
def recBytes (w0 w1 w2 : Nat) (jseq : Word) : List Byte :=
  let b := leBytes 8 w0 ++ leBytes 8 w1 ++ leBytes 8 w2
  let t := leBytes 6 (jseq.toNat * 2 ^ 16)
  b ++ leBytes 2 (crc16 (b ++ t)) ++ t

/-- Slots that hold any nonzero byte. -/
def Mram.usedSlots (m : Mram) : List Nat :=
  (m.bytes.filter (fun p => decide (0x20000 ≤ p.1))).foldr
    (fun p l => let s := (p.1 - 0x20000) / 32; if l.head? = some s then l else s :: l) []

/-- The valid records of the journal: slot and bytes. -/
def Mram.records (m : Mram) : List (Nat × List Byte) :=
  (m.usedSlots.map (fun s => (s, m.slotBytes s))).filter (fun p => recValid p.2)

/-- The record of a list that no other is later than; of several, the one of the lowest slot (R235). -/
def newestOf (rs : List (Nat × List Byte)) : Option (Nat × List Byte) :=
  rs.find? (fun p => !rs.any (fun q => serialLater (recSeq q.2) (recSeq p.2)))

/-- The journal scan of a start (R235). -/
def Mram.scan (m : Mram) : Option Word := (newestOf m.records).map (fun p => recSeq p.2)

/-- JSEQ of the next record (R234, R235). -/
def Mram.nextSeq (m : Mram) : Word := match m.newest with
  | some n => n + 1
  | none => 0

/-- A record written into the next slot, word 3 last (R233, R234). -/
def Mram.putRecord (m : Mram) (w0 w1 w2 : Nat) : Mram :=
  let n := m.nextSeq
  { m with bytes := memWrite 0 m.bytes (slotOffset n.toNat) (recBytes w0 w1 w2 n), newest := some n }

/-- The meter of an HOUR_COMMIT record. -/
def recMeter (bs : List Byte) : Nat := leAt bs 15 1

/-- The newest HOUR_COMMIT record of a meter. -/
def Mram.newestHour (m : Mram) (meter : Nat) : Option (Nat × List Byte) :=
  newestOf (m.records.filter (fun p => recType p.2 == 1 && recMeter p.2 == meter))

/-- The next slot holds the newest HOUR_COMMIT of its meter (R236). -/
def Mram.mustCarry (m : Mram) : Bool :=
  let s := m.nextSeq.toNat % 4096
  let b := m.slotBytes s
  recValid b && recType b == 1 && (m.newestHour (recMeter b)).any (fun p => p.1 == s)

/-- Carry-forward copies: at most one for each meter (R236). -/
def Mram.carry : Nat → Mram → Mram
  | 0, m => m
  | n + 1, m =>
    if m.mustCarry then
      let b := m.slotBytes (m.nextSeq.toNat % 4096)
      Mram.carry n (m.putRecord (leAt b 0 8) (leAt b 8 8) (leAt b 16 8))
    else m

/-- A journal record written, after the carry-forward copies its slot asks for. -/
def Mram.record (m : Mram) (w0 w1 w2 : Nat) : Mram := (Mram.carry 16 m).putRecord w0 w1 w2

/-- A journal record written by the MRAM controller. -/
def Chip.record (c : Chip) (w0 w1 w2 : Nat) : Chip := { c with mram := c.mram.record w0 w1 w2 }

/-- Word 0 of a record: TYPE, TIME_VALID, ORIGIN, SEC and SUB. -/
def Chip.recWord0 (c : Chip) (type origin : Nat) : Nat :=
  type * 2 ^ 56 + b2n c.keeper.valid * 2 ^ 55 + origin * 2 ^ 48 + c.keeper.sec.toNat * 2 ^ 15 + c.keeper.sub.toNat

/-- A record of a class that WARNING defers goes to the deferral store of 32, or is lost (R850). -/
def Chip.deferRecord (c : Chip) (ws : List Word) : Chip :=
  if c.therm.deferred.length < 32 then { c with therm := { c.therm with deferred := c.therm.deferred ++ [ws] } }
  else ({ c with therm := { c.therm with lost := satAdd 255 c.therm.lost 1 } }).setBits 0x0071 4

/-- Words 1 and 2 of an HOUR_COMMIT record of a meter. -/
def hourWord1 (meter : Nat) (running ceiling : Bool) (count : Nat) : Nat :=
  meter * 2 ^ 56 + b2n running * 2 ^ 55 + b2n ceiling * 2 ^ 54 + count

/-- The ceiling of a meter: 999 999.99 h (R238). -/
def meterCeil : Nat := 3599999964

/-- An HOUR_COMMIT is deferred: one record per meter is kept (R241, R850). -/
def Chip.deferHour (c : Chip) (meter w1 : Nat) : Chip :=
  { c with keeper := { c.keeper with
      deferredHours := c.keeper.deferredHours.filter (fun p => p.1 != meter) ++ [(meter, w1)] } }

/-! ### NOR operations cut short (R779, R791-R793) -/

/-- NOR contents nothing is known of: a program or erase that was cut short, or a page whose read-back failed. -/
def Chip.norSpoil (c : Chip) (a n : Nat) : Chip :=
  let k := c.start.freeCtr
  (c.upStart (fun s => { s with freeCtr := k + 1 })).upMem (fun m => { m with
    nor := memWrite 0xFF m.nor a ((List.range n).map (fun i => Config.norByte k (a + i))) })

/-- A program whose command has been sent and an erase under way or suspended end without completing (R793). -/
def Chip.norCut (c : Chip) : Chip :=
  let c1 := match c.mem.program with
    | some p => if p.sent then c.norSpoil p.addr p.bytes.length else c
    | none => c
  match c1.mem.erase with
  | some a => c1.norSpoil a 4096
  | none => c1

/-! ### Start record -/

/-- The body of the start record (06 "Start record and failure counting"). -/
def StartRec.body (r : StartRec) : List Byte :=
  leBytes 8 (r.count.toNat * 2 ^ 32 + r.unfinished * 2 ^ 24 + r.state * 2 ^ 16 + r.trigger * 2 ^ 8 + r.stirrupCause) ++
  leBytes 8 (b2n r.timeValid * 2 ^ 63 + r.sec) ++ r.hist.flatMap (fun h => leBytes 8 h.toNat)

/-- The start record read from a bank. -/
def StartRec.ofBytes (bs : List Byte) : StartRec :=
  { count := wd (leAt bs 4 4), unfinished := leAt bs 3 1, state := leAt bs 2 1, trigger := leAt bs 1 1,
    stirrupCause := leAt bs 0 1, timeValid := decide (128 ≤ leAt bs 15 1), sec := leAt bs 8 8 % 2 ^ 33,
    hist := (List.range 8).map (fun i => BitVec.ofNat 64 (leAt bs (16 + 8 * i) 8)) }

/-- The start record is changed and committed (R252, R848: a start-record commit is never held). -/
def Chip.commitStart (c : Chip) (r : StartRec) : Chip :=
  ({ c with start := { c.start with record := r } }).commitNow 1 1 r.body

/-- A history word (06). -/
def Chip.histWord (c : Chip) (cause trigger : Nat) (counted : Bool) : BitVec 64 :=
  BitVec.ofNat 64 (cause * 2 ^ 56 + trigger * 2 ^ 48 + c.start.slot * 2 ^ 46 + b2n c.start.trial * 2 ^ 45 +
    b2n counted * 2 ^ 44 + b2n c.keeper.valid * 2 ^ 33 + c.keeper.sec.toNat)

/-- The record with a history word in front (HIST0 is the newest). -/
def StartRec.push (r : StartRec) (h : BitVec 64) : StartRec := { r with hist := (h :: r.hist).take 8 }

/-- A cause goes into the history, and the record is committed; a cause with COUNTED 0 shows in SYS_START_STAT.CAUSE (R257,
R260, R295). -/
def Chip.recordCause (c : Chip) (cause : Nat) (counted : Bool) : Chip :=
  let c1 := if counted then c else { c with start := { c.start with cause := cause } }
  c1.commitStart (c1.start.record.push (c1.histWord cause c1.start.trigger counted))

end Sys2Proof.Machine
end

