-- ==== Sys2Proof/Machine/UpdRecord.lean ====
section
/-! DEFINITION. The update-state record (18 R798-R800): its 256-word body, its commits, and what WARNING does to them (R835, R848). -/

namespace Sys2Proof.Machine

/-- The body of the update-state record (R798). -/
def UpdRec.body (r : UpdRec) : List Byte :=
  leBytes 8 (r.state * 2 ^ 56 + r.boot * 2 ^ 48 + r.confirmed * 2 ^ 40 + r.trialStarts * 2 ^ 32 + r.target * 2 ^ 24 +
    r.migBank * 2 ^ 16 + r.lastErr * 2 ^ 8 + r.failedCheck) ++
  leBytes 8 (r.total * 2 ^ 32 + r.version) ++ leBytes 8 (r.trialSec * 2 ^ 32 + r.checks.toNat * 2 ^ 24) ++
  leBytes 64 r.bitmap.toNat ++ padTo 32 0 r.nextKeyHash

/-- The update-state record read from a bank. -/
def UpdRec.ofBytes (bs : List Byte) : UpdRec :=
  { state := leAt bs 7 1, boot := leAt bs 6 1, confirmed := leAt bs 5 1, trialStarts := leAt bs 4 1, target := leAt bs 3 1,
    migBank := leAt bs 2 1, lastErr := leAt bs 1 1, failedCheck := leAt bs 0 1, total := leAt bs 12 4, version := leAt bs 8 4,
    trialSec := leAt bs 20 4, checks := BitVec.ofNat 5 (leAt bs 19 1), bitmap := BitVec.ofNat 512 (leAt bs 24 64),
    nextKeyHash := slice bs 88 32 }

/-- The update-state record changes by a commit that WARNING does not hold: the trial-start and reverting commits (R816, R848), and those
made while no die is at WARNING. A queued or held commit of the record is replaced. -/
def Chip.commitUpdNow (c : Chip) (r : UpdRec) : Chip :=
  let c1 := (c.upUpd (fun u => { u with record := r, present := true })).upMram
    (fun m => { m with commits := m.commits.filter (fun q => q.1 != 2) })
  (c1.upTherm (fun t => { t with held := t.held.filter (fun h => h.1 != 2) })).commitNow 2 1 r.body

/-- The update-state record changes and is committed (R800); at WARNING the commit is held (R835, R851). -/
def Chip.commitUpd (c : Chip) (r : UpdRec) : Chip :=
  if c.therm.warning || c.therm.trip then (c.upUpd (fun u => { u with record := r, present := true })).requestCommit 2 1 r.body
  else c.commitUpdNow r

/-- The update-state record of MRAM taken into the update engine: absent when no bank is valid (R264, R799). -/
def Chip.readUpd (c : Chip) : Chip := match c.mram.current 2 with
  | some (_, bs) => c.upUpd (fun u => { u with record := UpdRec.ofBytes bs, present := true })
  | none => c.upUpd (fun u => { u with record := {}, present := false })

end Sys2Proof.Machine
end

