-- ==== Sys2Proof/Machine/Keeper.lean ====
section
/-! DEFINITION. The keeper domain (05): keeper time, its setting, slew and rate correction, the calendar view and leap seconds,
the tamper loop, the wake comparator, the journal writer and the meters' commits; and the tick of the keeper timebase. -/

namespace Sys2Proof.Machine

/-! ### Calendar (R212-R217) -/

/-- A leap year of R212. -/
def leapYear (y : Nat) : Bool := decide (y % 4 = 0) && (decide (y % 100 ≠ 0) || decide (y % 400 = 0))

/-- Days of a month (R212). -/
def monthDays (y m : Nat) : Nat :=
  if m = 2 then (if leapYear y then 29 else 28)
  else if m = 4 ∨ m = 6 ∨ m = 9 ∨ m = 11 then 30 else 31

/-- Days from 2000-01-01 to the first day of a year. -/
def daysToYear (y : Nat) : Nat :=
  let k := y - 2000
  365 * k + (k + 3) / 4 - (if 100 < k then 1 else 0)

/-- Days from the first day of a year to the first day of a month. -/
def daysToMonth (y m : Nat) : Nat := ((List.range (m - 1)).map (fun i => monthDays y (i + 1))).sum

/-- Seconds from 2000-01-01 00:00:00 of a date and time, leap seconds aside. -/
def civilSec (y mo d h mi s : Nat) : Nat := (daysToYear y + daysToMonth y mo + (d - 1)) * 86400 + h * 3600 + mi * 60 + s

/-- Seconds from 2000-01-01 to the end of 2199-12-31 (R212). -/
def calendarEnd : Nat := 73049 * 86400

/-- The year of a day number. -/
def yearOf (day : Nat) : Nat :=
  let y := 2000 + day / 366
  if daysToYear (y + 1) ≤ day then y + 1 else y

/-- Month and day of the month of a day number within a year. -/
def monthOf : Nat → Nat → Nat → Nat → Nat × Nat
  | 0, _, m, r => (m, r + 1)
  | n + 1, y, m, r => if r < monthDays y m then (m, r + 1) else monthOf n y (m + 1) (r - monthDays y m)

/-- KEEP_LEAP.COUNT as a signed count. -/
def Keeper.leap (k : Keeper) : Int := k.leapCount.toInt

/-- UTC seconds: SEC − COUNT (R213). -/
def Keeper.utc (k : Keeper) : Int := (k.sec.toNat : Int) - k.leap

/-- SEC of the first moment of a pending leap event: the inserted second, or the deleted 23:59:59 (R215, R216). -/
def Keeper.leapAt (k : Keeper) : Int :=
  (if k.leapDelete then (k.leapDay.toNat * 86400 + 86399 : Nat) else ((k.leapDay.toNat + 1) * 86400 : Nat)) + k.leap

/-- The calendar view (R213-R217): year, month, day, weekday, hour, minute, second, and whether it is held. -/
structure Calendar where
  year : Nat
  month : Nat
  day : Nat
  weekday : Nat
  hour : Nat
  minute : Nat
  second : Nat
  held : Bool
  deriving DecidableEq, Repr

/-- The view of a UTC second count within the calendar. -/
def calendarOf (u : Nat) (held : Bool) : Calendar :=
  let d := u / 86400
  let y := yearOf d
  let md := monthOf 11 y 1 (d - daysToYear y)
  { year := y, month := md.1, day := md.2, weekday := (d + 5) % 7 + 1, hour := u % 86400 / 3600,
    minute := u % 3600 / 60, second := u % 60, held := held }

/-- The live calendar view: held outside the calendar (R217), the inserted second shown as :60 (R215), the deleted second not
shown (R216). -/
def Keeper.calendar (k : Keeper) : Calendar :=
  let u := k.utc
  if u < 0 then calendarOf 0 true
  else if (calendarEnd : Int) ≤ u then calendarOf (calendarEnd - 1) true
  else if k.leapPending && !k.leapDelete && decide ((k.sec.toNat : Int) = k.leapAt) then
    { calendarOf (u.toNat - 1) false with second := 60 }
  else if k.leapPending && k.leapDelete && decide ((k.sec.toNat : Int) ≥ k.leapAt) then calendarOf (u.toNat + 1) false
  else calendarOf u.toNat false

/-! ### Setting keeper time (R203-R210) -/

/-- The change of a leap event to COUNT, and PENDING cleared (R215, R216). -/
def Keeper.applyLeap (k : Keeper) : Keeper :=
  { k with leapCount := if k.leapDelete then k.leapCount - 1 else k.leapCount + 1, leapPending := false }

/-- Keeper time steps: a pending leap event that the step crosses is applied (R244). -/
def Keeper.step (k : Keeper) (sec sub src : Nat) : Keeper :=
  let e := k.leapAt + (if k.leapDelete then 0 else 1)
  let k1 := if k.leapPending && decide ((k.sec.toNat : Int) < e) && decide (e ≤ (sec : Int)) then k.applyLeap else k
  { k1 with sec := BitVec.ofNat 33 sec, sub := BitVec.ofNat 15 sub, valid := true, tsrc := src, slew := 0, setSec := sec % 2 ^ 33 }

/-- A TIME_SET record: the previous SEC, the source and the new SEC (05, TYPE 0x02). -/
def Chip.timeSetRecord (c : Chip) (oldSec src : Nat) : Chip :=
  c.journal 0x02 0x02 oldSec (src * 2 ^ 56 + c.keeper.sec.toNat) false

/-- Keeper time is set: the step, the TIME_SET record, and the TIME_VALID signal when it changes (R203, R353). Source 1 host,
2 yard, 3 GNSS. -/
def Chip.setTime (c : Chip) (sec sub src : Nat) : Chip :=
  let old := c.keeper.sec.toNat
  let was := c.keeper.valid
  let c1 := ({ c with keeper := c.keeper.step sec sub src }).timeSetRecord old src
  if was then c1 else c1.postSignal 0x02 0x11

/-- The keeper domain runs on TBK (R153, R175). -/
def Chip.onTbk (c : Chip) : Bool := decide ((c.tb.domains.getD 2 {}).source = 1)

/-- Keeper time in units of 1/32768 s. -/
def Keeper.units (k : Keeper) : Nat := k.sec.toNat * 32768 + k.sub.toNat

/-- The rate estimate from two qualifying GNSS times at least 600 s apart, in units of 10 ppb, within ±200 ppm (R208). -/
def rateEstimate (gnss ticks : Nat) : Int :=
  clampI (-20000) 20000 (divRound (((gnss : Int) - (ticks : Int)) * 100000000) (max ticks 1))

/-- The rate correction after a qualifying GNSS time (R208, R209). -/
def Chip.rateStep (c : Chip) (units : Nat) : Chip :=
  if c.keeper.rateEn && c.onTbk then
    match c.keeper.qual with
    | none => { c with keeper := { c.keeper with qual := some (units, c.keeper.ticks) } }
    | some (u, t) =>
      if u + 600 * 32768 ≤ units then
        { c with keeper := { c.keeper with
            rate := rateEstimate (units - u) (c.keeper.ticks - t), rateAcc := 0, qual := some (units, c.keeper.ticks),
            rateTemp := c.therm.temps.getD 1 0, rateTempOk := true } }
      else c
  else c

/-- A GNSS time of a solution: it qualifies at MIN_TRUST or above (R205); 2 ms or more, or an invalid keeper time, steps
(R206); a smaller offset slews (R207). -/
def Chip.gnssTime (c : Chip) (trust sec sub : Nat) : Chip :=
  if trust < c.keeper.minTrust then c
  else
    let units := sec * 32768 + sub
    let off : Int := (units : Int) - (c.keeper.units : Int)
    let c1 := c.rateStep units
    if !c1.keeper.valid || decide (66 ≤ off) || decide (off ≤ -66) then
      (c1.setTime sec sub 3).setBits 0x4001 4
    else { c1 with keeper := { c1.keeper with slew := off, slewPhase := 0, tsrc := 3, setSec := c1.keeper.sec.toNat } }

/-- LEAP_INSERT (R215): the inserted second ends. -/
def execLeapInsert (s : State) : Host.Outcome State Fault Refusal :=
  s.run (fun c =>
    if c.keeper.leapPending && !c.keeper.leapDelete && decide (c.keeper.leapAt ≤ (c.keeper.sec.toNat : Int)) then
      { c with keeper := c.keeper.applyLeap }
    else c)

/-- LEAP_DELETE (R216): 23:59:59 of the day is skipped. -/
def execLeapDelete (s : State) : Host.Outcome State Fault Refusal :=
  s.run (fun c =>
    if c.keeper.leapPending && c.keeper.leapDelete && decide (c.keeper.leapAt ≤ (c.keeper.sec.toNat : Int)) then
      { c with keeper := c.keeper.applyLeap }
    else c)

/-- The written calendar set is refused (R219). -/
def calendarBad (y mo d h mi s : Nat) (leap : Int) : Bool :=
  decide (y < 2000) || decide (2199 < y) || decide (mo = 0) || decide (12 < mo) || decide (d = 0) || decide (monthDays y mo < d) ||
  decide (23 < h) || decide (59 < mi) || decide (59 < s) || decide ((civilSec y mo d h mi s : Int) + leap < 0)

/-- The check and apply step of KEEP_SET_CTL.ARM (R218-R220). -/
def Chip.calendarArm (c : Chip) : Chip :=
  let d := c.reg 0x4008
  let t := c.reg 0x4009
  let y := fld d 31 16
  let mo := fld d 15 8
  let dd := fld d 7 0
  let h := fld t 23 16
  let mi := fld t 15 8
  let s := fld t 7 0
  if calendarBad y mo dd h mi s c.keeper.leap then
    ((c.armLast 0x400A 2).setFld 0x400A 3 0 2).setBits 0x4000 16
  else
    let c1 := (c.armLast 0x400A 0).setFld 0x400A 3 0 0
    { c1 with keeper := { c1.keeper with calPending := some (civilSec y mo dd h mi s) } }

/-- CALENDAR_ARM (R219). -/
def execCalendarArm (s : State) : Host.Outcome State Fault Refusal := s.runHost Chip.calendarArm

/-- CALENDAR_APPLY (R220): the accepted set takes effect at the next keeper edge, with the COUNT then current. -/
def execCalendarApply (s : State) : Host.Outcome State Fault Refusal :=
  s.run (fun c => match c.keeper.calPending with
    | none => c
    | some u =>
      ({ c with keeper := { c.keeper with calPending := none } }).setTime ((u : Int) + c.keeper.leap).toNat 0 1)

/-- KEEP_DISC.ARM: the running set is held in the keeper domain (R208, R899). -/
def Chip.keepDiscArm (c : Chip) : Chip :=
  let w := c.reg 0x4010
  let en := bit w 4
  let c1 := c.armLast 0x4010 0
  let k := { c1.keeper with rateEn := en, minTrust := fld w 1 0 }
  { c1 with keeper := if en && c1.keeper.rateEn then k else { k with rate := 0, rateAcc := 0, qual := none } }

/-- KEEP_DISC_ARM (R208). -/
def execKeepDiscArm (s : State) : Host.Outcome State Fault Refusal := s.runHost Chip.keepDiscArm

/-! ### Tamper loop and wake comparator (R221-R225) -/

/-- Code of a loop state: 0 NORMAL, 1 OPEN, 2 SHORT, 3 FOREIGN. -/
def loopCode : LoopClass → Nat
  | .normal => 0
  | .opened => 1
  | .shorted => 2
  | .foreign => 3

/-- Code of a loop state in a TAMPER record and in the LOOP signal; 0xF while OFF (R223). -/
def loopState (l : Option LoopClass) : Nat := (l.map loopCode).getD 0xF

/-- A TAMPER record, with PROTECTION set (R224, R849). -/
def Chip.tamperRecord (c : Chip) (new old : Nat) : Chip := c.journal 0x02 0x03 (new * 16 + old) 0 true

/-- KEEP_LOOP_CTL.ARM (R224, R899): MODE 0b11 is refused; turning the loop off writes a TAMPER record and nothing else. -/
def Chip.keepLoopArm (c : Chip) : Chip :=
  let w := c.reg 0x4020
  let m := fld w 1 0
  if m = 3 then c.armLast 0x4020 2
  else
    let old := c.keeper.loop
    let was := c.keeper.loopMode
    let c1 := c.armLast 0x4020 0
    let c2 := { c1 with keeper := { c1.keeper with loopMode := m, loopPeriod := fld w 5 4 } }
    if m = 0 ∧ was ≠ 0 then
      let c3 := ({ c2 with keeper := { c2.keeper with loop := none, loopLast := none } }).tamperRecord 0xF (loopState old)
      if old.isSome then c3.postSignal 0x02 0x0A else c3
    else c2

/-- KEEP_LOOP_ARM (R224). -/
def execKeepLoopArm (s : State) : Host.Outcome State Fault Refusal := s.runHost Chip.keepLoopArm

/-- The class of a loop resistance in ohms, with FLOOP to FGND before the pulse in mV (R221, R222). -/
def loopClass (eol : Bool) (ohms : Nat) (idleMv : Int) : LoopClass :=
  if idleMv ≤ -500 ∨ 3000 ≤ idleMv then .foreign
  else if eol then
    if ohms < 4700 then .shorted else if ohms ≤ 22000 then .normal else .opened
  else if ohms ≤ 1000 then .normal else .opened

/-- LOOP_SAMPLE (R223, R224): the state changes when a new class has been measured in two consecutive samples. -/
def Chip.loopSample (c : Chip) (ohms : Nat) (idleMv : Int) : Chip :=
  if c.keeper.loopMode = 0 then c
  else
    let cls := loopClass (decide (c.keeper.loopMode = 2)) ohms idleMv
    let prev := c.keeper.loopLast
    let old := c.keeper.loop
    let c1 := { c with keeper := { c.keeper with loopLast := some cls } }
    if prev = some cls ∧ old ≠ some cls then
      let c2 := ({ c1 with keeper := { c1.keeper with loop := some cls, loopChanges := c1.keeper.loopChanges + 1 } }).setBits 0x4001 2
      let c3 := c2.tamperRecord (loopCode cls) (loopState old)
      (c3.keeperEvent 0x0700 0x02 (0x0700 + loopCode cls) 0).postSignal 0x02 0x0A
    else c1

/-- LOOP_SAMPLE (R223). -/
def execLoopSample (ohms : Nat) (idleMv : Int) (s : State) : Host.Outcome State Fault Refusal :=
  s.run (fun c => c.loopSample ohms idleMv)

/-- WAKE_ROSE (R225). -/
def Chip.wakeRose (c : Chip) (level : Bool) : Chip :=
  let c1 := ({ c with keeper := { c.keeper with wake := level } }).setBits 0x4001 1
  let c2 := c1.keeperEvent 0x0800 0x02 0x0800 0
  if c.keeper.wake = level then c2 else c2.postSignal 0x02 0x0B

/-- WAKE_ROSE (R225). -/
def execWakeRose (level : Bool) (s : State) : Host.Outcome State Fault Refusal := s.run (fun c => c.wakeRose level)

/-! ### Journal writer (R233, R310, R311, R848-R850) -/

/-- New records of this class may begin: outside WARNING and TRIP, or a protection record (R848, R853). -/
def Chip.mayRecord (c : Chip) (prot : Bool) : Bool := prot || !(c.therm.warning || c.therm.trip)

/-- Value of the THEFT signal (R351). -/
def theftCode : TheftState → Nat
  | .disarmed => 0
  | .armed => 1
  | .suspect => 2
  | .declared => 3

/-- A THEFT record is produced: rule, score, new and old state, and the challenge (R387, R849). -/
def Chip.theftRecord (c : Chip) (rule old : Nat) : Chip :=
  c.journal 0x03 0x07 (rule * 2 ^ 56 + c.keeper.score * 2 ^ 16 + theftCode c.keeper.theft * 16 + old) c.keeper.theftNonce.toNat true

/-- After a record has been written: a THEFT record is noted; while the state is not DISARMED another is written once JSEQ has
advanced by 2048 since the last (R390). -/
def Chip.theftNote (c : Chip) (type : Nat) : Chip :=
  let now := c.mram.newest.getD 0
  let noted := c.upKeeper (fun k => { k with theftJseq := now })
  if type = 7 then noted
  else if c.keeper.theft ≠ .disarmed ∧ 2048 ≤ (now - c.keeper.theftJseq).toNat then noted.theftRecord 0xFF (theftCode c.keeper.theft)
  else c

/-- The record of six words, each 64-bit word as two 32-bit words with the lower half first (R312). -/
def Chip.recordWords (c : Chip) (e : List Word) : Chip :=
  let h (i : Nat) : Nat := (ew e (2 * i)).toNat + (ew e (2 * i + 1)).toNat * 2 ^ 32
  c.record (h 0) (h 1) (h 2)

/-- JOURNAL_RECORD_WRITE (R233): the oldest ring-1 entry is consumed and its record written, or deferred under R850. -/
def Chip.journalWrite (c : Chip) : Chip :=
  let r := c.ring 1
  if r.fill = 0 then c
  else
    let e := c.entryAt (r.slot r.tail)
    let c0 := c.upRing 1 (fun r => { r with tail := r.tail + 1 })
    let c1 := { c0 with rings := { c0.rings with eventWritten := false } }
    if c1.mayRecord (bit (ew e 6) 0) then (c1.recordWords e).theftNote (fld (ew e 1) 31 24)
    else if fld (ew e 1) 31 24 = 1 then
      c1.deferHour (fld (ew e 3) 31 24) ((ew e 2).toNat + (ew e 3).toNat * 2 ^ 32)
    else c1.deferRecord (e.take 6)

/-- JOURNAL_RECORD_WRITE (R233). -/
def execJournalRecordWrite (s : State) : Host.Outcome State Fault Refusal := s.run Chip.journalWrite

/-- An entry with JOURNAL set is journaled by the observer; the record of THERM_TRIP is written by the TRIP sequence itself (R310, R853). -/
def needsRecord (e : Entry) : Bool := bit (ew e 0) 23 && decide (fld (ew e 0) 15 0 ≠ 0x0702 ∨ entryClass e ≠ 1)

/-- The first position at or after `p`, within `n` positions, whose ring-0 entry has JOURNAL set. -/
def Chip.journalFrom (c : Chip) : Nat → BitVec 16 → Option (BitVec 16)
  | 0, _ => none
  | n + 1, p =>
    if p = (c.ring 0).head then none
    else if needsRecord (c.entryAt ((c.ring 0).slot p)) then some p else c.journalFrom n (p + 1)

/-- An observer index moves, and its OBSERVER_OVERRUN episode ends once it is within 64 entries of HEAD (R309). -/
def Chip.moved (c : Chip) (o : Observer) (i : BitVec 16) : Observer :=
  { o with index := i, episode := o.episode && decide (64 ≤ ((c.ring 0).head - i).toNat) }

/-- The EVENT record of a ring-0 entry (R310). -/
def eventRecord (e : Entry) : List Word :=
  [wd (((ew e 2).toNat % 2 ^ 17) * 2 ^ 15 + fld (ew e 3) 14 0),
   wd (5 * 2 ^ 24 + fld (ew e 3) 30 30 * 2 ^ 23 + fld (ew e 0) 22 16 * 2 ^ 16 + (ew e 2).toNat / 2 ^ 17 + fld (ew e 3) 31 31 * 2 ^ 15),
   ew e 4, ew e 0, ew e 1, ew e 5]

/-- JOURNAL_EVENT_RECORD (R310, R311): at most one EVENT record between two ring-1 records while both wait. -/
def Chip.journalEvent (c : Chip) : Chip :=
  if c.rings.eventWritten && decide ((c.ring 1).fill ≠ 0) then c
  else match c.journalFrom 64 c.rings.obsMram.index with
    | none => { c with rings := { c.rings with obsMram := c.moved c.rings.obsMram (c.ring 0).head } }
    | some p =>
      let e := c.entryAt ((c.ring 0).slot p)
      let c1 := { c with rings := { c.rings with obsMram := c.moved c.rings.obsMram (p + 1), eventWritten := true } }
      if c1.mayRecord (decide (entryClass e = 1)) then (c1.recordWords (eventRecord e)).theftNote 5 else c1.deferRecord (eventRecord e)

/-- JOURNAL_EVENT_RECORD (R310). -/
def execJournalEventRecord (s : State) : Host.Outcome State Fault Refusal := s.run Chip.journalEvent

/-! ### Hour meters (R237, R238, R376-R379) -/

/-- A meter. -/
def Chip.meter (c : Chip) (m : Nat) : Meter := c.keeper.meters.getD m {}

/-- A meter changed. -/
def Chip.upMeter (c : Chip) (m : Nat) (f : Meter → Meter) : Chip :=
  { c with keeper := { c.keeper with meters := c.keeper.meters.modify m f } }

/-- The HOUR_COMMIT record of a meter is produced, or deferred at WARNING (R237, R241). -/
def Chip.commitHour (c : Chip) (m : Nat) : Chip :=
  let x := c.meter m
  let w1 := hourWord1 m x.running (decide (x.count = meterCeil)) x.count
  let c1 := c.upMeter m (fun x => { x with committed := x.count, commitDue := false })
  if c1.therm.warning || c1.therm.trip then c1.deferHour m w1 else c1.journal 0x02 0x01 w1 0 false

/-- HOUR_COMMIT (R237): after every 60 s counted since the last commit, and when the meter stops. -/
def execHourCommit (meter : Nat) (s : State) : Host.Outcome State Fault Refusal :=
  s.run (fun c =>
    let x := c.meter meter
    if decide (meter < 16) && (x.commitDue || decide (x.committed + 60 ≤ x.count)) then c.commitHour meter else c)

/-- METER_MARK (R379): once, when the count first reaches MARK hours. -/
def execMeterMark (meter : Nat) (s : State) : Host.Outcome State Fault Refusal :=
  s.run (fun c =>
    let x := c.meter meter
    let mark := c.rules.marks.getD meter 0
    if decide (meter < 16) && decide (mark ≠ 0) && !x.marked && decide (mark * 3600 ≤ x.count) then
      (c.upMeter meter (fun x => { x with marked := true })).keeperEvent (0x0F00 + meter) 0x02 (0x0F00 + meter) 0
    else c)

/-- METER_CEILING (R238, R379): the meter stops counting, holds its value and commits with CEILING. -/
def execMeterCeiling (meter : Nat) (s : State) : Host.Outcome State Fault Refusal :=
  s.run (fun c =>
    let x := c.meter meter
    if decide (meter < 16) && x.running && decide (meterCeil ≤ x.count) then
      ((c.upMeter meter (fun x => { x with running := false, count := meterCeil })).commitHour meter).keeperEvent
        (0x1000 + meter) 0x02 (0x1000 + meter) 0
    else c)

/-! ### Retention, hours and the tick -/

/-- RETENTION_LOST (R89, R140): while the core has no supply, the keeper domain loses what it holds; the next start finds it. -/
def execRetentionLost (s : State) : Host.Outcome State Fault Refusal :=
  s.runPower (fun c => if c.power.coreSupplied || !c.keeper.powered then c else
    (c.upKeeper (fun k => { k with lost := true })).upPower (fun p => { p with vcapGood := false }))

/-- CALENDAR_HOUR_CHANGE (R353): HOUR changes, and WEEKDAY with the day; while keeper time is invalid both read 0xFFFF and do
not change (R352). -/
def execCalendarHourChange (day : Bool) (s : State) : Host.Outcome State Fault Refusal :=
  s.run (fun c =>
    if c.keeper.valid then
      let c1 := c.postSignal 0x02 0x14
      if day then c1.postSignal 0x02 0x15 else c1
    else c)

/-- SUB increments of one keeper timebase cycle before slew and rate: 1 on TBK; on TBS 1, and one more in 3 of every 125
cycles, evenly spread (R202). -/
def baseInc (tbk : Bool) (phase : Nat) : Nat :=
  if tbk then 1 else 1 + ((phase + 1) * 3 / 125 - phase * 3 / 125)

/-- One increment in every 2000 added or withheld by the slew (R207): the change, and the slew and its phase afterwards. -/
def slewInc (slew : Int) (phase : Nat) : Int × Int × Nat :=
  if slew = 0 then (0, 0, 0)
  else if phase < 1999 then (0, slew, phase + 1)
  else if 0 < slew then (1, slew - 1, 0) else (-1, slew + 1, 0)

/-- Single increments added or withheld by the rate correction (R208): the change and the remainder. -/
def rateInc (acc : Int) : Int × Int :=
  if 100000000 ≤ acc then (1, acc - 100000000) else if acc ≤ -100000000 then (-1, acc + 100000000) else (0, acc)

/-- The keeper time counter over one cycle of its timebase (R202, R207, R208). -/
def Keeper.count (k : Keeper) (tbk : Bool) : Keeper :=
  let sl := slewInc k.slew k.slewPhase
  let rt := rateInc (if tbk then k.rateAcc + k.rate else 0)
  let inc : Nat := ((baseInc tbk k.tbsPhase : Int) + sl.1 + rt.1).toNat
  let t := k.sub.toNat + inc
  { k with sec := if 32768 ≤ t then k.sec + 1 else k.sec, sub := BitVec.ofNat 15 t, tbsPhase := (k.tbsPhase + 1) % 125,
           slew := sl.2.1, slewPhase := sl.2.2, rateAcc := rt.2, ticks := k.ticks + 1, divider := (k.divider + 1) % 32768 }

/-- A rule timer over one step of 1/64 s (R375). -/
def RuleTimer.step (t : RuleTimer) : RuleTimer :=
  if t.running then { t with remain := t.remain - 1 } else t

/-- A meter over one keeper second (R376, R238). -/
def Meter.second (m : Meter) : Meter :=
  if m.running && decide (m.count < meterCeil) then { m with count := m.count + 1 } else m

/-- One cycle of the keeper timebase: keeper time; every 512 cycles the timers; every 32 768 cycles the meters, the SUSPECT
window and the trial clock. No timebase runs in SHIP (R168), and the keeper domain is stopped between the stop and the
release of a switch (R175). -/
def Chip.keeperTick (c : Chip) : Chip :=
  let stopped := ((c.tb.domains.getD 2 {}).switch).any (fun s => decide (s.stage ≠ .requested))
  if c.mode = 0 ∨ stopped = true then c
  else
    let k1 := c.keeper.count c.onTbk
    let k2 := if k1.divider % 512 = 0 then { k1 with timers := k1.timers.map RuleTimer.step } else k1
    let k3 := if k2.divider = 0 then { k2 with meters := k2.meters.map Meter.second, window := k2.window - 1 } else k2
    { c with keeper := k3, upd := if k3.divider = 0 then { c.upd with trialRun := c.upd.trialRun + 1 } else c.upd }

end Sys2Proof.Machine
end

