-- ==== Sys2Proof/Machine/Fence.lean ====
section
/-! DEFINITION. Geofences (08 R381-R385): the fence record and its checks, the projection onto the WGS 84 local tangent plane
at vertex 0 in exact integer arithmetic (millimetres, trigonometry to 40 binary places, well inside the 0.1 m of R383), and
the classification of a solution. -/

namespace Sys2Proof.Machine

/-- Integer square root, from the highest of 64 binary places down. -/
def isqrt (n : Nat) : Nat :=
  (List.range 64).foldl (fun r i => let b := r + 2 ^ (63 - i); if b * b ≤ n then b else r) 0

/-- Binary places of the trigonometric values. -/
def trigOne : Int := 1099511627776

/-- The next terms of a sine series: term, square of the angle, order, terms left. -/
def sinTerms : Nat → Int → Int → Nat → Int
  | 0, _, _, _ => 0
  | n + 1, t, x2, k => t + sinTerms n (-(t * x2 / trigOne) / ((2 * k * (2 * k + 1) : Nat) : Int)) x2 (k + 1)

/-- Sine of an angle from 0 to 90 degrees in units of 10^-7 degree. -/
def sinQ (a : Nat) : Int :=
  let x : Int := (a : Int) * trigOne * 31415926535897932385 / (1800000000 * 10000000000000000000)
  sinTerms 14 x (x * x / trigOne) 1

/-- Sine of any angle in units of 10^-7 degree. -/
def sinD (a : Int) : Int :=
  let m := (a % 3600000000).toNat
  if m ≤ 900000000 then sinQ m
  else if m ≤ 1800000000 then sinQ (1800000000 - m)
  else if m ≤ 2700000000 then -sinQ (m - 1800000000)
  else -sinQ (3600000000 - m)

/-- Cosine of any angle in units of 10^-7 degree. -/
def cosD (a : Int) : Int := sinD (a + 900000000)

/-- Earth-fixed coordinates in mm of a point of the WGS 84 ellipsoid (a = 6 378 137 m, e² = 0.00669437999014). -/
def ecef (lat lon : Int) : Int × Int × Int :=
  let s := sinD lat
  let c := cosD lat
  let e2s := 669437999014 * (s * s / trigOne) / 100000000000000
  let n : Int := 6378137000 * trigOne / ((isqrt ((trigOne - e2s) * trigOne).toNat : Nat) : Int)
  (n * c / trigOne * cosD lon / trigOne, n * c / trigOne * sinD lon / trigOne,
   n * (100000000000000 - 669437999014) / 100000000000000 * s / trigOne)

/-- East and north in mm of a point on the tangent plane at an origin, and the square of its distance from the origin in m². -/
def tangent (o p : Int × Int) : Int × Int × Int :=
  let a := ecef o.1 o.2
  let b := ecef p.1 p.2
  let dx := b.1 - a.1
  let dy := b.2.1 - a.2.1
  let dz := b.2.2 - a.2.2
  let sl := sinD o.2
  let cl := cosD o.2
  let sp := sinD o.1
  let cp := cosD o.1
  ((cl * dy - sl * dx) / trigOne,
   (cp * dz - sp * ((cl * dx + sl * dy) / trigOne)) / trigOne,
   (dx * dx + dy * dy + dz * dz) / 1000000)

/-- Twice the signed area of a triangle: positive when `p` lies left of the line from `a` to `b`. -/
def cross (a b p : Int × Int) : Int := (b.1 - a.1) * (p.2 - a.2) - (b.2 - a.2) * (p.1 - a.1)

/-- A point on the line of a segment lies within its box. -/
def inBox (a b p : Int × Int) : Bool :=
  decide (min a.1 b.1 ≤ p.1) && decide (p.1 ≤ max a.1 b.1) && decide (min a.2 b.2 ≤ p.2) && decide (p.2 ≤ max a.2 b.2)

/-- Two segments meet. -/
def segMeet (a b c d : Int × Int) : Bool :=
  let d1 := cross c d a
  let d2 := cross c d b
  let d3 := cross a b c
  let d4 := cross a b d
  (decide ((0 < d1 ∧ d2 < 0) ∨ (d1 < 0 ∧ 0 < d2)) && decide ((0 < d3 ∧ d4 < 0) ∨ (d3 < 0 ∧ 0 < d4))) ||
  (decide (d1 = 0) && inBox c d a) || (decide (d2 = 0) && inBox c d b) ||
  (decide (d3 = 0) && inBox a b c) || (decide (d4 = 0) && inBox a b d)

/-- The edges of a polygon. -/
def edges (vs : List (Int × Int)) : List ((Int × Int) × (Int × Int)) :=
  vs.zip (vs.drop 1 ++ vs.take 1)

/-- Two edges of a polygon of `n` vertices cross or touch other than at a shared vertex (R382). -/
def edgesClash (n i j : Nat) (e f : (Int × Int) × (Int × Int)) : Bool :=
  if j = i + 1 then decide (cross e.1 e.2 f.2 = 0) && (inBox e.1 e.2 f.2 || inBox f.1 f.2 e.1)
  else if i = 0 ∧ j + 1 = n then decide (cross f.1 f.2 e.2 = 0) && (inBox f.1 f.2 e.2 || inBox e.1 e.2 f.1)
  else segMeet e.1 e.2 f.1 f.2

/-- Polygon edges cross or touch (R382). -/
def polygonCrosses (vs : List (Int × Int)) : Bool :=
  let es := edges vs
  let n := vs.length
  (List.range n).any (fun i => (List.range n).any (fun j =>
    decide (i < j) && edgesClash n i j (es.getD i ((0, 0), (0, 0))) (es.getD j ((0, 0), (0, 0)))))

/-- The used vertices on the tangent plane at vertex 0. -/
def Fence.plane (f : Fence) : List (Int × Int) :=
  f.vertices.map (fun v => let t := tangent (f.vertices.getD 0 (0, 0)) v; (t.1, t.2.1))

/-- A fence record of 140 bytes (R381). -/
def Fence.ofBytes (bs : List Byte) : Fence :=
  { shape := leAt bs 0 1, n := leAt bs 1 1, minTrust := leAt bs 2 1, announceFirst := decide (leAt bs 3 1 % 2 = 1),
    margin := leAt bs 4 2, radius := leAt bs 8 4,
    vertices := (List.range (min 16 (leAt bs 1 1))).map (fun i => (sx 32 (leAt bs (12 + 8 * i) 4), sx 32 (leAt bs (16 + 8 * i) 4))) }

/-- A fence record is malformed (R381, R382). -/
def fenceMalformed (bs : List Byte) : Bool :=
  let f := Fence.ofBytes bs
  decide (2 < f.shape) || decide (3 < f.minTrust) || decide (1 < leAt bs 3 1) || decide (1000 < f.margin) || decide (leAt bs 6 2 ≠ 0) ||
  (if f.shape = 0 then false
   else if f.shape = 1 then decide (f.n ≠ 1) || decide (f.radius < 10) || decide (20000 < f.radius) ||
     f.vertices.any (fun v => decide (850000000 < v.1) || decide (v.1 < -850000000) || decide (1800000000 < v.2) || decide (v.2 < -1800000000))
   else decide (f.n < 3) || decide (16 < f.n) || decide (f.radius ≠ 0) ||
     f.vertices.any (fun v => decide (850000000 < v.1) || decide (v.1 < -850000000) || decide (1800000000 < v.2) || decide (v.2 < -1800000000) ||
       decide (20000 * 20000 < (tangent (f.vertices.getD 0 (0, 0)) v).2.2)) ||
     polygonCrosses f.plane)

/-- A point lies inside a polygon: crossings of a ray to the east. -/
def inPolygon (vs : List (Int × Int)) (p : Int × Int) : Bool :=
  decide (((edges vs).filter (fun e =>
    decide ((e.1.2 ≤ p.2 ∧ p.2 < e.2.2 ∧ 0 < cross e.1 e.2 p) ∨ (e.2.2 ≤ p.2 ∧ p.2 < e.1.2 ∧ cross e.1 e.2 p < 0)))).length % 2 = 1)

/-- A point lies farther than `m` mm from a segment. -/
def farFrom (m : Int) (p : Int × Int) (e : (Int × Int) × (Int × Int)) : Bool :=
  let a := e.1
  let b := e.2
  let dot := (b.1 - a.1) * (p.1 - a.1) + (b.2 - a.2) * (p.2 - a.2)
  let len := (b.1 - a.1) * (b.1 - a.1) + (b.2 - a.2) * (b.2 - a.2)
  if dot ≤ 0 then decide (m * m < (p.1 - a.1) * (p.1 - a.1) + (p.2 - a.2) * (p.2 - a.2))
  else if len ≤ dot then decide (m * m < (p.1 - b.1) * (p.1 - b.1) + (p.2 - b.2) * (p.2 - b.2))
  else decide (m * m * len < cross a b p * cross a b p)

/-- Whether a position lies inside the boundary, and whether it lies more than MARGIN from it (R383, R384). A position more than
100 km from vertex 0 is outside every fence, beyond every margin. -/
def Fence.test (f : Fence) (lat lon : Int) : Bool × Bool :=
  let t := tangent (f.vertices.getD 0 (0, 0)) (lat, lon)
  let p : Int × Int := (t.1, t.2.1)
  let m : Int := (f.margin : Int) * 1000
  if 100000 * 100000 < t.2.2 then (false, true)
  else if f.shape = 1 then
    let d2 := p.1 * p.1 + p.2 * p.2
    let r : Int := (f.radius : Int) * 1000
    let inside := decide (d2 ≤ r * r)
    (inside, if inside then decide (0 < r - m) && decide (d2 < (r - m) * (r - m)) else decide ((r + m) * (r + m) < d2))
  else (inPolygon f.plane p, (edges f.plane).all (farFrom m p))

/-- The state of a fence after a position (R384). -/
def Fence.next (f : Fence) (st : FenceState) (lat lon : Int) : FenceState :=
  let t := f.test lat lon
  match st with
  | .unknown => if t.1 then .inside else .outside
  | .inside => if !t.1 && t.2 then .outside else .inside
  | .outside => if t.1 && t.2 then .inside else .outside

/-- One fence against a solution: its state, FENCE_ENTERED or FENCE_EXITED, and the FENCE signal (R353, R384). -/
def Chip.fenceStep (lat lon : Int) (trust : Nat) (c : Chip) (i : Nat) : Chip :=
  let f := c.rules.fences.getD i {}
  let st := c.rules.fenceState.getD i .unknown
  if f.shape = 0 ∨ trust < f.minTrust then c
  else
    let n := f.next st lat lon
    if n = st then c
    else
      let c1 := { c with rules := { c.rules with fenceState := c.rules.fenceState.set i n } }
      let c2 := if st ≠ .unknown ∨ f.announceFirst = true then
          c1.event 0x08 (if n = .inside then 0x02 else 0x03) i 0 else c1
      c2.postSignal 0x08 (0x20 + i)

/-- Each navigation solution classifies every used fence (R384). -/
def Chip.fencesStep (c : Chip) (lat lon : Int) (trust : Nat) : Chip :=
  (List.range 16).foldl (Chip.fenceStep lat lon trust) c

end Sys2Proof.Machine
end

