-- ==== Sys2Proof/Machine/ModeReq.lean ====
section
/-! DEFINITION. Asking the mode controller for a transition (03 R129-R133, R143, R902): the request, the lanes it wakes, and the
mode that follows a fix or a burst. Completing a transition is MODE_CHANGED. -/

namespace Sys2Proof.Machine

/-- Rank of the source of a mode change: protection and supply 1, theft 2, host 3, rules 4 (03 "Transitions"). -/
def reasonRank : Reason → Nat
  | .protection => 1
  | .supply => 1
  | .theft => 2
  | .host => 3
  | .rule => 4
  | .burstEnd => 4
  | .start => 4

/-- PARKED lanes that a mode needs begin to wake (R34). -/
def wakeFor (m : Nat) (ls : List LaneState) : List LaneState :=
  (List.range 4).map (fun l =>
    let x := ls.getD l .parked
    if (modeLanes m).getD l false ∧ x = .parked then .waking else x)

/-- A transition begins: its target and source are recorded, and the dies it needs are powered. -/
def Chip.beginTransition (c : Chip) (target : Nat) (r : Reason) : Chip :=
  { c with modes := { c.modes with transition := some (target, r) },
           girth := { c.girth with lanes := wakeFor target c.girth.lanes } }

/-- A transition is asked for by a source that R129 allows. One in progress is overtaken by a source of higher rank; otherwise
the new one follows it. From KEEPER, FIX and LINK are reached through WATCH (R902). -/
def Chip.goTo (c : Chip) (target : Nat) (r : Reason) : Chip :=
  match c.modes.transition with
  | some (_, r0) =>
    if reasonRank r < reasonRank r0 then
      ({ c with modes := { c.modes with thenTo := none } }).beginTransition target r
    else { c with modes := { c.modes with thenTo := some (target, r) } }
  | none =>
    if c.mode = target then c
    else if c.mode = 1 ∧ (target = 3 ∨ target = 4) then
      ({ c with modes := { c.modes with thenTo := some (target, r) } }).beginTransition 2 r
    else c.beginTransition target r

/-- IDLE_MODE in force; its inert value is KEEPER (R879). -/
def Chip.idleMode (c : Chip) : Nat := if c.runF 0x22 3 0 = 2 then 2 else 1

/-- No work keeps the unit in WATCH: no sequence, fix or burst is open or waits. -/
def Chip.noWork (c : Chip) : Bool :=
  c.seqs.all (fun q => !q.opened) && decide (c.acq.state = .idle) && !c.radio.burstWanted && decide (c.modes.transition = none)

/-- WATCH leaves for KEEPER when IDLE_MODE is KEEPER and no work is pending (R132). -/
def Chip.idleCheck (c : Chip) : Chip :=
  if c.mode = 2 ∧ c.idleMode = 1 ∧ c.noWork = true then c.goTo 1 .burstEnd else c

/-- FIX is left: for LINK when a radio burst is due, otherwise for WATCH while a snapshot is still searched (R557) or for
IDLE_MODE (R132). -/
def Chip.leaveFix (c : Chip) : Chip :=
  if c.mode = 3 then
    if c.radio.burstWanted && !c.girth.radioRefused then c.goTo 4 .burstEnd
    else if c.acq.state = .correlating ∨ c.acq.state = .solving then c.goTo 2 .burstEnd
    else c.goTo c.idleMode .burstEnd
  else c.idleCheck

/-- LINK is left: for FIX when a fix waits or a burst is paused, otherwise for IDLE_MODE (R132, R557). -/
def Chip.leaveLink (c : Chip) : Chip :=
  if c.mode = 4 then
    if (decide (c.acq.state = .waiting) || decide (c.acq.state = .paused)) && !c.girth.radioRefused then c.goTo 3 .burstEnd
    else if c.acq.state = .correlating ∨ c.acq.state = .solving then c.goTo 2 .burstEnd
    else c.goTo c.idleMode .burstEnd
  else c.idleCheck

end Sys2Proof.Machine
end

