-- ==== Sys2Proof/Machine/Track.lean ====
section
/-! DEFINITION. GNSS tracking, measurement epochs, navigation units, the solver's results and trust, and the time pulse (13). -/

namespace Sys2Proof.Machine

/-! ### Channels -/

/-- Tracker channel `n`. -/
def Chip.chan (c : Chip) (n : Nat) : Channel := c.track.channels.getD n {}

/-- Tracker channel `n` changed. -/
def Chip.upChan (c : Chip) (n : Nat) (f : Channel → Channel) : Chip :=
  { c with track := { c.track with channels := c.track.channels.modify n f } }

/-- A channel is released. -/
def Chip.release (c : Chip) (n : Nat) : Chip := c.upChan n (fun _ => {})

/-- Every channel is released (R611, R612, R617). -/
def Chip.releaseAll (c : Chip) : Chip := { c with track := { c.track with channels := List.replicate 72 {} } }

/-- The channel a detection takes: the lowest-numbered free one, else the one of lowest C/N0 when the detection is at least 3 dB
above it (R577). -/
def Chip.channelFor (c : Chip) (cn0 : Nat) : Option Nat :=
  match (List.range 72).find? (fun i => !(c.chan i).busy) with
  | some i => some i
  | none =>
    let lo := (List.range 72).foldl (fun b i => if (c.chan i).cn0 < (c.chan b).cn0 then i else b) 0
    if (c.chan lo).cn0 + 300 ≤ cn0 then some lo else none

/-- A detection is handed to a tracker channel (R556, R577). -/
def Chip.handOff (c : Chip) (system band sv cn0 : Nat) : Chip :=
  match c.channelFor cn0 with
  | none => c
  | some i => c.upChan i (fun _ => { busy := true, system := system, band := band, sv := sv, cn0 := cn0 })

/-- A data-only signal, which is carrier locked only with bit sync (R578): GPS and QZSS L1C/A, GLONASS. -/
def dataOnly (system band : Nat) : Bool := decide (band = 0) && [0, 3, 4].contains system

/-- CODE_LOCK (R578). -/
def execCodeLock (ch : Nat) (s : State) : Host.Outcome State Fault Refusal :=
  s.run (fun c => c.upChan ch (fun x => if x.busy then { x with code := true } else x))

/-- CARRIER_LOCK (R578, R589): carrier phase and lock time restart. -/
def execCarrierLock (ch : Nat) (bitSync : Bool) (s : State) : Host.Outcome State Fault Refusal :=
  s.run (fun c => c.upChan ch (fun x =>
    if x.busy && x.code && (bitSync || !dataOnly x.system x.band) then { x with carrier := true, phase := 0, lock := 0 } else x))

/-- CODE_LOCK_TIMEOUT (R578): a channel without code lock is released. -/
def execCodeLockTimeout (ch : Nat) (s : State) : Host.Outcome State Fault Refusal :=
  s.run (fun c => if (c.chan ch).busy && !(c.chan ch).code then c.release ch else c)

/-- CYCLE_SLIP (R588, R589). -/
def execCycleSlip (ch : Nat) (s : State) : Host.Outcome State Fault Refusal :=
  s.run (fun c => c.upChan ch (fun x =>
    if x.busy && x.carrier then { x with slip := true, slips := x.slips + 1, phase := 0, lock := 0 } else x))

/-- NAV_SYNC_LOST (R591): the channel searches again after three consecutive units that failed their check. -/
def execNavSyncLost (ch : Nat) (s : State) : Host.Outcome State Fault Refusal :=
  s.run (fun c => c.upChan ch (fun x => if x.busy then { x with navSync := false } else x))

/-- CHANNEL_LOSS (R579): the channel is released and its signal returns to acquisition as a WARM task; passes at ±6 kHz. -/
def execChannelLoss (ch : Nat) (s : State) : Host.Outcome State Fault Refusal :=
  s.run (fun c =>
    let x := c.chan ch
    if x.busy then
      let c1 := c.release ch
      { c1 with acq := { c1.acq with tasks := c1.acq.tasks ++
          [{ system := x.system, band := x.band, sv := x.sv, cls := 2, phase := 0, passesLeft := 240 }] } }
    else c)

/-! ### The time pulse (R602-R618) -/

/-- Growth of the drift uncertainty since its estimate: 0.01 ppm a day and 0.02 ppm a degree, in ppb (R598). -/
def Chip.driftUnc (c : Chip) : Nat :=
  let k := c.acq.keep
  k.driftUnc + (c.keeper.sec.toNat - k.driftSec) * 10 / 86400 + ((c.therm.temps.getD 1 0 - k.driftTemp).natAbs * 20) / 16

/-- UTC parameters have been decoded or are kept (R609). -/
def Keep.utcValid (k : Keep) : Bool := k.utc.any (fun w => decide (w ≠ 0))

/-- A time message (R609): KIND, the pulse instant, QERR, its error estimate, EDGE and GPS minus UTC. -/
def Chip.timeEntry (c : Chip) (kind sec ms : Nat) (qerr : Int) (tErr : Nat) (edge : Word) (leap : Int) : Entry :=
  [wd (kind * 2 ^ 24 + c.track.trust % 4 * 2 ^ 22 + c.runF 0x2C00 3 2 * 2 ^ 20 + b2n (decide (c.track.tp = .holdover)) * 2 ^ 19 +
      b2n c.keeper.leapPending * 2 ^ 18 + b2n c.acq.keep.utcValid * 2 ^ 17 + c.track.pulseNo.toNat),
   wd sec, wd (sec / 2 ^ 32 % 2 * 2 ^ 31 + ms % 1024), wdI qerr, wd (tErr % 65536 * 65536 + min c.driftUnc 65535),
   wdI c.acq.keep.drift, edge, wd (c.track.epochId.toNat * 65536 + ux 8 leap * 256)]

/-- ML-G period arithmetic (R604, R605): the edge nearest to an ideal instant given in ps after an epoch, ties to the earlier
edge, and QERR in ps, for a drift in ppb. ML-G runs at 104 MHz × (1 + drift). -/
def nearestEdge (idealPs : Nat) (drift : Int) : Nat × Int :=
  let f := (1000000000 + drift).toNat * 104000000
  let n := (2 * idealPs * f + 1000000000000000000000 - 1) / (2 * 1000000000000000000000)
  (n, (idealPs : Int) - divRound ((n : Int) * 1000000000000000000000) (max f 1))

/-- TP drives a pulse only while ML-G runs and the mode gives TP the state F (R69, R608). -/
def Chip.tpDrives (c : Chip) : Bool := c.tb.mlg && rgPowered c.mode

/-- TIME_MESSAGE (R604-R607, R609): the next pulse is placed and announced. -/
def execTimeMessage (sec ms : Nat) (epochMlg : Word) (idealPs tErr : Nat) (leap : Int) (s : State) : Host.Outcome State Fault Refusal :=
  s.run (fun c =>
    if (c.track.tp = .running ∨ c.track.tp = .holdover) ∧ c.track.announced = none then
      let e := nearestEdge idealPs c.acq.keep.drift
      let m := c.timeEntry 1 sec ms e.2 tErr (epochMlg + wd e.1) leap
      let c1 := { c with track := { c.track with announced := some m, qerr := e.2,
                                                 tpCfg := [c.runW 0x2C00, c.runW 0x2C01, c.runW 0x2C02] } }
      c1.produce 0x08 20 m
    else c)

/-- The state of the pulse after an announced pulse has passed: off once EN is 0 (R602, R614). -/
def Chip.tpSettle (c : Chip) : Chip :=
  if c.runB 0x2C00 0 then c else { c with track := { c.track with tp := .off } }

/-- TIME_PULSE (R604, R606, R613): the announced pulse's leading edge. -/
def execTimePulse (s : State) : Host.Outcome State Fault Refusal :=
  s.run (fun c =>
    if c.track.announced.isSome && c.tpDrives then
      ({ c with track := { c.track with announced := none, tpActive := true, pulseNo := c.track.pulseNo + 1 } }).tpSettle
    else c)

/-- PULSE_END (R602): WIDTH after the leading edge TP returns to its inactive level. -/
def execPulseEnd (s : State) : Host.Outcome State Fault Refusal :=
  s.run (fun c => { c with track := { c.track with tpActive := false } })

/-- PULSE_SKIPPED (R608): a pulse falls due that TP cannot drive: a SKIPPED message and no edge. -/
def execPulseSkipped (sec ms : Nat) (leap : Int) (s : State) : Host.Outcome State Fault Refusal :=
  s.run (fun c =>
    if (c.track.tp = .running ∨ c.track.tp = .holdover) ∧ c.tpDrives = false then
      let c1 := c.produce 0x08 20 (c.timeEntry 2 sec ms 0 0 0 leap)
      ({ c1 with track := { c1.track with announced := none, pulseNo := c1.track.pulseNo + 1 } }).tpSettle
    else c)

/-- TP stops: it is inactive, a STOPPED message is produced, and the pulse waits for trust (R607, R611). -/
def Chip.tpStop (c : Chip) : Chip :=
  if c.track.tp = .running ∨ c.track.tp = .holdover then
    let c1 := c.produce 0x08 20 (c.timeEntry 3 c.keeper.sec.toNat (c.keeper.sub.toNat * 1000 / 32768) 0 0 0 0)
    { c1 with track := { c1.track with tp := if c1.runB 0x2C00 0 then .waiting else .off, tpActive := false, announced := none } }
  else c

/-- TP_STOPPED (R607): HOLDOVER seconds have passed. -/
def execTpStopped (s : State) : Host.Outcome State Fault Refusal :=
  s.run (fun c => if c.track.tp = .holdover then c.tpStop else c)

/-- Solutions of sufficient trust stop: pulses continue from the drift model for HOLDOVER seconds (R607). -/
def Chip.tpHold (c : Chip) : Chip :=
  if c.track.tp = .running then
    { c with track := { c.track with tp := .holdover } }
  else c

/-- The pulse after a solution (R607): it runs while the trust is at least TP_MIN_TRUST. -/
def Chip.tpSolution (c : Chip) (ok : Bool) (trust : Nat) : Chip :=
  if c.track.tp = .off then c
  else if ok && decide (c.runF 0x2C00 5 4 ≤ trust) then { c with track := { c.track with tp := .running } }
  else c.tpHold

/-- Allowed values of PERIOD (R602). -/
def tpPeriods : List Nat := [100, 125, 200, 250, 400, 500, 625, 1000, 1250, 2000, 2500, 5000, 10000]

/-- The check of GTIM_TP_CFG (R602, R620): 0 ACCEPTED, 6 REFUSED_RANGE. -/
def Chip.tpCheck (c : Chip) : Nat :=
  let p := c.rf 0x2C01 13 0
  let w := c.rf 0x2C01 29 16
  if tpPeriods.contains p && decide (0 < w) && decide (2 * w ≤ p) && decide (c.rf 0x2C02 11 0 ≤ 3600) then 0 else 6

/-- GTIM_TP_CFG.ARM (R602, R614): applied first to the pulse announced next. -/
def Chip.tpCfgArm (c : Chip) : Chip :=
  let r := c.tpCheck
  let c1 := c.armLast 0x2C00 r
  if r = 0 then
    let c2 := c1.applyWords (c.shadow 0x2C00 3)
    if c2.runB 0x2C00 0 then
      if c2.track.tp = .off then { c2 with track := { c2.track with tp := .waiting } } else c2
    else if c2.track.announced = none then { c2 with track := { c2.track with tp := .off } } else c2
  else c1

/-- TP_CFG_ARM (R602). -/
def execTpCfgArm (s : State) : Host.Outcome State Fault Refusal := s.runHost Chip.tpCfgArm

/-! ### Epochs (R583-R590) -/

/-- The check of GTRK_CFG (R583, R620). -/
def Chip.gtrkCheck (c : Chip) : Nat :=
  let w := c.reg 0x2800
  if decide (15 ≤ fld w 23 16) && decide (fld w 23 16 ≤ 35) && [1, 2, 4, 5, 10, 20].contains (fld w 4 0) then 0 else 6

/-- An accepted GTRK_CFG set applies; a new EPOCH_RATE makes the epoch discontinuous (R590, R615). -/
def Chip.gtrkApply (c : Chip) (ws : List (Nat × Word)) : Chip :=
  let old := c.runF 0x2800 4 0
  let c1 := c.applyWords ws
  if c1.runF 0x2800 4 0 = old then c1 else { c1 with track := { c1.track with discont := true } }

/-- GTRK_CFG.ARM (R583, R615): applied at the next epoch while tracking runs. -/
def Chip.gtrkCfgArm (c : Chip) : Chip :=
  let r := c.gtrkCheck
  let c1 := c.armLast 0x2800 r
  if r = 0 then (if c1.tracking then c1.holdSet 0x2800 (c.shadow 0x2800 1) else c1.gtrkApply (c.shadow 0x2800 1)) else c1

/-- GTRK_CFG_ARM (R583). -/
def execGtrkCfgArm (s : State) : Host.Outcome State Fault Refusal := s.runHost Chip.gtrkCfgArm

/-- GTRK_TRUST_CFG.ARM (R615, R620): applies to the next solution. -/
def Chip.gtrkTrustArm (c : Chip) : Chip :=
  let w := c.reg 0x2868
  if decide (5 ≤ fld w 15 8) && decide (fld w 15 8 ≤ 50) && decide (45 ≤ fld w 7 0) && decide (fld w 7 0 ≤ 60) then
    (c.armLast 0x2868 0).applyWords (c.shadow 0x2868 1)
  else c.armLast 0x2868 6

/-- GTRK_TRUST_ARM (R615). -/
def execGtrkTrustArm (s : State) : Host.Outcome State Fault Refusal := s.runHost Chip.gtrkTrustArm

/-- What a code-locked channel latches at the epoch edge (R585, R589). -/
def Channel.latch (x : Channel) (m : Meas) : Channel :=
  { x with cn0 := m.cn0, txValid := m.txValid, txMs := m.txMs, half := m.half, blanked := m.blanked,
           phase := if x.carrier then x.phase + wdI m.carrier else x.phase,
           lock := if x.carrier then satAdd 65535 x.lock m.elapsed else x.lock }

/-- A ring-18 channel entry (R588). -/
def channelEntry (id : Nat) (x : Channel) (m : Meas) : Entry :=
  [wd (0x01 * 2 ^ 24 + x.system * 2 ^ 20 + x.band * 2 ^ 16 + x.sv * 256 + m.ch),
   wd (id * 65536 + b2n x.blanked * 32 + b2n x.slip * 16 + b2n x.half * 8 + b2n x.navSync * 4 + b2n x.carrier * 2 + b2n x.code),
   wd (m.codePhase % 2 ^ 24), wd (b2n x.txValid * 2 ^ 31 + x.txMs % 2 ^ 30), x.phase, wdI m.doppler,
   wd (x.cn0 * 65536 + x.lock), wd (x.slips.toNat * 65536)]

/-- An epoch goes to ring 18 whole or not at all (R586); during a copy it is held whole (R321). -/
def Chip.produceEpoch (c : Chip) (es : List Entry) : Chip :=
  let r := c.ring 18
  if r.sizeLog2 = 0 ∨ r.consumer = 0 then es.foldl (fun c e => c.produce 0x08 18 e) c
  else if r.copying then c.upRing 18 (fun r => { r with held := r.held ++ es.map (fun e => (0x08, e)) })
  else if r.fill + es.length ≤ r.size then es.foldl (fun c e => c.produce 0x08 18 e) c
  else
    let c1 := c.upRing 18 (fun r => r.drops es.length)
    { c1 with track := { c1.track with skip := c1.track.skip + 1 } }

/-- MEASUREMENT_EPOCH (R585-R590). -/
def Chip.epoch (c : Chip) (mlg scount : Word) (meas : List Meas) : Chip :=
  if c.tracking && c.tb.mlg && !c.girth.radioRefused then
    let c0 := match c.armedSet 0x2800 with
      | some a => (c.gtrkApply a.words).dropArmed 0x2800
      | none => c
    let ms := meas.filter (fun m => (c0.chan m.ch).busy && (c0.chan m.ch).code)
    let id := c0.track.epochId + 1
    let c1 := ms.foldl (fun c m => c.upChan m.ch (fun x => x.latch m)) c0
    let hdr : Entry :=
      [wd (0x02 * 2 ^ 24 + c1.runF 0x2800 4 0 * 256 + ms.length), wd (id.toNat * 65536 + b2n c1.track.discont), mlg, scount,
       c1.timeLo, c1.timeHi, Config.clockBias c1.start.freeCtr, 0]
    let c2 := c1.produceEpoch (hdr :: ms.map (fun m => channelEntry id.toNat (c1.chan m.ch) m))
    let c3 := ms.foldl (fun c m => c.upChan m.ch (fun x => { x with slip := false })) c2
    { c3 with track := { c3.track with epochId := id, discont := false },
              acq := { c3.acq with scount := scount }, start := { c3.start with freeCtr := c3.start.freeCtr + 1 } }
  else c

/-- MEASUREMENT_EPOCH (R585). -/
def execMeasurementEpoch (mlg scount : Word) (meas : List Meas) (s : State) : Host.Outcome State Fault Refusal :=
  s.run (fun c => c.epoch mlg scount meas)

/-! ### Navigation units (R591-R594) -/

/-- A KeptSat replaced or added. -/
def keepSat (n : Nat) (l : List KeptSat) (k : KeptSat) : List KeptSat :=
  ((l.filter (fun x => !(x.system == k.system && x.sv == k.sv))) ++ [k]).take n

/-- The keep after the content of a unit; leap seconds go to KEEP_LEAP (R214, R594). -/
def Chip.navContent (c : Chip) (x : Channel) : NavContent → Chip
  | .other => c
  | .ephemeris t ws => { c with acq := { c.acq with keep := { c.acq.keep with
      changed := true, eph := keepSat 64 c.acq.keep.eph { system := x.system, sv := x.sv, refSec := t, words := ws } } } }
  | .almanac ws => { c with acq := { c.acq with keep := { c.acq.keep with
      changed := true, alm := keepSat 160 c.acq.keep.alm { system := x.system, sv := x.sv, refSec := 0, words := ws } } } }
  | .utc n p d day ws =>
    if x.system = 0 ∨ x.system = 1 ∨ x.system = 2 then
      { c with acq := { c.acq with keep := { c.acq.keep with changed := true, utc := padTo 16 0 ws } },
               keeper := { c.keeper with leapCount := BitVec.ofInt 8 n, leapPending := p, leapDelete := d, leapDay := BitVec.ofNat 17 day } }
    else c

/-- Ring-21 entries of a unit: up to 192 bits each, KIND 0x11 for the first and 0x12 for each further entry (R593). -/
def navEntries (x : Channel) (ch txMs nbits : Nat) (bits : List Word) : List Entry :=
  let n := (nbits + 191) / 192
  let kind (i : Nat) : Nat := if n ≤ 1 then 0x01 else if i = 0 then 0x11 else 0x12
  (List.range n).map (fun i =>
    wd (kind i * 2 ^ 24 + x.system * 2 ^ 20 + x.band * 2 ^ 16 + x.sv * 256 + ch) :: wd txMs :: padTo 6 0 ((bits.drop (6 * i)).take 6))

/-- NAV_UNIT (R591-R594): a unit that passed its check on an aligned channel. -/
def execNavUnit (ch txMs nbits : Nat) (bits : List Word) (content : NavContent) (s : State) : Host.Outcome State Fault Refusal :=
  s.run (fun c =>
    let x := c.chan ch
    if x.busy then
      let c1 := c.upChan ch (fun x => { x with navSync := true })
      let c2 := (navEntries x ch txMs nbits bits).foldl (fun c e => c.produce 0x08 21 e) c1
      c2.navContent x content
    else c)

/-! ### Solutions and trust (R595-R601) -/

/-- Time uncertainty in µs (R546); none is unbounded. -/
def Chip.timeUnc (c : Chip) : Option Nat :=
  if c.keeper.valid then
    let since := c.keeper.sec.toNat - c.keeper.setSec
    let base := if c.keeper.tsrc = 3 then 45 else 1000
    let rate := if c.onTbk then (if c.keeper.rateTempOk then 3 else 400) else 15000
    some (base + since * rate)
  else none

/-- The check flags of a solution (R599); the adapted tests of a snapshot when `snap`. -/
def Chip.trustFlags (c : Chip) (sol : Solution) (snap : Bool) : Nat :=
  let ceil := c.runF 0x2868 7 0
  let spread := c.runF 0x2868 15 8
  b2n (decide (ceil * 100 < sol.cn0Max)) +
  2 * b2n ((decide (6 ≤ sol.l1Count) && decide (sol.l1Spread < spread * 10)) || (decide (6 ≤ sol.l5Count) && decide (sol.l5Spread < spread * 10))) +
  4 * b2n (decide ((if snap then 50 else 20) < sol.isoNs)) +
  8 * b2n (if snap then decide (2 < sol.doppler) else decide (200 + sol.sigma3 < sol.doppler)) +
  16 * b2n (if snap then (match c.timeUnc with
                          | some u => decide (u < sol.clock)
                          | none => false)
            else decide (300 < sol.clock)) +
  32 * b2n sol.raimExcl + 64 * b2n sol.raimFail + 128 * b2n (!sol.checked)

/-- The trust level: the first row of R600 that applies. -/
def trustLevel (sol : Solution) (flags : Nat) : Nat :=
  let five := (List.range 5).map (fun i => flags / 2 ^ i % 2)
  if !sol.ok || decide (flags / 64 % 2 = 1) || decide (2 ≤ five.sum) then 0
  else if decide (five.sum = 1) || decide (flags / 128 % 2 = 1) then 1
  else if decide (flags / 32 % 2 = 1) || decide (sol.systems ≤ 1) || decide (sol.signals < 8) || decide (100 < sol.hErr) then 2
  else 3

/-- A ring-19 entry (R596). -/
def solutionEntry (kind trust flags id : Nat) (sol : Solution) : Entry :=
  [wd (kind * 2 ^ 24 + trust * 2 ^ 22 + sol.signals % 64 * 2 ^ 16 + flags), wdI sol.lat, wdI sol.lon, wdI sol.height,
   wd (min sol.hErr 65535 * 65536 + min sol.vErr 65535), wd (min sol.speed 65535 * 65536 + sol.heading % 65536),
   wd (sol.towMs % 2 ^ 30), wd (sol.week % 65536 * 65536 + id)]

/-- The keep after a solution: last position, offsets and drift (R558, R597, R598, R619). -/
def Chip.keepSolution (c : Chip) (sol : Solution) (trust : Nat) (snap : Bool) : Chip :=
  let k := c.acq.keep
  let k1 := { k with changed := true, solved := true, lat := sol.lat, lon := sol.lon, height := sol.height,
                     hErr := (sol.hErr + 9) / 10, solSec := sol.sec }
  let k2 := if trust < 2 ∨ snap = true then k1
    else { k1 with offsets := (List.range 4).map (fun i => ((sol.offsets.getD i none).or (k1.offsets.getD i none))) }
  let k3 := if trust < 2 ∨ snap = true ∨ c.therm.warning = true then k2
    else { k2 with drift := sol.drift, driftUnc := sol.driftUnc, driftTemp := sol.temp, driftSec := sol.sec, driftKept := true }
  { c with acq := { c.acq with keep := k3, grown := 0, grownSec := 0 } }

/-- What every solution does: ring 19, the solution registers, the TRUST and SPEED signals, keeper time, geofences, the keep
(R205, R384, R596-R601). -/
def Chip.solution (c : Chip) (sol : Solution) (snap : Bool) : Chip :=
  let flags := c.trustFlags sol snap
  let trust := trustLevel sol flags
  let id := if snap then c.acq.snapId.toNat else c.track.epochId.toNat
  let e := solutionEntry (if sol.ok then (if snap then 3 else 1) else 2) trust flags id sol
  let c1 := c.produce 0x08 19 e
  let c2 := { c1 with track := { c1.track with solution := e, trust := trust, flags := flags, signals := sol.signals } }
  if sol.ok then
    let c3 := { c2 with track := { c2.track with solved := true, aligned := c2.track.aligned || (decide (2 ≤ trust) && !snap) } }
    let c4 := (c3.setSignal 0x08 0x12 trust).setSignal 0x08 0x13 sol.speed
    ((c4.keepSolution sol trust snap).gnssTime trust sol.sec sol.sub).fencesStep sol.lat sol.lon trust
  else c2.setSignal 0x08 0x12 trust

/-- NAV_SOLUTION (R595-R601, R607): the solution of a tracking epoch. -/
def execNavSolution (sol : Solution) (s : State) : Host.Outcome State Fault Refusal :=
  s.run (fun c =>
    if c.tracking then
      let c1 := c.solution sol false
      let c2 := c1.tpSolution sol.ok c1.track.trust
      if sol.ok then { c2 with acq := { c2.acq with burstSolved := true } } else c2
    else c)

/-- A FAILED solution entry with no fix (R611). -/
def Chip.failedSolution (c : Chip) : Chip :=
  let e : Entry := [wd (2 * 2 ^ 24), 0, 0, 0, 0, 0, 0, wd c.track.epochId.toNat]
  let c1 := c.produce 0x08 19 e
  ({ c1 with track := { c1.track with solution := e, trust := 0, flags := 0, signals := 0 } }).setSignal 0x08 0x12 0

end Sys2Proof.Machine
end

