-- ==== Sys2Proof/Machine/Acq.lean ====
section
/-! DEFINITION. GNSS acquisition (12): fix classes, search tasks and engines, snapshots and tracking bursts, the end of a fix,
and the ephemeris and almanac keep. -/

namespace Sys2Proof.Machine

/-! ### Classes (R545-R548) -/

/-- A kept ephemeris is valid within 4 h of its reference time for GPS, Galileo and QZSS, 2 h for BeiDou, 30 min for GLONASS (R547). -/
def KeptSat.validAt (k : KeptSat) (sec : Nat) : Bool :=
  let age := max sec k.refSec - min sec k.refSec
  decide (age ≤ if k.system = 2 then 7200 else if k.system = 4 then 1800 else 14400)

/-- Elevation of a kept satellite from the last position, 0.01 degree. -/
def Chip.elevation (c : Chip) (k : KeptSat) : Int :=
  Config.elevation k.system k.sv k.words c.keeper.sec.toNat c.acq.keep.lat c.acq.keep.lon

/-- Above ELEV_MASK. -/
def Chip.aboveMask (c : Chip) (k : KeptSat) : Bool := decide (((c.runF 0x2001 5 0 * 100 : Nat) : Int) ≤ c.elevation k)

/-- Satellites of valid kept ephemerides predicted above ELEV_MASK. -/
def Chip.predicted (c : Chip) : List KeptSat :=
  if c.acq.keep.present then c.acq.keep.eph.filter (fun k => k.validAt c.keeper.sec.toNat && c.aboveMask k) else []

/-- GPS and QZSS satellites predicted above ELEV_MASK, at most 16, highest elevation first (R550). -/
def Chip.phaseA (c : Chip) : List KeptSat :=
  ((c.predicted.filter (fun k => k.system == 0 || k.system == 3)).mergeSort (fun a b => decide (c.elevation b ≤ c.elevation a))).take 16

/-- The position uncertainty grows at SPEED_MAX while the machine may move (R547). -/
def Chip.mayMove (c : Chip) : Bool :=
  decide (1 ≤ c.runSig.conf) || c.power.fvinTaken || decide (c.keeper.theft = .suspect) || decide (c.keeper.theft = .declared)

/-- Position uncertainty in m; none before a solution (R547). -/
def Chip.posUnc (c : Chip) : Option Nat :=
  let k := c.acq.keep
  if k.solved && c.keeper.valid then
    let rest := (c.keeper.sec.toNat - k.solSec) - c.acq.grownSec
    some (k.hErr + (c.acq.grown + rest * c.runF 0x2001 11 6) * 10 / 36)
  else none

/-- The class of a fix: 0 HOT, 2 WARM, 3 COLD (R545). -/
def Chip.fixClass (c : Chip) : Nat :=
  match c.timeUnc, c.posUnc with
  | some t, some p =>
    if t ≤ 2000000 ∧ p ≤ 100000 ∧ 5 ≤ c.phaseA.length ∧ c.acq.keep.driftKept = true ∧ c.driftUnc ≤ 340 then 0
    else if t ≤ 60000000 ∧ p ≤ 300000 ∧ c.acq.keep.alm ≠ [] ∧ c.acq.keep.driftKept = true then 2
    else 3
  | _, _ => 3

/-! ### Tasks and engines (R541-R550) -/

/-- Width of a Doppler bin in Hz: 1 / (2 × TCOH), TCOH 4 ms for Galileo E1 and 10 ms otherwise (12). -/
def binHz (system band : Nat) : Nat := if system = 1 ∧ band = 0 then 125 else 50

/-- Code hypotheses at half-chip spacing: two per chip of the primary code (R541). -/
def codeHyps (system band : Nat) : Nat :=
  if band = 1 then 20460
  else if system = 1 then 8184 else if system = 2 then 20460 else if system = 4 then 1022 else 2046

/-- Passes of a task: Doppler bins of its window times segments of 512 hypotheses (R548). -/
def passesOf (cls system band : Nat) : Nat :=
  if cls = 1 then 1
  else
    let span := if cls = 0 then 1300 else if cls = 2 then 12000 else 72000
    ((span + binHz system band - 1) / binHz system band) * ((codeHyps system band + 511) / 512)

/-- A search task. -/
def taskOf (cls phase system band sv : Nat) : Task :=
  { system := system, band := band, sv := sv, cls := cls, phase := phase, passesLeft := passesOf cls system band }

/-- Satellite numbers of a system: PRN, or GLONASS frequency number plus 7. -/
def svsOf (system : Nat) : List Nat :=
  match system with
  | 0 => (List.range 32).map (· + 1)
  | 1 => (List.range 36).map (· + 1)
  | 2 => (List.range 63).map (· + 1)
  | 3 => (List.range 10).map (· + 193)
  | _ => List.range 14

/-- Enabled systems and bands of a burst: with FDMA selected, GLONASS on L1 and the others on L5 only (R535, R536). -/
def Chip.burstBands (c : Chip) : List (Nat × Nat) :=
  let w := c.runW 0x2000
  let both := decide (fld w 1 0 = 3)
  let fdma := bit w 2
  (List.range 5).flatMap (fun sys =>
    if bit w (4 + sys) then
      if sys = 4 then (if fdma then [(4, 0)] else [])
      else (if fdma then [] else [(sys, 0)]) ++ (if both then [(sys, 1)] else [])
    else [])

/-- The tasks of a tracking burst (R548): every code of each enabled system when COLD, else the satellites predicted above
ELEV_MASK. -/
def Chip.burstTasks (c : Chip) : List Task :=
  let cls := c.acq.cls
  c.burstBands.flatMap (fun p =>
    let svs := if cls = 3 then svsOf p.1
      else if cls = 0 then ((c.predicted.filter (fun k => k.system == p.1)).map (·.sv))
      else ((c.acq.keep.alm.filter (fun k => k.system == p.1 && c.aboveMask k)).map (·.sv))
    svs.map (fun sv => taskOf cls 0 p.1 p.2 sv))

/-- A task still has passes to be granted. -/
def Task.open (t : Task) : Bool := !t.detected && decide (0 < t.passesLeft)

/-- Order of classes in the engine pool: AIDED and HOT, then WARM, then COLD (R549). -/
def classRank (cls : Nat) : Nat := if cls ≤ 1 then 0 else cls

/-- The task whose pass is granted next: lowest class order, then the oldest (R549). -/
def nextTask (ts : List Task) : Option Nat :=
  (List.range 4).findSome? (fun r => (List.range ts.length).find? (fun i =>
    match ts[i]? with
    | some t => t.open && decide (classRank t.cls = r)
    | none => false))

/-- One engine, when it is free, takes the next pass (R549). -/
def grantEngine (a : List Task × List (Option Nat)) (e : Nat) : List Task × List (Option Nat) :=
  if a.2.getD e none = none then
    match nextTask a.1 with
    | some i => (a.1.modify i (fun t => { t with passesLeft := t.passesLeft - 1 }), a.2.set e (some i))
    | none => a
  else a

/-- Every free engine is granted the next pass (R549); in a burst only once a live block is complete (R556). -/
def Chip.grant (c : Chip) : Chip :=
  if c.acq.state = .correlating ∨ (c.acq.state = .burst ∧ 0 < c.acq.liveBlock) then
    let r := (List.range 32).foldl grantEngine (c.acq.tasks, c.acq.engines)
    { c with acq := { c.acq with tasks := r.1, engines := r.2 } }
  else c

/-- A task has ended: detected, or every pass has run. -/
def Chip.taskEnded (c : Chip) (i : Nat) : Bool :=
  match c.acq.tasks[i]? with
  | some t => t.detected || (decide (t.passesLeft = 0) && !c.acq.engines.contains (some i))
  | none => true

/-! ### Ring 16 (R562) -/

/-- A ring-16 entry. -/
def Chip.acqEntry (c : Chip) (kind : Nat) (t : Task) (engine : Nat) (code : Word) (doppler : Int) (cn0 pnr arg : Nat) : Entry :=
  [wd (kind * 2 ^ 24 + t.system * 2 ^ 20 + t.band * 2 ^ 16 + t.sv * 256 + t.cls * 64 + engine), code, wdI doppler,
   wd (cn0 % 65536 * 65536 + pnr % 65536), c.timeLo, c.timeHi, wd (c.acq.snapId.toNat * 65536 + t.passesRun % 65536), wd arg]

/-- The entry of the fix as a whole. -/
def Chip.fixTask (c : Chip) : Task :=
  { system := 0, band := 0, sv := 0, cls := c.acq.cls, phase := c.acq.phase, passesLeft := 0 }

/-! ### The end of a fix (R554, R559, R567) -/

/-- The body of the keep (R558). -/
def Keep.body (k : Keep) (sec : Nat) : List Byte :=
  let w (v : Int) : List Byte := leBytes 8 (ux 64 v)
  let sat (n : Nat) (s : KeptSat) : List Byte :=
    padTo (8 * n) 0 (leBytes 8 (s.system * 2 ^ 56 + s.sv * 2 ^ 48 + s.refSec % 2 ^ 33) ++ s.words.flatMap (fun v => leBytes 8 v.toNat))
  leBytes 8 (sec % 2 ^ 32 * 2 ^ 32) ++ leBytes 8 (k.eph.length * 2 ^ 48 + k.alm.length * 2 ^ 32) ++ List.replicate 112 0 ++
  padTo 64 0 (w k.lat ++ w k.lon ++ w k.height ++ w k.hErr ++ w k.solSec) ++
  (w k.drift ++ w k.driftUnc ++ w k.driftTemp ++ w k.driftSec) ++
  k.offsets.flatMap (fun o => match o with
    | some v => w (divRound v 10)
    | none => leBytes 8 (2 ^ 63)) ++
  k.utc.flatMap (fun v => leBytes 8 v.toNat) ++
  padTo (64 * 192) 0 (k.eph.flatMap (sat 24)) ++ padTo (160 * 64) 0 (k.alm.flatMap (sat 8))

/-- The keep loaded from a bank (R560); none of its values is kept when the structure is absent. -/
def Keep.ofBytes (b : Bool) (bs : List Byte) : Keep :=
  let w (i : Nat) : Int := sx 64 (leAt bs (8 * i) 8)
  let sat (off n : Nat) : KeptSat :=
    { system := leAt bs (off + 7) 1, sv := leAt bs (off + 6) 1, refSec := leAt bs off 6 % 2 ^ 33,
      words := (List.range (n - 1)).map (fun i => BitVec.ofNat 64 (leAt bs (off + 8 + 8 * i) 8)) }
  { present := true, bankB := b, commitSec := leAt bs 4 4, lat := w 16, lon := w 17, height := w 18, hErr := (w 19).toNat,
    solSec := (w 20).toNat, solved := decide (w 20 ≠ 0), drift := w 24, driftUnc := (w 25).toNat, driftTemp := w 26,
    driftSec := (w 27).toNat, driftKept := decide (w 27 ≠ 0),
    offsets := (List.range 4).map (fun i => if leAt bs (8 * (28 + i)) 8 = 2 ^ 63 then none else some (w (28 + i) * 10)),
    utc := (List.range 16).map (fun i => BitVec.ofNat 64 (leAt bs (8 * (32 + i)) 8)),
    eph := (List.range (leAt bs 14 2)).map (fun i => sat (384 + 192 * i) 24),
    alm := (List.range (leAt bs 12 2)).map (fun i => sat (12672 + 64 * i) 8) }

/-- A keep commit is requested (R559); at WARNING it is deferred (R569). -/
def Chip.keepCommit (c : Chip) : Chip :=
  let c1 := c.requestCommit 5 1 (c.acq.keep.body c.keeper.sec.toNat)
  { c1 with acq := { c1.acq with keep := { c1.acq.keep with
      changed := false, deferred := c1.therm.warning || c1.therm.trip, commitSec := c.keeper.sec.toNat } } }

/-- A fix ends with a REASON, 0 for success: the FIX_END entry, GACQ_FIX_STAT, the FIX event, and the mode is left (R567). -/
def Chip.endFix (c : Chip) (reason : Nat) : Chip :=
  let c1 := c.produce 0x07 16 (c.acqEntry 4 c.fixTask 0x3F 0 0 0 0 reason)
  let c2 := c1.event 0x07 0x0B (if reason = 0 then 0 else 1) 0
  let c3 := { c2 with acq := { c2.acq with
    state := .idle, phase := 0, reason := reason, fixSnap := c2.acq.snapId, tasks := [], engines := List.replicate 32 none,
    wantBurst := false, fellBack := false, retaken := false, liveBlock := 0, burstSolved := false } }
  let c4 := (c3.armedSet 0x2000).elim c3 (fun a => (c3.applyWords a.words).dropArmed 0x2000)
  let c5 := (c4.armedSet 0x2001).elim c4 (fun a => (c4.applyWords a.words).dropArmed 0x2001)
  c5.leaveFix

/-- Tracking goes on after a burst ends (R576). -/
def Chip.tracksOn (c : Chip) : Bool := decide (c.mode = 6) || (decide (c.mode = 5) && c.runB 0x2800 8)

/-- A fix in progress fails (R567, R611, R612); one only waiting for its mode is ended too. -/
def Chip.failFix (c : Chip) (reason : Nat) : Chip :=
  if c.acq.state = .idle then c
  else
    let burst := c.acq.state = .burst ∨ c.acq.state = .paused
    let c1 := if burst then (c.releaseAll).tpHold else c
    c1.endFix reason

/-- A burst begins (R555, R556): the epochs restart discontinuous (R590). -/
def Chip.startBurst (c : Chip) : Chip :=
  let c1 := { c with acq := { c.acq with state := .burst, liveBlock := 0, burstSolved := false, engines := List.replicate 32 none },
                     track := { c.track with discont := true } }
  { c1 with acq := { c1.acq with tasks := c1.burstTasks } }

/-- The solve failed or too few signals were found: TOO_FEW, or a burst of BURST_DEFAULT follows as the same fix (R554). -/
def Chip.tooFew (c : Chip) : Chip :=
  if c.runB 0x2001 29 && !c.acq.fellBack && !c.girth.radioRefused then
    let c1 := { c with acq := { c.acq with fellBack := true, wantBurst := true, burstLen := c.runF 0x2001 27 20, phase := 0,
                                           tasks := [], engines := List.replicate 32 none } }
    if rgPowered c1.mode && c1.mode != 3 then c1.startBurst
    else ({ c1 with acq := { c1.acq with state := .waiting } }).goTo 3 .rule
  else c.endFix 1

/-! ### Phases of a hot snapshot (R550) -/

/-- Tasks of phase C: Galileo E1 OS and BeiDou B1C signals predicted above ELEV_MASK. -/
def Chip.phaseC (c : Chip) : List Task :=
  (c.predicted.filter (fun k => k.system == 1 || k.system == 2)).map (fun k => taskOf 0 3 k.system 0 k.sv)

/-- Tasks of phase B: AIDED tasks for every other predicted signal of the capture. -/
def Chip.phaseB (c : Chip) : List Task :=
  (c.predicted.filter (fun k => k.system != 4)).flatMap (fun k =>
    ((if c.acq.snapBands = 3 then [0, 1] else [0]).filter (fun b =>
      !c.acq.tasks.any (fun t => t.system == k.system && t.sv == k.sv && t.band == b))).map (fun b => taskOf 1 2 k.system b k.sv))

/-- PHASE_END is announced with the detections of the phase. -/
def Chip.phaseEnd (c : Chip) : Chip :=
  let n := (c.acq.tasks.filter (fun t => t.phase == c.acq.phase && t.detected)).length
  c.produce 0x07 16 (c.acqEntry 3 c.fixTask 0x3F 0 0 0 0 (c.acq.phase * 2 ^ 28 + n % 256))

/-- Every task of the present phase has ended. -/
def Chip.phaseDone (c : Chip) : Bool :=
  (List.range c.acq.tasks.length).all (fun i => c.taskEnded i || (c.acq.tasks.getD i c.fixTask).phase != c.acq.phase)

/-- The next phase begins, or the solver takes over. -/
def Chip.enterPhase (c : Chip) (p : Nat) (ts : List Task) : Chip :=
  ({ c with acq := { c.acq with phase := p, tasks := c.acq.tasks ++ ts } }).grant

/-- The search moves on when its phase has ended (R550): A to B with 5 or more signals, else to C; C to B once 5 are detected
in total; B to the solver. -/
def Chip.phaseStep : Nat → Chip → Chip
  | 0, c => c
  | n + 1, c =>
    if c.acq.state ≠ .correlating then c
    else if c.acq.phase = 1 then
      if c.phaseDone then
        let c1 := c.phaseEnd
        if 5 ≤ c1.acq.found then Chip.phaseStep n (c1.enterPhase 2 c1.phaseB) else Chip.phaseStep n (c1.enterPhase 3 c1.phaseC)
      else c
    else if c.acq.phase = 3 then
      if 5 ≤ c.acq.found then
        let c1 := c.phaseEnd
        Chip.phaseStep n (c1.enterPhase 2 c1.phaseB)
      else if c.phaseDone then (c.phaseEnd).tooFew
      else c
    else if c.phaseDone ∧ (List.range c.acq.tasks.length).all c.taskEnded = true then
      let c1 := c.phaseEnd
      { c1 with acq := { c1.acq with state := .solving } }
    else c

/-! ### Requests for a fix (R136, R367, R368, R555, R572, R880) -/

/-- GACQ_RF_CFG and GACQ_PLAN in force pass their own checks, so that the unit may work (R880). -/
def Chip.acqReady (c : Chip) : Bool :=
  let b := c.runF 0x2000 1 0
  (decide (b = 1) || decide (b = 3)) && decide (10 ≤ c.runF 0x2001 27 20) && decide (1 ≤ c.runF 0x2001 19 12)

/-- The fix begins where the mode allows it: at once in FIX, DUTY and PURSUIT, after the transition from WATCH and KEEPER, after
the burst in LINK (R132, R368). -/
def Chip.fixInMode (c : Chip) (r : Reason) : Chip :=
  if c.mode = 5 ∨ c.mode = 6 ∨ c.mode = 3 then (if c.acq.wantBurst then c.startBurst else c)
  else if c.mode = 1 ∨ c.mode = 2 then c.goTo 3 r
  else c

/-- A fix is requested; the second component is the refusal's reason and argument (R367). A fix that is not HOT runs as a
tracking burst (R555); a request during a fix is merged (R368, R566). -/
def Chip.requestFix (c : Chip) (target value : Nat) (r : Reason) : Chip × Option (Nat × Nat) :=
  if c.mode = 7 ∨ c.mode = 0 ∨ c.mode = 0xF ∨ c.acqReady = false then (c, some (4, 0))
  else if c.silent 1 ∨ c.girth.radioRefused = true then (c, some (3, 0))
  else if c.held then (c, some (2, 1))
  else if c.acq.state ≠ .idle then (c, none)
  else
    let cls := c.fixClass
    let burst := decide (target = 1) || decide (cls ≠ 0)
    let c1 := { c with acq := { c.acq with
      state := .waiting, cls := cls, wantBurst := burst, found := 0, phase := 0, fellBack := false, retaken := false,
      burstLen := if burst then (if value = 0 then c.runF 0x2001 27 20 else value) else 0 } }
    (c1.fixInMode r, none)

/-- The RG domain has been powered for FIX: a waiting burst begins, a paused one resumes with a discontinuous epoch (R132, R590). -/
def Chip.fixEntered (c : Chip) : Chip :=
  if c.acq.state = .paused then
    { c with acq := { c.acq with state := .burst }, track := { c.track with discont := true } }
  else if c.acq.state = .waiting ∧ c.acq.wantBurst = true then c.startBurst
  else c

/-! ### Commands -/

/-- SNAPSHOT_CAPTURE_START (R551): the front ends are ready, the AGC has settled and is frozen (R538). -/
def execSnapshotCaptureStart (scount : Word) (s : State) : Host.Outcome State Fault Refusal :=
  s.run (fun c =>
    if c.acq.state = .waiting ∧ c.acq.wantBurst = false ∧ rgPowered c.mode = true ∧ c.girth.radioRefused = false then
      let long := c.runB 0x2001 28
      { c with acq := { c.acq with
          state := .capturing, snapId := c.acq.snapId + 1, snapLen := if long then 80 else 40, snapBands := if long then 1 else 3,
          scount := scount, capLo := c.timeLo, capHi := c.timeHi, tasks := [], engines := List.replicate 32 none } }
    else c)

/-- The capture has too many blanked intervals, or more than 25 % of its instants are blanked (R552). -/
def Chip.blankedOut (c : Chip) (blanks : List (Nat × Nat)) : Bool :=
  let total := if c.acq.snapBands = 3 then 1040000 else 2080000
  decide (2 < blanks.length) || decide (total < 4 * 1024 * (blanks.map (·.2)).sum)

/-- A ring-17 entry (R563). -/
def Chip.snapEntry (c : Chip) (blanks : List (Nat × Nat)) (agc1 agc5 : Nat) : Entry :=
  let b (i : Nat) : Word := let p := blanks.getD i (0, 0); wd (p.1 % 65536 * 65536 + p.2 % 65536)
  [wd (c.acq.snapId.toNat * 65536 + c.acq.snapLen * 256 + c.acq.snapBands * 64), c.acq.scount, c.acq.capLo, c.acq.capHi,
   wd (agc1 % 65536 * 65536 + agc5 % 65536), b 0, b 1, wdI c.acq.keep.drift]

/-- SNAPSHOT_CAPTURE_END (R551, R552, R557, R563): memory holds the capture; the search begins, the RG domain is powered down
and FIX is left. -/
def Chip.captureEnd (c : Chip) (samples : List Byte) (blanks : List (Nat × Nat)) (agc1 agc5 : Nat) : Chip :=
  if c.acq.state ≠ .capturing then c
  else
    let c1 := { c with acq := { c.acq with memory := memWrite 0 c.acq.memory 0 (samples.take 1048576), blanked := blanks } }
    if c1.blankedOut blanks then
      if c1.acq.retaken then c1.endFix 6
      else { c1 with acq := { c1.acq with state := .waiting, retaken := true } }
    else
      let c2 := c1.produce 0x07 17 (c1.snapEntry blanks agc1 agc5)
      let c3 := { c2 with acq := { c2.acq with state := .correlating, phase := 1 } }
      let c4 := ({ c3 with acq := { c3.acq with tasks := c3.phaseA.map (fun (k : KeptSat) => taskOf 0 1 k.system 0 k.sv) } }).grant
      (if c4.mode = 3 then c4.leaveFix else c4).phaseStep 4

/-- SNAPSHOT_CAPTURE_END (R551). -/
def execSnapshotCaptureEnd (samples : List Byte) (blanks : List (Nat × Nat)) (agc1 agc5 : Nat) (s : State) :
    Host.Outcome State Fault Refusal := s.run (fun c => c.captureEnd samples blanks agc1 agc5)

/-- LIVE_BLOCK_COMPLETE (R556): the two blocks of 20 ms on both bands are filled alternately. -/
def execLiveBlockComplete (samples : List Byte) (s : State) : Host.Outcome State Fault Refusal :=
  s.run (fun c =>
    if c.acq.state = .burst then
      let off := if c.acq.liveBlock % 2 = 0 then 0 else 520000
      ({ c with acq := { c.acq with memory := memWrite 0 c.acq.memory off (samples.take 520000), liveBlock := c.acq.liveBlock + 1 } }).grant
    else c)

/-- A task detected by a pass: the DETECTED entry, and in a burst the hand-off to a tracker channel (R544, R556). -/
def Chip.detect (c : Chip) (i : Nat) (t : Task) (engine pnr : Nat) (code : Word) (doppler : Int) (cn0 : Nat) : Chip :=
  let c1 := c.upAcq (fun a => { a with found := satAdd 255 a.found 1, tasks := a.tasks.modify i (fun t => { t with detected := true }) })
  let c2 := c1.produce 0x07 16 (c1.acqEntry 1 t engine code doppler cn0 pnr 0)
  if c2.acq.state = .burst then c2.handOff t.system t.band t.sv cn0 else c2

/-- What a pass says of its task: detected at or above the threshold of 14.0 dB (R543, R544), or not found once every pass has
run. -/
def Chip.passResult (c : Chip) (i engine pnr : Nat) (code : Word) (doppler : Int) (cn0 : Nat) : Chip :=
  match c.acq.tasks[i]? with
  | none => c
  | some t =>
    if t.detected then c
    else if 1400 ≤ pnr then c.detect i t engine pnr code doppler cn0
    else if c.taskEnded i then c.produce 0x07 16 (c.acqEntry 2 t 0x3F 0 0 cn0 pnr 0)
    else c

/-- ACQ_PASS_END (R542, R544, R549, R556): the engine is free, and the pool grants it the next pass. -/
def Chip.passEnd (c : Chip) (engine pnr : Nat) (code : Word) (doppler : Int) (cn0 : Nat) : Chip :=
  match c.acq.engines.getD engine none with
  | none => c
  | some i =>
    let c1 := c.upAcq (fun a => { a with
      engines := a.engines.set engine none, tasks := a.tasks.modify i (fun t => { t with passesRun := t.passesRun + 1 }) })
    (c1.passResult i engine pnr code doppler cn0).grant.phaseStep 4

/-- ACQ_PASS_END (R542). -/
def execAcqPassEnd (engine pnr : Nat) (code : Word) (doppler : Int) (cn0 : Nat) (s : State) : Host.Outcome State Fault Refusal :=
  s.run (fun c => c.passEnd engine pnr code doppler cn0)

/-- SNAPSHOT_SOLUTION (R553, R554, R559): the solve of a snapshot succeeds or fails. -/
def Chip.snapshotSolution (c : Chip) (sol : Solution) : Chip :=
  if c.acq.state ≠ .solving then c
  else
    let c1 := c.solution sol true
    if sol.ok then
      let c2 := if c1.acq.keep.commitSec + 600 ≤ c1.keeper.sec.toNat then c1.keepCommit else c1
      c2.endFix 0
    else c1.tooFew

/-- SNAPSHOT_SOLUTION (R553). -/
def execSnapshotSolution (sol : Solution) (s : State) : Host.Outcome State Fault Refusal := s.run (fun c => c.snapshotSolution sol)

/-- TRACKING_BURST_END (R555, R559, R617): channels are released unless tracking goes on, a changed keep is committed, and the
fix ends. -/
def Chip.burstEnd (c : Chip) : Chip :=
  if c.acq.state ≠ .burst then c
  else
    let c1 := if c.tracksOn then c else c.releaseAll.tpHold
    let c2 := if c1.acq.keep.changed then c1.keepCommit else c1
    c2.endFix (if c2.acq.burstSolved then 0 else 1)

/-- TRACKING_BURST_END (R555). -/
def execTrackingBurstEnd (s : State) : Host.Outcome State Fault Refusal := s.run Chip.burstEnd

/-- GACQ_KEEP_COMMIT (R559): 0x434F_4D54 written to GACQ_KEEP_CTL. -/
def execGacqKeepCommit (s : State) : Host.Outcome State Fault Refusal := s.runHost Chip.keepCommit

/-- Both banks of the keep are marked absent: their commit words are cleared, and the working copy is empty (R573). -/
def Chip.keepClear (c : Chip) : Chip :=
  let m := memWrite 0 c.mram.bytes (0x0E000 + 24568) (List.replicate 8 0)
  { c with mram := { c.mram with bytes := memWrite 0 m (0x14000 + 24568) (List.replicate 8 0),
                                 commits := c.mram.commits.filter (fun x => x.1 != 5) },
           therm := { c.therm with held := c.therm.held.filter (fun x => x.1 != 5) }, acq := { c.acq with keep := {} } }

/-- GACQ_KEEP_CLEAR (R573): 0x434C_5200 written to GACQ_KEEP_CTL. -/
def execGacqKeepClear (s : State) : Host.Outcome State Fault Refusal := s.runHost Chip.keepClear

/-- GACQ_RF_CFG.ARM (R571, R573): applied at the end of the fix in progress, or at once. -/
def Chip.gacqRfArm (c : Chip) : Chip :=
  let b := c.rf 0x2000 1 0
  if b = 1 ∨ b = 3 then
    let c1 := c.armLast 0x2000 0
    if c1.acq.state = .idle then c1.applyWords (c.shadow 0x2000 1) else c1.holdSet 0x2000 (c.shadow 0x2000 1)
  else c.armLast 0x2000 2

/-- GACQ_RF_ARM (R573). -/
def execGacqRfArm (s : State) : Host.Outcome State Fault Refusal := s.runHost Chip.gacqRfArm

/-- The check of GACQ_PLAN (R573): SNAP_LEN 0 is refused with BANDS 0b01 in force. -/
def Chip.gacqPlanCheck (c : Chip) : Nat :=
  let w := c.reg 0x2001
  if fld w 28 28 = 0 ∧ c.runF 0x2000 1 0 = 1 then 2
  else if fld w 27 20 < 10 ∨ fld w 19 12 = 0 ∨ 30 < fld w 5 0 then 6
  else 0

/-- GACQ_PLAN.ARM (R571, R573). -/
def Chip.gacqPlanArm (c : Chip) : Chip :=
  let r := c.gacqPlanCheck
  let c1 := c.armLast 0x2001 r
  if r = 0 then
    if c1.acq.state = .idle then c1.applyWords (c.shadow 0x2001 1) else c1.holdSet 0x2001 (c.shadow 0x2001 1)
  else c1

/-- GACQ_PLAN_ARM (R573). -/
def execGacqPlanArm (s : State) : Host.Outcome State Fault Refusal := s.runHost Chip.gacqPlanArm

end Sys2Proof.Machine
end

