-- ==== Sys2Proof/Machine/Crypto.lean ====
section
/-! DEFINITION. The crypto engine's functions (06 R266, R286; 15 R686, R687; 18): SHA-256, ECDSA P-256 verification over SHA-256
(FIPS 186-5), AES-128 and AES-128 CCM (NIST SP 800-38C). -/

namespace Sys2Proof.Machine

/-! ### SHA-256 -/

/-- The round constants. -/
def shaK : List Nat :=
  [0x428a2f98, 0x71374491, 0xb5c0fbcf, 0xe9b5dba5, 0x3956c25b, 0x59f111f1, 0x923f82a4, 0xab1c5ed5,
   0xd807aa98, 0x12835b01, 0x243185be, 0x550c7dc3, 0x72be5d74, 0x80deb1fe, 0x9bdc06a7, 0xc19bf174] ++
  [0xe49b69c1, 0xefbe4786, 0x0fc19dc6, 0x240ca1cc, 0x2de92c6f, 0x4a7484aa, 0x5cb0a9dc, 0x76f988da,
   0x983e5152, 0xa831c66d, 0xb00327c8, 0xbf597fc7, 0xc6e00bf3, 0xd5a79147, 0x06ca6351, 0x14292967] ++
  [0x27b70a85, 0x2e1b2138, 0x4d2c6dfc, 0x53380d13, 0x650a7354, 0x766a0abb, 0x81c2c92e, 0x92722c85,
   0xa2bfe8a1, 0xa81a664b, 0xc24b8b70, 0xc76c51a3, 0xd192e819, 0xd6990624, 0xf40e3585, 0x106aa070] ++
  [0x19a4c116, 0x1e376c08, 0x2748774c, 0x34b0bcb5, 0x391c0cb3, 0x4ed8aa4a, 0x5b9cca4f, 0x682e6ff3,
   0x748f82ee, 0x78a5636f, 0x84c87814, 0x8cc70208, 0x90befffa, 0xa4506ceb, 0xbef9a3f7, 0xc67178f2]

/-- The initial hash value. -/
def shaH : List Word := [wd 0x6a09e667, wd 0xbb67ae85, wd 0x3c6ef372, wd 0xa54ff53a, wd 0x510e527f, wd 0x9b05688c, wd 0x1f83d9ab, wd 0x5be0cd19]

/-- The message followed by a one bit, zeros and its length in bits. -/
def shaPad (m : List Byte) : List Byte :=
  m ++ [0x80] ++ List.replicate ((119 - m.length % 64) % 64) 0 ++ beBytes 8 (8 * m.length)

/-- The message schedule, newest word first, extended by `n` words. -/
def shaSchedule : Nat → List Word → List Word
  | 0, w => w
  | n + 1, w =>
    let a := w.getD 14 0
    let b := w.getD 1 0
    let s0 := a.rotateRight 7 ^^^ a.rotateRight 18 ^^^ a >>> 3
    let s1 := b.rotateRight 17 ^^^ b.rotateRight 19 ^^^ b >>> 10
    shaSchedule n ((w.getD 15 0 + s0 + w.getD 6 0 + s1) :: w)

/-- One round on the working variables a to h. -/
def shaRound (v : List Word) (kw : Word) : List Word :=
  match v with
  | [a, b, c, d, e, f, g, h] =>
    let s1 := e.rotateRight 6 ^^^ e.rotateRight 11 ^^^ e.rotateRight 25
    let t1 := h + s1 + ((e &&& f) ^^^ (~~~e &&& g)) + kw
    let s0 := a.rotateRight 2 ^^^ a.rotateRight 13 ^^^ a.rotateRight 22
    let t2 := s0 + ((a &&& b) ^^^ (a &&& c) ^^^ (b &&& c))
    [t1 + t2, a, b, c, d + t1, e, f, g]
  | _ => v

/-- One 64-byte block. -/
def shaBlock (h : List Word) (b : List Byte) : List Word :=
  let w0 := ((List.range 16).map (fun i => wd (beNat (slice b (4 * i) 4)))).reverse
  let w := (shaSchedule 48 w0).reverse
  let v := (shaK.zip w).foldl (fun v p => shaRound v (wd p.1 + p.2)) h
  (h.zip v).map (fun p => p.1 + p.2)

/-- The blocks of a padded message. -/
def shaBlocks : Nat → List Byte → List Word → List Word
  | 0, _, h => h
  | n + 1, bs, h => shaBlocks n (bs.drop 64) (shaBlock h (bs.take 64))

/-- SHA-256 of bytes: 32 bytes. -/
def sha256 (m : List Byte) : List Byte :=
  let p := shaPad m
  (shaBlocks (p.length / 64) p shaH).flatMap (fun w => beBytes 4 w.toNat)

/-! ### ECDSA P-256 -/

/-- The field prime of P-256. -/
def ecP : Nat := 0xffffffff00000001000000000000000000000000ffffffffffffffffffffffff
/-- The order of the base point. -/
def ecN : Nat := 0xffffffff00000000ffffffffffffffffbce6faada7179e84f3b9cac2fc632551
/-- The coefficient b. -/
def ecB : Nat := 0x5ac635d8aa3a93e7b3ebbd55769886bc651d06b0cc53b0f63bce3c3e27d2604b
/-- The base point. -/
def ecG : Nat × Nat :=
  (0x6b17d1f2e12c4247f8bce6e563a440f277037d812deb33a0f4a13945d898c296,
   0x4fe342e2fe1a7f9b8ee7eb4a7c0f9e162bce33576b315ececbb6406837bf51f5)

/-- `b ^ e` modulo `m` over `k` bits of `e`. -/
def powMod (m : Nat) : Nat → Nat → Nat → Nat
  | 0, _, _ => 1 % m
  | k + 1, b, e =>
    let r := powMod m k (b * b % m) (e / 2)
    if e % 2 = 1 then b * r % m else r

/-- The inverse modulo a prime of 256 bits. -/
def invMod (m a : Nat) : Nat := powMod m 256 (a % m) (m - 2)

/-- `a - b` in the field. -/
def subP (a b : Nat) : Nat := (a + (ecP - b % ecP)) % ecP

/-- Twice a point in Jacobian coordinates; Z = 0 is the point at infinity. -/
def ecDouble (p : Nat × Nat × Nat) : Nat × Nat × Nat :=
  let x := p.1
  let y := p.2.1
  let z := p.2.2
  let yy := y * y % ecP
  let s := 4 * x * yy % ecP
  let zz := z * z % ecP
  let m := 3 * (subP x zz * ((x + zz) % ecP)) % ecP
  let x3 := subP (m * m) (2 * s)
  (x3, subP (m * subP s x3) (8 * (yy * yy % ecP)), 2 * y * z % ecP)

/-- The sum of two points in Jacobian coordinates. -/
def ecAdd (p q : Nat × Nat × Nat) : Nat × Nat × Nat :=
  if p.2.2 = 0 then q
  else if q.2.2 = 0 then p
  else
    let z1 := p.2.2 * p.2.2 % ecP
    let z2 := q.2.2 * q.2.2 % ecP
    let u1 := p.1 * z2 % ecP
    let u2 := q.1 * z1 % ecP
    let s1 := p.2.1 * (z2 * q.2.2 % ecP) % ecP
    let s2 := q.2.1 * (z1 * p.2.2 % ecP) % ecP
    if u1 = u2 then (if s1 = s2 then ecDouble p else (1, 1, 0))
    else
      let h := subP u2 u1
      let r := subP s2 s1
      let hh := h * h % ecP
      let hhh := h * hh % ecP
      let v := u1 * hh % ecP
      let x3 := subP (subP (r * r) hhh) (2 * v)
      (x3, subP (r * subP v x3) (s1 * hhh), p.2.2 * q.2.2 % ecP * h % ecP)

/-- `a P + b Q` over the low `k` bits of both, where `s` is `P + Q`. -/
def ecMul2 (p q s : Nat × Nat × Nat) (a b : Nat) : Nat → Nat × Nat × Nat
  | 0 => (1, 1, 0)
  | k + 1 =>
    let i := 255 - k
    let r := ecDouble (ecMul2 p q s a b k)
    let x := a.testBit i
    let y := b.testBit i
    if x && y then ecAdd r s else if x then ecAdd r p else if y then ecAdd r q else r

/-- An ECDSA P-256 signature (r then s, big-endian) over SHA-256 of a message verifies under a public key (X then Y). -/
def ecdsaVerify (key sig msg : List Byte) : Bool :=
  let x := beNat (slice key 0 32)
  let y := beNat (slice key 32 32)
  let r := beNat (slice sig 0 32)
  let s := beNat (slice sig 32 32)
  if x < ecP ∧ y < ecP ∧ y * y % ecP = (x * x * x + (ecP - 3) * x + ecB) % ecP ∧ 1 ≤ r ∧ r < ecN ∧ 1 ≤ s ∧ s < ecN then
    let w := invMod ecN s
    let e := beNat (sha256 msg)
    let g : Nat × Nat × Nat := (ecG.1, ecG.2, 1)
    let q : Nat × Nat × Nat := (x, y, 1)
    let t := ecMul2 g q (ecAdd g q) (e * w % ecN) (r * w % ecN) 256
    if t.2.2 = 0 then false
    else
      let zi := invMod ecP t.2.2
      decide (t.1 * (zi * zi % ecP) % ecP % ecN = r)
  else false

/-! ### AES-128 -/

/-- Multiplication by x in GF(2^8). -/
def xtime (a : Nat) : Nat := if 128 ≤ a then ((2 * a) % 256).xor 0x1b else 2 * a

/-- Multiplication in GF(2^8) over `n` bits of `b`. -/
def gmul : Nat → Nat → Nat → Nat
  | 0, _, _ => 0
  | n + 1, a, b => (if b % 2 = 1 then a else 0).xor (gmul n (xtime a) (b / 2))

/-- The inverse in GF(2^8), a^254; 0 gives 0. -/
def ginv (a : Nat) : Nat :=
  let m := gmul 8
  let a2 := m a a
  let a3 := m a2 a
  let a6 := m a3 a3
  let a12 := m a6 a6
  let a15 := m a12 a3
  let a30 := m a15 a15
  let a60 := m a30 a30
  let a120 := m a60 a60
  let a240 := m a120 a120
  m (m a240 a12) a2

/-- A byte rotated left. -/
def rot8 (a n : Nat) : Nat := (a * 2 ^ n) % 256 + a / 2 ^ (8 - n)

/-- The AES S-box: the inverse, then the affine map. -/
def sboxOf (a : Nat) : Nat :=
  let b := ginv a
  ((((b.xor (rot8 b 1)).xor (rot8 b 2)).xor (rot8 b 3)).xor (rot8 b 4)).xor 0x63

/-- The S-box of every byte, entry 0 in the lowest byte. -/
def sboxTable : Nat := 0x16BB54B00F2D99416842E6BF0D89A18CDF2855CEE9871E9B948ED9691198F8E19E1DC186B95735610EF6034866B53E708A8BBD4B1F74DDE8C6B4A61C2E2578BA08AE7A65EAF4566CA94ED58D6D37C8E779E4959162ACD3C25C2406490A3A32E0DB0B5EDE14B8EE4688902A22DC4F816073195D643D7EA7C41744975FEC130CCDD2F3FF1021DAB6BCF5389D928F40A351A89F3C507F02F94585334D43FBAAEFD0CF584C4A39BECB6A5BB1FC20ED00D153842FE329B3D63B52A05A6E1B1A2C830975B227EBE28012079A059618C323C7041531D871F1E5A534CCF73F362693FDB7C072A49CAFA2D4ADF04759FA7DC982CA76ABD7FE2B670130C56F6BF27B777C63

/-- The AES S-box, read from its table. -/
def sbox (a : Nat) : Nat := sboxTable / 256 ^ a % 256

/-- Byte-wise exclusive or. -/
def xorBytes (a b : List Nat) : List Nat := (a.zip b).map (fun p => p.1.xor p.2)

/-- The next round key of 16 bytes. -/
def nextKey (k : List Nat) (rcon : Nat) : List Nat :=
  let g := fun i => k.getD i 0
  let t := [(sbox (g 13)).xor rcon, sbox (g 14), sbox (g 15), sbox (g 12)]
  let w0 := xorBytes (k.take 4) t
  let w1 := xorBytes ((k.drop 4).take 4) w0
  let w2 := xorBytes ((k.drop 8).take 4) w1
  w0 ++ w1 ++ w2 ++ xorBytes (k.drop 12) w2

/-- ShiftRows on the 16 bytes of a state, column by column. -/
def shiftRows (s : List Nat) : List Nat :=
  (List.range 16).map (fun i => s.getD ((i + 4 * (i % 4)) % 16) 0)

/-- MixColumns. -/
def mixColumns (s : List Nat) : List Nat :=
  (List.range 16).map (fun i =>
    let c := i / 4 * 4
    let b := fun j => s.getD (c + (i + j) % 4) 0
    ((xtime (b 0)).xor ((xtime (b 1)).xor (b 1))).xor ((b 2).xor (b 3)))

/-- `k` of a list of numbers, each of which is evaluated before `k` is. -/
def withNats {α : Type} : List Nat → (List Nat → α) → α
  | [], k => k []
  | 0 :: as, k => withNats as (fun r => k (0 :: r))
  | (n + 1) :: as, k => withNats as (fun r => k ((n + 1) :: r))

/-- Rounds of AES-128: `n` still to run, the last without MixColumns. -/
def aesRounds : Nat → List Nat → List Nat → Nat → List Nat
  | 0, s, _, _ => s
  | n + 1, s, k, rcon =>
    withNats (nextKey k rcon) (fun k1 =>
      withNats (s.map sbox) (fun b =>
        let t := shiftRows b
        withNats (xorBytes (if n = 0 then t else mixColumns t) k1) (fun s1 => aesRounds n s1 k1 (xtime rcon))))

/-- AES-128 of one block under a key. -/
def aes128 (key block : List Byte) : List Byte :=
  withNats ((slice key 0 16).map (·.toNat)) (fun k =>
    withNats ((slice block 0 16).map (·.toNat)) (fun b =>
      withNats (aesRounds 10 (xorBytes b k) k 1) (fun r => r.map (fun n => BitVec.ofNat 8 n))))

/-! ### AES-128 CCM with a 4-byte MIC and a 2-byte length field -/

/-- Byte-wise exclusive or of two strings, as long as the first. -/
def xorPad (a b : List Byte) : List Byte := (List.range a.length).map (fun i => a.getD i 0 ^^^ b.getD i 0)

/-- CBC-MAC over blocks of 16 bytes. -/
def cbcMac (key : List Byte) : Nat → List Byte → List Byte → List Byte
  | 0, _, y => y
  | n + 1, bs, y => cbcMac key n (bs.drop 16) (aes128 key (xorPad y (bs.take 16)))

/-- Zeros to the next multiple of 16. -/
def pad16 (bs : List Byte) : List Byte := bs ++ List.replicate ((16 - bs.length % 16) % 16) 0

/-- The authentication value of a plaintext: 4 bytes, before encryption. -/
def ccmTag (key nonce aad plain : List Byte) : List Byte :=
  let b := ([0x49] : List Byte) ++ slice nonce 0 13 ++ beBytes 2 plain.length ++ pad16 (beBytes 2 aad.length ++ aad) ++ pad16 plain
  (cbcMac key (b.length / 16) b (List.replicate 16 0)).take 4

/-- The i-th key-stream block. -/
def ccmStream (key nonce : List Byte) (i : Nat) : List Byte := aes128 key (([0x01] : List Byte) ++ slice nonce 0 13 ++ beBytes 2 i)

/-- The key stream from block 1. -/
def ccmKeyStream (key nonce : List Byte) (n : Nat) : List Byte :=
  ((List.range ((n + 15) / 16)).flatMap (fun i => ccmStream key nonce (i + 1))).take n

/-- Ciphertext and MIC of a body (R686). -/
def ccmSeal (key nonce aad plain : List Byte) : List Byte :=
  xorPad plain (ccmKeyStream key nonce plain.length) ++ xorPad (ccmTag key nonce aad plain) (ccmStream key nonce 0)

/-- The body of a ciphertext and MIC; none when the MIC fails (R690). -/
def ccmOpen (key nonce aad sealed : List Byte) : Option (List Byte) :=
  let n := sealed.length - 4
  let plain := xorPad (sealed.take n) (ccmKeyStream key nonce n)
  if sealed.length < 4 then none
  else if xorPad (ccmTag key nonce aad plain) (ccmStream key nonce 0) = sealed.drop n then some plain else none

end Sys2Proof.Machine
end

