-- ==== Sys2Proof/Machine/Remote.lean ====
section
/-! DEFINITION. The read-only words of the converter, radio and field dies (09-11, 14, 03) as their dies show them, and the values that a die
latches when it is powered down (01 R55). -/

namespace Sys2Proof.Machine

/-- The lane of a remote word: 0 converter, 1 radio, 2 field; none on the logic die (R873). -/
def remoteLane (a : Nat) : Option Nat :=
  if 0x1000 ≤ a ∧ a < 0x1C00 then some 0
  else if 0x1C00 ≤ a ∧ a < 0x2000 then some 2
  else if 0x3100 ≤ a ∧ a < 0x3200 then some 1
  else none

/-- Code of SYS_LANE_STAT for a girth lane. -/
def laneCode : LaneState → Nat
  | .parked => 0
  | .waking => 1
  | .live => 2
  | .silent => 3

/-- Code of SYS_LANE_STAT for a sample lane. -/
def sampCode : SampleState → Nat
  | .off => 0
  | .starting => 1
  | .running => 2
  | .failed => 3

/-- Code of FLD_PWR_STAT.CHG_STATE. -/
def chgCode : ChgState → Nat
  | .off => 0
  | .precharge => 1
  | .constCurrent => 2
  | .constVoltage => 3
  | .done => 4
  | .paused => 5
  | .fault => 6
  | .primary => 7

/-- CNV_SEQ_STATm without its RESULT. -/
def Sequencer.stat (q : Sequencer) : Word :=
  wd (min 255 q.late * 2 ^ 24 + min 255 q.skipped * 2 ^ 16 + q.slot % 64 * 2 ^ 8 + b2n q.waiting * 4 + b2n q.gap * 2 + b2n q.opened)

/-- EXC_STAT without its RESULT. -/
def Chip.excStat (c : Chip) : Word :=
  wd ((List.range 4).foldl (fun a n =>
    let x := c.exc.getD n {}
    a + (b2n x.clamped * 8 + b2n x.cut * 4 + b2n x.hold * 2 + b2n x.driven) * 16 ^ n) 0)

/-- FLD_PWR_STAT. -/
def Power.stat (p : Power) : Word :=
  wd (b2n p.ntcOpen * 1024 + chgCode p.chg * 128 + b2n p.onVcapSeen * 64 + b2n p.vcapGood * 32 + b2n p.cellReversed * 16 +
    b2n p.cellConnected * 8 + b2n p.fvinOv * 4 + b2n p.fvinPresent * 2 + b2n p.fvinTaken)

/-- The read-only fields of a remote word as its die shows them now: the held word, and the fields that follow the die's state. -/
def Chip.remoteView (c : Chip) (a : Nat) : Word :=
  if 0x1004 ≤ a ∧ a < 0x1008 then (c.seqs.getD (a - 0x1004) {}).stat
  else if a = 0x1013 then wd (min 3 c.runSig.conf * 2 ^ 30 + c.runSig.amp % 2 ^ 14 * 2 ^ 16 + c.runSig.freq % 2 ^ 16)
  else if a = 0x1014 then wd (c.runSig.vib % 2 ^ 16)
  else if 0x1208 ≤ a ∧ a < 0x120C then
    let x := c.chains.getD (a - 0x1208) {}
    wd (b2n x.activeB * 512 + b2n x.swapPending * 256 + b2n x.held * 128)
  else if a = 0x1808 then c.excStat
  else if a = 0x1C00 then c.power.stat
  else if a = 0x1C19 then wd (b2n c.fin.fign * 256 + c.fin.state.toNat)
  else if a = 0x3101 then wd (c.radio.foldback % 256 * 256 + ux 8 c.radio.power)
  else 0

/-- The words of a die that have read-only fields, by lane. -/
def latchAddrs (l : Nat) : List Nat :=
  if l = 0 then
    (List.range 8).map (· + 0x1004) ++ [0x1013, 0x1014] ++ (List.range 4).map (· + 0x1208) ++ (List.range 27).map (· + 0x1310) ++ [0x1808] ++
      (List.range 16).map (· + 0x1910)
  else if l = 1 then [0x3101]
  else if l = 2 then [0x1C00, 0x1C19]
  else []

/-- The words of a die that is powered down are latched (R55). -/
def Chip.latchDie (c : Chip) (l : Nat) : Chip :=
  c.upGirth (fun g => { g with latched := (latchAddrs l).foldl (fun r a => mset 0 r a (c.reg a ||| c.remoteView a)) g.latched })

/-- The lanes take new states; a LIVE lane that becomes PARKED latches its die's words (R33, R55). -/
def Chip.setLanes (c : Chip) (ls : List LaneState) : Chip :=
  let c1 := (List.range 3).foldl (fun c l => if c.lane l = .live ∧ ls.getD l .parked = .parked then c.latchDie l else c) c
  c1.upGirth (fun g => { g with lanes := ls })

end Sys2Proof.Machine
end

