-- ==== Sys2Proof/Machine/Radio.lean ====
section
/-! DEFINITION. The chirp radio (14): on-air time, the checks before a frame is sent, transmission, listen windows and
reception, status entries, and the radio's settings. -/

namespace Sys2Proof.Machine

/-! ### Frames (R621-R634, R654) -/

/-- Entries of a frame of LEN payload bytes (R654). -/
def frameEntries (len : Nat) : Nat := 1 + (len + 31) / 32

/-- Number of entries the item at the head of a ring takes: a frame, or a single entry. -/
def itemEntries (e : Entry) : Nat := if fld (ew e 0) 31 24 = 1 then frameEntries (fld (ew e 0) 7 0) else 1

/-- Entry `i` from TAIL. -/
def Chip.tailEntry (c : Chip) (n i : Nat) : Entry := c.entryAt ((c.ring n).slot ((c.ring n).tail + BitVec.ofNat 16 i))

/-- The item at the head of a ring, when all of its entries are present (R654). -/
def Chip.headItem (c : Chip) (n : Nat) : Option Entry :=
  let r := c.ring n
  if r.fill = 0 then none
  else
    let e := c.tailEntry n 0
    if itemEntries e ≤ r.fill then some e else none

/-- The payload of the frame at the head of a ring: 32 bytes in each data entry. -/
def Chip.headPayload (c : Chip) (n : Nat) (len : Nat) : List Byte :=
  ((List.range ((len + 31) / 32)).flatMap (fun i => wordsToBytes (c.tailEntry n (i + 1)))).take len

/-- `k` entries of a ring are consumed. -/
def Chip.consume (c : Chip) (n k : Nat) : Chip := c.upRing n (fun r => { r with tail := r.tail + BitVec.ofNat 16 k })

/-- Bandwidth in Hz by its code (R654). -/
def bwHz (bw : Nat) : Nat := 100000 * 2 ^ (bw % 4)

/-- Coded bits of `n` information bits at a code rate (R625): a final partial period keeps the bits of its positions. -/
def codedBits (cr n : Nat) : Nat :=
  match cr % 4 with
  | 0 => 2 * n
  | 1 => n / 2 * 3 + (if n % 2 = 0 then 0 else 2)
  | 2 => n / 3 * 4 + (if n % 3 = 0 then 0 else if n % 3 = 1 then 2 else 3)
  | _ => n / 5 * 6 + (if n % 5 = 0 then 0 else if n % 5 = 1 then 2 else if n % 5 = 2 then 3 else if n % 5 = 3 then 4 else 5)

/-- Symbols of a frame: preamble, sync word, header and payload (R628). -/
def frameSymbols (k cr pre len : Nat) : Nat :=
  pre + 2 + k * ((76 + k * k - 1) / (k * k)) + k * ((codedBits cr (8 * (len + 4) + 6) + k * k - 1) / (k * k))

/-- Duration of `n` symbols in µs (R621). -/
def symbolsUs (k bw n : Nat) : Nat := n * 2 ^ k * 1000000 / bwHz bw

/-- On-air time in µs, both ramps included (R634). -/
def onAirUs (k bw cr pre len ramp : Nat) : Nat := symbolsUs k bw (frameSymbols k cr pre len) + 2 * ramp

/-- Fields of a header entry's word 1. -/
def hPre (e : Entry) : Nat := fld (ew e 1) 15 8
/-- Symbol order K. -/
def hK (e : Entry) : Nat := fld (ew e 1) 7 4
/-- Bandwidth code. -/
def hBw (e : Entry) : Nat := fld (ew e 1) 3 2
/-- WPA when set, WTX otherwise. -/
def hPort (e : Entry) : Bool := bit (ew e 1) 1
/-- The frame takes its frequency from the hop table. -/
def hHop (e : Entry) : Bool := bit (ew e 1) 0
/-- POWER in dBm. -/
def hPower (e : Entry) : Int := sx 8 (fld (ew e 3) 31 24)
/-- TAG of the entry. -/
def hTag (e : Entry) : Nat := fld (ew e 1) 31 16
/-- LEN of the header information. -/
def hLen (e : Entry) : Nat := fld (ew e 0) 7 0

/-- RAMP in force, µs. -/
def Chip.ramp (c : Chip) : Nat := c.runF 0x3100 29 24

/-- On-air time of the frame of a header entry. -/
def Chip.airOf (c : Chip) (e : Entry) : Nat := onAirUs (hK e) (hBw e) (fld (ew e 0) 9 8) (hPre e) (hLen e) c.ramp

/-- The radio frequency of an entry: FREQ, or the hop table entry (R651). -/
def Chip.freqOf (c : Chip) (e : Entry) : Nat :=
  if hHop e then (c.runW (0x3040 + fld (ew e 2) 5 0)).toNat else (ew e 2).toNat

/-! ### Regulatory checks (R649-R651) -/

/-- The occupied band lies within 410-525 MHz or 820-1020 MHz (R640). -/
def inBand (f bw : Nat) : Bool :=
  let h := bwHz bw / 2
  (decide (410000000 + h ≤ f) && decide (f + h ≤ 525000000)) || (decide (820000000 + h ≤ f) && decide (f + h ≤ 1020000000))

/-- The enabled budget entry that holds the occupied band (R649). -/
def Chip.budgetEntry (c : Chip) (f bw : Nat) : Option Nat :=
  (List.range 4).find? (fun n =>
    let a := c.runW (0x3010 + 3 * n)
    c.runB (0x3011 + 3 * n) 31 && decide (fld a 15 0 * 25000 + bwHz bw / 2 ≤ f) && decide (f + bwHz bw / 2 ≤ fld a 31 16 * 25000))

/-- On-air time of a budget entry over the last 3600 s, µs. -/
def Chip.usedUs (c : Chip) (n : Nat) : Nat :=
  ((c.radio.air.filter (fun a => a.entry == n && decide (c.keeper.sec.toNat < a.sec + 3600))).map (·.us)).sum

/-- On-air time of a hop entry within the last DWELL_MS × HOP_LEN, µs. -/
def Chip.hopUs (c : Chip) (i : Nat) : Nat :=
  let span := c.runF 0x3020 15 0 * c.runF 0x3020 22 16
  ((c.radio.air.filter (fun a => a.hop == some i && decide (c.keeper.sec.toNat * 1000 < a.sec * 1000 + span))).map (·.us)).sum

/-- The format of a transmit entry (R635, R651, R654). -/
def Chip.formatBad (c : Chip) (e : Entry) : Bool :=
  decide (hK e < 6) || decide (13 < hK e) || decide (hPre e < 8) ||
  (if hPort e then decide (hPower e < 10) || decide (22 < hPower e) else decide (hPower e < -4) || decide (14 < hPower e)) ||
  (hHop e && (decide (hBw e = 3) || decide (c.runF 0x3020 22 16 ≤ fld (ew e 2) 5 0)))

/-- The reason for which a transmission is refused, and its budget entry: FORMAT 6, BAND 2, POWER 3, DUTY 1, DWELL 4 (R649-R651). -/
def Chip.txRefusal (c : Chip) (e : Entry) : Option Nat :=
  let f := c.freqOf e
  let air := c.airOf e
  if c.formatBad e then some 6
  else match (if inBand f (hBw e) then c.budgetEntry f (hBw e) else none) with
    | none => some 2
    | some n =>
      let b := c.runW (0x3011 + 3 * n)
      if sx 8 (fld b 23 16) < hPower e then some 3
      else if fld b 15 0 * 360000 < c.usedUs n + air then some 1
      else if hHop e ∧ (c.runF 0x3020 15 0 * 1000 < air ∨ c.runF 0x3020 15 0 * 1000 < c.hopUs (fld (ew e 2) 5 0) + air) then some 4
      else none

/-! ### Status entries (R656) -/

/-- A TX status entry on ring 38: KIND 1 SENT, 2 ABORTED, 3 REFUSED. -/
def Chip.txStatus (c : Chip) (kind reason : Nat) (f : RadioFrame) : Chip :=
  let e := f.header
  let left := c.runF (0x3011 + 3 * f.entry) 15 0 * 360 - c.usedUs f.entry / 1000
  let sent := decide (kind = 1)
  c.produce 0x09 38
    [wd (kind * 2 ^ 24 + reason * 65536 + hTag e),
     wd (f.ring * 2 ^ 24 + fld (ew e 0) 13 11 * 65536 + c.radio.foldback * 256 + ux 8 (hPower e - c.radio.foldback)),
     if sent then wd f.syncSec else 0,
     if sent then wd (f.syncSec / 2 ^ 32 * 2 ^ 31 + b2n c.keeper.valid * 2 ^ 30 + f.syncSub) else 0,
     if sent then wd f.syncFine else 0, if kind = 3 then 0 else wd f.airUs, wd left, wd f.freq]

/-- An entry is refused: its status entry is produced and the item is consumed (R649-R651, R657, R665). -/
def Chip.refuseItem (c : Chip) (n reason : Nat) (e : Entry) : Chip :=
  (c.txStatus 3 reason { ring := n, header := e, freq := c.freqOf e }).consume n (itemEntries e)

/-- An RX status entry on ring 39: KIND 1 HDR_FAIL, 2 CRC_FAIL, 3 PREEMPTED, 4 WINDOW_END. -/
def Chip.rxStatus (c : Chip) (kind tag len : Nat) (w : Entry) : Chip :=
  c.produce 0x09 39 [wd (kind * 2 ^ 24 + tag), wd len, ew w 2, ew w 3, ew w 4, ew w 5, ew w 6, ew w 7]

/-! ### Settings (R667, R670) -/

/-- The ARM fields of the radio. -/
def radioArms : List Nat := [0x3000, 0x3002, 0x301C, 0x3020, 0x3100]

/-- No frame is being sent or received. -/
def Chip.radioQuiet (c : Chip) : Bool := decide (c.radio.state ≠ .transmitting) && decide (c.radio.state ≠ .receiving)

/-- Accepted radio sets apply at the first symbol boundary without a frame (R667); WRF_RF_CFG on a LIVE lane only (R60). -/
def Chip.radioApply (c : Chip) : Chip :=
  if c.radioQuiet then
    radioArms.foldl (fun c a => match c.armedSet a with
      | some s => if a ≠ 0x3100 ∨ c.live 1 = true then (c.applyWords s.words).dropArmed a else c
      | none => c) c
  else c

/-- The words an ARM of the radio applies (R882). -/
def Chip.radioWords (c : Chip) (arm : Nat) : List (Nat × Word) :=
  if arm = 0x301C then c.shadow 0x3010 12
  else if arm = 0x3020 then c.shadow 0x3020 1 ++ c.shadow 0x3040 64
  else c.shadow arm 1

/-- The checks of the radio's sets (R670): 0 ACCEPTED, 6 REFUSED_RANGE. -/
def Chip.radioCheck (c : Chip) (arm : Nat) : Nat :=
  if arm = 0x301C then
    if (List.range 4).all (fun n =>
      let b := c.reg (0x3011 + 3 * n)
      decide (fld b 15 0 ≤ 10000) && (!bit b 31 || decide (1 ≤ fld b 15 0))) then 0 else 6
  else if arm = 0x3020 then
    let w := c.reg 0x3020
    if decide (1 ≤ fld w 22 16) && decide (fld w 22 16 ≤ 64) && decide (1 ≤ fld w 15 0) then 0 else 6
  else if arm = 0x3100 then
    let r := c.rf 0x3100 29 24
    if 2 ≤ r then 0 else 6
  else 0

/-- An ARM of a radio unit. An ARM of the radio die on a SILENT lane is discarded (R885). -/
def Chip.radioArm (c : Chip) (arm : Nat) : Chip :=
  if arm = 0x3100 ∧ c.silent 1 = true then c
  else
    let r := c.radioCheck arm
    let c1 := c.armLast arm r
    let c2 := if arm = 0x3100 then c1 else c1.setFld 0x3000 3 0 r
    if r = 0 then (c2.holdSet arm (c.radioWords arm)).radioApply else c2

/-- WRF_RX_ARM (R667). -/
def execWrfRxArm (s : State) : Host.Outcome State Fault Refusal := s.runHost (fun c => c.radioArm 0x3000)
/-- WRF_TX_ARM (R667). -/
def execWrfTxArm (s : State) : Host.Outcome State Fault Refusal := s.runHost (fun c => c.radioArm 0x3002)
/-- WRF_RF_ARM (R667). -/
def execWrfRfArm (s : State) : Host.Outcome State Fault Refusal := s.runHost (fun c => c.radioArm 0x3100)
/-- WRF_DUTY_ARM (R667). -/
def execWrfDutyArm (s : State) : Host.Outcome State Fault Refusal := s.runHost (fun c => c.radioArm 0x301C)
/-- WRF_HOP_ARM (R667). -/
def execWrfHopArm (s : State) : Host.Outcome State Fault Refusal := s.runHost (fun c => c.radioArm 0x3020)

/-! ### Bursts (R658, R665) -/

/-- The radio may be used: its die is reachable and its settings passed their check (R665, R880). -/
def Chip.radioRefusal (c : Chip) : Option Nat :=
  if c.silent 1 ∨ c.girth.radioRefused = true then some 7
  else if c.held ∨ c.mode = 0 ∨ c.mode = 7 ∨ c.mode = 0xF ∨ c.ramp < 2 then some 12
  else none

/-- A burst is over when nothing is on air and no window is open: LINK is left (R124, R132). -/
def Chip.burstOver (c : Chip) : Chip :=
  let c1 := c.radioApply
  if c1.radio.tx.isNone && c1.radio.window.isNone && decide (c1.radio.state ≠ .receiving) then
    (c1.upRadio (fun r => { r with burstWanted := false, state := if r.state = .off then .off else .idle })).leaveLink
  else c1

/-- The LINK burst is requested of the mode controller (R132): a tracking burst in FIX pauses at its epoch boundary; a capture
in FIX is waited for. -/
def Chip.wantBurst (c : Chip) (r : Reason) : Chip :=
  let c1 := c.upRadio (fun x => { x with burstWanted := true })
  if c1.mode = 1 ∨ c1.mode = 2 then c1.goTo 4 r
  else if c1.mode = 3 ∧ c1.acq.state = .burst then (c1.upAcq (fun a => { a with state := .paused })).goTo 4 r
  else if c1.mode = 3 ∧ c1.acq.state = .waiting then c1
  else c1

/-- Source of a burst by its ring: the host's ring 34, the rules and the yard otherwise. -/
def ringReason (n : Nat) : Reason := if n = 34 then .host else .rule

/-- BURST_REQUEST (R658, R665): 15 ms before LAUNCH. -/
def execBurstRequest (ring : Nat) (s : State) : Host.Outcome State Fault Refusal :=
  s.run (fun c =>
    if ring < 32 ∨ 35 < ring then c
    else match c.headItem ring with
      | none => c
      | some e =>
        if fld (ew e 0) 31 24 = 3 then c
        else match c.radioRefusal with
          | some why => c.refuseItem ring why e
          | none => c.wantBurst (ringReason ring))

/-! ### Transmission (R657-R666) -/

/-- The end of the sync word from now: keeper seconds, sub-second count, TBM cycles after its edge (R656). -/
def Chip.syncAt (c : Chip) (e : Entry) : Nat × Nat × Nat :=
  let cyc := (c.keeper.sub.toNat * 26000000) / 32768 + (hPre e + 2) * 2 ^ hK e * 26000000 / bwHz (hBw e)
  let sub := cyc * 32768 / 26000000
  (c.keeper.sec.toNat + sub / 32768, sub % 32768, cyc - sub * 26000000 / 32768)

/-- A frame being received is dropped for a transmission, or by an abort (R660, R664). -/
def Chip.preemptRx (c : Chip) : Chip :=
  if c.radio.state = .receiving then
    let c1 := c.rxStatus 3 ((c.radio.window.map (fun w => hTag w.header)).getD 0) ((c.radio.rxHeader.map (· % 256)).getD 0) []
    c1.upRadio (fun r => { r with state := if r.window.isSome then .searching else .idle, sync := none, rxHeader := none })
  else c

/-- The frame at the head of a ring is sent. -/
def Chip.launch (c : Chip) (n : Nat) (e : Entry) : Chip :=
  let t := c.syncAt e
  let f : RadioFrame :=
    { ring := n, header := e, payload := c.headPayload n (hLen e), freq := c.freqOf e, airUs := c.airOf e,
      entry := (c.budgetEntry (c.freqOf e) (hBw e)).getD 0, hop := if hHop e then some (fld (ew e 2) 5 0) else none,
      syncSec := t.1, syncSub := t.2.1, syncFine := t.2.2 }
  let c1 := c.preemptRx.consume n (itemEntries e)
  c1.upRadio (fun r => { r with
    state := .transmitting, tx := some f, foldback := 0, power := hPower e, paOn := true, burstWanted := true,
    air := { sec := c.keeper.sec.toNat, us := f.airUs, entry := f.entry, hop := f.hop } ::
      r.air.filter (fun a => decide (c.keeper.sec.toNat < a.sec + 3600)) })

/-- FRAME_LAUNCH (R649-R651, R657, R660, R661): a frame starts, `lateMs` late, or is refused. -/
def Chip.frameLaunch (c : Chip) (n lateMs : Nat) : Chip :=
  match c.headItem n with
  | none => c
  | some e =>
    if fld (ew e 0) 31 24 ≠ 1 then c
    else match c.radioRefusal with
      | some why => c.refuseItem n why e
      | none =>
        if !rcPowered c.mode || decide (c.radio.state = .transmitting) then c
        else if c.runF 0x3002 23 16 ≠ 0 ∧ c.runF 0x3002 23 16 < lateMs then c.refuseItem n 5 e
        else match c.txRefusal e with
          | some why => c.refuseItem n why e
          | none => c.launch n e

/-- FRAME_LAUNCH (R657). -/
def execFrameLaunch (ring lateMs : Nat) (s : State) : Host.Outcome State Fault Refusal :=
  s.run (fun c => if ring < 32 ∨ 35 < ring then c else c.frameLaunch ring lateMs)

/-- The state after a transmission: a suspended window goes on (R660). -/
def RadioState.afterTx (w : Option RadioFrame) : RadioState := if w.isSome then .searching else .idle

/-- The frame on air has been sent: SENT on ring 38 (R656). -/
def Chip.frameSent (c : Chip) : Chip :=
  match c.radio.tx with
  | none => c
  | some f =>
    let c1 := c.txStatus 1 0 f
    (c1.upRadio (fun r => { r with tx := none, paOn := false, sent := r.sent + 1, power := 0, state := RadioState.afterTx r.window })).burstOver

/-- A frame in progress ramps down and is ABORTED with a reason (R663, R664). -/
def Chip.abortTx (c : Chip) (reason : Nat) : Chip :=
  match c.radio.tx with
  | none => c
  | some f =>
    let c1 := (c.txStatus 2 reason f).setBits 0x3102 4
    c1.upRadio (fun r => { r with tx := none, paOn := false, aborted := r.aborted + 1, power := 0, state := RadioState.afterTx r.window })

/-- Battery hold, TRIP and TBM failure end the frame in progress and the reception (R664). -/
def Chip.abortRadio (c : Chip) (reason : Nat) : Chip :=
  ((c.abortTx reason).preemptRx).upRadio (fun r => { r with
    window := none, burstWanted := false, sync := none, rxHeader := none, state := if r.state = .off then .off else .idle })

/-- TX_QUEUE_EMPTY (R46, R663). -/
def execTxQueueEmpty (s : State) : Host.Outcome State Fault Refusal :=
  s.run (fun c => if c.radio.tx.isSome then (c.abortTx 7).burstOver else c)

/-- TX_ABORT (R664): a write of 1 to WRF_TX_CTL.ABORT. -/
def Chip.txAbort (c : Chip) : Chip := if c.radio.tx.isSome then (c.abortTx 11).burstOver else c

/-- TX_ABORT (R664). -/
def execTxAbort (s : State) : Host.Outcome State Fault Refusal := s.runHost Chip.txAbort

/-- REFLECT_CHECK (R637, R638): each measurement below 6 dB lowers the power by 1 dB, up to 6 dB. -/
def Chip.reflect (c : Chip) (loss : Nat) : Chip :=
  match c.radio.tx with
  | none => c
  | some f =>
    if 60 ≤ loss ∨ 6 ≤ c.radio.foldback then c
    else
      let c1 := c.upRadio (fun r => { r with foldback := r.foldback + 1, power := r.power - 1 })
      if c.radio.foldback = 0 then
        let b := b2n (hPort f.header)
        if c1.rf 0x3102 b b = 0 then (c1.setBits 0x3102 (2 ^ b)).protect 0x09 0x0401 b c1.radio.foldback loss 0 else c1
      else c1

/-- REFLECT_CHECK (R637). -/
def execReflectCheck (loss : Nat) (s : State) : Host.Outcome State Fault Refusal := s.run (fun c => c.reflect loss)

/-- SYNTH_UNLOCK (R670): WRF_FAULT.SYNTH_UNLOCK. -/
def execSynthUnlock (s : State) : Host.Outcome State Fault Refusal := s.run (fun c => c.setBits 0x3102 8)

/-! ### Reception (R642-R648, R655, R660, R662) -/

/-- LISTEN_WINDOW_START (R654): a listen window opens; one that meets a transmission is suspended for its length. -/
def execListenWindowStart (ring : Nat) (s : State) : Host.Outcome State Fault Refusal :=
  s.run (fun c =>
    if ring < 32 ∨ 35 < ring then c
    else match c.headItem ring with
      | none => c
      | some e =>
        if fld (ew e 0) 31 24 ≠ 2 then c
        else match c.radioRefusal with
          | some why => c.refuseItem ring why e
          | none =>
            if rcPowered c.mode && c.radio.window.isNone then
              (c.consume ring 1).upRadio (fun r => { r with
                window := some { ring := ring, header := e, freq := c.freqOf e }, gotFrame := false, burstWanted := true,
                state := if r.state = .transmitting then .transmitting else .searching })
            else c)

/-- WINDOW_END (R662): a frame accepted before is received to its end; a window without one gives WINDOW_END. -/
def Chip.windowEnd (c : Chip) : Chip :=
  match c.radio.window with
  | none => c
  | some w =>
    let c1 := c.upRadio (fun r => { r with window := none, state := if r.state = .searching then .idle else r.state })
    let c2 := if c.radio.gotFrame || decide (c.radio.state = .receiving) then c1
      else c1.rxStatus 4 (hTag w.header) 0 [0, 0, 0, 0, 0, 0, 0, wd w.freq]
    c2.burstOver

/-- WINDOW_END (R662). -/
def execWindowEnd (s : State) : Host.Outcome State Fault Refusal := s.run Chip.windowEnd

/-- Reception of a stirrup listen window (R284, R668). -/
def Chip.stirrupListening (c : Chip) : Bool := decide (c.mode = 7) && c.start.listening

/-- Symbol order of the window that listens: the stirrup window's is 10 (R279, R284). -/
def Chip.rxK (c : Chip) : Nat := match c.radio.window with
  | some w => hK w.header
  | none => 10

/-- The yard code of two down-sweep shifts (R629); none when they name no code. -/
def syncCode (k s1 s2 : Nat) : Option Nat :=
  let u := 2 ^ (k - 4)
  if s1 % u = 0 ∧ s2 % u = 0 ∧ s1 / u < 16 ∧ s2 / u < 16 then some (s1 / u * 16 + s2 / u) else none

/-- The receiver searches: in a listen window, or in the stirrup window. -/
def Chip.searching (c : Chip) : Bool :=
  decide (c.radio.state = .searching) || (c.stirrupListening && decide (c.radio.state ≠ .receiving))

/-- SYNC_DETECT (R642, R645). -/
def Chip.syncDetect (c : Chip) (sweeps s1 s2 : Nat) (rssi snr : Int) : Chip :=
  if !c.searching || decide (sweeps < 8) then c
  else match syncCode c.rxK s1 s2 with
    | none => c
    | some code =>
      let want := match c.radio.window with
        | some w => decide (code = fld (ew w.header 3) 23 16) || (decide (code = 0xFF) && c.runB 0x3000 24)
        | none => decide (code = 0xFF)
      if want then
        c.upRadio (fun r => { r with state := .receiving, sync := some (code, ux 16 rssi, ux 16 snr), rxHeader := none, gotFrame := true })
      else c.upRadio (fun r => { r with syncOther := r.syncOther + 1 })

/-- SYNC_DETECT (R642). -/
def execSyncDetect (sweeps shift1 shift2 : Nat) (rssi snr : Int) (s : State) : Host.Outcome State Fault Refusal :=
  s.run (fun c => c.syncDetect sweeps shift1 shift2 rssi snr)

/-- The receiver after a frame has ended: the search resumes while a window is open. -/
def Chip.rxOver (c : Chip) : Chip :=
  (c.upRadio (fun r => { r with
    state := if r.window.isSome then .searching else if r.state = .off then .off else .idle, sync := none, rxHeader := none })).burstOver

/-- RSSI and SNR of the sync word, as word 2 of R655. -/
def Chip.rxLevels (c : Chip) : Word := match c.radio.sync with
  | some (_, a, b) => wd (a * 65536 + b)
  | none => 0

/-- TAG and frequency of the open window. -/
def Chip.rxTag (c : Chip) : Nat := (c.radio.window.map (fun w => hTag w.header)).getD 0

/-- HEADER_DECODE (R643): a header whose CRC-8 fails is dropped and the search resumes. -/
def Chip.headerDecode (c : Chip) (hdr crc : Nat) : Chip :=
  if c.radio.state ≠ .receiving ∨ c.radio.rxHeader.isSome = true then c
  else if crc8 24 hdr 0 = crc then c.upRadio (fun r => { r with rxHeader := some (hdr % 2 ^ 24) })
  else
    let c1 := c.rxStatus 1 c.rxTag 0 [0, 0, c.rxLevels, 0, 0, 0, 0, wd ((c.radio.window.map (·.freq)).getD 0)]
    (c1.upRadio (fun r => { r with hdrFail := r.hdrFail + 1 })).rxOver

/-- HEADER_DECODE (R643). -/
def execHeaderDecode (hdr crc : Nat) (s : State) : Host.Outcome State Fault Refusal := s.run (fun c => c.headerDecode hdr crc)

/-- The data entries of a payload: 32 bytes each, the last filled with zeros (R654). -/
def dataEntries (bs : List Byte) : List Entry :=
  (List.range ((bs.length + 31) / 32)).map (fun i => padTo 8 0 (bytesToWords ((bs.drop (32 * i)).take 32)))

/-- The header entry of a received frame (R655). -/
def Chip.rxHeaderEntry (c : Chip) (hdr : Nat) (rx : RxMeta) : Entry :=
  let w := (c.radio.window.map (·.header)).getD zeroEntry
  [wd (2 ^ 24 + hdr), wd (((c.radio.sync.map (·.1)).getD 0) * 2 ^ 24 + c.rxK % 16 * 2 ^ 20 + hBw w * 2 ^ 18), c.rxLevels, wdI rx.foff,
   wd rx.sec, wd (rx.sec / 2 ^ 32 % 2 * 2 ^ 31 + b2n c.keeper.valid * 2 ^ 30 + rx.sub % 32768), wd (ux 16 rx.toff * 65536 + rx.fine % 1024),
   wd ((c.radio.window.map (·.freq)).getD 0)]

/-- The ring of a received frame: 37 for code 0xFF and for the windows of ring 34, 36 otherwise (R653). -/
def Chip.rxRing (c : Chip) : Nat :=
  if (c.radio.sync.map (·.1)) = some 0xFF ∨ (c.radio.window.map (·.ring)) = some 34 then 37 else 36

/-- A frame has been received outside STIRRUP: delivered on its ring, or discarded with a status entry when its CRC-32 fails
(R648, R655). -/
def Chip.frameReceived (c : Chip) (payload : List Byte) (crc : Word) (rx : RxMeta) : Chip :=
  match c.radio.rxHeader with
  | none => c
  | some hdr =>
    let e := c.rxHeaderEntry hdr rx
    let ok := decide (payload.length = hdr % 256) && decide (wd (crc32 (leBytes 3 hdr ++ payload)) = crc)
    let c1 :=
      if ok then
        ((e :: dataEntries payload).foldl (fun c x => c.produce 0x09 c.rxRing x) c).upRadio (fun r => { r with rxOk := r.rxOk + 1 })
      else (c.rxStatus 2 c.rxTag (hdr % 256) e).upRadio (fun r => { r with crcFail := r.crcFail + 1 })
    c1.rxOver

end Sys2Proof.Machine
end

