-- ==== Sys2Proof/Machine/Rings.lean ====
section
/-! DEFINITION. The rings (07): host consume and publish, entry windows, descriptors and their ARM, resumed producers, holding
buffers, lossy conversion, the arbiter, the test harness, and the discard at a silent lane. -/

namespace Sys2Proof.Machine

/-! ### Assignments (R300-R303, R561, R574, R653, R713) -/

/-- The fixed fields of a ring: SIZE_LOG2, CLASS, PRIO, PRODUCER, CONSUMER; none where the tack image sets the field. -/
structure RingFix where
  size : Option Nat := none
  cls : Option Nat := none
  prio : Option Nat := none
  producer : Option Nat := none
  consumer : Option Nat := none
  deriving DecidableEq, Repr

/-- The fixed assignments of rings 0-47. PRODUCER 0 stands for several agents. -/
def ringFix (n : Nat) : RingFix :=
  if n = 0 then { size := some 6, cls := some 0, prio := some 0, producer := some 0, consumer := some 0x01 }
  else if n = 1 then { size := some 7, cls := some 0, prio := some 0, producer := some 0, consumer := some 0x02 }
  else if n = 2 then { cls := some 0, prio := some 1, producer := some 0, consumer := some 0x03 }
  else if n = 3 then { producer := some 0x03, consumer := some 0x0B }
  else if n = 4 then { cls := some 0, prio := some 1, producer := some 0x0B, consumer := some 0x12 }
  else if n = 5 then { cls := some 0, producer := some 0x12, consumer := some 0x0B }
  else if n = 6 then { cls := some 0, prio := some 3, consumer := some 0x0D }
  else if n = 7 then { cls := some 1, prio := some 3, producer := some 0, consumer := some 0x0B }
  else if n ≤ 15 then { producer := some 0x04 }
  else if n ≤ 17 then { producer := some 0x07 }
  else if n ≤ 21 then { producer := some 0x08 }
  else if n ≤ 31 then { size := some 0, producer := some 0, consumer := some 0 }
  else if n = 32 ∨ n = 35 then { cls := some 0, producer := some 0x0A, consumer := some 0x09 }
  else if n = 33 then { cls := some 0, producer := some 0, consumer := some 0x09 }
  else if n = 34 then { cls := some 0, producer := some 0x0B, consumer := some 0x09 }
  else if n ≤ 37 then { producer := some 0x09 }
  else if n ≤ 39 then { cls := some 1, producer := some 0x09 }
  else if n ≤ 41 then { producer := some 0x0A }
  else if n = 42 then { producer := some 0x0B, consumer := some 0x0A }
  else if n = 43 then { producer := some 0x0A, consumer := some 0x0B }
  else if n = 44 then { cls := some 1, producer := some 0x0A }
  else if n ≤ 47 then { size := some 0, producer := some 0, consumer := some 0 }
  else {}

/-- Agents a ring's PRODUCER may name, where it is not fixed (R300, R302, R303). -/
def producersOf (n : Nat) : List Nat :=
  if n = 6 then [0, 0x0B, 0x0A] else if n < 48 then [] else if n ≤ 59 then [0, 0x0B, 0x03] else [0, 0x0B, 0x13]

/-- Agents a ring's CONSUMER may name, where it is not fixed (R300, R302, R303, R561, R653, R713). -/
def consumersOf (n : Nat) : List Nat :=
  if 8 ≤ n ∧ n ≤ 15 then [0, 0x0B, 0x0A]
  else if n = 18 ∨ n = 38 then [0, 0x0B, 0x0A]
  else if 16 ≤ n ∧ n ≤ 21 then [0, 0x0B]
  else if n = 36 then [0x0A, 0x0B]
  else if n = 37 ∨ n = 39 ∨ n = 40 ∨ n = 41 ∨ n = 44 then [0, 0x0B]
  else if n < 48 then []
  else if n ≤ 59 then [0, 0x0B, 0x03] else [0, 0x0B, 0x13]

/-- The agents that may put an entry into a ring from on the die: those of R300 where it names several, the ring's PRODUCER
otherwise. -/
def Chip.mayProduce (c : Chip) (agent n : Nat) : Bool :=
  if agent = 0 ∨ agent = 0x0B ∨ 0x13 < agent then false
  else if n = 0 then true
  else if n = 1 then [0x02, 0x03, 0x0C, 0x0D, 0x0E].contains agent
  else if n = 2 then true
  else if n = 7 then agent == 0x11 || agent == 0x0F
  else if n = 33 then agent == 0x03 || agent == 0x0A
  else if n < 48 ∧ n ≠ 6 then (ringFix n).producer == some agent
  else decide ((c.ring n).producer = agent)

/-! ### Room, resumption and holding buffers (R298, R299, R321, R326) -/

/-- A window copy of the ring has ended (R321). -/
def Chip.endCopy (c : Chip) (n : Nat) : Chip := c.upRing n (fun r => { r with copying := false })

/-- A converted ring returns to its class once LOSSY is clear and it is not full (R326). -/
def Chip.settleClass (c : Chip) (n : Nat) : Chip :=
  c.upRing n (fun r => if r.converted && !r.lossy && !r.full then { r with converted := false } else r)

/-- RING_PRODUCE (R297-R301, R314-R317). -/
def execRingProduce (agent ring : Nat) (entry : List Word) (s : State) : Host.Outcome State Fault Refusal :=
  s.run (fun c => if c.mayProduce agent ring then c.produce agent ring (padTo 8 0 entry) else c)

/-- RING_PRODUCE_RESUME (R299): the oldest waiting entry is produced when its ring has room. -/
def execRingProduceResume (ring : Nat) (s : State) : Host.Outcome State Fault Refusal :=
  s.run (fun c0 =>
    let c := c0.endCopy ring
    match (c.ring ring).waiting with
    | [] => c
    | (a, e) :: rest =>
      let c1 := c.upRing ring (fun r => { r with waiting := rest })
      if (c1.ring ring).active = .lossless then
        if (c1.ring ring).fullFor ring e then c else ((c1.pushEntry ring e).observe).answer .done
      else c1.produce a ring e)

/-- The held entries of ring 18 leave as whole epochs: the epoch at the head is produced when all of it has room, and skipped
whole otherwise (R321, R586). -/
def Chip.drainEpoch (c : Chip) : Chip :=
  match (c.ring 18).held with
  | [] => c
  | (_, h) :: _ =>
    let n := 1 + fld (ew h 0) 7 0
    let es := ((c.ring 18).held.take n).map (·.2)
    let c1 := c.upRing 18 (fun r => { r with held := r.held.drop n })
    if (c1.ring 18).fill + es.length ≤ (c1.ring 18).size then es.foldl (fun c e => c.produce 0x08 18 e) c1
    else
      let c2 := c1.upRing 18 (fun r => r.drops es.length)
      { c2 with track := { c2.track with skip := c2.track.skip + 1 } }

/-- The first entry held for a ring is produced in order (R298, R321). -/
def Chip.drain (c : Chip) (n : Nat) : Chip :=
  match (c.ring n).held with
  | [] => c
  | (a, e) :: rest =>
    let c1 := c.upRing n (fun r => { r with held := rest })
    if (c1.ring n).active = .lossless then
      if (c1.ring n).fullFor n e then c else ((c1.pushEntry n e).observe).answer .done
    else c1.produce a n e

/-- HOLDING_BUFFER_DRAIN (R298, R321). -/
def execHoldingBufferDrain (ring : Nat) (s : State) : Host.Outcome State Fault Refusal :=
  s.run (fun c => if ring = 18 then (c.endCopy 18).drainEpoch else (c.endCopy ring).drain ring)

/-- A LOSSLESS ring with an external consumer (R324). -/
def Ring.external (r : Ring) : Bool := decide (r.consumer = 0x0B)

/-- The lossy conversion of a ring that has missed its service time (R325). -/
def Chip.convert (c : Chip) (n : Nat) : Chip :=
  let r := c.ring n
  let c1 := c.upRing n (fun r =>
    { (r.drops (r.waiting.length + r.held.length)) with waiting := [], held := [], lossy := true, converted := true })
  c1.produce 0x11 0 (ringEvent 0x0001 n r.svc)

/-- LOSSY_CONVERSION (R324, R325, R327): the ring has been full for SVC_TIME while a producer waits on it or holds for it. -/
def execLossyConversion (ring : Nat) (s : State) : Host.Outcome State Fault Refusal :=
  s.run (fun c =>
    let r := c.ring ring
    if decide (r.active = .lossless) && r.external && decide (r.svc ≠ 0) && decide (r.sizeLog2 ≠ 0) && r.full &&
        (!r.waiting.isEmpty || !r.held.isEmpty) then c.convert ring else c)

/-! ### Host access (R318-R323, R309) -/

/-- The result of a consume or produce is shown (RING_OPSTATn); a stale one sets RING_STATn.STALE. -/
def Chip.opResult (c : Chip) (n res : Nat) : Chip :=
  c.upRing n (fun r => { r with opstat := res, stale := r.stale || decide (res = 1) })

/-- Free entries of a ring. -/
def Ring.free (r : Ring) : Nat := r.size - r.fill

/-- A write to RING_CONSUMEn (R322). -/
def Chip.hostConsume (c0 : Chip) (n : Nat) (w : Word) : Chip :=
  let c := c0.endCopy n
  let r := c.ring n
  let count := fld w 12 0
  if r.consumer ≠ 0x0B then c.opResult n 4
  else if bit w 15 = true ∧ r.tail.toNat ≠ fld w 31 16 then c.opResult n 1
  else if r.fill < count then c.opResult n 2
  else ((c.consume n count).opResult n 0).settleClass n

/-- A write to RING_PRODUCEn (R322): the staged entries become visible. -/
def Chip.hostPublish (c0 : Chip) (n : Nat) (w : Word) : Chip :=
  let c := c0.endCopy n
  let r := c.ring n
  let count := fld w 12 0
  if r.producer ≠ 0x0B then c.opResult n 4
  else if bit w 15 = true ∧ r.head.toNat ≠ fld w 31 16 then c.opResult n 1
  else if r.free < count then c.opResult n 3
  else (c.upRing n (fun r => { r with head := r.head + BitVec.ofNat 16 count, peak := max r.peak (r.fill + count) })).opResult n 0

/-- RING_CONSUME (R322). -/
def execRingConsume (ring : Nat) (w : Word) (s : State) : Host.Outcome State Fault Refusal :=
  s.runHost (fun c => if ring < 64 then c.hostConsume ring w else c)

/-- RING_PRODUCE_PUBLISH (R322). -/
def execRingProducePublish (ring : Nat) (w : Word) (s : State) : Host.Outcome State Fault Refusal :=
  s.runHost (fun c => if ring < 64 then c.hostPublish ring w else c)

/-- A write to RING_OBS_ACK: the host observer advances by COUNT, at most to HEAD (R309). -/
def Chip.obsAck (c : Chip) (w : Word) : Chip :=
  let o := c.rings.obsHost
  let i := o.index + BitVec.ofNat 16 (min (fld w 12 0) (c.behind o))
  let back := ((c.ring 0).head - i).toNat
  { c with rings := { c.rings with obsHost := { o with index := i, episode := o.episode && decide (64 ≤ back) } } }

/-- RING_OBS_ACK (R309). -/
def execRingObsAck (w : Word) (s : State) : Host.Outcome State Fault Refusal := s.runHost (fun c => c.obsAck w)

/-- A write to word `i` of the entry window of ring `n`; false when it is discarded (R320). -/
def Chip.stageWindow (c : Chip) (n i : Nat) (w : Word) : Chip × Bool :=
  let r := c.ring n
  let e := i / 8
  if r.producer = 0x0B ∧ e < r.free then
    let slot := r.slot (r.head + BitVec.ofNat 16 e)
    (c.putEntry slot ((c.entryAt slot).set (i % 8) w), true)
  else (c, false)

/-- RING_WINDOW_STAGE (R320). -/
def execRingWindowStage (ring index : Nat) (w : Word) (s : State) : Host.Outcome State Fault Refusal :=
  s.runHost (fun c => if ring < 64 ∧ index < 256 then (c.stageWindow ring index w).1 else c)

/-- Word `i` of the entry window of ring `n` (R318, R319). -/
def Chip.windowWord (c : Chip) (n i : Nat) : Word :=
  let r := c.ring n
  let e := i / 8
  let at_ := fun (x : BitVec 16) => ew (c.entryAt (r.slot (x + BitVec.ofNat 16 e))) (i % 8)
  if n = 0 then (if e < c.behind c.rings.obsHost then at_ c.rings.obsHost.index else 0)
  else if r.producer = 0x0B ∧ r.consumer ≠ 0x0B then (if e < r.free then at_ r.head else 0)
  else if e < r.fill then at_ r.tail else 0

/-- The words a read frame asks for, copied before any produce or consume acts on the ring (R321). -/
def Chip.windowRead (c : Chip) (n first count : Nat) : List Word :=
  (List.range count).map (fun i => if first + i < 256 then c.windowWord n (first + i) else 0)

/-- RING_WINDOW_READ (R321): the copy, which producers of the ring meet until they drain or resume. -/
def execRingWindowRead (ring first count : Nat) (s : State) : Host.Outcome State Fault Refusal :=
  s.run (fun c =>
    if ring < 64 then
      ({ c with rings := { c.rings with copied := c.windowRead ring first count } }).upRing ring (fun r => { r with copying := true })
    else c)

/-! ### Descriptors (R340, R341, R346) -/

/-- A class by its code. -/
def ringClass (n : Nat) : RingClass := if n = 1 then .dropOldest else if n = 2 then .dropNewest else .lossless

/-- The code of a class. -/
def classCode : RingClass → Nat
  | .lossless => 0
  | .dropOldest => 1
  | .dropNewest => 2

/-- A field agrees with its fixed value, where it has one. -/
def fixedAs (f : Option Nat) (v : Nat) : Bool := match f with
  | none => true
  | some x => decide (v = x)

/-- Entries that a SIZE_LOG2 takes. -/
def entriesOf (sz : Nat) : Nat := if sz = 0 then 0 else 2 ^ sz

/-- Entries allocated to enabled rings (RING_MEM_STAT). -/
def Chip.allocated (c : Chip) : Nat := (c.rings.rings.map Ring.size).sum

/-- The checks of a descriptor, in order (R346). -/
def Chip.ringCheck (c : Chip) (n : Nat) : Nat :=
  let w := c.reg (0x0800 + 16 * n)
  let v := c.reg (0x0801 + 16 * n)
  let sz := fld w 3 0
  let fx := ringFix n
  let pr := fld w 14 8
  let co := fld w 22 16
  let r := c.ring n
  if sz = 1 ∨ 13 ≤ sz ∨ fld w 5 4 = 3 ∨ 4096 < fld v 28 16 ∨ 10000 < fld v 13 0 ∨ (n = 2 ∧ (sz < 6 ∨ 10 < sz)) then 2
  else if !(fixedAs fx.size sz && fixedAs fx.cls (fld w 5 4) && fixedAs fx.prio (fld w 7 6) && fixedAs fx.producer pr &&
      fixedAs fx.consumer co) then 3
  else if (fx.producer.isNone && !(producersOf n).contains pr) || (fx.consumer.isNone && !(consumersOf n).contains co) then 6
  else if c.started ∧ sz ≠ r.sizeLog2 then 5
  else if 8192 < c.allocated - r.size + entriesOf sz then 4
  else 0

/-- A ring is emptied, each entry counted (R341). -/
def Ring.emptied (r : Ring) : Ring := { (r.drops r.fill) with tail := r.head }

/-- Bases in ring-number order; a ring whose size or BASE moves is emptied (R341). -/
def rebase : List Ring → Nat → Nat → Nat → List Ring
  | [], _, _, _ => []
  | r :: rs, i, base, changed =>
    let r1 := if r.base = base ∧ i ≠ changed then r else { r.emptied with base := base }
    r1 :: rebase rs (i + 1) (base + r.size) changed

/-- An accepted descriptor applies: class, priority, service time and size at once, producer and consumer once the ring is empty
(R340, R341). -/
def Chip.ringApply (c : Chip) (n : Nat) : Chip :=
  let w := c.reg (0x0800 + 16 * n)
  let v := c.reg (0x0801 + 16 * n)
  let r := c.ring n
  let resized := decide (fld w 3 0 ≠ r.sizeLog2)
  let c0 := if resized then c.upRing n Ring.emptied else c
  let c1 := c0.upRing n (fun r => { r with
    sizeLog2 := fld w 3 0, cls := ringClass (fld w 5 4), prio := fld w 7 6, irqEn := bit w 24, irqFill := fld v 28 16,
    svc := fld v 13 0,
    pendAgents := if r.fill = 0 ∨ (r.producer = fld w 14 8 ∧ r.consumer = fld w 22 16) then none else some (fld w 14 8, fld w 22 16),
    producer := if r.fill = 0 then fld w 14 8 else r.producer,
    consumer := if r.fill = 0 then fld w 22 16 else r.consumer })
  let c2 := if resized then { c1 with rings := { c1.rings with rings := rebase c1.rings.rings 0 0 n } } else c1
  c2.settleClass n

/-- An ARM of RING_CFGn (R340, R341, R346). -/
def Chip.ringCfgArm (c : Chip) (n : Nat) : Chip :=
  let res := c.ringCheck n
  let c1 := (c.armLast (0x0800 + 16 * n) res).upRing n (fun r => { r with result := res })
  if res = 0 then c1.ringApply n else c1

/-- RING_CFG_ARM (R346). -/
def execRingCfgArm (ring : Nat) (s : State) : Host.Outcome State Fault Refusal :=
  s.runHost (fun c => if ring < 64 then c.ringCfgArm ring else c)

/-- RING_CFG_APPLY (R340): a producer or consumer change applies when the ring is empty. -/
def execRingCfgApply (ring : Nat) (s : State) : Host.Outcome State Fault Refusal :=
  s.run (fun c => c.upRing ring (fun r => match r.pendAgents with
    | some p => if r.fill = 0 then { r with producer := p.1, consumer := p.2, pendAgents := none } else r
    | none => r))

/-! ### Arbiter (R328-R331) -/

/-- The priority of a request: its ring's, 0 once raised, 0 for rings 0 and 1. -/
def Chip.reqPrio (c : Chip) (q : ArbReq) : Nat := if q.raised ∨ q.ring ≤ 1 then 0 else (c.ring q.ring).prio

/-- A request of rings 0 and 1 is not passed over by one of a lower-priority ring (R331). -/
def Chip.reqShut (c : Chip) (qs : List ArbReq) (q : ArbReq) : Bool :=
  qs.any (fun x => decide (x.ring ≤ 1)) && decide (1 < q.ring) && decide (0 < (c.ring q.ring).prio)

/-- The request granted next: the highest priority, then the oldest (R329). -/
def Chip.nextGrant (c : Chip) (qs : List ArbReq) : Option ArbReq :=
  let ok := qs.filter (fun q => !c.reqShut qs q)
  ok.find? (fun q => ok.all (fun x => decide (c.reqPrio q ≤ c.reqPrio x)))

/-- New requests in ascending ring order, consume before produce on one ring; a ring has at most one of each (R328, R329, R338). -/
def newReqs (old : List ArbReq) (posted : List (Nat × Bool)) : List ArbReq :=
  let at_ := (List.range 64).flatMap (fun n => [(n, true), (n, false)].filter (fun p => posted.contains p))
  (at_.filter (fun p => !old.any (fun q => q.ring == p.1 && q.consume == p.2))).map (fun p => { ring := p.1, consume := p.2 })

/-- A request passed over by one more grant; the 16th raises it (R330). -/
def ArbReq.pass (q : ArbReq) : ArbReq :=
  { q with passed := q.passed + 1, raised := q.raised || decide (16 ≤ q.passed + 1) }

/-- ARBITER_GRANT (R328-R331). -/
def Chip.arbGrant (c : Chip) (posted : List (Nat × Bool)) : Chip :=
  let qs := c.rings.arb ++ newReqs c.rings.arb posted
  match c.nextGrant qs with
  | none => { c with rings := { c.rings with arb := qs } }
  | some g =>
    let rest := (qs.filter (fun q => decide (q ≠ g))).map ArbReq.pass
    let up := (rest.filter (fun q => q.raised && decide (q.passed = 16) && decide (1 < q.ring))).length
    { c with rings := { c.rings with arb := rest, granted := some (g.ring, g.consume), promotions := c.rings.promotions + wd up } }

/-- ARBITER_GRANT (R329). -/
def execArbiterGrant (posted : List (Nat × Bool)) (s : State) : Host.Outcome State Fault Refusal := s.run (fun c => c.arbGrant posted)

/-! ### Test rings and silent lanes -/

/-- TEST_HARNESS_FORWARD (R302): the oldest entry of a test ring goes to the next, 63 to 60, when that ring has room. -/
def execTestHarnessForward (ring : Nat) (s : State) : Host.Outcome State Fault Refusal :=
  s.run (fun c =>
    let next := if ring = 63 then 60 else ring + 1
    let r := c.ring ring
    let t := c.ring next
    if 60 ≤ ring ∧ ring ≤ 63 ∧ r.consumer = 0x13 ∧ 0 < r.fill ∧ t.producer = 0x13 ∧ t.sizeLog2 ≠ 0 ∧ ¬t.full ∧ ¬t.copying then
      (c.consume ring 1).pushEntry next (c.entryAt (r.slot r.tail))
    else c)

/-- Entries held from an isolated die in holding buffers are discarded and counted (R342). -/
def Chip.dropHeld (c : Chip) (agents : List Nat) : Chip :=
  { c with rings := { c.rings with rings := c.rings.rings.map (fun r =>
      let k := (r.held.filter (fun h => agents.contains h.1)).length
      { (r.drops k) with held := r.held.filter (fun h => !agents.contains h.1) }) } }

end Sys2Proof.Machine
end

