-- ==== Sys2Proof/Machine/Modes.lean ====
section
/-! DEFINITION. The mode controller (03 R119-R144, R866, R900-R902): what follows once no transition is in progress, the decision of
host and rule requests, holds, lane fallback, the completion of a transition, and the consumption of ring 0. -/

namespace Sys2Proof.Machine

/-- Code of SYS_MODE.REASON. -/
def reasonCode : Reason → Nat
  | .start => 0
  | .protection => 1
  | .theft => 2
  | .host => 3
  | .rule => 4
  | .supply => 5
  | .burstEnd => 6

/-- The mode that the lane fallback table leaves of a chosen mode (R38, R857). -/
def Chip.fallback (c : Chip) (m : Nat) : Nat :=
  let a := if c.girth.radioRefused ∧ (m = 3 ∨ m = 4 ∨ m = 6) then 2 else m
  let b := if c.girth.convRefused ∧ (a = 2 ∨ a = 3 ∨ a = 4) then 1 else a
  if c.girth.fieldRefused ∧ b ≠ 0 ∧ b ≠ 7 then 1 else b

/-- DUTY_ON_FVIN in force. -/
def Chip.dutyOnFvin (c : Chip) : Bool := c.runB 0x22 8

/-- A radio burst is in progress: a frame on air, a window or a frame being received, or one due. -/
def Chip.bursting (c : Chip) : Bool :=
  c.radio.burstWanted || c.radio.tx.isSome || c.radio.window.isSome || decide (c.radio.state = .receiving)

/-- PURSUIT is left for DUTY or WATCH after a theft clear (R132). -/
def Chip.afterPursuit (c : Chip) : Nat := c.fallback (if c.power.fvinTaken && c.dutyOnFvin then 5 else 2)

/-! ### Power domains of a mode -/

/-- Lanes of dies that a mode does not power are parked; a SILENT lane stays SILENT (R33, R42). -/
def parkFor (m : Nat) (ls : List LaneState) : List LaneState :=
  (List.range 4).map (fun l =>
    let x := ls.getD l .parked
    if (modeLanes m).getD l false ∨ x = .silent then x else .parked)

/-- Open sequences are suspended in a mode without the converter die, and begin again at FIRST when it is next powered (R430). -/
def Sequencer.forMode (on : Bool) (q : Sequencer) : Sequencer :=
  if on then q
  else { q with suspended := q.opened, round := false, slot := 0, waiting := false, due := 0, taken := 0, samples := [],
                listening := false, awl := false, stolen := false }

/-- GBIAS is on with the RG domain (R118); a cut one comes back at the entry into FIX, DUTY or PURSUIT after GBIAS_SHORT has been
cleared. -/
def Chip.gbiasFor (c : Chip) (m : Nat) : Chip :=
  let cut := c.power.gbiasCut && (!rgPowered m || decide (c.rf 0x1C01 9 9 = 1))
  c.upPower (fun p => { p with gbiasCut := cut, gbias := rgPowered m && c.runB 0x1C07 0 && !cut })

/-- The FOUT switches of a mode (R69): held in KEEPER, open in SHIP and STIRRUP, as commanded otherwise; a cut one stays off (R116). -/
def Chip.foutFor (c : Chip) (m : Nat) : Chip :=
  if m = 1 then c
  else
    let on := decide (2 ≤ m) && decide (m ≤ 6) && !c.girth.fieldCut
    c.upPower (fun p => { p with fout0 := on && c.runB 0x1C06 0 && !p.cut0, fout1 := on && c.runB 0x1C06 1 && !p.cut1 })

/-- Work whose domain a mode does not power ends: reception and transmission, a capture or burst, tracking (R123, R124, R576). -/
def Chip.endWork (c : Chip) (m : Nat) (r : Reason) : Chip :=
  let why := if r = .supply then 8 else 7
  let c1 := if rcPowered m then c.upRadio (fun x => { x with state := if x.state = .off then .idle else x.state })
    else ((if c.radio.tx.isSome || c.radio.window.isSome || decide (c.radio.state = .receiving) then c.abortRadio why else c).upRadio
      (fun x => { x with state := .off }))
  if rgPowered m then c1
  else
    let c2 := if c1.acq.state = .capturing ∨ c1.acq.state = .burst then c1.failFix (if r = .supply then 5 else 2) else c1
    if c2.track.channels.any (fun x => x.busy) then c2.releaseAll.tpHold else c2

/-- The power domains, lanes and lands of a mode (03 "The eight modes", R69, R118, R430). -/
def Chip.domains (c : Chip) (m : Nat) (r : Reason) : Chip :=
  let c1 := c.endWork m r
  let c2 := c1.setLanes (parkFor m (wakeFor m c1.girth.lanes))
  let c3 := { c2 with seqs := c2.seqs.map (Sequencer.forMode (cdPowered m)) }
  (c3.foutFor m).gbiasFor m

/-! ### Decisions (R129-R136, R389, R866) -/

/-- Work in progress that a SHIP request waits for (R866). -/
def Chip.shipBusy (c : Chip) : Bool :=
  decide (c.acq.state ≠ .idle) || c.radio.tx.isSome || c.mem.erase.isSome || c.mem.program.isSome || !c.mram.commits.isEmpty

/-- The refusals of a request for mode 0, 1, 2 or 5; none when it is accepted or queued (R129-R131, R136, R389). -/
def Chip.modeRefusal (c : Chip) (req : Nat) : Option Nat :=
  if c.mode = 7 then some 4
  else if c.held then some 1
  else if c.mode = 6 then some 2
  else if req = 0 then
    if 2 ≤ theftCode c.keeper.theft then some 2
    else if c.power.fvinTaken then some 3
    else if c.runB 0x22 9 then none else some 4
  else if req = 5 then (if c.power.fvinTaken then (if c.fallback 5 = 5 then none else some 1) else some 5)
  else if c.mode = 5 ∨ c.fallback req ≠ req then some 1
  else none

/-- An entry of ring 34 waits whose LAUNCH is zero or has passed (R136). -/
def Chip.burstDue (c : Chip) : Bool :=
  match c.headItem 34 with
  | none => false
  | some e =>
    let at_ := ((ew e 4).toNat + fld (ew e 5) 31 31 * 2 ^ 32) * 32768 + fld (ew e 5) 14 0
    decide (ew e 4 = 0 ∧ ew e 5 = 0) || decide (at_ ≤ c.keeper.sec.toNat * 32768 + c.keeper.sub.toNat)

/-- A request that may be answered at once: the block, and the result code of SYS_MODE.REQ_RESULT (R136). -/
def Chip.decideMode (c : Chip) (req : Nat) (r : Reason) : Chip × Nat :=
  if req = 3 then
    if c.mode = 7 then (c, 4)
    else match c.requestFix 0 0 r with
      | (c1, none) => (c1, 0)
      | (_, some (2, _)) => (c, 1)
      | (_, some (3, _)) => (c, 6)
      | (_, some _) => (c, 7)
  else if req = 4 then
    if c.mode = 7 then (c, 4)
    else if c.held then (c, 1)
    else if !c.burstDue then (c, 7)
    else if c.silent 1 ∨ c.girth.radioRefused = true then (c, 6)
    else (c.wantBurst r, 0)
  else match c.modeRefusal req with
    | some x => (c, x)
    | none =>
      if req = 0 then (if c.shipBusy then (c, 8) else (c.goTo 0 r, 0))
      else if (req = 1 ∨ req = 2) ∧ (c.mode = 3 ∨ c.mode = 4) then (c, 8)
      else (c.goTo req r, 0)

/-- The result of a host request is shown; a queued one waits (R143, R866). -/
def Chip.hostResult (c : Chip) (req res : Nat) : Chip :=
  c.upModes (fun m => { m with reqResult := res, queuedHost := if res = 8 then some req else none })

/-- A write to SYS_MODE_REQ (R136, R143): a request during a transition is queued, replacing an earlier one of the host. -/
def Chip.hostMode (c0 : Chip) (req : Nat) : Chip :=
  let c := c0.upModes (fun m => { m with reqMode := req })
  if c.mode = 0 ∨ (c.started = false ∧ c.mode ≠ 7) then c0
  else if c.mode = 7 then c.hostResult req 4
  else if 6 ≤ req then c.hostResult req 7
  else if c.modes.transition.isSome then c.hostResult req 8
  else
    let p := c.decideMode req .host
    p.1.hostResult req p.2

/-- A refused CHANGE_MODE action: ACTION_REFUSED on ring 2 and REFUSED on ring 3 with reason MODE (R129, R367, R371). -/
def Chip.ruleModeRefused (c : Chip) (rule res : Nat) : Chip :=
  (c.event 0x01 0x16 0x08 0).post3 2 rule (0x08 * 256 + 2) 0 res

/-- A rule's request is decided, or queued during a transition (R143, R371). -/
def Chip.ruleMode (c : Chip) (req rule idx : Nat) : Chip :=
  if c.modes.transition.isSome then c.upModes (fun m => { m with queuedRule := some (req, rule, idx) })
  else
    let p := c.decideMode req .rule
    if p.2 = 0 then p.1
    else if p.2 = 8 then p.1.upModes (fun m => { m with queuedRule := some (req, rule, idx) })
    else p.1.ruleModeRefused rule p.2

/-! ### The settled state -/

/-- Queued requests are decided, the host's before the rules' (R143); requests for KEEPER and WATCH wait for the end of FIX and LINK
(R136). -/
def Chip.settleQueue (c : Chip) : Chip :=
  let waits := fun (q : Nat) => decide (c.mode = 3 ∨ c.mode = 4) && decide (q = 1 ∨ q = 2) || (decide (q = 0) && c.shipBusy)
  let c1 := match c.modes.queuedHost with
    | none => c
    | some q => if waits q then c else
      let p := (c.upModes (fun m => { m with queuedHost := none })).decideMode q .host
      p.1.hostResult q p.2
  match c1.modes.queuedRule with
  | none => c1
  | some (q, rule, idx) =>
    if waits q || c1.modes.transition.isSome then c1
    else (c1.upModes (fun m => { m with queuedRule := none })).ruleMode q rule idx

/-- What the mode controller decides once no transition is in progress, by rank: lane fallback, theft, supply, queued requests, then
fixes and bursts that wait (R38, R129, R130, R132, R143). -/
def Chip.settle (c : Chip) : Chip :=
  if c.modes.transition.isSome ∨ c.held ∨ c.mode = 0 ∨ c.mode = 7 ∨ c.mode = 0xF ∨ c.started = false then c
  else if c.fallback c.mode ≠ c.mode then c.goTo (c.fallback c.mode) .protection
  else if c.keeper.theft = .declared ∧ c.fallback 6 = 6 ∧ c.mode ≠ 6 then c.goTo 6 .theft
  else if c.mode = 6 ∧ c.keeper.theft ≠ .declared then c.goTo c.afterPursuit .theft
  else if c.mode = 5 ∧ c.power.fvinTaken = false then c.goTo (c.fallback (if c.bursting then 4 else 2)) .supply
  else if (c.mode = 1 ∨ c.mode = 2 ∨ c.mode = 3 ∨ c.mode = 4) ∧ c.power.fvinTaken = true ∧ c.dutyOnFvin = true ∧
      c.keeper.theft ≠ .declared ∧ c.fallback 5 = 5 then c.goTo 5 .supply
  else
    let c1 := c.settleQueue
    if c1.modes.transition.isSome then c1
    else if (c1.mode = 1 ∨ c1.mode = 2) ∧ c1.acq.state = .waiting ∧ c1.girth.radioRefused = false then c1.goTo 3 .rule
    else if (c1.mode = 1 ∨ c1.mode = 2) ∧ c1.radio.burstWanted = true ∧ c1.girth.radioRefused = false then c1.goTo 4 .rule
    else c1

/-- The theft state machine asks for PURSUIT (R129, R130, R134, R388): at once, or when a hold ends. -/
def Chip.pursue (c : Chip) : Chip :=
  if c.held ∨ c.mode = 0 ∨ c.mode = 7 ∨ c.started = false ∨ c.fallback 6 ≠ 6 then c else c.goTo 6 .theft

/-- A source of rank 1 changes what the mode must be: a transition asked for by a lower source is overtaken (R129). -/
def Chip.settleOver (c : Chip) : Chip :=
  match c.modes.transition with
  | some (_, r) => if 1 < reasonRank r then (c.upModes (fun m => { m with transition := none, thenTo := none })).settle else c
  | none => c.settle

/-! ### Holds (R106, R133, R134, R138, R142, R854-R857) -/

/-- Thermal or battery hold begins: KEEPER, from any mode but SHIP and STIRRUP; during a start only the hold is recorded. -/
def Chip.enterHold (c : Chip) (thermal : Bool) : Chip :=
  if c.mode = 0 ∨ c.mode = 7 ∨ (if thermal then c.modes.thermalHold else c.modes.batHold) = true then c
  else
    let was := (c.modes.before).or (some c.mode)
    let c1 := c.upModes (fun m => { m with
      thermalHold := m.thermalHold || thermal, batHold := m.batHold || !thermal,
      before := if c.started then was else m.before, transition := if c.started then none else m.transition, thenTo := none })
    if c.started ∧ c.mode ≠ 1 then c1.beginTransition 1 .protection else c1

/-- The mode that follows a hold: PURSUIT while theft is declared, the mode before when its conditions still hold, IDLE_MODE
otherwise, through the fallback table (R133, R134, R857). -/
def Chip.holdTarget (c : Chip) (b : Nat) : Nat :=
  let ok := if b = 5 then c.power.fvinTaken
    else if b = 3 then decide (c.acq.state ≠ .idle)
    else if b = 4 then c.bursting
    else decide (b = 1 ∨ b = 2)
  c.fallback (if c.keeper.theft = .declared then 6 else if ok then b else c.idleMode)

/-- A hold ends; when the other has ended too, R133 applies once (R138). -/
def Chip.leaveHold (c : Chip) (thermal : Bool) : Chip :=
  if (if thermal then c.modes.thermalHold else c.modes.batHold) = false then c
  else
    let c1 := c.upModes (fun m => { m with thermalHold := m.thermalHold && !thermal, batHold := m.batHold && thermal })
    if c1.held ∨ c1.started = false then c1
    else
      let c2 := c1.upModes (fun m => { m with before := none })
      (c2.goTo (c2.holdTarget (c1.modes.before.getD 1)) .protection).settle

/-! ### Completion (R901, R902, R131) -/

/-- Lanes a mode needs have completed their wake handshake or are SILENT (R132). -/
def Chip.lanesReady (c : Chip) (m : Nat) : Bool :=
  (List.range 4).all (fun l => !(modeLanes m).getD l false || decide (c.lane l = .live) || decide (c.lane l = .silent))

/-- TRIAL_SEC is committed: keeper seconds run on trial since the last commit are added (R820). -/
def Chip.trialCommit (c : Chip) : Chip :=
  if c.upd.trial && decide (c.upd.record.state = 5) && decide (0 < c.upd.trialRun) then
    (c.upUpd (fun u => { u with trialRun := 0 })).commitUpd { c.upd.record with trialSec := c.upd.record.trialSec + c.upd.trialRun }
  else c

/-- Every running meter is committed to the journal before SHIP (R131, R848). -/
def Chip.shipCommits (c : Chip) : Chip :=
  (List.range 16).foldl (fun c m =>
    let x := c.meter m
    if x.running then
      (c.record (c.recWord0 0x01 0x02) (hourWord1 m true false x.count) 0).upMeter m
        (fun x => { x with committed := x.count, commitDue := false })
    else c) c

/-- The MODE_CHANGED entry of a completed change (R901). -/
def Chip.postMode (c : Chip) : Chip :=
  c.post0 0x01 3 0x0A01 false c.modes.mode c.modes.prev (reasonCode c.modes.reason)
    (b2n c.modes.thermalHold + 2 * b2n c.modes.batHold + 4 * b2n (decide (c.keeper.theft = .declared)))

/-- A mode is reached: its domains, SYS_MODE and the MODE entry; a waiting fix or burst begins where the mode powers it. -/
def Chip.completeMode (c : Chip) (m : Nat) (r : Reason) : Chip :=
  let c0 := if m = 0 then c.trialCommit.shipCommits else c
  let c1 := c0.upModes (fun x => { x with mode := m, prev := c.mode, reason := r, transition := none })
  let c2 := ((c1.domains m r).postMode).postSignal 0x01 0x0F
  if m = 3 ∨ m = 5 ∨ m = 6 then c2.fixEntered else c2

/-- The transition in progress completes (R901); the second of two listed transitions follows it (R902), then what is queued. -/
def Chip.modeChanged (c : Chip) : Chip :=
  match c.modes.transition with
  | none => c
  | some (m, r) =>
    if c.lanesReady m then
      let c1 := c.completeMode m r
      match c1.modes.thenTo with
      | some (m2, r2) =>
        let c2 := c1.upModes (fun x => { x with thenTo := none })
        if c2.held ∨ c2.mode = 0 ∨ c2.mode = m2 ∨ c2.fallback m2 ≠ m2 then c2.settle else c2.beginTransition m2 r2
      | none => c1.settle
    else c

/-! ### Commands -/

/-- MODE_REQ_SHIP (R131). -/
def execModeReqShip (s : State) : Host.Outcome State Fault Refusal := s.runHost (fun c => c.hostMode 0)
/-- MODE_REQ_KEEPER_WATCH (R136). -/
def execModeReqKeeperWatch (watch : Bool) (s : State) : Host.Outcome State Fault Refusal :=
  s.runHost (fun c => c.hostMode (if watch then 2 else 1))
/-- MODE_REQ_FIX (R136). -/
def execModeReqFix (s : State) : Host.Outcome State Fault Refusal := s.runHost (fun c => c.hostMode 3)
/-- MODE_REQ_BURST (R136). -/
def execModeReqBurst (s : State) : Host.Outcome State Fault Refusal := s.runHost (fun c => c.hostMode 4)
/-- MODE_REQ_DUTY (R136). -/
def execModeReqDuty (s : State) : Host.Outcome State Fault Refusal := s.runHost (fun c => c.hostMode 5)
/-- MODE_REQ_INVALID (R136). -/
def execModeReqInvalid (mode : Nat) (s : State) : Host.Outcome State Fault Refusal :=
  s.runHost (fun c => if 6 ≤ mode then c.hostMode (mode % 16) else c)

/-- An ARM of SYS_MODE_POLICY (R144): FIRST_MODE and IDLE_MODE of another value are refused. -/
def Chip.modePolicyArm (c : Chip) : Chip :=
  let f := c.rf 0x22 7 4
  let i := c.rf 0x22 3 0
  if (f = 1 ∨ f = 2 ∨ f = 5) ∧ (i = 1 ∨ i = 2) then ((c.armLast 0x22 0).applyWords (c.shadow 0x22 1)).settle
  else c.armLast 0x22 2

/-- MODE_POLICY_ARM (R144). -/
def execModePolicyArm (s : State) : Host.Outcome State Fault Refusal := s.runHost Chip.modePolicyArm

/-- Entries that the mode controller holds for ring 0 are produced as its own consumption makes room (R900). -/
def Chip.drainOwn : Nat → Chip → Chip
  | 0, c => c
  | n + 1, c =>
    match (c.ring 0).held.find? (fun h => h.1 == 0x01) with
    | none => c
    | some h =>
      if (c.ring 0).fullFor 0 h.2 then c
      else Chip.drainOwn n (((c.upRing 0 (fun r => { r with held := r.held.erase h })).pushEntry 0 h.2).observe)

/-- The mode controller consumes the oldest ring-0 entry; a rule's MODE_REQUEST is decided or queued (R308, R371, R900). -/
def Chip.ring0Consume (c : Chip) : Chip :=
  if (c.ring 0).fill = 0 then c
  else
    let e := c.entryAt ((c.ring 0).slot (c.ring 0).tail)
    let c1 := Chip.drainOwn 4 (c.consume 0 1)
    if entryClass e = 2 ∧ fld (ew e 0) 15 0 = 0x0A10 then c1.ruleMode (fld (ew e 4) 3 0) (fld (ew e 5) 7 0) (fld (ew e 6) 1 0) else c1

/-- RING0_CONSUME (R308). -/
def execRing0Consume (s : State) : Host.Outcome State Fault Refusal := s.run Chip.ring0Consume

end Sys2Proof.Machine
end

