-- ==== Sys2Proof/Machine/Theft.lean ====
section
/-! DEFINITION. Signed commands (06 R286, 08 R393, 15 R672, 18) and the theft state machine (08 R386-R394). -/

namespace Sys2Proof.Machine

/-! ### Signed commands -/

/-- Bytes of a buffer of registers, each word least significant byte first. -/
def Chip.bufBytes (c : Chip) (a words : Nat) : List Byte := wordsToBytes ((List.range words).map (fun i => c.reg (a + i)))

/-- Checks 2 to 7 of a signed command, in order (R286): 9 NO_KEY, 3 BAD_FORMAT, 4 BAD_UID, 5 BAD_CHALLENGE, 6 BAD_KEY,
7 BAD_SIGNATURE, 8 BAD_OPCODE, 1 ACCEPTED. The key begins at `key`, the signature 64 bytes later, over the bytes before it. -/
def Chip.commandCheck (c : Chip) (cmd : List Byte) (len : Nat) (m0 m1 : Byte) (challenge : Word) (key : Nat) (opOk : Bool) : Nat :=
  if !c.mram.keys.locked then 9
  else if cmd.length ≠ len ∨ cmd.getD 0 0 ≠ m0 ∨ cmd.getD 1 0 ≠ m1 then 3
  else if leAt cmd 4 8 ≠ c.start.uid.toNat then 4
  else if leAt cmd 12 4 ≠ challenge.toNat ∨ challenge = 0 then 5
  else if sha256 (slice cmd key 64) ≠ c.mram.keys.recoveryKeyHash then 6
  else if !ecdsaVerify (slice cmd key 64) (slice cmd (key + 64) 64) (cmd.take (key + 64)) then 7
  else if opOk then 1 else 8

/-! ### State changes (R386-R390) -/

/-- The theft state changes: keeper domain, ring-3 THEFT entry, THEFT record; entry into DECLARED draws a challenge and asks for
PURSUIT, and leaving it lets the mode controller leave PURSUIT (R386-R388, R130). -/
def Chip.theftChange (c : Chip) (rule : Nat) (new : TheftState) (score trigger : Nat) : Chip :=
  let old := theftCode c.keeper.theft
  let c1 := if new = .declared then
      let p := c.draw
      p.1.upKeeper (fun k => { k with theftNonce := p.2 })
    else c
  let c2 := c1.upKeeper (fun k => { k with theft := new, score := score, window := if new = .suspect then c.rules.windowCfg else 0 })
  let c3 := (c2.post3 3 rule 0 trigger (old * 16 + theftCode new)).theftRecord rule old
  let c4 := c3.postSignal 0x03 0x10
  if new = .declared then c4.pursue else c4.settle

/-- What a request gives: nothing, a refusal with STATE, or a new state and score (R386). -/
inductive TheftStep where
  | nothing | refused
  | goes (next : TheftState) (score : Nat)
  deriving DecidableEq, Repr

/-- The table of R386; REQ 0 ARM, 1 DISARM, 2 SUSPECT with a weight, 3 DECLARE. -/
def Chip.theftStep (c : Chip) (req w : Nat) : TheftStep :=
  let k := c.keeper
  match k.theft, req with
  | .disarmed, 0 => .goes .armed 0
  | _, 0 => .nothing
  | .armed, 1 => .goes .disarmed 0
  | .suspect, 1 => .goes .disarmed 0
  | _, 1 => .refused
  | .armed, 2 => if c.rules.threshold ≤ w then .goes .declared w else .goes .suspect w
  | .suspect, 2 => if c.rules.threshold ≤ k.score + w then .goes .declared (k.score + w) else .goes .suspect (k.score + w)
  | _, 2 => .refused
  | .declared, _ => .nothing
  | _, _ => .goes .declared k.score

/-- A request is applied: the block, whether it was refused, and the new state when the state changed. A score that rises within
SUSPECT changes no state. -/
def Chip.theftRequest (c : Chip) (rule req w trigger : Nat) : Chip × Bool × Option Nat :=
  match c.theftStep req w with
  | .nothing => (c, false, none)
  | .refused => (c, true, none)
  | .goes next score =>
    if next = c.keeper.theft then (c.upKeeper (fun k => { k with score := score }), false, none)
    else (c.theftChange rule next score trigger, false, some (theftCode next))

/-- A THEFT_STATE event outside a sweep (R387). -/
def Chip.theftEvent (c : Chip) (st : Option Nat) : Chip := match st with
  | some n => c.event 0x03 0x0D n 0
  | none => c

/-- A write to RULE_THEFT_CMD (R386, R405): rule number 0xFF; a refused request gives a ring-3 REFUSED entry with STATE. -/
def Chip.theftCmd (c : Chip) (req w : Nat) : Chip :=
  if !c.started then c
  else if req = 2 ∧ w = 0 then c
  else
    let p := c.theftRequest 0xFF req w 0
    if p.2.1 then p.1.post3 2 0xFF (0x0E * 256 + 5) 0 0 else p.1.theftEvent p.2.2

/-- THEFT_CMD_ARM (R386). -/
def execTheftCmdArm (s : State) : Host.Outcome State Fault Refusal := s.runHost (fun c => c.theftCmd 0 0)
/-- THEFT_CMD_DISARM (R386). -/
def execTheftCmdDisarm (s : State) : Host.Outcome State Fault Refusal := s.runHost (fun c => c.theftCmd 1 0)
/-- THEFT_CMD_SUSPECT (R386). -/
def execTheftCmdSuspect (weight : Nat) (s : State) : Host.Outcome State Fault Refusal := s.runHost (fun c => c.theftCmd 2 weight)
/-- THEFT_CMD_DECLARE (R386). -/
def execTheftCmdDeclare (s : State) : Host.Outcome State Fault Refusal := s.runHost (fun c => c.theftCmd 3 0)

/-- THEFT_WINDOW_EXPIRED (R386): WINDOW seconds have passed in SUSPECT. -/
def execTheftWindowExpired (s : State) : Host.Outcome State Fault Refusal :=
  s.run (fun c =>
    if c.keeper.theft = .suspect ∧ c.keeper.window = 0 then (c.theftChange 0xFF .armed 0 0).theftEvent (some 1) else c)

/-! ### Signed clears (R392-R394) -/

/-- A theft clear command is checked: RULE_CLEAR_CTL.RESULT, a new challenge, and when accepted the ring-2 COMMAND entry 0x0002 whose
ARG is the state it clears to (R393, R394). -/
def Chip.theftClear (c : Chip) (cmd : List Byte) : Chip :=
  let op := (cmd.getD 2 0).toNat
  let res :=
    if c.keeper.theft ≠ .declared then 0xA
    else c.commandCheck cmd 144 0x54 0x43 c.keeper.theftNonce 16 (decide (op = 1 ∨ op = 2) && decide (cmd.getD 3 0 = 0))
  let p := c.draw
  let c1 := (p.1.upKeeper (fun k => { k with theftNonce := p.2 })).setFld 0x0CE8 3 0 res
  if res = 1 then
    ({ c1 with rules := { c1.rules with clearTo := c1.rules.clearTo ++ [if op = 1 then TheftState.disarmed else TheftState.armed] } }).post2 0x03 3 0x0002
      (if op = 1 then 0 else 1)
  else c1

/-- The bytes of a theft clear: those a yard command carries, or RULE_CLEAR_BUF. -/
def Chip.clearBytes (c : Chip) (frame : Option (List Byte)) : List Byte := frame.getD (c.bufBytes 0x0CC4 36)

/-- THEFT_CLEAR_DISARM (R392-R394): the command's own OPCODE decides. -/
def execTheftClearDisarm (frame : Option (List Byte)) (s : State) : Host.Outcome State Fault Refusal :=
  s.run (fun c => if frame.isSome || c.hostOpen then c.theftClear (c.clearBytes frame) else c)
/-- THEFT_CLEAR_ARM (R392-R394). -/
def execTheftClearArm (frame : Option (List Byte)) (s : State) : Host.Outcome State Fault Refusal :=
  s.run (fun c => if frame.isSome || c.hostOpen then c.theftClear (c.clearBytes frame) else c)

end Sys2Proof.Machine
end

