-- ==== Sys2Proof/Machine/YardFrames.lean ====
section
/-! DEFINITION. The yard's parameters, frame protection and building (15 R674-R694): the yard section of the image, keys, counters
and sequence numbers, radio frames of yard frames, report bodies. -/

namespace Sys2Proof.Machine

/-! ### Yard section (R674, R675) -/

/-- A radio setting of 12 bytes at an offset (R674). -/
def RadioSetting.ofBytes (bs : List Byte) (o : Nat) : RadioSetting :=
  { freq := leAt bs o 4, k := leAt bs (o + 4) 1, bw := leAt bs (o + 5) 1, cr := leAt bs (o + 6) 1, preLen := leAt bs (o + 7) 1,
    port := leAt bs (o + 8) 1, power := sx 8 (leAt bs (o + 9) 1) }

/-- A template of 8 bytes at an offset (R674). -/
def Template.ofBytes (bs : List Byte) (o : Nat) : Template :=
  let f := leAt bs o 1
  { ackReq := f.testBit 0, alarm := f.testBit 1, epochs := f.testBit 2, content := leAt bs (o + 1) 1, meters := leAt bs (o + 2) 2,
    watch := leAt bs (o + 4) 1 }

/-- The yard section of 180 bytes (R674); LEASE and MINI_LISTEN become the running YARD_CFG. -/
def YardSection.ofBytes (bs : List Byte) : YardSection :=
  { present := true, lead := decide (leAt bs 6 1 = 1), moveDm := leAt bs 0x0A 2, pursuitTpl := leAt bs 0x0C 1,
    slot := RadioSetting.ofBytes bs 0x10, beacon := RadioSetting.ofBytes bs 0x1C, alarm := RadioSetting.ofBytes bs 0x28,
    templates := (List.range 16).map (fun i => Template.ofBytes bs (0x34 + 8 * i)) }

/-- The bytes of an ordinary byte string. -/
def bytesOf (ns : List Nat) : List Byte := ns.map (fun n => BitVec.ofNat 8 n)

/-- Fields of a radio setting are within the ranges of R654. -/
def RadioSetting.wf (r : RadioSetting) (bs : List Byte) (o : Nat) : Bool :=
  decide (6 ≤ r.k) && decide (r.k ≤ 13) && decide (r.bw ≤ 3) && decide (r.cr ≤ 3) && decide (8 ≤ r.preLen) && decide (r.port ≤ 1) &&
    decide (leAt bs (o + 10) 2 = 0)

/-- Layout and ranges of R674. -/
def yardSectionOk (bs : List Byte) : Bool :=
  let y := YardSection.ofBytes bs
  decide (bs.length = 180) && decide (bs.take 4 = bytesOf [0x59, 0x52, 0x44, 0x50]) && decide (leAt bs 4 2 = 1) && decide (leAt bs 6 1 ≤ 1) &&
    decide (leAt bs 7 1 ≤ 2) && decide (16 ≤ leAt bs 8 2) && decide (leAt bs 8 2 ≤ 4096) && decide (20 ≤ y.moveDm) &&
    decide (y.moveDm ≤ 10000) && decide (y.pursuitTpl ≤ 15) && decide (leAt bs 0x0D 3 = 0) && y.slot.wf bs 0x10 && y.beacon.wf bs 0x1C &&
    y.alarm.wf bs 0x28 &&
    (List.range 16).all (fun i => decide (leAt bs (0x34 + 8 * i) 1 ≤ 7) && decide (leAt bs (0x35 + 8 * i) 1 ≤ 127) &&
      decide (leAt bs (0x39 + 8 * i) 3 = 0))

/-- On-air time of a yard frame of LEN payload bytes, µs (R634). -/
def RadioSetting.airUs (r : RadioSetting) (len ramp : Nat) : Nat := onAirUs r.k r.bw r.cr r.preLen len ramp

/-- Bits set in a number below 2^16. -/
def popCount (n : Nat) : Nat := ((List.range 16).filter (fun i => n.testBit i)).length

/-- Bytes of a report body of a template without epochs (R693). -/
def Template.size (t : Template) : Nat :=
  let on (i n : Nat) : Nat := if t.content.testBit i then n else 0
  4 + on 0 16 + on 1 (4 * popCount t.meters) + on 2 4 + on 3 6 + on 4 4 + on 5 (2 * popCount t.watch) + on 6 3

/-- The on-air limits of R675. -/
def YardSection.airOk (y : YardSection) (ramp : Nat) : Bool :=
  decide (y.beacon.airUs 67 ramp ≤ 224000) && y.templates.all (fun t => decide (y.slot.airUs (t.size + 13) ramp ≤ 224000)) &&
    decide (y.slot.airUs 64 ramp ≤ 224000) && decide (y.alarm.airUs 18 ramp ≤ 18000)

/-! ### Participation, keys and protection (R676, R685-R687) -/

/-- The unit takes part in the yard (R676). -/
def Chip.yardIn (c : Chip) : Bool := c.mram.keys.yard.present && c.yard.sec.present

/-- The unit is the lead, number 0. -/
def Chip.yardLead (c : Chip) : Bool := c.yardIn && c.yard.sec.lead

/-- The unit's yard number: 0 for the lead, the buckled number otherwise. -/
def Chip.yardNumber (c : Chip) : Option Nat := if c.yard.sec.lead then some 0 else c.mram.keys.yard.number

/-- The unit's ERA. -/
def Chip.era (c : Chip) : Nat := c.mram.keys.yard.era

/-- The key of a frame: the unit key of SRC and ERA, or the joining key (R687). -/
def yardKey (yk : List Byte) (join : Bool) (src era : Nat) : List Byte :=
  aes128 yk (if join then bytesOf [0x4A, 0x4E] ++ List.replicate 14 0
    else bytesOf [0x55, 0x4B, src] ++ leBytes 2 era ++ List.replicate 11 0)

/-- FLAGS of the yard header: BCAST and JOIN. -/
def yardFlags (bcast join : Bool) : Nat := b2n bcast + 2 * b2n join

/-- The 9-byte yard header. -/
def yardHeader (src dst flags era seq : Nat) : List Byte := bytesOf [src, dst, flags] ++ leBytes 2 era ++ leBytes 4 seq

/-- The 13-byte nonce (R686). -/
def yardNonce (code src dst flags era seq ptype : Nat) : List Byte :=
  bytesOf [code, src, dst, flags] ++ leBytes 2 era ++ leBytes 4 seq ++ bytesOf [ptype, 0, 0]

/-- The radio payload of a yard frame: header, ciphertext and MIC. -/
def Chip.yardPayload (c : Chip) (src : Nat) (f : YardFrame) : List Byte :=
  let y := c.mram.keys.yard
  let flags := yardFlags f.bcast f.join
  let h := yardHeader src f.dst flags y.era f.seq
  h ++ ccmSeal (yardKey y.key f.join src y.era) (yardNonce y.code src f.dst flags y.era f.seq f.ptype) h f.body

/-! ### Counters and ERA (R688, R689) -/

/-- The yard record is written by the crypto engine in the protected key store (R673). -/
def Chip.commitYard (c : Chip) (r : YardRecord) : Chip :=
  { c with mram := { c.mram with keys := { c.mram.keys with yard := r } } }

/-- Frames that have not ended take a new SEQ from the restarted counters. -/
def YardFrame.renumber (f : YardFrame) : YardFrame := { f with seq := if f.join then f.seq else 0 }

/-- ERA becomes one greater, and the counters restart (R688, R689). At 0xFFFF the unit sends no further frame. -/
def Chip.nextEra (c : Chip) : Chip :=
  let y := c.mram.keys.yard
  (c.commitYard { y with era := min 65535 (y.era + 1) }).upYard (fun x => { x with
    counters := [], exhausted := x.exhausted || decide (65534 ≤ y.era), report := x.report.map YardFrame.renumber,
    confirm := x.confirm.map YardFrame.renumber, replies := x.replies.map YardFrame.renumber, commands := x.commands.map YardFrame.renumber,
    offer := x.offer.map YardFrame.renumber, alarm := x.alarm.map (fun a => { a with seq := 0 }) })

/-- The next value of the counter of a DST (256: broadcast); none while the unit may send no frame (R688, R689). -/
def Chip.nextSeq (c : Chip) (dst : Nat) : Option (Chip × Nat) :=
  if c.yard.exhausted then none
  else
    let n := mget 0 c.yard.counters dst
    let c1 := if n = 0xFFFFFFFF then c.nextEra else c
    let m := if n = 0xFFFFFFFF then 1 else n + 1
    if c1.yard.exhausted then none
    else some (c1.upYard (fun y => { y with counters := mset 0 y.counters dst m }), m)

/-! ### Radio frames (R636, R653, R654, R678) -/

/-- Launch words 4-6 of an instant `us` µs after a keeper time in units of 1/32768 s: keeper time and FINE. -/
def launchWords (c : Chip) (units us : Nat) : List Word :=
  let cyc := us * 26
  let k := cyc * 32768 / 26000000
  let u := units + k
  let sec := u / 32768
  [wd sec, wd (sec / 2 ^ 32 % 2 * 2 ^ 31 + b2n c.keeper.valid * 2 ^ 30 + u % 32768), wd (cyc - k * 26000000 / 32768)]

/-- Word 1 of a yard entry: TAG holds PTYPE. -/
def settingWord1 (tag : Nat) (r : RadioSetting) : Word :=
  wd (tag * 65536 + r.preLen * 256 + r.k % 16 * 16 + r.bw % 4 * 4 + r.port % 2 * 2)

/-- The transmit entries of a yard frame (R630, R654). -/
def Chip.yardEntries (c : Chip) (src : Nat) (f : YardFrame) (r : RadioSetting) (units us : Nat) : List Entry :=
  let p := c.yardPayload src f
  let hdr := p.length % 256 + r.cr % 4 * 256 + b2n f.ackReq * 1024 + f.tries % 8 * 2048 + 16384 + f.ptype * 65536
  ([wd (2 ^ 24 + hdr), settingWord1 f.ptype r, wd r.freq, wd (ux 8 r.power * 2 ^ 24 + c.mram.keys.yard.code * 65536)] ++
    launchWords c units us ++ [0]) :: dataEntries p

/-- Entries go into a ring together, or not at all when it has no room for them (R654). -/
def Chip.putItem (c : Chip) (n : Nat) (es : List Entry) : Option Chip :=
  let r := c.ring n
  if r.sizeLog2 = 0 ∨ r.consumer = 0 ∨ r.size < r.fill + es.length ∨ r.waiting ≠ [] then none
  else some (es.foldl (fun c e => c.produce 0x0A n e) c)

/-- A yard frame goes to the radio modem, unless it would end too late (R679) or its ring has no room. -/
def Chip.yardSend (c : Chip) (ring src : Nat) (f : YardFrame) (r : RadioSetting) (units us limit : Nat) : Option Chip :=
  if limit < r.airUs (13 + f.body.length) c.ramp then none else c.putItem ring (c.yardEntries src f r units us)

/-- A listen window for yard frames: a LISTEN entry on ring 35 (R654). -/
def Chip.yardListen (c : Chip) (r : RadioSetting) (units us ms : Nat) : Chip :=
  (c.putItem 35 [[wd (2 * 2 ^ 24), settingWord1 0xFF r, wd r.freq, wd (c.mram.keys.yard.code * 65536 + min 65535 (max 1 ms))] ++
    launchWords c units us ++ [0]]).getD c

/-! ### Report bodies (R693, R694) -/

/-- Code of a fence state. -/
def fenceCode : FenceState → Nat
  | .unknown => 0
  | .inside => 1
  | .outside => 2

/-- RULE_FENCE_STAT. -/
def Chip.fenceStat (c : Chip) : Nat := ((List.range 16).map (fun i => fenceCode (c.rules.fenceState.getD i .unknown) * 4 ^ i)).sum

/-- POS: latitude, longitude, H_ERR, SPEED, solution age, TRUST, SIGNALS. -/
def Chip.posSection (c : Chip) : List Byte :=
  let s := c.track.solution
  let w (i : Nat) : Word := ew s i
  leBytes 4 (w 1).toNat ++ leBytes 4 (w 2).toNat ++ leBytes 2 (fld (w 4) 31 16) ++ leBytes 2 (fld (w 5) 31 16) ++
    leBytes 2 (min 65535 (c.keeper.sec.toNat - c.acq.keep.solSec)) ++ leBytes 1 c.track.trust ++ leBytes 1 c.track.signals

/-- Hottest die temperature in 1/16 degree. -/
def Chip.hottest (c : Chip) : Int := c.therm.temps.foldl max (c.therm.temps.getD 0 0)

/-- STATUS: mode, flags, hottest die temperature. -/
def Chip.statusSection (c : Chip) : List Byte :=
  bytesOf [c.mode, b2n c.power.fvinTaken + 2 * b2n c.power.cellConnected + 4 * b2n c.keeper.valid + 8 * (c.runSig.conf % 4) +
    32 * (loopState c.keeper.loop % 4), ux 8 (c.hottest / 16)]

/-- The sections of CONTENT in bit order. -/
def Chip.reportSections (c : Chip) (t : Template) : List Byte :=
  let on (i : Nat) (bs : List Byte) : List Byte := if t.content.testBit i then bs else []
  on 0 c.posSection ++
  on 1 (((List.range 16).filter (fun m => t.meters.testBit m)).flatMap (fun m => leBytes 4 (c.meter m).count)) ++
  on 2 (leBytes 4 c.fenceStat) ++
  on 3 (bytesOf [theftCode c.keeper.theft, c.keeper.score] ++ leBytes 4 c.keeper.theftNonce.toNat) ++
  on 4 (leBytes 2 (c.rf 0x191C 31 16) ++ leBytes 2 (c.rf 0x191E 31 16)) ++
  on 5 (((List.range 8).filter (fun w => t.watch.testBit w)).flatMap (fun w => leBytes 2 (ux 16 (c.rules.watchVal.getD w 0)))) ++
  on 6 c.statusSection

/-- SV, then BAND, SYSTEM, CARRIER, SLIP and HALF: the first two of the ten bytes of a signal (R694). -/
def signalHead (e : Entry) : List Byte :=
  let w0 := ew e 0
  let w1 := ew e 1
  bytesOf [fld w0 15 8, fld w0 16 16 + 2 * fld w0 22 20 + 16 * fld w1 1 1 + 32 * fld w1 4 4 + 64 * fld w1 3 3]

/-- Ten bytes of one signal from its ring-18 entry (R694). -/
def signalBytes (e : Entry) : List Byte :=
  signalHead e ++ leBytes 3 (ew e 2).toNat ++ leBytes 1 (ew e 3).toNat ++ leBytes 3 (ew e 4).toNat ++ leBytes 1 (fld (ew e 6) 31 16 / 100)

/-- Entry `i` of the unconsumed entries of ring 18 heads an epoch that is whole. -/
def Chip.epochHead (c : Chip) (i : Nat) : Bool :=
  let e := c.tailEntry 18 i
  decide (fld (ew e 0) 31 24 = 2) && decide (i + fld (ew e 0) 7 0 < (c.ring 18).fill)

/-- The newest epoch ring 18 holds, below position `n` of its unconsumed entries. -/
def Chip.newestEpoch (c : Chip) : Nat → Option Nat
  | 0 => none
  | n + 1 => if c.epochHead n then some n else c.newestEpoch n

/-- Insertion of a signal in falling C/N0. -/
def insertCn0 (e : Entry) : List Entry → List Entry
  | [] => [e]
  | x :: xs => if fld (ew e 6) 31 16 ≤ fld (ew x 6) 31 16 then x :: insertCn0 e xs else e :: x :: xs

/-- GPS time of week of a keeper time, ms. -/
def towMs (lo hi : Word) : Nat :=
  let sec := lo.toNat + fld hi 31 31 * 2 ^ 32
  (sec + 630720013) % 604800 * 1000 + (fld hi 14 0 * 1000 + 16384) / 32768

/-- The epoch block of a report whose body has `len` bytes without it; none when it is omitted (R694). -/
def Chip.epochBlock (c : Chip) (len : Nat) : Option (List Byte) :=
  if !c.track.aligned || decide (c.track.trust < 2) then none
  else match c.newestEpoch (c.ring 18).fill with
    | none => none
    | some i =>
      let h := c.tailEntry 18 i
      let at_ := (ew h 4).toNat + fld (ew h 5) 31 31 * 2 ^ 32
      if at_ + 64 < c.keeper.sec.toNat then none
      else
        let n := fld (ew h 0) 7 0
        let sigs := ((List.range n).map (fun k => c.tailEntry 18 (i + 1 + k))).foldl (fun l e => insertCn0 e l) []
        let fits (k : Nat) : Bool := decide (c.yard.sec.slot.airUs (13 + len + 5 + 10 * k) c.ramp ≤ 224000) && decide (13 + len + 5 + 10 * k ≤ 255)
        let k := ((List.range (n + 1)).filter fits).length - 1
        if k < 5 then none
        else some (leBytes 4 (towMs (ew h 4) (ew h 5)) ++ leBytes 1 k ++ (sigs.take k).flatMap signalBytes)

/-- The body of a report of a template (R693, R694). -/
def Chip.reportBody (c : Chip) (tpl rule value : Nat) : List Byte :=
  let t := c.yard.sec.templates.getD tpl {}
  let s := c.reportSections t
  let blk := if value.testBit 0 && t.epochs then c.epochBlock (4 + s.length) else none
  bytesOf [tpl, t.content, rule, b2n blk.isSome] ++ s ++ blk.getD []

end Sys2Proof.Machine
end

