-- ==== Sys2Proof/Machine/YardSend.lean ====
section
/-! DEFINITION. The yard's sending side (15 R677-R682, R692-R706): report requests, rounds, yard slots, minislots, listen windows,
alarms, and the retransmission of frames. -/

namespace Sys2Proof.Machine

/-- A YARD event with a yard number (R714), on ring 2 and, as yard status, on ring 44. -/
def Chip.yardEvent (c : Chip) (idx num : Nat) : Chip :=
  (c.event 0x0A 0x12 idx num).produce 0x0A 44 [wd (idx * 2 ^ 24 + num), c.timeLo, c.timeHi, 0, 0, 0, 0, 0]

/-- A REPORT event: 0 acknowledged, 1 failed (R356, R696, R697). -/
def Chip.reportEvent (c : Chip) (idx : Nat) : Chip :=
  (c.upUpd (fun u => { u with reported := u.reported || decide (idx = 0) })).event 0x0A 0x0C idx 0

/-! ### Report requests (R367, R369, R692, R703) -/

/-- SEND_REPORT: one REPORT_REQ entry on ring 33; the reason of a refusal: 1 FULL, 3 LANE, 4 UNPOWERED (R367, R676, R692, R719). -/
def Chip.sendReport (c : Chip) (agent tpl rule value : Nat) : Chip × Option Nat :=
  if !c.yardIn then (c, some 4)
  else if c.silent 1 ∨ c.girth.radioRefused = true then (c, some 3)
  else
    let c1 := c.produce agent 33 [wd (3 * 2 ^ 24 + tpl * 256 + rule), wd value, c.timeLo, c.timeHi, 0, 0, 0, 0]
    match c1.rings.answer with
    | .refusedFull => (c1, some 1)
    | .dropped => (c1, some 1)
    | .unpowered => (c1, some 4)
    | .counted => (c1, some 4)
    | _ => (c1, none)

/-- A new alarm of this unit (R703). -/
def Chip.raiseAlarm (c : Chip) (rule : Nat) : Chip :=
  c.upYard (fun y => { y with
    alarm := some { origin := c.yardNumber.getD 0xFF, id := y.nextAlarm.toNat, hops := 0, rule := rule, theft := theftCode c.keeper.theft },
    nextAlarm := y.nextAlarm + 1 })

/-- A report is built from a template (R692, R693): it waits for the own yard slot. The lead has none. -/
def Chip.buildReport (c : Chip) (tpl rule value : Nat) : Chip :=
  let t := c.yard.sec.templates.getD tpl {}
  let f : YardFrame := { ptype := 2, dst := 0, seq := 0, body := c.reportBody tpl rule value, ackReq := t.ackReq }
  let c1 := if t.alarm then c.raiseAlarm rule else c
  if c.yardLead then c1.reportEvent 1 else c1.upYard (fun y => { y with report := some f })

/-- REPORT_REQ (R692): one entry of ring 33 is taken while no report is in flight. -/
def Chip.reportReq (c : Chip) : Chip :=
  match c.headItem 33 with
  | none => c
  | some e =>
    if fld (ew e 0) 31 24 = 3 ∧ c.yard.report.isNone = true ∧ c.yardIn = true then
      (c.consume 33 1).buildReport (fld (ew e 0) 11 8) (fld (ew e 0) 7 0) (ew e 1).toNat
    else c

/-- REPORT_REQ (R692). -/
def execReportReq (s : State) : Host.Outcome State Fault Refusal := s.run Chip.reportReq

/-! ### Ring entries of the yard (R713) -/

/-- The entries of a frame on rings 40 and 43: header and body. -/
def yardRingEntries (kind ptype num w1 era tries : Nat) (lo hi lev : Word) (body : List Byte) : List Entry :=
  [wd (kind * 2 ^ 24 + ptype * 65536 + num * 256 + body.length % 256), wd w1, wd (era * 65536 + tries), lo, hi, lev, 0, 0] :: dataEntries body

/-- Entries of the yard engine go into a ring; none when an enabled ring with a consumer has no room for them (R718). -/
def Chip.putOut (c : Chip) (n : Nat) (es : List Entry) : Option Chip :=
  let r := c.ring n
  if r.sizeLog2 ≠ 0 ∧ r.consumer ≠ 0 ∧ r.size < r.fill + es.length then none
  else some (es.foldl (fun c e => c.produce 0x0A n e) c)

/-- A FAILED entry on ring 43 (R700, R702). -/
def Chip.commandFailed (c : Chip) (f : YardFrame) (body : List Byte) : Chip :=
  (yardRingEntries 5 4 f.dst f.tag c.era f.tries 0 0 0 body).foldl (fun c e => c.produce 0x0A 43 e) c

/-! ### The lead's table (R708, R710) -/

/-- A number is held: in the lead's table, by a UID or heard within the last LEASE rounds. -/
def Chip.numberHeld (c : Chip) (n : Nat) : Bool := c.yard.members.any (fun m => m.number == n)

/-- The lowest free number from 1. -/
def Chip.lowestFree (c : Chip) : Option Nat := (List.range 256).find? (fun n => decide (1 ≤ n) && !c.numberHeld n)

/-- A number is heard: its row is renewed, or added. -/
def heardRow (n : Nat) (uid : Option (BitVec 64)) : List YardMember → List YardMember
  | [] => [{ number := n, uid := uid, quiet := 0 }]
  | m :: ms => if m.number = n then { m with quiet := 0, uid := uid.or m.uid } :: ms else m :: heardRow n uid ms

/-- The lead has heard a unit. -/
def Chip.heard (c : Chip) (n : Nat) (uid : Option (BitVec 64)) : Chip := c.upYard (fun y => { y with members := heardRow n uid y.members })

/-- Buckling is open: numbers may be assigned and one is free (R708, R710). -/
def Chip.bucklingOpen (c : Chip) : Bool := decide (c.yard.holdOff = 0) && c.lowestFree.isSome

/-! ### Round start (R677, R695, R700, R707-R710, R721) -/

/-- A command over a round: sent two rounds ago without a reply it is named and sent again (R700). -/
def YardFrame.aged (f : YardFrame) : YardFrame :=
  if f.sent then (if 1 ≤ f.age then { f with sent := false, age := 0, tries := f.tries + 1, slot := 0 } else { f with age := f.age + 1 })
  else { f with slot := 0 }

/-- Commands after TRY 7 fail (R700). -/
def Chip.failCommands (c : Chip) : Chip :=
  let dead := c.yard.commands.filter (fun f => decide (7 < f.tries))
  let c1 := c.upYard (fun y => { y with commands := y.commands.filter (fun f => decide (f.tries ≤ 7)),
                                        retry := y.retry + BitVec.ofNat 16 (y.commands.filter (fun f => decide (0 < f.tries) && !f.sent && decide (f.tries ≤ 7))).length })
  dead.foldl (fun c f => c.commandFailed { f with tries := 7 } []) c1

/-- The window of up to 130 s for a beacon with buckling open: two LISTEN entries, each at most 65 535 ms (R707). -/
def Chip.buckleWindow (c : Chip) : Chip :=
  let u := c.keeper.units
  (c.yardListen c.yard.sec.beacon u 0 65000).yardListen c.yard.sec.beacon u 65000000 65000

/-- Buckling at a round start (R707, R709): a unit with a key and no number listens; a waiting requester counts down. -/
def Chip.buckleRound (c : Chip) : Chip :=
  if !c.yardIn || c.yard.sec.lead then c
  else match c.yard.buckle with
    | .idle =>
      if c.mram.keys.yard.number.isNone then (c.upYard (fun y => { y with buckle := .listening })).buckleWindow else c
    | .waiting n =>
      if n ≤ 1 then (c.upYard (fun y => { y with buckle := .listening })).buckleWindow
      else c.upYard (fun y => { y with buckle := .waiting (n - 1) })
    | _ => c

/-- A held YARD_CFG applies (R721). -/
def Chip.yardCfgApply (c : Chip) : Chip :=
  match c.armedSet 0x3808 with
  | none => c
  | some s =>
    let c1 := (c.applyWords s.words).dropArmed 0x3808
    c1.upYard (fun y => { y with lease := c1.runF 0x3808 27 16, miniListen := c1.runF 0x3808 9 8 })

/-- Round number of keeper time (R677). -/
def Keeper.round (k : Keeper) : Nat := (k.sec.toNat + 630720013) / 64

/-- A round begins. -/
def Chip.yardRound (c : Chip) : Chip :=
  let c1 := c.yardCfgApply.upYard (fun y => { y with
    round := c.keeper.round, beaconHeard := false, downSlot := 0, openSlot := 0, holdOff := y.holdOff - 1, sinceAck := y.sinceAck + 1,
    members := y.members.map (fun m => { m with quiet := m.quiet + 1 }), commands := y.commands.map YardFrame.aged })
  let c2 := c1.upYard (fun y => { y with members := y.members.filter (fun m => decide (m.quiet ≤ y.lease)) })
  c2.failCommands.buckleRound

/-- YARD_ROUND_START (R677). -/
def execYardRoundStart (s : State) : Host.Outcome State Fault Refusal := s.run (fun c => if c.yardIn then c.yardRound else c)

/-! ### Minislots (R678, R704-R706) -/

/-- A member listens in minislots under MINI_LISTEN (R674). -/
def Chip.miniOn (c : Chip) : Bool :=
  decide (c.yard.miniListen = 2) || (decide (c.yard.miniListen = 1) && c.power.fvinTaken)

/-- The frame of an alarm: broadcast, body ALARM_ID, ORIGIN, HOPS, RULE, THEFT. -/
def Alarm.frame (a : Alarm) (seq : Nat) : YardFrame :=
  { ptype := 5, dst := 0xFF, seq := seq, bcast := true, tries := a.tries, body := bytesOf [a.id, a.origin, a.hops, a.rule, a.theft] }

/-- An alarm or relay goes out in this minislot; its new SEQ is drawn at its first sending (R688). -/
def Chip.sendAlarm (c : Chip) (own : Nat) (a : Alarm) : Option (Chip × Alarm) :=
  match (if a.seq = 0 then c.nextSeq 256 else some (c, a.seq)) with
  | none => none
  | some (c1, seq) =>
    (c1.yardSend 32 own (a.frame seq) c1.yard.sec.alarm c1.keeper.units 0 18000).map (fun c2 =>
      (c2, { a with seq := seq, due := false, waited := 0 }))

/-- What goes out in this unit's minislot: its own alarm, then a relay (R704, R706). -/
def Chip.miniOwn (c : Chip) (s own : Nat) : Chip :=
  if s % 8 ≠ own % 8 then c
  else match c.yard.alarm with
    | some a =>
      if a.due then
        (match c.sendAlarm own a with
          | some (c1, a1) => c1.upYard (fun y => { y with alarm := some a1 })
          | none => c)
      else (match c.yard.relay with
        | some r => (match c.sendAlarm own r with
          | some (c1, _) => c1.upYard (fun y => { y with relay := none })
          | none => c)
        | none => c)
    | none => match c.yard.relay with
      | some r => (match c.sendAlarm own r with
        | some (c1, _) => c1.upYard (fun y => { y with relay := none })
        | none => c)
      | none => c

/-- An ALARM_ACK owed by the lead goes out in the next minislot (R705). -/
def Chip.miniAck (c : Chip) : Chip :=
  match c.yard.ackOwed with
  | none => c
  | some (o, i) => match c.nextSeq 256 with
    | none => c
    | some (c1, seq) =>
      ((c1.yardSend 32 0 { ptype := 6, dst := 0xFF, seq := seq, bcast := true, body := bytesOf [o, i] } c1.yard.sec.alarm c1.keeper.units 0 18000).getD c1).upYard
        (fun y => { y with ackOwed := none })

/-- The alarm of this unit waits one yard slot more for its ALARM_ACK (R704). -/
def Chip.miniWait (c : Chip) : Chip :=
  c.upYard (fun y => { y with alarm := y.alarm.map (fun a => if a.due then a else { a with waited := a.waited + 1 }) })

/-- Listening in this minislot: the lead always, a member under MINI_LISTEN or while its alarm waits for an ALARM_ACK. -/
def Chip.miniListen (c : Chip) : Chip :=
  if c.yard.sec.lead ∨ c.miniOn = true ∨ (c.yard.alarm.any (fun a => !a.due)) = true then
    c.yardListen c.yard.sec.alarm c.keeper.units 0 20
  else c

/-- The minislot of yard slot `s`. -/
def Chip.minislot (c : Chip) (s : Nat) : Chip :=
  let c1 := c.miniWait
  match c1.yardNumber with
  | none => c1
  | some own => ((if c1.yard.sec.lead then c1.miniAck else c1).miniOwn s own).miniListen

/-! ### The beacon (R680, R681, R696, R700) -/

/-- ACK as 32 bytes. -/
def ackBytes (a : BitVec 256) : List Byte := leBytes 32 a.toNat

/-- The highest free numbers, for DOWN pairs (R700). -/
def Chip.downSlots (c : Chip) : List Nat := ((List.range 254).map (fun i => 255 - i)).filter (fun n => !c.numberHeld n)

/-- Commands take the slots of a beacon: at most one to a unit, at most four (R681, R700). -/
def nameCommands : List YardFrame → List Nat → List Nat → List YardFrame
  | [], _, _ => []
  | f :: fs, slots, dsts =>
    match slots with
    | [] => f :: fs
    | s :: ss =>
      if f.sent || dsts.contains f.dst then f :: nameCommands fs slots dsts
      else { f with slot := s } :: nameCommands fs ss (f.dst :: dsts)

/-- The DOWN pairs: eight bytes. -/
def downBytes (fs : List YardFrame) : List Byte :=
  padTo 8 0 ((fs.filter (fun f => decide (f.slot ≠ 0) && !f.sent)).flatMap (fun f => bytesOf [f.dst, f.slot]))

/-- The body of the beacon: 54 bytes (R681). -/
def Chip.beaconBody (c : Chip) : List Byte :=
  let b := c.yard.sec.beacon
  let w := launchWords c c.keeper.units (22000 + symbolsUs b.k b.bw (b.preLen + 2))
  let opened := c.bucklingOpen
  leBytes 4 c.yard.round ++ leBytes 4 (w.getD 0 0).toNat ++ leBytes 2 (fld (w.getD 1 0) 14 0) ++ leBytes 2 (w.getD 2 0).toNat ++
    bytesOf [b2n (decide (c.keeper.tsrc = 3)) + 2 * b2n opened, if opened then c.lowestFree.getD 0 else 0] ++ ackBytes c.yard.acks ++
    downBytes c.yard.commands

/-- The lead sends its beacon in yard slot 0 while its time uncertainty is 1 ms or less (R680). -/
def Chip.sendBeacon (c : Chip) : Chip :=
  if !(c.timeUnc.any (fun u => decide (u ≤ 1000))) then c
  else
    let c1 := c.upYard (fun y => { y with commands := nameCommands y.commands (c.downSlots.filter (fun n => some n != c.lowestFree)) [],
                                          openSlot := if c.bucklingOpen then c.lowestFree.getD 0 else 0 })
    let send (p : Chip × Nat) : Option Chip :=
      p.1.yardSend 35 0 { ptype := 1, dst := 0xFF, seq := p.2, bcast := true, body := c1.beaconBody } p.1.yard.sec.beacon p.1.keeper.units 22000 224000
    (((c1.nextSeq 256).bind send).map (fun c3 => c3.upYard (fun y => { y with acks := 0 }))).getD c

/-! ### Own yard slots (R679, R680, R685, R695-R698) -/

/-- A frame takes its SEQ at its first sending (R688). -/
def Chip.withSeq (c : Chip) (f : YardFrame) : Option (Chip × YardFrame) :=
  if c.yard.exhausted then none
  else if f.seq ≠ 0 then some (c, f)
  else (c.nextSeq (if f.bcast then 256 else f.dst)).map (fun p => (p.1, { f with seq := p.2 }))

/-- A slot frame goes out in the present yard slot; one sent before goes with TRY increased by 1 (R695, R696). -/
def Chip.slotFrame (c : Chip) (src : Nat) (f : YardFrame) : Option (Chip × YardFrame) :=
  let again := f.sent
  match c.withSeq (if again then { f with tries := f.tries + 1 } else f) with
  | none => none
  | some (c1, g) =>
    (c1.yardSend 35 src g c1.yard.sec.slot c1.keeper.units 22000 224000).map (fun c2 =>
      ((if again then c2.upYard (fun y => { y with retry := y.retry + 1 }) else c2).upYard (fun y => { y with lastSent := if g.ackReq then g.ptype else 0 }),
        { g with sent := true }))

/-- A frame unacknowledged after TRY 7 (R696). -/
def YardFrame.spent (f : YardFrame) : Bool := f.sent && f.ackReq && decide (7 ≤ f.tries)

/-- Frames unacknowledged after TRY 7 end: REPORT 1 for a report; a confirm that fails drops the number, and buckling restarts. -/
def Chip.dropSpent (c : Chip) : Chip :=
  let c1 := if c.yard.report.any YardFrame.spent then (c.upYard (fun y => { y with report := none })).reportEvent 1 else c
  let c2 := c1.upYard (fun y => { y with replies := y.replies.filter (fun f => !f.spent) })
  if c2.yard.confirm.any YardFrame.spent then
    (c2.commitYard { c2.mram.keys.yard with number := none }).upYard (fun y => { y with confirm := none, buckle := .idle })
  else c2

/-- A report sent without ACK_REQ waits for its TX status; it is not sent twice (R697). -/
def YardFrame.waits (f : YardFrame) : Bool := f.sent && !f.ackReq

/-- The reply that may go out now (R701). -/
def Chip.dueReply (c : Chip) : Option YardFrame := c.yard.replies.find? (fun f => decide (f.notBefore ≤ c.keeper.units))

/-- The frame of the own yard slot, by the order of R695, and a PURSUIT report when nothing else is due (R698). -/
def Chip.ownFrame (c : Chip) : Option YardFrame :=
  c.yard.confirm.or (c.dueReply.or ((match c.yard.report with
    | some f => if f.waits then none else some f
    | none =>
      if c.yard.lease ≤ 2 * c.yard.sinceAck then some { ptype := 2, dst := 0, seq := 0, body := bytesOf [0, 0, 0xFF, 0], ackReq := true }
      else if c.mode = 6 then
        some { ptype := 2, dst := 0, seq := 0, body := c.reportBody c.yard.sec.pursuitTpl 0xFF 0,
               ackReq := (c.yard.sec.templates.getD c.yard.sec.pursuitTpl {}).ackReq }
      else none)))

/-- The frame sent is kept where it waits for its acknowledgement. -/
def Chip.keepSent (c : Chip) (old new : YardFrame) : Chip :=
  if new.ptype = 9 then c.upYard (fun y => { y with confirm := some new })
  else if new.ptype = 3 then c.upYard (fun y => { y with replies := y.replies.map (fun f => if f = old then new else f) })
  else c.upYard (fun y => { y with report := some new })

/-- A member's own yard slot. -/
def Chip.ownSlot (c : Chip) (own : Nat) : Chip :=
  let c1 := c.dropSpent.upYard (fun y => { y with lastSent := 0 })
  if (c1.yard.beaconNeeded && !c1.yard.beaconHeard) || !(c1.timeUnc.any (fun u => decide (u ≤ 2000))) then c1
  else match c1.ownFrame with
    | none => c1
    | some f => match c1.slotFrame own f with
      | none => c1
      | some (c2, g) => c2.keepSent f g

/-- A command of the lead in the yard slot named for it (R700). -/
def Chip.leadSlot (c : Chip) (s : Nat) : Chip :=
  match c.yard.commands.find? (fun f => decide (f.slot = s) && !f.sent) with
  | none => c
  | some f => match c.withSeq f with
    | none => c
    | some (c1, g) => match c1.yardSend 35 0 g c1.yard.sec.slot c1.keeper.units 22000 224000 with
      | none => c
      | some c2 => c2.upYard (fun y => { y with commands := y.commands.map (fun x => if x = f then { g with sent := true, age := 0 } else x) })

/-- The lead's offer in the OPEN yard slot of the round after the request (R708). -/
def Chip.offerSlot (c : Chip) (s : Nat) : Option Chip :=
  match c.yard.offer with
  | some f =>
    if s ≠ c.yard.openSlot ∨ c.yard.round ≤ f.age then none
    else match c.withSeq f with
      | none => none
      | some (c1, g) => (c1.yardSend 35 0 g c1.yard.sec.slot c1.keeper.units 22000 224000).map (fun c2 => c2.upYard (fun y => { y with offer := none }))
  | none => none

/-- The request of a joining unit in the OPEN yard slot (R707): UID, the number it asks for, its ERA. -/
def Chip.joinFrame (c : Chip) : YardFrame :=
  { ptype := 7, dst := 0, seq := (Config.joinSeq c.start.freeCtr).toNat, join := true,
    body := leBytes 8 c.start.uid.toNat ++ bytesOf [0xFF] ++ leBytes 2 c.era }

/-- The OPEN yard slot at a joining unit: its request, or its listening for the offer. -/
def Chip.joinSlot (c : Chip) (s : Nat) : Chip :=
  if s ≠ c.yard.openSlot ∨ s = 0 then c
  else match c.yard.buckle with
    | .listening =>
      if !c.yard.beaconHeard || !(c.timeUnc.any (fun u => decide (u ≤ 2000))) || c.yard.exhausted then c
      else match c.yardSend 35 0xFF c.joinFrame c.yard.sec.slot c.keeper.units 22000 224000 with
        | none => c
        | some c1 => { c1.upYard (fun y => { y with buckle := .requested }) with start := { c1.start with freeCtr := c1.start.freeCtr + 1 } }
    | .requested => c.yardListen c.yard.sec.slot c.keeper.units 20000 228
    | _ => c

/-- A frame of this unit is due in the round that follows. -/
def Chip.frameDue (c : Chip) : Bool :=
  c.yard.confirm.isSome || !c.yard.replies.isEmpty || c.yard.report.any (fun f => !f.waits) || decide (c.mode = 6) ||
    decide (c.yard.lease ≤ 2 * (c.yard.sinceAck + 1))

/-- A member listens for the next beacon (R682). -/
def Chip.wantsBeacon (c : Chip) : Bool :=
  (c.frameDue && !(c.timeUnc.any (fun u => decide (u ≤ 1000)))) || decide (c.yard.lastSent ≠ 0) || decide (c.yard.buckle = .requested)

/-- The listen window for the next beacon, placed in yard slot 255: it opens U + 2 beacon symbols before the launch (R682). -/
def Chip.beaconWindow (c : Chip) : Chip :=
  let b := c.yard.sec.beacon
  let u := c.timeUnc.getD 64000000
  let sym := symbolsUs b.k b.bw 1
  let want := c.wantsBeacon
  let c1 := c.upYard (fun y => { y with beaconNeeded := want })
  if want then c1.yardListen b c.keeper.units (272000 - u - 2 * sym) ((2 * u + symbolsUs b.k b.bw (b.preLen + 4) + 999) / 1000) else c1

/-- The rest of yard slot `s`. -/
def Chip.slotRest (c : Chip) (s : Nat) : Chip :=
  if c.yard.sec.lead then
    if s = 0 then c.sendBeacon
    else match c.offerSlot s with
      | some c1 => c1
      | none =>
        if c.yard.commands.any (fun f => decide (f.slot = s) && !f.sent) then c.leadSlot s
        else c.yardListen c.yard.sec.slot c.keeper.units 20000 228
  else match c.yardNumber with
    | none => if s = 255 ∧ c.yard.buckle = .requested then c.beaconWindow else c.joinSlot s
    | some own =>
      let c1 := if s = own then c.ownSlot own
        else if s ≠ 0 ∧ s = c.yard.downSlot then c.yardListen c.yard.sec.slot c.keeper.units 20000 228
        else c
      if s = 255 then c1.beaconWindow else c1

/-- YARD_SLOT_START (R678): the minislot, then the slot frame. -/
def Chip.yardSlot (c : Chip) (s : Nat) : Chip :=
  if !c.yardIn || decide (255 < s) then c
  else ((c.upYard (fun y => { y with slot := s })).minislot s).slotRest s

/-- The yard engine takes what waits in the measurement and status rings that name it as consumer; of ring 18 it leaves the
newest whole epoch, which reports attach (R694). -/
def Chip.yardDrain (c : Chip) : Chip :=
  let c1 := ([8, 9, 10, 11, 12, 13, 14, 15, 38] : List Nat).foldl (fun c n =>
    if (c.ring n).consumer = 0x0A then c.consume n (c.ring n).fill else c) c
  if (c1.ring 18).consumer = 0x0A then
    match c1.newestEpoch (c1.ring 18).fill with
    | some i => c1.consume 18 i
    | none => c1
  else c1

/-- YARD_SLOT_START (R678). -/
def execYardSlotStart (slot : Nat) (s : State) : Host.Outcome State Fault Refusal := s.run (fun c => c.yardDrain.yardSlot slot)

/-- ALARM_RETRY (R704): 8 yard slots without an ALARM_ACK. -/
def Chip.alarmRetry (c : Chip) : Chip :=
  match c.yard.alarm with
  | none => c
  | some a =>
    if a.due || decide (a.waited < 7) then c
    else if a.tries = 7 then (c.upYard (fun y => { y with alarm := none })).yardEvent 4 (c.yardNumber.getD 0xFF)
    else c.upYard (fun y => { y with alarm := some { a with tries := a.tries + 1, due := true, waited := 0 }, retry := y.retry + 1 })

/-- ALARM_RETRY (R704). -/
def execAlarmRetry (s : State) : Host.Outcome State Fault Refusal := s.run Chip.alarmRetry

/-- BUCKLE_RETRY (R709): no offer came; the request is sent again after a random 1-8 rounds. -/
def Chip.buckleRetry (c : Chip) : Chip :=
  if c.yard.buckle = .requested then
    { c.upYard (fun y => { y with buckle := .waiting ((Config.buckleWait c.start.freeCtr).val + 1) }) with
      start := { c.start with freeCtr := c.start.freeCtr + 1 } }
  else c

/-- BUCKLE_RETRY (R709). -/
def execBuckleRetry (s : State) : Host.Outcome State Fault Refusal := s.run Chip.buckleRetry

/-- BUCKLE_LISTEN_TIMEOUT (R707): the window has closed; the unit listens again from the next round. -/
def execBuckleListenTimeout (s : State) : Host.Outcome State Fault Refusal :=
  s.run (fun c => if c.yard.buckle = .listening then c.upYard (fun y => { y with buckle := .idle }) else c)

end Sys2Proof.Machine
end

