-- ==== Sys2Proof/Machine/Yard.lean ====
section
/-! DEFINITION. The yard's receiving side (15 R671, R683, R690, R691, R696-R712, R717-R720): the frame at the head of ring 36 is
checked, classified and acted on by the row of its PTYPE; the yard-key load and YARD_CFG. -/

namespace Sys2Proof.Machine

/-! ### The frame at the head of ring 36 (R671, R686, R690) -/

/-- A yard frame received: its radio header entry, the fields of its yard header, and its sealed body. -/
structure RxYard where
  entry : Entry
  len : Nat
  ptype : Nat
  src : Nat
  dst : Nat
  flags : Nat
  era : Nat
  seq : Nat
  header : List Byte
  sealed : List Byte
  deriving DecidableEq, Repr

/-- The frame at the head of ring 36, when the yard engine is that ring's consumer. -/
def Chip.yardHead (c : Chip) : Option RxYard :=
  if (c.ring 36).consumer ≠ 0x0A then none
  else match c.headItem 36 with
    | none => none
    | some e =>
      let len := fld (ew e 0) 7 0
      let p := c.headPayload 36 len
      some { entry := e, len := len, ptype := fld (ew e 0) 23 16, src := leAt p 0 1, dst := leAt p 1 1, flags := leAt p 2 1, era := leAt p 3 2,
             seq := leAt p 5 4, header := p.take 9, sealed := p.drop 9 }

/-- BCAST is set. -/
def RxYard.bcast (f : RxYard) : Bool := f.flags.testBit 0

/-- JOIN is set. -/
def RxYard.join (f : RxYard) : Bool := f.flags.testBit 1

/-- TRY of the frame. -/
def RxYard.tries (f : RxYard) : Nat := fld (ew f.entry 0) 13 11

/-- ACK_REQ of the frame. -/
def RxYard.ackReq (f : RxYard) : Bool := bit (ew f.entry 0) 10

/-- What the checks of R690 give for a frame. -/
inductive Fate where
  | micFail | replay
  | fresh (body : List Byte)
  | dup (body : List Byte)
  deriving DecidableEq, Repr

/-- What is kept for a SRC. -/
def Chip.replayOf (c : Chip) (src : Nat) : Option Replay := c.yard.replay.find? (fun r => r.src == src)

/-- The body of a frame whose MIC passes: it is ENC, and AES-128 CCM opens it (R686, R687). -/
def Chip.yardOpen (c : Chip) (f : RxYard) : Option (List Byte) :=
  let y := c.mram.keys.yard
  if bit (ew f.entry 0) 14 then
    ccmOpen (yardKey y.key f.join f.src f.era) (yardNonce y.code f.src f.dst f.flags f.era f.seq f.ptype) f.header f.sealed
  else none

/-- The order of R690; a buckling frame has no replay window. -/
def Chip.yardFate (c : Chip) (f : RxYard) : Fate :=
  match c.yardOpen f with
  | none => .micFail
  | some body =>
    if f.join then .fresh body
    else match c.replayOf f.src with
      | none => .fresh body
      | some r =>
        if f.era < r.era then .replay
        else if r.era < f.era then .fresh body
        else if f.seq + 64 < r.high then .replay
        else if r.seen.contains f.seq then .dup body
        else .fresh body

/-- The replay state of a SRC after a frame accepted as new (R690). -/
def Replay.accept (r : Replay) (era seq : Nat) : Replay :=
  if r.era < era then { r with era := era, high := seq, seen := [seq], replies := [] }
  else
    let h := max r.high seq
    { r with high := h, seen := seq :: r.seen.filter (fun x => decide (h ≤ x + 64)) }

/-- A frame is accepted as new. -/
def Chip.yardAccept (c : Chip) (f : RxYard) : Chip :=
  if f.join then c
  else match c.replayOf f.src with
    | none => c.upYard (fun y => { y with replay := y.replay ++ [{ src := f.src, era := f.era, high := f.seq, seen := [f.seq] }] })
    | some _ => c.upYard (fun y => { y with replay := y.replay.map (fun r => if r.src = f.src then r.accept f.era f.seq else r) })

/-- The head of ring 36 is consumed. -/
def Chip.dropHead (c : Chip) (f : RxYard) : Chip := c.consume 36 (itemEntries f.entry)

/-- A duplicate is counted and consumed. -/
def Chip.dupHead (c : Chip) (f : RxYard) : Chip := (c.dropHead f).upYard (fun y => { y with dup := y.dup + 1 })

/-- The frame is meant for this unit and its role. -/
def Chip.yardMine (c : Chip) (f : RxYard) : Bool :=
  let own := c.yardNumber
  if c.yard.sec.lead then
    (([2, 3, 9].contains f.ptype) && !f.join && !f.bcast && decide (f.dst = 0)) || decide (f.ptype = 5) || (decide (f.ptype = 7) && f.join)
  else if f.ptype = 1 ∨ f.ptype = 6 then decide (f.src = 0)
  else if f.ptype = 4 then decide (f.src = 0) && !f.bcast && decide (own = some f.dst)
  else if f.ptype = 5 then own.isSome && (c.miniOn || c.yard.alarm.isSome)
  else if f.ptype = 8 then f.join && decide (c.yard.buckle = .requested)
  else false

/-! ### Replies (R691, R699-R701) -/

/-- A reply waits for the first own yard slot that starts at least 250 ms later. -/
def Chip.queueReply (c : Chip) (body : List Byte) : Chip :=
  c.upYard (fun y => { y with replies := y.replies ++ [{ ptype := 3, dst := 0, seq := 0, body := body, ackReq := true,
                                                         notBefore := c.keeper.units + 8192 }] })

/-- The body of a reply: OPCODE, RESULT, the command's SEQ, data. -/
def replyBody (op res seq : Nat) (data : List Byte) : List Byte := bytesOf [op, res] ++ leBytes 4 seq ++ data.take 24

/-- A reply is stored with its command's SEQ, among the last 16, and queued. -/
def Chip.answerCommand (c : Chip) (f : RxYard) (op res : Nat) (data : List Byte) : Chip :=
  let body := replyBody op res f.seq data
  (c.upYard (fun y => { y with replay := y.replay.map (fun r =>
    if r.src = f.src then { r with replies := ((f.seq, body) :: r.replies).take 16 } else r) })).queueReply body

/-- A duplicate command: its stored reply goes again (R699). -/
def Chip.dupCommand (c : Chip) (f : RxYard) : Chip :=
  let c1 := c.dupHead f
  match (c.replayOf f.src).bind (fun r => r.replies.find? (fun p => p.1 == f.seq)) with
  | none => c1
  | some p => if c1.yard.replies.any (fun x => x.body == p.2) then c1 else c1.queueReply p.2

/-- CTIME lies within 128 s of a valid keeper time (R691). -/
def Chip.commandFresh (c : Chip) (body : List Byte) : Bool :=
  let d := (wd (leAt body 2 4) - c.timeLo).toInt
  c.keeper.valid && decide (-128 ≤ d) && decide (d ≤ 128)

/-- A COMMAND of an opcode is executed and answered: `act` gives the block, RESULT and reply data from ARG and the data. -/
def Chip.command (c : Chip) (f : RxYard) (body : List Byte) (act : Chip → Nat → List Byte → Chip × Nat × List Byte) : Chip :=
  let op := leAt body 0 1
  let c1 := (c.yardAccept f).dropHead f
  if c1.commandFresh body then
    let r := act c1 (leAt body 1 1) (body.drop 6)
    r.1.answerCommand f op r.2.1 r.2.2
  else c1.answerCommand f op 2 []

/-- The opcode of a COMMAND that no row executes: RESULT 3. -/
def unknownOp (body : List Byte) : Bool := !([1, 2, 3, 4, 5].contains (leAt body 0 1))

/-! ### Frames that no row takes (R671, R690, R701) -/

/-- One frame at the head of ring 36 is discarded where R671 or R690 says so, where it is not for this unit, or where its opcode is
unknown; none when a row takes it. -/
def Chip.sift1 (c : Chip) : Option Chip :=
  if !c.yardIn then none
  else match c.yardHead with
    | none => none
    | some f =>
      if f.len < 13 ∨ f.ptype = 0 ∨ 9 < f.ptype then some (c.dropHead f)
      else match c.yardFate f with
        | .micFail => some ((c.dropHead f).upYard (fun y => { y with micFail := y.micFail + 1 }))
        | .replay => some ((c.dropHead f).upYard (fun y => { y with replayCount := y.replayCount + 1 }))
        | .fresh body =>
          if !c.yardMine f then some (c.dropHead f)
          else if f.ptype = 4 ∧ unknownOp body = true then some (c.command f body (fun c _ _ => (c, 3, [])))
          else none
        | .dup body =>
          if !c.yardMine f then some (c.dropHead f) else if f.ptype = 4 ∧ unknownOp body = true then some (c.dupCommand f) else none

/-- Frames that no row takes leave the head of ring 36, at most `n`. -/
def Chip.sift : Nat → Chip → Chip
  | 0, c => c
  | n + 1, c => match c.sift1 with
    | some c1 => Chip.sift n c1
    | none => c

/-- Frames that no row takes leave the head of ring 36. -/
def Chip.yardSift (c : Chip) : Chip := Chip.sift (c.ring 36).fill c

/-- A row of the frame at the head of ring 36: `act` on it when it has the row's PTYPE, is for this unit and passes R690. -/
def Chip.yardRow (c : Chip) (ptype : Nat) (act : Chip → RxYard → List Byte → Bool → Chip) : Chip :=
  if !c.yardIn then c
  else
    let c0 := c.yardSift
    match c0.yardHead with
    | none => c0
    | some f =>
      if f.ptype = ptype ∧ c0.yardMine f = true then
        match c0.yardFate f with
        | .fresh body => (act c0 f body false).yardSift
        | .dup body => (act c0 f body true).yardSift
        | _ => c0
      else c0

/-! ### Frames at a member (R683, R696, R701, R704, R706, R709) -/

/-- The keeper-time offset a beacon gives, in units of 1/32 768 s: TX_SYNC less SYNC_TIME and FINE (R683). -/
def Chip.beaconOffset (c : Chip) (f : RxYard) (body : List Byte) : Int :=
  let e := f.entry
  let hi := c.keeper.sec.toNat / 2 ^ 32 * 2 ^ 32
  let tx : Int := ((hi + leAt body 4 4) * 32768 + leAt body 8 2 % 32768 : Nat)
  let rx : Int := ((hi + (ew e 4).toNat) * 32768 + fld (ew e 5) 14 0 : Nat)
  tx - rx + divRound (((leAt body 10 2 : Int) - (fld (ew e 6) 9 0 : Int)) * 32768) 26000000

/-- Time transfer (R683): a step of 2 ms or more, or from an invalid time; a slew otherwise; TSRC YARD and a TIME_SET record. -/
def Chip.takeTime (c : Chip) (off : Int) : Chip :=
  if c.keeper.valid && decide (c.keeper.tsrc = 3) && c.timeUnc.any (fun u => decide (u ≤ 1000)) then c
  else
    let old := c.keeper.sec.toNat
    let c1 :=
      if !c.keeper.valid || decide (66 ≤ off) || decide (off ≤ -66) then
        let u := ((c.keeper.units : Int) + off).toNat
        c.setTime (u / 32768) (u % 32768) 2
      else (c.upKeeper (fun k => { k with slew := off, slewPhase := 0, tsrc := 2, setSec := k.sec.toNat })).timeSetRecord old 2
    c1.yardEvent 6 (c1.yardNumber.getD 0xFF)

/-- The frame of the own slot of the previous round has been acknowledged (R696, R697, R701, R709). -/
def Chip.acked (c : Chip) : Chip :=
  let y := c.yard
  let own := c.yardNumber.getD 0xFF
  let c0 := c.upYard (fun y => { y with lastSent := 0, sinceAck := 0 })
  if y.lastSent = 9 then (c0.upYard (fun y => { y with confirm := none, member := true, buckle := .idle })).yardEvent 0 own
  else if y.lastSent = 2 then (c0.upYard (fun y => { y with report := none })).reportEvent 0
  else if y.lastSent = 3 then
    let c1 := c0.upYard (fun y => { y with replies := y.replies.filter (fun f => !f.sent) })
    if y.rebuckle then
      ((c1.commitYard { c1.mram.keys.yard with number := none }).upYard (fun y => { y with rebuckle := false, member := false, buckle := .idle })).yardEvent 1 own
    else c1
  else c0

/-- A bit of the ACK bytes of a beacon. -/
def ackBit (body : List Byte) (n : Nat) : Bool := (leAt body (14 + n / 8) 1).testBit (n % 8)

/-- The yard slot of a DOWN pair for a unit; 0 for none. -/
def downFor (body : List Byte) (n : Nat) : Nat :=
  ((List.range 4).find? (fun i => decide (leAt body (46 + 2 * i) 1 = n) && decide (n ≠ 0))).elim 0 (fun i => leAt body (47 + 2 * i) 1)

/-- BEACON (R681-R683, R696). -/
def Chip.beaconRow (c : Chip) (f : RxYard) (body : List Byte) (dup : Bool) : Chip :=
  if dup then c.dupHead f
  else
    let c1 := (((c.yardAccept f).dropHead f).takeTime (c.beaconOffset f body)).upYard (fun y => { y with
      beaconHeard := true, openSlot := if (leAt body 12 1).testBit 1 then leAt body 13 1 else 0 })
    match c1.yardNumber with
    | none => c1
    | some n =>
      let c2 := c1.upYard (fun y => { y with downSlot := downFor body n })
      if ackBit body n && decide (c2.yard.lastSent ≠ 0) then c2.acked else c2

/-- BEACON (R683). -/
def execBeacon (s : State) : Host.Outcome State Fault Refusal := s.run (fun c => c.yardRow 1 Chip.beaconRow)

/-- BEACON_MISSED (R685): no slot frame in this round. -/
def execBeaconMissed (s : State) : Host.Outcome State Fault Refusal :=
  s.run (fun c => match c.yardNumber with
    | some n => if c.yardIn && !c.yard.sec.lead && c.yard.beaconNeeded && !c.yard.beaconHeard then c.yardEvent 2 n else c
    | none => c)

/-- A command row: the COMMAND at the head of ring 36 when its OPCODE is `op`. -/
def Chip.commandRow (c : Chip) (op : Nat) (act : Chip → Nat → List Byte → Chip × Nat × List Byte) : Chip :=
  c.yardRow 4 (fun c f body dup =>
    if leAt body 0 1 ≠ op then c else if dup then c.dupCommand f else c.command f body act)

/-- The member's action for THEFT_CLEAR: RESULT and the new challenge are the reply data (R701). -/
def Chip.doTheftClear (c : Chip) (_arg : Nat) (data : List Byte) : Chip × Nat × List Byte :=
  let c1 := c.theftClear data
  let r := c1.rf 0x0CE8 3 0
  (c1, if r = 1 then 0 else 1, bytesOf [r] ++ leBytes 4 c1.keeper.theftNonce.toNat)

/-- UPDATE_DATA: 1-6 entries into ring 6, all or none (R701). -/
def Chip.doUpdateData (c : Chip) (_arg : Nat) (data : List Byte) : Chip × Nat × List Byte :=
  let n := data.length / 32
  if !c.mayProduce 0x0A 6 then (c, 1, bytesOf [1])
  else if n = 0 ∨ 6 < n ∨ data.length % 32 ≠ 0 then (c, 1, [])
  else if (c.ring 6).free < n ∨ (c.ring 6).waiting ≠ [] then (c, 1, bytesOf [2])
  else ((dataEntries data).foldl (fun c e => c.produce 0x0A 6 e) c, 0, [])

/-- HOST_EVENT of index ARG (R356, R701). -/
def Chip.doHostEvent (c : Chip) (arg : Nat) (_data : List Byte) : Chip × Nat × List Byte := (c.event 0x0A 0x11 arg 0, 0, [])

/-- A report from template ARG as a SEND_REPORT would (R701). -/
def Chip.doRequestReport (c : Chip) (arg : Nat) (_data : List Byte) : Chip × Nat × List Byte :=
  let p := c.sendReport 0x0A (arg % 16) 0xFF 0
  (p.1, if p.2.isNone && decide (arg < 16) then 0 else 1, [])

/-- REBUCKLE: the number is dropped once the reply is acknowledged (R701). -/
def Chip.doRebuckle (c : Chip) (_arg : Nat) (_data : List Byte) : Chip × Nat × List Byte :=
  (c.upYard (fun y => { y with rebuckle := true }), 0, [])

/-- THEFT_CLEAR (R701). -/
def execTheftClear (s : State) : Host.Outcome State Fault Refusal := s.run (fun c => c.commandRow 1 Chip.doTheftClear)
/-- UPDATE_DATA (R701). -/
def execUpdateData (s : State) : Host.Outcome State Fault Refusal := s.run (fun c => c.commandRow 2 Chip.doUpdateData)
/-- YARD_HOST_EVENT (R701). -/
def execYardHostEvent (s : State) : Host.Outcome State Fault Refusal := s.run (fun c => c.commandRow 3 Chip.doHostEvent)
/-- REQUEST_REPORT (R701). -/
def execRequestReport (s : State) : Host.Outcome State Fault Refusal := s.run (fun c => c.commandRow 4 Chip.doRequestReport)
/-- REBUCKLE (R701). -/
def execRebuckle (s : State) : Host.Outcome State Fault Refusal := s.run (fun c => c.commandRow 5 Chip.doRebuckle)

/-- A member and an alarm frame (R706): it relays a new pair once. -/
def Chip.relayAlarm (c : Chip) (body : List Byte) : Chip :=
  let id := leAt body 0 1
  let origin := leAt body 1 1
  let hops := leAt body 2 1
  let seen := c.yard.seenAlarms.contains (origin, id)
  let c1 := if seen then c else c.upYard (fun y => { y with seenAlarms := ((origin, id) :: y.seenAlarms).take 16 })
  if c.miniOn && decide (hops < 3) && !seen && !c.yard.ackedAlarms.contains (origin, id) then
    c1.upYard (fun y => { y with relay := some { origin := origin, id := id, hops := hops + 1, rule := leAt body 3 1, theft := leAt body 4 1 } })
  else c1

/-- The entries of a received frame on ring 40 or 43. -/
def Chip.rxRingEntries (_c : Chip) (kind w1 : Nat) (f : RxYard) (body : List Byte) : List Entry :=
  yardRingEntries kind f.ptype f.src w1 f.era f.tries (ew f.entry 4) (ew f.entry 5) (ew f.entry 2) body

/-- The lead and an alarm frame (R705): ALARM_ACK in the next minislot, a ring-40 entry and ALARM_RECEIVED; a duplicate is only
acknowledged again. -/
def Chip.leadAlarm (c : Chip) (f : RxYard) (body : List Byte) (dup : Bool) : Chip :=
  let pair := (leAt body 1 1, leAt body 0 1)
  let owe (c : Chip) : Chip := c.upYard (fun y => { y with ackOwed := some pair })
  if dup then owe (c.dupHead f)
  else match c.putOut 40 (c.rxRingEntries 3 f.seq f body) with
    | none => c.dropHead f
    | some c1 => ((owe ((c1.yardAccept f).dropHead f)).heard f.src none).yardEvent 3 pair.1

/-- ALARM (R705, R706). -/
def Chip.alarmRow (c : Chip) (f : RxYard) (body : List Byte) (dup : Bool) : Chip :=
  if c.yard.sec.lead then c.leadAlarm f body dup
  else if dup then c.dupHead f
  else (((c.yardAccept f).dropHead f)).relayAlarm body

/-- ALARM (R706). -/
def execAlarm (s : State) : Host.Outcome State Fault Refusal := s.run (fun c => c.yardRow 5 Chip.alarmRow)

/-- ALARM_ACK (R704, R706): ends the origin's retries and the relays of that alarm. -/
def Chip.alarmAckRow (c : Chip) (f : RxYard) (body : List Byte) (dup : Bool) : Chip :=
  if dup then c.dupHead f
  else
    let o := leAt body 0 1
    let i := leAt body 1 1
    let hit (a : Alarm) : Bool := decide (a.origin = o) && decide (a.id = i)
    ((c.yardAccept f).dropHead f).upYard (fun y => { y with
      alarm := if y.alarm.any hit then none else y.alarm, relay := if y.relay.any hit then none else y.relay,
      ackedAlarms := ((o, i) :: y.ackedAlarms).take 16 })

/-- ALARM_ACK (R704). -/
def execAlarmAck (s : State) : Host.Outcome State Fault Refusal := s.run (fun c => c.yardRow 6 Chip.alarmAckRow)

/-- BUCKLE_OFFER (R709): the number and the new ERA are committed, and BUCKLE_CONFIRM waits for the own yard slot. -/
def Chip.offerRow (c : Chip) (f : RxYard) (body : List Byte) (_dup : Bool) : Chip :=
  let c1 := c.dropHead f
  if leAt body 0 8 ≠ c.start.uid.toNat then c1
  else
    (c1.commitYard { c1.mram.keys.yard with number := some (leAt body 8 1), era := max c1.era (leAt body 9 2) }).upYard (fun y => { y with
      counters := [], exhausted := decide (leAt body 9 2 = 65535), buckle := .offered, member := false,
      report := y.report.map YardFrame.renumber, replies := y.replies.map YardFrame.renumber,
      confirm := some { ptype := 9, dst := 0, seq := 0, body := leBytes 8 c.start.uid.toNat, ackReq := true } })

/-- BUCKLE_OFFER (R709). -/
def execBuckleOffer (s : State) : Host.Outcome State Fault Refusal := s.run (fun c => c.yardRow 8 Chip.offerRow)

/-! ### Frames at the lead (R696, R699, R700, R708-R712) -/

/-- The lead's ACK bit of a unit is set where the frame asked for it (R696). -/
def Chip.ackUnit (c : Chip) (f : RxYard) : Chip :=
  if f.ackReq then c.upYard (fun y => { y with acks := y.acks ||| (1#256 <<< (f.src % 256)) }) else c

/-- The lead accepts a frame as new, with its ACK bit. -/
def Chip.leadAccept (c : Chip) (f : RxYard) (uid : Option (BitVec 64)) : Chip :=
  (((c.yardAccept f).dropHead f).ackUnit f).heard f.src uid

/-- The lead's row of a unit. -/
def Chip.memberRow (c : Chip) (n : Nat) : Option YardMember := c.yard.members.find? (fun m => m.number == n)

/-- A baseline (R711, R712): a ring-41 entry, and MOVED when two consecutive solutions change by more than MOVE_DM. -/
def Chip.baselineStep (c : Chip) (n : Nat) (b : Baseline) : Chip :=
  let old := (c.memberRow n).bind (fun m => m.baseline)
  let change := match old with
    | none => 0
    | some (e, v, u) => isqrt (((b.e - e) ^ 2 + (b.n - v) ^ 2 + (b.u - u) ^ 2).toNat)
  let count := if c.yard.sec.moveDm < change then (((c.memberRow n).map (fun m => m.moved)).getD 0) + 1 else 0
  let moved := decide (2 ≤ count)
  let c1 := c.upYard (fun y => { y with members := y.members.map (fun m =>
    if m.number = n then { m with baseline := some (b.e, b.n, b.u), moved := count } else m) })
  let c2 := c1.produce 0x0A 41 [wd n, wdI b.e, wdI b.n, wdI b.u, wd change, wd (b.signals % 256 + b2n b.carrier * 256 + b2n moved * 512), wd c.yard.round, 0]
  if moved then c2.yardEvent 5 n else c2

/-- REPORT (R696, R699, R711, R718). -/
def Chip.reportRow (b : Option Baseline) (c : Chip) (f : RxYard) (body : List Byte) (dup : Bool) : Chip :=
  if dup then (c.dupHead f).ackUnit f
  else match c.putOut 40 (c.rxRingEntries 1 f.seq f body) with
    | none => c.dropHead f
    | some c1 =>
      let c2 := c1.leadAccept f none
      match b with
      | none => c2
      | some x => if (leAt body 3 1).testBit 0 && decide (c.mode = 5) && decide (5 ≤ x.signals) then c2.baselineStep f.src x else c2

/-- REPORT (R696). -/
def execReport (baseline : Option Baseline) (s : State) : Host.Outcome State Fault Refusal :=
  s.run (fun c => c.yardRow 2 (Chip.reportRow baseline))

/-- A reply ends its command: a ring-43 entry and COMMAND_DONE (R700, R714). -/
def Chip.endCommand (c : Chip) (f : RxYard) (body : List Byte) : Chip :=
  match c.yard.commands.find? (fun x => decide (x.dst = f.src) && decide (x.seq = leAt body 2 4) && decide (x.seq ≠ 0)) with
  | none => c
  | some x =>
    ((c.rxRingEntries 2 x.tag f body).foldl (fun c e => c.produce 0x0A 43 e)
      (c.upYard (fun y => { y with commands := y.commands.filter (fun z => z != x) }))).yardEvent 7 f.src

/-- REPLY (R699, R700, R718). -/
def Chip.replyRow (c : Chip) (f : RxYard) (body : List Byte) (dup : Bool) : Chip :=
  if dup then (c.dupHead f).ackUnit f
  else match c.putOut 40 (c.rxRingEntries 2 f.seq f body) with
    | none => c.dropHead f
    | some c1 => (c1.leadAccept f none).endCommand f body

/-- REPLY (R700). -/
def execReply (s : State) : Host.Outcome State Fault Refusal := s.run (fun c => c.yardRow 3 Chip.replyRow)

/-- The number for a request: the number asked for if free, the lowest free number otherwise (R708). A number in the table under the
asking UID is free for it. -/
def Chip.assignNumber (c : Chip) (uid : BitVec 64) (want : Nat) : Option Nat :=
  let free (n : Nat) : Bool := !(c.yard.members.any (fun m => m.number == n && m.uid != some uid))
  if 1 ≤ want ∧ want ≤ 254 ∧ free want = true then some want
  else (List.range 256).find? (fun n => decide (1 ≤ n) && free n)

/-- BUCKLE_REQ (R708, R710): the offer goes out in the OPEN yard slot of the next round. -/
def Chip.buckleReqRow (c : Chip) (f : RxYard) (body : List Byte) (_dup : Bool) : Chip :=
  let c1 := c.dropHead f
  let uid := BitVec.ofNat 64 (leAt body 0 8)
  if c1.yard.holdOff ≠ 0 then c1
  else match c1.assignNumber uid (leAt body 8 1) with
    | none => c1
    | some n =>
      c1.upYard (fun y => { y with
        members := heardRow n (some uid) (y.members.filter (fun m => m.uid != some uid)),
        offer := some { ptype := 8, dst := 0xFF, seq := 0, join := true, age := y.round,
                        body := leBytes 8 uid.toNat ++ bytesOf [n] ++ leBytes 2 (min 65535 (leAt body 9 2 + 1)) } })

/-- BUCKLE_REQ (R708). -/
def execBuckleReq (s : State) : Host.Outcome State Fault Refusal := s.run (fun c => c.yardRow 7 Chip.buckleReqRow)

/-- BUCKLE_CONFIRM (R696, R709). -/
def Chip.confirmRow (c : Chip) (f : RxYard) (body : List Byte) (dup : Bool) : Chip :=
  if dup then (c.dupHead f).ackUnit f else c.leadAccept f (some (BitVec.ofNat 64 (leAt body 0 8)))

/-- BUCKLE_CONFIRM (R709). -/
def execBuckleConfirm (s : State) : Host.Outcome State Fault Refusal := s.run (fun c => c.yardRow 9 Chip.confirmRow)

/-- YARD_COMMAND_QUEUED (R700-R702): a ring-42 command is taken, or refused as too long; CTIME is the lead's keeper time. -/
def Chip.commandQueued (c : Chip) : Chip :=
  let r := c.ring 42
  if !c.yardLead || decide (r.fill = 0) || decide (4 ≤ c.yard.commands.length) then c
  else
    let e := c.tailEntry 42 0
    let len := fld (ew e 0) 7 0
    let n := frameEntries len
    if r.fill < n then c
    else
      let b := c.headPayload 42 len
      let body := b.take 2 ++ leBytes 4 c.timeLo.toNat ++ b.drop 6
      let f : YardFrame := { ptype := 4, dst := fld (ew e 0) 15 8, seq := 0, body := body, ackReq := true, tag := (ew e 1).toNat }
      let c1 := c.consume 42 n
      if 224000 < c.yard.sec.slot.airUs (13 + body.length) c.ramp ∨ 255 < 13 + body.length then c1.commandFailed f (bytesOf [leAt b 0 1, 1])
      else c1.upYard (fun y => { y with commands := y.commands ++ [f] })

/-- YARD_COMMAND_QUEUED (R700). -/
def execYardCommandQueued (s : State) : Host.Outcome State Fault Refusal := s.run Chip.commandQueued

/-! ### Yard-key load and settings (R672, R673, R720, R721) -/

/-- The result of a yard-key load (R672, R286). -/
def Chip.yardLoadResult (c : Chip) (cmd : List Byte) : Nat :=
  let op := leAt cmd 2 1
  let arg := leAt cmd 3 1
  if c.mode = 0 ∨ c.mode = 7 ∨ c.mode = 0xF then 0xA
  else c.commandCheck cmd 160 0x59 0x4B c.yard.nonce 32
    ((decide (op = 1) && decide (arg ≤ 0xFE)) || (decide (op = 2) && decide (arg = 0) && decide (leAt cmd 16 16 = 0)))

/-- Membership ends (R720): UNBUCKLED, and what waited for the old yard is dropped. -/
def Chip.unbuckle (c : Chip) : Chip :=
  let was := c.yard.member
  let num := c.yardNumber.getD 0xFF
  let c1 := c.upYard (fun y => { y with
    member := false, buckle := .idle, confirm := none, report := none, replies := [], alarm := none, relay := none, ackOwed := none,
    commands := [], offer := none, lastSent := 0, rebuckle := false, counters := [], downSlot := 0, openSlot := 0 })
  if was then c1.yardEvent 1 num else c1

/-- A yard-key load is checked and applied (R672, R673, R720). -/
def Chip.yardLoad (c : Chip) : Chip :=
  let cmd := c.bufBytes 0x3820 40
  let res := c.yardLoadResult cmd
  let p := c.draw
  let c1 := (p.1.upYard (fun y => { y with nonce := p.2 })).setFld 0x3848 3 0 res
  if res ≠ 1 then c1
  else
    let c2 := c1.unbuckle
    if leAt cmd 2 1 = 1 then
      (c2.commitYard { present := true, code := leAt cmd 3 1, key := slice cmd 16 16, number := none, era := min 65535 (c2.era + 1) }).upYard
        (fun y => { y with exhausted := decide (c2.era = 65534) })
    else c2.commitYard { present := false, code := 0, key := [], number := none, era := c2.era }

/-- YARD_KEY_LOAD (R673): a command with OPCODE LOAD; the command's own OPCODE decides. -/
def execYardKeyLoad (s : State) : Host.Outcome State Fault Refusal := s.runHost Chip.yardLoad
/-- YARD_KEY_ERASE (R673): a command with OPCODE ERASE; the command's own OPCODE decides. -/
def execYardKeyErase (s : State) : Host.Outcome State Fault Refusal := s.runHost Chip.yardLoad

/-- YARD_CFG.ARM (R721): LEASE 16-4096 and MINI_LISTEN as R674; it applies at the next round start. -/
def Chip.yardCfgArm (c : Chip) : Chip :=
  let w := c.reg 0x3808
  if fld w 27 16 < 16 ∨ 2 < fld w 9 8 then c.armLast 0x3808 2
  else (c.armLast 0x3808 0).holdSet 0x3808 (c.shadow 0x3808 1)

/-- YARD_CFG_ARM (R721). -/
def execYardCfgArm (s : State) : Host.Outcome State Fault Refusal := s.runHost Chip.yardCfgArm

/-- FRAME_SENT (R656, R697): SENT on ring 38; a yard REPORT without ACK_REQ is then acknowledged by its TX status. -/
def Chip.frameSentYard (c : Chip) : Chip :=
  match c.radio.tx with
  | none => c
  | some f =>
    let c1 := c.frameSent
    let done := decide (f.ring = 35) && decide (fld (ew f.header 0) 23 16 = 2) && !bit (ew f.header 0) 10
    if done && c1.yard.report.any YardFrame.waits then (c1.upYard (fun y => { y with report := none })).reportEvent 0 else c1

/-- FRAME_SENT (R656). -/
def execFrameSent (s : State) : Host.Outcome State Fault Refusal := s.run Chip.frameSentYard

end Sys2Proof.Machine
end

