-- ==== Sys2Proof/Machine/Power.lean ====
section
/-! DEFINITION. The power path of the field die (03 R100-R118, 11 R524-R526, 19 R858-R861): supplies, charging, FOUT and GBIAS, and the
reporting of the field die's faults. -/

namespace Sys2Proof.Machine

/-! ### Fault reporting (R40, R525, R526, R861) -/

/-- The register and bit of a field-die fault by its code and index (R144, R526, R533); none for NTC_OPEN, which is a status bit. -/
def faultBit (code idx : Nat) : Option (Nat × Nat) :=
  match code with
  | 0x0301 => some (0x1C01, 5 + idx)
  | 0x0302 => some (0x1C01, 7 + idx)
  | 0x0303 => some (0x1C21, 10 + idx)
  | 0x0304 => some (0x1C01, 9)
  | 0x0305 => some (0x1C01, 10)
  | 0x0306 => some (0x1C01, 1)
  | 0x0307 => some (0x1C01, 0)
  | 0x0308 => some (0x1C01, 2)
  | 0x0309 => some (0x1C01, 4)
  | 0x030B => some (0x1C21, 8)
  | 0x030C => some (0x1C21, 9)
  | 0x030D => some (0x1C21, idx)
  | 0x030E => some (0x0075, 8)
  | 0x030F => some (0x1C01, 3)
  | _ => none

/-- A lane carries the field die's protection events: the protection lane, or the field lane in its place (R40). -/
def Chip.protectionPath (c : Chip) : Bool := (c.live 3 && !c.girth.rerouted) || c.live 2

/-- A protection event of the field die reaches ring 0, or is held (R40, R861). -/
def Chip.fieldProtect (c : Chip) (bit code a0 a1 a2 : Nat) : Chip :=
  if c.power.coreSupplied && decide (c.mode ≠ 0) && c.protectionPath then c.protect 0x06 code a0 a1 a2 0
  else c.upGirth (fun g => { g with heldProt := g.heldProt ++ [{ afterStart := !c.power.coreSupplied || decide (c.mode = 0), bit := bit, code := code, arg0 := a0, arg1 := a1 }] })

/-- A fault bit of the field die is set: one PROTECTION entry when it goes from 0 to 1 (R525). -/
def Chip.fieldFault (c : Chip) (code idx a0 a1 a2 : Nat) : Chip :=
  match faultBit code idx with
  | none => c
  | some (r, b) => if c.rf r b b = 1 then c else (c.setBits r (2 ^ b)).fieldProtect b code a0 a1 a2

/-- Held events in bit order. -/
def insertHeld (h : HeldEvent) : List HeldEvent → List HeldEvent
  | [] => [h]
  | x :: xs => if x.bit ≤ h.bit then x :: insertHeld h xs else h :: x :: xs

/-- The events held for a lane go out once it is LIVE (R40); those of R861 at the first mode, in bit order. -/
def Chip.sendHeld (c : Chip) (afterStart : Bool) : Chip :=
  if !c.protectionPath then c
  else
    let go := c.girth.heldProt.filter (fun h => h.afterStart == afterStart)
    let c1 := c.upGirth (fun g => { g with heldProt := g.heldProt.filter (fun h => h.afterStart != afterStart) })
    (if afterStart then go.foldl (fun l h => insertHeld h l) [] else go).foldl (fun c h => c.protect 0x06 h.code h.arg0 h.arg1 0 0) c1

/-! ### Charging (R109-R114) -/

/-- FLD_CHG_CTL.CELL in force: 0 PRIMARY, 1 LIION_4V20, 2 LIION_4V10. -/
def Chip.cellType (c : Chip) : Nat := c.runF 0x1C04 3 2

/-- Float voltage in mV. -/
def Chip.floatMv (c : Chip) : Nat := if c.cellType = 2 then 4100 else 4200

/-- Charging may run (R110, R112, R113). -/
def Chip.mayCharge (c : Chip) : Bool :=
  decide (c.cellType ≠ 0) && c.power.fvinTaken && !c.power.cellReversed && !c.power.ntcOpen && !c.power.chgTimedOut

/-- A charging step that draws current. -/
def ChgState.charging : ChgState → Bool
  | .precharge => true
  | .constCurrent => true
  | .constVoltage => true
  | _ => false

/-- The first step at a cell voltage (R110, R111). -/
def firstStep (vbat : Nat) : ChgState := if vbat < 3000 then .precharge else .constCurrent

/-- The charger after a change of what it depends on. -/
def Chip.chargeEval (c : Chip) : Chip :=
  c.upPower (fun p => { p with chg :=
    if c.cellType = 0 then .primary
    else if p.chgTimedOut then .fault
    else if c.mayCharge then (if p.chg.charging || decide (p.chg = .done) || decide (p.chg = .paused) then p.chg else firstStep p.vbat)
    else .off })

/-- The next charging step as VBAT and the charge current cross their thresholds (R110): the termination current is a tenth of the
constant-current setting. -/
def Chip.chargeStep (c : Chip) (current : Nat) : ChgState → ChgState
  | .precharge => if 3000 ≤ c.power.vbat then .constCurrent else .precharge
  | .constCurrent => if c.power.vbat < 3000 then .precharge else if c.floatMv ≤ c.power.vbat then .constVoltage else .constCurrent
  | .constVoltage => if current * 10 ≤ 50 * c.runF 0x1C04 7 4 then .done else .constVoltage
  | .done => if c.power.vbat + 100 ≤ c.floatMv then .constCurrent else .done
  | x => x

/-- CHG_STATE_CHANGE (R110). -/
def execChgStateChange (vbat current : Nat) (s : State) : Host.Outcome State Fault Refusal :=
  s.runPower (fun c =>
    let c1 := (c.upPower (fun p => { p with vbat := vbat })).chargeEval
    c1.upPower (fun p => { p with chg := c1.chargeStep current p.chg }))

/-- CHG_TIMER (R112): charging stops with FAULT until FVIN has been released and taken again. -/
def execChgTimer (s : State) : Host.Outcome State Fault Refusal :=
  s.runPower (fun c => if c.power.chg.charging then
    (c.upPower (fun p => { p with chg := .fault, chgTimedOut := true })).fieldFault 0x0309 0 0 0 0 else c)

/-- NTC_OPEN (R113): one entry when the status bit goes from 0 to 1. -/
def execNtcOpen (s : State) : Host.Outcome State Fault Refusal :=
  s.runPower (fun c => if decide (c.cellType ≠ 0) && c.runB 0x1C04 0 && !c.power.ntcOpen then
    ((c.upPower (fun p => { p with ntcOpen := true })).chargeEval).fieldProtect 11 0x030A 0 0 0 else c)

/-- CHARGE_WINDOW (R110, R113): the temperature leaves or enters the charge window. -/
def execChargeWindow (inside : Bool) (s : State) : Host.Outcome State Fault Refusal :=
  s.runPower (fun c =>
    if inside then
      let c1 := (c.upPower (fun p => { p with ntcOpen := false })).chargeEval
      c1.upPower (fun p => { p with chg := if p.chg = .paused then p.chgResume else p.chg })
    else c.upPower (fun p => if p.chg.charging || decide (p.chg = .done) then { p with chg := .paused, chgResume := p.chg } else p))

/-- FLD_CHG_CTL.ARM (R144): a change of CELL while charging restarts the charge from its first step. -/
def Chip.chgApply (c : Chip) (ws : List (Nat × Word)) : Chip :=
  let old := c.cellType
  let c1 := c.applyWords ws
  let c2 := c1.upPower (fun p => { p with
    chg := if c1.cellType ≠ old ∧ p.chg ≠ .fault then .off else p.chg, ntcOpen := p.ntcOpen && c1.runB 0x1C04 0 })
  c2.chargeEval

/-! ### FOUT and GBIAS (R115-R118) -/

/-- A FOUT switch with its fault bits cleared and ON armed is no longer cut (R116). -/
def Chip.uncut (c : Chip) (n : Nat) : Bool := c.rf 0x1C01 (5 + n) (5 + n) = 0 ∧ c.rf 0x1C01 (7 + n) (7 + n) = 0 ∧ c.runB 0x1C06 n = true

/-- FLD_FOUT_CTL applies: a cut output comes back with the first accepted ARM with ON at 1 after its fault bit was cleared. -/
def Chip.foutApply (c : Chip) (ws : List (Nat × Word)) : Chip :=
  let c1 := c.applyWords ws
  (c1.upPower (fun p => { p with cut0 := p.cut0 && !c1.uncut 0, cut1 := p.cut1 && !c1.uncut 1 })).foutFor c.mode

/-- A SET_OUTPUT action on FOUT (R370): the output's ON field in both sets; a cut output stays off. -/
def Chip.setFout (c : Chip) (n v : Nat) : Chip :=
  ((c.setFld 0x1C06 n n v).setRun 0x1C06 (putFld (c.runW 0x1C06) n n v)).foutFor c.mode

/-- A FOUT switch is closed. -/
def Chip.foutOn (c : Chip) (n : Nat) : Bool := if n = 0 then c.power.fout0 else c.power.fout1

/-- A FOUT output is cut (R116). -/
def Chip.foutCut (c : Chip) (code n : Nat) : Chip :=
  if n < 2 ∧ c.foutOn n = true then
    (c.upPower (fun p => if n = 0 then { p with fout0 := false, cut0 := true } else { p with fout1 := false, cut1 := true })).fieldFault code n n 0 0
  else c

/-- FOUT_LIMIT (R116). -/
def execFoutLimit (out : Nat) (s : State) : Host.Outcome State Fault Refusal := s.run (fun c => c.foutCut 0x0301 out)
/-- FOUT_THERM (R116). -/
def execFoutTherm (out : Nat) (s : State) : Host.Outcome State Fault Refusal := s.run (fun c => c.foutCut 0x0302 out)

/-- FOUT_OPEN (R524). -/
def execFoutOpen (out : Nat) (s : State) : Host.Outcome State Fault Refusal :=
  s.run (fun c => if decide (out < 2) && c.foutOn out && c.runB 0x1C20 2 then c.fieldFault 0x0303 out out 0 0 else c)

/-- GBIAS_SHORT (R118). -/
def execGbiasShort (s : State) : Host.Outcome State Fault Refusal :=
  s.run (fun c => if c.power.gbias then (c.upPower (fun p => { p with gbias := false, gbiasCut := true })).fieldFault 0x0304 0 0 0 0 else c)

/-- GBIAS_OPEN (R524). -/
def execGbiasOpen (s : State) : Host.Outcome State Fault Refusal :=
  s.run (fun c => if c.power.gbias then c.fieldFault 0x0305 0 0 0 0 else c)

/-- FLD_GBIAS_CTL applies: GBIAS follows the RG domain while EN is 1. -/
def Chip.gbiasApply (c : Chip) (ws : List (Nat × Word)) : Chip :=
  let c1 := c.applyWords ws
  c1.upPower (fun p => { p with gbias := rgPowered c1.mode && c1.runB 0x1C07 0 && !p.gbiasCut })

/-! ### ARM of the field die's units (R60, R144, R885) -/

/-- An ARM of a remote unit without a result field of its own: discarded on a SILENT lane (R885); a refused set leaves the running set;
an accepted one applies at once on a LIVE lane, and waits otherwise (R60). -/
def Chip.remoteArm (c : Chip) (l arm res : Nat) (ws : List (Nat × Word)) (apply : Chip → List (Nat × Word) → Chip) : Chip :=
  if c.silent l then c
  else
    let c1 := c.armLast arm res
    if res ≠ 0 then c1
    else if c1.live l then apply (c1.dropArmed arm) ws
    else c1.holdSet arm ws

/-- FLD_CHG_ARM (R144). -/
def Chip.fldChgArm (c : Chip) : Chip :=
  let w := c.reg 0x1C04
  c.remoteArm 2 0x1C04 (if fld w 7 4 = 0 ∨ 10 < fld w 7 4 ∨ fld w 3 2 = 3 then 2 else 0) (c.shadow 0x1C04 1) Chip.chgApply

/-- FLD_CHG_ARM (R144). -/
def execFldChgArm (s : State) : Host.Outcome State Fault Refusal := s.runHost Chip.fldChgArm

/-- FLD_FOUT_CTL.ARM (R116). -/
def Chip.fldFoutArm (c : Chip) : Chip := c.remoteArm 2 0x1C06 0 (c.shadow 0x1C06 1) Chip.foutApply

/-- FLD_FOUT_ARM (R116). -/
def execFldFoutArm (s : State) : Host.Outcome State Fault Refusal := s.runHost Chip.fldFoutArm

/-- FLD_GBIAS_CTL.ARM (R118). -/
def Chip.fldGbiasArm (c : Chip) : Chip := c.remoteArm 2 0x1C07 0 (c.shadow 0x1C07 1) Chip.gbiasApply

/-- FLD_GBIAS_ARM (R118). -/
def execFldGbiasArm (s : State) : Host.Outcome State Fault Refusal := s.runHost Chip.fldGbiasArm

/-! ### Supplies (R100-R108, R139-R142) -/

/-- The keeper draws from VCAP when neither FVIN nor the cell supplies the rail, and the core then loses supply (R108, R139). -/
def Chip.supplyCheck (c : Chip) : Chip :=
  if c.power.fvinTaken || c.power.cellConnected then c
  else c.upPower (fun p => { p with coreSupplied := false, onVcapSeen := true })

/-- Battery hold ends (R106, R142). -/
def Chip.endBatHold (c : Chip) : Chip := if c.modes.batHold then c.leaveHold false else c

/-- The mode controller follows a change of FVIN (R129, R132): nothing without supply or in SHIP. -/
def Chip.fvinSettle (c : Chip) : Chip := if c.awake then c.settleOver else c

/-- FVIN is taken (R100, R142): the buck regulator supplies the load, battery hold ends, DUTY may follow. -/
def Chip.fvinTake (c : Chip) : Chip :=
  if c.power.fvinTaken then c
  else
    let c1 := (c.upPower (fun p => { p with fvinTaken := true, fvinPresent := true, fvinOv := false, vcapGood := true })).chargeEval
    if c1.awake then ((c1.postSignal 0x06 0x0D).endBatHold).fvinSettle else c1

/-- FVIN_TAKEN (R100). -/
def execFvinTaken (s : State) : Host.Outcome State Fault Refusal := s.runPower Chip.fvinTake

/-- FVIN is released (R100, R141): the cell supplies the load, or the core loses supply. -/
def Chip.fvinDrop (c : Chip) : Chip :=
  if !c.power.fvinTaken then c
  else
    let c1 := (c.upPower (fun p => { p with fvinTaken := false, chgTimedOut := false })).chargeEval.supplyCheck
    if c1.awake then (c1.postSignal 0x06 0x0D).fvinSettle else c1

/-- FVIN_RELEASE (R100). -/
def execFvinRelease (s : State) : Host.Outcome State Fault Refusal :=
  s.runPower (fun c => (c.upPower (fun p => { p with fvinPresent := false })).fvinDrop)

/-- FVIN_OV (R103): FVIN above its overvoltage threshold is released. -/
def execFvinOv (vbat fvin : Int) (s : State) : Host.Outcome State Fault Refusal :=
  s.runPower (fun c =>
    ((c.upPower (fun p => { p with fvinOv := true, fvinPresent := true })).fieldFault 0x0307 0 (ux 32 vbat) (ux 32 fvin) 0).fvinDrop)

/-- The cell is cut or removed (R105, R139, R525). -/
def Chip.cellCut (c : Chip) (vbat fvin : Int) : Chip :=
  if !c.power.cellConnected then c
  else
    let c1 := (c.upPower (fun p => { p with cellConnected := false, vbat := vbat.toNat })).supplyCheck
    let c2 := c1.fieldFault 0x0308 0 (ux 32 vbat) (ux 32 fvin) 0
    if c2.awake then c2.postSignal 0x06 0x0E else c2

/-- CELL_CUT (R105). -/
def execCellCut (vbat fvin : Int) (s : State) : Host.Outcome State Fault Refusal := s.runPower (fun c => c.cellCut vbat fvin)

/-- CELL_RECONNECT (R105, R111): VBAT is above 2.60 V. -/
def Chip.cellReconnect (c : Chip) : Chip :=
  if c.power.cellConnected then c
  else
    let c1 := (c.upPower (fun p => { p with cellConnected := true, cellReversed := false, vcapGood := true, vbat := max p.vbat 2600 })).chargeEval
    if c1.awake then c1.postSignal 0x06 0x0E else c1

/-- CELL_RECONNECT (R105). -/
def execCellReconnect (s : State) : Host.Outcome State Fault Refusal := s.runPower Chip.cellReconnect

/-- CELL_REVERSED (R107). -/
def execCellReversed (vbat fvin : Int) (s : State) : Host.Outcome State Fault Refusal :=
  s.runPower (fun c => ((c.upPower (fun p => { p with cellReversed := true })).chargeEval).fieldFault 0x0306 0 (ux 32 vbat) (ux 32 fvin) 0)

/-- BAT_HOLD (R106, R664): the radio's work ends with reason SUPPLY, and KEEPER follows. -/
def Chip.batHold (c : Chip) (vbat fvin : Int) : Chip :=
  if c.power.fvinTaken || c.modes.batHold || decide (c.mode = 7) then c
  else
    let c1 := (c.upPower (fun p => { p with vbat := vbat.toNat })).fieldFault 0x030F 0 (ux 32 vbat) (ux 32 fvin) 0
    (c1.abortRadio 8).enterHold false

/-- BAT_HOLD (R106). -/
def execBatHold (vbat fvin : Int) (s : State) : Host.Outcome State Fault Refusal := s.run (fun c => c.batHold vbat fvin)

/-- BAT_HOLD_END (R106). -/
def execBatHoldEnd (s : State) : Host.Outcome State Fault Refusal := s.run Chip.endBatHold

/-- BUCK_SAG (R859): FVIN is released as at its release threshold. -/
def execBuckSag (s : State) : Host.Outcome State Fault Refusal :=
  s.runPower (fun c => if c.power.fvinTaken then (c.fieldFault 0x030E 0 0 0 0).fvinDrop else c)

/-- SUPPLY_OUT (R858): a filtered comparison: 0 FVIN, 1 VBAT low, 2 VBAT high, 3 VIO high. -/
def execSupplyOut (which : Nat) (outside : Bool) (s : State) : Host.Outcome State Fault Refusal :=
  s.run (fun c => c.upTherm (fun t =>
    if which = 0 then { t with fvinOut := outside } else if which = 1 then { t with vbatLow := outside }
    else if which = 2 then { t with vbatHigh := outside } else if which = 3 then { t with vioHigh := outside } else t))

/-- CORE_RAIL_SCALING (R146): DVD1 follows the system rail: 0.74 V below 2.75 V, 0.80 V again above 2.80 V. -/
def execCoreRailScaling (railMv : Nat) (s : State) : Host.Outcome State Fault Refusal :=
  s.run (fun c => c.upTb (fun t => { t with coreLow := if railMv < 2750 then true else if 2800 < railMv then false else t.coreLow }))

end Sys2Proof.Machine
end

