-- ==== Sys2Proof/Machine/Slots.lean ====
section
/-! DEFINITION. Sequencer slots and burnish steps as the front end, the excitation and the burnish share them (09 R406-R431, R442,
10 R474-R478, R496, 11 R527): the fields of a slot, the path of a round, which slot or step runs, and which waits for which. -/

namespace Sys2Proof.Machine

/-! ### Slots (R420, R450) -/

/-- Sequencer of a modulator. -/
def Chip.seq (c : Chip) (m : Nat) : Sequencer := c.seqs.getD m {}

/-- A sequencer changed. -/
def Chip.upSeq (c : Chip) (m : Nat) (f : Sequencer → Sequencer) : Chip := { c with seqs := c.seqs.modify m f }

/-- A slot of the running set. -/
def Chip.slotWord (c : Chip) (m s : Nat) : Word := c.runW (0x1100 + 64 * m + s)

/-- POS. -/
def slotPos (w : Word) : Nat := fld w 4 0
/-- PAIR. -/
def slotPair (w : Word) : Bool := bit w 5
/-- GAIN. -/
def slotGain (w : Word) : Nat := fld w 8 6
/-- PRESET: 0 GLANCE, 1 TRACE, 2 STEADY, 3 STILL, 4 RAW. -/
def slotPreset (w : Word) : Nat := fld w 11 9
/-- REPEAT. -/
def slotRepeat (w : Word) : Nat := fld w 19 12
/-- The excitation channel the slot applies. -/
def slotExc (w : Word) : Option Nat := if bit w 22 then some (fld w 21 20) else none
/-- The channel read back at position 29 (R413). -/
def slotReadback (w : Word) : Option Nat := if slotPos w = 29 then some (fld w 21 20) else none
/-- AWL: 0 none, 1 source, 2 sink, 3 source then sink. -/
def slotAwl (w : Word) : Nat := fld w 24 23
/-- LINK: 0 NEXT, 1 END, 2 WRAP. -/
def slotLink (w : Word) : Nat := fld w 26 25

/-- Sample boundaries from a settling restart to the first settled sample, itself counted (R458, R465). -/
def settleCount (preset : Nat) : Nat := [27, 30, 30, 7, 1].getD preset 1

/-- Sample boundaries from the start of a slot to the first sample whose impulse response lies after its awl test of 200 µs, or
400 µs for AWL 3 (R458, R516, R519). -/
def awlCount (preset awl : Nat) : Nat :=
  if awl = 0 then settleCount preset
  else if awl = 3 then [47, 33, 31, 8, 104].getD preset 1
  else [37, 31, 31, 8, 53].getD preset 1

/-- Sample period of a preset in units of 1/768 000 s (R452). -/
def samplePeriod (preset : Nat) : Nat := [16, 128, 1024, 15360, 3].getD preset 0

/-- Length of a slot in those units, at its floor settling time. -/
def slotUnits (w : Word) : Nat :=
  (awlCount (slotPreset w) (slotAwl w) + slotRepeat w - 1) * samplePeriod (slotPreset w)

/-- The slots of a round from `s` along NEXT links; a path that leaves slot 63 by NEXT ends there. -/
def slotPath (word : Nat → Word) : Nat → Nat → List Nat
  | 0, _ => []
  | n + 1, s => if slotLink (word s) = 0 ∧ s < 63 then s :: slotPath word n (s + 1) else [s]

/-- The checks of R407 and R426 on a set, in the order of R426: 0 accepted, 2 INVALID, 3 PAIR, 4 AWL, 5 LINK, 6 RANGE. -/
def seqCheck (word : Nat → Word) (first period : Nat) : Nat :=
  let ws := (slotPath word 64 first).map word
  if ws.any (fun w => decide (4 < slotPreset w) || decide (slotLink w = 3) || decide (slotRepeat w = 0)) then 2
  else if ws.any (fun w => slotPair w && decide (16 ≤ slotPos w)) then 3
  else if ws.any (fun w => decide (slotAwl w ≠ 0) && decide (24 ≤ slotPos w)) then 4
  else if ws.getLast?.any (fun w => decide (slotLink w = 0)) then 5
  else if period ≠ 0 ∧ period * 12000 < (ws.map slotUnits).sum then 6
  else 0

/-- The slots of a modulator's round in the running set. -/
def Chip.path (c : Chip) (m : Nat) : List Nat := slotPath (c.slotWord m) 64 (c.seq m).first

/-- The running set of a modulator would pass its own check from a first slot (R880). -/
def Chip.seqUsable (c : Chip) (m first : Nat) : Bool := decide (seqCheck (c.slotWord m) first 0 = 0)

/-- The declared gap of an open sequence in units of 1/768 000 s: PERIOD minus the round (R477). -/
def Chip.declaredGap (c : Chip) (m : Nat) : Nat :=
  (c.seq m).period * 12000 - ((c.path m).map (fun s => slotUnits (c.slotWord m s))).sum

/-- The converter die runs its front end: the mode and the field die power it and its lane is not given up (R38, R39, R430, R449). -/
def Chip.converterOn (c : Chip) : Bool := cdPowered c.mode && !c.girth.convRefused && !c.silent 0 && !c.girth.fieldCut

/-- A slot is converting. -/
def Sequencer.converting (q : Sequencer) : Bool :=
  q.opened && q.round && !q.waiting && !q.stolen && !q.listening && !q.suspended

/-- The slot a modulator is converting. -/
def Chip.converting (c : Chip) (m : Nat) : Option Word :=
  let q := c.seq m
  if c.converterOn && q.converting then some (c.slotWord m q.slot) else none

/-! ### Burnish steps (R475, R477, R496, R507, R527) -/

/-- The modulator a step occupies. -/
def BurnishStep.mod : BurnishStep → Nat
  | .offset m _ => m
  | .gain m _ => m
  | .divider m _ _ => m
  | .excitation m _ _ _ => m

/-- The channel of an excitation step. -/
def BurnishStep.channel : BurnishStep → Option Nat
  | .excitation _ c _ _ => some c
  | _ => none

/-- The field input of a divider step. -/
def BurnishStep.input : BurnishStep → Option Nat
  | .divider _ i _ => some i
  | _ => none

/-- The next step of a modulator in the burnish under way. -/
def Chip.nextStep (c : Chip) (m : Nat) : Option BurnishStep := c.burnish.left.find? (fun s => s.mod == m)

/-- A modulator is free for a step: its sequence is closed, or it is in a declared gap of at least 80 ms, or a slot is stolen for
it (R477). -/
def Chip.stepPlace (c : Chip) (m : Nat) : Bool :=
  let q := c.seq m
  c.burnish.under && !c.burnish.committing && c.converterOn && !q.listening &&
    (!q.opened || (!q.round && decide (61440 ≤ c.declaredGap m)) || q.stolen)

/-- Gains in use on a modulator: those of the slots of its round, or gain 1 when it has none (R475). -/
def Chip.gainsInUse (c : Chip) (m : Nat) : List Nat :=
  let gs := (((c.path m).map (c.slotWord m)).filter (fun w => decide (slotRepeat w ≠ 0))).map slotGain
  let us := (List.range 8).filter (fun g => gs.contains g)
  if us.isEmpty then [0] else us

/-- The steps of one modulator under a SCOPE, the shared ones aside (R475): 0 OFFSET, 1 IN_USE, 2 FULL_MOD, 3 FULL. -/
def Chip.ownSteps (c : Chip) (scope m : Nat) : List BurnishStep :=
  if scope = 0 then (c.gainsInUse m).map (BurnishStep.offset m)
  else (if scope = 1 then c.gainsInUse m else List.range 8).flatMap (fun g => [BurnishStep.offset m g, BurnishStep.gain m g])

/-- A slot that converts uses what a step needs: its field input, or its excitation channel (R496, R527). -/
def slotMeetsStep (w : Word) (s : BurnishStep) : Bool :=
  s.input.any (fun i => decide (slotPos w = 16 + i)) ||
  s.channel.any (fun ch => decide (slotExc w = some ch) || decide (slotReadback w = some ch))

/-- Two steps need one field input or one excitation channel. -/
def stepsMeet (a b : BurnishStep) : Bool :=
  (a.input.isSome && decide (a.input = b.input)) || (a.channel.isSome && decide (a.channel = b.channel))

/-- The step that runs on a modulator: its next one, when it has a place, no converting slot and no step of a lower-numbered
modulator uses what it needs (R496, R527). -/
def Chip.runningStep (c : Chip) (m : Nat) : Option BurnishStep :=
  if c.stepPlace m then
    match c.nextStep m with
    | none => none
    | some s =>
      let slotIn := (List.range 4).any (fun k => (c.converting k).any (fun w => slotMeetsStep w s))
      let stepIn := (List.range m).any (fun k => c.stepPlace k && (c.nextStep k).any (fun t => stepsMeet t s))
      if slotIn || stepIn then none else some s
  else none

/-- A running step owns an excitation channel (R527): its point code and range. -/
def Chip.stepOn (c : Chip) (ch : Nat) : Option (Nat × Nat) :=
  (List.range 4).findSome? (fun m => match c.runningStep m with
    | some (.excitation _ k r p) => if k = ch then some (r, p) else none
    | _ => none)

/-! ### Slots that wait (R442, R496, R527) -/

/-- Two slots may not convert at the same time: one position, and one of them with an awl pulse (R442). -/
def slotsMeet (a b : Word) : Bool := decide (slotPos a = slotPos b) && (decide (slotAwl a ≠ 0) || decide (slotAwl b ≠ 0))

/-- What runs keeps a slot from starting. -/
def Chip.slotHeld (c : Chip) (m : Nat) (w : Word) : Bool :=
  (List.range 4).any (fun k => decide (k ≠ m) && (c.converting k).any (fun v => slotsMeet v w)) ||
  (List.range 4).any (fun k => (c.runningStep k).any (fun s => slotMeetsStep w s))

/-- A slot may start: nothing holds it, and no lower-numbered modulator's waiting slot became due with it (R442). -/
def Chip.slotFree (c : Chip) (m : Nat) (w : Word) : Bool :=
  !c.slotHeld m w &&
  !(List.range m).any (fun k =>
    let q := c.seq k
    let v := c.slotWord k q.slot
    q.waiting && slotsMeet v w && !c.slotHeld k v)

/-- An ARM of a remote unit with its own result field (R60, R450, R498, R533, R883, R885): discarded on a SILENT lane; a refused set
leaves the running set; an accepted one applies at once when the lane is LIVE and the unit is ready, and waits otherwise. -/
def Chip.unitArm (c : Chip) (l arm : Nat) (rf : Option (Nat × Nat × Nat)) (res : Nat) (ws : List (Nat × Word)) (ready : Bool)
    (apply : Chip → List (Nat × Word) → Chip) : Chip :=
  if c.silent l then c
  else
    let c1 := c.armLast arm res
    let c2 := match rf with
      | some (a, hi, lo) => c1.setFld a hi lo res
      | none => c1
    if res ≠ 0 then c2
    else if c2.live l && ready then apply (c2.dropArmed arm) ws
    else c2.holdSet arm ws

end Sys2Proof.Machine
end

