-- ==== Sys2Proof/Machine/Excitation.lean ====
section
/-! DEFINITION. Excitation channels, the monitor converter and the field die's pin checks (11 R499-R533). -/

namespace Sys2Proof.Machine

/-! ### Drive codes (R499-R503, R527) -/

/-- An excitation channel. -/
def Chip.excCh (c : Chip) (ch : Nat) : ExcChannel := c.exc.getD ch {}

/-- An excitation channel changed. -/
def Chip.upExc (c : Chip) (ch : Nat) (f : ExcChannel → ExcChannel) : Chip := { c with exc := c.exc.modify ch f }

/-- MODE in force: 0 OFF, 1 SLOT, 2 CONT. -/
def Chip.excMode (c : Chip) (ch : Nat) : Nat := c.runF (0x1800 + ch) 9 8

/-- RANGE in force; a step has its own. -/
def Chip.excRange (c : Chip) (ch : Nat) : Nat := match c.stepOn ch with
  | some (r, _) => r
  | none => c.runF (0x1800 + ch) 4 4

/-- The drive code before clamping (R500). -/
def excRaw (code : Nat) (corr : Int × Int) : Int := divRound ((code : Int) * corr.2 + corr.1 * 4194304) 1073741824

/-- The drive code of a channel, and whether it was clamped (R500); a step drives its point code with no correction (R507). -/
def Chip.excDrive (c : Chip) (ch : Nat) : Nat × Bool := match c.stepOn ch with
  | some (_, p) => (p, false)
  | none =>
    let d := excRaw (c.rf (0x1804 + ch) 15 0) (c.mon.excCorr.getD (2 * ch + c.excRange ch) (0, 1073741824))
    ((clampI 0 65535 d).toNat, decide (d < 0) || decide (65535 < d))

/-- The channel is to be driven (R503, R505, R527, R529, R530). -/
def Chip.excWanted (c : Chip) (ch : Nat) : Bool :=
  !(c.excCh ch).cut && c.converterOn && !c.girth.converterCut &&
    (decide (c.excMode ch = 2) || (c.stepOn ch).isSome ||
     (decide (c.excMode ch = 1) && (List.range 4).any (fun m => (c.converting m).any (fun w => decide (slotExc w = some ch)))))

/-- The channel against its new drive code: off, driven from Z without a hold, held over a major transition, or moved at once
(R501-R503, R530). -/
def Chip.excUpdate (c : Chip) (ch : Nat) : Chip :=
  let d := c.excDrive ch
  if c.excWanted ch then
    c.upExc ch (fun x =>
      if !x.driven then { x with driven := true, hold := false, drive := d.1, clamped := d.2 }
      else if x.hold then { x with clamped := d.2 }
      else if d.1 / 4096 = x.drive / 4096 then { x with drive := d.1, clamped := d.2 }
      else { x with hold := true, clamped := d.2 })
  else c.upExc ch (fun x => { x with driven := false, hold := false })

/-- Every channel follows the slots, steps and modes. -/
def Chip.excAll (c : Chip) : Chip := (List.range 4).foldl Chip.excUpdate c

/-! ### The first step of a burnish (R484, R494) -/

/-- The converter-die temperature as the low 16 bits of a record. -/
def temp16 (t : Int) : Nat := ux 16 t

/-- A BURNISH record (R484): phase 1 BEGIN, 2 DONE, 3 INTERRUPTED, 4 ABANDONED; reason; SEQ of the committed bank. -/
def Chip.burnishRecord (c : Chip) (agent phase reason seq : Nat) (temp : Int) : Chip :=
  c.journal agent 0x08 (phase * 2 ^ 56 + c.burnish.target * 2 ^ 48 + c.burnish.mask * 2 ^ 40 + reason * 2 ^ 32 + seq) (temp16 temp) false

/-- The first step of a burnish begins: the burnish-active bit, the BEGIN record, and the inactive banks of the masked chains held. -/
def Chip.burnishBegin (c : Chip) : Chip :=
  if c.burnish.under && !c.burnish.begun && (List.range 4).any (fun m => (c.runningStep m).isSome) then
    let t := c.therm.temps.getD 1 0
    let c1 := c.upBurnish (fun b => { b with active := true, begun := true, firstTemp := t, lastTemp := t })
    { c1.burnishRecord 0x03 1 0 0 t with
      chains := c1.chains.mapIdx (fun m x => if c1.burnish.mask.testBit m then { x with held := true } else x) }
  else c

/-- The excitation and a burnish that has not begun follow a change of what runs. -/
def Chip.frontSettle (c : Chip) : Chip := c.burnishBegin.excAll

/-- EXC_CODE_WRITE (R501, R502, R527): the code is stored, and a driven channel moves to it. -/
def Chip.excWrite (c : Chip) (ch code : Nat) : Chip := (c.setReg (0x1804 + ch) (wd (code % 65536))).excUpdate ch

/-- EXC_CODE_WRITE (R501): while the lane is not LIVE the write is refused (R55, R56). -/
def execExcCodeWrite (ch code : Nat) (s : State) : Host.Outcome State Fault Refusal :=
  s.runHost (fun c => if decide (ch < 4) && c.live 0 then c.excWrite ch code else c)

/-- EXC_CFGn applies (R505, R506): LOAD writes the preset as a code; a cut channel whose LIMIT has been cleared may be driven again. -/
def Chip.excApply (ch : Nat) (c : Chip) (ws : List (Nat × Word)) : Chip :=
  let c1 := c.applyWords ws
  let c2 := if c1.runB (0x1800 + ch) 24 then c1.setReg (0x1804 + ch) (wd (c1.runF (0x180C + ch) 15 0)) else c1
  let free := decide (c2.rf 0x1809 (4 * ch) (4 * ch) = 0)
  (c2.upExc ch (fun x => { x with cut := x.cut && !free })).excUpdate ch

/-- EXC_CFGn.ARM (R506, R532, R895): WINDOW, then MODE, then RANGE; it waits out a deglitch hold. -/
def Chip.excCfgArm (c : Chip) (ch : Nat) : Chip :=
  let w := c.reg (0x1800 + ch)
  let res := if fld w 23 16 = 0 ∨ 200 < fld w 23 16 then 6 else if fld w 9 8 = 3 then 2
    else if (c.excCh ch).driven = true ∧ fld w 4 4 ≠ c.runF (0x1800 + ch) 4 4 then 6 else 0
  c.unitArm 0 (0x1800 + ch) (some (0x1808, 31, 28)) res [(0x1800 + ch, w), (0x180C + ch, c.reg (0x180C + ch))] (!(c.excCh ch).hold)
    (Chip.excApply ch)

/-- EXC_CFG_ARM (R506). -/
def execExcCfgArm (ch : Nat) (s : State) : Host.Outcome State Fault Refusal := s.runHost (fun c => if ch < 4 then c.excCfgArm ch else c)

/-- The end of a deglitch hold (R502, R532): the output steps to the code written last, and a set held back applies. -/
def Chip.deglitchEnd (c : Chip) (ch : Nat) : Chip :=
  if (c.excCh ch).hold then
    let c1 := c.upExc ch (fun x => { x with hold := false, drive := (c.excDrive ch).1 })
    match c1.armedSet (0x1800 + ch) with
    | none => c1
    | some a => Chip.excApply ch (c1.dropArmed (0x1800 + ch)) a.words
  else c

/-- DEGLITCH_END (R502). -/
def execDeglitchEnd (ch : Nat) (s : State) : Host.Outcome State Fault Refusal := s.run (fun c => c.deglitchEnd ch)

/-! ### Faults (R505, R514, R525-R528) -/

/-- The output voltage in mV that R499 gives a drive code. -/
def excMv (drive range : Nat) : Nat := (divRound ((drive : Int) * 2500 * ((range : Int) + 1)) 65536).toNat

/-- The expected voltage of a channel. -/
def Chip.excExpected (c : Chip) (ch : Nat) : Nat := excMv (c.excCh ch).drive (c.excRange ch)

/-- A fault bit of EXC_FAULT is set, with its entry when it was clear: 1 LIMIT, 2 LOW, 3 HIGH (R525, R526). -/
def Chip.excFault (c : Chip) (ch kind mv : Nat) : Chip :=
  let b := 4 * ch + (kind - 1)
  if c.rf 0x1809 b b = 1 then c else (c.setBits 0x1809 (2 ^ b)).protect 0x05 0x0201 ch kind mv (c.excExpected ch)

/-- A channel that has been in current limit for its time is cut (R505). -/
def Chip.excCut (c : Chip) (ch mv : Nat) : Chip :=
  if (c.excCh ch).driven then
    (c.upExc ch (fun x => { x with driven := false, hold := false, cut := true })).excFault ch 1 mv
  else c

/-- EXC_CUT (R505). -/
def execExcCut (ch mv : Nat) (s : State) : Host.Outcome State Fault Refusal := s.run (fun c => if ch < 4 then c.excCut ch mv else c)

/-! ### Monitor converter (R511-R514) -/

/-- The window of a monitor input in mV, when it has one now (R511). -/
def Chip.monWindow (c : Chip) (i : Nat) : Option (Nat × Nat) :=
  if i < 4 then
    (if (c.excCh i).driven then
      let e := c.excExpected i
      let w := 5 * c.runF (0x1800 + i) 23 16
      some (e - w, e + w) else none)
  else match i with
    | 4 => some (2475, 2525)
    | 5 => some (4940, 5460)
    | 6 => some (1425, 1575)
    | 7 => some (700, 840)
    | 8 => some (710, 790)
    | 9 => some (1045, 1155)
    | 10 => some (1710, 1890)
    | 15 => if c.power.gbias then (if c.runB 0x1C07 1 then some (3135, 3465) else some (2850, 3150)) else none
    | _ => none

/-- A reading fails its window: 2 below, 3 above, as EXC_FAULT names it. -/
def Chip.monFails (c : Chip) (i mv : Nat) : Option Nat := match c.monWindow i with
  | some (lo, hi) => if mv < lo then some 2 else if hi < mv then some 3 else none
  | none => none

/-- One input of a scan (R512-R514). -/
def Chip.monInput (codes mvs : List Nat) (excluded : Nat) (c : Chip) (i : Nat) : Chip :=
  if c.runB 0x1901 i then
    let mv := mvs.getD i 0
    let c1 := c.setReg (0x1910 + i) (wd ((mv % 65536) * 65536 + codes.getD i 0 % 4096))
    let f := if excluded.testBit i then none else c1.monFails i mv
    let was := c1.mon.failed.getLsbD i
    let c2 := c1.upMon (fun m => { m with failed := if f.isSome then m.failed ||| BitVec.ofNat 16 (2 ^ i) else m.failed &&& ~~~(BitVec.ofNat 16 (2 ^ i)) })
    match f with
    | some kind =>
      if was then
        let c3 := if c2.rf 0x1902 i i = 1 then c2 else (c2.setBits 0x1902 (2 ^ i)).protect 0x05 0x0202 i mv 0 0
        if i < 4 then c3.excFault i kind mv else c3
      else c2
    | none => c2
  else c.upMon (fun m => { m with failed := m.failed &&& ~~~(BitVec.ofNat 16 (2 ^ i)) })

/-- A scan: every enabled input in order; VBAT gives the VBAT signal, VCAP its good level (R352, R353). -/
def Chip.monScan (c : Chip) (codes mvs : List Nat) (excluded : Nat) : Chip :=
  if c.converterOn && !c.girth.converterCut then
    let c1 := (List.range 16).foldl (Chip.monInput codes mvs excluded) c
    let c2 := if c1.runB 0x1901 12 then
        (c1.upPower (fun p => { p with vbat := mvs.getD 12 0 })).setSignal 0x05 0x17 (mvs.getD 12 0)
      else c1
    if c2.runB 0x1901 13 then c2.upPower (fun p => { p with vcapGood := decide (2800 ≤ mvs.getD 13 0) }) else c2
  else c

/-- MON_SCAN (R512, R514). -/
def execMonScan (codes mvs : List Nat) (excluded : Nat) (s : State) : Host.Outcome State Fault Refusal :=
  s.run (fun c => c.monScan codes mvs excluded)

/-- MON_CTL_ARM (R512): MON_CTL and MON_EN apply. -/
def Chip.monCtlArm (c : Chip) : Chip := c.unitArm 0 0x1900 none 0 (c.shadow 0x1900 2) true Chip.applyWords

/-- MON_CTL_ARM (R512). -/
def execMonCtlArm (s : State) : Host.Outcome State Fault Refusal := s.runHost Chip.monCtlArm

/-- CNV_AWL_CTL.ARM (R518): threshold sets and selections apply. -/
def Chip.awlCtlArm (c : Chip) : Chip := c.unitArm 0 0x130A (some (0x130A, 3, 0)) 0 (c.shadow 0x1300 10) true Chip.applyWords

/-- AWL_CTL_ARM (R518). -/
def execAwlCtlArm (s : State) : Host.Outcome State Fault Refusal := s.runHost Chip.awlCtlArm

/-! ### Field-die pin checks (R521-R524) -/

/-- FLD_PIN_CFG.ARM (R521-R524). -/
def Chip.fldPinArm (c : Chip) : Chip := c.unitArm 2 0x1C20 none 0 (c.shadow 0x1C20 1) true Chip.applyWords

/-- FLD_PIN_ARM (R521). -/
def execFldPinArm (s : State) : Host.Outcome State Fault Refusal := s.runHost Chip.fldPinArm

/-- FIGN_OPEN_CHECK (R522): the pin's voltage at the end of the source pulse. -/
def execFignOpenCheck (mv : Int) (s : State) : Host.Outcome State Fault Refusal :=
  s.run (fun c => if c.runB 0x1C20 1 && !c.fin.fign && decide (2000 < mv) then c.fieldFault 0x030B 0 0 0 0 else c)

/-- FIGN_SUSPECT (R523): FIGN has read 1 for 10 s while FVIN is below its take threshold. -/
def execFignSuspect (s : State) : Host.Outcome State Fault Refusal :=
  s.run (fun c => if c.fin.fign && !c.power.fvinPresent then c.fieldFault 0x030C 0 0 0 0 else c)

end Sys2Proof.Machine
end

