-- ==== Sys2Proof/Machine/FrontEnd.lean ====
section
/-! DEFINITION. The measurement front end (09) and the decimation chains (10 R451-R473): sequencers, rounds and slots, fine samples,
fast-path values and their ring entries, overload, awl tests, the run-signature classifier, field inputs and FIGN, coefficient banks. -/

namespace Sys2Proof.Machine

/-! ### Chains and corrections (R453, R454, R466-R473) -/

/-- A decimation chain. -/
def Chip.chain (c : Chip) (m : Nat) : Chain := c.chains.getD m {}

/-- A chain changed. -/
def Chip.upChain (c : Chip) (m : Nat) (f : Chain → Chain) : Chip := { c with chains := c.chains.modify m f }

/-- The active coefficient bank. -/
def Chain.active (x : Chain) : List Word := if x.activeB then x.bankB else x.bankA

/-- The inactive coefficient bank. -/
def Chain.inactive (x : Chain) : List Word := if x.activeB then x.bankA else x.bankB

/-- The inactive bank replaced. -/
def Chain.setInactive (x : Chain) (b : List Word) : Chain := if x.activeB then { x with bankA := b } else { x with bankB := b }

/-- A word of the active bank as a signed value. -/
def Chip.bankWord (c : Chip) (m i : Nat) : Int := ((c.chain m).active.getD i 0).toInt

/-- DIV in force of a field input: 0 1:1, 1 1:8, 2 1:32. -/
def Chip.finDiv (c : Chip) (i : Nat) : Nat := c.runF (0x1C10 + i) 15 14

/-- The calibration stage: offset and gain of the slot's GAIN, and for field inputs those of their DIV, rounded to nearest and
saturated to a code (R453, R454). -/
def Chip.corrected (c : Chip) (m : Nat) (w : Word) (x : Int) : Int :=
  let g := slotGain w
  let a := (x * 256 - c.bankWord m (72 + 2 * g)) * c.bankWord m (73 + 2 * g)
  let v := if 16 ≤ slotPos w ∧ slotPos w ≤ 23 then
      let k := 88 + 6 * (slotPos w - 16) + 2 * c.finDiv (slotPos w - 16)
      divRound ((a - c.bankWord m k * 1073741824) * c.bankWord m (k + 1)) (256 * 1073741824 * 1073741824)
    else divRound a (256 * 1073741824)
  clampI (-8388608) 8388607 v

/-- A sample word: VALUE and TAGS (R466, R467). -/
def sampleWord (code : Int) (tags : Nat) : Word := wd (ux 24 code * 256 + tags)

/-- An entry of rings 8-15 (R466). -/
def Chip.sampleEntry (c : Chip) (m : Nat) (eseq : BitVec 8) (index : Nat) (ss : List Word) : Entry :=
  let q := c.seq m
  let w := c.slotWord m q.slot
  [wd (q.slot * 2 ^ 26 + m * 2 ^ 24 + slotPos w * 2 ^ 19 + slotGain w * 2 ^ 16 + slotPreset w * 2 ^ 13 + ss.length * 2 ^ 10 + eseq.toNat),
   wd (q.rounds.toNat * 65536 + (index % 256) * 256), c.timeLo, c.timeHi, ew ss 0, ew ss 1, ew ss 2, ew ss 3]

/-- The entry being filled is produced (R468). -/
def Chip.flushEntry (c : Chip) (m : Nat) : Chip :=
  let q := c.seq m
  if q.samples.isEmpty then c
  else (c.produce 0x04 (8 + m) (c.sampleEntry m q.eseq q.firstIndex q.samples)).upSeq m
    (fun q => { q with samples := [], firstIndex := q.index, eseq := q.eseq + 1 })

/-- A fine sample is delivered; four fill an entry (R468). -/
def Chip.deliver (c : Chip) (m : Nat) (w : Word) : Chip :=
  let c1 := c.upSeq m (fun q => { q with samples := q.samples ++ [w], index := q.index + 1 })
  if 4 ≤ (c1.seq m).samples.length then c1.flushEntry m else c1

/-- The entry of a stolen slot (R469). -/
def Chip.stealEntry (c : Chip) (m : Nat) : Chip :=
  let q := c.seq m
  let tags := b2n (c.chain m).activeB * 64 + 8 + 1
  (c.produce 0x04 (8 + m) (c.sampleEntry m q.eseq 0 [sampleWord (-8388608) tags])).upSeq m (fun q => { q with eseq := q.eseq + 1 })

/-- The active and the inactive bank change places; a change of taps restarts settling (R471). -/
def Chip.swapBank (c : Chip) (m : Nat) : Chip :=
  let x := c.chain m
  let taps := decide (x.bankA.take 72 ≠ x.bankB.take 72)
  (c.upChain m (fun x => { x with activeB := !x.activeB, swapPending := false })).upSeq m
    (fun q => if taps then { q with sinceRestart := 0 } else q)

/-- A swap takes effect at the next sample boundary, or at once while the chain runs no slot (R472). -/
def Chip.requestSwap (c : Chip) (m : Nat) : Chip :=
  if (c.converting m).isSome then c.upChain m (fun x => { x with swapPending := true }) else c.swapBank m

/-! ### Slots and rounds (R421-R430, R434, R442, R456, R477, R478) -/

/-- The slot is skipped in the present mode (R425). -/
def Chip.slotSkipped (c : Chip) (w : Word) : Bool :=
  decide (2 ≤ c.mode) && decide (c.mode ≤ 4) && (decide (slotPreset w ≤ 1) || decide (slotPreset w = 4))

/-- A burnish steals the slot that would run now (R477, R478). -/
def Chip.stealDue (c : Chip) (m : Nat) : Bool :=
  let q := c.seq m
  let n := c.runF (0x1200 + m) 23 16
  c.burnish.under && !c.burnish.committing && c.burnish.mask.testBit m && (c.nextStep m).isSome && decide (c.declaredGap m < 61440) &&
    decide (n ≠ 0) && decide (q.stealRounds ≠ 0) && decide (q.stealRounds % n = 0) &&
    decide (q.slotIndex = q.steals % max 1 (c.path m).length)

/-- A slot runs (R421, R456): the modulator, PGA and chain are set, an awl pulse begins with it. -/
def Chip.runSlot (c : Chip) (m : Nat) : Chip :=
  let c0 := match c.armedSet (0x1200 + m) with
    | some a => if c.live 0 then (c.dropArmed (0x1200 + m)).applyWords a.words else c
    | none => c
  let w := c0.slotWord m (c0.seq m).slot
  c0.upSeq m (fun q => { q with
    waiting := false, stolen := false, taken := 0, sinceRestart := 0, index := 0, firstIndex := 0, samples := [], tbGap := 0, ovlSpan := 0,
    awl := decide (slotAwl w ≠ 0), awlSpan := if slotAwl w = 0 then 0 else awlCount (slotPreset w) (slotAwl w) - 1 })

/-- The sequence closes (R428, R429): the running OPEN reads 0. -/
def Chip.closeSeq (c : Chip) (m : Nat) : Chip :=
  (c.setRun (0x1000 + m) (putFld (c.runW (0x1000 + m)) 0 0 0)).upSeq m (fun q => { q with
    opened := false, round := false, gap := false, waiting := false, stolen := false, awl := false, due := 0, pendingOpen := none })

/-- The sequence opens with a first slot; its ROUND count starts again (R428, R466). -/
def Chip.openSeq (c : Chip) (m first : Nat) : Chip :=
  (c.setRun (0x1000 + m) (putFld (putFld (c.runW (0x1000 + m)) 13 8 first) 0 0 1)).upSeq m (fun q => { q with
    opened := true, first := first, rounds := 0xFFFF, due := 0, waiting := false, stolen := false, pendingOpen := none,
    suspended := !c.converterOn, round := false, gap := false })

/-- The steps left once the running set of a modulator has changed: those for gains no longer in use are dropped, and those for new
gains are added (R495). -/
def Chip.regain (c : Chip) (m : Nat) : Chip :=
  let scope := c.burnish.target % 4
  if c.burnish.under && c.burnish.mask.testBit m && decide (scope ≤ 1) then
    let own := (c.ownSteps scope m).filter (fun s => !c.burnish.done.any (fun d => decide (d.1 = s)))
    c.upBurnish (fun b => { b with left := b.left.filter (fun s => s.mod != m) ++ own })
  else c

/-- An accepted sequencer set becomes the running set (R427, R428, R495): it opens, closes or goes on. -/
def Chip.seqApply (m : Nat) (c : Chip) (ws : List (Nat × Word)) : Chip :=
  let was := (c.seq m).opened
  let c1 := (c.applyWords ws).upSeq m (fun q => { q with
    period := fld (mget 0 ws (0x1000 + m)) 27 16, first := fld (mget 0 ws (0x1000 + m)) 13 8 })
  let c2 := c1.regain m
  if c2.runB (0x1000 + m) 0 then (if was then c2 else c2.openSeq m (c2.seq m).first) else (if was then c2.closeSeq m else c2)

/-- An accepted set that waited for the end of the round. -/
def Chip.seqWaited (c : Chip) (m : Nat) : Chip := match c.armedSet (0x1000 + m) with
  | some a => if c.live 0 then Chip.seqApply m (c.dropArmed (0x1000 + m)) a.words else c
  | none => c

/-- A round begins at FIRST (R423, R466): its number, and the count of rounds toward a steal. -/
def Chip.newRound (c : Chip) (m : Nat) : Chip :=
  c.upSeq m (fun q => { q with
    round := true, gap := false, suspended := false, rounds := q.rounds + 1, slotIndex := 0, slot := q.first,
    stealRounds := if c.burnish.under && c.burnish.mask.testBit m then q.stealRounds + 1 else q.stealRounds })

/-- After the last slot of a round: a new round at once when one is due or PERIOD is 0, a declared gap otherwise (R423, R424, R427). -/
def Chip.endRound (c : Chip) (m : Nat) (close : Bool) : Chip × Option Nat :=
  let c0 := c.upSeq m (fun q => { q with round := false, gap := true })
  let c1 := (if close then c0.closeSeq m else c0).seqWaited m
  let q := c1.seq m
  if q.opened && !q.suspended && (close || decide (q.period = 0) || decide (q.due ≠ 0)) then
    let c2 := (c1.upSeq m (fun q => { q with due := q.due - 1 })).newRound m
    (c2, some (c2.seq m).slot)
  else (c1, none)

/-- Where the sequence goes after its present slot (R420, R429). -/
def Chip.leaveSlot (c : Chip) (m : Nat) : Chip × Option Nat :=
  let q := c.seq m
  let l := slotLink (c.slotWord m q.slot)
  if l = 0 ∧ q.slot < 63 then (c.upSeq m (fun q => { q with slotIndex := q.slotIndex + 1, slot := q.slot + 1 }), some (q.slot + 1))
  else c.endRound m (decide (l ≠ 2))

/-- The slot at which the sequence stands is begun: a listen window due on the modulator runs first, then a steal; a skipped preset is
passed over; a slot that must wait waits (R425, R434, R442, R448, R478). A sequence all of whose slots are skipped ends its round. -/
def Chip.enterSlot : Nat → Chip → Nat → Chip
  | 0, c, m => c.upSeq m (fun q => { q with round := false, gap := true })
  | n + 1, c, m =>
    let q := c.seq m
    let w := c.slotWord m q.slot
    if q.listening then c
    else if q.listenDue then c.upSeq m (fun q => { q with listenDue := false, listening := true })
    else if c.stealDue m then c.upSeq m (fun q => { q with stolen := true, waiting := false, steals := q.steals + 1, stealRounds := 0 })
    else if c.slotSkipped w then
      let p := (c.upSeq m (fun q => { q with skipped := satAdd 255 q.skipped 1, waiting := false })).leaveSlot m
      match p.2 with
      | none => p.1
      | some _ => Chip.enterSlot n p.1 m
    else if c.slotFree m w then c.runSlot m
    else c.upSeq m (fun q => { q with waiting := true })

/-- The sequence goes on after a slot has ended, and the excitation follows the slots that run (R422). -/
def Chip.goOn (c : Chip) (m : Nat) : Chip :=
  let p := c.leaveSlot m
  (match p.2 with
    | none => p.1
    | some _ => Chip.enterSlot 65 p.1 m).frontSettle

/-- A round begins. -/
def Chip.beginRound (c : Chip) (m : Nat) : Chip := (Chip.enterSlot 65 (c.newRound m) m).frontSettle

/-- A closed sequence that has opened begins its first round where the converter die runs. -/
def Chip.startSeq (c : Chip) (m : Nat) : Chip :=
  let q := c.seq m
  if q.opened && !q.round && !q.suspended && c.converterOn && decide (q.rounds = 0xFFFF) then c.beginRound m else c.frontSettle

/-- SEQ_ROUND_START (R423, R424): a start that finds its round still running is late and follows it. -/
def Chip.roundStart (c : Chip) (m : Nat) : Chip :=
  let q := c.seq m
  if !q.opened || q.suspended || !c.converterOn then c
  else if q.round then c.upSeq m (fun q => { q with late := satAdd 255 q.late 1, due := q.due + 1 })
  else c.beginRound m

/-- SEQ_ROUND_START (R423). -/
def execSeqRoundStart (m : Nat) (s : State) : Host.Outcome State Fault Refusal := s.run (fun c => if m < 4 then c.roundStart m else c)

/-- CNV_SEQ_CTLm.ARM (R426, R427). -/
def Chip.seqArm (c : Chip) (m : Nat) : Chip :=
  let w := c.reg (0x1000 + m)
  let res := seqCheck (fun s => c.reg (0x1100 + 64 * m + s)) (fld w 13 8) (fld w 27 16)
  let c1 := c.unitArm 0 (0x1000 + m) (some (0x1004 + m, 7, 4)) res (c.shadow (0x1000 + m) 1 ++ c.shadow (0x1100 + 64 * m) 64) (!(c.seq m).round)
    (Chip.seqApply m)
  c1.startSeq m

/-- SEQ_ARM (R426). -/
def execSeqArm (m : Nat) (s : State) : Host.Outcome State Fault Refusal := s.runHost (fun c => if m < 4 then c.seqArm m else c)

/-- The rule action SEQ_OPEN (R428, R445, R446): FIRST and OPEN in both sets; it applies at the next sample boundary, or at once while no
slot runs. -/
def Chip.seqOpen (c : Chip) (m first : Nat) : Chip :=
  let c1 := (c.setFld (0x1000 + m) 13 8 first).setFld (0x1000 + m) 0 0 1
  let c2 := c1.setRun (0x1000 + m) (putFld (putFld (c1.runW (0x1000 + m)) 13 8 first) 0 0 1)
  if (c2.converting m).isSome then c2.upSeq m (fun q => { q with pendingOpen := some (some first) })
  else (c2.openSeq m first).startSeq m

/-- The rule action SEQ_CLOSE (R428). -/
def Chip.seqClose (c : Chip) (m : Nat) : Chip :=
  let c1 := (c.setFld (0x1000 + m) 0 0 0).setRun (0x1000 + m) (putFld (c.runW (0x1000 + m)) 0 0 0)
  if (c1.converting m).isSome then c1.upSeq m (fun q => { q with pendingOpen := some none })
  else ((c1.closeSeq m).seqWaited m).startSeq m

/-! ### Field inputs (R415-R419, R444, R521) -/

/-- A field input is being converted. -/
def Chip.finConverted (c : Chip) (i : Nat) : Bool :=
  (List.range 4).any (fun m => (c.converting m).any (fun w => decide (slotPos w = 16 + i)))

/-- An accepted field-input set applies to every input that is not being converted; the rest waits for the end of the converting slot
(R444). -/
def Chip.finApply (c : Chip) (ws : List (Nat × Word)) : Chip :=
  let waits := fun (p : Nat × Word) => decide (0x1C10 ≤ p.1) && decide (p.1 < 0x1C18) && c.finConverted (p.1 - 0x1C10)
  let c1 := (c.dropArmed 0x1C18).applyWords (ws.filter (fun p => !waits p))
  let rest := ws.filter waits
  if rest.isEmpty then c1 else c1.holdSet 0x1C18 rest

/-- The field-input set that waits is tried again at the end of a slot. -/
def Chip.finWaited (c : Chip) : Chip := match c.armedSet 0x1C18 with
  | some a => if c.live 2 then c.finApply a.words else c
  | none => c

/-- A field-input set is refused (R416). -/
def finBad (w : Word) : Bool := decide (fld w 31 24 ≤ fld w 23 16) || decide (240 < fld w 31 24) || decide (fld w 15 14 = 3)

/-- FLD_FIN_CTL.ARM (R416). -/
def Chip.finCfgArm (c : Chip) : Chip :=
  c.unitArm 2 0x1C18 (some (0x1C19, 19, 16)) (if (List.range 8).any (fun i => finBad (c.reg (0x1C10 + i))) then 6 else 0)
    (c.shadow 0x1C10 9) true Chip.finApply

/-- FIN_CFG_ARM (R416). -/
def execFinCfgArm (s : State) : Host.Outcome State Fault Refusal := s.runHost Chip.finCfgArm

/-- A comparator sample of a field input (R415, R418): the state follows two agreeing samples. -/
def Chip.finSample (c : Chip) (i : Nat) (mv : Int) : Chip :=
  let w := c.runW (0x1C10 + i)
  if ffPowered c.mode && bit w 0 && decide (i < 8) then
    let st := c.fin.state.getLsbD i
    let hi := decide ((fld w 31 24 : Int) * 250 < mv)
    let lo := decide (mv < (fld w 23 16 : Int) * 250)
    let differs := if st then lo else hi
    let b := BitVec.ofNat 8 (2 ^ i)
    if differs && c.fin.lastDiffers.getLsbD i then
      let c1 := (c.upFin (fun f => { f with state := f.state ^^^ b, lastDiffers := f.lastDiffers &&& ~~~b })).setBits 0x1C1A (2 ^ i)
      if c1.silent 2 then c1
      else (c1.event 0x06 (if st then 0x06 else 0x05) i 0).setSignal 0x06 (0x02 + i) (b2n (!st))
    else c.upFin (fun f => { f with lastDiffers := if differs then f.lastDiffers ||| b else f.lastDiffers &&& ~~~b })
  else c

/-- FIN_SAMPLE (R415). -/
def execFinSample (input : Nat) (mv : Int) (s : State) : Host.Outcome State Fault Refusal := s.run (fun c => c.finSample input mv)

/-- A sample of FIGN (R419): 1 above 5.0 V, 0 below 3.0 V, after two agreeing samples; the change is a keeper event. -/
def Chip.fignSample (c : Chip) (mv : Int) : Chip :=
  let st := c.fin.fign
  let differs := if st then decide (mv < 3000) else decide (5000 < mv)
  if differs && c.fin.fignDiffers then
    let c1 := (c.upFin (fun f => { f with fign := !st, fignDiffers := false })).setBits 0x1C1A 256
    (c1.keeperEvent 0x0400 0x06 (0x0400 + b2n st) 0).setSignal 0x06 0x01 (b2n (!st))
  else c.upFin (fun f => { f with fignDiffers := differs })

/-- FIGN_SAMPLE (R419). -/
def execFignSample (mv : Int) (s : State) : Host.Outcome State Fault Refusal := s.run (fun c => c.fignSample mv)

/-- The converted voltage of a field-input code at the pin, in mV (R406, R414, R453). -/
def finMv (code : Int) (gain div : Nat) : Int := divRound (code * 5000 * ([1, 8, 32].getD div 1 : Nat)) (4194304 * 2 ^ gain)

/-- Every settled sample of a field input against its comparator state (R521). -/
def Chip.finMismatch (c : Chip) (w : Word) (code : Int) : Chip :=
  if 16 ≤ slotPos w ∧ slotPos w ≤ 23 ∧ c.runB 0x1C20 0 = true then
    let i := slotPos w - 16
    let f := c.runW (0x1C10 + i)
    let mv := finMv code (slotGain w) (c.finDiv i)
    let margin := c.runF 0x1C20 15 8
    let st := c.fin.state.getLsbD i
    if (if st then decide (mv < ((fld f 23 16 : Int) - margin) * 250) else decide (((fld f 31 24 : Int) + margin) * 250 < mv)) then
      c.fieldFault 0x030D i i (ux 32 mv) (b2n st)
    else c
  else c

/-! ### Fine samples and fast path (R354, R410, R453-R469, R519) -/

/-- WATCH values of a settled sample (R354): shifted right, saturated to 16 bits; a change is announced (R353). -/
def Chip.watchStep (m slot : Nat) (code : Int) (c : Chip) (i : Nat) : Chip :=
  let w := c.rules.watchSrc.getD i 0
  if fld w 7 6 = m ∧ fld w 5 0 = slot then
    let v := clampI (-32768) 32767 (code / (2 ^ fld w 12 8 : Nat))
    if c.rules.watchVal.getD i 0 = v then c
    else (c.upRules (fun r => { r with watchVal := r.watchVal.set i v })).postSignal 0x04 (0x40 + i)
  else c

/-- A sample of the converting slot (R460, R461, R466-R468, R519). -/
def Chip.takeSample (c : Chip) (m : Nat) (x : Int) (sat : Bool) : Chip :=
  let q := c.seq m
  let w := c.slotWord m q.slot
  let raw := decide (slotPreset w = 4)
  let n := settleCount (slotPreset w)
  let settled := decide (n ≤ q.sinceRestart + 1)
  let counted := settled && decide (q.awlSpan = 0)
  let last := counted && decide (slotRepeat w ≤ q.taken + 1)
  let code := if raw then sx 24 (ux 24 x) else c.corrected m w x
  let tags := b2n ((c.chain m).activeB && !raw) * 64 + b2n settled * 32 + b2n (decide (q.tbGap ≠ 0)) * 16 +
    b2n (sat || decide (q.ovlSpan ≠ 0)) * 4 + b2n (decide (q.awlSpan ≠ 0)) * 2 + b2n last
  let c1 := c.upSeq m (fun q => { q with
    sinceRestart := q.sinceRestart + 1, taken := q.taken + b2n counted, awlSpan := q.awlSpan - 1, tbGap := q.tbGap - 1,
    ovlSpan := if sat then n - 1 else q.ovlSpan - 1 })
  let c2 := if sat then c1.setBits (0x1208 + m) 4 else c1
  let c3 := if counted || c.runB (0x1200 + m) 8 then c2.deliver m (sampleWord code tags) else c2
  let c4 := if counted then ((List.range 8).foldl (Chip.watchStep m q.slot code) c3).finMismatch w code else c3
  if last then ((c4.flushEntry m).goOn m).finWaited else c4

/-- What waits for a sample boundary of a chain: a swap, and an open or close outside an awl test (R428, R445, R446, R471). -/
def Chip.atBoundary (c : Chip) (m : Nat) : Chip :=
  let c1 := if (c.chain m).swapPending then c.swapBank m else c
  if (c1.seq m).awl then c1
  else match (c1.seq m).pendingOpen with
    | none => c1
    | some o =>
      let c2 := ((c1.flushEntry m).upSeq m (fun q => { q with pendingOpen := none, round := false }))
      ((match o with
        | some f => c2.openSeq m f
        | none => (c2.closeSeq m).seqWaited m).startSeq m).finWaited

/-- CHAIN_SAMPLE (R421, R453-R461): an output of a chain at its preset's rate. A waiting slot starts at such a boundary once it may
(R442). -/
def Chip.chainSample (c : Chip) (m : Nat) (x : Int) (sat : Bool) : Chip :=
  if !c.converterOn || decide (4 ≤ m) then c
  else if (c.converting m).isSome then (c.takeSample m x sat).atBoundary m
  else
    let c1 := c.atBoundary m
    if (c1.seq m).waiting then (Chip.enterSlot 65 c1 m).frontSettle else c1

/-- CHAIN_SAMPLE (R453). -/
def execChainSample (m : Nat) (x : Int) (sat : Bool) (s : State) : Host.Outcome State Fault Refusal := s.run (fun c => c.chainSample m x sat)

/-- The fast-path value of a slot, in bits [23:12] of its sample code (R462, R466, R467). -/
def Chip.fastValue (c : Chip) (m : Nat) (x : Int) : Chip :=
  match c.converting m with
  | none => c
  | some w =>
    let q := c.seq m
    let code := (c.corrected m w x) / 4096 * 4096
    let tags := 128 + b2n (c.chain m).activeB * 64 + b2n (decide (q.tbGap ≠ 0)) * 16
    (c.produce 0x04 (12 + m) (c.sampleEntry m q.fastEseq 0 [sampleWord code tags])).upSeq m (fun q => { q with fastEseq := q.fastEseq + 1 })

/-- FAST_PATH_VALUE (R462). -/
def execFastPathValue (m : Nat) (x : Int) (s : State) : Host.Outcome State Fault Refusal := s.run (fun c => if m < 4 then c.fastValue m x else c)

/-- An overload (R410): counted, announced, and settling restarts. -/
def Chip.overload (c : Chip) (m : Nat) : Chip :=
  match c.converting m with
  | none => c
  | some w =>
    let c1 := (c.setFld (0x1008 + m) 31 16 (satAdd 65535 (c.rf (0x1008 + m) 31 16) 1)).setBits (0x1008 + m) 1
    (c1.post0 0x04 5 0x0101 false m (slotPos w) 0 0).upSeq m
      (fun q => { q with sinceRestart := 0, ovlSpan := settleCount (slotPreset w) })

/-- MOD_OVERLOAD (R410). -/
def execModOverload (m : Nat) (s : State) : Host.Outcome State Fault Refusal := s.run (fun c => if m < 4 then c.overload m else c)

/-! ### Awl tests (R446, R516-R520) -/

/-- The class of an awl test by the thresholds OPEN, SHORT_D in mV and HIGH, LOW in 10 mV (R518): 1 NORMAL, 2 OPEN, 3 SHORT_GND,
4 SHORT_SUPPLY, 5 ONE_WAY. -/
def awlClass (awl : Nat) (opn short : Nat) (high low : Int) (v0 v1 v2 : Int) : Nat :=
  let d := v1 - v0
  let d2 := v2 - v0
  let a := if awl = 2 then decide (d ≤ -(opn : Int)) else decide ((opn : Int) ≤ d)
  let b := decide (d2 ≤ -(opn : Int))
  let small := decide (d.natAbs < short) && (decide (awl ≠ 3) || decide (d2.natAbs < short))
  if awl ≠ 3 ∧ a = true then 2
  else if awl = 3 ∧ a = true ∧ b = true then 2
  else if awl = 3 ∧ a ≠ b then 5
  else if small = true ∧ v0 ≤ low * 10 then 3
  else if small = true ∧ high * 10 ≤ v0 then 4
  else 1

/-- AWL_TEST_END (R517-R520): results, class, and the fault bit with its entry. -/
def Chip.awlEnd (c : Chip) (m : Nat) (v0 v1 v2 : Int) : Chip :=
  match c.converting m with
  | none => c
  | some w =>
    if (c.seq m).awl && !c.girth.converterCut then
      let p := slotPos w
      let k := c.runF (0x1308 + p / 16) (2 * (p % 16) + 1) (2 * (p % 16))
      let a := c.runW (0x1300 + 2 * k)
      let b := c.runW (0x1301 + 2 * k)
      let cls := awlClass (slotAwl w) (fld a 31 16) (fld a 15 0) (sx 16 (fld b 31 16)) (sx 16 (fld b 15 0)) v0 v1 v2
      let dv := clampI (-32768) 32767 (v1 - v0)
      let v := clampI (-32768) 32767 (divRound v0 10)
      let c1 := (c.setReg (0x1310 + p) (wd (ux 16 dv * 65536 + ux 16 v))).setFld (0x1328 + p / 8) (4 * (p % 8) + 3) (4 * (p % 8)) cls
      let c2 := c1.upSeq m (fun q => { q with awl := false })
      if cls = 1 ∨ c2.rf 0x132B p p = 1 then c2
      else (c2.setBits 0x132B (2 ^ p)).protect 0x04 0x0110 p cls (ux 32 (v1 - v0)) (ux 32 v)
    else c

/-- AWL_TEST_END (R517). -/
def execAwlTestEnd (m : Nat) (v0 v1 v2 : Int) (s : State) : Host.Outcome State Fault Refusal :=
  s.run (fun c => if m < 4 then c.awlEnd m v0 v1 v2 else c)

/-! ### Run-signature classifier (R433-R439, R447) -/

/-- RUN_LISTEN_WINDOW (R434): the window runs at the next slot boundary of its modulator, or at once. -/
def Chip.listenDue (c : Chip) : Chip :=
  if c.runB 0x1010 30 && c.converterOn then
    let m := c.runF 0x1010 29 28
    if (c.converting m).isSome || (c.seq m).stolen then c.upSeq m (fun q => { q with listenDue := true })
    else c.upSeq m (fun q => { q with listening := true, waiting := false })
  else c

/-- RUN_LISTEN_WINDOW (R434). -/
def execRunListenWindow (s : State) : Host.Outcome State Fault Refusal := s.run Chip.listenDue

/-- A window meets level 1 (R436). -/
def Chip.runLevel1 (c : Chip) (h : Nat × Nat × Nat) : Bool :=
  decide (c.runF 0x1012 15 0 ≤ h.2.1) && decide (c.runF 0x1011 15 0 ≤ h.1) && decide (h.1 ≤ c.runF 0x1011 31 16)

/-- The latest three windows of a history meet level 2 (R436). -/
def Chip.runLevel2 (c : Chip) (h : List (Nat × Nat × Nat)) : Bool :=
  let t := h.take 3
  let sum := (t.map (·.1)).sum
  decide (t.length = 3) && t.all (fun x => c.runLevel1 x && decide (27 * sum ≤ 90 * x.1) && decide (90 * x.1 ≤ 33 * sum))

/-- The highest level that the windows meet (R436). -/
def Chip.runLevel (c : Chip) (h : List (Nat × Nat × Nat)) : Nat :=
  let l3 := c.runLevel2 h &&
    (if c.runB 0x1010 18 then decide (c.runF 0x1012 31 16 ≤ (h.headD (0, 0, 0)).2.2)
     else (List.range 6).all (fun i => c.runLevel2 (h.drop i)))
  if l3 then 3 else if c.runLevel2 h then 2 else if h.head?.any c.runLevel1 then 1 else 0

/-- The confidence takes a level: the RUN signal, and RUN_ROSE or RUN_FELL for each level crossed (R438). -/
def Chip.setConf (c : Chip) (l : Nat) : Chip :=
  let old := c.runSig.conf
  if l = old then c
  else
    let c1 := (c.upRunSig (fun r => { r with conf := l })).setSignal 0x04 0x0C l
    if old < l then (List.range (l - old)).foldl (fun c i => c.event 0x04 0x09 (old + 1 + i) 0) c1
    else (List.range (old - l)).foldl (fun c i => c.event 0x04 0x0A (old - i) 0) c1

/-- A classified window (R435-R437). -/
def Chip.classify (c : Chip) (freq amp vib : Nat) : Chip :=
  let h := ((freq, amp, vib) :: c.runSig.history).take 8
  let l := c.runLevel h
  let old := c.runSig.conf
  let fails := if l < old then c.runSig.fails + 1 else 0
  let c1 := c.upRunSig (fun r => { r with freq := freq, amp := amp, vib := if c.runB 0x1010 18 then vib else r.vib, history := h,
                                          fails := if 2 ≤ fails then 0 else fails })
  if old < l then c1.setConf l else if 2 ≤ fails then c1.setConf l else c1

/-- An accepted run-signature set applies: the confidence history restarts at 0 (R447). -/
def Chip.runApply (c : Chip) (ws : List (Nat × Word)) : Chip :=
  ((c.applyWords ws).upRunSig (fun r => { r with history := [], fails := 0 })).setConf 0

/-- RUN_WINDOW_END (R435): the classifier reports, and the slots that waited follow. -/
def Chip.windowDone (c : Chip) (freq amp vib : Nat) : Chip :=
  let m := c.runF 0x1010 29 28
  if (c.seq m).listening then
    let c1 := (c.upSeq m (fun q => { q with listening := false })).classify freq amp vib
    let c2 := match c1.armedSet 0x1010 with
      | some a => if c1.live 0 then (c1.dropArmed 0x1010).runApply a.words else c1
      | none => c1
    if (c2.seq m).round then (Chip.enterSlot 65 c2 m).frontSettle else c2
  else c

/-- RUN_WINDOW_END (R435). -/
def execRunWindowEnd (freq amp vib : Nat) (s : State) : Host.Outcome State Fault Refusal := s.run (fun c => c.windowDone freq amp vib)

/-- CNV_RUN_CFG0.ARM (R439, R447). -/
def Chip.runCfgArm (c : Chip) : Chip :=
  let a := c.reg 0x1010
  let b := c.reg 0x1011
  let d := c.reg 0x1012
  let res := if fld b 15 0 < 200 ∨ 12000 < fld b 31 16 ∨ fld b 31 16 ≤ fld b 15 0 ∨ fld a 27 22 = 0 ∨ 60 < fld a 27 22 ∨
    fld d 15 0 = 0 ∨ 2000 < fld d 15 0 then 6 else 0
  c.unitArm 0 0x1010 (some (0x1015, 3, 0)) res (c.shadow 0x1010 3) (!c.seqs.any (fun q => q.listening)) Chip.runApply

/-- RUN_CFG_ARM (R439). -/
def execRunCfgArm (s : State) : Host.Outcome State Fault Refusal := s.runHost Chip.runCfgArm

/-! ### Filters and banks (R456, R472, R473, R494) -/

/-- A shift set exceeds 29 bits after some stage (R456). -/
def shiftBad (w : Word) : Bool :=
  (List.range 10).any (fun k => decide (29 + ((List.range (k + 1)).map (fun j => fld w (3 * j + 2) (3 * j))).sum < 22 + k))

/-- FLT_CTLm.ARM (R456): an accepted set applies at the start of the modulator's next slot. -/
def Chip.fltCtlArm (c : Chip) (m : Nat) : Chip :=
  let res := if c.rf (0x1200 + m) 23 16 = 0 then 2 else if shiftBad (c.reg (0x1204 + m)) then 6 else 0
  c.unitArm 0 (0x1200 + m) (some (0x1208 + m, 31, 28)) res (c.shadow (0x1200 + m) 1 ++ c.shadow (0x1204 + m) 1) false Chip.applyWords

/-- FLT_CTL_ARM (R456). -/
def execFltCtlArm (m : Nat) (s : State) : Host.Outcome State Fault Refusal := s.runHost (fun c => if m < 4 then c.fltCtlArm m else c)

/-- A write to FLT_SWAP (R472, R494). -/
def Chip.fltSwap (c : Chip) (mask : Nat) : Chip :=
  (List.range 4).foldl (fun c m =>
    if mask.testBit m then (if (c.chain m).held then c.setBits (0x1208 + m) 1 else c.requestSwap m) else c) c

/-- FLT_SWAP (R472): refused unless the lane is LIVE (R55, R56). -/
def execFltSwap (mask : Nat) (s : State) : Host.Outcome State Fault Refusal := s.runHost (fun c => if c.live 0 then c.fltSwap mask else c)

/-- BANK_SWAP (R471): the pending swap takes effect. -/
def execBankSwap (m : Nat) (s : State) : Host.Outcome State Fault Refusal :=
  s.run (fun c => if (c.chain m).swapPending then c.swapBank m else c)

/-- A write to FLT_BANK_DATA (R473, R494): stored in the inactive bank at the pointer, which advances. -/
def Chip.bankData (c : Chip) (w : Word) : Chip :=
  let m := c.rf 0x1210 9 8
  let i := c.rf 0x1210 7 0
  if (c.chain m).held ∨ 136 ≤ i then c.setBits (0x1208 + m) 2
  else (c.upChain m (fun x => x.setInactive (x.inactive.set i w))).setFld 0x1210 7 0 (i + 1)

/-- FLT_BANK_DATA (R473): refused unless the lane is LIVE (R55, R56). -/
def execFltBankData (w : Word) (s : State) : Host.Outcome State Fault Refusal := s.runHost (fun c => if c.live 0 then c.bankData w else c)

/-! ### Modes (R422, R430, R530, R901) -/

/-- The front end follows the mode: suspended sequences begin a new round at FIRST where the converter die is powered again, the
excitation follows (R430, R530). -/
def Chip.frontFollow (c : Chip) : Chip :=
  ((List.range 4).foldl (fun c m =>
    if (c.seq m).suspended && c.converterOn then c.beginRound m else c) c).frontSettle

/-- The samples already produced stand when a mode without the converter die is about to be entered (R430, R445). -/
def Chip.flushFor (c : Chip) : Chip :=
  match c.modes.transition with
  | some (m, _) => if cdPowered m then c else (List.range 4).foldl Chip.flushEntry c
  | none => c

/-- MODE_CHANGED (R901): the transition in progress completes. -/
def Chip.modeReached (c : Chip) : Chip :=
  match c.modes.transition with
  | some (m, _) => if c.lanesReady m then (c.flushFor.modeChanged).frontFollow else c
  | none => c

/-- MODE_CHANGED (R901). -/
def execModeChanged (s : State) : Host.Outcome State Fault Refusal := s.run Chip.modeReached

end Sys2Proof.Machine
end

