-- ==== Sys2Proof/Machine/Burnish.lean ====
section
/-! DEFINITION. Burnish (10 R474-R497, 11 R507-R510): requests, the steps and their results, the corrections they give, the calibration
bank, and the ways a burnish ends. -/

namespace Sys2Proof.Machine

/-! ### Corrections by calibration word (R486, R508) -/

/-- OFFSET and GAIN of calibration word `k`. -/
def calPair (cal : List Byte) (k : Nat) : Int × Int := (sx 32 (leAt cal (8 * k + 4) 4), sx 32 (leAt cal (8 * k) 4))

/-- The bytes of a calibration word. -/
def pairBytes (p : Int × Int) : List Byte := leBytes 4 (ux 32 p.2) ++ leBytes 4 (ux 32 p.1)

/-- Words 0-79 with one word replaced. -/
def setCal (cal : List Byte) (k : Nat) (p : Int × Int) : List Byte := cal.take (8 * k) ++ pairBytes p ++ cal.drop (8 * k + 8)

/-- An OFFSET or GAIN lies within the ranges of R482: ±16 384 codes and 0.98-1.02. -/
def calInRange (p : Int × Int) : Bool :=
  decide (-4194304 ≤ p.1) && decide (p.1 ≤ 4194304) && decide (1052266988 ≤ p.2) && decide (p.2 ≤ 1095216660)

/-- The words that hold corrections: modulators, field inputs, excitation and the monitor converter. -/
def calWords : List Nat := (List.range 65).map (· + 8)

/-- A calibration is within R482 in every word (R487, R488). -/
def calValid (cal : List Byte) : Bool := calWords.all (fun k => calInRange (calPair cal k))

/-- A quotient rounded to nearest, for a divisor of either sign; 0 for a divisor of 0. -/
def quotI (a b : Int) : Int := if b = 0 then 0 else if 0 < b then divRound a b.natAbs else divRound (-a) b.natAbs

/-- GAIN of a gain step: the difference between +0.8 and −0.8 of full scale, as read in 1/256 code (R453, R475). -/
def gainOf (value : Int) : Int := quotI (16 * 4194304 * 256 * 1073741824) (10 * value)

/-- OFFSET and GAIN of an excitation channel from its readings at two point codes (R499, R500, R508): position 29 reads half the pin's
voltage at gain 1, so that a drive code of range `r` reads 4096 · (r + 1) in units of 1/256 code. -/
def excPair (r p1 p2 : Nat) (v1 v2 : Int) : Int × Int :=
  (256 * (p1 : Int) - quotI (256 * v1 * ((p2 : Int) - p1)) (v2 - v1), quotI (((p2 : Int) - p1) * 4096 * ((r : Int) + 1) * 1073741824) (v2 - v1))

/-- The reading of an excitation step that has been run. -/
def Burnish.reading (b : Burnish) (ch r p : Nat) : Option (Int × Int) :=
  b.done.findSome? (fun d => match d.1 with
    | .excitation _ k r2 p2 => if k = ch ∧ r2 = r ∧ p2 = p then some d.2 else none
    | _ => none)

/-- The excitation results: word and corrections, for the channels and ranges both of whose points have been read; word 72 is fitted to
every excitation reading. -/
def Burnish.excResults (b : Burnish) : List (Nat × (Int × Int)) :=
  let pairs := (List.range 8).filterMap (fun k =>
    match b.reading (k / 2) (k % 2) 0x1000, b.reading (k / 2) (k % 2) 0xF000 with
    | some a, some z => some (64 + k, excPair (k % 2) 0x1000 0xF000 a.1 z.1)
    | _, _ => none)
  let reads := b.done.filterMap (fun d => if d.1.channel.isSome then some (d.2.2, d.2.1) else none)
  if reads.isEmpty then pairs else pairs ++ [(72, Config.monitorFit reads)]

/-- The corrections of one step other than an excitation step, over the words in use. -/
def stepResult (cal : List Byte) (d : BurnishStep × Int × Int) : Option (Nat × (Int × Int)) := match d.1 with
  | .offset m g => some (8 + 8 * m + g, d.2.1, (calPair cal (8 + 8 * m + g)).2)
  | .gain m g => some (8 + 8 * m + g, (calPair cal (8 + 8 * m + g)).1, gainOf d.2.1)
  | .divider _ i r => some (40 + 3 * i + r, d.2.2, d.2.1)
  | .excitation _ _ _ _ => none

/-- Results written over words 0-79. -/
def overlay (cal : List Byte) (ds : List (BurnishStep × Int × Int)) : List Byte :=
  ds.foldl (fun cal d => match stepResult cal d with
    | some (k, p) => setCal cal k p
    | none => cal) cal

/-- The corrections of the burnish: its results, and every other word as in use (R486). -/
def Chip.calResult (c : Chip) : List Byte :=
  c.burnish.excResults.foldl (fun cal r => setCal cal r.1 r.2) (overlay (padTo 640 0 c.burnish.calUse) c.burnish.done)

/-- The correction words 72-135 of a chain's bank (10 "Coefficient banks"). -/
def bankOfCal (cal : List Byte) (m : Nat) : List Word :=
  (List.range 8).flatMap (fun g => let p := calPair cal (8 + 8 * m + g); [wdI p.1, wdI p.2]) ++
  (List.range 24).flatMap (fun k => let p := calPair cal (40 + k); [wdI p.1, wdI p.2])

/-- The corrections in use as a chain's active bank holds them. -/
def Chip.calOfBank (c : Chip) (m : Nat) : List Byte :=
  let b := (c.chain m).active
  let at_ := fun (i : Nat) => leBytes 4 (b.getD (i + 1) 0).toNat ++ leBytes 4 (b.getD i 0).toNat
  let cal := padTo 640 0 c.burnish.calUse
  cal.take (8 * (8 + 8 * m)) ++ (List.range 8).flatMap (fun g => at_ (72 + 2 * g)) ++ (cal.drop (8 * (16 + 8 * m))).take (8 * (24 - 8 * m)) ++
    (List.range 24).flatMap (fun k => at_ (88 + 2 * k)) ++ cal.drop 512

/-- Excitation and monitor corrections taken into use; driven channels move to their new codes (R510). -/
def Chip.useExc (c : Chip) (rs : List (Nat × (Int × Int))) : Chip :=
  (rs.foldl (fun c r =>
    if r.1 = 72 then c.upMon (fun m => { m with monCorr := r.2 })
    else c.upMon (fun m => { m with excCorr := m.excCorr.set (r.1 - 64) r.2 })) c).excAll

/-- Every correction of a calibration taken into use by the excitation and the monitor converter. -/
def Chip.useExcCal (c : Chip) (cal : List Byte) : Chip :=
  c.useExc (((List.range 9).map (· + 64)).map (fun k => (k, calPair cal k)))

/-! ### Ends (R480-R485, R489-R492) -/

/-- The inactive banks held by the burnish are released. -/
def Chip.releaseBanks (c : Chip) : Chip := { c with chains := c.chains.map (fun x => { x with held := false }) }

/-- The counts toward steals start again (R477, R478). -/
def Sequencer.noSteals (q : Sequencer) : Sequencer := { q with steals := 0, stealRounds := 0 }

/-- A burnish ends: 2 DONE, 3 INTERRUPTED, 4 ABANDONED, with its reason (R484, R485). -/
def Chip.burnishEnd (c : Chip) (phase reason seq : Nat) : Chip :=
  if c.burnish.under then
    let c1 := (c.burnishRecord 0x03 phase reason seq c.burnish.lastTemp).releaseBanks
    let c2 := c1.upBurnish (fun b => { b with
      active := false, under := false, begun := false, committing := false, left := [], done := [], lastEnd := phase - 1 })
    let c3 := { c2 with seqs := c2.seqs.map Sequencer.noSteals }
    (c3.event 0x04 0x14 (if phase = 2 then 0 else 1) 0).excAll
  else c

/-- The burnish under way is interrupted: 2 LANE, 3 THERMAL (R491, R492). -/
def Chip.burnishInterrupt (c : Chip) (reason : Nat) : Chip := c.burnishEnd 3 reason 0

/-- The body of the calibration bank (R486). -/
def Chip.calBody (c : Chip) : List Byte :=
  leBytes 8 (c.keeper.sec.toNat % 2 ^ 32 * 2 ^ 32 + temp16 c.burnish.lastTemp) ++
  leBytes 8 (c.burnish.mask * 2 ^ 8 + c.burnish.target * 2 ^ 16) ++ leBytes 48 0 ++ c.calResult.drop 64

/-- The temperature at the end is within 10 degrees of that at the first step (R483). -/
def Chip.burnishWarm (c : Chip) (t : Int) : Bool := decide ((t - c.burnish.firstTemp).natAbs ≤ 160)

/-- The calibration commit of a burnish (R481, R483, R492): deferred by WARNING, when R483 is applied at its end; abandoned when the
converter die has changed by more than 10 °C since the first step. -/
def Chip.burnishCommit (c : Chip) : Chip :=
  let commit := (c.upBurnish (fun b => { b with committing := true })).requestCommit 4 1 c.calBody
  if c.therm.warning || c.therm.trip then commit.upTherm (fun t => { t with calHeld := true })
  else if c.burnishWarm c.burnish.lastTemp then commit
  else c.burnishEnd 4 5 0

/-- Once the commit word is written, every chain swaps to the new corrections (R481, R510). -/
def Chip.burnishCommitted (c : Chip) : Chip :=
  if c.burnish.committing then
    let cal := c.calResult
    let seq := match c.mram.current 4 with
      | some (_, bs) => (bankSeq bs).toNat
      | none => 0
    let c0 := (c.upBurnish (fun b => { b with calUse := cal, defaults := false, committing := false })).useExcCal cal
    let c1 := (List.range 4).foldl (fun c m =>
      (c.upChain m (fun x => x.setInactive (x.active.take 72 ++ bankOfCal cal m))).requestSwap m) c0
    if c1.burnish.left.isEmpty then c1.burnishEnd 2 0 seq else c1
  else c

/-- Without COMMIT, a modulator whose own steps are complete takes its results (R480). -/
def Chip.burnishSwap (c : Chip) (m : Nat) : Chip :=
  if c.burnish.left.any (fun s => s.mod == m) then c
  else
    let ds := c.burnish.done.filter (fun d => d.1.mod == m)
    let cal := overlay (c.calOfBank m) ds
    (c.upChain m (fun x => { (x.setInactive (x.active.take 72 ++ bankOfCal cal m)) with held := false })).requestSwap m

/-- A result outside R482. -/
def Chip.burnishOut (c : Chip) : Bool :=
  c.burnish.done.any (fun d => (stepResult (padTo 640 0 c.burnish.calUse) d).any (fun r => !calInRange r.2)) ||
  c.burnish.excResults.any (fun r => !calInRange r.2)

/-- After a step: the burnish is abandoned for a result out of range, goes on, or completes (R480-R483, R510). -/
def Chip.afterStep (c : Chip) (m : Nat) (exc : Bool) : Chip :=
  let commit := c.burnish.target.testBit 2
  if c.burnishOut then c.burnishEnd 4 4 0
  else
    let c1 := if commit then c else c.burnishSwap m
    let c2 := if exc && !commit && !c1.burnish.left.any (fun s => s.channel.isSome) then c1.useExc c1.burnish.excResults else c1
    if c2.burnish.left.isEmpty then (if commit then c2.burnishCommit else c2.burnishEnd 2 0 0) else c2

/-- BURNISH_STEP_END (R476, R469, R507): the step's result stands, and a stolen slot gives its entry. -/
def Chip.stepEnd (c0 : Chip) (m : Nat) (value mon temp : Int) : Chip :=
  match c0.runningStep m with
  | none => c0
  | some s =>
    let c := c0.burnishBegin
    let stolen := (c.seq m).stolen
    let first := c.burnish.done.isEmpty
    let c1 := c.upBurnish (fun b => { b with
      left := b.left.erase s, done := b.done ++ [(s, value, mon)], lastTemp := temp, firstTemp := if first then temp else b.firstTemp })
    let c2 := c1.afterStep m s.channel.isSome
    if stolen then ((c2.stealEntry m).upSeq m (fun q => { q with stolen := false })).goOn m else c2.frontSettle

/-- BURNISH_STEP_END (R476). -/
def execBurnishStepEnd (m : Nat) (value mon temp : Int) (s : State) : Host.Outcome State Fault Refusal :=
  s.run (fun c => if m < 4 then c.stepEnd m value mon temp else c)

/-! ### Requests (R474, R475, R479, R493, R509) -/

/-- The modulators of a mask. -/
def maskMods (mask : Nat) : List Nat := (List.range 4).filter (fun m => mask.testBit m)

/-- The steps of a request (R475): each masked modulator's own, then the divider and excitation steps dealt in turn, the steps of CONT
channels aside (R509). -/
def Chip.burnishSteps (c : Chip) (scope mask : Nat) : List BurnishStep :=
  let ms := maskMods mask
  let turn := fun (k : Nat) => ms.getD (k % max 1 ms.length) 0
  ms.flatMap (c.ownSteps scope) ++
  (if scope = 3 then
    (List.range 16).map (fun k => BurnishStep.divider (turn k) (k % 8) (1 + k / 8)) ++
    ((List.range 16).filter (fun k => decide (c.excMode (k % 4) ≠ 2))).map
      (fun k => BurnishStep.excitation (turn k) (k % 4) (k / 4 % 2) (if k < 8 then 0x1000 else 0xF000))
   else [])

/-- Two steps measure the same thing, on whatever modulator. -/
def sameStep (a b : BurnishStep) : Bool := match a, b with
  | .divider _ i r, .divider _ j q => decide (i = j ∧ r = q)
  | .excitation _ i r p, .excitation _ j q w => decide (i = j ∧ r = q ∧ p = w)
  | x, y => decide (x = y)

/-- The inactive banks of a mask's chains are held (R494). -/
def Chip.holdBanks (c : Chip) (mask : Nat) : Chip :=
  { c with chains := c.chains.mapIdx (fun m x => { x with held := x.held || mask.testBit m }) }

/-- A burnish request: the block, and CAL_STAT.REQ_RESULT: 0 accepted, 1 merged, 2 refused UNPOWERED, 3 refused invalid (R474, R479,
R493). -/
def Chip.burnishReq (c : Chip) (target mask : Nat) : Chip × Nat :=
  let res := fun (c : Chip) (r : Nat) => (c.upBurnish (fun b => { b with reqResult := r }), r)
  if mask % 16 = 0 ∨ 8 ≤ target then res c 3
  else if !c.converterOn || c.held then res c 2
  else if c.burnish.under then
    let mask2 := c.burnish.mask ||| mask % 16
    let scope := max (c.burnish.target % 4) (target % 4)
    let commit := c.burnish.target / 4 ||| target / 4
    let left := (c.burnishSteps scope mask2).filter (fun s => !c.burnish.done.any (fun d => sameStep d.1 s))
    let c1 := c.upBurnish (fun b => { b with mask := mask2, target := 4 * commit + scope, left := left })
    let c2 := if c1.burnish.begun then
        c1.holdBanks mask2 else c1
    res c2.frontSettle 1
  else
    let c1 := c.upBurnish (fun b => { b with
      under := true, target := target, mask := mask % 16, left := c.burnishSteps (target % 4) (mask % 16), done := [], begun := false,
      committing := false })
    res ({ c1 with seqs := c1.seqs.map Sequencer.noSteals }).frontSettle 0

/-- BURNISH_REQUEST (R474). -/
def execBurnishRequest (target mask : Nat) (s : State) : Host.Outcome State Fault Refusal :=
  s.runHost (fun c => (c.burnishReq target mask).1)

end Sys2Proof.Machine
end

