-- ==== Sys2Proof/Machine/RuleTable.lean ====
section
/-! DEFINITION. The rule table (08 R347-R350, R363-R365, R381): records, the checks of a rule and of the table, the dependency graph
and the load order. -/

namespace Sys2Proof.Machine

/-! ### Records (R347, R348) -/

/-- A rule record of 36 bytes. -/
def Rule.ofBytes (bs : List Byte) : Rule :=
  let ctl := leAt bs 0 1
  { en := ctl.testBit 0, condition := ctl.testBit 1, combineOr := ctl.testBit 2, journals := ctl.testBit 3,
    guard := leAt bs 1 1, event := leAt bs 2 2, hold := leAt bs 4 2, holdTimer := leAt bs 6 1,
    terms := (List.range 3).map (fun i => { signal := leAt bs (8 + 4 * i) 1, op := leAt bs (9 + 4 * i) 1, value := leAt bs (10 + 4 * i) 2 }),
    acts := (List.range 4).map (fun i => { code := leAt bs (20 + 4 * i) 1, target := leAt bs (21 + 4 * i) 1, value := leAt bs (22 + 4 * i) 2 }) }

/-- The fields that R348 makes zero are zero. -/
def ruleForm (bs : List Byte) : Bool := decide (leAt bs 0 1 < 16) && decide (leAt bs 7 1 = 0)

/-! ### Checks of one rule (R350, R351, R356, R366, R474) -/

/-- A signal of R351. -/
def validSignal (s : Nat) : Bool := (decide (1 ≤ s) && decide (s ≤ 0x17)) || (decide (0x20 ≤ s) && decide (s ≤ 0x8F))

/-- Lowest and highest index of an event class (R356, R248, R296, R714). -/
def eventRange (cls : Nat) : Option (Nat × Nat) :=
  match cls with
  | 0x01 => some (0, 63)
  | 0x02 => some (0, 15)
  | 0x03 => some (0, 15)
  | 0x04 => some (0, 1)
  | 0x05 => some (0, 7)
  | 0x06 => some (0, 7)
  | 0x07 => some (0, 3)
  | 0x08 => some (0, 0)
  | 0x09 => some (1, 3)
  | 0x0A => some (1, 3)
  | 0x0B => some (0, 1)
  | 0x0C => some (0, 1)
  | 0x0D => some (0, 3)
  | 0x0E => some (0, 7)
  | 0x0F => some (0, 15)
  | 0x10 => some (0, 15)
  | 0x11 => some (0, 255)
  | 0x12 => some (0, 7)
  | 0x13 => some (0, 0x13)
  | 0x14 => some (0, 1)
  | 0x15 => some (1, 6)
  | 0x16 => some (1, 15)
  | 0x17 => some (0, 7)
  | _ => none

/-- An EVENT of a rule; index 0xFF matches every index of its class (R356). -/
def validEvent (e : Nat) : Bool := (eventRange (e / 256)).any (fun r => decide (e % 256 = 0xFF) || (decide (r.1 ≤ e % 256) && decide (e % 256 ≤ r.2)))

/-- An action of R366 with the TARGET and VALUE its row gives it. -/
def validAct (a : RuleAct) : Bool :=
  let t := a.target
  let v := a.value
  match a.code with
  | 0x00 => true
  | 0x01 => decide (t ≤ 1)
  | 0x02 => decide (t ≤ 15)
  | 0x03 => decide (t ≤ 3) && decide (v ≤ 63)
  | 0x04 => decide (t ≤ 3) && decide (v = 0)
  | 0x05 => (decide (t ≤ 1) || (decide (0x10 ≤ t) && decide (t ≤ 0x17))) && decide (v ≤ 1)
  | 0x06 => decide (t ≤ 15)
  | 0x07 => decide (t ≤ 15)
  | 0x08 => decide (t = 0) && decide (v = 0 ∨ v = 1 ∨ v = 2 ∨ v = 5)
  | 0x09 => decide (t < 8) && decide (v % 16 ≠ 0)
  | 0x0A => decide (t = 0)
  | 0x0B => decide (t = 0)
  | 0x0C => decide (t ≤ 63) && decide (v % 16384 ≠ 0)
  | 0x0D => decide (t ≤ 63) && decide (v = 0)
  | 0x0E => decide (t ≤ 3) && (if t = 2 then decide (1 ≤ v) && decide (v ≤ 7) else decide (v = 0))
  | 0x0F => decide (t ≤ 7) && decide (v ≤ 1)
  | _ => false

/-- An enabled rule passes R348 and R350 on its own. -/
def ruleValid (r : Rule) : Bool :=
  !r.guard.testBit 0 && !r.guard.testBit 7 &&
  (if r.condition then decide (r.event = 0) && (if r.hold = 0 then decide (r.holdTimer = 0xFF) else decide (r.holdTimer < 64))
   else validEvent r.event && decide (r.hold = 0) && decide (r.holdTimer = 0xFF)) &&
  r.terms.all (fun t => decide (t.signal = 0) || (validSignal t.signal && decide (t.op ≤ 6))) && r.acts.all validAct

/-- The hold timer of an enabled condition rule. -/
def Rule.timer (r : Rule) : Option Nat := if r.en && r.condition && decide (r.hold ≠ 0) then some r.holdTimer else none

/-- The rules of a table with their numbers. -/
def numbered (rs : List Rule) : List (Nat × Rule) := rs.mapIdx (fun i r => (i, r))

/-- A hold timer shared with another rule, or named by a timer action (R350). -/
def timerClash (rs : List Rule) (n : Nat) (r : Rule) : Bool := match r.timer with
  | none => false
  | some t => (numbered rs).any (fun p => (decide (p.1 ≠ n) && decide (p.2.timer = some t)) ||
      (p.2.en && p.2.acts.any (fun a => decide (a.code = 0x0C ∨ a.code = 0x0D) && decide (a.target = t))))

/-- The lowest-numbered enabled rule that breaks R350. -/
def tableBad (rs : List Rule) : Option Nat :=
  ((numbered rs).find? (fun p => p.2.en && (!ruleValid p.2 || timerClash rs p.1 p.2))).map (·.1)

/-! ### Dependency graph (R363-R365) -/

/-- Events an action can produce: class, and index or any (R363, R366). -/
def actEvents (a : RuleAct) : List (Nat × Option Nat) :=
  if a.code = 0 then []
  else (0x16, some a.code) :: (match a.code with
    | 0x01 => [(0x0B, none), (0x02, none), (0x03, none), (0x0E, some 3)]
    | 0x02 => [(0x0C, none), (0x0E, some 4)]
    | 0x06 => [(0x0F, some a.target), (0x10, some a.target)]
    | 0x08 => [(0x0E, some a.value)]
    | 0x09 => [(0x14, none)]
    | 0x0E => (match a.target with
        | 0 => [(0x0D, some 1)]
        | 1 => [(0x0D, some 0)]
        | 2 => [(0x0D, some 2), (0x0D, some 3)]
        | _ => [(0x0D, some 3)]) ++ [(0x0E, some 6)]
    | _ => [])

/-- An action can change a signal; `mods` are the modulators of the WATCH sources (R363, R366). -/
def actChanges (mods : List Nat) (a : RuleAct) (sig : Nat) : Bool :=
  match a.code with
  | 0x03 => decide (0x40 ≤ sig) && decide (sig ≤ 0x47) && decide (mods.getD (sig - 0x40) 4 = a.target)
  | 0x04 => decide (0x40 ≤ sig) && decide (sig ≤ 0x47) && decide (mods.getD (sig - 0x40) 4 = a.target)
  | 0x06 => decide (sig = 0x30 + a.target)
  | 0x07 => decide (sig = 0x30 + a.target)
  | 0x0C => decide (sig = 0x50 + a.target)
  | 0x0D => decide (sig = 0x50 + a.target)
  | 0x0E => decide (sig = 0x10)
  | 0x0F => decide (sig = 0x48 + a.target)
  | _ => false

/-- An EVENT matches an event of a class and index. -/
def eventMatches (ev cls idx : Nat) : Bool := decide (ev / 256 = cls) && (decide (ev % 256 = 0xFF) || decide (ev % 256 = idx))

/-- An edge from one rule to another (R363). -/
def edge (mods : List Nat) (a b : Rule) : Bool :=
  a.acts.any (fun x =>
    (!b.condition && (actEvents x).any (fun e => match e.2 with
      | none => decide (b.event / 256 = e.1)
      | some i => eventMatches b.event e.1 i)) ||
    b.terms.any (fun t => decide (t.signal ≠ 0) && actChanges mods x t.signal))

/-- Each enabled rule with its predecessors. -/
def predecessors (mods : List Nat) (rs : List Rule) : List (Nat × List Nat) :=
  let es := (numbered rs).filter (fun p => p.2.en)
  es.map (fun b => (b.1, (es.filter (fun a => edge mods a.2 b.2)).map (·.1)))

/-- Rules placed in load order: among those whose predecessors are placed, the lowest number first; and those that cannot be placed
(R365). -/
def placeRules : Nat → List (Nat × List Nat) → List Nat → List Nat × List (Nat × List Nat)
  | 0, left, done => (done, left)
  | n + 1, left, done =>
    match left.find? (fun p => p.2.all (fun q => done.contains q)) with
    | none => (done, left)
    | some p => placeRules n (left.filter (fun x => x.1 != p.1)) (done ++ [p.1])

/-- The rules from which a set of rules is reached, after some rounds. -/
def backReach (g : List (Nat × List Nat)) : Nat → List Nat → List Nat
  | 0, s => s
  | n + 1, s =>
    let more := (g.filter (fun p => s.contains p.1)).flatMap (·.2)
    let s2 := s ++ (more.filter (fun x => !s.contains x)).eraseDups
    if s2.length = s.length then s else backReach g n s2

/-- A rule lies on a cycle. -/
def onCycle (g : List (Nat × List Nat)) (p : Nat × List Nat) : Bool := (backReach g 256 p.2).contains p.1

/-- The load order, or the lowest-numbered rule on a cycle (R365). -/
def loadOrder (mods : List Nat) (rs : List Rule) : List Nat × Option Nat :=
  let g := predecessors mods rs
  let p := placeRules g.length g []
  if p.2.isEmpty then (p.1, none) else (p.1, ((p.2.find? (onCycle g)).map (·.1)).or (p.2.head?.map (·.1)))

/-- Modulators of the WATCH sources. -/
def watchMods (src : List Word) : List Nat := src.map (fun w => fld w 7 6)

/-- The check of a whole table: 0 ACCEPTED, 3 CYCLE, 4 FORMAT, and the rule named (R365, R395, R396). -/
def tableCheck (mods : List Nat) (rs : List Rule) : Nat × Nat :=
  match tableBad rs with
  | some r => (4, r)
  | none => match (loadOrder mods rs).2 with
    | some r => (3, r)
    | none => (0, 0)

/-! ### The section (R347) -/

/-- The rule-table section keeps R347, R348 and R382, and its fields lie in their ranges. -/
def sectionForm (bs : List Byte) : Bool :=
  let n := leAt bs 6 2
  decide (leAt bs 0 4 = 0x4C425452) && decide (leAt bs 4 2 = 1) && decide (1 ≤ n) && decide (n ≤ 256) && decide (bs.length = 0x938 + 36 * n) &&
  decide (1 ≤ leAt bs 8 1) && decide (leAt bs 8 1 ≤ 15) && decide (10 ≤ leAt bs 9 2) && decide (leAt bs 9 2 ≤ 3600) && decide (leAt bs 11 1 ≤ 1) &&
  (slice bs 12 12).all (fun b => b == 0) &&
  (List.range 8).all (fun i => let w := wd (leAt bs (0x58 + 4 * i) 4); decide (w.toNat < 8192) && decide (fld w 12 8 ≤ 16)) &&
  (List.range 16).all (fun i => !fenceMalformed (slice bs (0x78 + 140 * i) 140)) &&
  (List.range n).all (fun i => ruleForm (slice bs (0x938 + 36 * i) 36))

/-- The rules of a section; those beyond RULE_COUNT are blank. -/
def sectionRules (bs : List Byte) : List Rule :=
  padTo 256 (Rule.ofBytes (List.replicate 36 0)) ((List.range (leAt bs 6 2)).map (fun i => Rule.ofBytes (slice bs (0x938 + 36 * i) 36)))

/-- The enables of a table as RULE_EN words. -/
def enableWord (rs : List Rule) (w : Nat) : Word :=
  wd (((List.range 32).map (fun b => b2n ((rs.getD (32 * w + b) {}).en) * 2 ^ b)).sum)

/-- A section that has passed its checks is loaded: rules and load order, theft settings, meter marks, watch sources and fences, with
their shadow words (R262, R274, R347, R396). -/
def Chip.loadTable (c : Chip) (bs : List Byte) : Chip :=
  let rs := sectionRules bs
  let src := (List.range 8).map (fun i => wd (leAt bs (0x58 + 4 * i) 4))
  let c1 := c.upRules (fun r => { r with
    rules := rs, order := (loadOrder (watchMods src) rs).1, fired := List.replicate 256 false,
    marks := (List.range 16).map (fun i => leAt bs (0x18 + 4 * i) 4), watchSrc := src,
    fences := (List.range 16).map (fun i => Fence.ofBytes (slice bs (0x78 + 140 * i) 140)), fenceState := List.replicate 16 .unknown,
    threshold := leAt bs 8 1, windowCfg := leAt bs 9 2, lapseArmed := decide (leAt bs 11 1 = 1), checked := true,
    checkResult := 0, checkRule := 0 })
  let c2 := (List.range 8).foldl (fun c i => (c.setReg (0x0C70 + i) (src.getD i 0)).setReg (0x0C08 + i) (enableWord rs i)) c1
  c2.setReg 0x0CC1 (wd (leAt bs 11 1 * 2 ^ 28 + leAt bs 9 2 * 2 ^ 16 + leAt bs 8 1))

end Sys2Proof.Machine
end

