-- ==== Sys2Proof/Machine/Rules.lean ====
section
/-! DEFINITION. The rule engine (08): signals, sweeps, actions, timers, live changes, and the posting of keeper events. -/

namespace Sys2Proof.Machine

/-! ### Signals (R349, R351, R352) -/

/-- Signals that compare as signed (R351). -/
def signedSignal (s : Nat) : Bool := decide (s = 0x16) || (decide (0x40 ≤ s) && decide (s ≤ 0x47))

/-- The hottest die temperature in degrees (R351). -/
def Chip.hotDegrees (c : Chip) : Int := (c.therm.temps.foldl (fun a b => if a < b then b else a) (c.therm.temps.headD 0)) / 16

/-- The present value of a signal (R351, R352). -/
def Chip.signal (c : Chip) (s : Nat) : Int :=
  let k := c.keeper
  if s = 0x01 then b2n c.fin.fign
  else if 0x02 ≤ s ∧ s ≤ 0x09 then b2n (c.fin.state.getLsbD (s - 2))
  else if s = 0x0A then loopState k.loop
  else if s = 0x0B then b2n k.wake
  else if s = 0x0C then c.runSig.conf
  else if s = 0x0D then b2n c.power.fvinTaken
  else if s = 0x0E then b2n c.power.cellConnected
  else if s = 0x0F then c.mode
  else if s = 0x10 then theftCode k.theft
  else if s = 0x11 then b2n k.valid
  else if s = 0x12 then c.sigVal 0x12
  else if s = 0x13 then (if c.track.solved then (min 65535 (c.sigVal 0x13) : Nat) else 0xFFFF)
  else if s = 0x14 then (if k.valid then k.calendar.hour else 0xFFFF)
  else if s = 0x15 then (if k.valid then k.calendar.weekday else 0xFFFF)
  else if s = 0x16 then c.hotDegrees
  else if s = 0x17 then c.power.vbat
  else if 0x20 ≤ s ∧ s ≤ 0x2F then (match c.rules.fenceState.getD (s - 0x20) .unknown with
    | .unknown => 0
    | .inside => 1
    | .outside => 2)
  else if 0x30 ≤ s ∧ s ≤ 0x3F then b2n (c.meter (s - 0x30)).running
  else if 0x40 ≤ s ∧ s ≤ 0x47 then c.rules.watchVal.getD (s - 0x40) 0
  else if 0x48 ≤ s ∧ s ≤ 0x4F then b2n (c.rules.flags.getLsbD (s - 0x48))
  else if 0x50 ≤ s ∧ s ≤ 0x8F then b2n (k.timers.getD (s - 0x50) {}).running
  else 0

/-- A comparison of R349: 0 EQ, 1 NE, 2 GE, 3 LE, 4 GT, 5 LT, 6 ANY-BIT. -/
def compareOp (op : Nat) (x v : Int) : Bool :=
  match op with
  | 0 => decide (x = v)
  | 1 => decide (x ≠ v)
  | 2 => decide (v ≤ x)
  | 3 => decide (x ≤ v)
  | 4 => decide (v < x)
  | 5 => decide (x < v)
  | _ => decide ((ux 16 x) &&& (ux 16 v) ≠ 0)

/-- A used term. -/
def Chip.termTrue (c : Chip) (t : Term) : Bool :=
  compareOp t.op (c.signal t.signal) (if signedSignal t.signal then sx 16 t.value else (t.value : Int))

/-- The term result of a rule: true without terms, otherwise AND or OR (R349). -/
def Chip.termResult (c : Chip) (r : Rule) : Bool :=
  let ts := r.terms.filter (fun t => decide (t.signal ≠ 0))
  if ts.isEmpty then true else if r.combineOr then ts.any c.termTrue else ts.all c.termTrue

/-! ### Timers and meters (R374-R377) -/

/-- A timer changed. -/
def Chip.upTimer (c : Chip) (t : Nat) (f : RuleTimer → RuleTimer) : Chip := c.upKeeper (fun k => { k with timers := k.timers.modify t f })

/-- A timer is loaded with a duration in 1/64 s and started; one further step makes up for the step under way (R374, R375). -/
def Chip.startTimer (c : Chip) (t d : Nat) : Chip :=
  let was := (c.keeper.timers.getD t {}).running
  let c1 := c.upTimer t (fun _ => { running := true, remain := d + 1 })
  if was then c1 else c1.postSignal 0x03 (0x50 + t)

/-- A timer is stopped without an expiry (R374). -/
def Chip.stopTimer (c : Chip) (t : Nat) : Chip :=
  if (c.keeper.timers.getD t {}).running then (c.upTimer t (fun _ => {})).postSignal 0x03 (0x50 + t) else c

/-- The duration of a TIMER_START value in 1/64 s (R366). -/
def timerSteps (v : Nat) : Nat := (v % 16384) * [1, 64, 7680, 691200].getD (v / 16384) 1

/-- METER_START with a credit in seconds: the block and the events it derives at once (R376, R377, R379). -/
def Chip.meterStart (c : Chip) (m credit : Nat) : Chip × List Nat :=
  let x := c.meter m
  if x.running || decide (x.count = meterCeil) then (c, [])
  else
    let n := min meterCeil (x.count + credit)
    let mark := c.rules.marks.getD m 0
    let marks := decide (mark ≠ 0) && !x.marked && decide (mark * 3600 ≤ n)
    let ceil := decide (n = meterCeil)
    let c1 := c.upMeter m (fun x => { x with running := !ceil, floor := x.count, count := n, marked := x.marked || marks })
    let c2 := if ceil then c1.commitHour m else c1.postSignal 0x03 (0x30 + m)
    (c2, (if marks then [0x0F00 + m] else []) ++ (if ceil then [0x1000 + m] else []))

/-- METER_STOP with a debit in seconds, never below the count at the latest start (R376, R377, R237). -/
def Chip.meterStop (c : Chip) (m debit : Nat) : Chip :=
  let x := c.meter m
  if x.running then
    (c.upMeter m (fun x => { x with running := false, count := max x.floor (x.count - debit), commitDue := true })).postSignal 0x03 (0x30 + m)
  else c

/-! ### Actions (R366-R373, R402, R403) -/

/-- What an action gives: the block, the refusal's reason and argument, and the events it derives at once. -/
structure ActResult where
  chip : Chip
  refused : Option (Nat × Nat) := none
  events : List Nat := []
  deriving DecidableEq, Repr

/-- Reason of a refused produce request: FULL, or UNPOWERED for a disabled ring (R301, R367). -/
def answerReason : Answer → Option (Nat × Nat)
  | .refusedFull => some (1, 0)
  | .unpowered => some (4, 0)
  | _ => none

/-- A converter action's refusal: LANE while the die is isolated, UNPOWERED where the mode does not power it (R367, R403, R449). -/
def Chip.converterRefusal (c : Chip) : Option (Nat × Nat) :=
  if c.silent 0 ∨ c.girth.convRefused = true then some (3, 0) else if !cdPowered c.mode || c.held then some (4, 0) else none

/-- A RULE record (R373): rule, action index, tag, triggering event code, and the values of TERM0-TERM2. -/
def Chip.ruleRecord (c : Chip) (n : Nat) (r : Rule) (idx tag ev : Nat) : Chip :=
  let v := fun (i : Nat) => let t := r.terms.getD i {}; if t.signal = 0 then 0 else ux 16 (c.signal t.signal)
  c.journal 0x03 0x06 (n * 2 ^ 56 + idx * 2 ^ 48 + tag * 2 ^ 32 + ev * 2 ^ 16) (v 0 * 2 ^ 32 + v 1 * 2 ^ 16 + v 2) false

/-- SET_OUTPUT on a GP pin (R98): OUT in both sets; the wake watch waits to be re-armed. -/
def Chip.setGp (c : Chip) (pin v : Nat) : Chip :=
  ((c.setFld (0x0080 + pin) 1 1 v).setRun (0x0080 + pin) (putFld (c.runW (0x0080 + pin)) 1 1 v)).upLands
    (fun l => { l with gpWatch := l.gpWatch &&& ~~~(BitVec.ofNat 8 (2 ^ pin)) })

/-- One action of a fired rule: rule number and record, action index, word 0 of the trigger, and the triggering event code. -/
def Chip.act (c : Chip) (n : Nat) (r : Rule) (idx : Nat) (a : RuleAct) (w0 : Word) (ev : Nat) : ActResult :=
  let t := a.target
  let v := a.value
  match a.code with
  | 0x01 => let p := c.requestFix t v .rule; { chip := p.1, refused := p.2 }
  | 0x02 => let p := c.sendReport 0x03 t n v; { chip := p.1, refused := p.2.map (fun x => (x, 0)) }
  | 0x03 => (match c.converterRefusal with
    | some x => { chip := c, refused := some x }
    | none => if c.seqUsable t v then { chip := c.seqOpen t v } else { chip := c, refused := some (4, 0) })
  | 0x04 => (match c.converterRefusal with
    | some x => { chip := c, refused := some x }
    | none => { chip := c.seqClose t })
  | 0x05 =>
    if t ≤ 1 then (if c.silent 2 ∨ c.girth.fieldRefused = true then { chip := c, refused := some (3, 0) } else { chip := c.setFout t v })
    else { chip := c.setGp (t - 0x10) v }
  | 0x06 => let p := c.meterStart t (if v % 2 = 1 then r.hold else 0); { chip := p.1, events := p.2 }
  | 0x07 => { chip := c.meterStop t (if v % 2 = 1 then r.hold else 0) }
  | 0x08 => let c1 := c.post0 0x03 2 0x0A10 false v n idx 0; { chip := c1, refused := answerReason c1.rings.answer }
  | 0x09 =>
    if c.silent 0 ∨ c.girth.convRefused = true then { chip := c, refused := some (3, 0) }
    else let p := c.burnishReq t v; { chip := p.1, refused := if 2 ≤ p.2 then some (4, 0) else none }
  | 0x0A => let c1 := (c.ruleRecord n r idx v ev).post3 1 n v w0.toNat 0; { chip := c1, refused := answerReason c1.rings.answer }
  | 0x0B => let c1 := c.post3 1 n v w0.toNat 0; { chip := c1, refused := answerReason c1.rings.answer }
  | 0x0C => { chip := c.startTimer t (timerSteps v) }
  | 0x0D => { chip := c.stopTimer t }
  | 0x0E => let p := c.theftRequest n t v w0.toNat
            { chip := p.1, refused := if p.2.1 then some (5, 0) else none, events := p.2.2.toList.map (fun s => 0x0D00 + s) }
  | 0x0F =>
    let was := c.rules.flags.getLsbD t
    let c1 := c.upRules (fun x => { x with flags := if v = 1 then x.flags ||| BitVec.ofNat 8 (2 ^ t) else x.flags &&& ~~~(BitVec.ofNat 8 (2 ^ t)) })
    { chip := if was = decide (v = 1) then c1 else c1.postSignal 0x03 (0x48 + t) }
  | _ => { chip := c }

/-- An action with its refusal reported: ACTION_REFUSED at once and a REFUSED entry; the remaining actions still run (R367). -/
def Chip.runAct (n : Nat) (r : Rule) (w0 : Word) (ev : Nat) (st : Chip × List Nat) (x : Nat × RuleAct) : Chip × List Nat :=
  if x.2.code = 0 then st
  else
    let res := st.1.act n r x.1 x.2 w0 ev
    match res.refused with
    | none => (res.chip, st.2 ++ res.events)
    | some (why, arg) => (res.chip.post3 2 n (x.2.code * 256 + why) w0.toNat arg, st.2 ++ res.events ++ [0x1600 + x.2.code])

/-- A rule fires: its RULE record when it journals, then its actions in order (R366, R373). -/
def Chip.fire (c : Chip) (derived : List Nat) (n : Nat) (r : Rule) (w0 : Word) (ev : Nat) : Chip × List Nat :=
  let c1 := if r.journals then c.ruleRecord n r 0xFF 0 ev else c
  (r.acts.mapIdx (fun i a => (i, a))).foldl (Chip.runAct n r w0 ev) (c1, derived)

/-! ### Sweeps (R355-R362, R398-R404) -/

/-- What a sweep is made for: word 0 and ARG of its entry, and the mode its guards test (R359). -/
structure Trigger where
  w0 : Word
  arg : Nat
  mode : Nat
  deriving DecidableEq, Repr

/-- KIND of a trigger. -/
def Trigger.kind (t : Trigger) : Nat := fld t.w0 31 24
/-- CODE of a trigger. -/
def Trigger.code (t : Trigger) : Nat := fld t.w0 15 0

/-- A condition rule is FIRED or ARMED (R358). -/
def Chip.setFired (c : Chip) (n : Nat) (b : Bool) : Chip := c.upRules (fun x => { x with fired := x.fired.set n b })

/-- An event rule in a sweep (R357). -/
def Chip.eventRule (t : Trigger) (st : Chip × List Nat) (n : Nat) (r : Rule) : Chip × List Nat :=
  if r.guard.testBit t.mode then
    match st.2.find? (fun e => eventMatches r.event (e / 256) (e % 256)) with
    | none => st
    | some e => if st.1.termResult r then st.1.fire st.2 n r t.w0 e else st
  else st

/-- A condition rule in a sweep (R358, R359, R404). -/
def Chip.conditionRule (t : Trigger) (st : Chip × List Nat) (n : Nat) (r : Rule) : Chip × List Nat :=
  let c := st.1
  if !c.termResult r then ((if r.hold ≠ 0 then c.stopTimer r.holdTimer else c).setFired n false, st.2)
  else if c.rules.fired.getD n false then st
  else
    let allowed := r.guard.testBit t.mode
    if r.hold = 0 then (if allowed then (c.setFired n true).fire st.2 n r t.w0 t.code else st)
    else
      let runs := (c.keeper.timers.getD r.holdTimer {}).running
      if decide (t.kind = 1) && decide (t.code = 0x0100 + r.holdTimer) && !runs && allowed then (c.setFired n true).fire st.2 n r t.w0 t.code
      else if runs then st
      else (c.startTimer r.holdTimer (64 * r.hold), st.2)

/-- One rule of a sweep; the target of a FIRE command runs its actions in place of its own evaluation (R355, R360). -/
def Chip.sweepRule (t : Trigger) (st : Chip × List Nat) (n : Nat) : Chip × List Nat :=
  let r := st.1.rules.rules.getD n {}
  if !r.en then st
  else if t.kind = 3 ∧ t.code = 1 ∧ t.arg = n then (if r.guard.testBit t.mode then st.1.fire st.2 n r t.w0 t.code else st)
  else if r.condition then Chip.conditionRule t st n r
  else Chip.eventRule t st n r

/-- One accepted set takes effect between two sweeps (R395-R397, R399). -/
def Chip.applySet (c : Chip) (s : RuleSet) : Chip :=
  let reorder := fun (c : Chip) => c.upRules (fun x => { x with order := (loadOrder (watchMods x.watchSrc) x.rules).1 })
  let halt := fun (c : Chip) (n : Nat) => match (c.rules.rules.getD n {}).timer with
    | some t => c.stopTimer t
    | none => c
  match s with
  | .edit n r => reorder ((halt c n).upRules (fun x => { x with rules := x.rules.set n r, fired := x.fired.set n false }))
  | .enables en =>
    let c1 := (List.range 256).foldl (fun c n => if (c.rules.rules.getD n {}).en = en.getD n false then c else (halt c n).setFired n false) c
    reorder (c1.upRules (fun x => { x with rules := x.rules.mapIdx (fun n r => { r with en := en.getD n false }) }))
  | .watch src => reorder (c.upRules (fun x => { x with watchSrc := src }))
  | .fence n f =>
    let was := c.rules.fenceState.getD n .unknown
    let c1 := c.upRules (fun x => { x with fences := x.fences.set n f, fenceState := x.fenceState.set n .unknown })
    if was = .unknown then c1 else c1.postSignal 0x03 (0x20 + n)
  | .theft th w l => c.upRules (fun x => { x with threshold := th, windowCfg := w, lapseArmed := l })

/-- Every accepted set takes effect, in order. -/
def Chip.applySets (c : Chip) : Chip :=
  c.rules.pendingSets.foldl Chip.applySet (c.upRules (fun x => { x with pendingSets := [] }))

/-- Sweeps run: the first mode has been reached, and the mode is neither SHIP nor STIRRUP (R361). -/
def Chip.sweeping (c : Chip) : Bool := c.started && decide (c.mode ≠ 0) && decide (c.mode ≠ 7) && decide (c.mode ≠ 0xF)

/-- The next ring-0 entry observed becomes its event on ring 2: PROTECTION gives PROTECTION of its ORIGIN, MODE gives MODE_ENTERED
(R356); it waits while ring 2 has no room. -/
def Chip.observeRule : Nat → Chip → Chip
  | 0, c => c
  | n + 1, c =>
    let o := c.rings.obsRule
    if c.behind o = 0 ∨ (c.ring 2).full = true then c
    else
      let e := c.entryAt ((c.ring 0).slot o.index)
      let c1 := { c with rings := { c.rings with obsRule := c.moved o (o.index + 1) } }
      let c2 := if entryClass e = 1 then c1.event (fld (ew e 0) 22 16) 0x13 (fld (ew e 0) 22 16) 0
        else if entryClass e = 3 then c1.event 0x01 0x0E (fld (ew e 4) 3 0) 0 else c1
      Chip.observeRule n c2

/-- An accepted theft clear takes effect in its entry's sweep (R394, R400): the events it derives. -/
def Chip.applyClear (c : Chip) (w0 : Word) : Chip × List Nat :=
  match c.rules.clearTo with
  | [] => (c, [])
  | st :: rest =>
    let c1 := c.upRules (fun x => { x with clearTo := rest })
    if c1.keeper.theft = .declared then (c1.theftChange 0xFF st 0 w0.toNat, [0x0D00 + theftCode st]) else (c1, [])

/-- One sweep for the entry at the head of ring 2 (R355-R360): the entry is consumed, what was accepted before applies first. -/
def Chip.sweepHead (c0 : Chip) : Chip :=
  let c := c0.applySets
  let r := c.ring 2
  if r.fill = 0 then c
  else
    let e := c.entryAt (r.slot r.tail)
    let t : Trigger := { w0 := ew e 0, arg := (ew e 1).toNat, mode := if c.held then 1 else c.mode }
    let c1 := c.consume 2 1
    let p := if t.kind = 3 ∧ t.code = 2 then c1.applyClear t.w0 else (c1, if t.kind = 1 then [t.code] else [])
    (c1.rules.order.foldl (Chip.sweepRule t) p).1

/-- KIND and CODE of the entry at the head of ring 2. -/
def Chip.headCommand (c : Chip) : Option Nat :=
  let r := c.ring 2
  let e := c.entryAt (r.slot r.tail)
  if r.fill ≠ 0 ∧ fld (ew e 0) 31 24 = 3 then some (fld (ew e 0) 15 0) else none

/-- RULE_SWEEP (R355-R360): ring 0 is observed, and the head of ring 2 is swept. -/
def Chip.ruleSweep (c : Chip) : Chip := if c.sweeping then (Chip.observeRule 64 c).sweepHead else c

/-- RULE_SWEEP (R360). -/
def execRuleSweep (s : State) : Host.Outcome State Fault Refusal := s.run Chip.ruleSweep

/-- RULE_FIRE (R355): the FIRE command at the head of ring 2. -/
def execRuleFire (s : State) : Host.Outcome State Fault Refusal :=
  s.run (fun c => if c.sweeping && decide (c.headCommand = some 1) then c.sweepHead else c)

/-- THEFT_CLEAR_APPLY (R394): the accepted clear at the head of ring 2. -/
def execTheftClearApply (s : State) : Host.Outcome State Fault Refusal :=
  s.run (fun c => if c.sweeping && decide (c.headCommand = some 2) then c.sweepHead else c)

/-- RULE_SET_APPLY (R395-R397): accepted sets take effect between two sweeps. -/
def execRuleSetApply (s : State) : Host.Outcome State Fault Refusal := s.run Chip.applySets

/-! ### Expiries and posts (R121, R362, R374) -/

/-- A timer whose duration has been counted stops and becomes pending (R362, R374). -/
def Chip.timerExpired (c : Chip) (t : Nat) : Chip :=
  let x := c.keeper.timers.getD t {}
  if decide (t < 64) && x.running && decide (x.remain = 0) then
    (c.upTimer t (fun _ => {})).keeperEvent (0x0100 + t) 0x02 (0x0100 + t) 0 |>.postSignal 0x02 (0x50 + t)
  else c

/-- RULE_TIMER_EXPIRED (R374). -/
def execRuleTimerExpired (timer : Nat) (s : State) : Host.Outcome State Fault Refusal := s.run (fun c => c.timerExpired timer)

/-- HOLD_TIMER_EXPIRED (R358): the hold timer of an enabled rule. -/
def execHoldTimerExpired (timer : Nat) (s : State) : Host.Outcome State Fault Refusal :=
  s.run (fun c => if c.rules.rules.any (fun r => decide (r.timer = some timer)) then c.timerExpired timer else c)

/-- KEEPER_EVENT_POST (R121, R362): the oldest pending source gets its ring-2 entry. -/
def Chip.postKeeper (c : Chip) : Chip :=
  if c.sweeping then
    match c.keeper.pending with
    | [] => c
    | p :: rest => (c.upKeeper (fun k => { k with pending := rest })).post2 p.origin 1 p.code p.arg.toNat
  else c

/-- KEEPER_EVENT_POST (R362). -/
def execKeeperEventPost (s : State) : Host.Outcome State Fault Refusal := s.run Chip.postKeeper

/-- RULE_HOST_EVT (R356, R405): a HOST_EVENT of an index. -/
def execRuleHostEvt (index : Nat) (s : State) : Host.Outcome State Fault Refusal :=
  s.runHost (fun c => c.event 0x0B 0x11 (index % 256) 0)

/-! ### Live changes (R380, R395-R399) -/

/-- The rules, and the modulators of the WATCH sources, once every accepted set has applied. -/
def Chip.projected (c : Chip) : List Rule × List Nat :=
  let x := c.rules.pendingSets.foldl (fun (p : List Rule × List Nat) s => match s with
    | .edit n r => (p.1.set n r, p.2)
    | .enables en => (p.1.mapIdx (fun n r => { r with en := en.getD n false }), p.2)
    | .watch src => (p.1, watchMods src)
    | _ => p) (c.rules.rules, watchMods c.rules.watchSrc)
  x

/-- The result of a check of the table is shown in RULE_CHECK (R365, R405). -/
def Chip.showCheck (c : Chip) (p : Nat × Nat) : Chip := c.upRules (fun x => { x with checkResult := p.1, checkRule := p.2 })

/-- An ARM of a rule-engine unit: its result, and the set that waits for the end of the sweep when it is accepted. -/
def Chip.ruleArm (c : Chip) (arm res : Nat) (own : Bool) (s : RuleSet) : Chip :=
  let c1 := c.armLast arm res
  let c2 := if own then c1.setFld arm 3 0 res else c1
  if res = 0 then c2.upRules (fun x => { x with pendingSets := x.pendingSets ++ [s] }) else c2

/-- RULE_EDIT_CTL.ARM (R395): the record in place of one rule, whose enable stays as RULE_EN holds it. -/
def Chip.ruleEditArm (c : Chip) : Chip :=
  let n := c.rf 0x0C20 7 0
  let bs := c.bufBytes 0x0C21 9
  let p := c.projected
  let r := { Rule.ofBytes bs with en := (p.1.getD n {}).en }
  let res := if ruleForm bs then tableCheck p.2 (p.1.set n r) else (4, n)
  (c.showCheck res).ruleArm 0x0C2A res.1 true (.edit n r)

/-- RULE_EDIT_ARM (R395). -/
def execRuleEditArm (s : State) : Host.Outcome State Fault Refusal := s.runHost Chip.ruleEditArm

/-- RULE_EN_CTL.ARM (R396). -/
def Chip.ruleEnArm (c : Chip) : Chip :=
  let en := (List.range 256).map (fun n => bit (c.reg (0x0C08 + n / 32)) (n % 32))
  let p := c.projected
  let res := tableCheck p.2 (p.1.mapIdx (fun n r => { r with en := en.getD n false }))
  (c.showCheck res).ruleArm 0x0C10 res.1 true (.enables en)

/-- RULE_EN_ARM (R396). -/
def execRuleEnArm (s : State) : Host.Outcome State Fault Refusal := s.runHost Chip.ruleEnArm

/-- RULE_METER_CTL.ARM (R380): a value above the ceiling is refused. -/
def Chip.ruleMeterArm (c : Chip) : Chip :=
  let v := (c.reg 0x0C62).toNat
  let res := if meterCeil < v then 5 else 0
  let c1 := (c.armLast 0x0C63 res).setFld 0x0C63 3 0 res
  if res = 0 then c1.upMeter (c.rf 0x0C61 3 0) (fun x => { x with pendingSet := some v }) else c1

/-- RULE_METER_ARM (R380). -/
def execRuleMeterArm (s : State) : Host.Outcome State Fault Refusal := s.runHost Chip.ruleMeterArm

/-- METER_SET_APPLY (R380): accepted values apply at the keeper second, and each is committed. -/
def Chip.meterSetApply (c : Chip) : Chip :=
  (List.range 16).foldl (fun c m => match (c.meter m).pendingSet with
    | none => c
    | some v => (c.upMeter m (fun x => { x with count := v, floor := min x.floor v, pendingSet := none })).commitHour m) c

/-- METER_SET_APPLY (R380). -/
def execMeterSetApply (s : State) : Host.Outcome State Fault Refusal := s.run Chip.meterSetApply

/-- RULE_FENCE_CTL.ARM (R382, R385). -/
def Chip.ruleFenceArm (c : Chip) : Chip :=
  let bs := c.bufBytes 0x0C81 35
  c.ruleArm 0x0CA4 (if fenceMalformed bs then 4 else 0) true (.fence (c.rf 0x0C80 3 0) (Fence.ofBytes bs))

/-- RULE_FENCE_ARM (R382). -/
def execRuleFenceArm (s : State) : Host.Outcome State Fault Refusal := s.runHost Chip.ruleFenceArm

/-- RULE_WATCH_CTL.ARM (R354, R397): SHIFT above 16 is refused, and so are sources that would close a cycle. -/
def Chip.ruleWatchArm (c : Chip) : Chip :=
  let src := (List.range 8).map (fun i => c.reg (0x0C70 + i))
  let res := if src.any (fun w => decide (16 < fld w 12 8)) then 2
    else if (loadOrder (watchMods src) c.projected.1).2.isSome then 3 else 0
  c.ruleArm 0x0C78 res false (.watch src)

/-- RULE_WATCH_ARM (R397). -/
def execRuleWatchArm (s : State) : Host.Outcome State Fault Refusal := s.runHost Chip.ruleWatchArm

/-- RULE_THEFT_CFG.ARM (R397, R405). -/
def Chip.ruleTheftCfgArm (c : Chip) : Chip :=
  let w := c.reg 0x0CC1
  c.ruleArm 0x0CC1 (if fld w 27 16 < 10 ∨ 3600 < fld w 27 16 ∨ fld w 3 0 = 0 then 2 else 0) false (.theft (fld w 3 0) (fld w 27 16) (bit w 28))

/-- RULE_THEFT_CFG_ARM (R397). -/
def execRuleTheftCfgArm (s : State) : Host.Outcome State Fault Refusal := s.runHost Chip.ruleTheftCfgArm

end Sys2Proof.Machine
end

