-- ==== Sys2Proof/Machine/Start.lean ====
section
/-! DEFINITION. Starts (06): what begins one, what it keeps and discards, the start record and its counting, a start that fails, the
stirrup start, STIRRUP and its beacon, and the recovery commands. The load that ends a start is START_LOAD. -/

namespace Sys2Proof.Machine

/-! ### What a start keeps (R250, R878-R881) -/

/-- The keeper domain over a start whose retention was kept: every timer stops (R374); what was accepted and not yet applied is dropped. -/
def Keeper.atStart (k : Keeper) : Keeper :=
  { k with timers := List.replicate 64 {}, calPending := none, lapse := false, lost := false, powered := true,
           meters := k.meters.map (fun m => { m with pendingSet := none }) }

/-- Keeper time begins again at 0, invalid (R120, R203, R204). -/
def Keeper.zeroTime (k : Keeper) : Keeper := { k with sec := 0, sub := 0, valid := false, tsrc := 0, slew := 0, slewPhase := 0, setSec := 0, qual := none }

/-- The newest valid record of a type in the journal. -/
def Mram.newestOfType (m : Mram) (type : Nat) : Option (List Byte) :=
  (newestOf (m.records.filter (fun p => recType p.2 == type))).map (fun p => p.2)

/-- A meter after a lapse: the counted seconds of its newest HOUR_COMMIT record, stopped (R239, R378). -/
def Mram.restoredMeter (m : Mram) (n : Nat) : Meter := match m.newestHour n with
  | some (_, b) => { count := leAt b 8 8 % 2 ^ 54, committed := leAt b 8 8 % 2 ^ 54 }
  | none => {}

/-- The theft state of a code. -/
def theftOf (n : Nat) : TheftState := if n = 3 then .declared else if n = 2 then .suspect else if n = 1 then .armed else .disarmed

/-- The keeper domain after a lapse (R204, R239, R391, R881): meters and theft state from the journal, everything else as at first power. -/
def Chip.lapsedKeeper (c : Chip) : Keeper :=
  let k : Keeper := { lapse := true, lost := false, powered := true, wake := c.keeper.wake, meters := (List.range 16).map c.mram.restoredMeter }
  match c.mram.newestOfType 7 with
  | none => { k with theftOpen := true }
  | some b =>
    let st := theftOf (leAt b 8 1 / 16)
    { k with theft := st, score := leAt b 10 2, theftNonce := wd (leAt b 16 4), theftJseq := recSeq b }

/-- The yard engine over a start: its keeper-held counters, replay windows and member table; a held number is membership (R688, R690,
R709, R710). After a lapse they are empty, and the lead assigns no number for LEASE rounds. -/
def Chip.yardAtStart (c : Chip) (lapse : Bool) : Yard :=
  let num := c.mram.keys.yard.number
  if lapse then { member := num.isSome, exhausted := c.yard.exhausted }
  else { counters := c.yard.counters, replay := c.yard.replay, members := c.yard.members, holdOff := c.yard.holdOff,
         exhausted := c.yard.exhausted, member := num.isSome }

/-- TBK stays proven: it was proven, has run since, and retention was kept (R158). -/
def Chip.tbkKept (c : Chip) (trigger : Nat) : Bool :=
  c.tb.tbkProven && !c.tb.tbkFailed && !c.keeper.lost && decide (trigger ≠ 2) && decide (c.mode ≠ 0)

/-- Timebases at a start: TBM is requested and tested (R157); the keeper domain stays on a proven TBK. -/
def Chip.tbAtStart (c : Chip) (trigger : Nat) : Timebases :=
  let kept := c.tbkKept trigger
  { tbkProven := kept, tbmTest := true, coreLow := c.tb.coreLow,
    domains := (List.replicate 4 ({} : Domain)).set 2 (if kept then c.tb.domains.getD 2 {} else {}) }

/-- The power path goes on over a start; FOUT and GBIAS are off, and the charger awaits its setting (R250, R879). -/
def Chip.powerAtStart (c : Chip) (trigger : Nat) : Power :=
  let p := c.power
  { coreSupplied := true, fvinTaken := p.fvinTaken, fvinPresent := p.fvinPresent, fvinOv := p.fvinOv, cellConnected := p.cellConnected,
    cellReversed := p.cellReversed, vcapGood := p.vcapGood, onVcapSeen := p.onVcapSeen && decide (trigger = 1), vbat := p.vbat,
    chg := .primary, chgTimedOut := p.chgTimedOut }

/-- Fault bits set while the core had no supply keep their value until their entries are written (R861). -/
def Chip.heldBits (c : Chip) : Chip :=
  (c.girth.heldProt.filter (fun h => h.afterStart)).foldl (fun c h => match faultBit h.code 0 with
    | some (r, _) => c.setBits r (2 ^ h.bit)
    | none => c) c

/-- Everything a start discards is at its reset value; the keeper domain, MRAM, the NOR, the power path and the lands go on (R250). -/
def Chip.afresh (c : Chip) (trigger : Nat) : Chip :=
  let lapse := c.keeper.lost
  let k := if lapse then c.lapsedKeeper else c.keeper.atStart
  let base := Chip.reset
  let new : Chip := { base with
    keeper := if trigger = 2 ∨ lapse = true then k.zeroTime else k,
    mram := { c.mram with newest := c.mram.scan, ueCount := 0, ceCount := 0, commits := [] },
    start := { trigger := trigger, uid := c.start.uid, freeCtr := c.start.freeCtr, countedWritten := c.start.countedWritten,
               supplyCycle := c.start.supplyCycle, useDefaults := c.start.useDefaults, useCalDefaults := c.start.useCalDefaults,
               record := c.start.record, keysBlank := !c.mram.keys.locked },
    girth := { lanes := List.replicate 4 .waking, heldProt := c.girth.heldProt },
    lands := { vioGood := c.lands.vioGood, gpIn := c.lands.gpIn },
    power := c.powerAtStart trigger,
    tb := c.tbAtStart trigger,
    yard := c.yardAtStart lapse,
    burnish := { active := c.burnish.active && !lapse },
    acq := { keep := match c.mram.current 5 with
      | some (b, bs) => Keep.ofBytes b bs
      | none => {} },
    host := { hsdo := c.host.hsdo },
    mem := { part := c.mem.part, nor := c.mem.nor, dirty := if lapse then none else c.mem.dirty,
             resetOwed := c.mem.resetOwed || c.mem.erase.isSome || c.mem.program.any (fun p => p.sent) },
    therm := { fvinOut := c.therm.fvinOut, vbatLow := c.therm.vbatLow, vbatHigh := c.therm.vbatHigh, vioHigh := c.therm.vioHigh,
               deferred := if lapse then [] else c.therm.deferred, peak := if lapse then 0 else c.therm.peak,
               peakDie := if lapse then 0 else c.therm.peakDie, peakSeen := !lapse && c.therm.peakSeen } }
  { (({ new with girth := c.girth }).heldBits) with girth := new.girth }

/-! ### Lapse and burnish found at a start (R239, R140, R489, R689) -/

/-- The consequences of a keeper lapse that a start records: the LAPSE record, KEEPER_LAPSE, and a new ERA while a number is held. -/
def Chip.lapseFound (c : Chip) : Chip :=
  let mask := (List.range 16).foldl (fun a n => if (c.mram.newestHour n).isSome then a + 2 ^ n else a) 0
  let c1 := (c.journal 0x0E 0x04 mask 0 true).upStart (fun s => { s with
    cause := 0x10, record := s.record.push (c.histWord 0x10 s.trigger false) })
  if c1.mram.keys.yard.number.isSome then c1.nextEra else c1

/-- TARGET and mask of a BURNISH record whose phase is BEGIN. -/
def burnishBeginRec (m : Mram) : Option (Nat × Nat) := match m.newestOfType 8 with
  | some b => if leAt b 15 1 = 1 then some (leAt b 14 1, leAt b 13 1 % 16) else none
  | none => none

/-- A burnish that a start cut short: BURNISH_INTERRUPTED, an INTERRUPTED record with reason START, and BURNISH 1 owed (R489). -/
def Chip.burnishFound (c : Chip) : Chip :=
  let b := burnishBeginRec c.mram
  if c.burnish.active || (c.keeper.lapse && b.isSome) then
    let t := b.getD (0, 0)
    let c1 := c.upBurnish (fun b => { b with active := false, owed := true, lastEnd := 2 })
    let c2 := c1.journal 0x0E 0x08 (3 * 2 ^ 56 + t.1 * 2 ^ 48 + t.2 * 2 ^ 40 + 1 * 2 ^ 32) 0 false
    c2.upStart (fun s => { s with cause := 0x11, record := s.record.push (c2.histWord 0x11 s.trigger false) })
  else c

/-! ### The start record at a start (R251, R252, R256, R258, R276, R278) -/

/-- The start record of MRAM, or a new one (R251). -/
def Mram.startRecord (m : Mram) : StartRec := match m.current 1 with
  | some (_, bs) => StartRec.ofBytes bs
  | none => {}

/-- The record read, an earlier start that never ended counted (R256), a supply cycle or a lapse ending STIRRUP (R278), and this start
entered. -/
def Chip.readRecord (c : Chip) : Chip :=
  let r0 := c.mram.startRecord
  let cycle := (c.start.supplyCycle || c.keeper.lapse) && decide (r0.state = 2)
  let r1 := if cycle then { r0 with unfinished := 0, state := 0 } else r0
  let r2 := if r1.state = 1 ∧ c.start.countedWritten = false then
      r1.push (({ c with start := { c.start with slot := 2, trial := false } }).histWord 0x0D r1.trigger true) else r1
  c.upStart (fun s => { s with
    record := { r2 with count := r2.count + 1, trigger := s.trigger, timeValid := c.keeper.valid, sec := c.keeper.sec.toNat },
    supplyCycle := false })

/-- The start counts itself as unfinished and commits the record (R252, R258); with three unfinished starts it is a stirrup start and
counts nothing (R276). -/
def Chip.countStart (c : Chip) : Chip :=
  let r := c.start.record
  if 3 ≤ r.unfinished then (c.upStart (fun s => { s with stirrupStart := true })).commitStart r
  else
    let trial := c.upd.present && decide (c.upd.record.state = 5) && decide (c.upd.record.trialStarts < 3)
    (c.upStart (fun s => { s with countedWritten := false })).commitStart
      { r with unfinished := if trial then r.unfinished else r.unfinished + 1, state := 1 }

/-- A start begins (R248-R252, R262): codes 1 POWER, 2 SHIP_EXIT, 3 NRST, 4 HOST, 5 RECOVERY, 6 RETRY. -/
def Chip.beginStart (c : Chip) (trigger : Nat) : Chip :=
  let lapse := c.keeper.lost
  let c1 := (((c.norCut).afresh trigger).readUpd).readRecord
  let c2 := if lapse then c1.lapseFound else c1
  c2.burnishFound.countStart

/-- A start or STIRRUP is under way: no first mode has been reached since the trigger. -/
def Chip.starting (c : Chip) : Bool := decide (c.start.phase = .dies)

/-- A cause ends a start (R255): the history entry with COUNTED 1, the remote dies powered down, KEEPER until the retry. -/
def Chip.startFail (c : Chip) (cause : Nat) : Chip :=
  let c1 := (c.recordCause cause true).upStart (fun s => { s with countedWritten := true, phase := .failed })
  (c1.upModes (fun m => { m with mode := 1 })).setLanes (List.replicate 4 .parked)

/-- A cause that arises during a start: it ends a normal start, and is recorded with COUNTED 0 in a stirrup start (R261, R276). -/
def Chip.startCause (c : Chip) (cause : Nat) : Chip :=
  if c.start.stirrupStart then c.recordCause cause false else c.startFail cause

/-! ### Triggers -/

/-- CORE_POWER_ON (R248): the core receives supply after having none, from FVIN or the cell. -/
def execCorePowerOn (s : State) : Host.Outcome State Fault Refusal :=
  s.runPower (fun c => if !c.power.coreSupplied && (c.power.fvinTaken || c.power.cellConnected) then c.beginStart 1 else c)

/-- SHIP_EXIT (R120, R132): WAKE above its threshold, or FVIN taken. -/
def execShipExit (fvin : Bool) (s : State) : Host.Outcome State Fault Refusal :=
  s.runPower (fun c => if c.power.coreSupplied && decide (c.mode = 0) then (if fvin then c.fvinTake else c).beginStart 2 else c)

/-- NRST_RESET (R74): ignored in SHIP. -/
def execNrstReset (s : State) : Host.Outcome State Fault Refusal := s.run (fun c => c.beginStart 3)

/-- A write to SYS_START_CMD (R249). -/
def Chip.startCmd (c : Chip) (key : Word) : Chip := if key = 0x53544152 then c.beginStart 4 else c

/-- SYS_START_CMD (R249). -/
def execSysStartCmd (key : Word) (s : State) : Host.Outcome State Fault Refusal := s.run (fun c => c.startCmd key)

/-- START_RETRY (R255, R821): 1.0 s after a failed start or a failed trial check. -/
def execStartRetry (s : State) : Host.Outcome State Fault Refusal :=
  s.run (fun c => if decide (c.start.phase = .failed) || c.start.retryDue then c.beginStart 6 else c)

/-- START_TIMEOUT (R254): 10 s have passed without the first mode; they do not run while a TRIP has stopped the start (R259). -/
def execStartTimeout (s : State) : Host.Outcome State Fault Refusal :=
  s.run (fun c => if c.starting && !c.start.stirrupStart then c.startFail 0x0D else c)

/-- SUPPLY_CYCLE (R278): recorded for the next start. -/
def execSupplyCycle (s : State) : Host.Outcome State Fault Refusal :=
  s.runPower (fun c => if c.power.fvinTaken then c else c.upStart (fun s => { s with supplyCycle := true }))

/-! ### STIRRUP (R276-R284) -/

/-- CAUSE of a history word. -/
def histCause (h : BitVec 64) : Nat := h.toNat / 2 ^ 56

/-- COUNTED of a history word. -/
def histCounted (h : BitVec 64) : Bool := h.getLsbD 44

/-- STIRRUP is entered (R276, R283, R744): STATE and STIRRUP_CAUSE are committed, the first challenge is drawn, and HOST_IRQ_STAT.START is
set. -/
def Chip.enterStirrup (c : Chip) : Chip :=
  let r := c.start.record
  let cause := ((r.hist.find? histCounted).map histCause).getD 0
  let c1 := c.commitStart { r with state := 2, stirrupCause := cause }
  let p := c1.draw
  let c2 := (p.1.upStart (fun s => { s with phase := .stirrup, nonce := p.2, beacons := 0, listening := false })).setBits 0x3C02 8
  (c2.upModes (fun m => { m with mode := 7, prev := 0xF, reason := .start })).postMode

/-- The beacon payload (R282); SLOT and TRIAL are those of the update state. -/
def Chip.beaconBytes (c : Chip) : List Byte :=
  let r := c.start.record
  let u := c.upd.record
  bytesOf [1] ++ leBytes 8 c.start.uid.toNat ++ bytesOf [r.stirrupCause, histCause (r.hist.getD 1 0), histCause (r.hist.getD 2 0),
    histCause (r.hist.getD 3 0),
    u.boot % 2 + 4 * b2n (decide (u.state = 5)) + 8 * b2n c.keeper.valid + 16 * b2n c.power.fvinTaken + 32 * b2n c.power.cellConnected,
    c.start.result, 0] ++ leBytes 4 c.start.nonce.toNat ++ leBytes 2 c.start.beacons.toNat ++ bytesOf [0, 0]

/-- A beacon may be sent: in STIRRUP, with a key store that names a region, and no lane failure that suppresses it (R280, R293, R38). -/
def Chip.mayBeacon (c : Chip) : Bool :=
  decide (c.mode = 7) && c.mram.keys.locked && decide (c.mram.keys.region = 1 ∨ c.mram.keys.region = 2) &&
    !c.girth.beaconRefused && !c.girth.fieldCut && !c.silent 1

/-- STIRRUP_BEACON (R279, R282-R284): a new challenge, the beacon, and the listen window after it. -/
def execStirrupBeacon (s : State) : Host.Outcome State Fault Refusal :=
  s.run (fun c => if c.mayBeacon then
      let p := c.draw
      let c1 := p.1.upStart (fun s => { s with nonce := p.2, beacons := s.beacons + 1, listening := true })
      c1.upStart (fun s => { s with beacon := c1.beaconBytes })
    else c)

/-- STIRRUP_LISTEN_END (R284). -/
def execStirrupListenEnd (s : State) : Host.Outcome State Fault Refusal :=
  s.run (fun c => c.upStart (fun s => { s with listening := false }))

/-! ### Recovery commands (R285-R288, R840) -/

/-- OPCODE and ARG are in the table: ARG names a slot for RESTART_SLOT and is 0 otherwise. -/
def recoveryOp (cmd : List Byte) : Bool :=
  let op := leAt cmd 2 1
  let arg := leAt cmd 3 1
  (decide (op = 2) && decide (arg ≤ 1)) || (decide (op = 1 ∨ op = 3 ∨ op = 4) && decide (arg = 0))

/-- The result of a recovery command (R286). -/
def Chip.recoveryResult (c : Chip) (cmd : List Byte) : Nat :=
  if c.mode ≠ 7 then 0xA else c.commandCheck cmd 144 0x52 0x43 c.start.nonce 16 (recoveryOp cmd)

/-- What an accepted command does before its start (R287, R840). -/
def Chip.recoveryAct (c : Chip) (op arg : Nat) : Chip :=
  let c1 := c.commitStart { c.start.record with unfinished := 0, state := 0, stirrupCause := 0 }
  let c2 := if op = 2 then c1.commitUpdNow { c1.upd.record with
      boot := arg, confirmed := arg, state := 0, trialStarts := 0, migBank := 0xFF, bitmap := 0 } else c1
  (c2.upStart (fun s => { s with useDefaults := decide (op = 3), useCalDefaults := decide (op = 4) })).beginStart 5

/-- A recovery command is checked in STIRRUP, a new challenge is drawn, and an accepted one is carried out (R283, R286, R288). -/
def Chip.recoveryCheck (c : Chip) (cmd : List Byte) : Chip :=
  let res := c.recoveryResult cmd
  let p := c.draw
  let c1 := (p.1.upStart (fun s => { s with nonce := p.2, result := res })).setFld 0x0064 3 0 res
  if res = 1 then c1.recoveryAct (leAt cmd 2 1) (leAt cmd 3 1) else c1

/-- A recovery command arrives from a listen window or the host buffer (R285): outside STIRRUP a host command is answered NOT_STIRRUP, and
until the first mode it is discarded (R275). -/
def Chip.recovery (c : Chip) (frame : Option (List Byte)) : Chip :=
  if c.mode ≠ 7 then
    if frame.isNone && c.started then (c.upStart (fun s => { s with result := 0xA })).setFld 0x0064 3 0 0xA else c
  else if frame.isSome && !c.start.listening then c
  else c.recoveryCheck (frame.getD (c.bufBytes 0x0040 36))

/-- RESTART (R287): the command's own OPCODE decides. -/
def execRestart (frame : Option (List Byte)) (s : State) : Host.Outcome State Fault Refusal := s.run (fun c => c.recovery frame)
/-- RESTART_SLOT (R287, R840). -/
def execRestartSlot (frame : Option (List Byte)) (s : State) : Host.Outcome State Fault Refusal := s.run (fun c => c.recovery frame)
/-- RESTART_DEFAULTS (R287). -/
def execRestartDefaults (frame : Option (List Byte)) (s : State) : Host.Outcome State Fault Refusal := s.run (fun c => c.recovery frame)
/-- RESTART_CAL_DEFAULTS (R287). -/
def execRestartCalDefaults (frame : Option (List Byte)) (s : State) : Host.Outcome State Fault Refusal := s.run (fun c => c.recovery frame)

/-- The frame of a stirrup listen window ends (R284, R668): with LEN and CRC-32 right it goes to the recovery check. -/
def Chip.stirrupFrame (c : Chip) (payload : List Byte) (crc : Word) : Chip := match c.radio.rxHeader with
  | none => c
  | some hdr =>
    let c1 := c.rxOver
    if payload.length = hdr % 256 ∧ wd (crc32 (leBytes 3 hdr ++ payload)) = crc then
      (c1.upRadio (fun r => { r with rxOk := r.rxOk + 1 })).recoveryCheck payload
    else c1.upRadio (fun r => { r with crcFail := r.crcFail + 1 })

/-- FRAME_RECEIVED (R648, R655, R668): in STIRRUP a recovery command; otherwise the modem's reception, after which the yard engine sifts its
ring. -/
def execFrameReceived (payload : List Byte) (crc : Word) (rx : RxMeta) (s : State) : Host.Outcome State Fault Refusal :=
  s.run (fun c => if c.mode = 7 then c.stirrupFrame payload crc else (c.frameReceived payload crc rx).yardSift)

end Sys2Proof.Machine
end

