-- ==== Sys2Proof/Machine/Lanes.lean ====
section
/-! DEFINITION. What the loss of a die or of its timebase leaves refused and ends, during a start and after it (01 R35-R38, R47, R49;
12 R567, R568; 13 R611, R612; 14 R664; 19 R862). -/

namespace Sys2Proof.Machine

/-- The first mode of the present start, or STIRRUP, has been reached. -/
def Chip.afterStart (c : Chip) : Bool := c.started || decide (c.start.phase = .stirrup)

/-- The cause a failure records: it fails a start under way (R37, R158), is recorded with COUNTED 0 afterwards (R38, R257), and nothing is
recorded while a failed start waits for its retry. -/
def Chip.causeNow (c : Chip) (cause : Nat) : Chip :=
  if c.afterStart then c.recordCause cause false
  else if c.start.phase = .failed then c
  else c.startCause cause

/-- The functions of the converter die are refused until the next start (R38, R491). -/
def Chip.converterGone (c : Chip) : Chip :=
  ((((c.upGirth (fun g => { g with convRefused := true })).burnishInterrupt 2).frontSettle).settleOver)

/-- A fix that needs the radio die ends with a REASON; one whose capture is complete goes on (R567, R568, R611, R612). -/
def Chip.loseFix (c : Chip) (reason : Nat) : Chip :=
  if c.acq.state = .correlating ∨ c.acq.state = .solving then c else c.failFix reason

/-- Every channel is released, and TP behaves as without solutions (R612). -/
def Chip.loseTracking (c : Chip) : Chip :=
  if c.track.channels.any (fun x => x.busy) then c.releaseAll.tpHold else c

/-- GNSS, the chirp radio and the yard are refused until the next start, and their work on the radio die ends: REASON of a fix and reason of
a frame (R38, R567, R664). In STIRRUP the beacon is refused (R293). -/
def Chip.radioGone (c : Chip) (fix frame : Nat) : Chip :=
  let c1 := c.upGirth (fun g => { g with radioRefused := true, beaconRefused := g.beaconRefused || !c.started })
  (((c1.abortRadio frame).loseTracking).loseFix fix).settleOver

/-- Field inputs, FIGN, FOUT, the charger's control and GBIAS are refused until the next start; in STIRRUP the beacon too (R38, R39). -/
def Chip.fieldGone (c : Chip) : Chip :=
  (c.upGirth (fun g => { g with fieldRefused := true, beaconRefused := g.beaconRefused || !c.started })).settleOver

/-- The cause of a lane (R37): 0x0A converter, 0x0B radio, 0x0C either field lane. -/
def laneCause (l : Nat) : Nat := if l = 0 then 0x0A else if l = 1 then 0x0B else 0x0C

/-- The consequences of R37 and R38 for a lane. -/
def Chip.laneGone (c : Chip) (l : Nat) : Chip :=
  let c1 := c.causeNow (laneCause l)
  if c1.start.phase = .failed then c1
  else if l = 0 then c1.converterGone
  else if l = 1 then c1.radioGone 2 7
  else if l = 2 then c1.fieldGone
  else c1

end Sys2Proof.Machine
end

