-- ==== Sys2Proof/Machine/Timebases.lean ====
section
/-! DEFINITION. Timebases, loops, the gate tree, domain switching, capture ports and CKO (04 R145-R201). -/

namespace Sys2Proof.Machine

/-! ### The gate tree (R166-R174) -/

/-- TB_CKO.SRC in force, while CKO is enabled. -/
def Chip.ckoSource (c : Chip) : Option Nat := if c.tb.ckoEn then some (c.tb.domains.getD 3 {}).source else none

/-- Source of a timebase domain. -/
def Chip.domSource (c : Chip) (d : Nat) : Nat := (c.tb.domains.getD d {}).source

/-- The users of a gate request its timebase (R166, R167). -/
def Chip.gateUsed (c : Chip) (g : Nat) : Bool :=
  if g = 4 then rgPowered c.mode && (c.tracking || decide (c.acq.state = .capturing))
  else if g = 5 then decide (c.track.tp ≠ .off)
  else if g = 6 then (rcPowered c.mode && decide (c.radio.state ≠ .off)) || c.stirrupListening
  else if 8 ≤ g ∧ g ≤ 11 then (c.converting (g - 8)).isSome || (c.runningStep (g - 8)).isSome || (c.seq (g - 8)).listening
  else if g = 12 then c.converterOn && decide (c.runF 0x1901 15 0 ≠ 0)
  else if g = 14 then c.mem.xfer.isSome || c.mem.program.isSome || c.mem.erase.isSome
  else if g = 15 then c.host.master
  else if g = 16 then c.tb.ckoEn
  else decide (g = 17)

/-- A gate is open and requested: a leaf by its users, CONV and SPI by the gates below them. -/
def Chip.gateReq (c : Chip) (g : Nat) : Bool :=
  c.gateOpen g &&
    (if g = 7 then ([8, 9, 10, 11].any (fun x => c.gateOpen x && c.gateUsed x)) || c.ckoSource == some 5
     else if g = 13 then ([14, 15].any (fun x => c.gateOpen x && c.gateUsed x)) || c.ckoSource == some 6
     else if g = 3 then ([4, 5].any (fun x => c.gateOpen x && c.gateUsed x)) || c.ckoSource == some 4
     else c.gateUsed g)

/-- TBM passes gate 2: requested through gates 3, 6, 7, 13 or 16 while it has not failed (R159, R194). -/
def Chip.tbmPasses (c : Chip) : Bool :=
  !c.tb.tbmFailed && c.gateOpen 2 &&
    (c.gateReq 3 || c.gateReq 6 || (c.gateReq 7 && decide (c.domSource 0 = 1)) || (c.gateReq 13 && decide (c.domSource 1 = 1)) ||
     c.ckoSource == some 3)

/-- TBF passes gate 1: requested through gates 12, 17, 7 and 13 on TBF, or 16. -/
def Chip.tbfPasses (c : Chip) : Bool :=
  c.gateOpen 1 &&
    (c.gateReq 12 || c.gateReq 17 || (c.gateReq 7 && decide (c.domSource 0 = 0)) || (c.gateReq 13 && decide (c.domSource 1 = 0)) ||
     c.ckoSource == some 2)

/-- A gate passes its timebase (R167-R169, R194, R197); none does in SHIP. -/
def Chip.gatePasses (c : Chip) (g : Nat) : Bool :=
  if c.mode = 0 then false
  else if g = 0 then true
  else if g = 1 then c.tbfPasses
  else if g = 2 then c.tbmPasses
  else if g = 3 then c.tbmPasses && c.gateReq 3
  else if g = 4 ∨ g = 5 then c.tbmPasses && c.gateReq 3 && c.gateReq g && c.tb.mlg
  else if g = 6 then c.tbmPasses && c.gateReq 6
  else if g = 7 then (if c.domSource 0 = 1 then c.tbmPasses else c.tbfPasses) && c.gateReq 7
  else if 8 ≤ g ∧ g ≤ 11 then (if c.domSource 0 = 1 then c.tbmPasses else c.tbfPasses) && c.gateReq 7 && c.gateReq g
  else if g = 12 ∨ g = 17 then c.tbfPasses && c.gateReq g
  else if g = 13 then (if c.domSource 1 = 1 then c.tbmPasses else c.tbfPasses) && c.gateReq 13
  else if g = 14 ∨ g = 15 then (if c.domSource 1 = 1 then c.tbmPasses else c.tbfPasses) && c.gateReq 13 && c.gateReq g
  else decide (g = 16) && c.gateReq 16

/-- TBM runs: while gate 2 passes it, and for the test of a start (R157, R159). -/
def Chip.tbmRuns (c : Chip) : Bool := decide (c.mode ≠ 0) && !c.tb.tbmFailed && (c.tb.tbmTest || c.tbmPasses)

/-- FORCE_TBF of the converter domain (0) and the SPI domain (1) in force. -/
def Chip.forceTbf (c : Chip) (d : Nat) : Bool := c.runB 0x0402 d

/-- The parents of a gate for the check of R171 (R172). -/
def Chip.gateParents (c : Chip) (g : Nat) : List Nat :=
  match g with
  | 3 => [2] | 4 => [3] | 5 => [3] | 6 => [2] | 8 => [7] | 9 => [7] | 10 => [7] | 11 => [7] | 12 => [1] | 14 => [13] | 15 => [13] | 17 => [1]
  | 7 => if c.forceTbf 0 then [1] else [1, 2]
  | 13 => if c.forceTbf 1 then [1] else [1, 2]
  | 16 => [[0, 0, 1, 2, 3, 7, 13].getD (c.runF 0x0403 18 16) 0]
  | _ => []

/-- An enable of the shadow set. -/
def Chip.gateShadow (c : Chip) (g st : Nat) : Bool := bit (c.reg (0x0410 + g / 8)) (3 * (g % 8) + st)

/-- A gate whose enable is 1 in a power state in which a parent's is 0. -/
def Chip.gateOrphan (c : Chip) (g : Nat) : Bool :=
  (List.range 3).any (fun st => c.gateShadow g st && (c.gateParents g).any (fun p => !c.gateShadow p st))

/-- The check of GATE_CTL.ARM: result and the gate named (R171). -/
def Chip.gateCheck (c : Chip) : Nat × Nat :=
  if !((List.range 3).all (fun st => c.gateShadow 0 st)) then (3, 0)
  else if !(c.gateShadow 17 0 && c.gateShadow 17 1) then (3, 17)
  else match (List.range 18).find? (fun g => c.gateOrphan g) with
    | some g => (2, g)
    | none => (0, 0x1F)

/-- GATE_CTL.ARM (R170-R173). -/
def Chip.gateArm (c : Chip) : Chip :=
  let r := c.gateCheck
  let c1 := ((c.armLast 0x0413 r.1).setFld 0x0414 3 0 r.1).setFld 0x0414 12 8 r.2
  if r.1 = 0 then c1.applyWords (c1.shadow 0x0410 3) else c1

/-- GATE_ARM (R170). -/
def execGateArm (s : State) : Host.Outcome State Fault Refusal := s.runHost Chip.gateArm

/-- POWER_STATE_CHANGE (R174): RUN while a handshake is pending, else DOZE where the mode powers the converter die or a radio-die domain,
else DEEP. -/
def execPowerStateChange (busy : Bool) (s : State) : Host.Outcome State Fault Refusal :=
  s.run (fun c =>
    let st := if busy then 0 else if cdPowered c.mode || rgPowered c.mode || rcPowered c.mode then 1 else 2
    c.upTb (fun t => { t with pstate := st }))

/-! ### Domain switching (R165, R175-R180, R191-R193) -/

/-- A timebase domain changed. -/
def Chip.upDomain (c : Chip) (d : Nat) (f : Domain → Domain) : Chip := c.upTb (fun t => { t with domains := t.domains.modify d f })

/-- The path of a domain is ready: its root proven and its loop locked (R165, R175). -/
def Chip.pathReady (c : Chip) (d target : Nat) : Bool :=
  if d = 0 then decide (target = 0) || (decide (target = 1) && c.tb.mlc && c.tb.tbmProven && !c.tb.tbmFailed && !c.forceTbf 0)
  else if d = 1 then decide (target = 0) || (decide (target = 1) && c.tb.mls && c.tb.tbmProven && !c.tb.tbmFailed && !c.forceTbf 1)
  else if d = 2 then decide (target = 0) || (decide (target = 1) && c.tb.tbkProven && !c.tb.tbkFailed)
  else decide (d = 3) && decide (target = c.runF 0x0403 18 16)

/-- A switch begins, or is queued behind the one in progress, replacing a queued one (R175, R191). -/
def Chip.requestSwitch (c : Chip) (d target : Nat) : Chip :=
  match (c.tb.domains.getD d {}).switch with
  | some _ => c.upDomain d (fun x => { x with queued := some target })
  | none => if c.domSource d = target then c else c.upDomain d (fun x => { x with switch := some { stage := .requested, target := target } })

/-- DOMAIN_SWITCH_REQUEST (R175, R191). -/
def execDomainSwitchRequest (dom target : Nat) (s : State) : Host.Outcome State Fault Refusal :=
  s.run (fun c => if dom < 4 ∧ c.pathReady dom target = true then c.requestSwitch dom target else c)

/-- The domain is at a safe point: for SPI no memory-port transfer and no master frame in progress (R178). -/
def Chip.safePoint (c : Chip) (d : Nat) : Bool := decide (d ≠ 1) || (c.mem.xfer.isNone && c.mem.program.isNone && c.mem.chain.isNone && c.host.mstOut.isNone)

/-- Samples whose modulator stream spans the stop carry TB_GAP (R180). -/
def Chip.markGap (c : Chip) : Chip :=
  { c with seqs := c.seqs.mapIdx (fun m q => match c.converting m with
    | some w => { q with tbGap := settleCount (slotPreset w) }
    | none => q) }

/-- A domain stops: requested to acknowledged. -/
def Chip.stopDomain (c : Chip) (d : Nat) : Chip :=
  let c1 := c.upDomain d (fun x => { x with switch := x.switch.map (fun w => { w with stage := .acknowledged }) })
  if d = 0 then c1.markGap else c1

/-- The stage of a domain's switch. -/
def Chip.switchStage (c : Chip) (d : Nat) : Option SwitchStage := ((c.tb.domains.getD d {}).switch).map (fun w => w.stage)

/-- STOP_ACKNOWLEDGED (R175, R178). -/
def execStopAcknowledged (dom : Nat) (s : State) : Host.Outcome State Fault Refusal :=
  s.run (fun c => if c.switchStage dom = some .requested ∧ c.safePoint dom = true then c.stopDomain dom else c)

/-- SOURCE_SWITCH (R175): the selector changes after 2 cycles of the old root. -/
def execSourceSwitch (dom : Nat) (s : State) : Host.Outcome State Fault Refusal :=
  s.run (fun c => if c.switchStage dom = some .acknowledged then
      c.upDomain dom (fun x => match x.switch with
        | some w => { x with source := w.target, switch := some { w with stage := .switched } }
        | none => x)
    else c)

/-- SUB is 6 greater at the release of the keeper domain (R179). -/
def Keeper.addGap (k : Keeper) : Keeper :=
  let t := k.sub.toNat + 6
  { k with sub := BitVec.ofNat 15 t, sec := if 32768 ≤ t then k.sec + 1 else k.sec }

/-- A domain is released: the keeper's gap is added, CKO takes its divisor, and a queued request follows (R175, R179, R191). -/
def Chip.releaseDomain (c : Chip) (d : Nat) : Chip :=
  let q := (c.tb.domains.getD d {}).queued
  let c1 := c.upDomain d (fun x => { x with switch := none, queued := none })
  let c2 := if d = 2 then c1.upKeeper Keeper.addGap else if d = 3 then c1.upTb (fun t => { t with ckoDiv := c1.runF 0x0403 15 0 }) else c1
  match q with
  | some t => if c2.pathReady d t then c2.requestSwitch d t else c2
  | none => c2

/-- DOMAIN_RELEASE (R175, R179). -/
def execDomainRelease (dom : Nat) (s : State) : Host.Outcome State Fault Refusal :=
  s.run (fun c => if c.switchStage dom = some .switched then c.releaseDomain dom else c)

/-- A domain whose source has failed moves to source 0; a switch toward the failed path is abandoned (R177, R193). -/
def Chip.forceSwitch (c : Chip) (d : Nat) : Chip :=
  if c.domSource d = 1 then
    (c.upDomain d (fun x => { x with switch := some { stage := .requested, target := 0 }, queued := none })).stopDomain d
  else c.upDomain d (fun x => { x with switch := none, queued := none })

/-! ### Sources and loops (R153-R158, R192-R197, R897) -/

/-- TBK_PROVEN (R153). -/
def execTbkProven (s : State) : Host.Outcome State Fault Refusal :=
  s.run (fun c => if c.tb.tbkFailed then c else c.upTb (fun t => { t with tbkProven := true }))

/-- TBM_PROVEN (R155): the test of a start ends. -/
def execTbmProven (s : State) : Host.Outcome State Fault Refusal :=
  s.run (fun c => if c.tbmRuns then c.upTb (fun t => { t with tbmProven := true, tbmTest := false }) else c)

/-- The ring-0 entry of a failed timebase (R897). -/
def Chip.tbEvent (c : Chip) (code cause : Nat) (err : Int) : Chip :=
  if c.afterStart then c.protect 0x0F code cause (if cause = 1 then ux 32 err else 0) 0 0 else c

/-- TBK is declared failed (R154, R195): the keeper domain moves to TBS until the next start. -/
def Chip.tbkFail (c : Chip) (cause : Nat) (err : Int) : Chip :=
  if c.tb.tbkProven && !c.tb.tbkFailed then
    let c1 := (c.upTb (fun t => { t with tbkFailed := true, tbkProven := false })).forceSwitch 2
    ((c1.setBits 0x0401 1).tbEvent 0x0802 cause err).causeNow 9
  else c

/-- TBK_FAIL (R195). -/
def execTbkFail (cause : Nat) (err : Int) (s : State) : Host.Outcome State Fault Refusal := s.run (fun c => c.tbkFail cause err)

/-- Loss of ML-G ends tracking: channels released, TP at its inactive level at once, STOPPED and a FAILED solution (R611). -/
def Chip.mlgLost (c : Chip) : Chip :=
  let c1 := { c with track := { c.track with discont := true } }
  let c2 := if c1.track.channels.any (fun x => x.busy) || c1.tracking then (c1.releaseAll.tpStop).failedSolution else c1.tpStop
  if c2.acq.state = .capturing ∨ c2.acq.state = .burst then c2.failFix 3 else c2

/-- TBM is declared failed (R156, R194): the converter and SPI domains move to TBF, gates 2-6 close, and the mode controller acts as for a
SILENT radio lane. -/
def Chip.tbmFail (c : Chip) (cause : Nat) (err : Int) : Chip :=
  if c.tb.tbmProven && c.tbmRuns then
    let c1 := c.upTb (fun t => { t with tbmFailed := true, tbmProven := false, tbmTest := false, mlg := false, mlc := false, mls := false,
                                        retry := [false, false, false] })
    let c2 := (((c1.forceSwitch 0).forceSwitch 1).setBits 0x0401 2).tbEvent 0x0801 cause err
    let c3 := c2.causeNow 8
    if c3.start.phase = .failed then c3 else (c3.mlgLost).radioGone 3 10
  else c

/-- TBM_FAIL (R194). -/
def execTbmFail (cause : Nat) (err : Int) (s : State) : Host.Outcome State Fault Refusal := s.run (fun c => c.tbmFail cause err)

/-- TIMEBASE_PROOF_DEADLINE (R158, R276): a stirrup start goes on without the timebase. -/
def execTimebaseProofDeadline (tbm : Bool) (s : State) : Host.Outcome State Fault Refusal :=
  s.run (fun c =>
    if !c.starting then c
    else if tbm then
      (if c.tb.tbmProven then c else
        ((c.causeNow 8).upTb (fun t => { t with tbmFailed := true, tbmTest := false })).upGirth
          (fun g => { g with radioRefused := true, beaconRefused := true }))
    else if c.tb.tbkProven then c
    else (c.causeNow 9).upTb (fun t => { t with tbkFailed := true }))

/-- A loop locks (R160, R196): 0 ML-G, 1 ML-C, 2 ML-S. -/
def Chip.loopLock (c : Chip) (l : Nat) : Chip :=
  if c.tb.tbmProven && !c.tb.tbmFailed then
    c.upTb (fun t => { t with mlg := t.mlg || decide (l = 0), mlc := t.mlc || decide (l = 1), mls := t.mls || decide (l = 2),
                              retry := t.retry.set l false })
  else c

/-- LOOP_LOCKED (R160, R165). -/
def execLoopLocked (loop : Nat) (s : State) : Host.Outcome State Fault Refusal := s.run (fun c => c.loopLock loop)

/-- ML-C or ML-S loses lock (R196). -/
def Chip.mlUnlock (c : Chip) (l : Nat) : Chip :=
  if (l = 1 ∧ c.tb.mlc = true) ∨ (l = 2 ∧ c.tb.mls = true) then
    let c1 := c.upTb (fun t => { t with mlc := t.mlc && decide (l ≠ 1), mls := t.mls && decide (l ≠ 2), retry := t.retry.set l true })
    (c1.forceSwitch (l - 1)).setBits 0x0401 (if l = 1 then 8 else 16)
  else c

/-- ML_UNLOCK (R196). -/
def execMlUnlock (loop : Nat) (s : State) : Host.Outcome State Fault Refusal := s.run (fun c => c.mlUnlock loop)

/-- MLG_UNLOCK (R197): gates 4 and 5 stop. -/
def execMlgUnlock (s : State) : Host.Outcome State Fault Refusal :=
  s.run (fun c => if c.tb.mlg then
      ((c.upTb (fun t => { t with mlg := false, retry := t.retry.set 0 true })).setBits 0x0401 4).mlgLost
    else c)

/-- LOOP_LOCK_RETRY (R196, R197): every 10 ms. -/
def execLoopLockRetry (loop : Nat) (locks : Bool) (s : State) : Host.Outcome State Fault Refusal :=
  s.run (fun c => if c.tb.retry.getD loop false && locks then c.loopLock loop else c)

/-! ### TB_SRC, CKO and speed (R150, R187-R190, R896) -/

/-- TB_SRC.ARM: every set is accepted; TBM_TCXO takes effect at the next TBM start. -/
def Chip.tbSrcArm (c : Chip) : Chip :=
  ((c.armLast 0x0402 0).setFld 0x0406 3 0 0).applyWords (c.shadow 0x0402 1)

/-- TB_SRC_ARM (R201). -/
def execTbSrcArm (s : State) : Host.Outcome State Fault Refusal := s.runHost Chip.tbSrcArm

/-- Frequency in Hz at which a CKO source counts (R188). -/
def ckoHz (src : Nat) : Nat := [32768, 32000, 96960000, 26000000, 104000000, 6144000, 80000000].getD src 0

/-- A CKO divisor: 0 means 65 536 (R187). -/
def ckoDivisor (d : Nat) : Nat := if d = 0 then 65536 else d

/-- TB_CKO.ARM (R188, R189): EN and, while CKO is off, SRC and DIV take effect; a running CKO changes DIV at the end of its period and SRC
by a domain switch. -/
def Chip.tbCkoArm (c : Chip) : Chip :=
  let w := c.reg 0x0403
  let res := if fld w 18 16 = 7 then 2 else if 50000000 * ckoDivisor (fld w 15 0) < ckoHz (fld w 18 16) then 3 else 0
  let c1 := (c.armLast 0x0403 res).setFld 0x0406 7 4 res
  if res ≠ 0 then c1
  else
    let c2 := c1.applyWords (c1.shadow 0x0403 1)
    if c.tb.ckoEn then c2.upTb (fun t => { t with ckoEn := bit w 19 })
    else (c2.upTb (fun t => { t with ckoEn := bit w 19, ckoDiv := fld w 15 0 })).upDomain 3 (fun x => { x with source := fld w 18 16, switch := none, queued := none })

/-- TB_CKO_ARM (R188). -/
def execTbCkoArm (s : State) : Host.Outcome State Fault Refusal := s.runHost Chip.tbCkoArm

/-- CKO_DIV_APPLY (R189): the end of the output period. -/
def execCkoDivApply (s : State) : Host.Outcome State Fault Refusal :=
  s.run (fun c => c.upTb (fun t => { t with ckoDiv := c.runF 0x0403 15 0 }))

/-- TB_SPEED_UPDATE (R150). -/
def execTbSpeedUpdate (speed : Nat) (s : State) : Host.Outcome State Fault Refusal :=
  s.run (fun c => if c.tb.pstate = 0 then c.setFld 0x0405 15 0 speed else c)

/-! ### Capture ports (R182, R198, R199) -/

/-- The gate of a capture port: converter, SPI, keeper, CKO, GNSS, radio symbols. -/
def portGate (p : Nat) : Nat := [7, 13, 0, 16, 4, 6].getD p 0

/-- A capture port changed. -/
def Chip.upPort (c : Chip) (p : Nat) (f : CapturePort → CapturePort) : Chip := c.upTb (fun t => { t with ports := t.ports.modify p f })

/-- CAPTURE_COMPLETE (R182, R183, R198): a running domain freezes its value at its next edge; a closed gate answers with the value frozen
when it closed. -/
def execCaptureComplete (port : Nat) (value : Word) (s : State) : Host.Outcome State Fault Refusal :=
  s.run (fun c => if port < 6 ∧ c.gatePasses (portGate port) = true then c.upPort port (fun _ => { frozen := value, copy := value })
    else c.upPort port (fun x => { x with copy := x.frozen }))

/-- CAPTURE_STALE (R199): 2 ms without an edge. -/
def execCaptureStale (port : Nat) (s : State) : Host.Outcome State Fault Refusal :=
  s.run (fun c => if port < 6 then (c.upPort port (fun x => { x with copy := x.frozen })).setBits 0x0401 32 else c)

end Sys2Proof.Machine
end

