-- ==== Sys2Proof/Machine/Lands.lean ====
section
/-! DEFINITION. The lands (02): drive groups, general-purpose pins, their wake watch. The loss and return of VIO stand with the host and
memory ports. -/

namespace Sys2Proof.Machine

/-! ### Drive groups (R96, R97) -/

/-- SYS_IO_DRIVE.ARM: always accepted; the GPIO and TIME groups apply at once, HOST and MEM wait for their moment (R97). -/
def Chip.ioDriveArm (c : Chip) : Chip :=
  let w := c.reg 0x0011
  let r := c.runW 0x0011
  ((c.armLast 0x0011 0).setRun 0x0011 (putFld (putFld r 11 9 (fld w 11 9)) 8 6 (fld w 8 6))).upLands
    (fun l => { l with hostDrive := some (fld w 2 0), memDrive := some (fld w 5 3) })

/-- IO_DRIVE_ARM (R97). -/
def execIoDriveArm (s : State) : Host.Outcome State Fault Refusal := s.runHost Chip.ioDriveArm

/-- No transfer is in progress and every MCS is high (R97). -/
def Chip.mcsHigh (c : Chip) : Bool := c.mem.xfer.isNone && c.mem.chain.isNone

/-- IO_DRIVE_APPLY (R97): the HOST group while HCS is high, the MEM group while every MCS is high. -/
def Chip.ioDriveApply (c : Chip) (mem : Bool) : Chip :=
  if mem then
    match c.lands.memDrive with
    | some v => if c.mcsHigh then (c.setRun 0x0011 (putFld (c.runW 0x0011) 5 3 v)).upLands (fun l => { l with memDrive := none }) else c
    | none => c
  else
    match c.lands.hostDrive with
    | some v => (c.setRun 0x0011 (putFld (c.runW 0x0011) 2 0 v)).upLands (fun l => { l with hostDrive := none })
    | none => c

/-- IO_DRIVE_APPLY (R97). -/
def execIoDriveApply (mem : Bool) (s : State) : Host.Outcome State Fault Refusal := s.run (fun c => c.ioDriveApply mem)

/-! ### General-purpose pins (R98, R99) -/

/-- SYS_GP_CTL.ARM (R98, R99): PULL 0b11 of any pin is refused; applying the set ends every watch until it is re-armed. -/
def Chip.gpCfgArm (c : Chip) : Chip :=
  let res := if (List.range 8).any (fun i => decide (c.rf (0x0080 + i) 5 4 = 3)) then 2 else 0
  let c1 := (c.armLast 0x0088 res).setFld 0x0088 3 0 res
  if res = 0 then (c1.applyWords (c1.shadow 0x0080 8)).upLands (fun l => { l with gpWatch := 0 }) else c1

/-- GP_CFG_ARM (R98). -/
def execGpCfgArm (s : State) : Host.Outcome State Fault Refusal := s.runHost Chip.gpCfgArm

/-- Bit `pin` of an 8-bit map takes a value. -/
def setPin (m : BitVec 8) (pin : Nat) (b : Bool) : BitVec 8 :=
  if b then m ||| BitVec.ofNat 8 (2 ^ pin) else m &&& ~~~(BitVec.ofNat 8 (2 ^ pin))

/-- GP_WATCH_REARM (R98): 10 µs after a configuration has been applied, the level of that moment is the reference. -/
def execGpWatchRearm (pin : Nat) (level : Bool) (s : State) : Host.Outcome State Fault Refusal :=
  s.run (fun c => if pin < 8 then
      c.upLands (fun l => { l with gpIn := setPin l.gpIn pin level, gpRef := setPin l.gpRef pin level, gpWatch := setPin l.gpWatch pin true })
    else c)

/-- A pin claimed as a memory-port chip select (R767, R98). -/
def Chip.gpClaimed (c : Chip) (pin : Nat) : Bool := c.runB 0x3E00 (8 + pin)

/-- The pin's wake watch is in force: an input, re-armed, not claimed, VIO good (R98). -/
def Chip.gpWatched (c : Chip) (pin : Nat) : Bool :=
  c.lands.vioGood && c.lands.gpWatch.getLsbD pin && !c.runB (0x0080 + pin) 0 && !c.gpClaimed pin

/-- WAKE of a pin selects an edge to this level. -/
def Chip.gpWakes (c : Chip) (pin : Nat) (level : Bool) : Bool :=
  let w := c.runF (0x0080 + pin) 7 6
  if level then decide (w = 1 ∨ w = 3) else decide (w = 2 ∨ w = 3)

/-- GP_EDGE (R98): an edge of at least 1 µs; of the selected polarity on a watched pin, it sets the pin's bit and becomes a keeper event. -/
def Chip.gpEdge (c : Chip) (pin : Nat) (level : Bool) : Chip :=
  let hit := c.gpWatched pin && decide (c.lands.gpRef.getLsbD pin ≠ level)
  let c1 := c.upLands (fun l => { l with gpIn := setPin l.gpIn pin level, gpRef := setPin l.gpRef pin level })
  if hit && c.gpWakes pin level then (c1.setBits 0x008A (2 ^ pin)).keeperEvent (0x1700 + pin) 0x02 (0x1700 + pin) 0 else c1

/-- GP_EDGE (R98). -/
def execGpEdge (pin : Nat) (level : Bool) (s : State) : Host.Outcome State Fault Refusal :=
  s.run (fun c => if pin < 8 then c.gpEdge pin level else c)

/-- The level of a pin's land: a claimed chip select is high but while its transfer or chain holds it low (R767); an output drives OUT; an
input is at the level last seen (R98). -/
def Chip.gpLevel (c : Chip) (pin : Nat) : Bool :=
  if c.gpClaimed pin then !(c.mem.xfer.any (fun x => x.cs == 8 + pin) || c.mem.chain == some (8 + pin))
  else if c.runB (0x0080 + pin) 0 then c.runB (0x0080 + pin) 1
  else c.lands.gpIn.getLsbD pin

/-- SYS_GP_IN.LEVEL: 0 for every pin while VIO is not good (R99). -/
def Chip.gpLevels (c : Chip) : BitVec 8 :=
  if c.lands.vioGood then BitVec.ofNat 8 ((List.range 8).foldl (fun a i => if c.gpLevel i then a + 2 ^ i else a) 0) else 0

end Sys2Proof.Machine
end

