-- ==== Sys2Proof/Machine/Girth.lean ====
section
/-! DEFINITION. The girth (01 R24-R62, R898): transfers and probes, wake handshakes, silent lanes, the field die's and the converter die's
own waits, sample lanes, timebase lines, and accepted sets that reach a remote unit at its safe boundary. -/

namespace Sys2Proof.Machine

/-! ### Transfers (R25-R31) -/

/-- A transfer of eight symbol groups, group `i` giving bits [2i+1:2i]; none when a group holds no symbol (R25, R26). -/
def symbols : List Nat → Option Nat
  | [] => some 0
  | g :: gs => if g < 4 then (symbols gs).map (fun v => g + 4 * v) else none

/-- An acknowledged transfer is counted (SYS_LANE_XFERn). -/
def Girth.count (g : Girth) (l : Nat) : Girth := { g with xfer := g.xfer.modify l (fun w => w + 1) }

/-- GIRTH_TRANSFER (R26): received whole on a LIVE lane, or not at all. -/
def Chip.girthTransfer (c : Chip) (l : Nat) (groups : List Nat) (kind : Nat) : Chip :=
  if c.live l && decide (groups.length = 8) then
    match symbols groups with
    | some v => c.upGirth (fun g => { g.count l with last := g.last.set l { kind := kind, data := BitVec.ofNat 16 v } })
    | none => c
  else c

/-- GIRTH_TRANSFER (R26). -/
def execGirthTransfer (lane : Nat) (groups : List Nat) (kind : Nat) (s : State) : Host.Outcome State Fault Refusal :=
  s.run (fun c => c.girthTransfer lane groups kind)

/-- LANE_PROBE (R30): on a LIVE lane while the core is in RUN or DOZE. -/
def execLaneProbe (lane : Nat) (s : State) : Host.Outcome State Fault Refusal :=
  s.run (fun c => if c.live lane && decide (c.tb.pstate ≤ 1) then c.upGirth (fun g => g.count lane) else c)

/-- FIELD_TRANSFER_WAKE (R31): a transfer of the field die wakes the core and is acknowledged after the wake. -/
def execFieldTransferWake (prot : Bool) (s : State) : Host.Outcome State Fault Refusal :=
  s.run (fun c =>
    let l := if prot then 3 else 2
    if c.live l && decide (c.tb.pstate = 2) then (c.upTb (fun t => { t with pstate := 0 })).upGirth (fun g => g.count l) else c)

/-! ### Silent lanes (R32-R38, R342, R898) -/

/-- A protection event of the girth (R898). -/
def Chip.girthEvent (c : Chip) (code a0 : Nat) (mode : Nat) : Chip := c.protect 0x10 code a0 mode 0 0

/-- Agents on the die of a lane, whose held entries are discarded when it is isolated (R342, R296). -/
def laneAgents (l : Nat) : List Nat := if l = 0 then [0x04, 0x05] else if l = 2 then [0x06] else []

/-- A lane is declared SILENT (R32, R34-R38): its fault bit, its entry, and its consequences for the start or the mode. -/
def Chip.goSilent (c : Chip) (l : Nat) : Chip :=
  let mode := c.mode
  let c1 := ((c.setLane l .silent).setBits 0x0009 (2 ^ l)).dropHeld (laneAgents l)
  let c2 := c1.upGirth (fun g => { g with revAbsent := if c.afterStart then g.revAbsent else g.revAbsent.set l true })
  (((c2.girthEvent 0x0901 l mode).laneGone l).frontSettle).sendHeld false

/-- LANE_SILENT (R32): a PARKED lane is never declared SILENT (R33), and a SILENT one stays so (R42). -/
def execLaneSilent (lane : Nat) (s : State) : Host.Outcome State Fault Refusal :=
  s.run (fun c => if c.lane lane = .live ∨ c.lane lane = .waking then c.goSilent lane else c)

/-- LANE_WAKE_TIMEOUT (R34): the wake handshake has not completed within 2 ms of power-good. -/
def execLaneWakeTimeout (lane : Nat) (s : State) : Host.Outcome State Fault Refusal :=
  s.run (fun c => if c.lane lane = .waking then c.goSilent lane else c)

/-- LANE_WAKE_HANDSHAKE (R34, R40): the lane becomes LIVE, and events the field die held go out on it. -/
def execLaneWakeHandshake (lane : Nat) (s : State) : Host.Outcome State Fault Refusal :=
  s.run (fun c => if c.lane lane = .waking then (c.setLane lane .live).sendHeld false else c)

/-! ### Waits of the remote dies (R39, R40, R529) -/

/-- FIELD_LANE_TIMEOUT (R39): the converter-die and radio-die supplies and both FOUT switches go off. -/
def Chip.fieldCutOff (c : Chip) : Chip :=
  ((c.upGirth (fun g => { g with fieldCut := true })).upPower (fun p => { p with fout0 := false, fout1 := false })).frontSettle

/-- FIELD_LANE_TIMEOUT (R39): the field die times its own transfers while it is powered. -/
def execFieldLaneTimeout (s : State) : Host.Outcome State Fault Refusal :=
  s.run (fun c => if c.lane 2 = .parked then c else c.fieldCutOff)

/-- PROTECTION_LANE_TIMEOUT (R40): the event travels on the field lane, as every later one until the next start; it is held while the
field lane cannot carry it. -/
def Chip.reroute (c : Chip) (code a0 a1 : Nat) : Chip :=
  let c1 := c.upGirth (fun g => { g with rerouted := true })
  if c1.live 2 then c1.protect 0x06 code a0 a1 0 0
  else c1.upGirth (fun g => { g with heldProt := g.heldProt ++ [{ afterStart := false, bit := 0, code := code, arg0 := a0, arg1 := a1 }] })

/-- PROTECTION_LANE_TIMEOUT (R40). -/
def execProtectionLaneTimeout (code arg0 arg1 : Nat) (s : State) : Host.Outcome State Fault Refusal :=
  s.run (fun c => if c.lane 3 = .parked ∨ c.girth.rerouted = true then c else c.reroute code arg0 arg1)

/-- CONVERTER_LANE_TIMEOUT (R529, R531): EXC0-EXC3 to Z, the monitor converter and every awl pulse stopped. -/
def Chip.converterCutOff (c : Chip) : Chip :=
  let c1 := c.upGirth (fun g => { g with converterCut := true })
  ({ c1 with seqs := c1.seqs.map (fun (q : Sequencer) => { q with awl := false }) } : Chip).excAll

/-- CONVERTER_LANE_TIMEOUT (R529). -/
def execConverterLaneTimeout (s : State) : Host.Outcome State Fault Refusal :=
  s.run (fun c => if c.lane 0 = .parked then c else c.converterCutOff)

/-! ### Sample lanes and timebase lines (R47-R49) -/

/-- A sample lane's state: 0 GNSS, 1 radio. -/
def Chip.samp (c : Chip) (l : Nat) : SampleState := if l = 0 then c.girth.gsamp else if l = 1 then c.girth.rsamp else .off

/-- A sample lane takes a state. -/
def Chip.setSamp (c : Chip) (l : Nat) (x : SampleState) : Chip := c.upGirth (fun g => if l = 0 then { g with gsamp := x } else { g with rsamp := x })

/-- FIRST_STROBE (R47): a starting sample lane runs. -/
def execFirstStrobe (lane : Nat) (s : State) : Host.Outcome State Fault Refusal :=
  s.run (fun c => if c.samp lane = .starting then c.setSamp lane .running else c)

/-- The consequences of a SILENT converter or radio lane without the isolation (R47, R49). -/
def Chip.handledAs (c : Chip) (l : Nat) : Chip := (c.laneGone l).frontSettle

/-- SAMPLE_LANE_FAIL (R47, R898): an enabled sample lane that gives no strobe for 1 ms. -/
def execSampleLaneFail (lane : Nat) (s : State) : Host.Outcome State Fault Refusal :=
  s.run (fun c => if c.samp lane = .starting ∨ c.samp lane = .running then
      (((c.setSamp lane .failed).setBits 0x0009 (2 ^ (4 + lane))).girthEvent 0x0902 lane c.mode).handledAs 1
    else c)

/-- The gate and the receiving lane of a timebase line (R48): 0 CONV, 1 MON, 2 MLG, 3 RSYM. -/
def lineGate (line : Nat) : Nat × Nat := [(7, 0), (12, 0), (4, 1), (6, 1)].getD line (7, 0)

/-- TIMEBASE_LINE_FAIL (R49, R898): reported by the receiving die while the line's gate passes and its girth lane is LIVE. -/
def execTimebaseLineFail (line : Nat) (s : State) : Host.Outcome State Fault Refusal :=
  s.run (fun c =>
    let g := lineGate line
    if decide (line < 4) && c.gatePasses g.1 && c.live g.2 then
      ((c.setBits 0x0009 (2 ^ (6 + line))).girthEvent 0x0903 line c.mode).handledAs g.2
    else c)

/-! ### Accepted sets at their remote units (R60) -/

/-- The lane of the unit whose ARM field is at an address. -/
def armLane (arm : Nat) : Nat := if 0x1C00 ≤ arm ∧ arm < 0x2000 then 2 else if 0x3000 ≤ arm ∧ arm < 0x3200 then 1 else 0

/-- An accepted set applies at its unit; a filter set waits for the start of a slot, and radio sets for a quiet modem. -/
def Chip.applyUnit (c : Chip) (arm : Nat) (ws : List (Nat × Word)) : Chip :=
  let d := c.dropArmed arm
  if arm = 0x1C04 then d.chgApply ws
  else if arm = 0x1C06 then d.foutApply ws
  else if arm = 0x1C07 then d.gbiasApply ws
  else if arm = 0x1C18 then c.finApply ws
  else if arm = 0x1C20 ∨ arm = 0x1900 ∨ arm = 0x130A then d.applyWords ws
  else if 0x1000 ≤ arm ∧ arm < 0x1004 then
    let m := arm - 0x1000
    if (c.seq m).round then c else (Chip.seqApply m d ws).startSeq m
  else if arm = 0x1010 then (if c.seqs.any (fun q => q.listening) then c else d.runApply ws)
  else if 0x1800 ≤ arm ∧ arm < 0x1804 then (if (c.excCh (arm - 0x1800)).hold then c else Chip.excApply (arm - 0x1800) d ws)
  else if radioArms.contains arm then c.radioApply
  else c

/-- REMOTE_SET_APPLY (R60): the unit's safe boundary, once its lane is LIVE. -/
def execRemoteSetApply (arm : Nat) (s : State) : Host.Outcome State Fault Refusal :=
  s.run (fun c => match c.armedSet arm with
    | some a => if c.live (armLane arm) then c.applyUnit arm a.words else c
    | none => c)

end Sys2Proof.Machine
end

