-- ==== Sys2Proof/Machine/Memory.lean ====
section
/-! DEFINITION. The memory port and the NOR on MCS0 (17 R754-R796): discovery, mapped reads, programs and erases, explicit transfers and
KEEP chains, the start-up list, silence, and what WARNING, TRIP and a lost VIO do to them. -/

namespace Sys2Proof.Machine

/-! ### Discovery (R768-R774, R781) -/

/-- DWORD `n` of the SFDP basic table, counted from 1; none when the table does not reach it. -/
def sfdpWord (t : List Word) (n : Nat) : Option Word := if n = 0 then none else t[n - 1]?

/-- Density in bytes of DWORD 2. -/
def sfdpDensity (w : Word) : Nat := if bit w 31 then 2 ^ (fld w 30 0 % 64) / 8 else (w.toNat + 1) / 8

/-- Maximum 4 KiB erase time of DWORD 10 in ms. -/
def sfdpEraseMs (w : Word) : Nat := 2 * (fld w 3 0 + 1) * (fld w 8 4 + 1) * [1, 16, 128, 1000].getD (fld w 10 9) 1

/-- DWORD 15 declares one of its defined quad-enable methods (R773). -/
def sfdpQuadEnable (w : Word) : Bool := decide (1 ≤ fld w 22 20) && decide (fld w 22 20 ≤ 6)

/-- Quad reads declared in DWORD 1: bit 0 1-1-4, bit 1 1-4-4; usable with DWORDs 3 and 15 (R771, R773). -/
def sfdpQuad (t : List Word) : Nat :=
  match sfdpWord t 1, sfdpWord t 3, sfdpWord t 15 with
  | some d, some _, some q => if sfdpQuadEnable q then fld d 22 22 + 2 * fld d 21 21 else 0
  | _, _, _ => 0

/-- Parameters of a NOR without a valid SFDP (R772). -/
def norFallback : NorParams := { density := 2 ^ 24, eraseOp := 0x20, eraseMs := 1000, page := 256, fallback := true }

/-- Parameters from the SFDP basic table; a feature whose DWORD the table does not reach is unused (R771, R781). -/
def norParams (minor : Nat) (t : List Word) (contRead : Bool) : NorParams :=
  let sus := match sfdpWord t 12, sfdpWord t 13 with
    | some a, some b => if bit a 31 then none else some (fld b 31 24)
    | _, _ => none
  { density := ((sfdpWord t 2).map sfdpDensity).getD (2 ^ 24), minor := minor % 256, dwords := t.length % 256,
    eraseOp := ((sfdpWord t 1).map (fun w => fld w 15 8)).getD 0x20, suspendOp := sus.getD 0,
    eraseMs := min 2000 (((sfdpWord t 10).map sfdpEraseMs).getD 1000), page := ((sfdpWord t 11).map (fun w => 2 ^ fld w 7 4)).getD 256,
    suspendOk := sus.isSome, quad := sfdpQuad t, contRead := contRead && (sfdpWord t 16).isSome }

/-- The quad-enable bit is read, and written once when it is clear; a failure leaves 1-1-1 (R773). -/
def Chip.quadEnable (c : Chip) (part : NorPart) (p : NorParams) : Chip × NorParams :=
  if p.quad = 0 ∨ part.qe = true then (c, p)
  else if c.therm.warning then (c.setBits 0x3E02 2, { p with quad := 0 })
  else if part.qeTakes then (c, { p with qeSet := true })
  else (c.setBits 0x3E02 2, { p with qeSet := true, quad := 0 })

/-- Memory discovery (R768-R774); the second component is false when the NOR is declared silent. -/
def Chip.discover (c : Chip) (part : NorPart) : Chip × Bool :=
  let c1 := c.upMem (fun m => { m with
    part := part, nor := part.programmed.foldl (fun n b => memWrite 0xFF n b.1 b.2) m.nor, retries := BitVec.ofNat 16 part.retries,
    lines := [], omitCmd := false, resetOwed := false })
  if part.answers then
    let p := match part.sfdp with
      | some (minor, t) => norParams minor t part.contRead
      | none => norFallback
    let q := c1.quadEnable part p
    (q.1.upMem (fun m => { m with state := .ready, jedec := part.jedec, par := q.2 }), true)
  else (c1.upMem (fun m => { m with state := .silent }), false)

/-- The widest mapped read that the NOR declares and MAX_WIDTH allows: 0 1-1-1, 1 1-1-4, 2 1-4-4 (R774). -/
def Chip.mapWidth (c : Chip) : Nat :=
  let w := c.runF 0x3E12 1 0
  if w = 2 ∧ c.mem.par.quad.testBit 1 then 2 else if 1 ≤ w ∧ c.mem.par.quad.testBit 0 then 1 else 0

/-! ### NOR requests (R775-R784, R788, R790) -/

/-- Bytes of the mapped window: 0xFF at and beyond the density (R775). -/
def MemPort.norRead (m : MemPort) (a n : Nat) : List Byte :=
  let k := min n (m.par.density - a)
  memRead 0xFF m.nor a k ++ List.replicate (n - k) 0xFF

/-- The 64-byte lines of a read, latest last, kept most recently used first; at most four are held (R776). -/
def touchLines (ls : List Nat) (a n : Nat) : List Nat :=
  let k := min ((a % 64 + n + 63) / 64) 4
  let last := (a + n - 1) / 64
  let new := (List.range k).map (fun i => (last - i) * 64)
  (new ++ ls.filter (fun l => !new.contains l)).take 4

/-- A mapped read is served (R775-R777). -/
def Chip.serveRead (c : Chip) (a n : Nat) : Chip :=
  c.upMem (fun m => { m with
    readData := m.norRead a n, answer := 0, readWaits := none, resetOwed := if a < m.par.density then false else m.resetOwed,
    lines := if n = 0 ∨ m.par.density ≤ a then m.lines else touchLines (if m.resetOwed then [] else m.lines) a n,
    omitCmd := m.par.contRead && c.runB 0x3E12 3 && decide (c.mapWidth = 2) })

/-- An answer to a NOR request. -/
def Chip.norAnswer (c : Chip) (a : Nat) : Chip := c.upMem (fun m => { m with answer := a })

/-- Why every NOR request is refused now: SILENT, THERMAL from TRIP to recovery, VIO_LOST (R788, R790, R792). -/
def Chip.norRefusal (c : Chip) : Option Nat :=
  if c.mem.state = .silent then some 3 else if c.therm.trip then some 4 else if !c.lands.vioGood then some 6 else none

/-- The bus is taken by a transfer or a program; an erase takes it only from a NOR without suspend (R755, R782). -/
def Chip.busTaken (c : Chip) : Bool := c.mem.xfer.isSome || c.mem.program.any (fun p => p.sent)

/-- A mapped read is served, behind a suspended erase where the NOR supports it, or waits (R782). -/
def Chip.tryRead (c : Chip) (a n : Nat) : Chip :=
  if c.busTaken then c.upMem (fun m => { m with readWaits := some (a, n), answer := 1 })
  else if c.mem.state = .erasing then
    if c.mem.par.suspendOk then (c.serveRead a n).upMem (fun m => { m with suspends := m.suspends + 1 })
    else c.upMem (fun m => { m with readWaits := some (a, n), answer := 1 })
  else c.serveRead a n

/-- MAPPED_READ (R775, R782): within the 16 MiB window. -/
def Chip.mappedRead (c : Chip) (a n : Nat) : Chip :=
  if c.mem.state = .undiscovered ∨ 2 ^ 24 < a + n then c
  else match c.norRefusal with
    | some r => c.norAnswer r
    | none => c.tryRead a n

/-- MAPPED_READ (R775). -/
def execMappedRead (addr len : Nat) (s : State) : Host.Outcome State Fault Refusal := s.run (fun c => c.mappedRead addr len)

/-- A program command is sent: the lines are invalidated before it (R778, R779). -/
def Chip.sendProgram (c : Chip) (p : Program) : Chip :=
  c.upMem (fun m => { m with program := some { p with sent := true }, lines := [], omitCmd := false, resetOwed := false, programs := m.programs + 1,
                             answer := 1 })

/-- PAGE_PROGRAM (R779, R784, R790): at most one page within one page boundary; it waits for the end of an erase. -/
def Chip.pageProgram (c : Chip) (a : Nat) (bs : List Byte) : Chip :=
  let pg := max 1 c.mem.par.page
  if c.mem.state = .undiscovered ∨ bs.isEmpty = true ∨ pg < a % pg + bs.length ∨ c.mem.program.isSome = true then c
  else match c.norRefusal with
    | some r => c.norAnswer r
    | none =>
      if c.therm.warning then c.norAnswer 4
      else if c.mem.erase.isSome || c.mem.xfer.isSome then
        c.upMem (fun m => { m with program := some { addr := a, bytes := bs }, answer := 1 })
      else c.sendProgram { addr := a, bytes := bs }

/-- PAGE_PROGRAM (R779). -/
def execPageProgram (addr : Nat) (bytes : List Byte) (s : State) : Host.Outcome State Fault Refusal := s.run (fun c => c.pageProgram addr bytes)

/-- SECTOR_ERASE (R780): complete when the command has been sent; the erase runs on. -/
def Chip.sectorErase (c : Chip) (a : Nat) : Chip :=
  if c.mem.state = .undiscovered ∨ c.mem.erase.isSome = true ∨ c.busTaken = true then c
  else match c.norRefusal with
    | some r => c.norAnswer r
    | none =>
      if c.therm.warning then c.norAnswer 4
      else c.upMem (fun m => { m with
        erase := some (a / 4096 * 4096), state := .erasing, lines := [], omitCmd := false, resetOwed := false, erases := m.erases + 1, answer := 0 })

/-- SECTOR_ERASE (R780). -/
def execSectorErase (addr : Nat) (s : State) : Host.Outcome State Fault Refusal := s.run (fun c => c.sectorErase addr)

/-! ### Explicit transfers (R756, R757, R762-R767, R789) -/

/-- The words of a chip select's timing: 0-3 its own, 8-15 the shared set. -/
def csWord (cs : Nat) : Nat := if cs < 4 then 0x3E08 + 2 * cs else 0x3E10

/-- The divisor of a chip select now (R756, R757). -/
def Chip.csDiv (c : Chip) (cs : Nat) : Nat :=
  let d := c.runF (csWord cs) 7 0
  if (c.tb.domains.getD 1 {}).source = 1 then d
  else
    let e := (12 * d + 9) / 10
    max 4 (e + e % 2)

/-- MSCK root frequency of the SPI domain in Hz. -/
def Chip.spiHz (c : Chip) : Nat := if (c.tb.domains.getD 1 {}).source = 1 then 80000000 else 96000000

/-- Clocks of a transfer (R762). -/
def xferClocks (w : Word) (len : Nat) : Nat :=
  let quad := fld w 25 24
  (if bit w 8 then 8 else 0) + [0, 24, 32, 0].getD (fld w 23 22) 0 / (if quad = 2 then 4 else 1) + fld w 20 16 + len / (if quad = 0 then 1 else 4)

/-- Duration above 20 ms, SETUP and HOLD included (R764). -/
def Chip.xferLong (c : Chip) (w : Word) (len : Nat) : Bool :=
  let a := c.runW (csWord (fld w 31 28))
  let f := 2 * c.spiHz
  let h := 2 * xferClocks w len + fld a 15 8 + fld a 23 16
  let z := b2n (decide (fld a 15 8 = 0)) + b2n (decide (fld a 23 16 = 0))
  decide (20000000 * f < h * c.csDiv (fld w 31 28) * 1000000000 + 5 * z * f)

/-- A GP chip select is claimed; the MCS lands need no claim. -/
def Chip.csClaimed (c : Chip) (cs : Nat) : Bool := decide (cs < 4) || (decide (8 ≤ cs) && c.gpClaimed (cs - 8))

/-- The check of GO (R764): 0 accepted, else the result. -/
def Chip.goCheck (c : Chip) (w : Word) (len : Nat) : Nat :=
  let cs := fld w 31 28
  if (4 ≤ cs ∧ cs < 8) ∨ fld w 25 24 = 3 ∨ fld w 23 22 = 3 ∨ (fld w 25 24 ≠ 0 ∧ len % 4 ≠ 0) then 2
  else if cs = 0 ∧ ([0x03, 0x0B, 0x05, 0x9F, 0x5A].contains (fld w 7 0) = false ∨ bit w 26 = false ∨ bit w 8 = false ∨ bit w 27 = true) then 3
  else if c.csClaimed cs = false then 2
  else if c.xferLong w len then 4
  else if cs = 0 ∧ c.mem.state = .silent then 5
  else if c.mem.xfer.isSome ∨ c.therm.trip = true then 6
  else 0

/-- A transfer begins (R762, R777, R782): one on MCS0 sends the owed soft reset and the exit of continuous read first, and suspends an erase. -/
def Chip.startXfer (c : Chip) (x : Transfer2) : Chip :=
  c.upMem (fun m => { m with
    xfer := some x, lines := if x.cs = 0 ∧ m.resetOwed = true then [] else m.lines, resetOwed := m.resetOwed && decide (x.cs ≠ 0),
    omitCmd := m.omitCmd && decide (x.cs ≠ 0),
    suspends := if x.cs = 0 ∧ m.state = .erasing ∧ m.par.suspendOk = true then m.suspends + 1 else m.suspends })

/-- The register write MEM_XFER_GO with GO set (R764): the result shows at once. -/
def Chip.xferGo (c : Chip) : Chip :=
  let w := c.reg 0x3E18
  let len := c.rf 0x3E1A 15 0
  let r := c.goCheck w len
  if r ≠ 0 then c.upMem (fun m => { m with result := r })
  else if !c.lands.vioGood then (c.upMem (fun m => { m with result := 8 })).setBits 0x3E02 8
  else (c.startXfer { cs := fld w 31 28, keep := bit w 27, rx := bit w 26, len := len, cmd := fld w 7 0 }).upMem (fun m => { m with result := 1 })

/-- The XFER_DONE entry of the end of a transfer (R766). -/
def Chip.xferEvent (c : Chip) (res : Nat) : Chip := if c.runB 0x3E00 16 then c.post0 0x0C 5 0x0510 false res 0 0 0 else c

/-- The next entry of the start-up list runs once the bus is free (R789). -/
def Chip.nextInit (c : Chip) : Chip :=
  if c.busTaken || c.therm.trip || !c.lands.vioGood then c
  else match c.mem.initLeft with
    | [] => c
    | i :: rest =>
      let w := c.runW (0x3E40 + i)
      (c.upMem (fun m => { m with initLeft := rest })).startXfer
        { cs := fld w 31 28, keep := false, rx := false, len := 8 * fld w 27 26, cmd := 0, init := some i }

/-- A memory-port set touches a chip select on which a transfer runs or a chain is open (R794). -/
def Chip.csBusy (c : Chip) (ws : List (Nat × Word)) : Bool :=
  let changed := fun (cs : Nat) =>
    decide (mget 0 ws (csWord cs) ≠ c.runW (csWord cs)) || decide (mget 0 ws (csWord cs + 1) ≠ c.runW (csWord cs + 1)) ||
    (decide (8 ≤ cs) && decide (bit (mget 0 ws 0x3E00) cs ≠ c.runB 0x3E00 cs))
  c.mem.xfer.any (fun x => changed x.cs) || c.mem.chain.any changed

/-- An accepted memory-port set that waited (R794). -/
def Chip.memWaited (c : Chip) : Chip := match c.armedSet 0x3E00 with
  | some a => if c.csBusy a.words then c else (c.dropArmed 0x3E00).applyWords a.words
  | none => c

/-- What waits for the bus goes on: an accepted set, a program, a read, the start-up list (R755, R784, R789, R794). -/
def Chip.busFree (c : Chip) : Chip :=
  let c1 := c.memWaited
  let c2 := match c1.mem.program with
    | some p => if !p.sent && c1.mem.erase.isNone && c1.mem.xfer.isNone then c1.sendProgram p else c1
    | none => c1
  let c3 := match c2.mem.readWaits with
    | some (a, n) => c2.tryRead a n
    | none => c2
  c3.nextInit

/-- A transfer ends with a result (R765, R766); of the start-up list, its entry becomes LAST. -/
def Chip.endXfer (c : Chip) (x : Transfer2) (res : Nat) : Chip :=
  let c1 := c.upMem (fun m => { m with xfer := none, result := if x.init.isSome then m.result else res, initLast := x.init.getD m.initLast,
                                       chain := if x.keep then some x.cs else if m.chain = some x.cs then none else m.chain })
  (c1.xferEvent res).busFree

/-- The bytes a reception leaves: the lower bits of an incomplete last byte are 0 (R763). -/
def rxBytes (len : Nat) (data : List Byte) : List Byte :=
  (List.range ((len + 7) / 8)).map (fun i =>
    let b := data.getD i 0
    if len < 8 * i + 8 then BitVec.ofNat 8 (b.toNat / 2 ^ (8 * i + 8 - len) * 2 ^ (8 * i + 8 - len)) else b)

/-- XFER_DONE (R762, R763, R766): received bits go to the buffer. A transfer on MCS0 behind an erase without suspend has not run (R795). -/
def Chip.xferDone (c : Chip) (data : List Byte) : Chip := match c.mem.xfer with
  | none => c
  | some x =>
    if x.cs = 0 ∧ c.mem.state = .erasing ∧ c.mem.par.suspendOk = false then c
    else (if x.rx then c.upMem (fun m => { m with buf := memWrite 0 m.buf 0 (rxBytes x.len data) }) else c).endXfer x 0

/-- XFER_DONE (R766). -/
def execXferDone (data : List Byte) (s : State) : Host.Outcome State Fault Refusal := s.run (fun c => c.xferDone data)

/-- KEEP_CHAIN_TIMEOUT (R765): no continuation within 10 ms. -/
def Chip.chainEnd (c : Chip) : Chip := match c.mem.chain with
  | none => c
  | some cs => if c.mem.xfer.any (fun x => x.cs == cs) then c else (c.upMem (fun m => { m with chain := none, result := 7 })).busFree

/-- KEEP_CHAIN_TIMEOUT (R765). -/
def execKeepChainTimeout (s : State) : Host.Outcome State Fault Refusal := s.run Chip.chainEnd

/-- ERASE_READ_TIMEOUT (R782, R795): the read that waits behind an erase is refused; a host transfer on MCS0 ends with REFUSED_BUSY. -/
def Chip.eraseReadTimeout (c : Chip) : Chip :=
  if c.mem.state = .erasing ∧ c.mem.par.suspendOk = false then
    match c.mem.xfer with
    | some x => if x.cs = 0 then c.endXfer x 6 else c
    | none => if c.mem.readWaits.isSome then c.upMem (fun m => { m with readWaits := none, answer := 2 }) else c
  else c

/-- ERASE_READ_TIMEOUT (R782). -/
def execEraseReadTimeout (s : State) : Host.Outcome State Fault Refusal := s.run Chip.eraseReadTimeout

/-- An erase that runs has ended: the sector is erased (R780). -/
def Chip.eraseDone (c : Chip) : Chip := match c.mem.erase with
  | some a => if c.mem.state = .erasing then
      (c.upMem (fun m => { m with nor := memWrite 0xFF m.nor a (List.replicate 4096 0xFF), erase := none, state := .ready })).busFree else c
  | none => c

/-- STATUS_POLL (R779, R780): once WIP is clear, a program is read back and compared, or the erase has ended. -/
def Chip.statusPoll (c : Chip) (wip intact : Bool) : Chip :=
  if wip then c
  else match c.mem.program with
    | some p =>
      if p.sent then
        let c1 := c.upMem (fun m => { m with program := none, tripGrace := false })
        (if intact then c1.upMem (fun m => { m with nor := memWrite 0xFF m.nor p.addr p.bytes, answer := 0 })
          else ((c1.norSpoil p.addr p.bytes.length).setBits 0x3E02 4).norAnswer 5).busFree
      else c.eraseDone
    | none => c.eraseDone

/-- STATUS_POLL (R779, R780). -/
def execStatusPoll (wip intact : Bool) (s : State) : Host.Outcome State Fault Refusal := s.run (fun c => c.statusPoll wip intact)

/-- MEM_XFER_GO (R764). -/
def execMemXferGo (s : State) : Host.Outcome State Fault Refusal := s.runHost Chip.xferGo

/-- A DIV is refused (R756): odd, 0, or above the limit of its chip select. -/
def divBad (w : Word) (top : Nat) : Bool := decide (fld w 7 0 % 2 = 1) || decide (fld w 7 0 = 0) || decide (top < fld w 7 0)

/-- MEM_CTL.ARM (R756, R794, R796). -/
def Chip.memCtlArm (c : Chip) : Chip :=
  let res := if divBad (c.reg 0x3E08) 16 || [0x3E0A, 0x3E0C, 0x3E0E, 0x3E10].any (fun a => divBad (c.reg a) 254) then 6
    else if c.rf 0x3E12 1 0 = 3 then 2 else 0
  let c1 := (c.armLast 0x3E00 res).setFld 0x3E00 3 0 res
  let ws := c1.shadow 0x3E00 1 ++ c1.shadow 0x3E08 11
  if res ≠ 0 then c1
  else if c1.csBusy ws then c1.holdSet 0x3E00 ws
  else (c1.dropArmed 0x3E00).applyWords ws

/-- MEM_CTL_ARM (R794). -/
def execMemCtlArm (s : State) : Host.Outcome State Fault Refusal := s.runHost Chip.memCtlArm

/-- The entries of the start-up list: up to the first with BYTES 0 (R789). -/
def Chip.initEntries (c : Chip) : List Nat := (List.range 16).takeWhile (fun i => decide (c.rf (0x3E40 + i) 27 26 ≠ 0))

/-- An entry of the list is refused: CS 0, or a CS that fails R764 (R789). -/
def Chip.initBad (c : Chip) (i : Nat) : Bool :=
  let cs := c.rf (0x3E40 + i) 31 28
  decide (cs = 0) || (decide (4 ≤ cs) && decide (cs < 8)) || !c.csClaimed cs

/-- MEM_INIT_CTL.ARM (R789): an accepted list runs once in entry order. -/
def Chip.memInitArm (c : Chip) : Chip :=
  let res := if c.initEntries.any c.initBad then 2 else 0
  let c1 := (c.armLast 0x3E50 res).setFld 0x3E50 3 0 res
  if res = 0 then ((c1.applyWords (c1.shadow 0x3E40 16)).upMem (fun m => { m with initLeft := if c.therm.trip then [] else c.initEntries })).nextInit
  else c1

/-- MEM_INIT_ARM (R789). -/
def execMemInitArm (s : State) : Host.Outcome State Fault Refusal := s.runHost Chip.memInitArm

/-! ### Dirty sectors, silence, TRIP and VIO (R785-R793) -/

/-- A sector left dirty: NOR_DIRTY with its cause, MEM_DIRTY and MEM_FAULT.DIRTY (R791). -/
def Chip.norDirty (c : Chip) (cause a : Nat) : Chip :=
  let s := a / 4096 * 4096 % 2 ^ 24
  ((c.upMem (fun m => { m with dirty := some (cause, s) })).setBits 0x3E02 16).journal 0x0C 0x09 (cause * 2 ^ 24 + s) 0 true

/-- A program or an erase under way ends without completing, and its sector is dirty. -/
def Chip.norAbandon (c : Chip) (cause : Nat) : Chip :=
  let c1 := match c.mem.program with
    | some p => if p.sent then ((c.norSpoil p.addr p.bytes.length).upMem (fun m => { m with program := none, tripGrace := false })).norDirty cause p.addr
        else c.upMem (fun m => { m with program := none })
    | none => c
  match c1.mem.erase with
  | some a => ((c1.norSpoil a 4096).upMem (fun m => { m with erase := none, state := if m.state = .silent then .silent else .ready })).norDirty cause a
  | none => c1

/-- The NOR address of the operation in progress. -/
def Chip.norAddr (c : Chip) : Nat :=
  ((c.mem.program.map (fun p => p.addr)).or (c.mem.erase.or (c.mem.readWaits.map (fun r => r.1)))).getD 0

/-- NVM_SILENT (R788): during a start it ends the start; after it, every NOR request is refused until the next start. -/
def Chip.norSilent (c : Chip) : Chip :=
  if c.starting then (if c.start.stirrupStart then c else (c.upMem (fun m => { m with state := .silent })).startFail 0x05)
  else if c.started = false ∨ c.mem.state = .undiscovered ∨ c.mem.state = .silent then c
  else
    let a := c.norAddr
    let c1 := c.norCut.upMem (fun m => { m with state := .silent, program := none, erase := none, readWaits := none, lines := [], tripGrace := false,
                                                answer := 3 })
    ((c1.setBits 0x3E02 1).protect 0x0C 0x0501 a 0 0 0).recordCause 0x05 false

/-- NVM_SILENT (R786, R788). -/
def execNvmSilent (s : State) : Host.Outcome State Fault Refusal := s.run Chip.norSilent

/-- The memory port at TRIP (R790, R791): a program has 3 ms; an erase is suspended or abandoned; what waits is refused with THERMAL. -/
def Chip.memTrip (c : Chip) : Chip :=
  let c1 := c.upMem (fun m => { m with
    program := m.program.filter (fun p => p.sent), tripGrace := m.program.any (fun p => p.sent), readWaits := none, initLeft := [],
    answer := if m.readWaits.isSome || m.program.any (fun p => !p.sent) then 4 else m.answer })
  match c1.mem.erase with
  | some a =>
    if c1.mem.state = .erasing then
      if c1.mem.par.suspendOk then (c1.upMem (fun m => { m with state := .suspended, suspends := m.suspends + 1 })).norDirty 2 a
      else ((c1.norSpoil a 4096).upMem (fun m => { m with erase := none, state := .ready })).norDirty 3 a
    else c1
  | none => c1

/-- The 3 ms of a program at TRIP have passed (R790, R791). -/
def Chip.memGraceOver (c : Chip) : Chip :=
  if c.mem.tripGrace then match c.mem.program with
    | some p => ((c.norSpoil p.addr p.bytes.length).upMem (fun m => { m with program := none, tripGrace := false })).norDirty 1 p.addr
    | none => c.upMem (fun m => { m with tripGrace := false })
  else c

/-- A suspended erase is resumed at the end of thermal hold (R790, R857). -/
def Chip.memResume (c : Chip) : Chip := if c.mem.state = .suspended then c.upMem (fun m => { m with state := .erasing }) else c

/-- The memory port at a loss of VIO (R792). -/
def Chip.memVioLost (c : Chip) : Chip :=
  let c1 := c.upMem (fun m => { m with
    lines := [], omitCmd := false, chain := none, readWaits := none, resetOwed := decide (m.state ≠ .undiscovered),
    answer := if m.readWaits.isSome || m.program.isSome || m.erase.isSome then 6 else m.answer })
  let c2 := match c1.mem.xfer with
    | some x => (c1.upMem (fun m => { m with xfer := none, result := if x.init.isSome then m.result else 8 })).xferEvent 8
    | none => c1
  (c2.norAbandon 4).setBits 0x3E02 8

end Sys2Proof.Machine
end

