-- ==== Sys2Proof/Machine/Thermal.lean ====
section
/-! DEFINITION. The temperature supervisor (19 R843-R857): samples, WARNING and its end, TRIP and thermal hold, and the deferred records and
commits written when WARNING ends. -/

namespace Sys2Proof.Machine

/-! ### Readings (R843, R844, R847) -/

/-- The sensor of a die is read: the logic die's always, another's while its lane is LIVE. -/
def Chip.sensed (c : Chip) (d : Nat) : Bool := decide (d = 0) || (decide (d < 4) && c.live (d - 1))

/-- The hotDie reading, and its die: the lowest number on a tie. -/
def hotDie (ts : List Int) : Int × Nat :=
  (List.range ts.length).foldl (fun a d => if a.1 < ts.getD d 0 then (ts.getD d 0, d) else a) (ts.getD 0 0, 0)

/-- Readings of the four dies; a die that is not read takes the hotDie of those that are (R844). -/
def Chip.readings (c : Chip) (ts : List Int) : List Int :=
  let seen := (List.range 4).filter c.sensed
  let hot := seen.foldl (fun a d => if a < ts.getD d 0 then ts.getD d 0 else a) (ts.getD 0 0)
  (List.range 4).map (fun d => if c.sensed d then ts.getD d 0 else hot)

/-- The dies of a list of readings at or above a threshold. -/
def diesAbove (ts : List Int) (t : Int) : BitVec 4 :=
  BitVec.ofNat 4 ((List.range 4).foldl (fun a d => if t ≤ ts.getD d 0 then a + 2 ^ d else a) 0)

/-- A supervisor event (R847): THERM_WARNING and THERM_TRIP are CLASS PROTECTION, their ends INFO; JOURNAL is set in all. -/
def thermEntry (code die : Nat) (reading : Int) : Entry :=
  entry0 0x01 (if code ≤ 0x0702 then 1 else 5) code true die (ux 32 reading) 0 0

/-- A supervisor event is produced. -/
def Chip.thermEvent (c : Chip) (code die : Nat) (reading : Int) : Chip := c.produce 0x01 0 (thermEntry code die reading)

/-- New readings: the latest temperatures, the peak since keeper retention began, the drift model's temperature bound, and the TEMP signal
(R352, R353, R546, R869). -/
def Chip.newTemps (c : Chip) (ts : List Int) : Chip :=
  let old := c.hotDegrees
  let h := hotDie ts
  let c1 := (c.upTherm (fun t => { t with
      temps := ts, warnDies := diesAbove ts 2000,
      peak := if !t.peakSeen || decide (t.peak < h.1) then h.1 else t.peak,
      peakDie := if !t.peakSeen || decide (t.peak < h.1) then h.2 else t.peakDie, peakSeen := true })).upKeeper
    (fun k => { k with rateTempOk := k.rateTempOk && decide ((ts.getD 1 0 - k.rateTemp).natAbs ≤ 80) })
  if c1.hotDegrees = old then c1 else c1.postSignal 0x01 0x16

/-! ### WARNING (R845, R848-R852) -/

/-- WARNING begins (R845, R847). -/
def Chip.warningBegins (c : Chip) : Chip :=
  let h := hotDie c.therm.temps
  ((c.upTherm (fun t => { t with warning := true, below120 := 0 })).setBits 0x0071 1).thermEvent 0x0701 h.2 h.1

/-- One deferred HOUR_COMMIT record, with the meter's count at this moment (R850). -/
def Chip.writeHour (c : Chip) (m : Nat) : Chip :=
  let x := c.meter m
  (c.record (c.recWord0 0x01 0x02) (hourWord1 m x.running (decide (x.count = meterCeil)) x.count) 0).upMeter m
    (fun x => { x with committed := x.count, commitDue := false })

/-- A held commit placed in STRUCT order. -/
def insertCommit (h : Nat × Nat × List Byte) : List (Nat × Nat × List Byte) → List (Nat × Nat × List Byte)
  | [] => [h]
  | x :: xs => if x.1 ≤ h.1 then x :: insertCommit h xs else h :: x :: xs

/-- R483 applied to a calibration commit that WARNING held (R492): abandoned when the converter die is no longer within 10 °C. -/
def Chip.heldCal (c : Chip) : Chip :=
  if c.therm.calHeld then
    let c1 := c.upTherm (fun t => { t with calHeld := false })
    if c1.burnishWarm (c1.therm.temps.getD 1 0) then c1
    else (c1.upTherm (fun t => { t with held := t.held.filter (fun h => h.1 != 4) })).burnishEnd 4 5 0
  else c

/-- What WARNING deferred is written (R852): HOUR_COMMIT records in meter order, the deferral store in order, then the held commits in
STRUCT order. -/
def Chip.flushDeferred (c : Chip) : Chip :=
  let hours := (List.range 16).filter (fun m => c.keeper.deferredHours.any (fun p => p.1 == m))
  let c1 := (hours.foldl Chip.writeHour c).upKeeper (fun k => { k with deferredHours := [] })
  let recs := c1.therm.deferred
  let c2 := recs.foldl (fun c e => (c.recordWords e).theftNote (fld (ew e 1) 31 24)) (c1.upTherm (fun t => { t with deferred := [] }))
  let c3 := c2.heldCal
  let hs := c3.therm.held.foldl (fun l h => insertCommit h l) []
  let c4 := (c3.upTherm (fun t => { t with held := [] })).upMram (fun m => { m with commits := m.commits ++ hs })
  { c4 with acq := { c4.acq with keep := { c4.acq.keep with deferred := false } } }

/-- Records or commits are held under R850 or R851 (SYS_THERM_STAT.DEFER_PENDING). -/
def Chip.deferPending (c : Chip) : Bool :=
  !c.therm.deferred.isEmpty || !c.keeper.deferredHours.isEmpty || !c.therm.held.isEmpty

/-- WARNING ends (R845, R852). -/
def Chip.warningEnds (c : Chip) : Chip :=
  let h := hotDie c.therm.temps
  (c.upTherm (fun t => { t with warning := false, below120 := 0 })).thermEvent 0x0703 h.2 h.1

/-! ### TRIP and thermal hold (R846, R853-R857, R259, R664, R567, R492) -/

/-- Commits begun and not finished stop at TRIP (R492, R569, R853): the burnish's is interrupted, the others are held. -/
def Chip.tripCommits (c : Chip) : Chip :=
  let go := c.mram.commits.filter (fun h => h.1 != 4)
  let c1 := (c.upMram (fun m => { m with commits := [] })).upTherm (fun t => { t with
    held := go.filter (fun h => !t.held.any (fun k => k.1 == h.1)) ++ t.held })
  if c1.burnish.committing && !c1.therm.calHeld then c1.burnishInterrupt 3 else c1

/-- The fix in progress fails with REASON THERMAL (R567). -/
def Chip.tripFix (c : Chip) : Chip := if c.acq.state = .waiting then c else c.failFix 4

/-- TRIP begins (R846, R853, R854): the event and its record, the THERMAL history entry, the NOR, then the radio, the fix and the burnish
commit; a start stops (R259). -/
def Chip.tripBegins (c : Chip) (die : Nat) (reading : Int) : Chip :=
  let e := c.stamp 0 (thermEntry 0x0702 die reading)
  let c1 := ((c.upTherm (fun t => { t with trip := true, below115 := 0 })).setBits 0x0071 2).thermEvent 0x0702 die reading
  let c2 := (c1.recordWords (eventRecord e)).recordCause 0x0E false
  let c3 := (((c2.memTrip).tripCommits).abortRadio 9).tripFix
  if c3.start.phase = .dies then c3.upStart (fun s => { s with phase := .tripped }) else c3

/-- Thermal hold ends (R846, R857, R259). -/
def Chip.tripEnds (c : Chip) : Chip :=
  let h := hotDie c.therm.temps
  let c1 := (c.upTherm (fun t => { t with trip := false, tripDies := 0, below115 := 0 })).thermEvent 0x0704 h.2 h.1
  let c2 := if c1.therm.warning ∧ 2 ≤ c1.therm.below120 then c1.warningEnds else c1
  let c3 := (c2.memResume).leaveHold true
  if c3.start.phase = .tripped then c3.upStart (fun s => { s with phase := .dies }) else c3

/-- The consecutive samples below the two thresholds (R845, R846). -/
def Chip.countBelow (c : Chip) : Chip :=
  c.upTherm (fun t => { t with
    below120 := if t.temps.all (fun x => decide (x < 1920)) then t.below120 + 1 else 0,
    below115 := if t.temps.all (fun x => decide (x < 1840)) then t.below115 + 1 else 0 })

/-- A sample of every die (R843-R847). -/
def Chip.thermalSample (c : Chip) (ts : List Int) : Chip :=
  let c1 := (c.newTemps (c.readings ts)).countBelow
  let h := hotDie c1.therm.temps
  let c2 := if !c1.therm.warning && decide (2000 ≤ h.1) then c1.warningBegins else c1
  let hot := diesAbove c2.therm.temps 2240
  let c3 := c2.upTherm (fun t => { t with tripDies := if t.trip || decide (hot ≠ 0) then hot else 0 })
  let c4 := if hot = 0 ∨ c3.therm.trip = true then c3 else c3.tripBegins h.2 h.1
  let c5 := if c4.therm.trip && decide (2 ≤ c4.therm.below115) then c4.tripEnds
    else if c4.therm.warning && !c4.therm.trip && decide (2 ≤ c4.therm.below120) then c4.warningEnds else c4
  if c5.deferPending && !c5.therm.warning && !c5.therm.trip then c5.flushDeferred else c5

/-- THERMAL_SAMPLE (R845, R846): the readings in 1/16 °C. -/
def execThermalSample (logic conv radio field : Int) (s : State) : Host.Outcome State Fault Refusal :=
  s.run (fun c => c.thermalSample [logic, conv, radio, field])

/-- THERM_TRIP (R846): the comparator of a powered die fires. -/
def execThermTrip (die : Nat) (reading : Int) (s : State) : Host.Outcome State Fault Refusal :=
  s.run (fun c =>
    if c.sensed die then
      let c1 := c.upTherm (fun t => { t with tripDies := t.tripDies ||| BitVec.ofNat 4 (2 ^ die) })
      if c1.therm.trip then c1 else c1.tripBegins die reading
    else c)

/-- THERMAL_HOLD_ENTER (R132, R853, R855): writes have ended; a start or STIRRUP enters no hold. -/
def execThermalHoldEnter (s : State) : Host.Outcome State Fault Refusal :=
  s.run (fun c => if c.therm.trip then (if c.started then (c.memGraceOver).enterHold true else c.memGraceOver) else c)

end Sys2Proof.Machine
end

