-- ==== Sys2Proof/Machine/Image.lean ====
section
/-! DEFINITION. The tack image in the NOR (06 R264-R269): slots, boot pointers, the header and its sections, and the image check in its
order, as the start and the update engine's verification share it. -/

namespace Sys2Proof.Machine

/-- NOR address of a slot: 0 A, 1 B (R797). -/
def slotBase (slot : Nat) : Nat := if slot = 1 then 0x210000 else 0x010000

/-- Bytes of a slot, through the mapped window. -/
def MemPort.slot (m : MemPort) (slot off n : Nat) : List Byte := m.norRead (slotBase slot + off) n

/-! ### Boot pointers (R264) -/

/-- A boot-pointer sector: its SEQ and slot, when it is valid. -/
def MemPort.bootPtr (m : MemPort) (a : Nat) : Option (Word × Nat) :=
  let b := m.norRead a 16
  if b.take 4 = [0x42, 0x50, 0x54, 0x52] ∧ leAt b 8 1 ≤ 1 ∧ leAt b 9 3 = 0 ∧ leAt b 12 4 = crc32 (b.take 12) then
    some (wd (leAt b 4 4), leAt b 8 1)
  else none

/-- The slot that the boot pointers name: the later one's, that at 0x000000 when neither is later, A when none is valid (R264). -/
def MemPort.bootSlot (m : MemPort) : Nat :=
  match m.bootPtr 0, m.bootPtr 0x1000 with
  | some a, some b => if serialLater b.1 a.1 then b.2 else a.2
  | some a, none => a.2
  | none, some b => b.2
  | none, none => 0

/-- The 16 bytes of a boot pointer. -/
def bootBytes (seq : Word) (slot : Nat) : List Byte :=
  let b : List Byte := [0x42, 0x50, 0x54, 0x52] ++ leBytes 4 seq.toNat ++ leBytes 4 slot
  b ++ leBytes 4 (crc32 b)

/-! ### Header and sections (R266, R267) -/

/-- The 256 header bytes of a slot. -/
def MemPort.header (m : MemPort) (slot : Nat) : List Byte := m.slot slot 0 0x100

/-- IMAGE_LEN. -/
def imgLen (h : List Byte) : Nat := leAt h 0x008 4
/-- IMAGE_VERSION. -/
def imgVersion (h : List Byte) : Nat := leAt h 0x00C 4
/-- SETTINGS_FORMAT. -/
def imgFormat (h : List Byte) : Nat := leAt h 0x010 2
/-- MIGRATE_FROM. -/
def imgMigrate (h : List Byte) : Nat := leAt h 0x012 2
/-- FLAGS. -/
def imgFlags (h : List Byte) : Word := wd (leAt h 0x014 4)
/-- SIGNER_KEY. -/
def imgSigner (h : List Byte) : List Byte := slice h 0x080 64

/-- The section entries in use: TYPE, FLAGS, OFFSET, LENGTH. -/
def imgSections (h : List Byte) : List (Nat × Nat × Nat × Nat) :=
  ((List.range 8).map (fun i =>
    let a := 0x020 + 12 * i
    (leAt h a 2, leAt h (a + 2) 2, leAt h (a + 4) 4, leAt h (a + 8) 4))).filter (fun s => s.1 != 0)

/-- Two sections overlap. -/
def sectionsMeet (a b : Nat × Nat × Nat × Nat) : Bool := decide (a.2.2.1 < b.2.2.1 + b.2.2.2) && decide (b.2.2.1 < a.2.2.1 + a.2.2.2)

/-- Some two sections of a list overlap, or share one of the types 0x0001 to 0x0006. -/
def sectionsClash : List (Nat × Nat × Nat × Nat) → Bool
  | [] => false
  | s :: ss => ss.any (fun t => sectionsMeet s t || (decide (s.1 = t.1) && decide (s.1 ≤ 6))) || sectionsClash ss

/-- Step 2 of the image check fails (R266). -/
def imgMalformed (h : List Byte) : Bool :=
  let len := imgLen h
  let ss := imgSections h
  decide (leAt h 4 2 ≠ 1) || decide (leAt h 6 2 ≠ 0x100) || decide (0x200000 < len + 96) ||
    ss.any (fun s => decide (s.2.2.1 % 4 ≠ 0) || decide (s.2.2.1 < 0x100) || decide (len < s.2.2.1 + s.2.2.2)) || sectionsClash ss ||
    !ss.any (fun s => s.1 == 2) || ss.any (fun s => decide (6 < s.1) && decide (s.2.1 % 2 = 1)) || ss.any (fun s => decide (1 < s.2.1)) ||
    decide (fld (imgFlags h) 31 8 ≠ 0) || decide (fld (imgFlags h) 3 2 ≠ 0) || decide (leAt h 0x01C 4 ≠ 0) || decide (leNat (slice h 0x0E0 32) ≠ 0)

/-- The bytes of a section by its type. -/
def MemPort.section (m : MemPort) (slot type : Nat) : Option (List Byte) :=
  ((imgSections (m.header slot)).find? (fun s => s.1 == type)).map (fun s => m.slot slot s.2.2.1 s.2.2.2)

/-! ### The image check (R266, R268, R833) -/

/-- Steps 1 to 3 of the image check: the cause of the first failure: 1 IMAGE_ABSENT, 4 IMAGE_FORMAT, 2 IMAGE_HASH. -/
def MemPort.imageFault (m : MemPort) (slot : Nat) : Option Nat :=
  let h := m.header slot
  if h.take 4 ≠ [0x54, 0x41, 0x43, 0x4B] then some 1
  else if imgMalformed h then some 4
  else if sha256 (m.slot slot 0 (imgLen h)) ≠ m.slot slot (imgLen h) 32 then some 2
  else none

/-- A signer key is accepted: the image-key hash of the locked store, or a nonzero NEXT_KEY_HASH (R266, R833). -/
def signerAccepted (k : KeyStore) (next : List Byte) (signer : List Byte) : Bool :=
  (k.locked && decide (sha256 signer = k.imageKeyHash)) || (decide (leNat next ≠ 0) && decide (sha256 signer = next))

/-- Step 4 of the image check passes. -/
def MemPort.imageSigned (m : MemPort) (slot : Nat) (k : KeyStore) (next : List Byte) : Bool :=
  let h := m.header slot
  signerAccepted k next (imgSigner h) && ecdsaVerify (imgSigner h) (m.slot slot (imgLen h + 32) 64) (m.slot slot 0 (imgLen h))

end Sys2Proof.Machine
end

