-- ==== Sys2Proof/Machine/Update.lean ====
section
/-! DEFINITION. The download and verification side of the update engine (18 R797-R815, R832, R835-R839): ring-6 entries, staging buffers,
chunks, verification, activation, reversion, and the key-roll command. -/

namespace Sys2Proof.Machine

/-! ### The record and its events (R800, R842) -/

/-- A change of the record by the update engine. -/
def Chip.upRec (c : Chip) (f : UpdRec → UpdRec) : Chip := c.commitUpd (f c.upd.record)

/-- LAST_ERR is set: 1 FORMAT, 2 STATE, 3 DROPPED, 4 NOR, 5 THERMAL, 6 SILENT, 7 HASH, 8 SIGNATURE; SILENT leaves the record in MRAM
unchanged (R836). -/
def Chip.updErr (c : Chip) (e : Nat) : Chip :=
  if e = 6 then c.upUpd (fun u => { u with record := { u.record with lastErr := 6 } }) else c.upRec (fun r => { r with lastErr := e })

/-- A stage event: ORIGIN 0x0D, CLASS INFO, JOURNAL set; the slot and VERSION (R842). -/
def Chip.updEvent (c : Chip) (code slot : Nat) : Chip := c.post0 0x0D 5 code true slot c.upd.record.version 0 0

/-- The slot that the present start did not load (R797). -/
def Chip.inactiveSlot (c : Chip) : Nat := 1 - c.start.slot

/-- The chunk count of a download (R803). -/
def UpdRec.chunks (r : UpdRec) : Nat := (r.total + 4095) / 4096

/-- The lowest missing chunk; the chunk count when none is missing (UPD_NEXT). -/
def UpdRec.next (r : UpdRec) : Nat := ((List.range r.chunks).find? (fun i => !r.bitmap.getLsbD i)).getD r.chunks

/-- A start with trigger HOST follows the commit of the record, or waits for it while WARNING holds it (R815, R835, R839). -/
def Chip.startAfter (c : Chip) : Chip :=
  if c.therm.warning || c.therm.trip then c.upUpd (fun u => { u with after := 1 }) else c.beginStart 4

/-! ### Ring-6 entries (R801-R804, R809, R815, R838, R839) -/

/-- The kind of a ring-6 entry, when its fields are in range (R801). -/
def updKind (e : Entry) : Option Nat :=
  let k := fld (ew e 0) 31 24
  if k = 2 then
    (let n := fld (ew e 0) 23 16
     if n % 4 = 0 ∧ 4 ≤ n ∧ n ≤ 24 ∧ fld (ew e 1) 15 0 % 4 = 0 then some 2 else none)
  else if k = 1 ∨ k = 3 ∨ k = 4 ∨ k = 5 then some k else none

/-- The update engine works: the first mode of a start has been reached (R275, R808). -/
def Chip.updRuns (c : Chip) : Bool := c.started && decide (c.mode ≠ 7)

/-- The oldest ring-6 entry, while the engine runs. -/
def Chip.updHead (c : Chip) : Option Entry := if c.updRuns && decide ((c.ring 6).fill ≠ 0) then some (c.tailEntry 6 0) else none

/-- The head entry of a kind is consumed, and acts (R810, R838). -/
def Chip.updRow (c : Chip) (kind : Option Nat) (act : Chip → Entry → Chip) : Chip := match c.updHead with
  | some e => if updKind e = kind then act (c.consume 6 1) e else c
  | none => c

/-- BEGIN (R802, R836). -/
def Chip.updBegin (c : Chip) (e : Entry) : Chip :=
  let r := c.upd.record
  let total := (ew e 1).toNat
  let version := (ew e 2).toNat
  if c.mem.state = .silent then c.updErr 6
  else if r.state = 3 ∨ r.state = 5 then c.updErr 2
  else if total % 4 ≠ 0 ∨ total < 352 ∨ 2097152 < total then c.updErr 1
  else if r.state ≠ 0 ∧ bit (ew e 0) 0 = false ∧ total = r.total ∧ version = r.version then c
  else (c.upUpd (fun u => { u with staging := [] })).upRec (fun r => { r with
    state := 1, target := c.inactiveSlot, total := total, version := version, bitmap := 0 })

/-- BEGIN (R802). -/
def execBegin (s : State) : Host.Outcome State Fault Refusal := s.run (fun c => c.updRow (some 1) Chip.updBegin)

/-- The data bytes of a DATA entry. -/
def updData (e : Entry) : List Byte := (wordsToBytes (e.drop 2)).take (fld (ew e 0) 23 16)

/-- Bytes of a staging buffer with data added at an offset; a word received twice keeps its later value (R804). -/
def Staging.add (b : Staging) (off : Nat) (bs : List Byte) : Staging :=
  let ws := (List.range (bs.length / 4)).map (fun i => off / 4 + i)
  { b with bytes := memWrite 0xFF b.bytes off bs, words := ws.filter (fun w => !b.words.contains w) ++ b.words }

/-- DATA (R803, R804, R836). -/
def Chip.updDataEntry (c : Chip) (e : Entry) : Chip :=
  let r := c.upd.record
  let chunk := fld (ew e 1) 31 16
  let off := fld (ew e 1) 15 0
  let bs := updData e
  if c.mem.state = .silent then c.updErr 6
  else if r.state ≠ 1 then c.updErr 2
  else if r.chunks ≤ chunk ∨ 4096 < off + bs.length ∨ r.total < 4096 * chunk + off + bs.length then c.updErr 1
  else if r.bitmap.getLsbD chunk then c.upUpd (fun u => { u with dup := u.dup + 1 })
  else if c.upd.staging.any (fun b => b.chunk == chunk && !b.written) then
    c.upUpd (fun u => { u with staging := u.staging.map (fun b => if b.chunk = chunk then b.add off bs else b) })
  else if c.upd.staging.length < 2 ∧ c.upd.staging.any (fun b => b.chunk == chunk) = false then
    c.upUpd (fun u => { u with staging := u.staging ++ [({ chunk := chunk } : Staging).add off bs] })
  else (c.upUpd (fun u => { u with dropped := u.dropped + 1 })).updErr 3

/-- DATA (R803). -/
def execData (s : State) : Host.Outcome State Fault Refusal := s.run (fun c => c.updRow (some 2) Chip.updDataEntry)

/-- ACTIVATE (R815, R836). -/
def Chip.updActivate (c : Chip) (e : Entry) : Chip :=
  if c.mem.state = .silent then c.updErr 6
  else if c.upd.record.state ≠ 4 then c.updErr 2
  else
    let c1 := (c.upRec (fun r => { r with
      boot := r.target, state := 5, trialStarts := 0, trialSec := 0, checks := 0, migBank := 0xFF, failedCheck := 0xFF })).updEvent 0x0604 c.upd.record.target
    if bit (ew e 0) 0 then c1.startAfter else c1

/-- ACTIVATE (R815). -/
def execActivate (s : State) : Host.Outcome State Fault Refusal := s.run (fun c => c.updRow (some 3) Chip.updActivate)

/-- ABORT (R809). -/
def Chip.updAbort (c : Chip) (_e : Entry) : Chip :=
  let st := c.upd.record.state
  if st = 1 ∨ st = 2 ∨ st = 4 then (c.upUpd (fun u => { u with staging := [] })).upRec (fun r => { r with state := 0, bitmap := 0 })
  else c.updErr 2

/-- ABORT (R809). -/
def execAbort (s : State) : Host.Outcome State Fault Refusal := s.run (fun c => c.updRow (some 4) Chip.updAbort)

/-- REVERT (R839). -/
def Chip.updRevert (c : Chip) (_e : Entry) : Chip :=
  if c.upd.record.state = 5 then (c.upRec (fun r => { r with trialStarts := 3 })).startAfter else c.updErr 2

/-- REVERT (R839). -/
def execRevert (s : State) : Host.Outcome State Fault Refusal := s.run (fun c => c.updRow (some 5) Chip.updRevert)

/-- UPDATE_ENTRY_INVALID (R801): consumed, discarded, LAST_ERR FORMAT. -/
def execUpdateEntryInvalid (s : State) : Host.Outcome State Fault Refusal := s.run (fun c => c.updRow none (fun c _ => c.updErr 1))

/-! ### Chunks (R805-R807, R835) -/

/-- Every word of the chunk within TOTAL has been received (R805). -/
def Staging.complete (b : Staging) (total : Nat) : Bool :=
  (List.range (min 1024 ((total - 4096 * b.chunk) / 4))).all (fun w => b.words.contains w)

/-- The 4096 bytes written for a buffer: bytes beyond TOTAL are 0xFF. -/
def Staging.sector (b : Staging) (total : Nat) : List Byte := padTo 4096 0xFF (memRead 0xFF b.bytes 0 (min 4096 (total - 4096 * b.chunk)))

/-- A failed write discards the buffer and sets LAST_ERR (R806). -/
def Chip.chunkFails (c : Chip) (b : Staging) (e : Nat) : Chip :=
  (c.upUpd (fun u => { u with staging := u.staging.filter (fun x => x.chunk != b.chunk) })).updErr e

/-- CHUNK_WRITE (R805, R806, R835): the sector of the first complete buffer is erased, programmed and read back. While a die is at WARNING a
complete buffer is held, and a write already begun that the port refuses fails with THERMAL. -/
def Chip.chunkWrite (c : Chip) (intact : Bool) : Chip :=
  let total := c.upd.record.total
  if !c.updRuns || decide (c.upd.record.state ≠ 1) then c
  else match c.upd.staging.find? (fun b => b.complete total && !b.written) with
    | none => c
    | some b =>
      let a := slotBase c.upd.record.target + 4096 * b.chunk
      if c.mem.state = .silent then c.chunkFails b 6
      else if c.therm.warning || c.therm.trip then (if intact then c else (c.norSpoil a 4096).chunkFails b 5)
      else if !intact || !c.lands.vioGood then (c.norSpoil a 4096).chunkFails b 4
      else
        (c.upMem (fun m => { m with
          nor := memWrite 0xFF m.nor a (b.sector total), lines := [], omitCmd := false, resetOwed := false, erases := m.erases + 1,
          programs := m.programs + BitVec.ofNat 16 (4096 / max 1 m.par.page) })).upUpd
          (fun u => { u with staging := u.staging.map (fun x => if x.chunk = b.chunk then { x with written := true } else x) })

/-- CHUNK_WRITE (R805). -/
def execChunkWrite (intact : Bool) (s : State) : Host.Outcome State Fault Refusal := s.run (fun c => c.chunkWrite intact)

/-- CHUNK_COMMIT (R805, R807): the chunk's bit, and DOWNLOADED with the last one. -/
def Chip.chunkCommit (c : Chip) : Chip :=
  if !c.updRuns || decide (c.upd.record.state ≠ 1) then c
  else match c.upd.staging.find? (fun b => b.written) with
    | none => c
    | some b =>
      let r := c.upd.record
      let map := r.bitmap ||| BitVec.ofNat 512 (2 ^ b.chunk)
      let last := (List.range r.chunks).all (fun i => map.getLsbD i)
      let c1 := (c.upUpd (fun u => { u with staging := u.staging.filter (fun x => x.chunk != b.chunk) })).upRec
        (fun r => { r with bitmap := map, state := if last then 2 else r.state })
      if last then c1.updEvent 0x0601 r.target else c1

/-- CHUNK_COMMIT (R805). -/
def execChunkCommit (s : State) : Host.Outcome State Fault Refusal := s.run Chip.chunkCommit

/-! ### Verification (R811-R813, R833, R835, R836) -/

/-- The error of a verification of the inactive slot: 1 FORMAT, 7 HASH, 8 SIGNATURE; none when it passes (R811, R812). -/
def Chip.verifyErr (c : Chip) : Option Nat :=
  let s := c.inactiveSlot
  match c.mem.imageFault s with
  | some 2 => some 7
  | some _ => some 1
  | none =>
    let h := c.mem.header s
    if !c.mem.imageSigned s c.mram.keys c.upd.record.nextKeyHash then some 8
    else if imgLen h + 96 ≠ c.upd.record.total ∨ imgVersion h ≠ c.upd.record.version then some 1
    else none

/-- VERIFICATION (R811, R812): STATE VERIFYING is committed, then the outcome. -/
def Chip.verify (c : Chip) : Chip :=
  if !c.updRuns || (decide (c.upd.record.state ≠ 2) && decide (c.upd.record.state ≠ 3)) || c.therm.warning || c.therm.trip then c
  else if c.mem.state = .silent then c.updErr 6
  else
    let c1 := c.upRec (fun r => { r with state := 3 })
    match c1.verifyErr with
    | none => (c1.upRec (fun r => { r with state := 4 })).updEvent 0x0602 c.upd.record.target
    | some e => (c1.upRec (fun r => { r with state := 1, bitmap := 0, lastErr := e })).updEvent 0x0603 c.upd.record.target

/-- VERIFICATION (R811). -/
def execVerification (s : State) : Host.Outcome State Fault Refusal := s.run Chip.verify

/-! ### Key-roll commands (R832) -/

/-- The result of a key-roll command in UPD_KEY_BUF: 0xA NOT_READY on trial or during a start, then the checks of R286. -/
def Chip.keyRollResult (c : Chip) (cmd : List Byte) : Nat :=
  if c.upd.record.state = 5 ∨ c.started = false then 0xA
  else c.commandCheck cmd 176 0x4B 0x52 c.upd.nonce 48
    (decide (leAt cmd 2 1 = 1 ∨ leAt cmd 2 1 = 2) && decide (leAt cmd 3 1 = 0))

/-- UPD_KEY_CTL.GO (R832): checked, a new challenge drawn, and NEXT_KEY_HASH committed when it is accepted. -/
def Chip.keyRoll (c : Chip) : Chip :=
  let cmd := c.bufBytes 0x4080 44
  let res := c.keyRollResult cmd
  let p := c.draw
  let c1 := p.1.upUpd (fun u => { u with nonce := p.2, keyResult := res })
  if res = 1 then c1.upRec (fun r => { r with nextKeyHash := if leAt cmd 2 1 = 1 then slice cmd 16 32 else List.replicate 32 0 }) else c1

/-- SET_NEXT (R832): the command's own OPCODE decides. -/
def execSetNext (s : State) : Host.Outcome State Fault Refusal := s.runHost Chip.keyRoll
/-- CLEAR_NEXT (R832). -/
def execClearNext (s : State) : Host.Outcome State Fault Refusal := s.runHost Chip.keyRoll

end Sys2Proof.Machine
end

