-- ==== Sys2Proof/Machine/RegMap.lean ====
section
/-! DEFINITION. The register map (20 R870-R889): for every mapped word, which bits are SH, RW, RO, W1C and WO, which are an ARM result, and
whether bit 31 is an ARM field. -/

namespace Sys2Proof.Machine

/-- The access codes of the words `lo` to `hi`, as masks (00 R6-R12): shadow, read-write, read-only, write-1-to-clear, write-only and ARM
result bits. -/
structure RegRow where
  lo : Nat
  hi : Nat
  sh : Nat := 0
  rw : Nat := 0
  ro : Nat := 0
  w1c : Nat := 0
  wo : Nat := 0
  res : Nat := 0
  arm : Bool := false
  deriving DecidableEq, Repr

/-- All 32 bits. -/
def allBits : Nat := 0xFFFFFFFF

/-- System registers (01, 02, 03, 06, 19, 20). -/
def sysRows : List RegRow := [
  { lo := 0x0000, hi := 0x0003, ro := allBits },
  { lo := 0x0008, hi := 0x0008, ro := 0xFFF },
  { lo := 0x0009, hi := 0x0009, w1c := 0x3FF },
  { lo := 0x000C, hi := 0x000F, ro := allBits },
  { lo := 0x0010, hi := 0x0010, ro := 0x3, w1c := 0x4 },
  { lo := 0x0011, hi := 0x0011, sh := 0xFFF, arm := true },
  { lo := 0x0020, hi := 0x0020, ro := 0x0FF70FFF },
  { lo := 0x0021, hi := 0x0021, wo := allBits },
  { lo := 0x0022, hi := 0x0022, sh := 0x3FF, arm := true },
  { lo := 0x0023, hi := 0x0023, ro := 0xFFFF000F },
  { lo := 0x0030, hi := 0x0030, ro := allBits },
  { lo := 0x0031, hi := 0x0031, wo := allBits },
  { lo := 0x0038, hi := 0x003F, ro := 0xFFFFF000 },
  { lo := 0x0040, hi := 0x0063, rw := allBits },
  { lo := 0x0064, hi := 0x0064, wo := 0x80000000, res := 0xF },
  { lo := 0x0065, hi := 0x0065, ro := allBits },
  { lo := 0x0066, hi := 0x0066, ro := 0xFFFFF },
  { lo := 0x0070, hi := 0x0070, ro := 0x10FF3 },
  { lo := 0x0071, hi := 0x0071, w1c := 0x7 },
  { lo := 0x0072, hi := 0x0073, ro := allBits },
  { lo := 0x0074, hi := 0x0074, ro := 0x3FFFF },
  { lo := 0x0075, hi := 0x0075, ro := 0x7F, w1c := 0x100 },
  { lo := 0x0076, hi := 0x0076, ro := 0xFF3F },
  { lo := 0x0080, hi := 0x0087, sh := 0xF3 },
  { lo := 0x0088, hi := 0x0088, res := 0xF, arm := true },
  { lo := 0x0089, hi := 0x0089, ro := 0xFF },
  { lo := 0x008A, hi := 0x008A, w1c := 0xFF }]

/-- Timebase and gate registers (04). -/
def tbRows : List RegRow := [
  { lo := 0x0400, hi := 0x0400, ro := 0x3FFF },
  { lo := 0x0401, hi := 0x0401, w1c := 0x3F },
  { lo := 0x0402, hi := 0x0402, sh := 0x7, arm := true },
  { lo := 0x0403, hi := 0x0403, sh := 0xFFFFF, arm := true },
  { lo := 0x0405, hi := 0x0405, ro := 0xFFFF },
  { lo := 0x0406, hi := 0x0406, res := 0xFF },
  { lo := 0x0410, hi := 0x0411, sh := 0xFFFFFF },
  { lo := 0x0412, hi := 0x0412, sh := 0x3F },
  { lo := 0x0413, hi := 0x0413, arm := true },
  { lo := 0x0414, hi := 0x0414, ro := 0x1F00, res := 0xF },
  { lo := 0x0415, hi := 0x0415, ro := 0x3FFFF }]

/-- The descriptor words of ring 0, which stand for those of every ring; words 11-15 are ring 0's alone (07 R346). -/
def ringRows : List RegRow := [
  { lo := 0x0800, hi := 0x0800, sh := 0x017F7FFF, arm := true },
  { lo := 0x0801, hi := 0x0801, sh := 0x1FFF3FFF },
  { lo := 0x0802, hi := 0x0802, ro := 0x1FFF, res := 0xF0000000 },
  { lo := 0x0803, hi := 0x0804, ro := 0xFFFF },
  { lo := 0x0805, hi := 0x0805, ro := 0x1FFF1FFF },
  { lo := 0x0806, hi := 0x0806, ro := 0x370, w1c := 0xF },
  { lo := 0x0807, hi := 0x0807, ro := allBits },
  { lo := 0x0808, hi := 0x0809, wo := allBits },
  { lo := 0x080A, hi := 0x080A, ro := 0xF },
  { lo := 0x080B, hi := 0x080B, ro := allBits },
  { lo := 0x080C, hi := 0x080C, wo := 0x1FFF },
  { lo := 0x080D, hi := 0x080D, ro := 0x3FFF },
  { lo := 0x080E, hi := 0x080E, ro := allBits },
  { lo := 0x080F, hi := 0x080F, ro := 0xF }]

/-- Rule-engine registers (08). -/
def ruleRows : List RegRow := [
  { lo := 0x0C00, hi := 0x0C00, ro := 0xFFFF01FF },
  { lo := 0x0C01, hi := 0x0C01, ro := 0xF00000FF },
  { lo := 0x0C02, hi := 0x0C02, wo := 0xFF },
  { lo := 0x0C03, hi := 0x0C03, ro := 0xFF },
  { lo := 0x0C04, hi := 0x0C05, ro := allBits },
  { lo := 0x0C08, hi := 0x0C0F, sh := allBits },
  { lo := 0x0C10, hi := 0x0C10, res := 0xF, arm := true },
  { lo := 0x0C20, hi := 0x0C20, sh := 0xFF },
  { lo := 0x0C21, hi := 0x0C29, sh := allBits },
  { lo := 0x0C2A, hi := 0x0C2A, res := 0xF, arm := true },
  { lo := 0x0C40, hi := 0x0C4F, ro := allBits },
  { lo := 0x0C50, hi := 0x0C5F, ro := 0x7FFFFFF },
  { lo := 0x0C60, hi := 0x0C60, ro := 0xFFFF },
  { lo := 0x0C61, hi := 0x0C61, sh := 0xF },
  { lo := 0x0C62, hi := 0x0C62, sh := allBits },
  { lo := 0x0C63, hi := 0x0C63, res := 0xF, arm := true },
  { lo := 0x0C70, hi := 0x0C77, sh := 0x1FFF },
  { lo := 0x0C78, hi := 0x0C78, arm := true },
  { lo := 0x0C79, hi := 0x0C7C, ro := allBits },
  { lo := 0x0C80, hi := 0x0C80, sh := 0xF },
  { lo := 0x0C81, hi := 0x0CA3, sh := allBits },
  { lo := 0x0CA4, hi := 0x0CA4, res := 0xF, arm := true },
  { lo := 0x0CA5, hi := 0x0CA5, ro := allBits },
  { lo := 0x0CC0, hi := 0x0CC0, ro := 0xFF0003 },
  { lo := 0x0CC1, hi := 0x0CC1, sh := 0x1FFF000F, arm := true },
  { lo := 0x0CC2, hi := 0x0CC2, ro := allBits },
  { lo := 0x0CC3, hi := 0x0CC3, wo := 0x73 },
  { lo := 0x0CC4, hi := 0x0CE7, rw := allBits },
  { lo := 0x0CE8, hi := 0x0CE8, wo := 0x80000000, res := 0xF }]

/-- Converter-die registers (09-11). -/
def cnvRows : List RegRow := [
  { lo := 0x1000, hi := 0x1003, sh := 0x0FFF3F01, arm := true },
  { lo := 0x1004, hi := 0x1007, ro := 0xFFFF3F07, res := 0xF0 },
  { lo := 0x1008, hi := 0x100B, ro := 0xFFFF0000, w1c := 1 },
  { lo := 0x1010, hi := 0x1010, sh := 0x7FFFC000, arm := true },
  { lo := 0x1011, hi := 0x1012, sh := allBits },
  { lo := 0x1013, hi := 0x1013, ro := allBits },
  { lo := 0x1014, hi := 0x1014, ro := 0xFFFF },
  { lo := 0x1015, hi := 0x1015, res := 0xF },
  { lo := 0x1100, hi := 0x11FF, sh := 0x07FFFFFF },
  { lo := 0x1200, hi := 0x1203, sh := 0xFF0100, arm := true },
  { lo := 0x1204, hi := 0x1207, sh := 0x3FFFFFFF },
  { lo := 0x1208, hi := 0x120B, ro := 0x380, w1c := 0x7, res := 0xF0000000 },
  { lo := 0x120C, hi := 0x120C, wo := 0xF },
  { lo := 0x1210, hi := 0x1210, rw := 0x3FF },
  { lo := 0x1211, hi := 0x1211, rw := allBits },
  { lo := 0x1300, hi := 0x1309, sh := allBits },
  { lo := 0x130A, hi := 0x130A, res := 0xF, arm := true },
  { lo := 0x1310, hi := 0x132A, ro := allBits },
  { lo := 0x132B, hi := 0x132B, w1c := 0xFFFFFF },
  { lo := 0x1800, hi := 0x1803, sh := 0x01FF0310, arm := true },
  { lo := 0x1804, hi := 0x1807, rw := 0xFFFF },
  { lo := 0x1808, hi := 0x1808, ro := 0xFFFF, res := 0xF0000000 },
  { lo := 0x1809, hi := 0x1809, w1c := 0x7777 },
  { lo := 0x180C, hi := 0x180F, sh := 0xFFFF },
  { lo := 0x1900, hi := 0x1900, sh := 0x3, arm := true },
  { lo := 0x1901, hi := 0x1901, sh := 0xFFFF },
  { lo := 0x1902, hi := 0x1902, w1c := 0xFFFF },
  { lo := 0x1910, hi := 0x191F, ro := 0xFFFF0FFF }]

/-- Field-die registers (03, 09, 11). -/
def fldRows : List RegRow := [
  { lo := 0x1C00, hi := 0x1C00, ro := 0x7FF },
  { lo := 0x1C01, hi := 0x1C01, w1c := 0x7FF },
  { lo := 0x1C04, hi := 0x1C04, sh := 0xFD, arm := true },
  { lo := 0x1C06, hi := 0x1C07, sh := 0x3, arm := true },
  { lo := 0x1C10, hi := 0x1C17, sh := 0xFFFFF801 },
  { lo := 0x1C18, hi := 0x1C18, sh := 0x3, arm := true },
  { lo := 0x1C19, hi := 0x1C19, ro := 0x1FF, res := 0xF0000 },
  { lo := 0x1C1A, hi := 0x1C1A, w1c := 0x1FF },
  { lo := 0x1C20, hi := 0x1C20, sh := 0xFF07, arm := true },
  { lo := 0x1C21, hi := 0x1C21, w1c := 0xFFF }]

/-- GNSS registers (12, 13). -/
def gnssRows : List RegRow := [
  { lo := 0x2000, hi := 0x2000, sh := 0x1F7, arm := true },
  { lo := 0x2001, hi := 0x2001, sh := 0x3FFFFFFF, arm := true },
  { lo := 0x2004, hi := 0x2004, ro := 0xFF00003F },
  { lo := 0x2005, hi := 0x2005, ro := 0xFFFFFF0F },
  { lo := 0x2006, hi := 0x2006, ro := 0xFFFFFF03 },
  { lo := 0x2007, hi := 0x2007, rw := 0xFF },
  { lo := 0x2008, hi := 0x2008, ro := allBits },
  { lo := 0x2009, hi := 0x2009, ro := 0xE0FF00FF },
  { lo := 0x200A, hi := 0x200A, wo := allBits },
  { lo := 0x2010, hi := 0x2010, ro := allBits },
  { lo := 0x2400, hi := 0x27FF, ro := allBits },
  { lo := 0x2800, hi := 0x2800, sh := 0xFFF31F, arm := true },
  { lo := 0x2801, hi := 0x2801, ro := 0xFFFFFF7F },
  { lo := 0x2802, hi := 0x2802, ro := allBits },
  { lo := 0x2810, hi := 0x2857, ro := 0xFFFFFF0F },
  { lo := 0x2860, hi := 0x2863, ro := allBits },
  { lo := 0x2864, hi := 0x2864, ro := 0xFFFF03 },
  { lo := 0x2868, hi := 0x2868, sh := 0xFFFF, arm := true },
  { lo := 0x2C00, hi := 0x2C00, sh := 0x3F, arm := true },
  { lo := 0x2C01, hi := 0x2C01, sh := 0x3FFF3FFF },
  { lo := 0x2C02, hi := 0x2C02, sh := 0xFFF },
  { lo := 0x2C04, hi := 0x2C04, ro := 0xFFFF0003 },
  { lo := 0x2C05, hi := 0x2C05, ro := allBits },
  { lo := 0x2C08, hi := 0x2C0D, ro := allBits }]

/-- Radio and yard registers (14, 15). -/
def radioRows : List RegRow := [
  { lo := 0x3000, hi := 0x3000, sh := 0x1000000, res := 0xF, arm := true },
  { lo := 0x3002, hi := 0x3002, sh := 0xFF0000, arm := true },
  { lo := 0x3004, hi := 0x3004, ro := 0x7 },
  { lo := 0x3008, hi := 0x300A, ro := allBits },
  { lo := 0x3010, hi := 0x3010, sh := allBits }, { lo := 0x3011, hi := 0x3011, sh := 0x80FFFFFF }, { lo := 0x3012, hi := 0x3012, ro := allBits },
  { lo := 0x3013, hi := 0x3013, sh := allBits }, { lo := 0x3014, hi := 0x3014, sh := 0x80FFFFFF }, { lo := 0x3015, hi := 0x3015, ro := allBits },
  { lo := 0x3016, hi := 0x3016, sh := allBits }, { lo := 0x3017, hi := 0x3017, sh := 0x80FFFFFF }, { lo := 0x3018, hi := 0x3018, ro := allBits },
  { lo := 0x3019, hi := 0x3019, sh := allBits }, { lo := 0x301A, hi := 0x301A, sh := 0x80FFFFFF }, { lo := 0x301B, hi := 0x301B, ro := allBits },
  { lo := 0x301C, hi := 0x301C, arm := true },
  { lo := 0x3020, hi := 0x3020, sh := 0x7FFFFF, arm := true },
  { lo := 0x3040, hi := 0x307F, sh := allBits },
  { lo := 0x3080, hi := 0x3080, wo := 1 },
  { lo := 0x3100, hi := 0x3100, sh := 0x3F00013F, arm := true },
  { lo := 0x3101, hi := 0x3101, ro := 0xFFFF },
  { lo := 0x3102, hi := 0x3102, w1c := 0xF },
  { lo := 0x3800, hi := 0x3800, ro := 0xFFFFFF07 },
  { lo := 0x3801, hi := 0x3802, ro := allBits },
  { lo := 0x3804, hi := 0x3805, ro := allBits },
  { lo := 0x3808, hi := 0x3808, sh := 0xFFF0300, arm := true },
  { lo := 0x3810, hi := 0x3817, ro := allBits },
  { lo := 0x3820, hi := 0x3847, rw := allBits },
  { lo := 0x3848, hi := 0x3848, wo := 0x80000000, res := 0xF },
  { lo := 0x3849, hi := 0x3849, ro := allBits }]

/-- Host-port and memory-port registers (16, 17). -/
def portRows : List RegRow := [
  { lo := 0x3C00, hi := 0x3C00, sh := 0xF01, res := 0xF0, arm := true },
  { lo := 0x3C01, hi := 0x3C01, ro := 0xFF000107 },
  { lo := 0x3C02, hi := 0x3C02, ro := 0x3, w1c := 0x1C },
  { lo := 0x3C03, hi := 0x3C04, ro := allBits },
  { lo := 0x3C08, hi := 0x3C0B, ro := allBits },
  { lo := 0x3C10, hi := 0x3C10, sh := 0x1FF3FFF },
  { lo := 0x3C11, hi := 0x3C12, sh := allBits },
  { lo := 0x3C13, hi := 0x3C13, ro := 0xFF00FF3F, w1c := 0x40 },
  { lo := 0x3C14, hi := 0x3C14, ro := allBits },
  { lo := 0x3E00, hi := 0x3E00, sh := 0x1FF00, res := 0xF, arm := true },
  { lo := 0x3E01, hi := 0x3E01, ro := 0xF00003F2 },
  { lo := 0x3E02, hi := 0x3E02, w1c := 0x3F },
  { lo := 0x3E03, hi := 0x3E03, ro := 0xFFFFFF },
  { lo := 0x3E04, hi := 0x3E06, ro := allBits },
  { lo := 0x3E08, hi := 0x3E08, sh := allBits }, { lo := 0x3E09, hi := 0x3E09, sh := 7 },
  { lo := 0x3E0A, hi := 0x3E0A, sh := allBits }, { lo := 0x3E0B, hi := 0x3E0B, sh := 7 },
  { lo := 0x3E0C, hi := 0x3E0C, sh := allBits }, { lo := 0x3E0D, hi := 0x3E0D, sh := 7 },
  { lo := 0x3E0E, hi := 0x3E0E, sh := allBits }, { lo := 0x3E0F, hi := 0x3E0F, sh := 7 },
  { lo := 0x3E10, hi := 0x3E10, sh := allBits }, { lo := 0x3E11, hi := 0x3E11, sh := 7 },
  { lo := 0x3E12, hi := 0x3E12, sh := 0x1B },
  { lo := 0x3E18, hi := 0x3E18, rw := 0xFFDF01FF },
  { lo := 0x3E19, hi := 0x3E19, rw := allBits },
  { lo := 0x3E1A, hi := 0x3E1A, rw := 0xFFFF },
  { lo := 0x3E1B, hi := 0x3E1B, wo := 1 },
  { lo := 0x3E1C, hi := 0x3E1C, ro := 0xF },
  { lo := 0x3E20, hi := 0x3E20, rw := 7 },
  { lo := 0x3E24, hi := 0x3E24, ro := 0x87FFFFFF },
  { lo := 0x3E28, hi := 0x3E29, ro := allBits },
  { lo := 0x3E40, hi := 0x3E4F, sh := allBits },
  { lo := 0x3E50, hi := 0x3E50, ro := 0xF00, res := 0xF, arm := true },
  { lo := 0x3F00, hi := 0x3FFF, rw := allBits }]

/-- Keeper, journal, calibration and update registers (05, 10, 18). -/
def keepRows : List RegRow := [
  { lo := 0x4000, hi := 0x4000, ro := 0xFED, w1c := 0x10 },
  { lo := 0x4001, hi := 0x4001, w1c := 0x7 },
  { lo := 0x4002, hi := 0x4002, ro := allBits },
  { lo := 0x4003, hi := 0x4003, ro := 0xFFFF },
  { lo := 0x4004, hi := 0x4004, ro := allBits },
  { lo := 0x4005, hi := 0x4005, ro := 0x7FFFFFF },
  { lo := 0x4008, hi := 0x4008, sh := allBits },
  { lo := 0x4009, hi := 0x4009, sh := 0xFFFFFF },
  { lo := 0x400A, hi := 0x400A, res := 0xF, arm := true },
  { lo := 0x400C, hi := 0x400C, ro := 0x300FF },
  { lo := 0x400D, hi := 0x400D, ro := 0x1FFFF },
  { lo := 0x4010, hi := 0x4010, sh := 0x13, arm := true },
  { lo := 0x4011, hi := 0x4011, ro := allBits },
  { lo := 0x4020, hi := 0x4020, sh := 0x33, arm := true },
  { lo := 0x4021, hi := 0x4021, ro := 0xFFFF0003 },
  { lo := 0x4030, hi := 0x4030, rw := 3 },
  { lo := 0x4031, hi := 0x4031, ro := allBits },
  { lo := 0x4040, hi := 0x4040, ro := 0xFFF },
  { lo := 0x4041, hi := 0x4041, ro := allBits },
  { lo := 0x4042, hi := 0x4042, ro := 0x1F },
  { lo := 0x4050, hi := 0x4050, ro := allBits },
  { lo := 0x4051, hi := 0x4051, wo := 0x80000FFF },
  { lo := 0x4052, hi := 0x4052, ro := allBits },
  { lo := 0x4060, hi := 0x4060, ro := 0xFFDF7F00, w1c := 0x200000 },
  { lo := 0x4061, hi := 0x4061, ro := 0x3FF03FF },
  { lo := 0x4062, hi := 0x4074, ro := allBits },
  { lo := 0x4076, hi := 0x4076, wo := allBits },
  { lo := 0x4077, hi := 0x4077, ro := 0x1F },
  { lo := 0x4080, hi := 0x40AB, rw := allBits },
  { lo := 0x40AC, hi := 0x40AC, wo := 0x80000000, res := 0xF },
  { lo := 0x40AD, hi := 0x40AD, ro := allBits },
  { lo := 0x8000, hi := 0xFFFF, ro := allBits }]

/-- The rows of a block by its address (R870). -/
def blockRows (a : Nat) : List RegRow :=
  if a < 0x0400 then sysRows
  else if a < 0x0800 then tbRows
  else if a < 0x0C00 then ringRows
  else if a < 0x1000 then ruleRows
  else if a < 0x1C00 then cnvRows
  else if a < 0x2000 then fldRows
  else if a < 0x3000 then gnssRows
  else if a < 0x3C00 then radioRows
  else if a < 0x4000 then portRows
  else keepRows

/-- The address under which the map lists a word: a descriptor word of a ring other than 0 as that of ring 0. -/
def mapAddr (a : Nat) : Nat := if 0x0800 ≤ a ∧ a < 0x0C00 ∧ a % 16 < 11 then 0x0800 + a % 16 else a

/-- The row of a word; none for an unassigned address (R871). -/
def regRow (a : Nat) : Option RegRow := (blockRows a).find? (fun r => decide (r.lo ≤ mapAddr a) && decide (mapAddr a ≤ r.hi))

/-- A word has fields that its own die answers or takes (R874). -/
def RegRow.onDie (r : RegRow) : Bool := decide (r.rw ≠ 0) || decide (r.ro ≠ 0) || decide (r.w1c ≠ 0) || decide (r.wo ≠ 0)

end Sys2Proof.Machine
end

