-- ==== Sys2Proof/Machine/ReadRegs.lean ====
section
/-! DEFINITION. What a read of a register returns: the fields that follow the block's state, chapter by chapter, the ring, snapshot and MRAM
windows, and the treatment of remote, isolated and unassigned words (00 R6-R13, 01 R50-R56, 20 R871-R877). -/

namespace Sys2Proof.Machine

/-- A number shown in a field of 16 bits, saturating. -/
def sat16 (n : Nat) : Nat := min 65535 n

/-- Two counters of 16 bits in one word. -/
def pair16 (hi lo : Nat) : Word := wd (hi % 65536 * 65536 + lo % 65536)

/-- A bit map of the numbers below `n` that a test holds of. -/
def bitMap (n : Nat) (f : Nat → Bool) : Nat := (List.range n).foldl (fun a i => if f i then a + 2 ^ i else a) 0

/-! ### Identity, lanes, lands and modes (01, 02, 03) -/

/-- SYS_LANE_STAT (R63). -/
def Chip.laneStat (c : Chip) : Word :=
  wd (laneCode (c.lane 0) + laneCode (c.lane 1) * 4 + laneCode (c.lane 2) * 16 + laneCode (c.lane 3) * 64 + sampCode c.girth.gsamp * 256 +
    sampCode c.girth.rsamp * 1024)

/-- SYS_REV (R63): the byte of a die whose lane was SILENT at start reads 0. -/
def Chip.sysRev (c : Chip) : Word :=
  let die := fun (i : Nat) => if c.girth.revAbsent.getD i false then 0 else 0x10
  wd (0x10000000 + die 0 * 65536 + die 1 * 256 + die 2)

/-- SYS_MODE (R144). -/
def Chip.modeStat (c : Chip) : Word :=
  let m := c.modes
  wd (m.reqResult % 16 * 2 ^ 24 + m.reqMode % 16 * 2 ^ 20 + b2n (decide (c.keeper.theft = .declared)) * 2 ^ 18 + b2n m.thermalHold * 2 ^ 17 +
    b2n m.batHold * 2 ^ 16 + reasonCode m.reason * 256 + m.prev % 16 * 16 + m.mode % 16)

/-- The system registers 0x0000 to 0x003F. -/
def Chip.sysView (c : Chip) (a : Nat) : Word :=
  if a = 0x0000 then 0xA0480E51
  else if a = 0x0001 then c.sysRev
  else if a = 0x0002 then wd c.start.uid.toNat
  else if a = 0x0003 then wd (c.start.uid.toNat / 2 ^ 32)
  else if a = 0x0008 then c.laneStat
  else if 0x000C ≤ a ∧ a ≤ 0x000F then c.girth.xfer.getD (a - 0x000C) 0
  else if a = 0x0010 then wd (b2n c.lands.vioGood * 2 + b2n (c.lands.hostDrive.isSome || c.lands.memDrive.isSome))
  else if a = 0x0020 then c.modeStat
  else if a = 0x0030 then
    let s := c.start
    wd (s.record.unfinished % 256 * 2 ^ 24 + s.trigger % 256 * 2 ^ 16 + s.cause % 256 * 256 + s.slot % 4 * 64 + b2n s.trial * 32 +
      b2n s.keysBlank * 16 + b2n s.calDefault * 8 + b2n s.settingsDefault * 4 + s.record.state % 4)
  else if 0x0038 ≤ a ∧ a ≤ 0x003F then
    let h := c.start.record.hist.getD (a - 0x0038) 0
    if h = 0 then 0x8000 else wd (h.toNat / 2 ^ 44 * 4096)
  else if a = 0x0065 then (if c.mode = 7 then c.start.nonce else 0)
  else if a = 0x0066 then wd ((if c.mram.keys.locked then c.mram.keys.region % 16 else 0) * 65536 + c.start.beacons.toNat)
  else 0

/-- SUPPLY_OUT (R858). -/
def Chip.supplyIsOut (c : Chip) : Bool :=
  c.therm.fvinOut || c.therm.vbatLow || c.therm.vbatHigh || !c.lands.vioGood || c.therm.vioHigh || decide (c.rf 0x1902 10 4 ≠ 0)

/-- The thermal, supply and general-purpose pin registers (19 R869, 02 R99). -/
def Chip.thermView (c : Chip) (a : Nat) : Word :=
  let t := c.therm
  if a = 0x0070 then
    wd (b2n c.deferPending * 65536 + t.tripDies.toNat * 256 + t.warnDies.toNat * 16 + (if c.modes.thermalHold then 2 else b2n t.warning))
  else if a = 0x0072 then pair16 (ux 16 (t.temps.getD 1 0)) (ux 16 (t.temps.getD 0 0))
  else if a = 0x0073 then pair16 (ux 16 (t.temps.getD 3 0)) (ux 16 (t.temps.getD 2 0))
  else if a = 0x0074 then wd (t.peakDie % 4 * 65536 + ux 16 t.peak)
  else if a = 0x0075 then
    wd (b2n t.vioHigh * 64 + b2n t.vbatHigh * 32 + b2n c.supplyIsOut * 16 + b2n (decide (c.rf 0x1902 10 4 ≠ 0)) * 8 +
      b2n (!c.lands.vioGood) * 4 + b2n t.vbatLow * 2 + b2n t.fvinOut)
  else if a = 0x0076 then wd (t.lost % 256 * 256 + t.deferred.length % 64)
  else if a = 0x0089 then wd c.gpLevels.toNat
  else 0

/-! ### Timebases (04) -/

/-- TB_STAT (R201). -/
def Chip.tbStat (c : Chip) : Word :=
  let t := c.tb
  wd (t.pstate % 4 * 4096 + b2n t.coreLow * 2048 + b2n (t.domains.any (fun d => d.switch.isSome)) * 1024 + b2n (decide (c.domSource 1 = 1)) * 512 +
    b2n (decide (c.domSource 0 = 1)) * 256 + b2n c.onTbk * 128 + b2n t.mls * 64 + b2n t.mlc * 32 + b2n t.mlg * 16 +
    b2n (t.tbmProven && !t.tbmFailed) * 8 + b2n c.tbmRuns * 4 + b2n c.tbfPasses * 2 + b2n (t.tbkProven && !t.tbkFailed))

/-- The timebase registers. -/
def Chip.tbView (c : Chip) (a : Nat) : Word :=
  if a = 0x0400 then c.tbStat
  else if a = 0x0415 then wd (bitMap 18 c.gatePasses)
  else 0

/-! ### Rings (07) -/

/-- RING_GUARD (R346). -/
def Chip.ringGuard (c : Chip) : Word :=
  wd (b2n c.supplyIsOut * 8 + b2n (decide (c.mem.state = .silent) && c.afterStart) * 4 +
    b2n (c.rings.rings.any (fun r => decide (r.sizeLog2 ≠ 0) && r.external && decide (r.svc = 0))) * 2 + b2n c.rules.checked)

/-- The descriptor words of ring `n`. -/
def Chip.ringView (c : Chip) (n i : Nat) : Word :=
  let r := c.ring n
  if i = 2 then wd (r.result % 16 * 2 ^ 28 + r.base % 2 ^ 13)
  else if i = 3 then wd r.head.toNat
  else if i = 4 then wd r.tail.toNat
  else if i = 5 then wd (r.peak % 2 ^ 13 * 2 ^ 16 + r.fill % 2 ^ 13)
  else if i = 6 then
    wd (classCode r.active * 256 + b2n r.pendAgents.isSome * 64 + b2n (decide (r.fill = 0)) * 32 + b2n (r.full && decide (r.sizeLog2 ≠ 0)) * 16 + b2n r.stale * 8 +
      b2n r.dropped * 4 + b2n r.overrun * 2 + b2n r.lossy)
  else if i = 7 then r.drop
  else if i = 10 then wd (r.opstat % 16)
  else if i = 11 then pair16 (sat16 c.rings.obsHost.skipped) c.rings.obsHost.index.toNat
  else if i = 13 then wd c.allocated
  else if i = 14 then c.rings.promotions
  else if i = 15 then c.ringGuard
  else 0

/-! ### Rules (08) -/

/-- The rule-engine registers (R405). -/
def Chip.ruleView (c : Chip) (a : Nat) : Word :=
  let r := c.rules
  let k := c.keeper
  if a = 0x0C00 then wd (sat16 r.merged * 65536 + (r.rules.filter (fun x => x.en)).length)
  else if a = 0x0C01 then wd (r.checkResult % 16 * 2 ^ 28 + r.checkRule % 256)
  else if a = 0x0C03 then wd r.flags.toNat
  else if a = 0x0C04 ∨ a = 0x0C05 then wd (bitMap 32 (fun i => (k.timers.getD (32 * (a - 0x0C04) + i) {}).running))
  else if 0x0C40 ≤ a ∧ a ≤ 0x0C4F then wd (c.meter (a - 0x0C40)).count
  else if 0x0C50 ≤ a ∧ a ≤ 0x0C5F then wd ((c.meter (a - 0x0C50)).count / 36)
  else if a = 0x0C60 then wd (bitMap 16 (fun i => (c.meter i).running))
  else if 0x0C79 ≤ a ∧ a ≤ 0x0C7C then
    let w := 2 * (a - 0x0C79)
    pair16 (ux 16 (r.watchVal.getD (w + 1) 0)) (ux 16 (r.watchVal.getD w 0))
  else if a = 0x0CA5 then wd ((List.range 16).foldl (fun x f => x + fenceCode (r.fenceState.getD f .unknown) * 4 ^ f) 0)
  else if a = 0x0CC0 then wd (k.score % 256 * 65536 + theftCode k.theft)
  else if a = 0x0CC2 then k.theftNonce
  else 0

/-! ### GNSS (12, 13) -/

/-- The word of snapshot memory that the window shows. -/
def Chip.snapWord (c : Chip) (w : Nat) : Word := wd (leNat (memRead 0 c.acq.memory (c.rf 0x2007 7 0 * 4096 + 4 * w) 4))

/-- Engines that run a pass. -/
def Acq.busy (a : Acq) : Nat := (a.engines.filter (fun e => e.isSome)).length

/-- GACQ_STAT.STATE: a fix that waits for its mode, or a paused burst, shows 0. -/
def fixCode : FixState → Nat
  | .idle => 0
  | .waiting => 0
  | .capturing => 1
  | .correlating => 2
  | .solving => 3
  | .burst => 4
  | .paused => 0

/-- The acquisition registers (R573). -/
def Chip.acqView (c : Chip) (a : Nat) : Word :=
  let q := c.acq
  let st := fixCode q.state
  if a = 0x2004 then wd ((if st = 0 then 0 else q.cls % 4) * 2 ^ 30 + (if st = 0 then 0 else q.phase % 4) * 2 ^ 28 + st * 2 ^ 24 + q.busy)
  else if a = 0x2005 then wd (q.fixSnap.toNat * 65536 + min 255 q.found * 256 + q.reason % 16)
  else if a = 0x2006 then wd (q.snapId.toNat * 65536 + q.snapLen % 256 * 256 + q.snapBands % 4)
  else if a = 0x2008 then
    pair16 (match c.timeUnc with
      | some u => sat16 (u / 1000)
      | none => 65535) (match c.posUnc with
      | some u => sat16 (u / 1000)
      | none => 65535)
  else if a = 0x2009 then
    let k := q.keep
    let eph := if c.keeper.valid then (k.eph.filter (fun e => e.validAt c.keeper.sec.toNat)).length else 0
    wd (b2n k.bankB * 2 ^ 31 + b2n k.deferred * 2 ^ 30 + b2n k.changed * 2 ^ 29 + min 255 eph * 65536 + min 255 k.alm.length)
  else if a = 0x2010 then wd (bitMap 32 (fun e => (q.engines.getD e none).isSome))
  else if 0x2400 ≤ a then c.snapWord (a - 0x2400)
  else 0

/-- GTIM_STAT.STATE. -/
def pulseCode : PulseState → Nat
  | .off => 0
  | .waiting => 1
  | .running => 2
  | .holdover => 3

/-- GTRK_CHn (R620): CN0 in whole dB-Hz. -/
def Channel.word (x : Channel) : Word :=
  if x.busy then
    wd (x.sv % 256 * 2 ^ 24 + x.system % 16 * 2 ^ 20 + x.band % 16 * 2 ^ 16 + min 255 (x.cn0 / 100) * 256 + b2n x.navSync * 8 + b2n x.carrier * 4 +
      b2n x.code * 2 + 1)
  else 0

/-- The tracking and time registers (R620). -/
def Chip.trackView (c : Chip) (a : Nat) : Word :=
  let t := c.track
  let k := c.acq.keep
  if a = 0x2801 then
    wd (t.epochId.toNat * 65536 + (t.channels.filter (fun x => x.busy && x.carrier)).length * 256 + (t.channels.filter (fun x => x.busy)).length)
  else if a = 0x2802 then t.skip
  else if 0x2810 ≤ a ∧ a ≤ 0x2857 then (c.chan (a - 0x2810)).word
  else if 0x2860 ≤ a ∧ a ≤ 0x2863 then ew t.solution (a - 0x2860 + 1)
  else if a = 0x2864 then wd (t.signals % 256 * 65536 + t.flags % 256 * 256 + t.trust % 4)
  else if a = 0x2C04 then wd (t.pulseNo.toNat * 65536 + pulseCode t.tp)
  else if a = 0x2C05 then wdI t.qerr
  else if 0x2C08 ≤ a ∧ a ≤ 0x2C0B then (match k.offsets.getD (a - 0x2C08) none with
    | some o => wdI o
    | none => 0x80000000)
  else if a = 0x2C0C then (if k.driftKept then wdI k.drift else 0)
  else if a = 0x2C0D then (if k.driftKept then wd c.driftUnc else 0)
  else 0

/-! ### Radio, yard and ports (14-17) -/

/-- WRF_STAT.STATE. -/
def radioCode : RadioState → Nat
  | .off => 0
  | .idle => 1
  | .searching => 2
  | .receiving => 3
  | .transmitting => 4

/-- YARD_STAT.STATE (R721). -/
def Chip.yardState (c : Chip) : Nat :=
  if !c.yardIn then 0
  else if c.yard.sec.lead then 4
  else if c.yardNumber.isSome then (if c.yard.member then 3 else 2)
  else if c.yard.buckle = .idle then 1 else 2

/-- The radio and yard registers (R670, R721). -/
def Chip.radioView (c : Chip) (a : Nat) : Word :=
  let r := c.radio
  let y := c.yard
  if a = 0x3004 then wd (radioCode r.state)
  else if a = 0x3008 then pair16 r.crcFail.toNat r.rxOk.toNat
  else if a = 0x3009 then pair16 r.syncOther.toNat r.hdrFail.toNat
  else if a = 0x300A then pair16 r.aborted.toNat r.sent.toNat
  else if 0x3012 ≤ a ∧ a ≤ 0x301B then (if a % 3 = 0x3012 % 3 then wd (c.usedUs ((a - 0x3012) / 3) / 1000) else 0)
  else if a = 0x3800 then wd (c.era % 65536 * 65536 + (c.yardNumber.getD 255) % 256 * 256 + c.yardState)
  else if a = 0x3801 then wd y.round
  else if a = 0x3802 then (match c.timeUnc with
    | some u => wd (min 0xFFFFFFFF u)
    | none => 0xFFFFFFFF)
  else if a = 0x3804 then pair16 y.replayCount.toNat y.micFail.toNat
  else if a = 0x3805 then pair16 y.dup.toNat y.retry.toNat
  else if 0x3810 ≤ a ∧ a ≤ 0x3817 then (if c.yardLead then wd (bitMap 32 (fun i => c.numberHeld (32 * (a - 0x3810) + i))) else 0)
  else if a = 0x3849 then y.nonce
  else 0

/-- Ring `n` requests the host: IRQ_EN and FILL at or above IRQ_FILL (R744). -/
def Chip.ringIrq (c : Chip) (n : Nat) : Bool := let r := c.ring n; r.irqEn && decide (r.sizeLog2 ≠ 0) && decide (r.irqFill ≤ r.fill)

/-- Source RING of HIRQ. -/
def Chip.irqRing (c : Chip) : Bool := (List.range 64).any c.ringIrq

/-- Source RING0 of HIRQ: the host observer has not reached HEAD. -/
def Chip.irqRing0 (c : Chip) : Bool := decide (c.rings.obsHost.index ≠ (c.ring 0).head)

/-- HIRQ is driven low (R744). -/
def Chip.hirq (c : Chip) : Bool :=
  (c.runB 0x3C00 8 && c.irqRing) || (c.runB 0x3C00 9 && c.irqRing0) || (c.runB 0x3C00 10 && bit (c.reg 0x3C02) 2) ||
    (c.runB 0x3C00 11 && bit (c.reg 0x3C02) 3)

/-- MEM_STAT.NOR_STATE. -/
def norCode : NorState → Nat
  | .undiscovered => 0
  | .ready => 1
  | .erasing => 2
  | .suspended => 3
  | .silent => 4

/-- The host-port registers (R753). -/
def Chip.hostView (c : Chip) (a : Nat) : Word :=
  let h := c.host
  if a = 0x3C01 then
    wd ((match h.last with
      | some q => q.alive % 256
      | none => 0) * 2 ^ 24 + b2n h.last.isSome * 256 + (if h.master then 3 else if h.writing.isSome then 2 else 0))
  else if a = 0x3C02 then wd (b2n c.irqRing0 * 2 + b2n c.irqRing)
  else if a = 0x3C03 ∨ a = 0x3C04 then wd (bitMap 32 (fun i => c.ringIrq (32 * (a - 0x3C03) + i)))
  else if a = 0x3C08 then pair16 h.accepted.toNat h.retry.toNat
  else if a = 0x3C09 then pair16 h.crcErr.toNat h.lenErr.toNat
  else if a = 0x3C0A then pair16 h.clash.toNat h.gap.toNat
  else if a = 0x3C0B then pair16 h.underruns.toNat h.busy.toNat
  else if a = 0x3C13 then wd (h.mstAlive.toNat * 2 ^ 24 + h.mstStatus % 256 * 256 + h.mstRing % 64)
  else if a = 0x3C14 then pair16 h.pushed.toNat h.resent.toNat
  else 0

/-- The memory-port registers (R796). -/
def Chip.memView (c : Chip) (a : Nat) : Word :=
  let m := c.mem
  if a = 0x3E01 then
    wd (norCode m.state * 2 ^ 28 + c.mapWidth % 4 * 256 + b2n m.omitCmd * 128 + b2n m.par.suspendOk * 64 + b2n m.par.fallback * 32 +
      b2n m.par.qeSet * 16 + b2n m.xfer.isSome * 2)
  else if a = 0x3E03 then wd (m.jedec % 2 ^ 24)
  else if a = 0x3E04 then wd m.par.density
  else if a = 0x3E05 then wd (m.par.minor % 256 * 2 ^ 24 + m.par.dwords % 256 * 2 ^ 16 + m.par.eraseOp % 256 * 256 + m.par.suspendOp % 256)
  else if a = 0x3E06 then pair16 (sat16 m.par.eraseMs) m.par.page
  else if a = 0x3E1C then wd (m.result % 16)
  else if a = 0x3E24 then (match m.dirty with
    | some p => wd (2 ^ 31 + p.1 % 8 * 2 ^ 24 + p.2 % 2 ^ 24)
    | none => 0)
  else if a = 0x3E28 then pair16 m.programs.toNat m.erases.toNat
  else if a = 0x3E29 then pair16 m.suspends.toNat m.retries.toNat
  else if a = 0x3E50 then wd (m.initLast % 16 * 256)
  else if 0x3F00 ≤ a then wd (leNat (memRead 0 m.buf (c.rf 0x3E20 2 0 * 1024 + 4 * (a - 0x3F00)) 4))
  else 0

/-! ### Keeper, journal, calibration and update (05, 10, 18) -/

/-- KEEP_STAT (R247). -/
def Chip.keepStat (c : Chip) : Word :=
  let k := c.keeper
  wd ((match k.loop with
    | some x => loopCode x
    | none => 0) * 1024 + b2n k.loop.isSome * 512 + b2n k.wake * 256 + b2n k.calendar.held * 128 + b2n (!c.onTbk) * 64 + b2n k.lapse * 32 +
    k.tsrc % 4 * 4 + b2n k.valid)

/-- Burnish state in CAL_STAT: 0 idle, 1 waiting for steps, 2 running, 3 committing. -/
def Chip.calState (c : Chip) : Nat :=
  if c.burnish.committing then 3
  else if c.burnish.under then (if (List.range 4).any (fun m => (c.runningStep m).isSome) then 2 else 1)
  else 0

/-- CAL_STAT (R498). -/
def Chip.calStat (c : Chip) : Word :=
  let b := c.burnish
  let bank := match c.mram.current 4 with
    | some (x, _) => b2n x
    | none => 0
  wd (b2n b.active * 2 ^ 31 + c.calState * 2 ^ 28 + bank * 2 ^ 27 + b2n b.defaults * 2 ^ 26 + b.reqResult % 4 * 2 ^ 24 + b.lastEnd % 16 * 2 ^ 20 +
    (if b.under then b.mask % 16 * 2 ^ 16 + b.target % 256 * 256 + min 255 b.left.length else 0))

/-- UPD_TRIAL: the seconds committed and those counted since, while the image is on trial (R820). -/
def Update.trialSeconds (u : Update) : Nat := u.record.trialSec + (if u.trial then u.trialRun else 0)

/-- UPD_STAT without PTR_FAIL (R842). -/
def UpdRec.stat (r : UpdRec) : Word :=
  wd (r.state % 16 * 2 ^ 28 + r.boot % 2 * 2 ^ 27 + r.confirmed % 2 * 2 ^ 26 + r.trialStarts % 4 * 2 ^ 24 + r.target % 2 * 2 ^ 23 +
    b2n (decide (leNat r.nextKeyHash ≠ 0)) * 2 ^ 22 + r.checks.toNat * 2 ^ 16 + (if r.failedCheck = 255 then 7 else r.failedCheck % 8) * 2 ^ 12 +
    r.lastErr % 16 * 256)

/-- The keeper, journal, calibration and update registers. -/
def Chip.keepView (c : Chip) (a : Nat) : Word :=
  let k := c.keeper
  let u := c.upd
  if a = 0x4000 then c.keepStat
  else if a = 0x4002 then wd (k.sec.toNat % 2 ^ 17 * 2 ^ 15 + k.sub.toNat)
  else if a = 0x4003 then wd (k.sec.toNat / 2 ^ 17)
  else if a = 0x4004 then let d := k.calendar; wd (d.year * 65536 + d.month * 256 + d.day)
  else if a = 0x4005 then let d := k.calendar; wd (d.weekday * 2 ^ 24 + d.hour * 65536 + d.minute * 256 + d.second)
  else if a = 0x400C then wd (b2n k.leapDelete * 2 ^ 17 + b2n k.leapPending * 2 ^ 16 + k.leapCount.toNat)
  else if a = 0x400D then wd k.leapDay.toNat
  else if a = 0x4011 then wdI k.rate
  else if a = 0x4021 then wd (k.loopChanges.toNat * 65536 + (match k.loopLast with
    | some x => loopCode x
    | none => 0))
  else if a = 0x4031 then pair16 (sat16 c.mram.ueCount) (sat16 c.mram.ceCount)
  else if a = 0x4040 then wd (c.mram.nextSeq.toNat % 4096)
  else if a = 0x4041 then c.mram.newest.getD 0
  else if a = 0x4042 then wd (k.deferredHours.length % 32)
  else if a = 0x4050 then c.calStat
  else if a = 0x4052 then (match c.mram.current 4 with
    | some (_, bs) => wd (leAt bs 4 4)
    | none => 0)
  else if a = 0x4060 then u.record.stat
  else if a = 0x4061 then wd (u.record.chunks * 65536 + u.record.next)
  else if a = 0x4062 then wd u.record.version
  else if a = 0x4063 then wd u.trialSeconds
  else if 0x4064 ≤ a ∧ a ≤ 0x4073 then wd (u.record.bitmap.toNat / 2 ^ (32 * (a - 0x4064)))
  else if a = 0x4074 then pair16 u.dup.toNat u.dropped.toNat
  else if a = 0x4077 then wd (b2n u.heldSave * 16 + u.saveResult % 16)
  else if a = 0x40AC then wd (u.keyResult % 16)
  else if a = 0x40AD then u.nonce
  else 0

/-- The word of the MRAM window (R229, R247, R877): the protected key store reads as zero. -/
def Chip.mramWord (c : Chip) (a : Nat) : Word :=
  let page := c.rf 0x4030 1 0
  if page = 1 ∧ 0xE800 ≤ a ∧ a < 0xEC00 then 0 else wd (leNat (memRead 0 c.mram.bytes (page * 65536 + 4 * (a - 0xC000)) 4))

/-! ### The whole map -/

/-- The fields of a word that follow the block's state, beside those held in the register file. -/
def Chip.viewOf (c : Chip) (a : Nat) : Word :=
  if a < 0x0070 then c.sysView a
  else if a < 0x0400 then c.thermView a
  else if a < 0x0800 then c.tbView a
  else if a < 0x0C00 then c.ringView ((a - 0x0800) / 16) (a % 16)
  else if a < 0x1000 then c.ruleView a
  else if a < 0x2000 then
    (if a = 0x1211 then ((c.chain (c.rf 0x1210 9 8)).inactive.getD (c.rf 0x1210 7 0) 0) else c.remoteView a)
  else if a < 0x2800 then c.acqView a
  else if a < 0x3000 then c.trackView a
  else if a < 0x3C00 then (if a = 0x3101 then c.remoteView a else c.radioView a)
  else if a < 0x3E00 then c.hostView a
  else if a < 0x4000 then c.memView a
  else if a < 0x8000 then c.keepView a
  else if a < 0xC000 then c.windowWord ((a - 0x8000) / 256) (a % 256)
  else c.mramWord a

/-- Flags [7:4] of a reply (R729): 0x80 UNMAPPED, 0x40 PARKED, 0x20 ISOLATED, 0x10 DISCARDED. -/
def flagUnmapped : Nat := 0x80
/-- PARKED. -/
def flagParked : Nat := 0x40
/-- ISOLATED. -/
def flagIsolated : Nat := 0x20
/-- DISCARDED. -/
def flagDiscarded : Nat := 0x10

/-- The word a host read returns, and its flags [7:4] (R9, R12, R21, R55, R56, R874). -/
def Chip.readWord (c : Chip) (a : Nat) : Word × Nat :=
  match regRow a with
  | none => (0, flagUnmapped)
  | some r =>
    match remoteLane a with
    | none => (c.reg a ||| c.viewOf a, 0)
    | some l =>
      let own := c.reg a &&& wd (r.sh ||| r.res)
      if !r.onDie || c.live l then (c.reg a ||| c.viewOf a, 0)
      else if c.silent l then (c.reg a &&& wd r.sh, flagIsolated)
      else (own ||| (mget 0 c.girth.latched a &&& wd r.ro), if r.rw ||| r.w1c ||| r.wo = 0 then 0 else flagParked)

end Sys2Proof.Machine
end

