-- ==== Sys2Proof/Machine/Settings.lean ====
section
/-! DEFINITION. Two-bank commits as the MRAM controller executes them (05 R232), settings saves (18 R830, R831), and the trial checks with the
confirmation of an image (18 R818-R822, R834). -/

namespace Sys2Proof.Machine

/-! ### Settings banks (R824, R830, R831) -/

/-- The body of a settings bank (R824): entry count and SEC, then address and value of each entry. -/
def settingsBody (sec : Nat) (es : List (Nat × Word)) : List Byte :=
  leBytes 8 (es.length * 2 ^ 32 + sec % 2 ^ 32) ++ es.flatMap (fun e => leBytes 8 (e.1 * 2 ^ 48 + e.2.toNat))

/-- The entries of the settings list with the values a host read returns (R830). -/
def Chip.settingsNow (c : Chip) : List (Nat × Word) := c.upd.settingsList.map (fun a => (a, (c.readWord a).1))

/-- Code in `commits` and `held` for the clearing of both banks of a structure in place of a commit. -/
def clearFormat : Nat := 256

/-- The commit words of both banks of a structure are written with zero (R817, R831). -/
def Mram.clearCommitWord (m : Mram) (struct : Nat) (b : Bool) : Mram :=
  let k := bankOf struct
  { m with bytes := memWrite 0 m.bytes ((if b then k.2.1 else k.1) + k.2.2 - 8) (List.replicate 8 0) }

/-- UPD_SETTINGS_STAT.RESULT: 0 done, 1 held, 2 deferred, 3 UNREADABLE, 4 TRIAL, 5 invalid key. -/
def Chip.saveRes (c : Chip) (r : Nat) : Chip := c.upUpd (fun u => { u with saveResult := r })

/-- A write of MRAM that WARNING holds is deferred (R830, R848). -/
def Chip.atWarning (c : Chip) : Bool := c.therm.warning || c.therm.trip

/-- A settings save that is not held by a trial (R830). -/
def Chip.saveNow (c : Chip) : Chip :=
  if c.upd.unreadable then c.saveRes 3
  else (c.requestCommit 3 c.upd.settingsFormat (settingsBody c.keeper.sec.toNat c.settingsNow)).saveRes (if c.atWarning then 2 else 0)

/-- A settings save (R830): held on trial. -/
def Chip.settingsSave (c : Chip) : Chip :=
  if c.upd.record.state = 5 then (c.upUpd (fun u => { u with heldSave := true })).saveRes 1 else c.saveNow

/-- The clearing of both settings banks (R831). -/
def Chip.settingsClear (c : Chip) : Chip :=
  if c.upd.record.state = 5 then c.saveRes 4
  else if c.atWarning then (c.requestCommit 3 clearFormat []).saveRes 2
  else (c.upMram (fun m => ({ m with commits := m.commits.filter (fun q => q.1 != 3) }.clearCommitWord 3 false).clearCommitWord 3 true)).saveRes 0

/-- A write to UPD_SETTINGS_CTL (R830, R831). -/
def Chip.settingsCtl (c : Chip) (key : Word) : Chip :=
  if key = 0x53415645 then c.settingsSave else if key = 0x434C5253 then c.settingsClear else c.saveRes 5

/-! ### Confirmation (R822, R834) -/

/-- NOR address of the boot-pointer sector that a confirmation rewrites, and the SEQ it takes: the sector with the earlier SEQ, SEQ + 1 of the
later one; a sector that is not valid counts as the earlier (R264, R822). -/
def MemPort.nextBoot (m : MemPort) : Nat × Word :=
  match m.bootPtr 0, m.bootPtr 0x1000 with
  | some a, some b => if serialLater b.1 a.1 then (0, b.1 + 1) else (0x1000, a.1 + 1)
  | some a, none => (0x1000, a.1 + 1)
  | none, some b => (0, b.1 + 1)
  | none, none => (0, 1)

/-- The boot pointer is rewritten with the confirmed slot; a failure sets PTR_FAIL and changes nothing else (R822). -/
def Chip.bootWrite (c : Chip) (slot : Nat) : Chip :=
  if c.mem.state = .silent ∨ c.mem.state = .undiscovered ∨ c.lands.vioGood = false ∨ c.atWarning = true then c.setBits 0x4060 0x200000
  else
    let p := c.mem.nextBoot
    c.upMem (fun m => { m with
      nor := memWrite 0xFF m.nor p.1 (padTo 4096 0xFF (bootBytes p.2 slot)), lines := [], omitCmd := false, resetOwed := false,
      erases := m.erases + 1, programs := m.programs + 1 })

/-- The confirmed image's signer key hashes to a NEXT_KEY_HASH that is set: it becomes the image-key hash, and NEXT_KEY_HASH is committed as
zero (R834). -/
def Chip.keyChange (c : Chip) : Chip :=
  let next := c.upd.record.nextKeyHash
  if leNat next ≠ 0 ∧ c.upd.signerHash = next then
    (c.upMram (fun m => { m with keys := { m.keys with imageKeyHash := next } })).upRec (fun r => { r with nextKeyHash := List.replicate 32 0 })
  else c

/-- What follows the confirmation commit, in order: the held save, the boot pointer, the key change (R822). -/
def Chip.confirmed (c : Chip) : Chip :=
  let c1 := if c.upd.heldSave then (c.upUpd (fun u => { u with heldSave := false })).saveNow else c
  (c1.bootWrite c.upd.record.confirmed).keyChange

/-- All five bits are set: the confirmation is committed (R822). -/
def Chip.confirm (c : Chip) : Chip :=
  let c1 := ((c.upRec (fun r => { r with state := 0, confirmed := r.boot, trialStarts := 0, migBank := 0xFF })).updEvent 0x0605
    c.upd.record.boot).upUpd (fun u => { u with trial := false })
  if c1.atWarning then c1.upUpd (fun u => { u with after := 3 }) else c1.confirmed

/-! ### Trial checks (R818-R821) -/

/-- The conditions under which a trial check passes (R818, R819); what it measures is asserted by the command. -/
def Chip.trialPasses (c : Chip) (check : Nat) : Bool :=
  match check with
  | 0 => true
  | 1 => c.live 0 && decide (c.mon.failed.toNat / 16 % 128 = 0)
  | 2 => rgPowered c.mode && c.tb.mlg && decide (c.acq.state = .idle)
  | 3 => rcPowered c.mode && decide (c.radio.state = .idle ∨ c.radio.state = .searching)
  | 4 => c.upd.reported || (decide (0 < c.upd.confirmHours) && decide (c.upd.confirmHours * 3600 ≤ c.upd.trialSeconds)) ||
      (decide (c.upd.confirmHours = 0) && !c.yardIn)
  | _ => false

/-- The checks of a trial run: from the first mode of a trial start until the image is confirmed or a check has failed (R819). -/
def Chip.onTrial (c : Chip) : Bool := c.started && c.upd.trial && decide (c.upd.record.state = 5) && !c.start.retryDue

/-- TRIAL_CHECK (R818, R822): the bit is committed, and the image is confirmed with the fifth. -/
def Chip.trialCheck (c : Chip) (check : Nat) : Chip :=
  if c.onTrial && decide (check < 5) && !c.upd.record.checks.getLsbD check && c.trialPasses check then
    let c1 := c.upRec (fun r => { r with checks := r.checks ||| BitVec.ofNat 5 (2 ^ check) })
    if c1.upd.record.checks.toNat = 31 then c1.confirm else c1
  else c

/-- TRIAL_CHECK (R818). -/
def execTrialCheck (check : Nat) (s : State) : Host.Outcome State Fault Refusal := s.run (fun c => c.trialCheck check)

/-- A failed trial check: KEEPER, and a start with trigger RETRY 1.0 s later (R821). -/
def Chip.failedCheckWait (c : Chip) : Chip := (c.upStart (fun s => { s with retryDue := true })).goTo 1 .start

/-- CHECK_FAILED (R821): of the CONVERTER, GNSS and RADIO checks; SETTINGS passes in every start that reaches its first mode, and REPORT
waits. -/
def Chip.checkFailed (c : Chip) (check : Nat) : Chip :=
  if c.onTrial && decide (1 ≤ check ∧ check ≤ 3) && !c.upd.record.checks.getLsbD check then
    let c1 := c.upRec (fun r => { r with lastErr := 9, failedCheck := check })
    if c1.atWarning then c1.upUpd (fun u => { u with after := 2 }) else c1.failedCheckWait
  else c

/-- CHECK_FAILED (R821). -/
def execCheckFailed (check : Nat) (s : State) : Host.Outcome State Fault Refusal := s.run (fun c => c.checkFailed check)

/-- TRIAL_SEC_COMMIT (R820): every 600 s. -/
def execTrialSecCommit (s : State) : Host.Outcome State Fault Refusal :=
  s.run (fun c => if decide (600 ≤ c.upd.trialRun) then c.trialCommit else c)

/-! ### The MRAM controller's commits (R232, R815, R821, R822, R839, R852) -/

/-- What follows the commit of an update-state record that WARNING held. -/
def Chip.afterRecord (c : Chip) : Chip :=
  let c1 := c.upUpd (fun u => { u with after := 0 })
  match c.upd.after with
  | 1 => c1.beginStart 4
  | 2 => c1.failedCheckWait
  | 3 => c1.confirmed
  | _ => c1

/-- What follows the commit of a structure. -/
def Chip.committed (c : Chip) (struct : Nat) : Chip :=
  if struct = 2 then c.afterRecord
  else if struct = 3 then (if c.upd.saveResult = 2 then c.saveRes 0 else c)
  else if struct = 4 then c.burnishCommitted
  else if struct = 5 then
    c.upAcq (fun a => { a with keep := { a.keep with bankB := match c.mram.current 5 with
      | some (b, _) => b
      | none => false } })
  else c

/-- TWO_BANK_COMMIT (R232): the commit asked for first is executed whole. -/
def Chip.bankCommit (c : Chip) : Chip := match c.mram.commits with
  | [] => c
  | (st, fmt, body) :: rest =>
    let c1 := c.upMram (fun m => { m with commits := rest })
    if fmt = clearFormat then (c1.upMram (fun m => (m.clearCommitWord st false).clearCommitWord st true)).committed st
    else (c1.commitNow st fmt body).committed st

/-- TWO_BANK_COMMIT (R232). -/
def execTwoBankCommit (s : State) : Host.Outcome State Fault Refusal := s.run Chip.bankCommit

end Sys2Proof.Machine
end

