-- ==== Sys2Proof/Machine/Registers.lean ====
section
/-! DEFINITION. The write of one register word by its access codes (00 R6-R13, R22; 20 R871-R886): shadow fields, read-write fields, bits
cleared by writing one, write-only triggers, and ARM fields; the HOST_CTL set (16 R748, R753). -/

namespace Sys2Proof.Machine

/-! ### HOST_CTL (R748, R753) -/

/-- The check of HOST_CTL: TURN, BATCH and DIV out of range 6, a pushed ring whose consumer is not the host 7 (R745, R753). -/
def Chip.hostCtlCheck (c : Chip) : Nat :=
  let w := c.reg 0x3C10
  if fld w 23 16 = 0 ∨ fld w 13 8 = 0 ∨ 32 < fld w 13 8 ∨ fld w 7 0 < 4 ∨ fld w 7 0 % 2 = 1 then 6
  else if (List.range 64).any (fun n => bit (c.reg (0x3C11 + n / 32)) (n % 32) && decide ((c.ring n).consumer ≠ 0x0B)) then 7
  else 0

/-- HOST_CTL.ARM: a set with a different MASTER waits for its moment; another applies at once (R748, R865). -/
def Chip.hostCtlArm (c : Chip) : Chip :=
  let res := c.hostCtlCheck
  let c1 := (c.armLast 0x3C00 res).setFld 0x3C00 7 4 res
  let ws := c.shadow 0x3C00 1 ++ c.shadow 0x3C10 3
  if res ≠ 0 then c1
  else if bit (c.reg 0x3C00) 0 = c.host.master then ((c1.dropArmed 0x3C00).applyWords ws).upHost (fun h => { h with masterNext := none })
  else (c1.holdSet 0x3C00 ws).upHost (fun h => { h with masterNext := some (bit (c.reg 0x3C00) 0) })

/-! ### ARM fields (R882) -/

/-- The unit of an ARM field checks and applies its set (R882-R886). -/
def Chip.armUnit (c : Chip) (a : Nat) : Chip :=
  if 0x0800 ≤ a ∧ a < 0x0C00 then (if a % 16 = 0 then c.ringCfgArm ((a - 0x0800) / 16) else c)
  else if 0x1000 ≤ a ∧ a < 0x1004 then c.seqArm (a - 0x1000)
  else if 0x1200 ≤ a ∧ a < 0x1204 then c.fltCtlArm (a - 0x1200)
  else if 0x1800 ≤ a ∧ a < 0x1804 then c.excCfgArm (a - 0x1800)
  else if radioArms.contains a then c.radioArm a
  else match a with
    | 0x0011 => c.ioDriveArm
    | 0x0022 => c.modePolicyArm
    | 0x0088 => c.gpCfgArm
    | 0x0402 => c.tbSrcArm
    | 0x0403 => c.tbCkoArm
    | 0x0413 => c.gateArm
    | 0x0C10 => c.ruleEnArm
    | 0x0C2A => c.ruleEditArm
    | 0x0C63 => c.ruleMeterArm
    | 0x0C78 => c.ruleWatchArm
    | 0x0CA4 => c.ruleFenceArm
    | 0x0CC1 => c.ruleTheftCfgArm
    | 0x1010 => c.runCfgArm
    | 0x130A => c.awlCtlArm
    | 0x1900 => c.monCtlArm
    | 0x1C04 => c.fldChgArm
    | 0x1C06 => c.fldFoutArm
    | 0x1C07 => c.fldGbiasArm
    | 0x1C18 => c.finCfgArm
    | 0x1C20 => c.fldPinArm
    | 0x2000 => c.gacqRfArm
    | 0x2001 => c.gacqPlanArm
    | 0x2800 => c.gtrkCfgArm
    | 0x2868 => c.gtrkTrustArm
    | 0x2C00 => c.tpCfgArm
    | 0x3808 => c.yardCfgArm
    | 0x3C00 => c.hostCtlArm
    | 0x3E00 => c.memCtlArm
    | 0x3E50 => c.memInitArm
    | 0x400A => c.calendarArm
    | 0x4010 => c.keepDiscArm
    | 0x4020 => c.keepLoopArm
    | _ => c

/-! ### Triggers and windows -/

/-- A write to GACQ_KEEP_CTL (R573): COMMIT or CLEAR; another value has no effect. -/
def Chip.keepCtl (c : Chip) (w : Word) : Chip :=
  if w = 0x434F4D54 then c.keepCommit else if w = 0x434C5200 then c.keepClear else c

/-- The effect of a written word on a register whose bits act when written (R9, R12). -/
def Chip.trigger (c : Chip) (a : Nat) (w : Word) : Chip :=
  if 0x0800 ≤ a ∧ a < 0x0C00 then
    (let n := (a - 0x0800) / 16
     if a % 16 = 8 then c.hostConsume n w else if a % 16 = 9 then c.hostPublish n w else if a = 0x080C then c.obsAck w else c)
  else if 0x1804 ≤ a ∧ a < 0x1808 then c.excWrite (a - 0x1804) (fld w 15 0)
  else match a with
    | 0x0021 => c.hostMode (fld w 3 0)
    | 0x0031 => c.startCmd w
    | 0x0064 => if bit w 31 then c.recovery none else c
    | 0x0C02 => c.event 0x0B 0x11 (fld w 7 0) 0
    | 0x0CC3 => c.theftCmd (fld w 1 0) (fld w 6 4)
    | 0x0CE8 => if bit w 31 then c.theftClear (c.clearBytes none) else c
    | 0x120C => c.fltSwap (fld w 3 0)
    | 0x1211 => c.bankData w
    | 0x200A => c.keepCtl w
    | 0x3080 => if bit w 0 then c.txAbort else c
    | 0x3848 => if bit w 31 then c.yardLoad else c
    | 0x3E1B => if bit w 0 then c.xferGo else c
    | 0x4051 => if bit w 31 then (c.burnishReq (fld w 7 0) (fld w 11 8)).1 else c
    | 0x4076 => c.settingsCtl w
    | 0x40AC => if bit w 31 then c.keyRoll else c
    | _ => c

/-- The registers whose written value is not held as a word: triggers that the rest of the block carries. -/
def ownStore (a : Nat) : Bool := decide (0x1804 ≤ a ∧ a < 0x1808) || decide (a = 0x1211) || decide (0x3F00 ≤ a ∧ a < 0x4000)

/-- A host write to the memory buffer: discarded with BUF_BUSY while a transfer runs (R766). -/
def Chip.bufWrite (c : Chip) (w : Nat) (x : Word) : Chip :=
  if c.mem.xfer.isSome then c.setBits 0x3E02 32
  else c.upMem (fun m => { m with buf := memWrite 0 m.buf (c.rf 0x3E20 2 0 * 1024 + 4 * w) (leBytes 4 x.toNat) })

/-- Bits of RING_STATn cleared by writing one (R346). -/
def Ring.clearBits (r : Ring) (w : Word) : Ring :=
  { r with lossy := r.lossy && !bit w 0, overrun := r.overrun && !bit w 1, dropped := r.dropped && !bit w 2, stale := r.stale && !bit w 3 }

/-- Fields of a word other than SH and ARM take the write (R7, R8, R10). -/
def Chip.storeOwn (c : Chip) (r : RegRow) (a : Nat) (w : Word) : Chip :=
  let c1 := if r.rw = 0 ∨ ownStore a = true then c else c.setReg a ((c.reg a &&& ~~~(wd r.rw)) ||| (w &&& wd r.rw))
  let c2 := if r.w1c = 0 then c1 else c1.clrBits a (w &&& wd r.w1c).toNat
  if 0x0800 ≤ a ∧ a < 0x0C00 ∧ a % 16 = 6 then c2.upRing ((a - 0x0800) / 16) (fun x => x.clearBits w)
  else if 0x3F00 ≤ a ∧ a < 0x4000 then c2.bufWrite (a - 0x3F00) w
  else c2.trigger a w

/-- The lane of the unit of an ARM field whose unit is on a remote die. -/
def armDie (a : Nat) : Option Nat := if a = 0x3000 ∨ a = 0x3002 then none else remoteLane a

/-- The ARM bit of a word, written as 1 (R12, R56, R885): an ARM of a unit on an isolated die is discarded. -/
def Chip.storeArm (c : Chip) (r : RegRow) (a : Nat) (w : Word) : Chip × Nat :=
  if r.arm && bit w 31 then (if (armDie a).any c.silent then (c, flagIsolated) else (c.armUnit a, 0)) else (c, 0)

/-- A written word of a mapped register, and its flags [7:4]. -/
def Chip.storeWord (c : Chip) (r : RegRow) (a : Nat) (w : Word) : Chip × Nat :=
  let c1 := if r.sh = 0 then c else c.setReg a ((c.reg a &&& ~~~(wd r.sh)) ||| (w &&& wd r.sh))
  let reach := (remoteLane a).map c.lane
  let p : Chip × Nat :=
    if !r.onDie || reach.all (fun l => decide (l = .live)) then (c1.storeOwn r a w, 0)
    else if reach = some .silent then (c1, flagIsolated)
    else (c1, flagParked)
  let q := p.1.storeArm r a w
  (q.1, p.2 ||| q.2)

/-- A write of one word, and the flags [7:4] it raises (R20, R21, R320, R871): the MRAM window ignores it; a ring window stages it. -/
def Chip.writeWord (c : Chip) (a : Nat) (w : Word) : Chip × Nat :=
  if 0x8000 ≤ a ∧ a < 0xC000 then
    let p := c.stageWindow ((a - 0x8000) / 256) (a % 256) w
    (p.1, if p.2 then 0 else flagDiscarded)
  else if 0xC000 ≤ a then (c, 0)
  else match regRow a with
    | none => (c, flagUnmapped)
    | some r => c.storeWord r a w

/-- A host write of one word: during a start it is discarded, but for SYS_START_CMD (R275). -/
def Chip.hostWrite (c : Chip) (a : Nat) (w : Word) : Chip × Nat :=
  if c.hostOpen || decide (a = 0x0031) then c.writeWord a w else (c, flagDiscarded)

/-- HOST_CTL_ARM (R753). -/
def execHostCtlArm (s : State) : Host.Outcome State Fault Refusal := s.runHost Chip.hostCtlArm

/-- REGISTER_WRITE (R11). -/
def execRegisterWrite (addr : Nat) (w : Word) (s : State) : Host.Outcome State Fault Refusal := s.run (fun c => (c.hostWrite addr w).1)

/-- SETTINGS_SAVE (R830). -/
def execSettingsSave (s : State) : Host.Outcome State Fault Refusal := s.runHost Chip.settingsSave
/-- SETTINGS_CLEAR (R831). -/
def execSettingsClear (s : State) : Host.Outcome State Fault Refusal := s.runHost Chip.settingsClear

end Sys2Proof.Machine
end

