-- ==== Sys2Proof/Machine/Load.lean ====
section
/-! DEFINITION. The load that ends a start (06 R262 steps 6-13, R264-R275; 10 R470, R486-R488; 15 R675; 18 R813, R816, R817, R823-R829, R834):
memory discovery, slot choice, image check, settings, calibration, register preload, rule table and the first mode. -/

namespace Sys2Proof.Machine

/-! ### Units and their ARM fields (R882) -/

/-- The ARM field that applies a shadow word. -/
def unitOf (a : Nat) : Option Nat :=
  if 0x0080 ≤ a ∧ a ≤ 0x0088 then some 0x0088
  else if 0x0410 ≤ a ∧ a ≤ 0x0413 then some 0x0413
  else if 0x0800 ≤ a ∧ a < 0x0C00 then (if a % 16 ≤ 1 then some (a - a % 16) else none)
  else if 0x0C08 ≤ a ∧ a ≤ 0x0C10 then some 0x0C10
  else if 0x0C20 ≤ a ∧ a ≤ 0x0C2A then some 0x0C2A
  else if 0x0C61 ≤ a ∧ a ≤ 0x0C63 then some 0x0C63
  else if 0x0C70 ≤ a ∧ a ≤ 0x0C78 then some 0x0C78
  else if 0x0C80 ≤ a ∧ a ≤ 0x0CA4 then some 0x0CA4
  else if 0x1100 ≤ a ∧ a < 0x1200 then some (0x1000 + (a - 0x1100) / 64)
  else if 0x1010 ≤ a ∧ a ≤ 0x1012 then some 0x1010
  else if 0x1204 ≤ a ∧ a ≤ 0x1207 then some (a - 4)
  else if 0x1300 ≤ a ∧ a ≤ 0x130A then some 0x130A
  else if 0x180C ≤ a ∧ a ≤ 0x180F then some (a - 12)
  else if a = 0x1901 then some 0x1900
  else if 0x1C10 ≤ a ∧ a ≤ 0x1C18 then some 0x1C18
  else if 0x2C00 ≤ a ∧ a ≤ 0x2C02 then some 0x2C00
  else if 0x3010 ≤ a ∧ a ≤ 0x301C then some 0x301C
  else if a = 0x3020 ∨ (0x3040 ≤ a ∧ a ≤ 0x307F) then some 0x3020
  else if 0x3C10 ≤ a ∧ a ≤ 0x3C12 then some 0x3C00
  else if 0x3E00 ≤ a ∧ a ≤ 0x3E12 then some 0x3E00
  else if 0x3E40 ≤ a ∧ a ≤ 0x3E50 then some 0x3E50
  else if 0x4008 ≤ a ∧ a ≤ 0x400A then some 0x400A
  else (regRow a).bind (fun r => if r.arm then some a else none)

/-- A unit put into a rising list of units. -/
def insertUnit (u : Nat) : List Nat → List Nat
  | [] => [u]
  | x :: xs => if u < x then u :: x :: xs else if u = x then x :: xs else x :: insertUnit u xs

/-- The block while entries are written: the units written after their last ARM, and whether an ARM has been refused. -/
structure Loading where
  chip : Chip
  dirty : List Nat := []
  refused : Bool := false
  deriving DecidableEq, Repr

/-- SYS_ARM_LAST shows a refused ARM (R883). -/
def Chip.lastRefused (c : Chip) : Bool := decide (c.rf 0x0023 15 0 ≠ 0)

/-- One entry written as a host write (R272, R825). -/
def Loading.write (l : Loading) (e : Nat × Word) : Loading := match regRow e.1 with
  | none => l
  | some r =>
    let c := (l.chip.writeWord e.1 e.2).1
    let d := match (if r.sh = 0 then none else unitOf e.1) with
      | some u => insertUnit u l.dirty
      | none => l.dirty
    if r.arm && bit e.2 31 then { chip := c, dirty := d.filter (fun u => u != e.1), refused := l.refused || c.lastRefused }
    else { l with chip := c, dirty := d }

/-- Entries written in order. -/
def Loading.writes (l : Loading) (es : List (Nat × Word)) : Loading := es.foldl Loading.write l

/-- Every unit written after its last ARM is armed, in the order of the addresses (R272, R827). -/
def Loading.arms (l : Loading) : Loading :=
  l.dirty.foldl (fun l u => let c := l.chip.armUnit u; { chip := c, refused := l.refused || c.lastRefused }) { l with dirty := [] }

/-! ### Entries of sections and banks (R272, R823, R824, R826) -/

/-- The 8-byte entries of a settings or preload section: address, 2 zero bytes, value; none when it is malformed. -/
def entryPairs (bs : List Byte) : Option (List (Nat × Word)) :=
  let es := (List.range (bs.length / 8)).map (fun i => (leAt bs (8 * i) 2, leAt bs (8 * i + 2) 2, wd (leAt bs (8 * i + 4) 4)))
  if bs.length % 8 = 0 ∧ es.all (fun e => e.2.1 == 0) = true then some (es.map (fun e => (e.1, e.2.2))) else none

/-- The settings-defaults entries: at most 2045, each address with an SH or RW field (R823). -/
def settingsDefaults (bs : List Byte) : Option (List (Nat × Word)) := match entryPairs bs with
  | none => none
  | some es => if es.length ≤ 2045 ∧ es.all (fun e => (regRow e.1).any (fun r => decide (r.sh ≠ 0) || decide (r.rw ≠ 0))) = true then some es else none

/-- The register-preload entries: each address with an SH or ARM field (R273). -/
def preloadEntries (bs : List Byte) : Option (List (Nat × Word)) := match entryPairs bs with
  | none => none
  | some es => if es.all (fun e => (regRow e.1).any (fun r => decide (r.sh ≠ 0) || r.arm)) then some es else none

/-- The migration entries, OLD_ADDR, NEW_ADDR and MASK, each NEW_ADDR in the settings list (R826). -/
def migrationEntries (bs : List Byte) (list : List Nat) : Option (List (Nat × Nat × Word)) :=
  let es := (List.range (bs.length / 8)).map (fun i => (leAt bs (8 * i) 2, leAt bs (8 * i + 2) 2, wd (leAt bs (8 * i + 4) 4)))
  if bs.length % 8 = 0 ∧ es.all (fun e => list.contains e.2.1) = true then some es else none

/-- The entries of a settings bank; none when its body breaks R824. -/
def bankEntries (bs : List Byte) : Option (List (Nat × Word)) :=
  let n := leAt bs 4 4
  if 2045 < n then none
  else
    let es := (List.range n).map (fun i => (leAt bs (8 + 8 * i + 6) 2, leAt bs (8 + 8 * i + 4) 2, wd (leAt bs (8 + 8 * i) 4)))
    if es.all (fun e => e.2.1 == 0) then some (es.map (fun e => (e.1, e.2.2))) else none

/-- The value that a list of entries leaves at an address. -/
def lastValue (es : List (Nat × Word)) (a : Nat) : Option Word := (es.reverse.find? (fun e => e.1 == a)).map (·.2)

/-- One migration entry (R827). -/
def migrate1 (old : List (Nat × Word)) (vals : List (Nat × Word)) (m : Nat × Nat × Word) : List (Nat × Word) :=
  match lastValue old m.1, lastValue vals m.2.1 with
  | some o, some v => vals.map (fun e => if e.1 = m.2.1 then (e.1, (v &&& ~~~m.2.2) ||| (o &&& m.2.2)) else e)
  | _, _ => vals

/-! ### Slot choice (R264, R799, R813, R816, R817) -/

/-- A slot is chosen. -/
def Chip.choose (c : Chip) (slot : Nat) (trial : Bool) : Chip := c.upStart (fun s => { s with slot := slot % 2, trial := trial })

/-- A start that finds STATE TRIAL with TRIAL_STARTS at 3 reverts (R816, R817, R258). -/
def Chip.revert (c : Chip) : Chip :=
  let r := c.upd.record
  let c1 := if r.migBank ≤ 1 then c.upMram (fun m => m.clearCommitWord 3 (decide (r.migBank = 1))) else c
  let c2 := (c1.commitUpdNow { r with boot := r.confirmed, state := 0, trialStarts := 0, migBank := 0xFF }).choose r.confirmed false
  (c2.recordCause 0x0F false).updEvent 0x0606 c2.start.slot

/-- Step 7 of the start. -/
def Chip.chooseSlot (c : Chip) : Chip :=
  let r := c.upd.record
  if !c.upd.present then
    let s := c.mem.bootSlot
    (c.commitUpd { boot := s, confirmed := s }).choose s false
  else if r.state = 5 then
    (if r.trialStarts < 3 then (c.commitUpdNow { r with trialStarts := r.trialStarts + 1 }).choose r.boot true else c.revert)
  else (if r.state = 3 then c.commitUpd { r with state := 2 } else c).choose r.boot false

/-! ### Image check (R266, R268, R833) -/

/-- A blank key store takes the keys of a provisioning image and locks (R268). -/
def Chip.provision (c : Chip) : Chip :=
  let h := c.mem.header c.start.slot
  let reg := fld (imgFlags h) 7 4
  if !c.mram.keys.locked && bit (imgFlags h) 1 && decide (reg = 1 ∨ reg = 2) then
    (c.upMram (fun m => { m with keys := { m.keys with
      locked := true, imageKeyHash := sha256 (imgSigner h), recoveryKeyHash := slice h 0x0C0 32, region := reg } })).upStart
      (fun s => { s with keysBlank := false })
  else c

/-- Step 8 of the start: the image check, and what the header gives the update engine. -/
def Chip.checkImage (c : Chip) : Chip × Option Nat :=
  match c.mem.imageFault c.start.slot with
  | some f => (c, some f)
  | none =>
    let c1 := c.provision
    let h := c1.mem.header c1.start.slot
    if c1.mem.imageSigned c1.start.slot c1.mram.keys c1.upd.record.nextKeyHash then
      (c1.upUpd (fun u => { u with
        settingsFormat := imgFormat h, confirmHours := leAt h 0x18 4, signerHash := sha256 (imgSigner h) }), none)
    else (c1, some 3)

/-- A section of the chosen image; an image without it has an empty one. -/
def Chip.imageSection (c : Chip) (type : Nat) : Option (List Byte) := c.mem.section c.start.slot type

/-! ### Settings (R270, R825-R829) -/

/-- Neither settings bank carries the MAGIC (R270). -/
def Mram.noSettings (m : Mram) : Bool :=
  [false, true].all (fun b => let bs := m.bank 3 b; decide (leAt bs (bs.length - 2) 2 ≠ 0x4B43))

/-- A settings body is committed; WARNING holds it (R848). -/
def Chip.commitSettings (c : Chip) (es : List (Nat × Word)) : Chip :=
  let body := settingsBody c.keeper.sec.toNat es
  if c.atWarning then c.requestCommit 3 c.upd.settingsFormat body else c.commitNow 3 c.upd.settingsFormat body

/-- The values of the settings list that a list of entries leaves. -/
def Chip.listValues (c : Chip) (es : List (Nat × Word)) : List (Nat × Word) :=
  c.upd.settingsList.map (fun a => (a, (lastValue es a).getD 0))

/-- Defaults are in use. -/
def Loading.defaults (l : Loading) (unreadable : Bool) : Loading :=
  { l with chip := (l.chip.upStart (fun s => { s with settingsDefault := true })).upUpd (fun u => { u with unreadable := unreadable }) }

/-- An unreadable structure, the defaults already written or not (R270, R829). -/
def Loading.unreadable (l : Loading) (dfl : List (Nat × Word)) (written : Bool) : Loading × Option Nat :=
  let h := l.chip.mem.header l.chip.start.slot
  if bit (imgFlags h) 0 then (l, some 7)
  else
    let l1 := (if written then l else l.writes dfl).defaults true
    ({ l1 with chip := l1.chip.recordCause 7 false }, none)

/-- A migration (R827-R829): accepted ARMs commit MIG_BANK and then the migrated body; a refused one writes the defaults again. -/
def Loading.migrate (l : Loading) (dfl old : List (Nat × Word)) (mig : List (Nat × Nat × Word)) (bank : Bool) : Loading × Option Nat :=
  let vals := mig.foldl (migrate1 old) dfl
  let l1 := (l.writes vals).arms
  if l1.refused then
    (({ l1 with refused := false }.writes dfl).arms).unreadable dfl true
  else
    let c1 := l1.chip.commitUpd { l1.chip.upd.record with migBank := b2n (!bank) }
    ({ l1 with chip := c1.commitSettings (c1.listValues vals) }, none)

/-- The settings structure of MRAM loaded (R270). -/
def Loading.bank (l : Loading) (dfl : List (Nat × Word)) (mig : Option (List (Nat × Nat × Word))) : Loading × Option Nat :=
  let c := l.chip
  if c.start.useDefaults then ((l.writes dfl).defaults false, none)
  else match c.mram.current 3 with
    | none =>
      if c.mram.noSettings then
        let l1 := (l.writes dfl).defaults false
        ({ l1 with chip := l1.chip.commitSettings (l1.chip.listValues dfl) }, none)
      else l.unreadable dfl false
    | some (b, bs) =>
      match bankEntries bs with
      | none => l.unreadable dfl false
      | some es =>
        if bankFormat bs = c.upd.settingsFormat then
          (l.writes (dfl ++ es.filter (fun e => c.upd.settingsList.contains e.1)), none)
        else match mig with
          | some m =>
            if imgMigrate (c.mem.header c.start.slot) ≤ bankFormat bs ∧ bankFormat bs < c.upd.settingsFormat then l.migrate dfl es m b
            else l.unreadable dfl false
          | none => l.unreadable dfl false

/-- Step 9 of the start. -/
def Loading.settings (l : Loading) : Loading × Option Nat :=
  match settingsDefaults ((l.chip.imageSection 1).getD []) with
  | none => (l, some 4)
  | some dfl =>
    let l1 := { l with chip := l.chip.upUpd (fun u => { u with settingsList := (dfl.map (·.1)).eraseDups }) }
    match l.chip.imageSection 5 with
    | none => l1.bank dfl none
    | some bs => match migrationEntries bs l1.chip.upd.settingsList with
      | none => (l1, some 4)
      | some m => l1.bank dfl (some m)

/-! ### Calibration (R271, R470, R486-R488) -/

/-- Corrections without effect: every OFFSET 0 and GAIN 1. -/
def plainCal : List Byte :=
  List.replicate 64 0 ++ (List.replicate 65 (pairBytes (0, 1073741824))).flatten ++ List.replicate 56 0

/-- The calibration bank that a start takes: the current one of FORMAT 1 within the ranges of R482. -/
def Mram.calBank (m : Mram) : Option (List Byte) := match m.current 4 with
  | some (_, bs) => if bankFormat bs = 1 ∧ calValid bs = true then some (bs.take 640) else none
  | none => none

/-- Both banks of every chain take the reset taps and the corrections, and bank A is active (R470). -/
def Chip.takeCal (c : Chip) (cal : List Byte) (dflt : Bool) : Chip :=
  let taps := (List.finRange 72).map (fun i => (Config.resetTap i).setWidth 32)
  let c1 : Chip := { c with chains := (List.range 4).map (fun m =>
    let k := taps ++ bankOfCal cal m
    { bankA := k, bankB := k }) }
  ((c1.upBurnish (fun b => { b with calUse := cal, defaults := dflt })).upStart (fun s => { s with calDefault := dflt })).useExcCal cal

/-- Step 10 of the start. -/
def Loading.calibration (l : Loading) : Loading × Option Nat :=
  let sec := l.chip.imageSection 3
  if sec.any (fun s => decide (s.length ≠ 640) || !calValid s) then (l, some 4)
  else
    let c := match (if l.chip.start.useCalDefaults then none else l.chip.mram.calBank) with
      | some cal => l.chip.takeCal cal false
      | none => l.chip.takeCal (sec.getD plainCal) true
    ({ l with chip := c }, none)

/-! ### Register preload and the yard section (R272, R273, R674, R675) -/

/-- The yard section's values before the settings and the preload: its LEASE and MINI_LISTEN in YARD_CFG. -/
def Chip.takeYard (c : Chip) (bs : List Byte) : Chip :=
  let w := wd (leAt bs 8 2 % 4096 * 65536 + leAt bs 7 1 % 4 * 256)
  ((c.setReg 0x3808 w).setRun 0x3808 w).upYard (fun y => { y with
    sec := YardSection.ofBytes bs, lease := leAt bs 8 2, miniListen := leAt bs 7 1 })

/-- The yard section before step 9. -/
def Chip.yardFirst (c : Chip) : Chip := match c.imageSection 6 with
  | some bs => if yardSectionOk bs then c.takeYard bs else c
  | none => c

/-- The yard section keeps R674 and, with the running RAMP, R675. -/
def Chip.yardChecked (c : Chip) : Bool := match c.imageSection 6 with
  | some bs => yardSectionOk bs && (YardSection.ofBytes bs).airOk c.ramp
  | none => true

/-- Step 11 of the start: the preload entries, the ARM of every unit written after its last ARM, then the yard section's limits. -/
def Loading.preload (l : Loading) : Loading × Option Nat :=
  match preloadEntries ((l.chip.imageSection 4).getD []) with
  | none => (l, some 4)
  | some es =>
    let l1 := (({ l with refused := false }.writes es)).arms
    if l1.refused || !l1.chip.yardChecked then (l1, some 4) else (l1, none)

/-! ### Rule table (R274, R347, R365, R391) -/

/-- Step 12 of the start. -/
def Loading.rules (l : Loading) : Loading × Option Nat :=
  let bs := (l.chip.imageSection 2).getD []
  if !sectionForm bs then (l, some 4)
  else
    let mods := watchMods ((List.range 8).map (fun i => wd (leAt bs (0x58 + 4 * i) 4)))
    match (tableCheck mods (sectionRules bs)).1 with
    | 3 => (l, some 6)
    | 4 => (l, some 4)
    | _ =>
      let c1 := l.chip.loadTable bs
      ({ l with chip := c1.upKeeper (fun k => { k with
        theft := if k.theftOpen && c1.rules.lapseArmed then .armed else k.theft, theftOpen := false }) }, none)

/-! ### The whole load -/

/-- A step of the load follows the one before unless that has failed. -/
def Loading.andThen (p : Loading × Option Nat) (f : Loading → Loading × Option Nat) : Loading × Option Nat := match p.2 with
  | some _ => p
  | none => f p.1

/-- A confirmed image signed under NEXT_KEY_HASH completes the key change (R834). -/
def Loading.keys (l : Loading) : Loading × Option Nat :=
  (if l.chip.start.trial || decide (l.chip.start.slot ≠ l.chip.upd.record.confirmed) then l else { l with chip := l.chip.keyChange }, none)

/-- Steps 8 to 12 of the start, the first failure's cause beside them. -/
def Chip.loadImage (c : Chip) : Chip × Option Nat :=
  let p := c.checkImage
  let l : Loading := { chip := p.1.yardFirst }
  let q := Loading.andThen (Loading.andThen (Loading.andThen (Loading.andThen (Loading.andThen (l, p.2) Loading.settings)
    Loading.calibration) Loading.preload) Loading.keys) Loading.rules
  (q.1.chip, q.2)

/-- FIRST_MODE; DUTY without FVIN is reached as WATCH (R135). -/
def Chip.firstMode (c : Chip) : Nat :=
  let m := c.runF 0x22 7 4
  if m = 5 ∧ c.power.fvinTaken = false then 2 else m

/-- Step 13 (R253, R258, R283, R361, R489, R744, R819, R861): the first mode is reached, and the start record is cleared. -/
def Chip.enterFirst (c : Chip) : Chip :=
  let r := c.start.record
  let c1 := c.commitStart { r with state := 0, unfinished := if c.start.trial then r.unfinished else 0 }
  let p := c1.draw
  let q := p.1.draw
  let c2 := ((q.1.upYard (fun y => { y with nonce := p.2 })).upUpd (fun u => { u with nonce := q.2, trial := c.start.trial, trialRun := 0 })).upStart
    (fun s => { s with phase := .done, useDefaults := false, useCalDefaults := false })
  let c3 := ((c2.setBits 0x3C02 8).event 0x0E 0x15 c.start.trigger 0).completeMode c.firstMode .start
  let c4 := c3.sendHeld true
  let c5 := if c4.burnish.owed then (c4.event 0x04 0x14 1 0).upBurnish (fun b => { b with owed := false }) else c4
  c5.frontFollow.settle

/-- Steps 6 to 13 of a normal start. -/
def Chip.startLoad (c : Chip) (part : NorPart) : Chip :=
  let p := c.discover part
  if !p.2 then p.1.startFail 5
  else
    let q := p.1.chooseSlot.loadImage
    match q.2 with
    | some cause => q.1.startFail cause
    | none => q.1.enterFirst

/-- Steps 3 to 5 of a normal start are complete: every lane is LIVE, and both timebases are proven (R262). -/
def Chip.stepsDone (c : Chip) : Bool :=
  (List.range 4).all c.live && c.tb.tbmProven && c.tb.tbkProven

/-- Steps 3 to 5 of a stirrup start are complete: every lane is LIVE or SILENT, and the tests of both timebases have ended (R276). -/
def Chip.stirrupDone (c : Chip) : Bool :=
  (List.range 4).all (fun l => c.live l || c.silent l) && (c.tb.tbmProven || c.tb.tbmFailed) && (c.tb.tbkProven || c.tb.tbkFailed)

/-- START_LOAD (R262, R276): once steps 3 to 5 are complete, a normal start discovers the memory and loads the image, and a stirrup start enters
STIRRUP; it waits while VIO is not good or a hold lasts (R91, R294). -/
def execStartLoad (part : NorPart) (s : State) : Host.Outcome State Fault Refusal :=
  s.run (fun c =>
    if !c.starting || c.held then c
    else if c.start.stirrupStart then (if c.stirrupDone then c.enterStirrup else c)
    else if c.stepsDone && c.lands.vioGood then c.startLoad part else c)

end Sys2Proof.Machine
end

