-- ==== Sys2Proof/Machine/HostPort.lean ====
section
/-! DEFINITION. The host port (16 R722-R753): the reply sent while a frame arrives, the checks of a frame, alive values and retries, reads and
writes with their remote words, and the master's pushes; the loss and return of VIO (02 R92); the system command processor (07, 08 R355). -/

namespace Sys2Proof.Machine

/-! ### Replies (R729, R730, R737, R742, R743) -/

/-- The port works as a slave: VIO is good and MASTER is 0 (R749). -/
def Chip.slavePort (c : Chip) : Bool := c.lands.vioGood && !c.host.master

/-- CRC-16 as two bytes, most significant first. -/
def crcBytes (bs : List Byte) : List Byte := beBytes 2 (crc16 bs)

/-- Flags [7:4] of a reply: those of a WRITE, and those of the words of a READ known when FLAGS is sent. -/
def Reply.flagBits (r : Reply) (replay : Bool) : Nat :=
  r.data.foldl (fun f w => if w.late && !replay then f else f ||| w.flags) r.flags

/-- STATUS: the rejection, or OK and FLAGGED. -/
def Reply.code (r : Reply) (replay : Bool) : Nat := if r.status ≠ 0 then r.status else if r.flagBits replay = 0 then 0 else 1

/-- FLAGS of a reply at the moment it begins. -/
def Chip.replyFlags (c : Chip) (r : Reply) (replay : Bool) : Nat :=
  b2n c.hirq * 32768 + b2n (!c.hostOpen) * 16384 + b2n c.host.last.isNone * 8192 + b2n replay * 4096 + b2n r.gap * 2048 +
    b2n c.host.underrun * 1024 + b2n c.host.trunc * 512 + r.flagBits replay

/-- The 4 bytes sent in the window of a data word: the word, or the bytes before it when the word came late or has not come. -/
def windowBytes (prev : List Byte) (replay : Bool) (w : Option ReplyWord) : List Byte := match w with
  | some x => if x.late && !replay then prev else beBytes 4 x.word.toNat
  | none => prev

/-- The data bytes as they are sent. -/
def sentData (ws : List ReplyWord) (replay : Bool) : Nat → Nat → List Byte → List Byte
  | 0, _, _ => []
  | n + 1, i, prev =>
    let b := windowBytes prev replay ws[i]?
    b ++ sentData ws replay n (i + 1) b

/-- The transmission is spoiled: a word missed its window. -/
def Reply.spoiled (r : Reply) (replay : Bool) : Bool := decide (r.data.length < r.count) || (!replay && r.data.any (fun w => w.late))

/-- The bytes of a reply; a spoiled one ends with the complement of the CRC. -/
def Chip.replyBytes (c : Chip) (r : Reply) (replay : Bool) : List Byte :=
  let head := bytesOf [r.code replay, r.alive] ++ beBytes 2 (c.replyFlags r replay)
  let body := head ++ sentData r.data replay r.count 0 head
  body ++ (if r.spoiled replay then (crcBytes body).map (fun b => ~~~b) else crcBytes body)

/-! ### Words of a READ (R52-R58, R728, R752) -/

/-- An access to the word crosses the girth: a LIVE remote die holds it. -/
def Chip.overGirth (c : Chip) (a : Nat) : Bool :=
  (regRow a).any (fun r => r.onDie && (remoteLane a).any c.live)

/-- Words of the READ in progress fetched up to the next remote one. -/
def Chip.fetch : Nat → Chip → Chip
  | 0, c => c
  | n + 1, c =>
    match c.host.last, c.host.stored with
    | some q, some r =>
      let a := q.addr + r.data.length
      if q.cmd ≠ 1 ∨ r.count ≤ r.data.length ∨ c.overGirth a = true then c
      else
        let p := c.readWord a
        Chip.fetch n (c.upHost (fun h => { h with stored := some { r with data := r.data ++ [{ word := p.1, flags := p.2 }] } }))
    | _, _ => c

/-- Every word that does not wait for the girth. -/
def Chip.fetchAll (c : Chip) : Chip := Chip.fetch 256 c

/-- The next remote word of the READ in progress arrives, in time for its byte window or late (R53, R54). -/
def Chip.wordReady (c : Chip) (late : Bool) : Chip := match c.host.last, c.host.stored with
  | some q, some r =>
    let a := q.addr + r.data.length
    if q.cmd = 1 ∧ r.data.length < r.count ∧ c.overGirth a = true then
      let p := c.readWord a
      (c.upHost (fun h => { h with stored := some { r with data := r.data ++ [{ word := p.1, late := late, flags := p.2 }] } })).fetchAll
    else c
  | _, _ => c

/-- REMOTE_WORD_READY (R53, R54). -/
def execRemoteWordReady (late : Bool) (s : State) : Host.Outcome State Fault Refusal := s.run (fun c => c.wordReady late)

/-! ### The reply sent during a frame (R723, R732, R739) -/

/-- The reply due and whether it is a replay: BUSY while a WRITE executes. -/
def HostPort.due (h : HostPort) : Option (Reply × Bool) :=
  if h.writing.isSome then some ({ status := 0x14, alive := (h.last.map Request.alive).getD 0 }, false)
  else match h.pending with
    | none => none
    | some (.short r) => some (r, false)
    | some .fresh => h.stored.map (fun r => (r, false))
    | some .replay => h.stored.map (fun r => (r, true))

/-- HSDO during a frame of `nb` bytes. -/
def Chip.transmit (c0 : Chip) (nb : Nat) : Chip :=
  let c := c0.fetchAll
  match c.host.due with
  | none => c.upHost (fun h => { h with hsdo := List.replicate nb 0xFF })
  | some (r, replay) =>
    let bs := c.replyBytes r replay
    let bad := r.spoiled replay
    c.upHost (fun h => { h with
      hsdo := padTo nb 0xFF bs, trunc := decide (nb < bs.length), underrun := bad,
      underruns := if bad then h.underruns + 1 else h.underruns, busyAnswered := h.busyAnswered || h.writing.isSome })

/-! ### Checks and alive values (R727, R731, R734-R737) -/

/-- A rejected frame leaves a 6-byte reply and changes nothing else. -/
def Chip.rejectFrame (c : Chip) (status alive : Nat) : Chip :=
  c.upHost (fun h => { h with pending := some (.short { status := status, alive := alive % 256 }) })

/-- A NOP replays the stored reply, or is answered NONE (R736). -/
def Chip.hostNop (c : Chip) (alive : Nat) : Chip :=
  if c.host.stored.isSome then c.upHost (fun h => { h with pending := some .replay }) else c.rejectFrame 2 alive

/-- The words of an executing WRITE stored in order, up to the next that waits for its remote die (R728, R739). A word that begins a start ends
the frame. -/
def Chip.storeWords : Nat → Chip → Chip
  | 0, c => c
  | n + 1, c => match c.host.writing with
    | some ((a, w) :: rest) =>
      if c.overGirth a then c
      else
        let p := (c.upHost (fun h => { h with writing := some rest })).hostWrite a w
        Chip.storeWords n (if p.1.host.writing.isNone then p.1
          else p.1.upHost (fun h => { h with stored := h.stored.map (fun r => { r with flags := r.flags ||| p.2 }) }))
    | _ => c

/-- An accepted READ or WRITE (R728, R731, R735). -/
def Chip.acceptFrame (c : Chip) (q : Request) (words : List Word) (gap : Bool) : Chip :=
  let c1 := c.upHost (fun h => { h with
    last := some q, accepted := h.accepted + 1, gap := if gap then h.gap + 1 else h.gap,
    stored := some { alive := q.alive, gap := gap, count := if q.cmd = 1 then q.count else 0 }, pending := some .fresh })
  if q.cmd = 1 then c1.fetchAll
  else Chip.storeWords 256 (c1.upHost (fun h => { h with
    pending := none, busyAnswered := false, writing := some (words.mapIdx (fun i w => (q.addr + i, w))) }))

/-- A frame whose length and CRC are right is examined (R727, R735). -/
def Chip.examine (c : Chip) (q : Request) (words : List Word) : Chip :=
  if 3 ≤ q.cmd ∨ (q.cmd = 0 ∧ q.count ≠ 0) then c.rejectFrame 0x12 q.alive
  else if 256 < q.count ∨ (q.cmd ≠ 0 ∧ 0x10000 < q.addr + q.count) then c.rejectFrame 0x13 q.alive
  else if c.host.writing.isSome then (c.upHost (fun h => { h with busy := h.busy + 1 })).rejectFrame 0x14 q.alive
  else if q.cmd = 0 then c.hostNop q.alive
  else match c.host.last with
    | none => c.acceptFrame q words false
    | some l =>
      if q.alive = l.alive then
        (if q = l then c.upHost (fun h => { h with retry := h.retry + 1, pending := some .replay })
         else (c.upHost (fun h => { h with clash := h.clash + 1 })).rejectFrame 0x15 q.alive)
      else c.acceptFrame q words (decide (q.alive ≠ (l.alive + 1) % 256))

/-- The bytes of a frame before its CRC (R725). -/
def frameBytes (cmd alive addr count : Nat) (words : List Word) : List Byte :=
  bytesOf [cmd, alive] ++ beBytes 2 addr ++ beBytes 2 count ++ words.flatMap (fun w => beBytes 4 w.toNat)

/-- A frame of a slave port: the reply to the one before is sent while it arrives, and it is examined when HCS rises. -/
def Chip.frame (c : Chip) (cmd alive addr count : Nat) (words : List Word) (fill : Nat) : Chip :=
  if c.slavePort then
    let bs := frameBytes cmd alive addr count words
    (c.transmit (bs.length + 2 + fill)).examine
      { cmd := cmd % 256, alive := alive % 256, addr := addr % 65536, count := count % 65536, crc := crc16 bs } words
  else c

/-- NOP (R736). -/
def execNop (alive fill : Nat) (s : State) : Host.Outcome State Fault Refusal := s.run (fun c => c.frame 0 alive 0 0 [] fill)
/-- READ (R728). -/
def execRead (alive addr count fill : Nat) (s : State) : Host.Outcome State Fault Refusal := s.run (fun c => c.frame 1 alive addr count [] fill)
/-- WRITE (R728). -/
def execWrite (alive addr : Nat) (words : List Word) (fill : Nat) (s : State) : Host.Outcome State Fault Refusal :=
  s.run (fun c => c.frame 2 alive addr words.length words fill)
/-- PUSH to a slave (R727): BAD_CMD. -/
def execPush (alive addr : Nat) (words : List Word) (fill : Nat) (s : State) : Host.Outcome State Fault Refusal :=
  s.run (fun c => c.frame 3 alive addr words.length words fill)

/-- Bytes of a frame as it arrived, with the bits of an incomplete last byte: LEN_ERR and CRC_ERR first, then the further checks (R727). -/
def Chip.rawFrame (c : Chip) (bs : List Byte) (extra : Nat) : Chip :=
  if c.slavePort then
    let c1 := c.transmit bs.length
    let cmd := (bs.getD 0 0).toNat
    let alive := if bs.length < 2 then (Config.shortEcho bs.length).toNat else (bs.getD 1 0).toNat
    let count := beNat (slice bs 4 2)
    let p := if cmd = 2 ∨ cmd = 3 then count else 0
    let n := 6 + 4 * p
    if extra % 8 ≠ 0 ∨ bs.length < n + 2 ∨ (bs.drop (n + 2)).any (fun b => b != 0xFF) = true then
      (c1.upHost (fun h => { h with lenErr := h.lenErr + 1 })).rejectFrame 0x10 alive
    else if beNat (slice bs n 2) ≠ crc16 (bs.take n) then (c1.upHost (fun h => { h with crcErr := h.crcErr + 1 })).rejectFrame 0x11 alive
    else c1.examine { cmd := cmd, alive := alive, addr := beNat (slice bs 2 2), count := count, crc := crc16 (bs.take n) }
      ((List.range p).map (fun i => wd (beNat (slice bs (6 + 4 * i) 4))))
  else c

/-- REJECTED_FRAME (R727). -/
def execRejectedFrame (bytes : List Byte) (extraBits : Nat) (s : State) : Host.Outcome State Fault Refusal :=
  s.run (fun c => c.rawFrame bytes extraBits)

/-! ### The end of a WRITE (R739, R740) -/

/-- The remote die acknowledges the word that the WRITE waits for (R52). -/
def Chip.writeAck (c : Chip) : Chip := match c.host.writing with
  | some ((a, w) :: rest) =>
    if c.overGirth a then
      let p := (c.upHost (fun h => { h with writing := some rest })).hostWrite a w
      Chip.storeWords 256 (p.1.upHost (fun h => { h with stored := h.stored.map (fun r => { r with flags := r.flags ||| p.2 }) }))
    else c
  | _ => c

/-- REMOTE_WRITE_ACK (R52). -/
def execRemoteWriteAck (s : State) : Host.Outcome State Fault Refusal := s.run Chip.writeAck

/-- WRITE_DONE (R739, R740): with every word stored the reply is stored, and is the pending one unless a frame was answered BUSY. -/
def Chip.writeDone (c0 : Chip) : Chip :=
  let c := Chip.storeWords 256 c0
  match c.host.writing with
  | some [] =>
    let c1 := c.upHost (fun h => { h with writing := none, pending := if h.busyAnswered then h.pending else some .fresh })
    if c.host.busyAnswered then c1.setBits 0x3C02 4 else c1
  | _ => c

/-- WRITE_DONE (R740). -/
def execWriteDone (s : State) : Host.Outcome State Fault Refusal := s.run Chip.writeDone

/-! ### Master (R744-R749) -/

/-- MASTER_SWITCH (R748): an accepted change of MASTER applies, and the replies are discarded. -/
def Chip.masterSwitch (c : Chip) : Chip := match c.host.masterNext, c.armedSet 0x3C00 with
  | some m, some s =>
    if c.host.writing.isSome || c.host.mstOut.isSome then c
    else ((c.applyWords s.words).dropArmed 0x3C00).upHost (fun h => { h with master := m, masterNext := none, pending := none, stored := none })
  | _, _ => c

/-- MASTER_SWITCH (R748). -/
def execMasterSwitch (s : State) : Host.Outcome State Fault Refusal := s.run Chip.masterSwitch

/-- The ring that the master serves next: named in HOST_MST_RINGS, with entries, in ring-arbiter order (R746, R329). -/
def Chip.pushRing (c : Chip) : Option Nat :=
  let ok := (List.range 64).filter (fun n => c.runB (0x3C11 + n / 32) (n % 32) && decide ((c.ring n).consumer = 0x0B) &&
    decide (0 < (c.ring n).fill) && !c.host.mstStopped.contains n)
  ok.find? (fun n => ok.all (fun m => decide ((c.ring n).prio ≤ (c.ring m).prio)))

/-- The bytes of a PUSH of the oldest `k` entries of a ring. -/
def Chip.pushBytes (c : Chip) (n k alive : Nat) : List Byte :=
  let b := frameBytes 3 alive n (8 * k) ((List.range k).flatMap (fun i => c.tailEntry n i))
  b ++ crcBytes b

/-- MASTER_PUSH (R746, R747): a new PUSH, or the one that is to be sent again, unchanged. -/
def Chip.masterPush (c : Chip) : Chip :=
  if !c.host.master || !c.lands.vioGood || !c.hostOpen then c
  else match c.host.mstOut with
    | some (n, k) =>
      if c.host.mstResend then
        c.upHost (fun h => { h with hsdo := c.pushBytes n k h.mstAlive.toNat, mstResend := false, mstFails := 0, resent := h.resent + 1 })
      else c
    | none => match c.pushRing with
      | none => c
      | some n =>
        let k := min (c.runF 0x3C10 13 8) (c.ring n).fill
        let a := c.host.mstAlive + 1
        c.upHost (fun h => { h with
          hsdo := c.pushBytes n k a.toNat, mstAlive := a, mstRing := n, mstOut := some (n, k), mstFails := 0, pushed := h.pushed + 1 })

/-- MASTER_PUSH (R746). -/
def execMasterPush (s : State) : Host.Outcome State Fault Refusal := s.run Chip.masterPush

/-- MASTER_NOP (R747): the modem's reply to the PUSH outstanding. -/
def Chip.masterNop (c : Chip) (status echo : Nat) (crcOk : Bool) : Chip := match c.host.mstOut with
  | none => c
  | some (n, k) =>
    if c.host.mstResend || !c.host.master || !c.lands.vioGood then c
    else if !crcOk then
      c.upHost (fun h => { h with mstFails := if 2 ≤ h.mstFails then 0 else h.mstFails + 1, mstResend := decide (2 ≤ h.mstFails) })
    else
      let c1 := c.upHost (fun h => { h with mstFails := 0, mstStatus := status % 256 })
      if status ≤ 1 then
        (if echo % 256 = c.host.mstAlive.toNat then (c1.upHost (fun h => { h with mstOut := none })).consume n k |>.settleClass n else c1)
      else if status = 0x10 ∨ status = 0x11 then c1.upHost (fun h => { h with mstResend := true })
      else if status = 0x02 ∨ status = 0x12 ∨ status = 0x13 ∨ status = 0x15 then
        (c1.upHost (fun h => { h with mstOut := none, mstStopped := h.mstStopped ++ [n] })).setBits 0x3C13 64
      else c1

/-- MASTER_NOP (R747). -/
def execMasterNop (status echo : Nat) (crcOk : Bool) (s : State) : Host.Outcome State Fault Refusal :=
  s.run (fun c => c.masterNop status echo crcOk)

/-! ### VIO (02 R91, R92; 16 R750; 17 R792) -/

/-- VIO falls below its good threshold: VIO_LOW_SEEN, the ring-0 entry, the memory port's operation, and the host frame cut short. -/
def Chip.vioLost (c : Chip) (frame : Option Nat) : Chip :=
  let c1 := (c.upLands (fun l => { l with vioGood := false })).setBits 0x0010 4
  let c2 := if c1.started then c1.protect 0x0C Config.vioCode.val 0 0 0 0 else c1
  match frame with
  | some a => if c.slavePort then (c2.memVioLost.setBits 0x3C02 16).upHost (fun h => { h with vioCut := some (a % 256) }) else c2.memVioLost
  | none => c2.memVioLost

/-- VIO_LOST (R92). Without core supply and in SHIP only the comparison follows. -/
def execVioLost (frame : Option Nat) (s : State) : Host.Outcome State Fault Refusal :=
  s.runPower (fun c => if !c.lands.vioGood then c else if c.awake then c.vioLost frame else c.upLands (fun l => { l with vioGood := false }))

/-- VIO is good again: the frame cut short is answered LEN_ERR, and what waits for the memory port goes on. -/
def Chip.vioBack (c : Chip) : Chip :=
  let c1 := c.upLands (fun l => { l with vioGood := true })
  let c2 := match c1.host.vioCut with
    | some a => (c1.upHost (fun h => { h with vioCut := none })).rejectFrame 0x10 a
    | none => c1
  c2.busFree

/-- VIO_GOOD (R750). -/
def execVioGood (s : State) : Host.Outcome State Fault Refusal :=
  s.runPower (fun c => if c.lands.vioGood then c else if c.awake then c.vioBack else c.upLands (fun l => { l with vioGood := true }))

/-! ### System commands (07 R300, 08 R355) -/

/-- SYSTEM_COMMAND (R355): the oldest ring-4 entry is consumed; the FIRE command and the reply it leads to are free values, the format of the
entry not being given. -/
def Chip.systemCommand (c : Chip) : Chip :=
  if (c.ring 4).fill = 0 ∨ c.started = false then c
  else
    let p := Config.systemCommand (c.tailEntry 4 0)
    let c1 := (c.consume 4 1).settleClass 4
    let c2 := match p.1 with
      | some r => c1.post2 0x12 3 1 r.val
      | none => c1
    match p.2 with
    | some e => c2.produce 0x12 5 (padTo 8 0 e)
    | none => c2

/-- SYSTEM_COMMAND (R355). -/
def execSystemCommand (s : State) : Host.Outcome State Fault Refusal := s.run Chip.systemCommand

end Sys2Proof.Machine
end

