-- ==== Sys2Proof/Machine/Dispatch.lean ====
section
/-! DEFINITION. One arm per command: the meaning of each row of the table. -/

namespace Sys2Proof.Machine

def exec (i : Instr) (s : State) : Host.Outcome State Fault Refusal :=
  match i with
  | .girthTransfer lane groups kind => Sys2Proof.Machine.execGirthTransfer lane groups kind s
  | .laneProbe lane => Sys2Proof.Machine.execLaneProbe lane s
  | .laneSilent lane => Sys2Proof.Machine.execLaneSilent lane s
  | .laneWakeHandshake lane => Sys2Proof.Machine.execLaneWakeHandshake lane s
  | .remoteSetApply arm => Sys2Proof.Machine.execRemoteSetApply arm s
  | .laneWakeTimeout lane => Sys2Proof.Machine.execLaneWakeTimeout lane s
  | .fieldLaneTimeout => Sys2Proof.Machine.execFieldLaneTimeout s
  | .protectionLaneTimeout code arg0 arg1 => Sys2Proof.Machine.execProtectionLaneTimeout code arg0 arg1 s
  | .converterLaneTimeout => Sys2Proof.Machine.execConverterLaneTimeout s
  | .fieldTransferWake prot => Sys2Proof.Machine.execFieldTransferWake prot s
  | .sampleLaneFail lane => Sys2Proof.Machine.execSampleLaneFail lane s
  | .timebaseLineFail line => Sys2Proof.Machine.execTimebaseLineFail line s
  | .remoteWordReady late => Sys2Proof.Machine.execRemoteWordReady late s
  | .remoteWriteAck => Sys2Proof.Machine.execRemoteWriteAck s
  | .nrstReset => Sys2Proof.Machine.execNrstReset s
  | .vioLost frame => Sys2Proof.Machine.execVioLost frame s
  | .vioGood => Sys2Proof.Machine.execVioGood s
  | .ioDriveArm => Sys2Proof.Machine.execIoDriveArm s
  | .ioDriveApply mem => Sys2Proof.Machine.execIoDriveApply mem s
  | .gpCfgArm => Sys2Proof.Machine.execGpCfgArm s
  | .gpWatchRearm pin level => Sys2Proof.Machine.execGpWatchRearm pin level s
  | .gpEdge pin level => Sys2Proof.Machine.execGpEdge pin level s
  | .fvinTaken => Sys2Proof.Machine.execFvinTaken s
  | .fvinRelease => Sys2Proof.Machine.execFvinRelease s
  | .fvinOv vbat fvin => Sys2Proof.Machine.execFvinOv vbat fvin s
  | .cellCut vbat fvin => Sys2Proof.Machine.execCellCut vbat fvin s
  | .cellReconnect => Sys2Proof.Machine.execCellReconnect s
  | .batHold vbat fvin => Sys2Proof.Machine.execBatHold vbat fvin s
  | .batHoldEnd => Sys2Proof.Machine.execBatHoldEnd s
  | .cellReversed vbat fvin => Sys2Proof.Machine.execCellReversed vbat fvin s
  | .chgStateChange vbat current => Sys2Proof.Machine.execChgStateChange vbat current s
  | .chgTimer => Sys2Proof.Machine.execChgTimer s
  | .ntcOpen => Sys2Proof.Machine.execNtcOpen s
  | .foutLimit out => Sys2Proof.Machine.execFoutLimit out s
  | .foutTherm out => Sys2Proof.Machine.execFoutTherm out s
  | .gbiasShort => Sys2Proof.Machine.execGbiasShort s
  | .gbiasOpen => Sys2Proof.Machine.execGbiasOpen s
  | .foutOpen out => Sys2Proof.Machine.execFoutOpen out s
  | .buckSag => Sys2Proof.Machine.execBuckSag s
  | .supplyOut which outside => Sys2Proof.Machine.execSupplyOut which outside s
  | .keeperEventPost => Sys2Proof.Machine.execKeeperEventPost s
  | .modeReqShip => Sys2Proof.Machine.execModeReqShip s
  | .modeReqKeeperWatch watch => Sys2Proof.Machine.execModeReqKeeperWatch watch s
  | .modeReqFix => Sys2Proof.Machine.execModeReqFix s
  | .modeReqBurst => Sys2Proof.Machine.execModeReqBurst s
  | .modeReqDuty => Sys2Proof.Machine.execModeReqDuty s
  | .modeReqInvalid mode => Sys2Proof.Machine.execModeReqInvalid mode s
  | .modeChanged => Sys2Proof.Machine.execModeChanged s
  | .modePolicyArm => Sys2Proof.Machine.execModePolicyArm s
  | .fldChgArm => Sys2Proof.Machine.execFldChgArm s
  | .fldFoutArm => Sys2Proof.Machine.execFldFoutArm s
  | .fldGbiasArm => Sys2Proof.Machine.execFldGbiasArm s
  | .shipExit fvin => Sys2Proof.Machine.execShipExit fvin s
  | .corePowerOn => Sys2Proof.Machine.execCorePowerOn s
  | .sysStartCmd key => Sys2Proof.Machine.execSysStartCmd key s
  | .startRetry => Sys2Proof.Machine.execStartRetry s
  | .startLoad part => Sys2Proof.Machine.execStartLoad part s
  | .startTimeout => Sys2Proof.Machine.execStartTimeout s
  | .supplyCycle => Sys2Proof.Machine.execSupplyCycle s
  | .stirrupBeacon => Sys2Proof.Machine.execStirrupBeacon s
  | .stirrupListenEnd => Sys2Proof.Machine.execStirrupListenEnd s
  | .restart frame => Sys2Proof.Machine.execRestart frame s
  | .restartSlot frame => Sys2Proof.Machine.execRestartSlot frame s
  | .restartDefaults frame => Sys2Proof.Machine.execRestartDefaults frame s
  | .restartCalDefaults frame => Sys2Proof.Machine.execRestartCalDefaults frame s
  | .tbkProven => Sys2Proof.Machine.execTbkProven s
  | .tbmProven => Sys2Proof.Machine.execTbmProven s
  | .tbkFail cause err => Sys2Proof.Machine.execTbkFail cause err s
  | .tbmFail cause err => Sys2Proof.Machine.execTbmFail cause err s
  | .loopLocked loop => Sys2Proof.Machine.execLoopLocked loop s
  | .mlUnlock loop => Sys2Proof.Machine.execMlUnlock loop s
  | .mlgUnlock => Sys2Proof.Machine.execMlgUnlock s
  | .loopLockRetry loop locks => Sys2Proof.Machine.execLoopLockRetry loop locks s
  | .domainSwitchRequest dom target => Sys2Proof.Machine.execDomainSwitchRequest dom target s
  | .stopAcknowledged dom => Sys2Proof.Machine.execStopAcknowledged dom s
  | .sourceSwitch dom => Sys2Proof.Machine.execSourceSwitch dom s
  | .domainRelease dom => Sys2Proof.Machine.execDomainRelease dom s
  | .gateArm => Sys2Proof.Machine.execGateArm s
  | .tbSrcArm => Sys2Proof.Machine.execTbSrcArm s
  | .tbCkoArm => Sys2Proof.Machine.execTbCkoArm s
  | .ckoDivApply => Sys2Proof.Machine.execCkoDivApply s
  | .powerStateChange busy => Sys2Proof.Machine.execPowerStateChange busy s
  | .captureComplete port value => Sys2Proof.Machine.execCaptureComplete port value s
  | .captureStale port => Sys2Proof.Machine.execCaptureStale port s
  | .tbSpeedUpdate speed => Sys2Proof.Machine.execTbSpeedUpdate speed s
  | .leapInsert => Sys2Proof.Machine.execLeapInsert s
  | .leapDelete => Sys2Proof.Machine.execLeapDelete s
  | .calendarArm => Sys2Proof.Machine.execCalendarArm s
  | .calendarApply => Sys2Proof.Machine.execCalendarApply s
  | .keepDiscArm => Sys2Proof.Machine.execKeepDiscArm s
  | .keepLoopArm => Sys2Proof.Machine.execKeepLoopArm s
  | .loopSample ohms idleMv => Sys2Proof.Machine.execLoopSample ohms idleMv s
  | .wakeRose level => Sys2Proof.Machine.execWakeRose level s
  | .twoBankCommit => Sys2Proof.Machine.execTwoBankCommit s
  | .journalRecordWrite => Sys2Proof.Machine.execJournalRecordWrite s
  | .journalEventRecord => Sys2Proof.Machine.execJournalEventRecord s
  | .hourCommit meter => Sys2Proof.Machine.execHourCommit meter s
  | .meterMark meter => Sys2Proof.Machine.execMeterMark meter s
  | .meterCeiling meter => Sys2Proof.Machine.execMeterCeiling meter s
  | .ringProduce agent ring entry => Sys2Proof.Machine.execRingProduce agent ring entry s
  | .ringProduceResume ring => Sys2Proof.Machine.execRingProduceResume ring s
  | .holdingBufferDrain ring => Sys2Proof.Machine.execHoldingBufferDrain ring s
  | .lossyConversion ring => Sys2Proof.Machine.execLossyConversion ring s
  | .ringConsume ring w => Sys2Proof.Machine.execRingConsume ring w s
  | .ringProducePublish ring w => Sys2Proof.Machine.execRingProducePublish ring w s
  | .ringObsAck w => Sys2Proof.Machine.execRingObsAck w s
  | .ringWindowStage ring index w => Sys2Proof.Machine.execRingWindowStage ring index w s
  | .ringWindowRead ring first count => Sys2Proof.Machine.execRingWindowRead ring first count s
  | .ringCfgArm ring => Sys2Proof.Machine.execRingCfgArm ring s
  | .ringCfgApply ring => Sys2Proof.Machine.execRingCfgApply ring s
  | .arbiterGrant posted => Sys2Proof.Machine.execArbiterGrant posted s
  | .ring0Consume => Sys2Proof.Machine.execRing0Consume s
  | .testHarnessForward ring => Sys2Proof.Machine.execTestHarnessForward ring s
  | .ruleSweep => Sys2Proof.Machine.execRuleSweep s
  | .ruleFire => Sys2Proof.Machine.execRuleFire s
  | .ruleTimerExpired timer => Sys2Proof.Machine.execRuleTimerExpired timer s
  | .holdTimerExpired timer => Sys2Proof.Machine.execHoldTimerExpired timer s
  | .theftWindowExpired => Sys2Proof.Machine.execTheftWindowExpired s
  | .ruleHostEvt index => Sys2Proof.Machine.execRuleHostEvt index s
  | .ruleEditArm => Sys2Proof.Machine.execRuleEditArm s
  | .ruleEnArm => Sys2Proof.Machine.execRuleEnArm s
  | .ruleMeterArm => Sys2Proof.Machine.execRuleMeterArm s
  | .meterSetApply => Sys2Proof.Machine.execMeterSetApply s
  | .ruleFenceArm => Sys2Proof.Machine.execRuleFenceArm s
  | .ruleWatchArm => Sys2Proof.Machine.execRuleWatchArm s
  | .ruleTheftCfgArm => Sys2Proof.Machine.execRuleTheftCfgArm s
  | .ruleSetApply => Sys2Proof.Machine.execRuleSetApply s
  | .theftCmdArm => Sys2Proof.Machine.execTheftCmdArm s
  | .theftCmdDisarm => Sys2Proof.Machine.execTheftCmdDisarm s
  | .theftCmdSuspect weight => Sys2Proof.Machine.execTheftCmdSuspect weight s
  | .theftCmdDeclare => Sys2Proof.Machine.execTheftCmdDeclare s
  | .theftClearDisarm frame => Sys2Proof.Machine.execTheftClearDisarm frame s
  | .theftClearArm frame => Sys2Proof.Machine.execTheftClearArm frame s
  | .theftClearApply => Sys2Proof.Machine.execTheftClearApply s
  | .seqRoundStart m => Sys2Proof.Machine.execSeqRoundStart m s
  | .seqArm m => Sys2Proof.Machine.execSeqArm m s
  | .chainSample m x sat => Sys2Proof.Machine.execChainSample m x sat s
  | .fastPathValue m x => Sys2Proof.Machine.execFastPathValue m x s
  | .modOverload m => Sys2Proof.Machine.execModOverload m s
  | .runListenWindow => Sys2Proof.Machine.execRunListenWindow s
  | .runWindowEnd freq amp vib => Sys2Proof.Machine.execRunWindowEnd freq amp vib s
  | .runCfgArm => Sys2Proof.Machine.execRunCfgArm s
  | .finSample input mv => Sys2Proof.Machine.execFinSample input mv s
  | .fignSample mv => Sys2Proof.Machine.execFignSample mv s
  | .finCfgArm => Sys2Proof.Machine.execFinCfgArm s
  | .awlTestEnd m v0 v1 v2 => Sys2Proof.Machine.execAwlTestEnd m v0 v1 v2 s
  | .fltCtlArm m => Sys2Proof.Machine.execFltCtlArm m s
  | .fltSwap mask => Sys2Proof.Machine.execFltSwap mask s
  | .bankSwap m => Sys2Proof.Machine.execBankSwap m s
  | .fltBankData w => Sys2Proof.Machine.execFltBankData w s
  | .burnishRequest target mask => Sys2Proof.Machine.execBurnishRequest target mask s
  | .burnishStepEnd m value mon temp => Sys2Proof.Machine.execBurnishStepEnd m value mon temp s
  | .excCodeWrite ch code => Sys2Proof.Machine.execExcCodeWrite ch code s
  | .deglitchEnd ch => Sys2Proof.Machine.execDeglitchEnd ch s
  | .excCut ch mv => Sys2Proof.Machine.execExcCut ch mv s
  | .excCfgArm ch => Sys2Proof.Machine.execExcCfgArm ch s
  | .monScan codes mvs excluded => Sys2Proof.Machine.execMonScan codes mvs excluded s
  | .monCtlArm => Sys2Proof.Machine.execMonCtlArm s
  | .awlCtlArm => Sys2Proof.Machine.execAwlCtlArm s
  | .fldPinArm => Sys2Proof.Machine.execFldPinArm s
  | .fignOpenCheck mv => Sys2Proof.Machine.execFignOpenCheck mv s
  | .fignSuspect => Sys2Proof.Machine.execFignSuspect s
  | .snapshotCaptureStart scount => Sys2Proof.Machine.execSnapshotCaptureStart scount s
  | .snapshotCaptureEnd samples blanks agc1 agc5 => Sys2Proof.Machine.execSnapshotCaptureEnd samples blanks agc1 agc5 s
  | .liveBlockComplete samples => Sys2Proof.Machine.execLiveBlockComplete samples s
  | .acqPassEnd engine pnr code doppler cn0 => Sys2Proof.Machine.execAcqPassEnd engine pnr code doppler cn0 s
  | .snapshotSolution sol => Sys2Proof.Machine.execSnapshotSolution sol s
  | .trackingBurstEnd => Sys2Proof.Machine.execTrackingBurstEnd s
  | .gacqKeepCommit => Sys2Proof.Machine.execGacqKeepCommit s
  | .gacqKeepClear => Sys2Proof.Machine.execGacqKeepClear s
  | .gacqRfArm => Sys2Proof.Machine.execGacqRfArm s
  | .gacqPlanArm => Sys2Proof.Machine.execGacqPlanArm s
  | .codeLockTimeout ch => Sys2Proof.Machine.execCodeLockTimeout ch s
  | .channelLoss ch => Sys2Proof.Machine.execChannelLoss ch s
  | .measurementEpoch mlg scount meas => Sys2Proof.Machine.execMeasurementEpoch mlg scount meas s
  | .navUnit ch txMs nbits bits content => Sys2Proof.Machine.execNavUnit ch txMs nbits bits content s
  | .navSolution sol => Sys2Proof.Machine.execNavSolution sol s
  | .timeMessage sec ms epochMlg idealPs tErr leap => Sys2Proof.Machine.execTimeMessage sec ms epochMlg idealPs tErr leap s
  | .timePulse => Sys2Proof.Machine.execTimePulse s
  | .pulseSkipped sec ms leap => Sys2Proof.Machine.execPulseSkipped sec ms leap s
  | .tpStopped => Sys2Proof.Machine.execTpStopped s
  | .gtrkCfgArm => Sys2Proof.Machine.execGtrkCfgArm s
  | .gtrkTrustArm => Sys2Proof.Machine.execGtrkTrustArm s
  | .tpCfgArm => Sys2Proof.Machine.execTpCfgArm s
  | .burstRequest ring => Sys2Proof.Machine.execBurstRequest ring s
  | .frameLaunch ring lateMs => Sys2Proof.Machine.execFrameLaunch ring lateMs s
  | .frameSent => Sys2Proof.Machine.execFrameSent s
  | .reflectCheck loss => Sys2Proof.Machine.execReflectCheck loss s
  | .listenWindowStart ring => Sys2Proof.Machine.execListenWindowStart ring s
  | .windowEnd => Sys2Proof.Machine.execWindowEnd s
  | .syncDetect sweeps shift1 shift2 rssi snr => Sys2Proof.Machine.execSyncDetect sweeps shift1 shift2 rssi snr s
  | .headerDecode hdr crc => Sys2Proof.Machine.execHeaderDecode hdr crc s
  | .frameReceived payload crc rx => Sys2Proof.Machine.execFrameReceived payload crc rx s
  | .txQueueEmpty => Sys2Proof.Machine.execTxQueueEmpty s
  | .txAbort => Sys2Proof.Machine.execTxAbort s
  | .wrfRxArm => Sys2Proof.Machine.execWrfRxArm s
  | .wrfTxArm => Sys2Proof.Machine.execWrfTxArm s
  | .wrfRfArm => Sys2Proof.Machine.execWrfRfArm s
  | .wrfDutyArm => Sys2Proof.Machine.execWrfDutyArm s
  | .wrfHopArm => Sys2Proof.Machine.execWrfHopArm s
  | .yardRoundStart => Sys2Proof.Machine.execYardRoundStart s
  | .yardSlotStart slot => Sys2Proof.Machine.execYardSlotStart slot s
  | .beacon => Sys2Proof.Machine.execBeacon s
  | .beaconMissed => Sys2Proof.Machine.execBeaconMissed s
  | .reportReq => Sys2Proof.Machine.execReportReq s
  | .report baseline => Sys2Proof.Machine.execReport baseline s
  | .reply => Sys2Proof.Machine.execReply s
  | .yardCommandQueued => Sys2Proof.Machine.execYardCommandQueued s
  | .theftClear => Sys2Proof.Machine.execTheftClear s
  | .updateData => Sys2Proof.Machine.execUpdateData s
  | .yardHostEvent => Sys2Proof.Machine.execYardHostEvent s
  | .requestReport => Sys2Proof.Machine.execRequestReport s
  | .rebuckle => Sys2Proof.Machine.execRebuckle s
  | .alarm => Sys2Proof.Machine.execAlarm s
  | .alarmAck => Sys2Proof.Machine.execAlarmAck s
  | .alarmRetry => Sys2Proof.Machine.execAlarmRetry s
  | .buckleReq => Sys2Proof.Machine.execBuckleReq s
  | .buckleOffer => Sys2Proof.Machine.execBuckleOffer s
  | .buckleConfirm => Sys2Proof.Machine.execBuckleConfirm s
  | .buckleRetry => Sys2Proof.Machine.execBuckleRetry s
  | .buckleListenTimeout => Sys2Proof.Machine.execBuckleListenTimeout s
  | .yardKeyLoad => Sys2Proof.Machine.execYardKeyLoad s
  | .yardKeyErase => Sys2Proof.Machine.execYardKeyErase s
  | .yardCfgArm => Sys2Proof.Machine.execYardCfgArm s
  | .nop alive fill => Sys2Proof.Machine.execNop alive fill s
  | .read alive addr count fill => Sys2Proof.Machine.execRead alive addr count fill s
  | .write alive addr words fill => Sys2Proof.Machine.execWrite alive addr words fill s
  | .push alive addr words fill => Sys2Proof.Machine.execPush alive addr words fill s
  | .writeDone => Sys2Proof.Machine.execWriteDone s
  | .hostCtlArm => Sys2Proof.Machine.execHostCtlArm s
  | .masterSwitch => Sys2Proof.Machine.execMasterSwitch s
  | .masterPush => Sys2Proof.Machine.execMasterPush s
  | .masterNop status echo crcOk => Sys2Proof.Machine.execMasterNop status echo crcOk s
  | .memXferGo => Sys2Proof.Machine.execMemXferGo s
  | .xferDone data => Sys2Proof.Machine.execXferDone data s
  | .keepChainTimeout => Sys2Proof.Machine.execKeepChainTimeout s
  | .memCtlArm => Sys2Proof.Machine.execMemCtlArm s
  | .memInitArm => Sys2Proof.Machine.execMemInitArm s
  | .mappedRead addr len => Sys2Proof.Machine.execMappedRead addr len s
  | .eraseReadTimeout => Sys2Proof.Machine.execEraseReadTimeout s
  | .pageProgram addr bytes => Sys2Proof.Machine.execPageProgram addr bytes s
  | .sectorErase addr => Sys2Proof.Machine.execSectorErase addr s
  | .statusPoll wip intact => Sys2Proof.Machine.execStatusPoll wip intact s
  | .nvmSilent => Sys2Proof.Machine.execNvmSilent s
  | .begin => Sys2Proof.Machine.execBegin s
  | .data => Sys2Proof.Machine.execData s
  | .activate => Sys2Proof.Machine.execActivate s
  | .abort => Sys2Proof.Machine.execAbort s
  | .revert => Sys2Proof.Machine.execRevert s
  | .updateEntryInvalid => Sys2Proof.Machine.execUpdateEntryInvalid s
  | .chunkWrite intact => Sys2Proof.Machine.execChunkWrite intact s
  | .chunkCommit => Sys2Proof.Machine.execChunkCommit s
  | .verification => Sys2Proof.Machine.execVerification s
  | .trialCheck check => Sys2Proof.Machine.execTrialCheck check s
  | .checkFailed check => Sys2Proof.Machine.execCheckFailed check s
  | .trialSecCommit => Sys2Proof.Machine.execTrialSecCommit s
  | .settingsSave => Sys2Proof.Machine.execSettingsSave s
  | .settingsClear => Sys2Proof.Machine.execSettingsClear s
  | .setNext => Sys2Proof.Machine.execSetNext s
  | .clearNext => Sys2Proof.Machine.execClearNext s
  | .thermalSample logic conv radio field => Sys2Proof.Machine.execThermalSample logic conv radio field s
  | .thermTrip die reading => Sys2Proof.Machine.execThermTrip die reading s
  | .thermalHoldEnter => Sys2Proof.Machine.execThermalHoldEnter s
  | .registerWrite addr w => Sys2Proof.Machine.execRegisterWrite addr w s
  | .coreRailScaling railMv => Sys2Proof.Machine.execCoreRailScaling railMv s
  | .retentionLost => Sys2Proof.Machine.execRetentionLost s
  | .firstStrobe lane => Sys2Proof.Machine.execFirstStrobe lane s
  | .timebaseProofDeadline tbm => Sys2Proof.Machine.execTimebaseProofDeadline tbm s
  | .chargeWindow inside => Sys2Proof.Machine.execChargeWindow inside s
  | .calendarHourChange day => Sys2Proof.Machine.execCalendarHourChange day s
  | .codeLock ch => Sys2Proof.Machine.execCodeLock ch s
  | .carrierLock ch bitSync => Sys2Proof.Machine.execCarrierLock ch bitSync s
  | .cycleSlip ch => Sys2Proof.Machine.execCycleSlip ch s
  | .navSyncLost ch => Sys2Proof.Machine.execNavSyncLost ch s
  | .synthUnlock => Sys2Proof.Machine.execSynthUnlock s
  | .rejectedFrame bytes extraBits => Sys2Proof.Machine.execRejectedFrame bytes extraBits s
  | .systemCommand => Sys2Proof.Machine.execSystemCommand s
  | .pulseEnd => Sys2Proof.Machine.execPulseEnd s

end Sys2Proof.Machine
end

