-- ==== Sys2Proof/Machine/Tick.lean ====
section
/-! DEFINITION. What time does while no command waits: one cycle of the keeper timebase, the growth of the position uncertainty, and a queued
mode request decided again (05 R202, 12 R547, 19 R866). -/

namespace Sys2Proof.Machine

/-- The position uncertainty over one keeper second since a solution: GACQ_PLAN.SPEED_MAX or SPEED_IDLE (R547). -/
def Chip.growUnc (c : Chip) : Chip :=
  if c.acq.keep.solved then
    c.upAcq (fun a => { a with grown := a.grown + (if c.mayMove then c.runF 0x2001 19 12 else c.runF 0x2001 11 6), grownSec := a.grownSec + 1 })
  else c

/-- One cycle of the keeper timebase with what follows it; none before the keeper domain's first supply, nor after it
lost its retention. -/
def Chip.idle (c : Chip) : Chip :=
  if c.keeper.lost || !c.keeper.powered then c
  else
    let c1 := c.keeperTick
    let c2 := if c1.keeper.divider = 0 ∧ c.keeper.divider ≠ 0 then c1.growUnc else c1
    if c2.awake && c2.modes.queuedHost.isSome then c2.settle else c2

end Sys2Proof.Machine
end

