-- ==== Sys2Proof/Machine/Step.lean ====
section
/-! DEFINITION. One step: the command at the front of the queue, or one cycle of the keeper timebase while no command waits. -/

namespace Sys2Proof.Machine

/-- One step: the first command in, with the rest of the queue. While no command waits the keeper domain counts one cycle (DESIGN CHOICE: the
table has no row for it). -/
def step (s : State) : Host.Outcome State Fault Refusal :=
  match s.pending with
  | [] => s.runPower Chip.idle
  | c :: rest => exec c { s with pending := rest }

/-- The state with the command of a table word at the front of its queue: no row of the table gives bits, so that no word spells a command. -/
def State.withFetchWord (s : State) (nbits w : Nat) : State :=
  match decodeTableWord nbits w with
  | some c => { s with pending := c :: s.pending }
  | none => s

end Sys2Proof.Machine
end

