-- ==== Sys2Proof/WellFormed.lean ====
section
/-! DEFINITION. Well-formed commands: every operand within what the spec's own field or index of that name holds. A meaning is defined on every
command; what is checked here is that a command names something the block has. -/

namespace Sys2Proof

/-- Command bytes of a recovery command: a radio payload (14 R631), or none for the host buffer. -/
def recoveryOk (frame : Option (List Byte)) : Bool := frame.all (fun b => b.length ≤ 255)

/-- Command bytes of a theft-clear command: a yard command carries 144 (09 "THEFT_CLEAR"). -/
def theftClearOk (frame : Option (List Byte)) : Bool := frame.all (fun b => b.length == 144)

/-- A host frame (16 "Requests"): ALIVE is a byte, ADDR and COUNT are 16-bit fields. A COUNT or range that the port rejects is a frame too. -/
def frameOk (alive addr count : Nat) : Bool := decide (alive < 256) && decide (addr < 2 ^ 16) && decide (count < 2 ^ 16)

/-- A GNSS instant: a second of the 33-bit count and a millisecond. -/
def instantOk (sec ms : Nat) : Bool := decide (sec < 2 ^ 33) && decide (ms < 1000)

/-- The well-formed commands. -/
def Instr.wellFormed (i : Instr) : Bool :=
  match i with
  | .girthTransfer lane groups kind => decide (lane < 4) && decide (groups.length = 8) && groups.all (fun g => decide (g ≤ 4)) && decide (kind < 16)
  | .laneProbe lane | .laneSilent lane | .laneWakeHandshake lane | .laneWakeTimeout lane | .firstStrobe lane => decide (lane < 4)
  | .sampleLaneFail lane => decide (lane < 2)
  | .timebaseLineFail line => decide (line < 4)
  | .remoteSetApply arm => decide (arm < 0x8000)
  | .protectionLaneTimeout code arg0 arg1 => decide (code < 2 ^ 16) && decide (arg0 < 2 ^ 32) && decide (arg1 < 2 ^ 32)
  | .vioLost frame => frame.all (fun a => decide (a < 256))
  | .gpWatchRearm pin _ | .gpEdge pin _ => decide (pin < 8)
  | .foutLimit out | .foutTherm out | .foutOpen out => decide (out < 2)
  | .supplyOut which _ => decide (which < 4)
  | .modeReqInvalid mode => decide (mode < 16)
  | .restart frame | .restartSlot frame | .restartDefaults frame | .restartCalDefaults frame => recoveryOk frame
  | .theftClearDisarm frame | .theftClearArm frame => theftClearOk frame
  | .tbkFail cause _ | .tbmFail cause _ => decide (cause = 1) || decide (cause = 2)
  | .loopLocked loop | .loopLockRetry loop _ => decide (loop < 3)
  | .mlUnlock loop => decide (loop = 1) || decide (loop = 2)
  | .domainSwitchRequest dom target => decide (dom < 4) && decide (target < 4)
  | .stopAcknowledged dom | .sourceSwitch dom | .domainRelease dom => decide (dom < 4)
  | .captureComplete port _ | .captureStale port => decide (port < 6)
  | .tbSpeedUpdate speed => decide (speed < 2 ^ 16)
  | .hourCommit meter | .meterMark meter | .meterCeiling meter => decide (meter < 16)
  | .ringProduce agent ring entry => decide (agent < 0x80) && decide (ring < 64) && decide (entry.length = 8)
  | .ringProduceResume ring | .holdingBufferDrain ring | .lossyConversion ring | .ringConsume ring _ | .ringProducePublish ring _
  | .ringCfgArm ring | .ringCfgApply ring | .testHarnessForward ring => decide (ring < 64)
  | .ringWindowStage ring index _ => decide (ring < 64) && decide (index < 256)
  | .ringWindowRead ring first count => decide (ring < 64) && decide (first + count ≤ 256)
  | .arbiterGrant posted => posted.all (fun p => decide (p.1 < 64))
  | .ruleTimerExpired timer | .holdTimerExpired timer => decide (timer < 64)
  | .ruleHostEvt index => decide (index < 256)
  | .theftCmdSuspect weight => decide (weight < 2 ^ 16)
  | .seqRoundStart m | .seqArm m | .modOverload m | .fltCtlArm m | .bankSwap m => decide (m < 4)
  | .chainSample m _ _ | .fastPathValue m _ | .awlTestEnd m _ _ _ | .burnishStepEnd m _ _ _ => decide (m < 4)
  | .runWindowEnd freq amp vib => decide (freq < 2 ^ 16) && decide (amp < 2 ^ 16) && decide (vib < 2 ^ 16)
  | .finSample input _ => decide (input < 8)
  | .fltSwap mask => decide (mask < 16)
  | .burnishRequest target mask => decide (target < 2 ^ 8) && decide (mask < 2 ^ 4)
  | .excCodeWrite ch code => decide (ch < 4) && decide (code < 2 ^ 16)
  | .deglitchEnd ch | .excCut ch _ | .excCfgArm ch => decide (ch < 4)
  | .monScan codes mvs excluded => decide (codes.length = 16) && decide (mvs.length = 16) && decide (excluded < 2 ^ 16)
  | .snapshotCaptureEnd samples blanks agc1 agc5 =>
    decide (samples.length ≤ 1048576) && blanks.all (fun b => decide (b.1 ≤ b.2)) && decide (agc1 < 2 ^ 10) && decide (agc5 < 2 ^ 10)
  | .liveBlockComplete samples => decide (samples.length ≤ 520000)
  | .acqPassEnd engine _ _ _ _ => decide (engine < 32)
  | .codeLockTimeout ch | .channelLoss ch | .codeLock ch | .carrierLock ch _ | .cycleSlip ch | .navSyncLost ch | .navUnit ch _ _ _ _ =>
    decide (ch < 72)
  | .measurementEpoch _ _ meas => decide (meas.length ≤ 72) && meas.all (fun m => decide (m.ch < 72))
  | .snapshotSolution sol | .navSolution sol => decide (sol.towMs < 604800000)
  | .timeMessage sec ms _ _ _ _ => instantOk sec ms
  | .pulseSkipped sec ms _ => instantOk sec ms
  | .burstRequest ring | .frameLaunch ring _ | .listenWindowStart ring => decide (32 ≤ ring) && decide (ring ≤ 35)
  | .headerDecode hdr crc => decide (hdr < 2 ^ 24) && decide (crc < 2 ^ 8)
  | .frameReceived payload _ _ => decide (payload.length ≤ 255)
  | .yardSlotStart slot => decide (slot < 256)
  | .nop alive _ => frameOk alive 0 0
  | .read alive addr count _ => frameOk alive addr count
  | .write alive addr words _ | .push alive addr words _ => frameOk alive addr words.length
  | .masterNop status echo _ => decide (status < 256) && decide (echo < 256)
  | .xferDone bytes => decide (bytes.length ≤ 8192)
  | .mappedRead addr len => decide (1 ≤ len) && decide (addr + len ≤ 2 ^ 24)
  | .pageProgram addr bytes => decide (1 ≤ bytes.length) && decide (bytes.length ≤ 256) && decide (addr + bytes.length ≤ 2 ^ 24)
  | .sectorErase addr => decide (addr % 4096 = 0) && decide (addr < 2 ^ 24)
  | .trialCheck check | .checkFailed check => decide (check < 5)
  | .thermTrip die _ => decide (die < 4)
  | .registerWrite addr _ => decide (addr < 0x10000)
  | .rejectedFrame _ extraBits => decide (extraBits < 8)
  -- Commands whose operands are free readings, or that have none.
  | .fieldLaneTimeout | .converterLaneTimeout | .fieldTransferWake _ | .remoteWordReady _ | .remoteWriteAck | .nrstReset | .vioGood | .ioDriveArm
  | .ioDriveApply _ | .gpCfgArm | .fvinTaken | .fvinRelease | .fvinOv _ _ | .cellCut _ _ | .cellReconnect | .batHold _ _ | .batHoldEnd
  | .cellReversed _ _ | .chgStateChange _ _ | .chgTimer | .ntcOpen | .gbiasShort | .gbiasOpen | .buckSag | .keeperEventPost | .modeReqShip
  | .modeReqKeeperWatch _ | .modeReqFix | .modeReqBurst | .modeReqDuty | .modeChanged | .modePolicyArm | .fldChgArm | .fldFoutArm | .fldGbiasArm
  | .shipExit _ | .corePowerOn | .sysStartCmd _ | .startRetry | .startLoad _ | .startTimeout | .supplyCycle | .stirrupBeacon | .stirrupListenEnd
  | .tbkProven | .tbmProven | .mlgUnlock | .gateArm | .tbSrcArm | .tbCkoArm | .ckoDivApply | .powerStateChange _ | .leapInsert | .leapDelete
  | .calendarArm | .calendarApply | .keepDiscArm | .keepLoopArm | .loopSample _ _ | .wakeRose _ | .twoBankCommit | .journalRecordWrite
  | .journalEventRecord | .ringObsAck _ | .ring0Consume | .ruleSweep | .ruleFire | .theftWindowExpired | .ruleEditArm | .ruleEnArm | .ruleMeterArm
  | .meterSetApply | .ruleFenceArm | .ruleWatchArm | .ruleTheftCfgArm | .ruleSetApply | .theftCmdArm | .theftCmdDisarm | .theftCmdDeclare
  | .theftClearApply | .runListenWindow | .runCfgArm | .fignSample _ | .finCfgArm | .fltBankData _ | .monCtlArm | .awlCtlArm | .fldPinArm
  | .fignOpenCheck _ | .fignSuspect | .snapshotCaptureStart _ | .trackingBurstEnd | .gacqKeepCommit | .gacqKeepClear | .gacqRfArm | .gacqPlanArm
  | .timePulse | .tpStopped | .gtrkCfgArm | .gtrkTrustArm | .tpCfgArm | .frameSent | .reflectCheck _ | .windowEnd | .syncDetect _ _ _ _ _
  | .txQueueEmpty | .txAbort | .wrfRxArm | .wrfTxArm | .wrfRfArm | .wrfDutyArm | .wrfHopArm | .yardRoundStart | .beacon | .beaconMissed
  | .reportReq | .report _ | .reply | .yardCommandQueued | .theftClear | .updateData | .yardHostEvent | .requestReport | .rebuckle | .alarm
  | .alarmAck | .alarmRetry | .buckleReq | .buckleOffer | .buckleConfirm | .buckleRetry | .buckleListenTimeout | .yardKeyLoad | .yardKeyErase
  | .yardCfgArm | .writeDone | .hostCtlArm | .masterSwitch | .masterPush | .memXferGo | .keepChainTimeout | .memCtlArm | .memInitArm
  | .eraseReadTimeout | .statusPoll _ _ | .nvmSilent | .begin | .data | .activate | .abort | .revert | .updateEntryInvalid | .chunkWrite _
  | .chunkCommit | .verification | .trialSecCommit | .settingsSave | .settingsClear | .setNext | .clearNext | .thermalSample _ _ _ _
  | .thermalHoldEnter | .coreRailScaling _ | .retentionLost | .timebaseProofDeadline _ | .chargeWindow _ | .calendarHourChange _ | .synthUnlock
  | .systemCommand | .pulseEnd => true

end Sys2Proof
end

