-- ==== Sys2Proof/Safety.lean ====
section
/-! DEFINITION. What counts as a safe run, in the terms the claims use: what a command answers, the canonical form of the sparse memories, and
the sample lanes that run only while their timebase reaches the radio die, the parts a command may change, and the conditions the statements name. -/

namespace Sys2Proof.Machine

/-- A command answers a next state: it has left the queue of waiting commands alone, and the block after it has the property. -/
def Gives (i : Instr) (s : State) (P : Chip → Prop) : Prop := ∃ t, exec i s = .next t ∧ t.pending = s.pending ∧ P t.chip

/-- The canonical form of a memory of bytes: addresses strictly rising, and no entry equal to what an unlisted address reads as. -/
abbrev Memory.wf (d : Byte) (m : List Host.Cell) : Bool := mwf d m

/-- A sample lane is enabled: starting or running (R47). -/
def SampleState.enabled (x : SampleState) : Bool := decide (x = .starting) || decide (x = .running)

/-- A sample lane is enabled only while its gate passes the timebase and the radio die's girth lane is LIVE (01 R47). -/
def Chip.lanesSafe (c : Chip) : Prop :=
  (c.girth.gsamp.enabled = true → (c.gnssGate = true ∧ c.live 1 = true)) ∧
  (c.girth.rsamp.enabled = true → (c.radioGate = true ∧ c.live 1 = true))

/-- MRAM, the NOR and the memory port's buffer are in canonical form. -/
def Chip.memsWf (c : Chip) : Prop :=
  Memory.wf 0 c.mram.bytes = true ∧ Memory.wf 0xFF c.mem.nor = true ∧ Memory.wf 0 c.mem.buf = true

/-! ### The frame of a command -/

/-- The parts of the block: its register words and the words the units run by, and the state each chapter gives the machine. -/
inductive Part where
  | regs | run | girth | lands | power | modes | tb | keeper | mram | start | rings | rules | seqs | runSig
  | fin | chains | burnish | exc | mon | acq | track | radio | yard | host | mem | upd | therm
  deriving DecidableEq, Repr

/-- A part is the same in two states of the block, but for what follows the gates after every command: the enables of the two sample lanes and the
discontinuity mark of the next epoch (01 R47, 13 R590). -/
def Chip.keeps (p : Part) (a b : Chip) : Prop :=
  match p with
  | .regs => b.regs = a.regs
  | .run => b.run = a.run
  | .girth => b.girth = { a.girth with gsamp := b.girth.gsamp, rsamp := b.girth.rsamp }
  | .lands => b.lands = a.lands
  | .power => b.power = a.power
  | .modes => b.modes = a.modes
  | .tb => b.tb = a.tb
  | .keeper => b.keeper = a.keeper
  | .mram => b.mram = a.mram
  | .start => b.start = a.start
  | .rings => b.rings = a.rings
  | .rules => b.rules = a.rules
  | .seqs => b.seqs = a.seqs
  | .runSig => b.runSig = a.runSig
  | .fin => b.fin = a.fin
  | .chains => b.chains = a.chains
  | .burnish => b.burnish = a.burnish
  | .exc => b.exc = a.exc
  | .mon => b.mon = a.mon
  | .acq => b.acq = a.acq
  | .track => b.track = { a.track with discont := b.track.discont }
  | .radio => b.radio = a.radio
  | .yard => b.yard = a.yard
  | .host => b.host = a.host
  | .mem => b.mem = a.mem
  | .upd => b.upd = a.upd
  | .therm => b.therm = a.therm

/-- Registers, memories, supply, keeper, start, update, yard and host port. -/
def storeParts : List Part := [.regs, .run, .lands, .power, .tb, .keeper, .mram, .start, .yard, .host, .mem, .upd, .therm]

/-- Lanes, modes, rings, rules, measurement units, GNSS and radio. -/
def unitParts : List Part := [.girth, .modes, .rings, .rules, .seqs, .runSig, .fin, .chains, .burnish, .exc, .mon, .acq, .track, .radio]

/-- The parts a command may change; every other part it keeps. -/
def partsChanged (i : Instr) : List Part :=
  match i with
  | .snapshotCaptureStart .. | .liveBlockComplete .. => [.acq]
  | .girthTransfer .. | .laneProbe .. | .firstStrobe .. => [.girth]
  | .remoteWordReady .. | .masterPush .. => [.host]
  | .leapInsert .. | .leapDelete .. => [.keeper]
  | .gpWatchRearm .. => [.lands]
  | .mappedRead .. | .pageProgram .. | .sectorErase .. => [.mem]
  | .chgStateChange .. | .chargeWindow .. => [.power]
  | .syncDetect .. => [.radio]
  | .tbSpeedUpdate .. | .synthUnlock .. => [.regs]
  | .ringProduce .. | .ringProduceResume .. | .lossyConversion .. | .ringConsume .. | .ringProducePublish .. | .ringObsAck .. | .ringWindowStage ..
  | .ringWindowRead .. | .ringCfgApply .. | .arbiterGrant .. | .testHarnessForward .. | .ruleHostEvt .. | .beaconMissed .. | .systemCommand .. =>
      [.rings]
  | .runListenWindow .. => [.seqs]
  | .supplyCycle .. | .stirrupBeacon .. | .stirrupListenEnd .. => [.start]
  | .tbkProven .. | .tbmProven .. | .loopLocked .. | .loopLockRetry .. | .domainSwitchRequest .. | .sourceSwitch .. | .ckoDivApply ..
  | .powerStateChange .. | .captureComplete .. | .coreRailScaling .. => [.tb]
  | .supplyOut .. => [.therm]
  | .codeLockTimeout .. | .timePulse .. | .codeLock .. | .carrierLock .. | .cycleSlip .. | .navSyncLost .. | .pulseEnd .. => [.track]
  | .buckleListenTimeout .. => [.yard]
  | .channelLoss .. => [.acq, .track]
  | .laneWakeHandshake .. | .protectionLaneTimeout .. => [.girth, .rings]
  | .fieldTransferWake .. => [.girth, .tb]
  | .keeperEventPost .. | .hourCommit .. | .meterSetApply .. => [.keeper, .rings]
  | .meterMark .. => [.keeper, .rules]
  | .retentionLost .. => [.power, .keeper]
  | .fltBankData .. => [.regs, .chains]
  | .excCodeWrite .. => [.regs, .exc]
  | .yardCfgArm .. => [.regs, .girth]
  | .calendarArm .. | .keepDiscArm .. | .ruleMeterArm .. => [.regs, .keeper]
  | .memXferGo .. => [.regs, .mem]
  | .ringCfgArm .. => [.regs, .rings]
  | .ruleEditArm .. | .ruleEnArm .. | .ruleFenceArm .. | .ruleWatchArm .. | .ruleTheftCfgArm .. => [.regs, .rules]
  | .gateArm .. | .tbSrcArm .. | .gtrkTrustArm .. => [.regs, .run]
  | .captureStale .. => [.regs, .tb]
  | .frameLaunch .. | .listenWindowStart .. => [.rings, .radio]
  | .calendarHourChange .. => [.rings, .rules]
  | .fastPathValue .. => [.rings, .seqs]
  | .holdingBufferDrain .. | .timeMessage .. | .pulseSkipped .. | .tpStopped .. => [.rings, .track]
  | .report .. | .reply .. | .yardCommandQueued .. | .updateData .. | .yardHostEvent .. | .requestReport .. | .rebuckle .. | .alarm .. | .alarmAck ..
  | .alarmRetry .. | .buckleReq .. | .buckleConfirm .. => [.rings, .yard]
  | .ioDriveApply .. => [.run, .lands]
  | .bankSwap .. => [.seqs, .chains]
  | .buckleRetry .. => [.start, .yard]
  | .domainRelease .. => [.tb, .keeper]
  | .stopAcknowledged .. => [.tb, .seqs]
  | .ntcOpen .. => [.girth, .power, .rings]
  | .converterLaneTimeout .. => [.girth, .seqs, .exc]
  | .calendarApply .. | .meterCeiling .. | .ruleTimerExpired .. | .holdTimerExpired .. | .ruleSetApply .. => [.keeper, .rings, .rules]
  | .gacqKeepCommit .. | .gacqKeepClear .. => [.mram, .acq, .therm]
  | .buckleOffer .. => [.mram, .rings, .yard]
  | .trialSecCommit .. | .settingsSave .. | .settingsClear .. => [.mram, .upd, .therm]
  | .cellReconnect .. => [.power, .rings, .rules]
  | .gbiasOpen .. | .foutOpen .. | .fignOpenCheck .. | .fignSuspect .. => [.regs, .girth, .rings]
  | .excCut .. => [.regs, .rings, .exc]
  | .masterNop .. => [.regs, .rings, .host]
  | .reflectCheck .. => [.regs, .rings, .radio]
  | .modOverload .. | .awlTestEnd .. => [.regs, .rings, .seqs]
  | .finCfgArm .. | .fltCtlArm .. | .monCtlArm .. | .awlCtlArm .. | .fldPinArm .. | .gacqRfArm .. | .gacqPlanArm .. | .wrfRxArm .. | .wrfTxArm ..
  | .wrfRfArm .. | .wrfDutyArm .. | .wrfHopArm .. | .memCtlArm .. => [.regs, .run, .girth]
  | .ioDriveArm .. | .gpCfgArm .. => [.regs, .run, .lands]
  | .memInitArm .. => [.regs, .run, .mem]
  | .tbCkoArm .. => [.regs, .run, .tb]
  | .tpCfgArm .. => [.regs, .run, .track]
  | .fltSwap .. => [.regs, .seqs, .chains]
  | .mlUnlock .. => [.regs, .tb, .seqs]
  | .reportReq .. => [.rings, .yard, .upd]
  | .masterSwitch .. => [.run, .girth, .host]
  | .keepChainTimeout .. => [.run, .girth, .mem]
  | .startTimeout .. => [.girth, .modes, .mram, .start]
  | .navUnit .. => [.keeper, .rings, .acq, .track]
  | .begin .. | .data .. | .abort .. | .updateEntryInvalid .. | .chunkCommit .. | .verification .. => [.mram, .rings, .upd, .therm]
  | .setNext .. | .clearNext .. => [.mram, .start, .upd, .therm]
  | .cellReversed .. | .chgTimer .. | .foutLimit .. | .foutTherm .. | .gbiasShort .. => [.regs, .girth, .power, .rings]
  | .keepLoopArm .. | .loopSample .. | .wakeRose .. => [.regs, .keeper, .rings, .rules]
  | .gpEdge .. => [.regs, .lands, .keeper, .rules]
  | .finSample .. => [.regs, .rings, .rules, .fin]
  | .deglitchEnd .. | .excCfgArm .. => [.regs, .run, .girth, .exc]
  | .hostCtlArm .. => [.regs, .run, .girth, .host]
  | .fldChgArm .. | .fldFoutArm .. | .fldGbiasArm .. => [.regs, .run, .girth, .power]
  | .gtrkCfgArm .. => [.regs, .run, .girth, .track]
  | .xferDone .. | .eraseReadTimeout .. => [.run, .girth, .rings, .mem]
  | .yardRoundStart .. => [.run, .girth, .rings, .yard]
  | .modeReqShip .. | .modeReqKeeperWatch .. | .modeReqFix .. | .modeReqBurst .. | .modeReqDuty .. | .modeReqInvalid .. =>
      [.girth, .modes, .acq, .track, .radio]
  | .burstRequest .. => [.girth, .modes, .rings, .acq, .radio]
  | .timebaseProofDeadline .. => [.girth, .modes, .tb, .mram, .start]
  | .chunkWrite .. => [.mram, .start, .mem, .upd, .therm]
  | .yardSlotStart .. => [.mram, .start, .rings, .yard, .upd]
  | .cellCut .. => [.regs, .girth, .power, .rings, .rules]
  | .journalRecordWrite .. | .journalEventRecord .. => [.regs, .keeper, .mram, .rings, .therm]
  | .fignSample .. => [.regs, .keeper, .rings, .rules, .fin]
  | .theftClearDisarm .. | .theftClearArm .. => [.regs, .keeper, .start, .rings, .rules]
  | .yardKeyLoad .. | .yardKeyErase .. => [.regs, .mram, .start, .rings, .yard]
  | .monScan .. => [.regs, .power, .rings, .rules, .mon]
  | .statusPoll .. => [.regs, .run, .girth, .start, .mem]
  | .burnishRequest .. => [.rings, .seqs, .chains, .burnish, .exc]
  | .vioGood .. => [.run, .girth, .lands, .host, .mem]
  | .windowEnd .. | .headerDecode .. => [.run, .girth, .modes, .rings, .radio]
  | .checkFailed .. => [.girth, .modes, .mram, .start, .upd, .therm]
  | .batHoldEnd .. | .ring0Consume .. => [.girth, .modes, .rings, .acq, .track, .radio]
  | .fieldLaneTimeout .. => [.girth, .power, .rings, .chains, .burnish, .exc]
  | .beacon .. => [.keeper, .mram, .rings, .rules, .yard, .upd]
  | .thermalHoldEnter .. => [.regs, .girth, .modes, .start, .rings, .mem]
  | .batHold .. => [.regs, .girth, .power, .modes, .rings, .radio]
  | .navSolution .. => [.regs, .keeper, .rings, .rules, .acq, .track]
  | .theftClear .. => [.regs, .keeper, .start, .rings, .rules, .yard]
  | .vioLost .. => [.regs, .lands, .start, .rings, .host, .mem]
  | .trialCheck .. => [.regs, .mram, .rings, .mem, .upd, .therm]
  | .txQueueEmpty .. | .txAbort .. => [.regs, .run, .girth, .modes, .rings, .radio]
  | .runCfgArm .. => [.regs, .run, .girth, .rings, .rules, .runSig]
  | .snapshotCaptureEnd .. | .acqPassEnd .. => [.run, .girth, .modes, .rings, .acq, .track]
  | .measurementEpoch .. => [.run, .girth, .start, .rings, .acq, .track]
  | .nvmSilent .. => [.regs, .girth, .modes, .mram, .start, .rings, .mem]
  | .frameSent .. => [.run, .girth, .modes, .rings, .radio, .yard, .upd]
  | .seqRoundStart .. => [.run, .girth, .rings, .seqs, .chains, .burnish, .exc]
  | .fvinTaken .. | .fvinRelease .. => [.girth, .power, .modes, .rings, .rules, .acq, .track, .radio]
  | .tbkFail .. => [.regs, .girth, .modes, .tb, .mram, .start, .rings, .seqs]
  | .modePolicyArm .. => [.regs, .run, .girth, .modes, .rings, .acq, .track, .radio]
  | .seqArm .. => [.regs, .run, .girth, .rings, .seqs, .chains, .burnish, .exc]
  | .trackingBurstEnd .. => [.run, .girth, .modes, .mram, .rings, .acq, .track, .therm]
  | .ruleSweep .. | .ruleFire .. | .theftWindowExpired .. | .theftCmdArm .. | .theftCmdDisarm .. | .theftCmdSuspect .. | .theftCmdDeclare ..
  | .theftClearApply .. => [.girth, .modes, .keeper, .start, .rings, .rules, .acq, .track, .radio]
  | .fvinOv .. | .buckSag .. => [.regs, .girth, .power, .modes, .rings, .rules, .acq, .track, .radio]
  | .mlgUnlock .. => [.regs, .run, .girth, .modes, .tb, .rings, .rules, .acq, .track]
  | .chainSample .. => [.regs, .run, .girth, .rings, .rules, .seqs, .chains, .burnish, .exc]
  | .runWindowEnd .. => [.run, .girth, .rings, .rules, .seqs, .runSig, .chains, .burnish, .exc]
  | .burnishStepEnd .. => [.run, .girth, .mram, .rings, .seqs, .chains, .burnish, .exc, .mon, .therm]
  | .snapshotSolution .. => [.regs, .run, .girth, .modes, .keeper, .mram, .rings, .rules, .acq, .track, .therm]
  | .remoteSetApply .. => [.regs, .run, .girth, .power, .rings, .rules, .seqs, .runSig, .chains, .burnish, .exc]
  | .tbmFail .. => [.regs, .run, .girth, .modes, .tb, .mram, .start, .rings, .rules, .seqs, .acq, .track, .radio]
  | .laneSilent .. | .laneWakeTimeout .. | .sampleLaneFail .. | .timebaseLineFail .. =>
      [.regs, .run, .girth, .modes, .mram, .start, .rings, .seqs, .chains, .burnish, .exc, .acq, .track, .radio]
  | .thermTrip .. => [.regs, .run, .girth, .modes, .mram, .start, .rings, .seqs, .chains, .burnish, .exc, .acq, .track, .radio, .mem, .therm]
  | .thermalSample .. =>
      [.regs, .run, .girth, .modes, .keeper, .mram, .start, .rings, .rules, .seqs, .chains, .burnish, .exc, .acq, .track, .radio, .mem, .therm]
  | .modeChanged .. =>
      [.regs, .run, .girth, .power, .modes, .keeper, .mram, .rings, .rules, .seqs, .chains, .burnish, .exc, .acq, .track, .radio, .upd, .therm]
  | .startLoad .. =>
      [.regs, .run, .girth, .power, .modes, .keeper, .mram, .start, .rings, .rules, .seqs, .chains, .burnish,
        .exc, .acq, .track, .radio, .yard, .mem, .upd, .therm]
  | .remoteWriteAck .. | .nrstReset .. | .shipExit .. | .corePowerOn .. | .sysStartCmd .. | .startRetry .. | .restart .. | .restartSlot ..
  | .restartDefaults .. | .restartCalDefaults .. | .twoBankCommit .. | .frameReceived .. | .nop .. | .read .. | .write .. | .push .. | .writeDone ..
  | .activate .. | .revert .. | .registerWrite .. | .rejectedFrame .. => storeParts ++ unitParts

/-! ### Conditions the statements name -/

/-- A start of a trigger has begun: its code is shown, no first mode is reached, the core has supply and every girth lane wakes. -/
def StartBegun (trigger : Nat) (c : Chip) : Prop :=
  c.start.trigger = trigger ∧ c.start.phase = .dies ∧ c.mode = 0xF ∧ c.power.coreSupplied = true ∧ c.girth.lanes = List.replicate 4 .waking ∧
    c.host.pending = none ∧ c.radio = {} ∧ c.track.channels = List.replicate 72 {}

/-- An agent may put an entry into a ring other than ring 0, and the ring is enabled, has a consumer and is not being copied for a host read. -/
def RingTakes (c : Chip) (agent n : Nat) : Prop :=
  c.mayProduce agent n = true ∧ n ≠ 0 ∧ (c.ring n).sizeLog2 ≠ 0 ∧ (c.ring n).consumer ≠ 0 ∧ (c.ring n).copying = false

/-- An enabled rule whose one action is SET_FLAG. -/
def FlagRule (r : Rule) (t : Nat) : Prop :=
  r.en = true ∧ r.journals = false ∧ r.acts = [{ code := 0x0F, target := t, value := 1 }]

/-- A transmit or listen item is refused: its status entry is produced on ring 38, the item is consumed and the radio is unchanged. -/
def ItemRefused (c0 : Chip) (n reason : Nat) (e : Entry) (c : Chip) : Prop :=
  (c.ring n).tail = (c0.ring n).tail + BitVec.ofNat 16 (itemEntries e) ∧ c.radio = c0.radio ∧
    c.ring 38 = (c0.txStatus 3 reason { ring := n, header := e, freq := c0.freqOf e }).ring 38

/-- The frame at the head of ring 36, its only item: the yard engine takes part in the yard, the frame is long enough, is meant for this unit
and its role, and passes the checks of 15 R690 as new, with its body. -/
def NewFrame (c : Chip) (f : RxYard) (body : List Byte) : Prop :=
  c.yardIn = true ∧ c.yardHead = some f ∧ (c.ring 36).fill = itemEntries f.entry ∧ 13 ≤ f.len ∧ f.ptype ≤ 9 ∧ c.yardMine f = true ∧
    c.yardFate f = .fresh body

/-- The same for a duplicate. -/
def OldFrame (c : Chip) (f : RxYard) (body : List Byte) : Prop :=
  c.yardIn = true ∧ c.yardHead = some f ∧ (c.ring 36).fill = itemEntries f.entry ∧ 13 ≤ f.len ∧ f.ptype ≤ 9 ∧ c.yardMine f = true ∧
    c.yardFate f = .dup body

/-- A command has been answered: its reply waits for an own yard slot at least 250 ms away, and the frame is consumed. -/
def Answered (s : State) (f : RxYard) (op res : Nat) (data : List Byte) (c : Chip) : Prop :=
  c.yard.replies = s.chip.yard.replies ++ [{ ptype := 3, dst := 0, seq := 0, body := replyBody op res f.seq data, ackReq := true,
                                             notBefore := s.chip.keeper.units + 8192 }] ∧ (c.ring 36).fill = 0

/-- The bytes of a reply that carries the words `ws`, up to its CRC: STATUS, ALIVE_ECHO, FLAGS and the words (16 R729). -/
def replyText (c : Chip) (r : Reply) (replay : Bool) : List Byte :=
  bytesOf [r.code replay, r.alive] ++ beBytes 2 (c.replyFlags r replay) ++ r.data.flatMap (fun w => beBytes 4 w.word.toNat)

/-- What HSDO carries during a frame of `nb` bytes, and what is kept of it for the next reply (16 R723, R729-R732, R737, R740, R743). -/
def ReplySent (c : Chip) (nb : Nat) (t : Chip) : Prop :=
  (c.host.writing = none → c.host.pending = none → t.host.hsdo = List.replicate nb 0xFF) ∧
  (∀ r b, (c.host.writing = none ∧ c.host.pending = some (.short r) ∧ b = false ∨
      c.host.writing = none ∧ c.host.pending = some .fresh ∧ c.host.stored = some r ∧ b = false ∨
      c.host.writing = none ∧ c.host.pending = some .replay ∧ c.host.stored = some r ∧ b = true ∨
      c.host.writing ≠ none ∧ r = { status := 0x14, alive := (c.host.last.map Request.alive).getD 0 } ∧ b = false) →
    r.data.length = r.count → (∀ w ∈ r.data, w.late = true → b = true) →
    t.host.hsdo = padTo nb 0xFF (replyText c r b ++ beBytes 2 (crc16 (replyText c r b))) ∧
    t.host.trunc = decide (nb < 6 + 4 * r.count) ∧ t.host.underrun = false ∧ t.host.underruns = c.host.underruns) ∧
  (∀ r, c.host.writing = none → c.host.pending = some .fresh → c.host.stored = some r →
    (r.data.length = r.count ∧ (∃ w ∈ r.data, w.late = true) ∨
      (∃ q, c.host.last = some q ∧ q.cmd = 1 ∧ r.data.length < r.count ∧ c.overGirth (q.addr + r.data.length) = true)) →
    t.host.underrun = true ∧ t.host.underruns = c.host.underruns + 1 ∧ t.host.trunc = decide (nb < 6 + 4 * r.count) ∧
    ∃ body : List Byte, body.length = 4 + 4 * r.count ∧
      t.host.hsdo = padTo nb 0xFF (body ++ (beBytes 2 (crc16 body)).map (fun b => ~~~b)))

/-- A rejected frame: a 6-byte reply with its STATUS waits, the accepted frame and its stored reply stay. -/
def Rejected (c : Chip) (st alive : Nat) (t : Chip) : Prop :=
  t.host.pending = some (.short { status := st, alive := alive % 256 }) ∧ t.host.last = c.host.last ∧
  t.host.stored.isSome = c.host.stored.isSome ∧ t.host.accepted = c.host.accepted ∧ t.regs = c.regs ∧ t.rings = c.rings ∧ t.run = c.run

/-- A local register word whose write has no effect but on the word: what it holds after a write of `w` (00 R7, R8). -/
def plainWord (r : RegRow) (v w : Word) : Word :=
  ((v &&& ~~~(wd r.sh) ||| (w &&& wd r.sh)) &&& ~~~(wd r.rw)) ||| (w &&& wd r.rw)

/-- Registers of SH and RW fields alone, on this address: no ARM, no bit that acts when it is written, no ring register. -/
def plainRow (a : Nat) (r : RegRow) : Prop :=
  regRow a = some r ∧ r.arm = false ∧ r.w1c = 0 ∧ r.wo = 0 ∧ a < 0x8000 ∧ ¬ (0x0800 ≤ a ∧ a < 0x0C00) ∧ ¬ (0x3F00 ≤ a ∧ a < 0x4000) ∧ ownStore a = false ∧
    (∀ (c : Chip) (w : Word), c.trigger a w = c)

/-- The ring arbiter gives ring `n` the next PUSH: the host master may serve it, and no ring it may serve stands before it (06 R329). -/
def PushNext (c : Chip) (n : Nat) : Prop :=
  let may := fun m => c.runB (0x3C11 + m / 32) (m % 32) = true ∧ (c.ring m).consumer = 0x0B ∧ 0 < (c.ring m).fill ∧ m ∉ c.host.mstStopped
  n < 64 ∧ may n ∧ ∀ m, m < 64 → c.runB (0x3C11 + m / 32) (m % 32) = true → (c.ring m).consumer = 0x0B → 0 < (c.ring m).fill →
    m ∉ c.host.mstStopped → (c.ring n).prio < (c.ring m).prio ∨ ((c.ring n).prio = (c.ring m).prio ∧ n ≤ m)

/-- Bytes `bs` stand in the NOR from `a`, and every other byte is as it was in `m`. -/
def NorHolds (m t : MemPort) (a : Nat) (bs : List Byte) : Prop :=
  ∀ x, mget 0xFF t.nor x = if a ≤ x ∧ x < a + bs.length then bs.getD (x - a) 0xFF else mget 0xFF m.nor x

/-- Nothing waits for the memory bus but perhaps an accepted set (17 R755, R784, R789). -/
def BusIdle (m : MemPort) : Prop := m.readWaits = none ∧ m.initLeft = []

/-- The update-state record has become `r`: its commit is made, or held while a die is at WARNING (18 R800, R835). -/
def RecordIs (c : Chip) (r : UpdRec) (t : Chip) : Prop :=
  t.upd.record = r ∧ t.upd.present = true ∧
  (c.atWarning = false → t.mram.bytes = (c.mram.commit 2 1 r.body).bytes ∧ t.therm.warning = false) ∧
  (c.atWarning = true → (2, 1, r.body) ∈ t.therm.held ∧ t.mram = c.mram)

/-- The update engine runs, and an entry of ring 6 waits: `e` is the oldest (18 R801, R808). -/
def UpdEntry (c : Chip) (e : Entry) : Prop :=
  c.awake = true ∧ c.started = true ∧ c.mode ≠ 7 ∧ (c.ring 6).fill ≠ 0 ∧ e = c.tailEntry 6 0

/-- The entry has been consumed. -/
def Taken6 (c t : Chip) : Prop := (t.ring 6).tail = (c.ring 6).tail + 1 ∧ (t.ring 6).head = (c.ring 6).head

end Sys2Proof.Machine
end

