-- ==== Sys2Proof/Certificates/Slice0/Obligations.lean ====
section
/-! DEFINITION. The statements for the provers, in the order of the chapters of the spec. `Gives i s P`: the command `i` answers a next state from `s`,
leaves the queue alone, and the block after it has the property `P`. `awake`: the core is supplied and the mode is not SHIP; `hostOpen`: the
host may write (the start is over, or STIRRUP). -/

open Sys2Proof Sys2Proof.Machine

/-! ### The girth (01) -/

/-- 01 R26, R30, R31: a transfer of eight symbol groups, a probe and a wake by the field die are each acknowledged and counted
(SYS_LANE_XFERn) on a LIVE lane; a transfer leaves its 16 bits, group i giving bits [2i+1:2i]; a transfer that is not received whole changes
nothing.
The model's choices: log entries 23, 24. -/
def Obligations.GirthTransfersAreCounted : Prop :=
  (∀ (s : State) (lane kind v : Nat) (groups : List Nat), s.chip.awake = true → s.chip.lane lane = .live → groups.length = 8 →
    symbols groups = some v →
    Gives (.girthTransfer lane groups kind) s (fun c => c.girth.xfer = s.chip.girth.xfer.modify lane (· + 1) ∧
      c.girth.last = s.chip.girth.last.set lane { kind := kind, data := BitVec.ofNat 16 v })) ∧
  (∀ (s : State) (lane kind : Nat) (groups : List Nat), s.chip.awake = true → (groups.length ≠ 8 ∨ symbols groups = none) →
    Gives (.girthTransfer lane groups kind) s (fun c => c = s.chip.follow s.chip)) ∧
  (∀ (s : State) (lane : Nat), s.chip.awake = true → s.chip.lane lane = .live → s.chip.tb.pstate ≤ 1 →
    Gives (.laneProbe lane) s (fun c => c.girth.xfer = s.chip.girth.xfer.modify lane (· + 1))) ∧
  (∀ (s : State) (prot : Bool), s.chip.awake = true → s.chip.lane (if prot then 3 else 2) = .live → s.chip.tb.pstate = 2 →
    Gives (.fieldTransferWake prot) s (fun c => c.tb.pstate = 0 ∧
      c.girth.xfer = s.chip.girth.xfer.modify (if prot then 3 else 2) (· + 1)))

/-- 01 R34, R47: a wake handshake makes a WAKING lane LIVE; the first strobe makes a starting sample lane run while its gate still passes
and the radio die's lane is LIVE. -/
def Obligations.LanesComeAlive : Prop :=
  (∀ (s : State) (lane : Nat), s.chip.awake = true → s.chip.lane lane = .waking →
    Gives (.laneWakeHandshake lane) s (fun c => c.lane lane = .live ∧ ∀ l, l ≠ lane → c.lane l = s.chip.lane l)) ∧
  (∀ (s : State), s.chip.awake = true → s.chip.girth.gsamp = .starting → s.chip.gnssGate = true → s.chip.live 1 = true →
    Gives (.firstStrobe 0) s (fun c => c.girth.gsamp = .running)) ∧
  (∀ (s : State), s.chip.awake = true → s.chip.girth.rsamp = .starting → s.chip.radioGate = true → s.chip.live 1 = true →
    Gives (.firstStrobe 1) s (fun c => c.girth.rsamp = .running))

/-- 01 R32, R34, R38, R47, R49: once the start is over, a lane declared SILENT (no acknowledge, or no handshake in 2 ms) is SILENT, and the
functions of its die are refused until the next start; a failed sample lane or timebase line has the consequences of a SILENT lane without
the isolation.
The model's choices: log entries 25, 2. -/
def Obligations.SilentLanesRefuseTheirFunctions : Prop :=
  (∀ (s : State) (lane : Nat), s.chip.awake = true → lane < 4 → (s.chip.lane lane = .live ∨ s.chip.lane lane = .waking) →
    s.chip.afterStart = true →
    Gives (.laneSilent lane) s (fun c => c.lane lane = .silent ∧ (lane = 0 → c.girth.convRefused = true) ∧
      (lane = 1 → c.girth.radioRefused = true) ∧ (lane = 2 → c.girth.fieldRefused = true))) ∧
  (∀ (s : State) (lane : Nat), s.chip.awake = true → lane < 4 → s.chip.lane lane = .waking → s.chip.afterStart = true →
    Gives (.laneWakeTimeout lane) s (fun c => c.lane lane = .silent ∧ (lane = 0 → c.girth.convRefused = true) ∧
      (lane = 1 → c.girth.radioRefused = true) ∧ (lane = 2 → c.girth.fieldRefused = true))) ∧
  (∀ (s : State) (lane : Nat), s.chip.awake = true → lane < 2 → (s.chip.samp lane = .starting ∨ s.chip.samp lane = .running) →
    s.chip.afterStart = true →
    Gives (.sampleLaneFail lane) s (fun c => c.samp lane = .failed ∧ c.girth.radioRefused = true)) ∧
  (∀ (s : State) (line : Nat), s.chip.awake = true → line < 4 → s.chip.gatePasses (lineGate line).1 = true →
    s.chip.live (lineGate line).2 = true → s.chip.afterStart = true →
    Gives (.timebaseLineFail line) s (fun c => (line < 2 → c.girth.convRefused = true) ∧ (2 ≤ line → c.girth.radioRefused = true)))

/-- 01 R39, R40, 11 R529: a die's own wait for an acknowledge. The field die switches the converter and radio supplies and both FOUT off; its
protection events travel on the field lane from then on; the converter die cuts its outputs and stops every awl pulse.
The model's choices: log entries 26, 2. -/
def Obligations.DiesCutOffOnTheirOwnWait : Prop :=
  (∀ (s : State), s.chip.awake = true → s.chip.lane 2 ≠ .parked →
    Gives .fieldLaneTimeout s (fun c => c.girth.fieldCut = true ∧ c.power.fout0 = false ∧ c.power.fout1 = false)) ∧
  (∀ (s : State) (code a0 a1 : Nat), s.chip.awake = true → s.chip.lane 3 ≠ .parked → s.chip.girth.rerouted = false →
    Gives (.protectionLaneTimeout code a0 a1) s (fun c => c.girth.rerouted = true ∧
      (s.chip.live 2 = true → c.rings = ((s.chip.upGirth (fun g => { g with rerouted := true })).protect 0x06 code a0 a1 0 0).rings) ∧
      (s.chip.live 2 = false → c.girth.heldProt =
        s.chip.girth.heldProt ++ [{ afterStart := false, bit := 0, code := code, arg0 := a0, arg1 := a1 }]))) ∧
  (∀ (s : State), s.chip.awake = true → s.chip.lane 0 ≠ .parked →
    Gives .converterLaneTimeout s (fun c => c.girth.converterCut = true ∧ (∀ q ∈ c.seqs, q.awl = false) ∧
      (∀ x ∈ c.exc.take 4, x.driven = false)))

/-! ### Lands and supplies (02, 03) -/

/-- 02 R97: an ARM of SYS_IO_DRIVE applies the GPIO and TIME groups at once and leaves HOST and MEM to their moments; each then takes the value
armed.
The model's choices: log entry 2. -/
def Obligations.DriveGroupsApplyAtTheirMoments : Prop :=
  (∀ (s : State), s.chip.awake = true → s.chip.hostOpen = true →
    Gives .ioDriveArm s (fun c => c.lands.hostDrive = some (s.chip.rf 0x11 2 0) ∧ c.lands.memDrive = some (s.chip.rf 0x11 5 3) ∧
      c.run = (s.chip.setRun 0x11 (putFld (putFld (s.chip.runW 0x11) 11 9 (s.chip.rf 0x11 11 9)) 8 6 (s.chip.rf 0x11 8 6))).run)) ∧
  (∀ (s : State) (v : Nat), s.chip.awake = true → s.chip.lands.memDrive = some v → s.chip.mcsHigh = true →
    Gives (.ioDriveApply true) s (fun c => c.lands.memDrive = none ∧ c.run = (s.chip.setRun 0x11 (putFld (s.chip.runW 0x11) 5 3 v)).run)) ∧
  (∀ (s : State) (v : Nat), s.chip.awake = true → s.chip.lands.hostDrive = some v →
    Gives (.ioDriveApply false) s (fun c => c.lands.hostDrive = none ∧ c.run = (s.chip.setRun 0x11 (putFld (s.chip.runW 0x11) 2 0 v)).run))

/-- 02 R98, R99: an ARM of SYS_GP_CTL applies the eight words unless a PULL is 0b11, which refuses the set; applying ends every watch until it is
re-armed with the level of that moment; an edge of the selected polarity on a watched pin sets the pin's bit of SYS_GP_EDGE and raises a keeper
event.
The model's choices: log entry 2. -/
def Obligations.GeneralPurposePinsWatchTheirEdges : Prop :=
  (∀ (s : State), s.chip.awake = true → s.chip.hostOpen = true → (∀ i, i < 8 → s.chip.rf (0x80 + i) 5 4 ≠ 3) →
    Gives .gpCfgArm s (fun c => c.run = (s.chip.applyWords (s.chip.shadow 0x80 8)).run ∧ c.lands.gpWatch = 0)) ∧
  (∀ (s : State) (i : Nat), s.chip.awake = true → s.chip.hostOpen = true → i < 8 → s.chip.rf (0x80 + i) 5 4 = 3 →
    Gives .gpCfgArm s (fun c => c.run = s.chip.run ∧ c.lands = s.chip.lands)) ∧
  (∀ (s : State) (pin : Nat) (level : Bool), s.chip.awake = true → pin < 8 →
    Gives (.gpWatchRearm pin level) s (fun c => c.lands.gpWatch.getLsbD pin = true ∧ c.lands.gpRef.getLsbD pin = level)) ∧
  (∀ (s : State) (pin : Nat) (level : Bool), s.chip.awake = true → pin < 8 → s.chip.gpWatched pin = true →
    s.chip.lands.gpRef.getLsbD pin ≠ level → s.chip.gpWakes pin level = true →
    Gives (.gpEdge pin level) s (fun c => c.reg 0x8A = s.chip.reg 0x8A ||| wd (2 ^ pin) ∧
      c.keeper.pending.any (fun p => p.source == 0x1700 + pin) = true))

/-- 02 R92, 03 R146, 19 R858: the comparisons of the supplies. VIO below and above its good threshold; the four filtered comparisons; the core
rail's two voltages.
The model's choices: log entries 113, 2. -/
def Obligations.SupplyComparisonsFollowTheirSupplies : Prop :=
  (∀ (s : State) (frame : Option Nat), s.chip.lands.vioGood = true → Gives (.vioLost frame) s (fun c => c.lands.vioGood = false)) ∧
  (∀ (s : State), s.chip.lands.vioGood = false → Gives .vioGood s (fun c => c.lands.vioGood = true)) ∧
  (∀ (s : State) (outside : Bool), s.chip.awake = true →
    Gives (.supplyOut 0 outside) s (fun c => c.therm = { s.chip.therm with fvinOut := outside }) ∧
    Gives (.supplyOut 1 outside) s (fun c => c.therm = { s.chip.therm with vbatLow := outside }) ∧
    Gives (.supplyOut 2 outside) s (fun c => c.therm = { s.chip.therm with vbatHigh := outside }) ∧
    Gives (.supplyOut 3 outside) s (fun c => c.therm = { s.chip.therm with vioHigh := outside })) ∧
  (∀ (s : State) (mv : Nat), s.chip.awake = true →
    Gives (.coreRailScaling mv) s (fun c => (mv < 2750 → c.tb.coreLow = true) ∧ (2800 < mv → c.tb.coreLow = false) ∧
      (2750 ≤ mv → mv ≤ 2800 → c.tb.coreLow = s.chip.tb.coreLow)))

/-- 03 R100, R103, R105, R107, R139, 19 R859: the power path. FVIN taken and released, its overvoltage and the buck regulator's sag; the cell cut,
connected again and reversed; without FVIN and cell the core loses its supply and the keeper draws from VCAP.
The model's choices: log entry 2. -/
def Obligations.PowerPathTakesAndReleases : Prop :=
  (∀ (s : State), s.chip.power.fvinTaken = false →
    Gives .fvinTaken s (fun c => c.power.fvinTaken = true ∧ c.power.fvinPresent = true ∧ c.power.fvinOv = false)) ∧
  (∀ (s : State), s.chip.power.fvinTaken = true →
    Gives .fvinRelease s (fun c => c.power.fvinTaken = false ∧ c.power.fvinPresent = false ∧
      (s.chip.power.cellConnected = false → c.power.coreSupplied = false ∧ c.power.onVcapSeen = true))) ∧
  (∀ (s : State) (vbat fvin : Int), s.chip.power.fvinTaken = true →
    Gives (.fvinOv vbat fvin) s (fun c => c.power.fvinTaken = false ∧ c.power.fvinOv = true)) ∧
  (∀ (s : State), s.chip.power.fvinTaken = true → Gives .buckSag s (fun c => c.power.fvinTaken = false)) ∧
  (∀ (s : State) (vbat fvin : Int), s.chip.power.cellConnected = true →
    Gives (.cellCut vbat fvin) s (fun c => c.power.cellConnected = false ∧ c.power.vbat = vbat.toNat ∧
      (s.chip.power.fvinTaken = false → c.power.coreSupplied = false ∧ c.power.onVcapSeen = true) ∧
      (s.chip.power.fvinTaken = true → c.power.coreSupplied = s.chip.power.coreSupplied))) ∧
  (∀ (s : State), s.chip.power.cellConnected = false →
    Gives .cellReconnect s (fun c => c.power.cellConnected = true ∧ c.power.cellReversed = false)) ∧
  (∀ (s : State) (vbat fvin : Int), Gives (.cellReversed vbat fvin) s (fun c => c.power.cellReversed = true))

/-- 03 R110-R113: the charger. Precharge to constant current at 3.00 V, to constant voltage at the float voltage, DONE at a tenth of the setting,
again at 100 mV below the float voltage; the safety timer's FAULT; an open NTC stops the charge; outside the charge window it pauses and goes on
inside it with the step it left.
The model's choices: log entry 2. -/
def Obligations.ChargerFollowsItsThresholds : Prop :=
  (∀ (s : State) (v i : Nat), s.chip.mayCharge = true → s.chip.power.chg = .precharge → 3000 ≤ v →
    Gives (.chgStateChange v i) s (fun c => c.power.chg = .constCurrent ∧ c.power.vbat = v)) ∧
  (∀ (s : State) (v i : Nat), s.chip.mayCharge = true → s.chip.power.chg = .constCurrent → s.chip.floatMv ≤ v →
    Gives (.chgStateChange v i) s (fun c => c.power.chg = .constVoltage)) ∧
  (∀ (s : State) (v i : Nat), s.chip.mayCharge = true → s.chip.power.chg = .constVoltage → i * 10 ≤ 50 * s.chip.runF 0x1C04 7 4 →
    Gives (.chgStateChange v i) s (fun c => c.power.chg = .done)) ∧
  (∀ (s : State) (v i : Nat), s.chip.mayCharge = true → s.chip.power.chg = .done → v + 100 ≤ s.chip.floatMv →
    Gives (.chgStateChange v i) s (fun c => c.power.chg = .constCurrent)) ∧
  (∀ (s : State), s.chip.power.chg.charging = true → Gives .chgTimer s (fun c => c.power.chg = .fault ∧ c.power.chgTimedOut = true)) ∧
  (∀ (s : State), s.chip.cellType ≠ 0 → s.chip.runB 0x1C04 0 = true → s.chip.power.ntcOpen = false → s.chip.power.chgTimedOut = false →
    Gives .ntcOpen s (fun c => c.power.ntcOpen = true ∧ c.power.chg = .off)) ∧
  (∀ (s : State), s.chip.power.chg.charging = true →
    Gives (.chargeWindow false) s (fun c => c.power.chg = .paused ∧ c.power.chgResume = s.chip.power.chg)) ∧
  (∀ (s : State), s.chip.mayCharge = true → s.chip.power.chg = .paused →
    Gives (.chargeWindow true) s (fun c => c.power.chg = s.chip.power.chgResume))

/-- 03 R116, R118, 11 R524: the field outputs. A FOUT over its limit or its temperature is cut; an open FOUT or GBIAS sets its bit; a shorted GBIAS is
switched off.
The model's choices: log entry 2. -/
def Obligations.FieldOutputsAreCut : Prop :=
  (∀ (s : State) (n : Nat), s.chip.awake = true → n < 2 → s.chip.foutOn n = true →
    Gives (.foutLimit n) s (fun c => c.foutOn n = false ∧ (n = 0 → c.power.cut0 = true) ∧ (n = 1 → c.power.cut1 = true)) ∧
    Gives (.foutTherm n) s (fun c => c.foutOn n = false ∧ (n = 0 → c.power.cut0 = true) ∧ (n = 1 → c.power.cut1 = true))) ∧
  (∀ (s : State) (n : Nat), s.chip.awake = true → n < 2 → s.chip.foutOn n = true → s.chip.runB 0x1C20 2 = true →
    s.chip.rf 0x1C21 (10 + n) (10 + n) = 0 →
    Gives (.foutOpen n) s (fun c => c.reg 0x1C21 = s.chip.reg 0x1C21 ||| wd (2 ^ (10 + n)))) ∧
  (∀ (s : State), s.chip.awake = true → s.chip.power.gbias = true →
    Gives .gbiasShort s (fun c => c.power.gbias = false ∧ c.power.gbiasCut = true)) ∧
  (∀ (s : State), s.chip.awake = true → s.chip.power.gbias = true → s.chip.rf 0x1C01 10 10 = 0 →
    Gives .gbiasOpen s (fun c => c.reg 0x1C01 = s.chip.reg 0x1C01 ||| wd (2 ^ 10)))

/-- 01 R60, 03 R116, R118, R144: an accepted set of a field-die unit becomes the running set at once on a LIVE lane; on a PARKED lane it waits and
becomes the running set at the unit's boundary once the lane is LIVE. -/
def Obligations.FieldDieSetsApply : Prop :=
  (∀ (s : State), s.chip.awake = true → s.chip.hostOpen = true → s.chip.lane 2 = .live →
    Gives .fldFoutArm s (fun c => c.run = (s.chip.applyWords (s.chip.shadow 0x1C06 1)).run) ∧
    Gives .fldGbiasArm s (fun c => c.run = (s.chip.applyWords (s.chip.shadow 0x1C07 1)).run) ∧
    (s.chip.rf 0x1C04 7 4 ≠ 0 → s.chip.rf 0x1C04 7 4 ≤ 10 → s.chip.rf 0x1C04 3 2 ≠ 3 →
      Gives .fldChgArm s (fun c => c.run = (s.chip.applyWords (s.chip.shadow 0x1C04 1)).run))) ∧
  (∀ (s : State), s.chip.awake = true → s.chip.hostOpen = true → s.chip.lane 2 = .parked →
    Gives .fldFoutArm s (fun c => c.run = s.chip.run ∧ { arm := 0x1C06, words := s.chip.shadow 0x1C06 1 } ∈ c.girth.armed) ∧
    Gives .fldGbiasArm s (fun c => c.run = s.chip.run ∧ { arm := 0x1C07, words := s.chip.shadow 0x1C07 1 } ∈ c.girth.armed)) ∧
  (∀ (s : State) (arm : Nat) (a : ArmedSet), s.chip.awake = true →
    (arm = 0x1C04 ∨ arm = 0x1C06 ∨ arm = 0x1C07 ∨ arm = 0x1C20 ∨ arm = 0x1900 ∨ arm = 0x130A) →
    s.chip.armedSet arm = some a → s.chip.lane (armLane arm) = .live →
    Gives (.remoteSetApply arm) s (fun c => c.run = (s.chip.applyWords a.words).run ∧ c.armedSet arm = none))

/-- 03 R106, R138, R142: battery hold begins when the cell alone supplies the load and ends when it has recovered.
The model's choices: log entry 2. -/
def Obligations.BatteryHoldBeginsAndEnds : Prop :=
  (∀ (s : State) (vbat fvin : Int), s.chip.awake = true → s.chip.power.fvinTaken = false → s.chip.modes.batHold = false → s.chip.mode ≠ 7 →
    Gives (.batHold vbat fvin) s (fun c => c.modes.batHold = true ∧ c.modes.thermalHold = s.chip.modes.thermalHold)) ∧
  (∀ (s : State), s.chip.awake = true → s.chip.modes.batHold = true →
    Gives .batHoldEnd s (fun c => c.modes.batHold = false ∧ c.modes.thermalHold = s.chip.modes.thermalHold))

/-! ### Starts, STIRRUP and modes (03, 06) -/

/-- 06 R248, R249, 02 R74, 03 R120: the triggers of a start: supply after none, WAKE or FVIN in SHIP, NRST, the host's key, and the retry 1.0 s after
a failed start. -/
def Obligations.TriggersBeginAStart : Prop :=
  (∀ (s : State), s.chip.power.coreSupplied = false → (s.chip.power.fvinTaken = true ∨ s.chip.power.cellConnected = true) →
    Gives .corePowerOn s (StartBegun 1)) ∧
  (∀ (s : State) (fvin : Bool), s.chip.power.coreSupplied = true → s.chip.mode = 0 → Gives (.shipExit fvin) s (StartBegun 2)) ∧
  (∀ (s : State), s.chip.awake = true → Gives .nrstReset s (StartBegun 3)) ∧
  (∀ (s : State), s.chip.awake = true → Gives (.sysStartCmd 0x53544152) s (StartBegun 4)) ∧
  (∀ (s : State) (key : Word), s.chip.awake = true → key ≠ 0x53544152 → Gives (.sysStartCmd key) s (fun c => c = s.chip.follow s.chip)) ∧
  (∀ (s : State), s.chip.awake = true → s.chip.start.phase = .failed → Gives .startRetry s (StartBegun 6))

/-- 06 R283, R285-R288: a recovery command that its check accepts, from a listen window or from the host buffer in STIRRUP, begins a start with trigger
RECOVERY and the one-start effects of its OPCODE; outside STIRRUP a host command is answered NOT_STIRRUP.
The model's choices: log entry 50. -/
def Obligations.RecoveryCommandsBeginAStart : Prop :=
  (∀ (s : State) (b : List Byte), s.chip.awake = true → s.chip.mode = 7 → s.chip.start.listening = true → s.chip.recoveryResult b = 1 →
    (leAt b 2 1 = 1 → Gives (.restart (some b)) s (fun c => StartBegun 5 c ∧ c.start.useDefaults = false ∧ c.start.useCalDefaults = false)) ∧
    (leAt b 2 1 = 2 → Gives (.restartSlot (some b)) s (fun c => StartBegun 5 c ∧ c.start.useDefaults = false ∧ c.start.useCalDefaults = false)) ∧
    (leAt b 2 1 = 3 → Gives (.restartDefaults (some b)) s (fun c => StartBegun 5 c ∧ c.start.useDefaults = true)) ∧
    (leAt b 2 1 = 4 → Gives (.restartCalDefaults (some b)) s (fun c => StartBegun 5 c ∧ c.start.useCalDefaults = true))) ∧
  (∀ (s : State), s.chip.awake = true → s.chip.mode ≠ 7 → s.chip.started = true →
    Gives (.restart none) s (fun c => c.start.result = 0xA ∧ c.start.phase = s.chip.start.phase))

/-- 06 R254, R255, R278, R282, R284, 04 R158: a start that runs out of time fails and waits in KEEPER; a supply cycle is recorded; the beacon of STIRRUP
counts itself and opens a listen window, which ends; a timebase not proven by its deadline is failed.
The model's choices: log entries 20, 42, 2. -/
def Obligations.StartsFailAndBeaconsListen : Prop :=
  (∀ (s : State), s.chip.awake = true → s.chip.starting = true → s.chip.start.stirrupStart = false →
    Gives .startTimeout s (fun c => c.start.phase = .failed ∧ c.mode = 1 ∧ c.start.countedWritten = true)) ∧
  (∀ (s : State), s.chip.power.fvinTaken = false → Gives .supplyCycle s (fun c => c.start.supplyCycle = true)) ∧
  (∀ (s : State), s.chip.awake = true → s.chip.mayBeacon = true →
    Gives .stirrupBeacon s (fun c => c.start.beacons = s.chip.start.beacons + 1 ∧ c.start.listening = true ∧ c.start.nonce ≠ 0)) ∧
  (∀ (s : State), s.chip.awake = true → Gives .stirrupListenEnd s (fun c => c.start.listening = false)) ∧
  (∀ (s : State) (part : NorPart), s.chip.awake = true → s.chip.starting = true → s.chip.held = false → s.chip.start.stirrupStart = true →
    s.chip.stirrupDone = true →
    Gives (.startLoad part) s (fun c => c.mode = 7 ∧ c.start.phase = .stirrup ∧ c.start.record.state = 2 ∧ c.start.beacons = 0)) ∧
  (∀ (s : State), s.chip.awake = true → s.chip.starting = true → s.chip.tb.tbmProven = false →
    Gives (.timebaseProofDeadline true) s (fun c => c.tb.tbmFailed = true ∧ c.girth.radioRefused = true)) ∧
  (∀ (s : State), s.chip.awake = true → s.chip.starting = true → s.chip.tb.tbkProven = false →
    Gives (.timebaseProofDeadline false) s (fun c => c.tb.tbkFailed = true))

/-- 03 R129-R136: host mode requests. What the decision of the request is, SYS_MODE.REQ_RESULT shows (8: queued) with the mode asked for, and a request
accepted from the settled WATCH begins its transition; a code above 5 is INVALID; during a transition a request is queued.
The model's choices: log entries 34, 35. -/
def Obligations.HostModeRequestsAreDecided : Prop :=
  (∀ (s : State) (watch : Bool), s.chip.awake = true → s.chip.started = true → s.chip.mode = (if watch then 1 else 2) →
    s.chip.modes.transition = none → s.chip.held = false → s.chip.fallback (if watch then 2 else 1) = (if watch then 2 else 1) →
    Gives (.modeReqKeeperWatch watch) s (fun c => c.modes.reqMode = (if watch then 2 else 1) ∧ c.modes.reqResult = 0 ∧
      c.modes.transition = some (if watch then 2 else 1, .host))) ∧
  (∀ (s : State), s.chip.awake = true → s.chip.started = true → (s.chip.mode = 1 ∨ s.chip.mode = 2) → s.chip.modes.transition = none →
    s.chip.held = false → s.chip.keeper.theft = .disarmed → s.chip.power.fvinTaken = false → s.chip.runB 0x22 9 = true → s.chip.shipBusy = false →
    Gives .modeReqShip s (fun c => c.modes.reqResult = 0 ∧ c.modes.transition = some (0, .host))) ∧
  (∀ (s : State), s.chip.awake = true → s.chip.started = true → (s.chip.mode = 1 ∨ s.chip.mode = 2) → s.chip.modes.transition = none →
    s.chip.held = false → s.chip.power.fvinTaken = true → s.chip.fallback 5 = 5 →
    Gives .modeReqDuty s (fun c => c.modes.reqResult = 0 ∧ c.modes.transition = some (5, .host))) ∧
  (∀ (s : State), s.chip.awake = true → s.chip.started = true → s.chip.mode = 2 → s.chip.modes.transition = none →
    s.chip.held = false → s.chip.acqReady = true → s.chip.silent 1 = false → s.chip.girth.radioRefused = false → s.chip.acq.state = .idle →
    Gives .modeReqFix s (fun c => c.modes.reqResult = 0 ∧ c.acq.state = .waiting ∧ c.modes.transition = some (3, .host))) ∧
  (∀ (s : State), s.chip.awake = true → s.chip.started = true → s.chip.mode = 2 → s.chip.modes.transition = none →
    s.chip.held = false → s.chip.burstDue = true → s.chip.silent 1 = false → s.chip.girth.radioRefused = false →
    Gives .modeReqBurst s (fun c => c.modes.reqResult = 0 ∧ c.radio.burstWanted = true ∧ c.modes.transition = some (4, .host))) ∧
  (∀ (s : State) (mode : Nat), s.chip.awake = true → s.chip.started = true → 6 ≤ mode → mode < 16 →
    Gives (.modeReqInvalid mode) s (fun c => c.modes.reqMode = mode ∧ c.modes.reqResult = (if s.chip.mode = 7 then 4 else 7) ∧
      c.modes.mode = s.chip.modes.mode)) ∧
  (∀ (s : State) (watch : Bool), s.chip.awake = true → s.chip.started = true → s.chip.mode ≠ 7 → s.chip.modes.transition ≠ none →
    Gives (.modeReqKeeperWatch watch) s (fun c => c.modes.reqResult = 8 ∧ c.modes.queuedHost = some (if watch then 2 else 1) ∧
      c.modes.transition = s.chip.modes.transition))

/-- 03 R132, R901, 02 R69, R144: a transition whose lanes have woken completes: the mode is the target, PREV the mode left, REASON its source. An ARM of
SYS_MODE_POLICY is accepted for the modes R144 allows and applies; otherwise the running policy stays. -/
def Obligations.TransitionsComplete : Prop :=
  (∀ (s : State) (m : Nat) (r : Reason), s.chip.awake = true → s.chip.modes.transition = some (m, r) → s.chip.lanesReady m = true →
    Gives .modeChanged s (fun c => c.modes.mode = m ∧ c.modes.prev = s.chip.modes.mode ∧ c.modes.reason = r)) ∧
  (∀ (s : State), s.chip.awake = true → s.chip.hostOpen = true →
    ((s.chip.rf 0x22 7 4 = 1 ∨ s.chip.rf 0x22 7 4 = 2 ∨ s.chip.rf 0x22 7 4 = 5) ∧ (s.chip.rf 0x22 3 0 = 1 ∨ s.chip.rf 0x22 3 0 = 2)) →
    Gives .modePolicyArm s (fun c => c.run = (s.chip.applyWords (s.chip.shadow 0x22 1)).run)) ∧
  (∀ (s : State), s.chip.awake = true → s.chip.hostOpen = true →
    ¬ ((s.chip.rf 0x22 7 4 = 1 ∨ s.chip.rf 0x22 7 4 = 2 ∨ s.chip.rf 0x22 7 4 = 5) ∧ (s.chip.rf 0x22 3 0 = 1 ∨ s.chip.rf 0x22 3 0 = 2)) →
    Gives .modePolicyArm s (fun c => c.run = s.chip.run ∧ c.modes = s.chip.modes))

/-! ### Timebases, gates and the fabric (04) -/

/-- 04 R175, R178, R179, R191: a domain switch is requested while the path is ready, stops the domain at a safe point, moves the selector and is
released: the keeper domain's SUB is then 6 greater. A request during a switch waits behind it.
The model's choices: log entry 41. -/
def Obligations.DomainSwitchesGoThroughTheirStages : Prop :=
  (∀ (s : State) (d target : Nat), s.chip.awake = true → d < s.chip.tb.domains.length → d < 4 → s.chip.pathReady d target = true →
    s.chip.switchStage d = none → s.chip.domSource d ≠ target →
    Gives (.domainSwitchRequest d target) s (fun c => c.switchStage d = some .requested ∧ c.domSource d = s.chip.domSource d)) ∧
  (∀ (s : State) (d target : Nat) (st : SwitchStage), s.chip.awake = true → d < s.chip.tb.domains.length → d < 4 →
    s.chip.pathReady d target = true → s.chip.switchStage d = some st →
    Gives (.domainSwitchRequest d target) s (fun c => (c.tb.domains.getD d {}).queued = some target ∧ c.switchStage d = some st)) ∧
  (∀ (s : State) (d : Nat), s.chip.awake = true → d < s.chip.tb.domains.length → s.chip.switchStage d = some .requested →
    s.chip.safePoint d = true →
    Gives (.stopAcknowledged d) s (fun c => c.switchStage d = some .acknowledged ∧ c.domSource d = s.chip.domSource d)) ∧
  (∀ (s : State) (d : Nat) (w : Switch), s.chip.awake = true → d < s.chip.tb.domains.length →
    (s.chip.tb.domains.getD d {}).switch = some w → w.stage = .acknowledged →
    Gives (.sourceSwitch d) s (fun c => c.switchStage d = some .switched ∧ c.domSource d = w.target)) ∧
  (∀ (s : State) (d : Nat), s.chip.awake = true → d < s.chip.tb.domains.length → s.chip.switchStage d = some .switched →
    (s.chip.tb.domains.getD d {}).queued = none →
    Gives (.domainRelease d) s (fun c => c.switchStage d = none ∧ c.domSource d = s.chip.domSource d ∧
      (d = 2 → c.keeper.sub = s.chip.keeper.sub + 6) ∧ (d = 3 → c.tb.ckoDiv = s.chip.runF 0x0403 15 0)))

/-- 04 R153-R157, R160, R194-R197: the crystals are proven and fail; a failed TBM takes every loop and moves the converter and SPI domains to
TBF; a loop locks, loses its lock and locks again at a retry.
The model's choices: log entry 2. -/
def Obligations.TimebasesAreProvenAndFail : Prop :=
  (∀ (s : State), s.chip.awake = true → s.chip.tb.tbkFailed = false → Gives .tbkProven s (fun c => c.tb.tbkProven = true)) ∧
  (∀ (s : State), s.chip.awake = true → s.chip.tbmRuns = true → Gives .tbmProven s (fun c => c.tb.tbmProven = true ∧ c.tb.tbmTest = false)) ∧
  (∀ (s : State) (cause : Nat) (err : Int), s.chip.awake = true → s.chip.tb.tbkProven = true → s.chip.tb.tbkFailed = false →
    2 < s.chip.tb.domains.length →
    Gives (.tbkFail cause err) s (fun c => c.tb.tbkFailed = true ∧ c.tb.tbkProven = false ∧ c.reg 0x0401 = s.chip.reg 0x0401 ||| wd 1 ∧
      (s.chip.domSource 2 = 1 → (c.tb.domains.getD 2 {}).switch = some { stage := .acknowledged, target := 0 }))) ∧
  (∀ (s : State) (cause : Nat) (err : Int), s.chip.awake = true → s.chip.tb.tbmProven = true → s.chip.tbmRuns = true →
    1 < s.chip.tb.domains.length →
    Gives (.tbmFail cause err) s (fun c => c.tb.tbmFailed = true ∧ c.tb.tbmProven = false ∧ c.tb.mlg = false ∧ c.tb.mlc = false ∧
      c.tb.mls = false ∧
      (s.chip.domSource 0 = 1 → (c.tb.domains.getD 0 {}).switch = some { stage := .acknowledged, target := 0 }) ∧
      (s.chip.domSource 1 = 1 → (c.tb.domains.getD 1 {}).switch = some { stage := .acknowledged, target := 0 }))) ∧
  (∀ (s : State) (l : Nat), s.chip.awake = true → s.chip.tb.tbmProven = true → s.chip.tb.tbmFailed = false →
    Gives (.loopLocked l) s (fun c => (l = 0 → c.tb.mlg = true) ∧ (l = 1 → c.tb.mlc = true) ∧ (l = 2 → c.tb.mls = true) ∧
      (s.chip.tb.mlg = true → c.tb.mlg = true) ∧ (s.chip.tb.mlc = true → c.tb.mlc = true) ∧ (s.chip.tb.mls = true → c.tb.mls = true))) ∧
  (∀ (s : State), s.chip.awake = true →
    (s.chip.tb.mlc = true → Gives (.mlUnlock 1) s (fun c => c.tb.mlc = false ∧ c.tb.mls = s.chip.tb.mls ∧
      c.reg 0x0401 = s.chip.reg 0x0401 ||| wd 8)) ∧
    (s.chip.tb.mls = true → Gives (.mlUnlock 2) s (fun c => c.tb.mls = false ∧ c.tb.mlc = s.chip.tb.mlc ∧
      c.reg 0x0401 = s.chip.reg 0x0401 ||| wd 16))) ∧
  (∀ (s : State), s.chip.awake = true → s.chip.tb.mlg = true →
    Gives .mlgUnlock s (fun c => c.tb.mlg = false ∧ c.tb.mlc = s.chip.tb.mlc ∧ c.tb.mls = s.chip.tb.mls)) ∧
  (∀ (s : State) (l : Nat), s.chip.awake = true → s.chip.tb.retry.getD l false = true → s.chip.tb.tbmProven = true → s.chip.tb.tbmFailed = false →
    Gives (.loopLockRetry l true) s (fun c => (l = 0 → c.tb.mlg = true) ∧ (l = 1 → c.tb.mlc = true) ∧ (l = 2 → c.tb.mls = true) ∧
      c.tb.retry.getD l false = false) ∧
    Gives (.loopLockRetry l false) s (fun c => c.tb = s.chip.tb))

/-- 04 R150, R170-R174, R182, R187-R190, R198, R199: the gate tree's ARM accepts a set that its check passes and names the refused one; TB_SRC and
CKO; the power states; the capture ports; the speed reading.
The model's choices: log entries 38, 40. -/
def Obligations.GatesCapturesAndCkoFollowTheirRules : Prop :=
  (∀ (s : State), s.chip.awake = true → s.chip.hostOpen = true → s.chip.gateCheck.1 = 0 →
    Gives .gateArm s (fun c => c.run = (s.chip.applyWords (s.chip.shadow 0x0410 3)).run)) ∧
  (∀ (s : State), s.chip.awake = true → s.chip.hostOpen = true → s.chip.gateCheck.1 ≠ 0 →
    Gives .gateArm s (fun c => c.run = s.chip.run ∧
      c.reg 0x0414 = putFld (putFld (s.chip.reg 0x0414) 3 0 s.chip.gateCheck.1) 12 8 s.chip.gateCheck.2)) ∧
  (∀ (s : State), s.chip.awake = true → s.chip.hostOpen = true →
    Gives .tbSrcArm s (fun c => c.run = (s.chip.applyWords (s.chip.shadow 0x0402 1)).run)) ∧
  (∀ (s : State), s.chip.awake = true → s.chip.hostOpen = true → s.chip.rf 0x0403 18 16 ≠ 7 →
    ckoHz (s.chip.rf 0x0403 18 16) ≤ 50000000 * ckoDivisor (s.chip.rf 0x0403 15 0) →
    Gives .tbCkoArm s (fun c => c.tb.ckoEn = bit (s.chip.reg 0x0403) 19 ∧ c.run = (s.chip.applyWords (s.chip.shadow 0x0403 1)).run ∧
      (s.chip.tb.ckoEn = true → c.tb.ckoDiv = s.chip.tb.ckoDiv) ∧ (s.chip.tb.ckoEn = false → c.tb.ckoDiv = s.chip.rf 0x0403 15 0))) ∧
  (∀ (s : State), s.chip.awake = true → Gives .ckoDivApply s (fun c => c.tb.ckoDiv = s.chip.runF 0x0403 15 0)) ∧
  (∀ (s : State) (busy : Bool), s.chip.awake = true →
    Gives (.powerStateChange busy) s (fun c => (busy = true → c.tb.pstate = 0) ∧
      (busy = false → (cdPowered s.chip.mode || rgPowered s.chip.mode || rcPowered s.chip.mode) = true → c.tb.pstate = 1) ∧
      (busy = false → (cdPowered s.chip.mode || rgPowered s.chip.mode || rcPowered s.chip.mode) = false → c.tb.pstate = 2))) ∧
  (∀ (s : State) (p : Nat) (v : Word), s.chip.awake = true → p < 6 → p < s.chip.tb.ports.length →
    Gives (.captureComplete p v) s (fun c => (s.chip.gatePasses (portGate p) = true → c.tb.ports[p]? = some { frozen := v, copy := v }) ∧
      (s.chip.gatePasses (portGate p) = false →
        c.tb.ports[p]? = (s.chip.tb.ports[p]?).map (fun x => { x with copy := x.frozen })))) ∧
  (∀ (s : State) (p : Nat), s.chip.awake = true → p < 6 →
    Gives (.captureStale p) s (fun c => c.tb.ports[p]? = (s.chip.tb.ports[p]?).map (fun x => { x with copy := x.frozen }) ∧
      c.reg 0x0401 = s.chip.reg 0x0401 ||| wd 32)) ∧
  (∀ (s : State) (v : Nat), s.chip.awake = true → s.chip.tb.pstate = 0 →
    Gives (.tbSpeedUpdate v) s (fun c => c.reg 0x0405 = putFld (s.chip.reg 0x0405) 15 0 v))

/-! ### The keeper domain and MRAM (05) -/

/-- 05 R208, R213, R215-R220, R353: leap seconds end the second they add or skip, the calendar set is checked and takes effect at its edge, the
discipline's set is held in the keeper domain, and HOUR and WEEKDAY are announced.
The model's choices: log entry 84. -/
def Obligations.KeeperTimeFollowsItsRules : Prop :=
  (∀ (s : State), s.chip.awake = true → s.chip.keeper.leapPending = true → s.chip.keeper.leapDelete = false →
    s.chip.keeper.leapAt ≤ (s.chip.keeper.sec.toNat : Int) →
    Gives .leapInsert s (fun c => c.keeper.leapCount = s.chip.keeper.leapCount + 1 ∧ c.keeper.leapPending = false ∧
      c.keeper.sec = s.chip.keeper.sec ∧ c.keeper.sub = s.chip.keeper.sub)) ∧
  (∀ (s : State), s.chip.awake = true → s.chip.keeper.leapPending = true → s.chip.keeper.leapDelete = true →
    s.chip.keeper.leapAt ≤ (s.chip.keeper.sec.toNat : Int) →
    Gives .leapDelete s (fun c => c.keeper.leapCount = s.chip.keeper.leapCount - 1 ∧ c.keeper.leapPending = false ∧
      c.keeper.sec = s.chip.keeper.sec ∧ c.keeper.sub = s.chip.keeper.sub)) ∧
  (∀ (s : State) (y mo d h mi sec : Nat), s.chip.awake = true → s.chip.hostOpen = true →
    y = s.chip.rf 0x4008 31 16 → mo = s.chip.rf 0x4008 15 8 → d = s.chip.rf 0x4008 7 0 → h = s.chip.rf 0x4009 23 16 →
    mi = s.chip.rf 0x4009 15 8 → sec = s.chip.rf 0x4009 7 0 →
    (calendarBad y mo d h mi sec s.chip.keeper.leap = false →
      Gives .calendarArm s (fun c => c.keeper.calPending = some (civilSec y mo d h mi sec) ∧ c.rf 0x400A 3 0 = 0)) ∧
    (calendarBad y mo d h mi sec s.chip.keeper.leap = true →
      Gives .calendarArm s (fun c => c.keeper = s.chip.keeper ∧ c.rf 0x400A 3 0 = 2 ∧ c.reg 0x4000 = s.chip.reg 0x4000 ||| wd 16))) ∧
  (∀ (s : State) (u : Nat), s.chip.awake = true → s.chip.keeper.calPending = some u →
    Gives .calendarApply s (fun c => c.keeper.calPending = none ∧ c.keeper.sec = BitVec.ofNat 33 ((u : Int) + s.chip.keeper.leap).toNat ∧
      c.keeper.sub = 0 ∧ c.keeper.valid = true ∧ c.keeper.tsrc = 1 ∧ c.keeper.slew = 0)) ∧
  (∀ (s : State), s.chip.awake = true → s.chip.hostOpen = true →
    Gives .keepDiscArm s (fun c => c.keeper.rateEn = bit (s.chip.reg 0x4010) 4 ∧ c.keeper.minTrust = s.chip.rf 0x4010 1 0 ∧
      (bit (s.chip.reg 0x4010) 4 = false → c.keeper.rate = 0))) ∧
  (∀ (s : State) (day : Bool), s.chip.awake = true → s.chip.keeper.valid = true →
    Gives (.calendarHourChange day) s (fun c => c.keeper = s.chip.keeper ∧ (day = false → c.rings = (s.chip.postSignal 0x02 0x14).rings) ∧
      (day = true → c.rings = ((s.chip.postSignal 0x02 0x14).postSignal 0x02 0x15).rings)))

/-- 05 R221-R225, R140, 08 R362: the tamper loop changes to a class measured twice in a row, its ARM refuses MODE 0b11 and turns the loop off with a
record; WAKE; the keeper domain's retention; a pending keeper event gets its ring-2 entry.
The model's choices: log entry 61. -/
def Obligations.TamperLoopAndWakeAreSeen : Prop :=
  (∀ (s : State) (m : Nat), s.chip.awake = true → s.chip.hostOpen = true → m = s.chip.rf 0x4020 1 0 →
    (m ≠ 3 → Gives .keepLoopArm s (fun c => c.keeper.loopMode = m ∧ c.keeper.loopPeriod = s.chip.rf 0x4020 5 4 ∧
      (m = 0 → s.chip.keeper.loopMode ≠ 0 → c.keeper.loop = none))) ∧
    (m = 3 → Gives .keepLoopArm s (fun c => c.keeper = s.chip.keeper))) ∧
  (∀ (s : State) (ohms : Nat) (mv : Int) (cls : LoopClass), s.chip.awake = true → s.chip.keeper.loopMode ≠ 0 →
    cls = loopClass (decide (s.chip.keeper.loopMode = 2)) ohms mv →
    (s.chip.keeper.loopLast = some cls → s.chip.keeper.loop ≠ some cls →
      Gives (.loopSample ohms mv) s (fun c => c.keeper.loop = some cls ∧ c.keeper.loopChanges = s.chip.keeper.loopChanges + 1 ∧
        c.reg 0x4001 = s.chip.reg 0x4001 ||| wd 2)) ∧
    (s.chip.keeper.loopLast ≠ some cls →
      Gives (.loopSample ohms mv) s (fun c => c.keeper.loop = s.chip.keeper.loop ∧ c.keeper.loopLast = some cls))) ∧
  (∀ (s : State) (level : Bool), s.chip.awake = true →
    Gives (.wakeRose level) s (fun c => c.keeper.wake = level ∧ c.reg 0x4001 = s.chip.reg 0x4001 ||| wd 1 ∧
      c.keeper.pending.any (fun p => p.source == 0x0800) = true)) ∧
  (∀ (s : State), s.chip.power.coreSupplied = false → s.chip.keeper.powered = true →
    Gives .retentionLost s (fun c => c.keeper.lost = true ∧ c.power.vcapGood = false)) ∧
  (∀ (s : State) (p : KeeperPending) (rest : List KeeperPending), s.chip.awake = true → s.chip.sweeping = true →
    s.chip.keeper.pending = p :: rest →
    Gives .keeperEventPost s (fun c => c.keeper.pending = rest ∧
      c.rings = ((s.chip.upKeeper (fun k => { k with pending := rest })).post2 p.origin 1 p.code p.arg.toNat).rings))

/-- 05 R232-R234, R237, R238, R310, 08 R379: the commit asked for first is executed whole, the oldest ring-1 entry becomes a journal record, and so
does a ring-0 entry with JOURNAL set; a meter's count is committed, marks once and stops at its ceiling.
The model's choices: log entry 63. -/
def Obligations.CommitsRecordsAndMetersAreWritten : Prop :=
  (∀ (s : State) (st fmt : Nat) (body : List Byte) (rest : List (Nat × Nat × List Byte)), s.chip.awake = true →
    s.chip.mram.commits = (st, fmt, body) :: rest → fmt ≠ clearFormat → st ≠ 2 → st ≠ 4 →
    Gives .twoBankCommit s (fun c => c.mram = Mram.commit { s.chip.mram with commits := rest } st fmt body)) ∧
  (∀ (s : State), s.chip.awake = true → (s.chip.ring 1).fill ≠ 0 →
    s.chip.mayRecord (bit (ew (s.chip.entryAt ((s.chip.ring 1).slot (s.chip.ring 1).tail)) 6) 0) = true → s.chip.keeper.theft = .disarmed →
    Gives .journalRecordWrite s (fun c =>
      c.mram = (s.chip.recordWords (s.chip.entryAt ((s.chip.ring 1).slot (s.chip.ring 1).tail))).mram ∧
      (c.ring 1).tail = (s.chip.ring 1).tail + 1 ∧ c.rings.eventWritten = false)) ∧
  (∀ (s : State) (p : BitVec 16), s.chip.awake = true → (s.chip.rings.eventWritten = false ∨ (s.chip.ring 1).fill = 0) →
    s.chip.journalFrom 64 s.chip.rings.obsMram.index = some p →
    s.chip.mayRecord (decide (entryClass (s.chip.entryAt ((s.chip.ring 0).slot p)) = 1)) = true → s.chip.keeper.theft = .disarmed →
    Gives .journalEventRecord s (fun c =>
      c.mram = (s.chip.recordWords (eventRecord (s.chip.entryAt ((s.chip.ring 0).slot p)))).mram ∧
      c.rings.obsMram.index = p + 1 ∧ c.rings.eventWritten = true)) ∧
  (∀ (s : State) (m : Nat), s.chip.awake = true → m < 16 →
    ((s.chip.meter m).commitDue = true ∨ (s.chip.meter m).committed + 60 ≤ (s.chip.meter m).count) →
    Gives (.hourCommit m) s (fun c => (c.meter m).committed = (s.chip.meter m).count ∧ (c.meter m).commitDue = false ∧
      (c.meter m).count = (s.chip.meter m).count)) ∧
  (∀ (s : State) (m : Nat), s.chip.awake = true → m < 16 → s.chip.rules.marks.getD m 0 ≠ 0 → (s.chip.meter m).marked = false →
    s.chip.rules.marks.getD m 0 * 3600 ≤ (s.chip.meter m).count →
    Gives (.meterMark m) s (fun c => (c.meter m).marked = true ∧ (c.meter m).count = (s.chip.meter m).count ∧
      c.keeper.pending.any (fun p => p.source == 0x0F00 + m) = true)) ∧
  (∀ (s : State) (m : Nat), s.chip.awake = true → m < 16 → (s.chip.meter m).running = true → meterCeil ≤ (s.chip.meter m).count →
    Gives (.meterCeiling m) s (fun c => (c.meter m).running = false ∧ (c.meter m).count = meterCeil ∧
      (c.meter m).committed = meterCeil ∧ c.keeper.pending.any (fun p => p.source == 0x1000 + m) = true))

/-! ### Rings (07) -/

/-- 07 R297-R301, R314-R317: what a produce does by the ring's class. With room HEAD advances; DROP_OLDEST full takes the entry and drops the oldest;
DROP_NEWEST full drops the entry; LOSSLESS full holds it in a buffer of four for a timebase-driven producer, and overruns beyond; another
producer waits behind a consumer of lower rank and is refused otherwise; a disabled ring counts the entry. -/
def Obligations.RingsDecideByTheirClass : Prop :=
  ∀ (s : State) (agent n : Nat) (e : List Word), s.chip.awake = true →
    (RingTakes s.chip agent n → (s.chip.ring n).full = false → (s.chip.ring n).held = [] → (s.chip.ring n).waiting = [] →
      Gives (.ringProduce agent n e) s (fun c => (c.ring n).head = (s.chip.ring n).head + 1 ∧ (c.ring n).tail = (s.chip.ring n).tail ∧
        (c.ring n).drop = (s.chip.ring n).drop ∧ c.rings.answer = .done)) ∧
    (RingTakes s.chip agent n → (s.chip.ring n).full = true → (s.chip.ring n).active = .dropOldest →
      Gives (.ringProduce agent n e) s (fun c => (c.ring n).head = (s.chip.ring n).head + 1 ∧ (c.ring n).tail = (s.chip.ring n).tail + 1 ∧
        (c.ring n).drop = (s.chip.ring n).drop + 1 ∧ c.rings.answer = .done)) ∧
    (RingTakes s.chip agent n → (s.chip.ring n).full = true → (s.chip.ring n).active = .dropNewest →
      Gives (.ringProduce agent n e) s (fun c => (c.ring n).head = (s.chip.ring n).head ∧ (c.ring n).tail = (s.chip.ring n).tail ∧
        (c.ring n).drop = (s.chip.ring n).drop + 1 ∧ c.rings.answer = .dropped)) ∧
    (RingTakes s.chip agent n → (s.chip.ring n).full = true → (s.chip.ring n).active = .lossless → timebaseDriven agent = true →
      ((s.chip.ring n).held.filter (fun h => h.1 == agent)).length < 4 →
      Gives (.ringProduce agent n e) s (fun c => (c.ring n).held = (s.chip.ring n).held ++ [(agent, padTo 8 0 e)] ∧
        (c.ring n).head = (s.chip.ring n).head ∧ (c.ring n).drop = (s.chip.ring n).drop ∧ c.rings.answer = .held)) ∧
    (RingTakes s.chip agent n → (s.chip.ring n).full = true → (s.chip.ring n).active = .lossless → timebaseDriven agent = true →
      4 ≤ ((s.chip.ring n).held.filter (fun h => h.1 == agent)).length →
      Gives (.ringProduce agent n e) s (fun c => (c.ring n).held = (s.chip.ring n).held ∧ (c.ring n).overrun = true ∧
        (c.ring n).drop = (s.chip.ring n).drop + 1 ∧ c.rings.answer = .dropped)) ∧
    (RingTakes s.chip agent n → (s.chip.ring n).full = true → (s.chip.ring n).active = .lossless → timebaseDriven agent = false →
      agent ≠ 0x13 →
      ((drainRank (s.chip.ring n).consumer < drainRank agent ∨ (s.chip.ring n).consumer = 0x0B) →
        Gives (.ringProduce agent n e) s (fun c => (c.ring n).waiting = (s.chip.ring n).waiting ++ [(agent, padTo 8 0 e)] ∧
          (c.ring n).head = (s.chip.ring n).head ∧ c.rings.answer = .waiting)) ∧
      (¬ (drainRank (s.chip.ring n).consumer < drainRank agent ∨ (s.chip.ring n).consumer = 0x0B) →
        Gives (.ringProduce agent n e) s (fun c => c.ring n = s.chip.ring n ∧ c.rings.answer = .refusedFull))) ∧
    (s.chip.mayProduce agent n = true → n ≠ 0 → n < s.chip.rings.rings.length → (s.chip.ring n).sizeLog2 = 0 →
      Gives (.ringProduce agent n e) s (fun c => (c.ring n).drop = (s.chip.ring n).drop + 1 ∧ (c.ring n).head = (s.chip.ring n).head))

/-- 07 R298, R299, R321, R324-R327: a waiting or held entry is produced once a LOSSLESS ring has room, in order; an epoch held for ring 18 that
does not fit is skipped whole; a ring past its service time is converted, and discards and counts what waits.
The model's choices: log entry 115. -/
def Obligations.RingsResumeDrainAndConvert : Prop :=
  (∀ (s : State) (n a : Nat) (e : Entry) (rest : List (Nat × Entry)), s.chip.awake = true → n ≠ 0 →
    (s.chip.ring n).active = .lossless → (s.chip.ring n).full = false →
    ((s.chip.ring n).waiting = (a, e) :: rest →
      Gives (.ringProduceResume n) s (fun c => (c.ring n).waiting = rest ∧ (c.ring n).head = (s.chip.ring n).head + 1 ∧
        (c.ring n).tail = (s.chip.ring n).tail)) ∧
    ((s.chip.ring n).held = (a, e) :: rest → n ≠ 18 →
      Gives (.holdingBufferDrain n) s (fun c => (c.ring n).held = rest ∧ (c.ring n).head = (s.chip.ring n).head + 1 ∧
        (c.ring n).tail = (s.chip.ring n).tail))) ∧
  (∀ (s : State) (a : Nat) (e : Entry) (rest : List (Nat × Entry)), s.chip.awake = true → (s.chip.ring 18).held = (a, e) :: rest →
    (s.chip.ring 18).size < (s.chip.ring 18).fill + ((s.chip.ring 18).held.take (1 + fld (ew e 0) 7 0)).length →
    Gives (.holdingBufferDrain 18) s (fun c => c.track.skip = s.chip.track.skip + 1 ∧
      (c.ring 18).held = (s.chip.ring 18).held.drop (1 + fld (ew e 0) 7 0) ∧
      (c.ring 18).drop = (s.chip.ring 18).drop + wd ((s.chip.ring 18).held.take (1 + fld (ew e 0) 7 0)).length)) ∧
  (∀ (s : State) (n : Nat), s.chip.awake = true → n ≠ 0 → (s.chip.ring n).active = .lossless → (s.chip.ring n).consumer = 0x0B →
    (s.chip.ring n).svc ≠ 0 → (s.chip.ring n).sizeLog2 ≠ 0 → (s.chip.ring n).full = true →
    ((s.chip.ring n).waiting ≠ [] ∨ (s.chip.ring n).held ≠ []) →
    Gives (.lossyConversion n) s (fun c => (c.ring n).lossy = true ∧ (c.ring n).active = .dropNewest ∧ (c.ring n).waiting = [] ∧
      (c.ring n).held = [] ∧ (c.ring n).drop = (s.chip.ring n).drop + wd ((s.chip.ring n).waiting.length + (s.chip.ring n).held.length)))

/-- 07 R309, R318-R323: the host consumes and publishes through RING_CONSUMEn and RING_PRODUCEn, whose results RING_OPSTATn shows; it acknowledges
ring 0 through RING_OBS_ACK, stages words beyond HEAD and reads a copy of the window. -/
def Obligations.HostConsumesPublishesAndReads : Prop :=
  (∀ (s : State) (n : Nat) (w : Word), s.chip.awake = true → s.chip.hostOpen = true → n < 64 → n < s.chip.rings.rings.length →
    ((s.chip.ring n).consumer ≠ 0x0B →
      Gives (.ringConsume n w) s (fun c => (c.ring n).opstat = 4 ∧ (c.ring n).tail = (s.chip.ring n).tail)) ∧
    ((s.chip.ring n).consumer = 0x0B → bit w 15 = true → (s.chip.ring n).tail.toNat ≠ fld w 31 16 →
      Gives (.ringConsume n w) s (fun c => (c.ring n).opstat = 1 ∧ (c.ring n).stale = true ∧ (c.ring n).tail = (s.chip.ring n).tail)) ∧
    ((s.chip.ring n).consumer = 0x0B → (bit w 15 = false ∨ (s.chip.ring n).tail.toNat = fld w 31 16) → (s.chip.ring n).fill < fld w 12 0 →
      Gives (.ringConsume n w) s (fun c => (c.ring n).opstat = 2 ∧ (c.ring n).tail = (s.chip.ring n).tail)) ∧
    ((s.chip.ring n).consumer = 0x0B → (bit w 15 = false ∨ (s.chip.ring n).tail.toNat = fld w 31 16) → fld w 12 0 ≤ (s.chip.ring n).fill →
      Gives (.ringConsume n w) s (fun c => (c.ring n).opstat = 0 ∧
        (c.ring n).tail = (s.chip.ring n).tail + BitVec.ofNat 16 (fld w 12 0) ∧ (c.ring n).head = (s.chip.ring n).head))) ∧
  (∀ (s : State) (n : Nat) (w : Word), s.chip.awake = true → s.chip.hostOpen = true → n < 64 → n < s.chip.rings.rings.length →
    ((s.chip.ring n).producer ≠ 0x0B →
      Gives (.ringProducePublish n w) s (fun c => (c.ring n).opstat = 4 ∧ (c.ring n).head = (s.chip.ring n).head)) ∧
    ((s.chip.ring n).producer = 0x0B → bit w 15 = true → (s.chip.ring n).head.toNat ≠ fld w 31 16 →
      Gives (.ringProducePublish n w) s (fun c => (c.ring n).opstat = 1 ∧ (c.ring n).stale = true ∧ (c.ring n).head = (s.chip.ring n).head)) ∧
    ((s.chip.ring n).producer = 0x0B → (bit w 15 = false ∨ (s.chip.ring n).head.toNat = fld w 31 16) → (s.chip.ring n).free < fld w 12 0 →
      Gives (.ringProducePublish n w) s (fun c => (c.ring n).opstat = 3 ∧ (c.ring n).head = (s.chip.ring n).head)) ∧
    ((s.chip.ring n).producer = 0x0B → (bit w 15 = false ∨ (s.chip.ring n).head.toNat = fld w 31 16) → fld w 12 0 ≤ (s.chip.ring n).free →
      Gives (.ringProducePublish n w) s (fun c => (c.ring n).opstat = 0 ∧
        (c.ring n).head = (s.chip.ring n).head + BitVec.ofNat 16 (fld w 12 0) ∧ (c.ring n).tail = (s.chip.ring n).tail))) ∧
  (∀ (s : State) (w : Word), s.chip.awake = true → s.chip.hostOpen = true →
    Gives (.ringObsAck w) s (fun c => c.rings.obsHost.index =
      s.chip.rings.obsHost.index + BitVec.ofNat 16 (min (fld w 12 0) (s.chip.behind s.chip.rings.obsHost)) ∧ c.rings.rings = s.chip.rings.rings)) ∧
  (∀ (s : State) (n i : Nat) (w : Word), s.chip.awake = true → s.chip.hostOpen = true → n < 64 → i < 256 →
    ((s.chip.ring n).producer = 0x0B → i / 8 < (s.chip.ring n).free →
      Gives (.ringWindowStage n i w) s (fun c =>
        c.entryAt ((s.chip.ring n).slot ((s.chip.ring n).head + BitVec.ofNat 16 (i / 8))) =
          (s.chip.entryAt ((s.chip.ring n).slot ((s.chip.ring n).head + BitVec.ofNat 16 (i / 8)))).set (i % 8) w ∧
        ∀ k, k ≠ (s.chip.ring n).slot ((s.chip.ring n).head + BitVec.ofNat 16 (i / 8)) → c.entryAt k = s.chip.entryAt k)) ∧
    (¬ ((s.chip.ring n).producer = 0x0B ∧ i / 8 < (s.chip.ring n).free) →
      Gives (.ringWindowStage n i w) s (fun c => c.rings = s.chip.rings))) ∧
  (∀ (s : State) (n first count : Nat), s.chip.awake = true → n < 64 → n < s.chip.rings.rings.length →
    Gives (.ringWindowRead n first count) s (fun c => c.rings.copied = s.chip.windowRead n first count ∧ (c.ring n).copying = true ∧
      (c.ring n).head = (s.chip.ring n).head ∧ (c.ring n).tail = (s.chip.ring n).tail))

/-- 07 R302, R308, R328-R331, R340, R346, R355, 03 R371: a descriptor's ARM, its waiting producer and consumer, the arbiter's grant of the highest
priority, the test harness, the mode controller's consumption of ring 0, and a system command.
The model's choices: log entries 115, 14. -/
def Obligations.DescriptorsArbiterAndConsumers : Prop :=
  (∀ (s : State) (n : Nat), s.chip.awake = true → s.chip.hostOpen = true → n < 64 → n < s.chip.rings.rings.length →
    (s.chip.ringCheck n ≠ 0 →
      Gives (.ringCfgArm n) s (fun c => c.ring n = { s.chip.ring n with result := s.chip.ringCheck n } ∧
        ∀ k, k ≠ n → c.ring k = s.chip.ring k)) ∧
    (s.chip.ringCheck n = 0 → s.chip.rf (0x0800 + 16 * n) 3 0 = (s.chip.ring n).sizeLog2 →
      Gives (.ringCfgArm n) s (fun c => (c.ring n).result = 0 ∧ (c.ring n).cls = ringClass (s.chip.rf (0x0800 + 16 * n) 5 4) ∧
        (c.ring n).svc = s.chip.rf (0x0801 + 16 * n) 13 0 ∧
        ((s.chip.ring n).fill = 0 → (c.ring n).producer = s.chip.rf (0x0800 + 16 * n) 14 8 ∧
          (c.ring n).consumer = s.chip.rf (0x0800 + 16 * n) 22 16) ∧
        ((s.chip.ring n).fill ≠ 0 → (c.ring n).producer = (s.chip.ring n).producer ∧ (c.ring n).consumer = (s.chip.ring n).consumer)))) ∧
  (∀ (s : State) (n : Nat) (p : Nat × Nat), s.chip.awake = true → (s.chip.ring n).pendAgents = some p →
    ((s.chip.ring n).fill = 0 →
      Gives (.ringCfgApply n) s (fun c => (c.ring n).producer = p.1 ∧ (c.ring n).consumer = p.2 ∧ (c.ring n).pendAgents = none)) ∧
    ((s.chip.ring n).fill ≠ 0 → Gives (.ringCfgApply n) s (fun c => c.ring n = s.chip.ring n))) ∧
  (∀ (s : State) (posted : List (Nat × Bool)) (qs : List ArbReq), s.chip.awake = true →
    qs = s.chip.rings.arb ++ newReqs s.chip.rings.arb posted → qs.any (fun q => !s.chip.reqShut qs q) = true →
    Gives (.arbiterGrant posted) s (fun c => ∃ g ∈ qs, c.rings.granted = some (g.ring, g.consume) ∧
      (∀ x ∈ qs, s.chip.reqShut qs x = false → s.chip.reqPrio g ≤ s.chip.reqPrio x) ∧ c.rings.arb.length < qs.length)) ∧
  (∀ (s : State) (n next : Nat), s.chip.awake = true → 60 ≤ n → n ≤ 63 → next = (if n = 63 then 60 else n + 1) →
    (s.chip.ring n).consumer = 0x13 → 0 < (s.chip.ring n).fill → (s.chip.ring next).producer = 0x13 → (s.chip.ring next).sizeLog2 ≠ 0 →
    (s.chip.ring next).full = false → (s.chip.ring next).copying = false →
    Gives (.testHarnessForward n) s (fun c => (c.ring n).tail = (s.chip.ring n).tail + 1 ∧ (c.ring next).head = (s.chip.ring next).head + 1)) ∧
  (∀ (s : State), s.chip.awake = true → (s.chip.ring 0).fill ≠ 0 → (s.chip.ring 0).held = [] →
    (entryClass (s.chip.entryAt ((s.chip.ring 0).slot (s.chip.ring 0).tail)) ≠ 2 →
      Gives .ring0Consume s (fun c => (c.ring 0).tail = (s.chip.ring 0).tail + 1 ∧ (c.ring 0).head = (s.chip.ring 0).head ∧
        c.modes = s.chip.modes)) ∧
    (∀ e, e = s.chip.entryAt ((s.chip.ring 0).slot (s.chip.ring 0).tail) → entryClass e = 2 → fld (ew e 0) 15 0 = 0x0A10 →
      s.chip.modes.transition ≠ none →
      Gives .ring0Consume s (fun c => (c.ring 0).tail = (s.chip.ring 0).tail + 1 ∧
        c.modes.queuedRule = some (fld (ew e 4) 3 0, fld (ew e 5) 7 0, fld (ew e 6) 1 0)))) ∧
  (∀ (s : State), s.chip.awake = true → s.chip.started = true → (s.chip.ring 4).fill ≠ 0 →
    Gives .systemCommand s (fun c => (c.ring 4).tail = (s.chip.ring 4).tail + 1))

/-! ### Rules and theft (08) -/

/-- 08 R386-R388: the theft state machine answers each request of RULE_THEFT_CMD as its table says, and the window of SUSPECT ends in ARMED. Entry into
DECLARED draws a challenge that is never 0.
The model's choices: log entry 2. -/
def Obligations.TheftStateFollowsItsTable : Prop :=
  (∀ (s : State), s.chip.awake = true → s.chip.started = true →
    (s.chip.keeper.theft = .disarmed → Gives .theftCmdArm s (fun c => c.keeper.theft = .armed ∧ c.keeper.score = 0)) ∧
    (s.chip.keeper.theft ≠ .disarmed → Gives .theftCmdArm s (fun c => c.keeper = s.chip.keeper))) ∧
  (∀ (s : State), s.chip.awake = true → s.chip.started = true →
    ((s.chip.keeper.theft = .armed ∨ s.chip.keeper.theft = .suspect) →
      Gives .theftCmdDisarm s (fun c => c.keeper.theft = .disarmed ∧ c.keeper.score = 0)) ∧
    ((s.chip.keeper.theft = .disarmed ∨ s.chip.keeper.theft = .declared) →
      Gives .theftCmdDisarm s (fun c => c.keeper = s.chip.keeper))) ∧
  (∀ (s : State) (w : Nat), s.chip.awake = true → s.chip.started = true → w ≠ 0 →
    (s.chip.keeper.theft = .armed → w < s.chip.rules.threshold →
      Gives (.theftCmdSuspect w) s (fun c => c.keeper.theft = .suspect ∧ c.keeper.score = w ∧ c.keeper.window = s.chip.rules.windowCfg)) ∧
    (s.chip.keeper.theft = .armed → s.chip.rules.threshold ≤ w →
      Gives (.theftCmdSuspect w) s (fun c => c.keeper.theft = .declared ∧ c.keeper.score = w ∧ c.keeper.theftNonce ≠ 0)) ∧
    (s.chip.keeper.theft = .suspect → s.chip.keeper.score + w < s.chip.rules.threshold →
      Gives (.theftCmdSuspect w) s (fun c => c.keeper.theft = .suspect ∧ c.keeper.score = s.chip.keeper.score + w ∧
        c.keeper.window = s.chip.keeper.window)) ∧
    (s.chip.keeper.theft = .suspect → s.chip.rules.threshold ≤ s.chip.keeper.score + w →
      Gives (.theftCmdSuspect w) s (fun c => c.keeper.theft = .declared ∧ c.keeper.score = s.chip.keeper.score + w ∧ c.keeper.theftNonce ≠ 0)) ∧
    ((s.chip.keeper.theft = .disarmed ∨ s.chip.keeper.theft = .declared) →
      Gives (.theftCmdSuspect w) s (fun c => c.keeper = s.chip.keeper))) ∧
  (∀ (s : State), s.chip.awake = true → s.chip.started = true →
    (s.chip.keeper.theft ≠ .declared →
      Gives .theftCmdDeclare s (fun c => c.keeper.theft = .declared ∧ c.keeper.score = s.chip.keeper.score ∧ c.keeper.theftNonce ≠ 0)) ∧
    (s.chip.keeper.theft = .declared → Gives .theftCmdDeclare s (fun c => c.keeper = s.chip.keeper))) ∧
  (∀ (s : State), s.chip.awake = true → s.chip.keeper.theft = .suspect → s.chip.keeper.window = 0 →
    Gives .theftWindowExpired s (fun c => c.keeper.theft = .armed ∧ c.keeper.score = 0))

/-- 08 R392-R394: a signed clear is answered in RULE_CLEAR_CTL.RESULT, an accepted one waits for its ring-2 entry, and a new challenge is drawn; the state
changes in the sweep of that entry.
The model's choices: log entry 6. -/
def Obligations.SignedClearsDisarmOrRearm : Prop :=
  (∀ (s : State) (cmd : List Byte), s.chip.awake = true → s.chip.keeper.theft = .declared → cmd.getD 3 0 = 0 →
    s.chip.commandCheck cmd 144 0x54 0x43 s.chip.keeper.theftNonce 16 true = 1 →
    (cmd.getD 2 0 = 1 → Gives (.theftClearDisarm (some cmd)) s (fun c => c.rf 0x0CE8 3 0 = 1 ∧
      c.rules.clearTo = s.chip.rules.clearTo ++ [.disarmed] ∧ c.keeper.theft = .declared ∧ c.keeper.theftNonce ≠ 0)) ∧
    (cmd.getD 2 0 = 2 → Gives (.theftClearArm (some cmd)) s (fun c => c.rf 0x0CE8 3 0 = 1 ∧
      c.rules.clearTo = s.chip.rules.clearTo ++ [.armed] ∧ c.keeper.theft = .declared ∧ c.keeper.theftNonce ≠ 0))) ∧
  (∀ (s : State) (cmd : List Byte), s.chip.awake = true → s.chip.keeper.theft ≠ .declared →
    Gives (.theftClearDisarm (some cmd)) s (fun c => c.rf 0x0CE8 3 0 = 0xA ∧ c.rules.clearTo = s.chip.rules.clearTo) ∧
    Gives (.theftClearArm (some cmd)) s (fun c => c.rf 0x0CE8 3 0 = 0xA ∧ c.rules.clearTo = s.chip.rules.clearTo)) ∧
  (∀ (s : State) (st : TheftState) (rest : List TheftState), s.chip.awake = true → s.chip.sweeping = true → s.chip.headCommand = some 2 →
    s.chip.rules.clearTo = st :: rest → s.chip.keeper.theft = .declared → s.chip.rules.pendingSets = [] → s.chip.rules.order = [] →
    Gives .theftClearApply s (fun c => c.keeper.theft = st ∧ c.keeper.score = 0 ∧ c.rules.clearTo = rest))

/-- 08 R355-R360, R366, R374: a sweep consumes the entry at the head of ring 2 and evaluates the rules in load order: a condition rule whose terms are
true fires once, is armed again when they are false, and does not fire outside its guard; FIRE runs the actions of its rule; a counted
timer stops and becomes pending; the host's event goes to ring 2.
The model's choices: log entry 67. -/
def Obligations.RulesAreSweptAndTimed : Prop :=
  (∀ (s : State) (n t : Nat) (r : Rule), s.chip.awake = true → s.chip.sweeping = true → s.chip.held = false →
    s.chip.behind s.chip.rings.obsRule = 0 → s.chip.rules.pendingSets = [] → (s.chip.ring 2).fill ≠ 0 → s.chip.headCommand = none →
    s.chip.rules.order = [n] → s.chip.rules.rules.getD n {} = r → n < s.chip.rules.fired.length → FlagRule r t → t < 8 →
    r.condition = true → r.hold = 0 →
    (s.chip.termResult r = true → s.chip.rules.fired.getD n false = false → r.guard.testBit s.chip.mode = true →
      Gives .ruleSweep s (fun c => c.rules.fired.getD n false = true ∧ c.rules.flags.getLsbD t = true)) ∧
    (s.chip.termResult r = true → (s.chip.rules.fired.getD n false = true ∨ r.guard.testBit s.chip.mode = false) →
      Gives .ruleSweep s (fun c => c.rules = s.chip.rules ∧ (c.ring 2).tail = (s.chip.ring 2).tail + 1)) ∧
    (s.chip.termResult r = false →
      Gives .ruleSweep s (fun c => c.rules.fired.getD n false = false ∧ c.rules.flags = s.chip.rules.flags ∧
        (c.ring 2).tail = (s.chip.ring 2).tail + 1))) ∧
  (∀ (s : State) (n t : Nat) (r : Rule), s.chip.awake = true → s.chip.sweeping = true → s.chip.held = false →
    s.chip.rules.pendingSets = [] → s.chip.headCommand = some 1 →
    (ew (s.chip.entryAt ((s.chip.ring 2).slot (s.chip.ring 2).tail)) 1).toNat = n → s.chip.rules.order = [n] →
    s.chip.rules.rules.getD n {} = r → FlagRule r t → t < 8 →
    (r.guard.testBit s.chip.mode = true → Gives .ruleFire s (fun c => c.rules.flags.getLsbD t = true)) ∧
    (r.guard.testBit s.chip.mode = false → Gives .ruleFire s (fun c => c.rules = s.chip.rules))) ∧
  (∀ (s : State) (t : Nat), s.chip.awake = true → t < 64 → (s.chip.keeper.timers.getD t {}).running = true →
    (s.chip.keeper.timers.getD t {}).remain = 0 →
    Gives (.ruleTimerExpired t) s (fun c => (c.keeper.timers.getD t {}).running = false ∧
      c.keeper.pending.any (fun p => p.source == 0x0100 + t) = true) ∧
    (s.chip.rules.rules.any (fun r => decide (r.timer = some t)) = true →
      Gives (.holdTimerExpired t) s (fun c => (c.keeper.timers.getD t {}).running = false ∧
        c.keeper.pending.any (fun p => p.source == 0x0100 + t) = true))) ∧
  (∀ (s : State) (i : Nat), s.chip.awake = true → s.chip.hostOpen = true →
    Gives (.ruleHostEvt i) s (fun c => c.rings = (s.chip.event 0x0B 0x11 (i % 256) 0).rings))

/-- 08 R380, R382, R395-R397, R405: an edit, the enables, a meter value, a fence, the watch sources and the theft settings: the check's result is
shown, an accepted set waits for the end of the sweep, and applies between two sweeps.
The model's choices: log entries 62, 63. -/
def Obligations.RuleTableIsEditedBetweenSweeps : Prop :=
  (∀ (s : State) (n : Nat) (bs : List Byte) (r : Rule), s.chip.awake = true → s.chip.hostOpen = true → n = s.chip.rf 0x0C20 7 0 →
    bs = s.chip.bufBytes 0x0C21 9 → r = { Rule.ofBytes bs with en := (s.chip.projected.1.getD n {}).en } →
    (ruleForm bs = true → tableCheck s.chip.projected.2 (s.chip.projected.1.set n r) = (0, 0) →
      Gives .ruleEditArm s (fun c => c.rules.pendingSets = s.chip.rules.pendingSets ++ [.edit n r] ∧ c.rules.checkResult = 0)) ∧
    (ruleForm bs = false →
      Gives .ruleEditArm s (fun c => c.rules.pendingSets = s.chip.rules.pendingSets ∧ c.rules.checkResult = 4 ∧ c.rules.checkRule = n))) ∧
  (∀ (s : State) (en : List Bool) (p : Nat × Nat), s.chip.awake = true → s.chip.hostOpen = true →
    en = (List.range 256).map (fun n => bit (s.chip.reg (0x0C08 + n / 32)) (n % 32)) →
    p = tableCheck s.chip.projected.2 (s.chip.projected.1.mapIdx (fun n r => { r with en := en.getD n false })) →
    Gives .ruleEnArm s (fun c => c.rules.checkResult = p.1 ∧ c.rules.checkRule = p.2 ∧
      (p.1 = 0 → c.rules.pendingSets = s.chip.rules.pendingSets ++ [.enables en]) ∧
      (p.1 ≠ 0 → c.rules.pendingSets = s.chip.rules.pendingSets))) ∧
  (∀ (s : State), s.chip.awake = true → s.chip.hostOpen = true → s.chip.rf 0x0C61 3 0 < s.chip.keeper.meters.length →
    ((s.chip.reg 0x0C62).toNat ≤ meterCeil →
      Gives .ruleMeterArm s (fun c => (c.meter (s.chip.rf 0x0C61 3 0)).pendingSet = some (s.chip.reg 0x0C62).toNat ∧ c.rf 0x0C63 3 0 = 0)) ∧
    (meterCeil < (s.chip.reg 0x0C62).toNat → Gives .ruleMeterArm s (fun c => c.keeper = s.chip.keeper ∧ c.rf 0x0C63 3 0 = 5))) ∧
  (∀ (s : State) (m v : Nat), s.chip.awake = true → m < 16 → (s.chip.meter m).pendingSet = some v →
    Gives .meterSetApply s (fun c => (c.meter m).count = v ∧ (c.meter m).pendingSet = none ∧ (c.meter m).committed = v)) ∧
  (∀ (s : State), s.chip.awake = true → s.chip.hostOpen = true →
    (fenceMalformed (s.chip.bufBytes 0x0C81 35) = false →
      Gives .ruleFenceArm s (fun c => c.rules.pendingSets =
        s.chip.rules.pendingSets ++ [.fence (s.chip.rf 0x0C80 3 0) (Fence.ofBytes (s.chip.bufBytes 0x0C81 35))])) ∧
    (fenceMalformed (s.chip.bufBytes 0x0C81 35) = true →
      Gives .ruleFenceArm s (fun c => c.rules = s.chip.rules ∧ c.rf 0x0CA4 3 0 = 4))) ∧
  (∀ (s : State) (src : List Word), s.chip.awake = true → s.chip.hostOpen = true → src = (List.range 8).map (fun i => s.chip.reg (0x0C70 + i)) →
    (src.all (fun w => decide (fld w 12 8 ≤ 16)) = true → (loadOrder (watchMods src) s.chip.projected.1).2 = none →
      Gives .ruleWatchArm s (fun c => c.rules.pendingSets = s.chip.rules.pendingSets ++ [.watch src])) ∧
    (src.any (fun w => decide (16 < fld w 12 8)) = true → Gives .ruleWatchArm s (fun c => c.rules = s.chip.rules))) ∧
  (∀ (s : State), s.chip.awake = true → s.chip.hostOpen = true → 10 ≤ s.chip.rf 0x0CC1 27 16 → s.chip.rf 0x0CC1 27 16 ≤ 3600 →
    s.chip.rf 0x0CC1 3 0 ≠ 0 →
    Gives .ruleTheftCfgArm s (fun c => c.rules.pendingSets = s.chip.rules.pendingSets ++
      [.theft (s.chip.rf 0x0CC1 3 0) (s.chip.rf 0x0CC1 27 16) (bit (s.chip.reg 0x0CC1) 28)])) ∧
  (∀ (s : State), s.chip.awake = true →
    (∀ th w l, s.chip.rules.pendingSets = [.theft th w l] →
      Gives .ruleSetApply s (fun c => c.rules.threshold = th ∧ c.rules.windowCfg = w ∧ c.rules.lapseArmed = l ∧ c.rules.pendingSets = [])) ∧
    (∀ n r, s.chip.rules.pendingSets = [.edit n r] →
      Gives .ruleSetApply s (fun c => c.rules.rules = s.chip.rules.rules.set n r ∧
        c.rules.order = (loadOrder (watchMods s.chip.rules.watchSrc) (s.chip.rules.rules.set n r)).1 ∧ c.rules.pendingSets = [])))

/-! ### The front end (09, 10, 11) -/

/-- 09 R423-R428, R442, 10 R460, R462, R466-R468, 09 R410: a round start that finds its round running is late; one that finds none begins
the round at FIRST, whose slot runs or waits. A sample that is not settled fills no entry; a settled one does, with its tags. A fast-path value goes
to its ring at once. An overload restarts settling and is counted. A set armed during a round waits, a refused one shows its result, and an
accepted one opens or closes the sequence.
The model's choices: log entries 70, 71, 72. -/
def Obligations.SequencersRunTheirSlots : Prop :=
  (∀ (s : State) (m : Nat) (w : Word), s.chip.awake = true → m < 4 → (s.chip.seq m).opened = true → (s.chip.seq m).suspended = false →
    s.chip.converterOn = true → w = s.chip.slotWord m (s.chip.seq m).first →
    ((s.chip.seq m).round = true → Gives (.seqRoundStart m) s (fun c =>
      c.seq m = { s.chip.seq m with late := satAdd 255 (s.chip.seq m).late 1, due := (s.chip.seq m).due + 1 } ∧ c.rings = s.chip.rings)) ∧
    ((s.chip.seq m).round = false → (s.chip.seq m).listening = false → (s.chip.seq m).listenDue = false → s.chip.burnish.under = false →
      s.chip.slotSkipped w = false → s.chip.armedSet (0x1200 + m) = none →
      ((s.chip.newRound m).slotFree m w = true → Gives (.seqRoundStart m) s (fun c => (c.seq m).round = true ∧ (c.seq m).waiting = false ∧
        (c.seq m).slot = (s.chip.seq m).first ∧ (c.seq m).rounds = (s.chip.seq m).rounds + 1 ∧ (c.seq m).taken = 0 ∧
        (c.seq m).sinceRestart = 0)) ∧
      ((s.chip.newRound m).slotFree m w = false → Gives (.seqRoundStart m) s (fun c => (c.seq m).round = true ∧ (c.seq m).waiting = true ∧
        (c.seq m).slot = (s.chip.seq m).first)))) ∧
  (∀ (s : State) (m : Nat) (x : Int) (sat : Bool) (w : Word) (q : Sequencer), s.chip.awake = true → m < 4 → s.chip.converting m = some w →
    q = s.chip.seq m → (s.chip.chain m).swapPending = false → q.pendingOpen = none →
    (q.sinceRestart + 1 < settleCount (slotPreset w) → s.chip.runB (0x1200 + m) 8 = false →
      Gives (.chainSample m x sat) s (fun c => (c.seq m).sinceRestart = q.sinceRestart + 1 ∧ (c.seq m).taken = q.taken ∧
        (c.seq m).samples = q.samples ∧ c.rings = s.chip.rings)) ∧
    (settleCount (slotPreset w) ≤ q.sinceRestart + 1 → q.awlSpan = 0 → q.taken + 1 < slotRepeat w → q.samples.length < 3 →
      Gives (.chainSample m x sat) s (fun c => (c.seq m).taken = q.taken + 1 ∧ (c.seq m).index = q.index + 1 ∧
        ∃ tags : Nat, tags < 256 ∧ tags.testBit 5 = true ∧ tags.testBit 0 = false ∧ (sat = true → tags.testBit 2 = true) ∧
          (c.seq m).samples = q.samples ++
            [sampleWord (if slotPreset w = 4 then sx 24 (ux 24 x) else s.chip.corrected m w x) tags]))) ∧
  (∀ (s : State) (m : Nat) (x : Int) (w : Word), s.chip.awake = true → m < 4 → s.chip.converting m = some w →
    Gives (.fastPathValue m x) s (fun c => (c.seq m).fastEseq = (s.chip.seq m).fastEseq + 1 ∧
      c.rings = (s.chip.produce 0x04 (12 + m) (s.chip.sampleEntry m (s.chip.seq m).fastEseq 0
        [sampleWord (s.chip.corrected m w x / 4096 * 4096)
          (128 + b2n (s.chip.chain m).activeB * 64 + b2n (decide ((s.chip.seq m).tbGap ≠ 0)) * 16)])).rings) ∧
    Gives (.modOverload m) s (fun c => (c.seq m).sinceRestart = 0 ∧ (c.seq m).ovlSpan = settleCount (slotPreset w) ∧
      c.rf (0x1008 + m) 31 16 = satAdd 65535 (s.chip.rf (0x1008 + m) 31 16) 1 ∧ c.rf (0x1008 + m) 0 0 = 1)) ∧
  (∀ (s : State) (m res : Nat) (ws : List (Nat × Word)), s.chip.awake = true → s.chip.hostOpen = true → m < 4 → s.chip.silent 0 = false →
    res = seqCheck (fun i => s.chip.reg (0x1100 + 64 * m + i)) (s.chip.rf (0x1000 + m) 13 8) (s.chip.rf (0x1000 + m) 27 16) →
    ws = s.chip.shadow (0x1000 + m) 1 ++ s.chip.shadow (0x1100 + 64 * m) 64 →
    ((s.chip.seq m).round = true → res ≠ 0 → Gives (.seqArm m) s (fun c => c.run = s.chip.run ∧ c.seqs = s.chip.seqs ∧
      c.rf (0x1004 + m) 7 4 = res)) ∧
    ((s.chip.seq m).round = true → res = 0 → Gives (.seqArm m) s (fun c => c.run = s.chip.run ∧ c.seqs = s.chip.seqs ∧
      c.armedSet (0x1000 + m) = some { arm := 0x1000 + m, words := ws } ∧ c.rf (0x1004 + m) 7 4 = 0)) ∧
    ((s.chip.seq m).round = false → res = 0 → s.chip.live 0 = true → (s.chip.seq m).opened = false →
      ((s.chip.applyWords ws).runB (0x1000 + m) 0 = false → Gives (.seqArm m) s (fun c => c.run = (s.chip.applyWords ws).run ∧
        (c.seq m).opened = false)) ∧
      (m < s.chip.seqs.length → (s.chip.applyWords ws).runB (0x1000 + m) 0 = true → s.chip.converterOn = false →
        Gives (.seqArm m) s (fun c => (c.seq m).opened = true ∧ (c.seq m).suspended = true ∧
          (c.seq m).first = fld (mget 0 ws (0x1000 + m)) 13 8 ∧ (c.seq m).period = fld (mget 0 ws (0x1000 + m)) 27 16))))

/-- 09 R434-R439, R447, R415-R419, R444: the run-signature windows and their confidence; the comparators of the field inputs and of FIGN follow two
agreeing samples; the sets of both apply.
The model's choices: log entries 77, 2. -/
def Obligations.RunSignatureAndFieldInputsAreClassified : Prop :=
  (∀ (s : State) (m : Nat), s.chip.awake = true → s.chip.runB 0x1010 30 = true → s.chip.converterOn = true → m = s.chip.runF 0x1010 29 28 →
    m < s.chip.seqs.length →
    (s.chip.converting m = none → (s.chip.seq m).stolen = false →
      Gives .runListenWindow s (fun c => (c.seq m).listening = true ∧ (c.seq m).waiting = false)) ∧
    ((s.chip.converting m).isSome = true → Gives .runListenWindow s (fun c => (c.seq m).listenDue = true))) ∧
  (∀ (s : State) (freq amp vib m l : Nat), s.chip.awake = true → m = s.chip.runF 0x1010 29 28 → (s.chip.seq m).listening = true →
    (s.chip.seq m).round = false → s.chip.armedSet 0x1010 = none →
    l = s.chip.runLevel (((freq, amp, vib) :: s.chip.runSig.history).take 8) →
    Gives (.runWindowEnd freq amp vib) s (fun c => (c.seq m).listening = false ∧ c.runSig.freq = freq ∧ c.runSig.amp = amp ∧
      (s.chip.runSig.conf ≤ l → c.runSig.conf = l) ∧
      (l < s.chip.runSig.conf → s.chip.runSig.fails = 0 → c.runSig.conf = s.chip.runSig.conf ∧ c.runSig.fails = 1) ∧
      (l < s.chip.runSig.conf → s.chip.runSig.fails = 1 → c.runSig.conf = l))) ∧
  (∀ (s : State), s.chip.awake = true → s.chip.hostOpen = true →
    (s.chip.silent 0 = false → s.chip.rf 0x1011 15 0 < 200 →
      Gives .runCfgArm s (fun c => c.rf 0x1015 3 0 = 6 ∧ c.run = s.chip.run ∧ c.runSig = s.chip.runSig)) ∧
    (s.chip.live 0 = true → s.chip.seqs.any (fun q => q.listening) = false → 200 ≤ s.chip.rf 0x1011 15 0 →
      s.chip.rf 0x1011 15 0 < s.chip.rf 0x1011 31 16 → s.chip.rf 0x1011 31 16 ≤ 12000 → 1 ≤ s.chip.rf 0x1010 27 22 →
      s.chip.rf 0x1010 27 22 ≤ 60 → 1 ≤ s.chip.rf 0x1012 15 0 → s.chip.rf 0x1012 15 0 ≤ 2000 →
      Gives .runCfgArm s (fun c => c.run = (s.chip.applyWords (s.chip.shadow 0x1010 3)).run ∧ c.runSig.conf = 0 ∧ c.runSig.history = []))) ∧
  (∀ (s : State) (i : Nat) (mv : Int) (b : BitVec 8), s.chip.awake = true → ffPowered s.chip.mode = true → i < 8 →
    s.chip.runB (0x1C10 + i) 0 = true → b = BitVec.ofNat 8 (2 ^ i) →
    (s.chip.fin.state.getLsbD i = false → ((s.chip.runF (0x1C10 + i) 31 24 : Nat) : Int) * 250 < mv →
      (s.chip.fin.lastDiffers.getLsbD i = false → Gives (.finSample i mv) s (fun c =>
        c.fin = { s.chip.fin with lastDiffers := s.chip.fin.lastDiffers ||| b } ∧ c.rings = s.chip.rings)) ∧
      (s.chip.fin.lastDiffers.getLsbD i = true → Gives (.finSample i mv) s (fun c =>
        c.fin.state = s.chip.fin.state ^^^ b ∧ c.reg 0x1C1A = s.chip.reg 0x1C1A ||| wd (2 ^ i)))) ∧
    (s.chip.fin.state.getLsbD i = true → mv < ((s.chip.runF (0x1C10 + i) 23 16 : Nat) : Int) * 250 → s.chip.fin.lastDiffers.getLsbD i = true →
      Gives (.finSample i mv) s (fun c => c.fin.state = s.chip.fin.state ^^^ b)) ∧
    (s.chip.fin.state.getLsbD i = false → mv ≤ ((s.chip.runF (0x1C10 + i) 31 24 : Nat) : Int) * 250 →
      Gives (.finSample i mv) s (fun c => c.fin.state = s.chip.fin.state ∧ c.rings = s.chip.rings))) ∧
  (∀ (s : State) (mv : Int), s.chip.awake = true →
    (s.chip.fin.fign = false → 5000 < mv → s.chip.fin.fignDiffers = true → Gives (.fignSample mv) s (fun c => c.fin.fign = true ∧
      c.keeper.pending.any (fun p => p.source == 0x0400) = true)) ∧
    (s.chip.fin.fign = true → mv < 3000 → s.chip.fin.fignDiffers = true → Gives (.fignSample mv) s (fun c => c.fin.fign = false)) ∧
    (3000 ≤ mv → mv ≤ 5000 → Gives (.fignSample mv) s (fun c => c.fin = { s.chip.fin with fignDiffers := false } ∧ c.rings = s.chip.rings))) ∧
  (∀ (s : State), s.chip.awake = true → s.chip.hostOpen = true → s.chip.silent 2 = false →
    ((List.range 8).any (fun i => finBad (s.chip.reg (0x1C10 + i))) = true →
      Gives .finCfgArm s (fun c => c.rf 0x1C19 19 16 = 6 ∧ c.run = s.chip.run)) ∧
    ((List.range 8).all (fun i => !finBad (s.chip.reg (0x1C10 + i))) = true → (List.range 8).all (fun i => !s.chip.finConverted i) = true →
      s.chip.live 2 = true → Gives .finCfgArm s (fun c => c.rf 0x1C19 19 16 = 0 ∧ c.run = (s.chip.applyWords (s.chip.shadow 0x1C10 9)).run)))

/-- 11 R517-R520, 10 R456, R471-R473, R494: an awl test leaves its results, its class and, at a fault, its bit; the awl and filter sets apply or wait
for their slot; a bank swap waits for the sample boundary of a slot that runs, and the data window writes the inactive bank at its pointer, both
refused on a bank held by a burnish.
The model's choices: log entry 76. -/
def Obligations.AwlTestsFiltersAndBanksFollowTheirRules : Prop :=
  (∀ (s : State) (m p k cls : Nat) (v0 v1 v2 : Int) (w : Word), s.chip.awake = true → m < 4 → s.chip.converting m = some w →
    (s.chip.seq m).awl = true → s.chip.girth.converterCut = false → p = slotPos w → p < 24 →
    k = s.chip.runF (0x1308 + p / 16) (2 * (p % 16) + 1) (2 * (p % 16)) →
    cls = awlClass (slotAwl w) (fld (s.chip.runW (0x1300 + 2 * k)) 31 16) (fld (s.chip.runW (0x1300 + 2 * k)) 15 0)
      (sx 16 (fld (s.chip.runW (0x1301 + 2 * k)) 31 16)) (sx 16 (fld (s.chip.runW (0x1301 + 2 * k)) 15 0)) v0 v1 v2 →
    Gives (.awlTestEnd m v0 v1 v2) s (fun c => (c.seq m).awl = false ∧ c.rf (0x1328 + p / 8) (4 * (p % 8) + 3) (4 * (p % 8)) = cls ∧
      c.reg (0x1310 + p) = wd (ux 16 (clampI (-32768) 32767 (v1 - v0)) * 65536 + ux 16 (clampI (-32768) 32767 (divRound v0 10))) ∧
      (cls = 1 → c.rings = s.chip.rings) ∧ (cls ≠ 1 → c.rf 0x132B p p = 1))) ∧
  (∀ (s : State), s.chip.awake = true → s.chip.hostOpen = true → s.chip.live 0 = true →
    Gives .awlCtlArm s (fun c => c.run = (s.chip.applyWords (s.chip.shadow 0x1300 10)).run ∧ c.rf 0x130A 3 0 = 0)) ∧
  (∀ (s : State) (m : Nat), s.chip.awake = true → s.chip.hostOpen = true → m < 4 → s.chip.silent 0 = false →
    (s.chip.rf (0x1200 + m) 23 16 ≠ 0 → shiftBad (s.chip.reg (0x1204 + m)) = false → Gives (.fltCtlArm m) s (fun c => c.run = s.chip.run ∧
      c.armedSet (0x1200 + m) = some { arm := 0x1200 + m, words := s.chip.shadow (0x1200 + m) 1 ++ s.chip.shadow (0x1204 + m) 1 } ∧
      c.rf (0x1208 + m) 31 28 = 0)) ∧
    (s.chip.rf (0x1200 + m) 23 16 ≠ 0 → shiftBad (s.chip.reg (0x1204 + m)) = true → Gives (.fltCtlArm m) s (fun c => c.run = s.chip.run ∧
      c.girth.armed = s.chip.girth.armed ∧ c.rf (0x1208 + m) 31 28 = 6))) ∧
  (∀ (s : State) (m : Nat), s.chip.awake = true → s.chip.hostOpen = true → m < 4 → m < s.chip.chains.length → s.chip.live 0 = true →
    ((s.chip.chain m).held = false → (s.chip.converting m).isSome = true →
      Gives (.fltSwap (2 ^ m)) s (fun c => c.chain m = { s.chip.chain m with swapPending := true })) ∧
    ((s.chip.chain m).held = false → s.chip.converting m = none →
      Gives (.fltSwap (2 ^ m)) s (fun c => (c.chain m).activeB = !(s.chip.chain m).activeB)) ∧
    ((s.chip.chain m).held = true → Gives (.fltSwap (2 ^ m)) s (fun c => c.chains = s.chip.chains ∧ c.rf (0x1208 + m) 0 0 = 1))) ∧
  (∀ (s : State) (m : Nat), s.chip.awake = true → (s.chip.chain m).swapPending = true →
    Gives (.bankSwap m) s (fun c => c.chain m = { s.chip.chain m with activeB := !(s.chip.chain m).activeB, swapPending := false })) ∧
  (∀ (s : State) (w : Word) (m i : Nat), s.chip.awake = true → s.chip.hostOpen = true → s.chip.live 0 = true → m = s.chip.rf 0x1210 9 8 →
    i = s.chip.rf 0x1210 7 0 → m < s.chip.chains.length →
    ((s.chip.chain m).held = false → i < 136 → Gives (.fltBankData w) s (fun c => (c.chain m).inactive = (s.chip.chain m).inactive.set i w ∧
      (c.chain m).active = (s.chip.chain m).active ∧ c.rf 0x1210 7 0 = i + 1)) ∧
    (((s.chip.chain m).held = true ∨ 136 ≤ i) → Gives (.fltBankData w) s (fun c => c.chains = s.chip.chains ∧ c.rf (0x1208 + m) 1 1 = 1)))

/-! ### Excitation, monitor, pin checks and burnish (10, 11) -/

/-- 11 R499-R506, R512-R514, R521-R525, R532: a code moves a driven channel at once or after a deglitch hold; a channel in current limit is cut and
its fault bit set; the sets of a channel, of the monitor and of the pin checks; a scan stores its readings and reports the second failure of a window;
the checks of FIGN.
The model's choices: log entry 75. -/
def Obligations.ExcitationMonitorAndPinChecksFollowTheirRules : Prop :=
  (∀ (s : State) (ch code d : Nat), s.chip.awake = true → s.chip.hostOpen = true → s.chip.live 0 = true → ch < 4 → ch < s.chip.exc.length →
    d = ((s.chip.setReg (0x1804 + ch) (wd (code % 65536))).excDrive ch).1 →
    (s.chip.excWanted ch = false → Gives (.excCodeWrite ch code) s (fun c => c.reg (0x1804 + ch) = wd (code % 65536) ∧ (c.excCh ch).driven = false)) ∧
    (s.chip.excWanted ch = true → Gives (.excCodeWrite ch code) s (fun c => c.reg (0x1804 + ch) = wd (code % 65536) ∧ (c.excCh ch).driven = true ∧
      ((s.chip.excCh ch).driven = false → (c.excCh ch).drive = d ∧ (c.excCh ch).hold = false) ∧
      ((s.chip.excCh ch).driven = true → (s.chip.excCh ch).hold = false → d / 4096 = (s.chip.excCh ch).drive / 4096 →
        (c.excCh ch).drive = d ∧ (c.excCh ch).hold = false) ∧
      ((s.chip.excCh ch).driven = true → (s.chip.excCh ch).hold = false → d / 4096 ≠ (s.chip.excCh ch).drive / 4096 →
        (c.excCh ch).drive = (s.chip.excCh ch).drive ∧ (c.excCh ch).hold = true) ∧
      ((s.chip.excCh ch).driven = true → (s.chip.excCh ch).hold = true →
        (c.excCh ch).drive = (s.chip.excCh ch).drive ∧ (c.excCh ch).hold = true)))) ∧
  (∀ (s : State) (ch mv : Nat), s.chip.awake = true → ch < 4 →
    ((s.chip.excCh ch).hold = true → s.chip.armedSet (0x1800 + ch) = none →
      Gives (.deglitchEnd ch) s (fun c => c.excCh ch = { s.chip.excCh ch with hold := false, drive := (s.chip.excDrive ch).1 })) ∧
    ((s.chip.excCh ch).driven = true →
      Gives (.excCut ch mv) s (fun c => c.excCh ch = { s.chip.excCh ch with driven := false, hold := false, cut := true } ∧
        c.rf 0x1809 (4 * ch) (4 * ch) = 1))) ∧
  (∀ (s : State) (ch : Nat), s.chip.awake = true → s.chip.hostOpen = true → ch < 4 → s.chip.silent 0 = false →
    ((s.chip.rf (0x1800 + ch) 23 16 = 0 ∨ 200 < s.chip.rf (0x1800 + ch) 23 16) →
      Gives (.excCfgArm ch) s (fun c => c.rf 0x1808 31 28 = 6 ∧ c.run = s.chip.run ∧ c.exc = s.chip.exc)) ∧
    (s.chip.rf (0x1800 + ch) 23 16 ≠ 0 → s.chip.rf (0x1800 + ch) 23 16 ≤ 200 → s.chip.rf (0x1800 + ch) 9 8 ≠ 3 → (s.chip.excCh ch).driven = false →
      s.chip.live 0 = true → (s.chip.excCh ch).hold = false →
      Gives (.excCfgArm ch) s (fun c => c.rf 0x1808 31 28 = 0 ∧
        c.run = (s.chip.applyWords [(0x1800 + ch, s.chip.reg (0x1800 + ch)), (0x180C + ch, s.chip.reg (0x180C + ch))]).run))) ∧
  (∀ (s : State) (codes mvs : List Nat) (ex i : Nat), s.chip.awake = true → s.chip.converterOn = true → s.chip.girth.converterCut = false →
    i < 16 → s.chip.runB 0x1901 i = true →
    Gives (.monScan codes mvs ex) s (fun c => c.reg (0x1910 + i) = wd ((mvs.getD i 0 % 65536) * 65536 + codes.getD i 0 % 4096) ∧
      (4 ≤ i → ex.testBit i = false → s.chip.mon.failed.getLsbD i = true → (s.chip.monFails i (mvs.getD i 0)).isSome = true → c.rf 0x1902 i i = 1) ∧
      (4 ≤ i → s.chip.monFails i (mvs.getD i 0) = none → c.mon.failed.getLsbD i = false))) ∧
  (∀ (s : State), s.chip.awake = true → s.chip.hostOpen = true →
    (s.chip.live 0 = true → Gives .monCtlArm s (fun c => c.run = (s.chip.applyWords (s.chip.shadow 0x1900 2)).run)) ∧
    (s.chip.live 2 = true → Gives .fldPinArm s (fun c => c.run = (s.chip.applyWords (s.chip.shadow 0x1C20 1)).run))) ∧
  (∀ (s : State) (mv : Int), s.chip.awake = true →
    (s.chip.runB 0x1C20 1 = true → s.chip.fin.fign = false → 2000 < mv → Gives (.fignOpenCheck mv) s (fun c => c.rf 0x1C21 8 8 = 1)) ∧
    (mv ≤ 2000 → Gives (.fignOpenCheck mv) s (fun c => c.regs = s.chip.regs)) ∧
    (s.chip.fin.fign = true → s.chip.power.fvinPresent = false → Gives .fignSuspect s (fun c => c.rf 0x1C21 9 9 = 1)))

/-- 10 R474-R483, R493, R510: a burnish request is answered in CAL_STAT.REQ_RESULT; one accepted lists its steps; each step that ends leaves the list
with its result, and the burnish is abandoned for a result out of range and done when no step is left.
The model's choices: log entry 73. -/
def Obligations.BurnishRunsItsSteps : Prop :=
  (∀ (s : State) (target mask : Nat), s.chip.awake = true → s.chip.hostOpen = true →
    ((mask % 16 = 0 ∨ 8 ≤ target) → Gives (.burnishRequest target mask) s (fun c => c.burnish = { s.chip.burnish with reqResult := 3 })) ∧
    (mask % 16 ≠ 0 → target < 8 → s.chip.converterOn = false →
      Gives (.burnishRequest target mask) s (fun c => c.burnish = { s.chip.burnish with reqResult := 2 })) ∧
    (mask % 16 ≠ 0 → target < 8 → s.chip.converterOn = true → s.chip.held = false → s.chip.burnish.under = false →
      Gives (.burnishRequest target mask) s (fun c => c.burnish.reqResult = 0 ∧ c.burnish.under = true ∧ c.burnish.target = target ∧
        c.burnish.mask = mask % 16 ∧ c.burnish.left = s.chip.burnishSteps (target % 4) (mask % 16) ∧ c.burnish.done = [])) ∧
    (mask % 16 ≠ 0 → target < 8 → s.chip.converterOn = true → s.chip.held = false → s.chip.burnish.under = true →
      Gives (.burnishRequest target mask) s (fun c => c.burnish.reqResult = 1 ∧ c.burnish.under = true ∧
        c.burnish.mask = (s.chip.burnish.mask ||| mask % 16) ∧
        c.burnish.target = 4 * (s.chip.burnish.target / 4 ||| target / 4) + max (s.chip.burnish.target % 4) (target % 4)))) ∧
  (∀ (s : State) (m : Nat) (value mon temp : Int) (st : BurnishStep) (b : Burnish), s.chip.awake = true → m < 4 → s.chip.runningStep m = some st →
    (s.chip.seq m).stolen = false →
    b = { s.chip.burnish with left := s.chip.burnish.left.erase st, done := s.chip.burnish.done ++ [(st, value, mon)] } →
    (({ s.chip with burnish := b } : Chip).burnishOut = false → b.target.testBit 2 = true → b.left ≠ [] →
      Gives (.burnishStepEnd m value mon temp) s (fun c => c.burnish.left = b.left ∧ c.burnish.done = b.done ∧ c.burnish.lastTemp = temp ∧
        c.burnish.under = true ∧ c.burnish.begun = true)) ∧
    (({ s.chip with burnish := b } : Chip).burnishOut = true →
      Gives (.burnishStepEnd m value mon temp) s (fun c => c.burnish.under = false ∧ c.burnish.lastEnd = 3 ∧ c.burnish.left = [])) ∧
    (({ s.chip with burnish := b } : Chip).burnishOut = false → b.target.testBit 2 = false → b.left = [] →
      Gives (.burnishStepEnd m value mon temp) s (fun c => c.burnish.under = false ∧ c.burnish.lastEnd = 1 ∧ c.burnish.active = false)))

/-! ### GNSS (12, 13) -/

/-- 12 R551-R560, R567, R573, 12 R544, R549, R556: a capture begins, is retaken once when blanked, and fails the fix the second time; a search pass that detects
its task ends it and hands it to a channel; a fix ends with its reason and leaves the unit idle; the keep is committed or cleared; the sets of the
receiver apply between two fixes.
The model's choices: log entries 79, 7, 80. -/
def Obligations.FixesRunToTheirEnd : Prop :=
  (∀ (s : State) (n : Word), s.chip.awake = true → s.chip.acq.state = .waiting → s.chip.acq.wantBurst = false → rgPowered s.chip.mode = true →
    s.chip.girth.radioRefused = false → Gives (.snapshotCaptureStart n) s (fun c => c.acq.state = .capturing ∧
      c.acq.snapId = s.chip.acq.snapId + 1 ∧ c.acq.scount = n ∧ c.acq.tasks = [] ∧
      (s.chip.runB 0x2001 28 = true → c.acq.snapLen = 80 ∧ c.acq.snapBands = 1) ∧
      (s.chip.runB 0x2001 28 = false → c.acq.snapLen = 40 ∧ c.acq.snapBands = 3))) ∧
  (∀ (s : State) (samples : List Byte) (blanks : List (Nat × Nat)) (g1 g5 : Nat), s.chip.awake = true → s.chip.acq.state = .capturing →
    (s.chip.blankedOut blanks = true → s.chip.acq.retaken = false → Gives (.snapshotCaptureEnd samples blanks g1 g5) s (fun c =>
      c.acq.state = .waiting ∧ c.acq.retaken = true ∧ c.rings = s.chip.rings)) ∧
    (s.chip.blankedOut blanks = true → s.chip.acq.retaken = true → Gives (.snapshotCaptureEnd samples blanks g1 g5) s (fun c =>
      c.acq.state = .idle ∧ c.acq.reason = 6)) ∧
    (s.chip.blankedOut blanks = false → Gives (.snapshotCaptureEnd samples blanks g1 g5) s (fun c => s.chip.phaseA ≠ [] →
      c.acq.state = .correlating ∧ c.acq.phase = 1 ∧ c.acq.tasks.length = s.chip.phaseA.length ∧
      c.acq.memory = memWrite 0 s.chip.acq.memory 0 (samples.take 1048576)))) ∧
  (∀ (s : State) (samples : List Byte), s.chip.awake = true → s.chip.acq.state = .burst →
    Gives (.liveBlockComplete samples) s (fun c => c.acq.liveBlock = s.chip.acq.liveBlock + 1 ∧ c.acq.state = .burst ∧
      c.acq.memory = memWrite 0 s.chip.acq.memory (if s.chip.acq.liveBlock % 2 = 0 then 0 else 520000) (samples.take 520000))) ∧
  (∀ (s : State) (e pnr i k cn0 : Nat) (code : Word) (dop : Int) (t : Task), s.chip.awake = true → s.chip.acq.state = .burst →
    s.chip.acq.engines.getD e none = some i → s.chip.acq.tasks[i]? = some t → t.detected = false → 1400 ≤ pnr → s.chip.channelFor cn0 = some k →
    k < s.chip.track.channels.length →
    Gives (.acqPassEnd e pnr code dop cn0) s (fun c => c.acq.found = satAdd 255 s.chip.acq.found 1 ∧
      (c.acq.tasks.getD i t).detected = true ∧ (c.acq.tasks.getD i t).passesRun = t.passesRun + 1 ∧
      c.chan k = { busy := true, system := t.system, band := t.band, sv := t.sv, cn0 := cn0 })) ∧
  (∀ (s : State) (sol : Solution), s.chip.awake = true → s.chip.acq.state = .solving →
    (sol.ok = true → Gives (.snapshotSolution sol) s (fun c => c.acq.state = .idle ∧ c.acq.reason = 0 ∧ c.acq.tasks = [])) ∧
    (sol.ok = false → s.chip.runB 0x2001 29 = false → Gives (.snapshotSolution sol) s (fun c => c.acq.state = .idle ∧ c.acq.reason = 1))) ∧
  (∀ (s : State), s.chip.awake = true → s.chip.acq.state = .burst → Gives .trackingBurstEnd s (fun c => c.acq.state = .idle ∧
    c.acq.reason = (if s.chip.acq.burstSolved then 0 else 1) ∧ (s.chip.tracksOn = false → c.track.channels = List.replicate 72 {}))) ∧
  (∀ (s : State), s.chip.awake = true → s.chip.hostOpen = true → Gives .gacqKeepCommit s (fun c => c.acq.keep.changed = false ∧
    c.acq.keep.commitSec = s.chip.keeper.sec.toNat ∧ (s.chip.therm.warning = false → s.chip.therm.trip = false →
      c.mram.commits = s.chip.mram.commits ++ [(5, 1, s.chip.acq.keep.body s.chip.keeper.sec.toNat)] ∧ c.acq.keep.deferred = false) ∧
    (s.chip.therm.warning = true → c.mram = s.chip.mram ∧ c.acq.keep.deferred = true))) ∧
  (∀ (s : State), s.chip.awake = true → s.chip.hostOpen = true → Gives .gacqKeepClear s (fun c => c.acq.keep = {} ∧
    ∀ i, i < 8 → mget 0 c.mram.bytes (0x14000 + 24568 + i) = 0 ∧ mget 0 c.mram.bytes (0x0E000 + 24568 + i) = 0)) ∧
  (∀ (s : State), s.chip.awake = true → s.chip.hostOpen = true →
    ((s.chip.rf 0x2000 1 0 = 1 ∨ s.chip.rf 0x2000 1 0 = 3) → s.chip.acq.state = .idle → Gives .gacqRfArm s (fun c =>
      c.run = (s.chip.applyWords (s.chip.shadow 0x2000 1)).run ∧ c.reg 0x0023 = wd (0x2000 * 65536))) ∧
    ((s.chip.rf 0x2000 1 0 = 1 ∨ s.chip.rf 0x2000 1 0 = 3) → s.chip.acq.state ≠ .idle → Gives .gacqRfArm s (fun c =>
      c.run = s.chip.run ∧ c.armedSet 0x2000 = some { arm := 0x2000, words := s.chip.shadow 0x2000 1 })) ∧
    (s.chip.rf 0x2000 1 0 ≠ 1 → s.chip.rf 0x2000 1 0 ≠ 3 → Gives .gacqRfArm s (fun c => c.run = s.chip.run ∧
      c.reg 0x0023 = wd (0x2000 * 65536 + 2))) ∧
    (s.chip.gacqPlanCheck = 0 → s.chip.acq.state = .idle → Gives .gacqPlanArm s (fun c =>
      c.run = (s.chip.applyWords (s.chip.shadow 0x2001 1)).run)) ∧
    (s.chip.gacqPlanCheck ≠ 0 → Gives .gacqPlanArm s (fun c => c.run = s.chip.run ∧ c.reg 0x0023 = wd (0x2001 * 65536 + s.chip.gacqPlanCheck))))

/-- 13 R577-R579, R583-R600, R615: a channel's locks, slips and losses; an epoch latches its channels, and one that does not fit in ring 18 is dropped
whole; a navigation unit and a solution change the keep, the trust and the solution words; the sets of the tracker apply.
The model's choices: log entries 82, 8. -/
def Obligations.ChannelsEpochsAndSolutions : Prop :=
  (∀ (s : State) (ch : Nat) (x : Channel), s.chip.awake = true → x = s.chip.chan ch → x.busy = true →
    Gives (.codeLock ch) s (fun c => c.chan ch = { x with code := true }) ∧
    (∀ bs : Bool, x.code = true → (bs = true ∨ dataOnly x.system x.band = false) →
      Gives (.carrierLock ch bs) s (fun c => c.chan ch = { x with carrier := true, phase := 0, lock := 0 })) ∧
    (x.code = true → dataOnly x.system x.band = true → Gives (.carrierLock ch false) s (fun c => c.chan ch = x)) ∧
    (x.carrier = true → Gives (.cycleSlip ch) s (fun c => c.chan ch = { x with slip := true, slips := x.slips + 1, phase := 0, lock := 0 })) ∧
    Gives (.navSyncLost ch) s (fun c => c.chan ch = { x with navSync := false }) ∧
    (x.code = false → Gives (.codeLockTimeout ch) s (fun c => c.chan ch = {})) ∧
    (x.code = true → Gives (.codeLockTimeout ch) s (fun c => c.chan ch = x)) ∧
    Gives (.channelLoss ch) s (fun c => c.chan ch = {} ∧ ∃ t : Task, c.acq.tasks = s.chip.acq.tasks ++ [t] ∧ t.system = x.system ∧
      t.band = x.band ∧ t.sv = x.sv ∧ t.cls = 2)) ∧
  (∀ (s : State) (mlg sc : Word) (m : Meas), s.chip.awake = true → s.chip.tracking = true → s.chip.tb.mlg = true →
    s.chip.girth.radioRefused = false → s.chip.armedSet 0x2800 = none → (s.chip.chan m.ch).busy = true → (s.chip.chan m.ch).code = true →
    Gives (.measurementEpoch mlg sc [m]) s (fun c => c.track.epochId = s.chip.track.epochId + 1 ∧ c.acq.scount = sc ∧
      c.chan m.ch = { (s.chip.chan m.ch).latch m with slip := false } ∧
      ((s.chip.ring 18).sizeLog2 ≠ 0 → (s.chip.ring 18).consumer ≠ 0 → (s.chip.ring 18).copying = false →
        (s.chip.ring 18).size < (s.chip.ring 18).fill + 2 → c.track.skip = s.chip.track.skip + 1 ∧ (c.ring 18).head = (s.chip.ring 18).head))) ∧
  (∀ (s : State) (ch tx nb : Nat) (bits : List Word) (x : Channel), s.chip.awake = true → x = s.chip.chan ch → x.busy = true →
    (∀ t ws, Gives (.navUnit ch tx nb bits (.ephemeris t ws)) s (fun c => c.chan ch = { x with navSync := true } ∧ c.acq.keep.changed = true ∧
      c.acq.keep.eph = keepSat 64 s.chip.acq.keep.eph { system := x.system, sv := x.sv, refSec := t, words := ws })) ∧
    (∀ ws, Gives (.navUnit ch tx nb bits (.almanac ws)) s (fun c =>
      c.acq.keep.alm = keepSat 160 s.chip.acq.keep.alm { system := x.system, sv := x.sv, refSec := 0, words := ws })) ∧
    (∀ n p d day ws, x.system ≤ 2 → Gives (.navUnit ch tx nb bits (.utc n p d day ws)) s (fun c => c.acq.keep.utc = padTo 16 0 ws ∧
      c.keeper.leapCount = BitVec.ofInt 8 n ∧ c.keeper.leapPending = p))) ∧
  (∀ (s : State) (sol : Solution) (tr : Nat), s.chip.awake = true → s.chip.tracking = true → tr = trustLevel sol (s.chip.trustFlags sol false) →
    (sol.ok = true → Gives (.navSolution sol) s (fun c => c.track.trust = tr ∧ c.track.solved = true ∧ c.acq.burstSolved = true ∧
      c.track.solution = solutionEntry 1 tr (s.chip.trustFlags sol false) s.chip.track.epochId.toNat sol ∧
      c.acq.keep.lat = sol.lat ∧ c.acq.keep.lon = sol.lon ∧ c.acq.keep.height = sol.height ∧
      (s.chip.track.tp ≠ .off → s.chip.runF 0x2C00 5 4 ≤ tr → c.track.tp = .running))) ∧
    (sol.ok = false → Gives (.navSolution sol) s (fun c => c.track.trust = 0 ∧ c.track.solved = s.chip.track.solved ∧
      c.acq.keep = s.chip.acq.keep ∧ (s.chip.track.tp = .running → c.track.tp = .holdover)))) ∧
  (∀ (s : State), s.chip.awake = true → s.chip.hostOpen = true →
    (s.chip.gtrkCheck = 0 → s.chip.tracking = false → Gives .gtrkCfgArm s (fun c =>
      c.run = (s.chip.applyWords (s.chip.shadow 0x2800 1)).run)) ∧
    (s.chip.gtrkCheck = 0 → s.chip.tracking = true → Gives .gtrkCfgArm s (fun c => c.run = s.chip.run ∧
      c.armedSet 0x2800 = some { arm := 0x2800, words := s.chip.shadow 0x2800 1 })) ∧
    (s.chip.gtrkCheck ≠ 0 → Gives .gtrkCfgArm s (fun c => c.run = s.chip.run ∧ c.reg 0x0023 = wd (0x2800 * 65536 + 6))) ∧
    (5 ≤ s.chip.rf 0x2868 15 8 → s.chip.rf 0x2868 15 8 ≤ 50 → 45 ≤ s.chip.rf 0x2868 7 0 → s.chip.rf 0x2868 7 0 ≤ 60 →
      Gives .gtrkTrustArm s (fun c => c.run = (s.chip.applyWords (s.chip.shadow 0x2868 1)).run)) ∧
    (s.chip.rf 0x2868 15 8 < 5 → Gives .gtrkTrustArm s (fun c => c.run = s.chip.run ∧ c.reg 0x0023 = wd (0x2868 * 65536 + 6))))

/-- 13 R602-R614: a pulse is announced with its edge and its error, and driven at the announced edge; one that TP cannot drive is skipped; a pulse without
sufficient trust holds over and stops; the pulse configuration applies or is refused.
The model's choices: log entries 43, 57. -/
def Obligations.TheTimePulseFollowsItsAnnouncement : Prop :=
  (∀ (s : State) (sec ms ideal te : Nat) (mlg : Word) (leap : Int), s.chip.awake = true →
    (s.chip.track.tp = .running ∨ s.chip.track.tp = .holdover) → s.chip.track.announced = none →
    Gives (.timeMessage sec ms mlg ideal te leap) s (fun c => c.track.qerr = (nearestEdge ideal s.chip.acq.keep.drift).2 ∧
      c.track.announced = some (s.chip.timeEntry 1 sec ms (nearestEdge ideal s.chip.acq.keep.drift).2 te
        (mlg + wd (nearestEdge ideal s.chip.acq.keep.drift).1) leap) ∧
      c.ring 20 = (s.chip.produceRaw 0x08 20 (s.chip.timeEntry 1 sec ms (nearestEdge ideal s.chip.acq.keep.drift).2 te
        (mlg + wd (nearestEdge ideal s.chip.acq.keep.drift).1) leap)).1.ring 20)) ∧
  (∀ (s : State), s.chip.awake = true → s.chip.track.announced.isSome = true → s.chip.tpDrives = true →
    Gives .timePulse s (fun c => c.track.announced = none ∧ c.track.tpActive = true ∧ c.track.pulseNo = s.chip.track.pulseNo + 1)) ∧
  (∀ (s : State), s.chip.awake = true → Gives .pulseEnd s (fun c => c.track.tpActive = false ∧ c.track.pulseNo = s.chip.track.pulseNo)) ∧
  (∀ (s : State) (sec ms : Nat) (leap : Int), s.chip.awake = true → (s.chip.track.tp = .running ∨ s.chip.track.tp = .holdover) →
    s.chip.tpDrives = false → Gives (.pulseSkipped sec ms leap) s (fun c => c.track.announced = none ∧
      c.track.tpActive = s.chip.track.tpActive ∧ c.track.pulseNo = s.chip.track.pulseNo + 1)) ∧
  (∀ (s : State), s.chip.awake = true → s.chip.track.tp = .holdover → Gives .tpStopped s (fun c => c.track.tpActive = false ∧
    c.track.announced = none ∧ c.track.tp = (if s.chip.runB 0x2C00 0 then .waiting else .off))) ∧
  (∀ (s : State), s.chip.awake = true → s.chip.hostOpen = true →
    (s.chip.tpCheck = 0 → Gives .tpCfgArm s (fun c => c.run = (s.chip.applyWords (s.chip.shadow 0x2C00 3)).run ∧
      (s.chip.track.tp = .off → (s.chip.applyWords (s.chip.shadow 0x2C00 3)).runB 0x2C00 0 = true → c.track.tp = .waiting) ∧
      (s.chip.track.announced = none → (s.chip.applyWords (s.chip.shadow 0x2C00 3)).runB 0x2C00 0 = false → c.track.tp = .off))) ∧
    (s.chip.tpCheck ≠ 0 → Gives .tpCfgArm s (fun c => c.run = s.chip.run ∧ c.track.tp = s.chip.track.tp ∧
      c.reg 0x0023 = wd (0x2C00 * 65536 + 6))))

/-! ### Chirp radio (14) -/

/-- 14 R649-R651, R654, R656-R658, R665: a burst is requested for the item at the head of a transmit ring; a frame is refused for its format, for
a band outside the budget table, for more power than its entry's PMAX, for the on-air total of its entry over BUDGET, or late; a frame that passes
its checks goes on air, consumes its entries and counts its on-air time.
The model's choices: log entries 85, 86. -/
def Obligations.FramesAreCheckedAndLaunched : Prop :=
  (∀ (s : State) (n : Nat) (e : Entry), s.chip.awake = true → 32 ≤ n → n ≤ 35 → s.chip.headItem n = some e → fld (ew e 0) 31 24 ≠ 3 →
    (∀ why, s.chip.radioRefusal = some why → Gives (.burstRequest n) s (ItemRefused s.chip n why e)) ∧
    (s.chip.radioRefusal = none → s.chip.modes.transition = none → s.chip.mode = 2 → Gives (.burstRequest n) s (fun c =>
      c.radio.burstWanted = true ∧ c.modes.transition = some (4, ringReason n) ∧ c.rings = s.chip.rings)) ∧
    (s.chip.radioRefusal = none → s.chip.modes.transition = none → s.chip.mode = 1 → Gives (.burstRequest n) s (fun c =>
      c.radio.burstWanted = true ∧ c.modes.transition = some (2, ringReason n) ∧ c.modes.thenTo = some (4, ringReason n)))) ∧
  (∀ (s : State) (n late : Nat) (e : Entry), s.chip.awake = true → 32 ≤ n → n ≤ 35 → s.chip.headItem n = some e → fld (ew e 0) 31 24 = 1 →
    s.chip.radioRefusal = none → rcPowered s.chip.mode = true → s.chip.radio.state ≠ .transmitting →
    (s.chip.runF 0x3002 23 16 ≠ 0 → s.chip.runF 0x3002 23 16 < late → Gives (.frameLaunch n late) s (ItemRefused s.chip n 5 e)) ∧
    (late ≤ s.chip.runF 0x3002 23 16 →
      (s.chip.formatBad e = true → Gives (.frameLaunch n late) s (ItemRefused s.chip n 6 e)) ∧
      (s.chip.formatBad e = false → (inBand (s.chip.freqOf e) (hBw e) = false ∨ s.chip.budgetEntry (s.chip.freqOf e) (hBw e) = none) →
        Gives (.frameLaunch n late) s (ItemRefused s.chip n 2 e)) ∧
      (∀ k, s.chip.formatBad e = false → inBand (s.chip.freqOf e) (hBw e) = true → s.chip.budgetEntry (s.chip.freqOf e) (hBw e) = some k →
        (sx 8 (fld (s.chip.runW (0x3011 + 3 * k)) 23 16) < hPower e → Gives (.frameLaunch n late) s (ItemRefused s.chip n 3 e)) ∧
        (hPower e ≤ sx 8 (fld (s.chip.runW (0x3011 + 3 * k)) 23 16) →
          fld (s.chip.runW (0x3011 + 3 * k)) 15 0 * 360000 < s.chip.usedUs k + s.chip.airOf e →
          Gives (.frameLaunch n late) s (ItemRefused s.chip n 1 e)) ∧
        (hPower e ≤ sx 8 (fld (s.chip.runW (0x3011 + 3 * k)) 23 16) →
          s.chip.usedUs k + s.chip.airOf e ≤ fld (s.chip.runW (0x3011 + 3 * k)) 15 0 * 360000 → hHop e = false →
          Gives (.frameLaunch n late) s (fun c => c.radio.state = .transmitting ∧ c.radio.paOn = true ∧ c.radio.power = hPower e ∧
            c.radio.foldback = 0 ∧ (c.ring n).tail = (s.chip.ring n).tail + BitVec.ofNat 16 (itemEntries e) ∧
            (∃ f : RadioFrame, c.radio.tx = some f ∧ f.header = e ∧ f.freq = (ew e 2).toNat ∧ f.airUs = s.chip.airOf e ∧
              f.payload = s.chip.headPayload n (hLen e)) ∧
            (∃ a : AirTime, c.radio.air.head? = some a ∧ a.us = s.chip.airOf e ∧ a.entry = k ∧ a.sec = s.chip.keeper.sec.toNat))))))

/-- 14 R637, R638, R656, R663, R664, R666, R667, R670: a frame on air ends SENT, or ABORTED by an empty queue or by the host; reflection lowers its power by 1 dB
at a time and sets its fault bit; a lost lock is shown; the sets of the radio apply between two frames.
The model's choices: log entry 86. -/
def Obligations.FramesEndAndSetsApply : Prop :=
  (∀ (s : State) (f : RadioFrame), s.chip.awake = true → s.chip.radio.tx = some f →
    Gives .frameSent s (fun c => c.radio.tx = none ∧ c.radio.sent = s.chip.radio.sent + 1 ∧ c.radio.paOn = false ∧
      c.radio.air = s.chip.radio.air ∧ c.ring 38 = (s.chip.txStatus 1 0 f).ring 38) ∧
    Gives .txQueueEmpty s (fun c => c.radio.tx = none ∧ c.radio.aborted = s.chip.radio.aborted + 1 ∧ c.radio.paOn = false ∧
      c.rf 0x3102 2 2 = 1 ∧ c.radio.air = s.chip.radio.air ∧ c.ring 38 = (s.chip.txStatus 2 7 f).ring 38) ∧
    (s.chip.hostOpen = true → Gives .txAbort s (fun c => c.radio.tx = none ∧ c.radio.aborted = s.chip.radio.aborted + 1 ∧
      c.rf 0x3102 2 2 = 1 ∧ c.ring 38 = (s.chip.txStatus 2 11 f).ring 38)) ∧
    (∀ loss, loss < 60 → s.chip.radio.foldback < 6 → Gives (.reflectCheck loss) s (fun c => c.radio.foldback = s.chip.radio.foldback + 1 ∧
      c.radio.power = s.chip.radio.power - 1 ∧ c.radio.tx = some f ∧
      (s.chip.radio.foldback = 0 → c.rf 0x3102 (b2n (hPort f.header)) (b2n (hPort f.header)) = 1))) ∧
    (∀ loss, (60 ≤ loss ∨ 6 ≤ s.chip.radio.foldback) → Gives (.reflectCheck loss) s (fun c => c.radio = s.chip.radio ∧ c.regs = s.chip.regs))) ∧
  (∀ (s : State), s.chip.awake = true → Gives .synthUnlock s (fun c => c.rf 0x3102 3 3 = 1 ∧ c.radio = s.chip.radio)) ∧
  (∀ (s : State), s.chip.awake = true → s.chip.hostOpen = true → s.chip.girth.armed = [] →
    (s.chip.radioQuiet = true →
      Gives .wrfRxArm s (fun c => c.run = (s.chip.applyWords (s.chip.shadow 0x3000 1)).run ∧ c.rf 0x3000 3 0 = 0 ∧ c.radio = s.chip.radio) ∧
      Gives .wrfTxArm s (fun c => c.run = (s.chip.applyWords (s.chip.shadow 0x3002 1)).run ∧ c.rf 0x3000 3 0 = 0 ∧ c.radio = s.chip.radio)) ∧
    (s.chip.radioQuiet = false →
      Gives .wrfRxArm s (fun c => c.run = s.chip.run ∧ c.armedSet 0x3000 = some { arm := 0x3000, words := s.chip.shadow 0x3000 1 }) ∧
      Gives .wrfTxArm s (fun c => c.run = s.chip.run ∧ c.armedSet 0x3002 = some { arm := 0x3002, words := s.chip.shadow 0x3002 1 })) ∧
    (s.chip.radioCheck 0x301C = 0 → s.chip.radioQuiet = true → Gives .wrfDutyArm s (fun c =>
      c.run = (s.chip.applyWords (s.chip.shadow 0x3010 12)).run ∧ c.radio = s.chip.radio)) ∧
    (s.chip.radioCheck 0x301C ≠ 0 → Gives .wrfDutyArm s (fun c => c.run = s.chip.run ∧ c.rf 0x3000 3 0 = 6)) ∧
    (1 ≤ s.chip.rf 0x3020 22 16 → s.chip.rf 0x3020 22 16 ≤ 64 → 1 ≤ s.chip.rf 0x3020 15 0 → s.chip.radioQuiet = true →
      Gives .wrfHopArm s (fun c => c.run = (s.chip.applyWords (s.chip.shadow 0x3020 1 ++ s.chip.shadow 0x3040 64)).run)) ∧
    ((s.chip.rf 0x3020 22 16 < 1 ∨ 64 < s.chip.rf 0x3020 22 16 ∨ s.chip.rf 0x3020 15 0 < 1) →
      Gives .wrfHopArm s (fun c => c.run = s.chip.run ∧ c.rf 0x3000 3 0 = 6)) ∧
    (2 ≤ s.chip.rf 0x3100 29 24 → s.chip.live 1 = true → s.chip.radioQuiet = true → Gives .wrfRfArm s (fun c =>
      c.run = (s.chip.applyWords (s.chip.shadow 0x3100 1)).run ∧ c.reg 0x0023 = wd (0x3100 * 65536))) ∧
    (s.chip.rf 0x3100 29 24 < 2 → s.chip.silent 1 = false → Gives .wrfRfArm s (fun c => c.run = s.chip.run ∧
      c.reg 0x0023 = wd (0x3100 * 65536 + 6))))

/-- 14 R629, R642, R643, R645, R648, R653-R655, R660, R662: a listen window opens and ends; a sync word of the window's code, or of the stirrup yard code
where it is heard, starts a reception; a header is kept or dropped by its CRC-8, a frame delivered or discarded by its CRC-32. -/
def Obligations.ReceptionFollowsItsWindow : Prop :=
  (∀ (s : State) (n : Nat) (e : Entry), s.chip.awake = true → 32 ≤ n → n ≤ 35 → s.chip.headItem n = some e → fld (ew e 0) 31 24 = 2 →
    (∀ why, s.chip.radioRefusal = some why → Gives (.listenWindowStart n) s (ItemRefused s.chip n why e)) ∧
    (s.chip.radioRefusal = none → rcPowered s.chip.mode = true → s.chip.radio.window = none → Gives (.listenWindowStart n) s (fun c =>
      (∃ w : RadioFrame, c.radio.window = some w ∧ w.header = e ∧ w.ring = n ∧ w.freq = s.chip.freqOf e) ∧ c.radio.gotFrame = false ∧
      c.radio.tx = s.chip.radio.tx ∧ (s.chip.radio.state = .transmitting → c.radio.state = .transmitting) ∧
      (s.chip.radio.state ≠ .transmitting → c.radio.state = .searching) ∧ (c.ring n).tail = (s.chip.ring n).tail + 1))) ∧
  (∀ (s : State) (w : RadioFrame), s.chip.awake = true → s.chip.radio.window = some w →
    (s.chip.radio.state = .receiving → Gives .windowEnd s (fun c => c.radio.window = none ∧ c.radio.state = .receiving ∧ c.rings = s.chip.rings)) ∧
    (s.chip.radio.state = .searching → s.chip.radio.gotFrame = false → Gives .windowEnd s (fun c => c.radio.window = none ∧
      c.ring 39 = (s.chip.rxStatus 4 (hTag w.header) 0 [0, 0, 0, 0, 0, 0, 0, wd w.freq]).ring 39))) ∧
  (∀ (s : State) (w : RadioFrame) (sweeps s1 s2 code : Nat) (rssi snr : Int), s.chip.awake = true → s.chip.radio.window = some w →
    s.chip.radio.state = .searching → 8 ≤ sweeps → syncCode (hK w.header) s1 s2 = some code →
    ((code = fld (ew w.header 3) 23 16 ∨ (code = 0xFF ∧ s.chip.runB 0x3000 24 = true)) → Gives (.syncDetect sweeps s1 s2 rssi snr) s (fun c =>
      c.radio.state = .receiving ∧ c.radio.sync = some (code, ux 16 rssi, ux 16 snr) ∧ c.radio.rxHeader = none ∧ c.radio.gotFrame = true)) ∧
    (¬ (code = fld (ew w.header 3) 23 16 ∨ (code = 0xFF ∧ s.chip.runB 0x3000 24 = true)) → Gives (.syncDetect sweeps s1 s2 rssi snr) s (fun c =>
      c.radio = { s.chip.radio with syncOther := s.chip.radio.syncOther + 1 }))) ∧
  (∀ (s : State) (hdr crc : Nat), s.chip.awake = true → s.chip.radio.state = .receiving → s.chip.radio.rxHeader = none →
    (crc8 24 hdr 0 = crc → Gives (.headerDecode hdr crc) s (fun c => c.radio = { s.chip.radio with rxHeader := some (hdr % 2 ^ 24) } ∧
      c.rings = s.chip.rings)) ∧
    (crc8 24 hdr 0 ≠ crc → Gives (.headerDecode hdr crc) s (fun c => c.radio.hdrFail = s.chip.radio.hdrFail + 1 ∧ c.radio.rxHeader = none ∧
      c.radio.sync = none ∧ (s.chip.radio.window.isSome = true → c.radio.state = .searching)))) ∧
  (∀ (s : State) (payload : List Byte) (crc : Word) (rx : RxMeta) (hdr : Nat), s.chip.awake = true → s.chip.mode ≠ 7 →
    s.chip.radio.state = .receiving → s.chip.radio.rxHeader = some hdr →
    (s.chip.ring 36).consumer ≠ 0x0A →
    (∀ r, r = s.chip.rxRing → payload.length = hdr % 256 → crc = wd (crc32 (leBytes 3 hdr ++ payload)) →
      Gives (.frameReceived payload crc rx) s (fun c => c.radio.rxOk = s.chip.radio.rxOk + 1 ∧ c.radio.crcFail = s.chip.radio.crcFail ∧
        c.radio.rxHeader = none ∧ c.ring 39 = s.chip.ring 39 ∧
        c.ring r = ((s.chip.rxHeaderEntry hdr rx :: dataEntries payload).foldl (fun c x => c.produce 0x09 r x) s.chip).ring r)) ∧
    (crc ≠ wd (crc32 (leBytes 3 hdr ++ payload)) → Gives (.frameReceived payload crc rx) s (fun c =>
      c.radio.crcFail = s.chip.radio.crcFail + 1 ∧ c.radio.rxOk = s.chip.radio.rxOk ∧ c.ring 36 = s.chip.ring 36 ∧ c.ring 37 = s.chip.ring 37 ∧
      c.ring 39 = (s.chip.rxStatus 2 s.chip.rxTag (hdr % 256) (s.chip.rxHeaderEntry hdr rx)).ring 39)))

/-! ### The yard (15) -/

/-- 15 R683, R690, R691, R696, R699, R701, R704, R706, R709: what a member does with the frame at the head of ring 36, by its PTYPE: a beacon gives the time,
the open yard slot and the acknowledgement; an alarm is relayed once; an ALARM_ACK ends its alarm; an offer for this UID is committed and confirmed; a
command is executed while it is fresh and answered; a duplicate is counted and changes nothing else.
The model's choices: log entries 97, 90, 98, 88. -/
def Obligations.MembersTakeYardFrames : Prop :=
  ∀ (s : State) (f : RxYard) (body : List Byte), s.chip.awake = true → s.chip.yard.sec.lead = false →
    (NewFrame s.chip f body →
      (f.ptype = 1 → Gives .beacon s (fun c => c.yard.beaconHeard = true ∧ (c.ring 36).fill = 0 ∧
        c.yard.openSlot = (if (leAt body 12 1).testBit 1 then leAt body 13 1 else 0) ∧
        (s.chip.keeper.valid = false → c.keeper.valid = true ∧ c.keeper.tsrc = 2) ∧
        (∀ n, s.chip.yardNumber = some n → c.yard.downSlot = downFor body n ∧
          (ackBit body n = true → s.chip.yard.lastSent = 2 → c.yard.report = none) ∧
          (ackBit body n = true → s.chip.yard.lastSent = 9 → c.yard.confirm = none ∧ c.yard.member = true) ∧
          (ackBit body n = false → c.yard.report = s.chip.yard.report ∧ c.yard.confirm = s.chip.yard.confirm)))) ∧
      (f.ptype = 5 → s.chip.yard.seenAlarms.contains (leAt body 1 1, leAt body 0 1) = false →
        (s.chip.miniOn = true → leAt body 2 1 < 3 → s.chip.yard.ackedAlarms.contains (leAt body 1 1, leAt body 0 1) = false →
          Gives .alarm s (fun c =>
            c.yard.relay = some { origin := leAt body 1 1, id := leAt body 0 1, hops := leAt body 2 1 + 1, rule := leAt body 3 1, theft := leAt body 4 1 } ∧
            c.yard.seenAlarms.head? = some (leAt body 1 1, leAt body 0 1))) ∧
        (3 ≤ leAt body 2 1 → Gives .alarm s (fun c => c.yard.relay = s.chip.yard.relay ∧
          c.yard.seenAlarms.head? = some (leAt body 1 1, leAt body 0 1)))) ∧
      (f.ptype = 6 → Gives .alarmAck s (fun c => c.yard.ackedAlarms.head? = some (leAt body 0 1, leAt body 1 1) ∧ (c.ring 36).fill = 0 ∧
        ∀ a : Alarm, s.chip.yard.alarm = some a →
          (a.origin = leAt body 0 1 → a.id = leAt body 1 1 → c.yard.alarm = none) ∧ (a.id ≠ leAt body 1 1 → c.yard.alarm = some a))) ∧
      (f.ptype = 8 →
        (leAt body 0 8 = s.chip.start.uid.toNat → Gives .buckleOffer s (fun c => c.mram.keys.yard.number = some (leAt body 8 1) ∧
          c.mram.keys.yard.era = max s.chip.era (leAt body 9 2) ∧ c.yard.buckle = .offered ∧ c.yard.counters = [] ∧
          ∃ g : YardFrame, c.yard.confirm = some g ∧ g.ptype = 9 ∧ g.ackReq = true)) ∧
        (leAt body 0 8 ≠ s.chip.start.uid.toNat → Gives .buckleOffer s (fun c => c.mram = s.chip.mram ∧ c.yard = s.chip.yard))) ∧
      (f.ptype = 4 →
        (leAt body 0 1 = 1 → s.chip.commandFresh body = true → Gives .theftClear s (fun c =>
          ∃ r : Nat, c.rf 0x0CE8 3 0 = r ∧ Answered s f 1 (if r = 1 then 0 else 1) (bytesOf [r] ++ leBytes 4 c.keeper.theftNonce.toNat) c)) ∧
        (leAt body 0 1 = 2 → s.chip.commandFresh body = true → s.chip.mayProduce 0x0A 6 = false →
          Gives .updateData s (fun c => Answered s f 2 1 (bytesOf [1]) c ∧ c.ring 6 = s.chip.ring 6)) ∧
        (leAt body 0 1 = 2 → s.chip.commandFresh body = true → s.chip.mayProduce 0x0A 6 = true → (body.drop 6).length % 32 = 0 →
          1 ≤ (body.drop 6).length / 32 → (body.drop 6).length / 32 ≤ 6 → (s.chip.ring 6).free < (body.drop 6).length / 32 →
          Gives .updateData s (fun c => Answered s f 2 1 (bytesOf [2]) c ∧ c.ring 6 = s.chip.ring 6)) ∧
        (leAt body 0 1 = 2 → s.chip.commandFresh body = true → s.chip.mayProduce 0x0A 6 = true → (body.drop 6).length % 32 = 0 →
          1 ≤ (body.drop 6).length / 32 → (body.drop 6).length / 32 ≤ 6 → (body.drop 6).length / 32 ≤ (s.chip.ring 6).free →
          (s.chip.ring 6).active = .lossless → (s.chip.ring 6).consumer ≠ 0 → (s.chip.ring 6).copying = false → (s.chip.ring 6).waiting = [] →
          Gives .updateData s (fun c => Answered s f 2 0 [] c ∧
            (c.ring 6).head = (s.chip.ring 6).head + BitVec.ofNat 16 ((body.drop 6).length / 32) ∧ (c.ring 6).tail = (s.chip.ring 6).tail)) ∧
        (leAt body 0 1 = 3 → s.chip.commandFresh body = true → Gives .yardHostEvent s (fun c => Answered s f 3 0 [] c ∧
          c.ring 2 = (s.chip.event 0x0A 0x11 (leAt body 1 1) 0).ring 2)) ∧
        (leAt body 0 1 = 4 → s.chip.commandFresh body = true → s.chip.silent 1 = false → s.chip.girth.radioRefused = false →
          leAt body 1 1 < 16 → (s.chip.ring 33).sizeLog2 ≠ 0 → (s.chip.ring 33).consumer ≠ 0 → (s.chip.ring 33).copying = false →
          (s.chip.ring 33).active = .lossless → (s.chip.ring 33).full = false → (s.chip.ring 33).waiting = [] →
          Gives .requestReport s (fun c => Answered s f 4 0 [] c ∧ (c.ring 33).head = (s.chip.ring 33).head + 1)) ∧
        (leAt body 0 1 = 4 → s.chip.commandFresh body = true → s.chip.silent 1 = true →
          Gives .requestReport s (fun c => Answered s f 4 1 [] c ∧ c.ring 33 = s.chip.ring 33)) ∧
        (leAt body 0 1 = 5 → s.chip.commandFresh body = true → Gives .rebuckle s (fun c => Answered s f 5 0 [] c ∧ c.yard.rebuckle = true ∧
          c.mram = s.chip.mram)) ∧
        (leAt body 0 1 = 5 → s.chip.commandFresh body = false → Gives .rebuckle s (fun c => Answered s f 5 2 [] c ∧
          c.yard.rebuckle = s.chip.yard.rebuckle)))) ∧
    (OldFrame s.chip f body →
      (f.ptype = 1 → Gives .beacon s (fun c => c.yard = { s.chip.yard with dup := s.chip.yard.dup + 1 } ∧ c.keeper = s.chip.keeper)) ∧
      (f.ptype = 5 → Gives .alarm s (fun c => c.yard = { s.chip.yard with dup := s.chip.yard.dup + 1 })) ∧
      (f.ptype = 4 → leAt body 0 1 = 5 → Gives .rebuckle s (fun c => c.yard.dup = s.chip.yard.dup + 1 ∧ c.yard.rebuckle = s.chip.yard.rebuckle)))

/-- 15 R696, R699, R700, R705, R708-R712, R718: what the lead does with the frame at the head of ring 36: a report, a reply or a confirm with ACK_REQ sets the
sender's ACK bit, and its number is heard; one that its ring-40 entries have no room for gets no bit; a reply ends its command; an alarm owes an
ALARM_ACK; a request gets an offer; a host command is queued or refused as too long.
The model's choices: log entries 97, 90, 96, 88. -/
def Obligations.TheLeadTakesYardFrames : Prop :=
  (∀ (s : State) (f : RxYard) (body : List Byte), s.chip.awake = true → s.chip.yard.sec.lead = true → f.src < 256 →
    (NewFrame s.chip f body →
      (f.ptype = 2 →
        (s.chip.putOut 40 (s.chip.rxRingEntries 1 f.seq f body) = none → Gives (.report none) s (fun c => c.yard = s.chip.yard ∧
          (c.ring 36).fill = 0 ∧ c.ring 40 = s.chip.ring 40)) ∧
        ((s.chip.putOut 40 (s.chip.rxRingEntries 1 f.seq f body)).isSome = true →
          Gives (.report none) s (fun c => (f.ackReq = true → c.yard.acks.getLsbD f.src = true) ∧ (c.ring 36).fill = 0 ∧
            ∃ m ∈ c.yard.members, m.number = f.src ∧ m.quiet = 0) ∧
          (∀ b : Baseline, (leAt body 3 1).testBit 0 = true → s.chip.mode = 5 → 5 ≤ b.signals → Gives (.report (some b)) s (fun c =>
            (f.ackReq = true → c.yard.acks.getLsbD f.src = true) ∧ ∃ m ∈ c.yard.members, m.number = f.src ∧ m.baseline = some (b.e, b.n, b.u))))) ∧
      (f.ptype = 3 → (s.chip.putOut 40 (s.chip.rxRingEntries 2 f.seq f body)).isSome = true → Gives .reply s (fun c =>
        (f.ackReq = true → c.yard.acks.getLsbD f.src = true) ∧
        (∀ x : YardFrame, s.chip.yard.commands.find? (fun x => decide (x.dst = f.src) && decide (x.seq = leAt body 2 4) && decide (x.seq ≠ 0)) = some x →
          c.yard.commands = s.chip.yard.commands.filter (fun z => z != x)))) ∧
      (f.ptype = 5 → (s.chip.putOut 40 (s.chip.rxRingEntries 3 f.seq f body)).isSome = true → Gives .alarm s (fun c =>
        c.yard.ackOwed = some (leAt body 1 1, leAt body 0 1) ∧ (c.ring 36).fill = 0)) ∧
      (f.ptype = 7 → s.chip.yard.holdOff = 0 → ∀ n, s.chip.assignNumber (BitVec.ofNat 64 (leAt body 0 8)) (leAt body 8 1) = some n →
        Gives .buckleReq s (fun c => (∃ g : YardFrame, c.yard.offer = some g ∧ g.ptype = 8 ∧ g.join = true ∧ g.age = s.chip.yard.round ∧
          g.body = leBytes 8 (leAt body 0 8 % 2 ^ 64) ++ bytesOf [n] ++ leBytes 2 (min 65535 (leAt body 9 2 + 1))) ∧
          ∃ m ∈ c.yard.members, m.number = n ∧ m.quiet = 0)) ∧
      (f.ptype = 7 → s.chip.yard.holdOff ≠ 0 → Gives .buckleReq s (fun c => c.yard = s.chip.yard ∧ (c.ring 36).fill = 0)) ∧
      (f.ptype = 9 → Gives .buckleConfirm s (fun c => (f.ackReq = true → c.yard.acks.getLsbD f.src = true) ∧
        ∃ m ∈ c.yard.members, m.number = f.src ∧ m.quiet = 0 ∧ m.uid = some (BitVec.ofNat 64 (leAt body 0 8))))) ∧
    (OldFrame s.chip f body →
      (f.ptype = 2 → Gives (.report none) s (fun c => c.yard.dup = s.chip.yard.dup + 1 ∧ c.ring 40 = s.chip.ring 40 ∧
        (f.ackReq = true → c.yard.acks.getLsbD f.src = true))) ∧
      (f.ptype = 9 → Gives .buckleConfirm s (fun c => c.yard.dup = s.chip.yard.dup + 1 ∧ c.yard.members = s.chip.yard.members ∧
        (f.ackReq = true → c.yard.acks.getLsbD f.src = true))))) ∧
  (∀ (s : State) (e : Entry) (b body : List Byte), s.chip.awake = true → s.chip.yardLead = true → s.chip.yard.commands.length < 4 →
    (s.chip.ring 42).fill ≠ 0 → e = s.chip.tailEntry 42 0 → frameEntries (fld (ew e 0) 7 0) ≤ (s.chip.ring 42).fill →
    b = s.chip.headPayload 42 (fld (ew e 0) 7 0) → body = b.take 2 ++ leBytes 4 s.chip.timeLo.toNat ++ b.drop 6 →
    (s.chip.yard.sec.slot.airUs (13 + body.length) s.chip.ramp ≤ 224000 → 13 + body.length ≤ 255 → Gives .yardCommandQueued s (fun c =>
      c.yard.commands = s.chip.yard.commands ++ 
        [{ ptype := 4, dst := fld (ew e 0) 15 8, seq := 0, body := body, ackReq := true, tag := (ew e 1).toNat }] ∧ (c.ring 42).tail = (s.chip.ring 42).tail + BitVec.ofNat 16 (frameEntries (fld (ew e 0) 7 0)))) ∧
    (224000 < s.chip.yard.sec.slot.airUs (13 + body.length) s.chip.ramp → Gives .yardCommandQueued s (fun c =>
      c.yard.commands = s.chip.yard.commands ∧ (c.ring 42).tail = (s.chip.ring 42).tail + BitVec.ofNat 16 (frameEntries (fld (ew e 0) 7 0)))))

/-- 15 R672, R673, R677-R680, R685, R692, R695-R697, R704, R707, R709, R720, R721: rounds and yard slots; a report request is built; the own yard slot carries the
report, again with TRY one greater when it was not acknowledged; an alarm without an ALARM_ACK goes again, to TRY 7; buckling listens, waits and begins again;
a yard-key load that its check accepts changes the yard record; YARD_CFG applies at the next round.
The model's choices: log entries 93, 90, 88, 91. -/
def Obligations.RoundsSlotsRetriesAndKeys : Prop :=
  (∀ (s : State), s.chip.awake = true → s.chip.yardIn = true →
    Gives .yardRoundStart s (fun c => c.yard.round = s.chip.keeper.round ∧ c.yard.beaconHeard = false ∧ c.yard.downSlot = 0 ∧ c.yard.openSlot = 0 ∧
      c.yard.sinceAck = s.chip.yard.sinceAck + 1 ∧ (∀ m ∈ c.yard.members, m.quiet ≤ c.yard.lease) ∧ (∀ f ∈ c.yard.commands, f.tries ≤ 7) ∧
      (s.chip.yard.sec.lead = false → s.chip.yard.buckle = .idle → s.chip.mram.keys.yard.number = none → c.yard.buckle = .listening) ∧
      (∀ n, s.chip.yard.sec.lead = false → s.chip.yard.buckle = .waiting n → 2 ≤ n → c.yard.buckle = .waiting (n - 1)))) ∧
  (∀ (s : State) (slot : Nat), s.chip.awake = true → s.chip.yardIn = true → slot ≤ 255 →
    (∀ (u : Nat), slot = 0 → s.chip.yard.sec.lead = true → s.chip.yard.alarm = none → s.chip.yard.relay = none → s.chip.yard.ackOwed = none →
      s.chip.yard.exhausted = false → mget 0 s.chip.yard.counters 256 < 0xFFFFFFFF → s.chip.timeUnc = some u →
      s.chip.yard.sec.beacon.airUs 67 s.chip.ramp ≤ 224000 → (s.chip.ring 35).sizeLog2 ≠ 0 → (s.chip.ring 35).consumer ≠ 0 →
      (s.chip.ring 35).copying = false → (s.chip.ring 35).active = .lossless → (s.chip.ring 35).waiting = [] →
      (s.chip.ring 35).fill + 6 ≤ (s.chip.ring 35).size →
      (u ≤ 1000 → Gives (.yardSlotStart slot) s (fun c => c.yard.acks = 0 ∧ c.yard.slot = 0 ∧
        c.yard.openSlot = (if s.chip.bucklingOpen then s.chip.lowestFree.getD 0 else 0))) ∧
      (1000 < u → Gives (.yardSlotStart slot) s (fun c => c.yard.acks = s.chip.yard.acks ∧ c.yard.openSlot = s.chip.yard.openSlot ∧
        c.yard.counters = s.chip.yard.counters))) ∧
    (∀ (f : YardFrame) (u : Nat), s.chip.yard.sec.lead = false → s.chip.mram.keys.yard.number = some slot → s.chip.yard.alarm = none →
      s.chip.yard.relay = none → s.chip.miniOn = false → s.chip.yard.confirm = none → s.chip.yard.replies = [] → s.chip.yard.report = some f →
      f.ptype = 2 → f.bcast = false → s.chip.yard.exhausted = false → s.chip.timeUnc = some u → u ≤ 2000 →
      (s.chip.yard.beaconNeeded = false ∨ s.chip.yard.beaconHeard = true) →
      s.chip.yard.sec.slot.airUs (13 + f.body.length) s.chip.ramp ≤ 224000 → f.body.length ≤ 224 → (s.chip.ring 35).sizeLog2 ≠ 0 →
      (s.chip.ring 35).consumer ≠ 0 → (s.chip.ring 35).waiting = [] → (s.chip.ring 35).fill + 9 ≤ (s.chip.ring 35).size →
      (f.sent = true → f.ackReq = true → f.tries < 7 → f.seq ≠ 0 → Gives (.yardSlotStart slot) s (fun c => ∃ g : YardFrame,
        c.yard.report = some g ∧ g.sent = true ∧ g.tries = f.tries + 1 ∧ g.seq = f.seq ∧ g.body = f.body ∧ c.yard.lastSent = 2 ∧
        c.yard.retry = s.chip.yard.retry + 1)) ∧
      (f.sent = false → f.seq = 0 → mget 0 s.chip.yard.counters f.dst < 0xFFFFFFFF → Gives (.yardSlotStart slot) s (fun c => ∃ g : YardFrame,
        c.yard.report = some g ∧ g.sent = true ∧ g.tries = f.tries ∧ g.seq = mget 0 s.chip.yard.counters f.dst + 1 ∧ g.body = f.body ∧
        c.yard.lastSent = (if f.ackReq then 2 else 0) ∧ c.yard.retry = s.chip.yard.retry)))) ∧
  (∀ (s : State) (n : Nat), s.chip.awake = true → s.chip.yardNumber = some n → s.chip.yardIn = true → s.chip.yard.sec.lead = false →
    s.chip.yard.beaconNeeded = true → s.chip.yard.beaconHeard = false → Gives .beaconMissed s (fun c => c.yard = s.chip.yard ∧
      c.ring 44 = (s.chip.yardEvent 2 n).ring 44)) ∧
  (∀ (s : State) (e : Entry), s.chip.awake = true → s.chip.headItem 33 = some e → fld (ew e 0) 31 24 = 3 → s.chip.yard.report = none →
    s.chip.yardIn = true → s.chip.yard.sec.lead = false → Gives .reportReq s (fun c => (c.ring 33).tail = (s.chip.ring 33).tail + 1 ∧
      (∃ f : YardFrame, c.yard.report = some f ∧ f.ptype = 2 ∧ f.sent = false ∧ f.tries = 0 ∧
        f.ackReq = (s.chip.yard.sec.templates.getD (fld (ew e 0) 11 8) {}).ackReq) ∧
      ((s.chip.yard.sec.templates.getD (fld (ew e 0) 11 8) {}).alarm = true → c.yard.nextAlarm = s.chip.yard.nextAlarm + 1 ∧
        ∃ a : Alarm, c.yard.alarm = some a ∧ a.id = s.chip.yard.nextAlarm.toNat ∧ a.hops = 0))) ∧
  (∀ (s : State) (a : Alarm), s.chip.awake = true → s.chip.yard.alarm = some a → a.due = false → 7 ≤ a.waited →
    (a.tries ≠ 7 → Gives .alarmRetry s (fun c => c.yard.alarm = some { a with tries := a.tries + 1, due := true, waited := 0 } ∧
      c.yard.retry = s.chip.yard.retry + 1)) ∧
    (a.tries = 7 → Gives .alarmRetry s (fun c => c.yard.alarm = none))) ∧
  (∀ (s : State), s.chip.awake = true →
    (s.chip.yard.buckle = .requested → Gives .buckleRetry s (fun c => ∃ n, c.yard.buckle = .waiting n ∧ 1 ≤ n ∧ n ≤ 8)) ∧
    (s.chip.yard.buckle = .listening → Gives .buckleListenTimeout s (fun c => c.yard = { s.chip.yard with buckle := .idle }))) ∧
  (∀ (s : State) (cmd : List Byte), s.chip.awake = true → s.chip.hostOpen = true → cmd = s.chip.bufBytes 0x3820 40 →
    (s.chip.yardLoadResult cmd = 1 → leAt cmd 2 1 = 1 → Gives .yardKeyLoad s (fun c =>
      c.mram.keys.yard = { present := true, code := leAt cmd 3 1, key := slice cmd 16 16, number := none, era := min 65535 (s.chip.mram.keys.yard.era + 1) } ∧
      c.rf 0x3848 3 0 = 1 ∧ c.yard.member = false ∧
      c.yard.counters = [])) ∧
    (s.chip.yardLoadResult cmd = 1 → leAt cmd 2 1 = 2 → Gives .yardKeyErase s (fun c => c.mram.keys.yard.present = false ∧
      c.mram.keys.yard.era = s.chip.mram.keys.yard.era ∧ c.rf 0x3848 3 0 = 1 ∧ c.yard.member = false)) ∧
    (s.chip.yardLoadResult cmd ≠ 1 → Gives .yardKeyLoad s (fun c => c.mram.keys = s.chip.mram.keys ∧ c.rf 0x3848 3 0 = s.chip.yardLoadResult cmd ∧
      c.yard = { s.chip.yard with nonce := c.yard.nonce }))) ∧
  (∀ (s : State), s.chip.awake = true → s.chip.hostOpen = true →
    (16 ≤ s.chip.rf 0x3808 27 16 → s.chip.rf 0x3808 9 8 ≤ 2 → Gives .yardCfgArm s (fun c => c.yard = s.chip.yard ∧
      c.armedSet 0x3808 = some { arm := 0x3808, words := s.chip.shadow 0x3808 1 })) ∧
    ((s.chip.rf 0x3808 27 16 < 16 ∨ 2 < s.chip.rf 0x3808 9 8) → Gives .yardCfgArm s (fun c => c.girth.armed = s.chip.girth.armed ∧
      c.reg 0x0023 = wd (0x3808 * 65536 + 2))))

/-! ### The host port (16) and register access (00, 20) -/

/-- 16 R723, R727-R737, R740, R743: while a frame arrives HSDO carries the pending reply; when HCS has risen the frame is examined: CMD, COUNT and
range, a WRITE still executing, and the alive value, in this order. A NOP replays the stored reply; a retry is replayed and not executed; an accepted
READ takes its words in address order up to the first that crosses the girth; a frame whose form or CRC is wrong is rejected before any of this.
The model's choices: log entries 102, 101. -/
def Obligations.HostFramesAreExaminedAndAnswered : Prop :=
  (∀ (s : State) (alive fill : Nat), s.chip.awake = true → s.chip.slavePort = true →
    Gives (.nop alive fill) s (fun c => ReplySent s.chip (8 + fill) c ∧
      (s.chip.host.writing = none → s.chip.host.stored = none → Rejected s.chip 2 alive c) ∧
      (s.chip.host.writing = none → s.chip.host.stored ≠ none → c.host.pending = some .replay ∧ c.host.last = s.chip.host.last ∧
        c.host.accepted = s.chip.host.accepted ∧ c.host.stored.isSome = true) ∧
      (s.chip.host.writing ≠ none → Rejected s.chip 0x14 alive c ∧ c.host.busy = s.chip.host.busy + 1 ∧
        c.host.busyAnswered = true ∧ c.host.writing = s.chip.host.writing))) ∧
  (∀ (s : State) (alive addr : Nat) (ws : List Word) (fill : Nat), s.chip.awake = true → s.chip.slavePort = true →
    ws.length < 65536 → Gives (.push alive addr ws fill) s (fun c => ReplySent s.chip (8 + 4 * ws.length + fill) c ∧ Rejected s.chip 0x12 alive c)) ∧
  (∀ (s : State) (bytes : List Byte) (extra : Nat), s.chip.awake = true → s.chip.slavePort = true →
    (extra % 8 ≠ 0 ∨ bytes.length < 8 ∨ ((bytes.getD 0 0).toNat < 2 ∧ ∃ b ∈ bytes.drop 8, b ≠ 0xFF) → 2 ≤ bytes.length → Gives (.rejectedFrame bytes extra) s (fun c => ReplySent s.chip bytes.length c ∧
      Rejected s.chip 0x10 (bytes.getD 1 0).toNat c ∧ c.host.lenErr = s.chip.host.lenErr + 1 ∧ c.host.crcErr = s.chip.host.crcErr)) ∧
    (extra % 8 = 0 → bytes.length = 8 → (bytes.getD 0 0).toNat < 2 → beNat (slice bytes 6 2) ≠ crc16 (bytes.take 6) →
      Gives (.rejectedFrame bytes extra) s (fun c => ReplySent s.chip bytes.length c ∧
        Rejected s.chip 0x11 (bytes.getD 1 0).toNat c ∧ c.host.crcErr = s.chip.host.crcErr + 1 ∧ c.host.lenErr = s.chip.host.lenErr))) ∧
  (∀ (s : State) (alive addr count fill : Nat) (q : Request), s.chip.awake = true → s.chip.slavePort = true → alive < 256 → addr < 65536 →
    count < 65536 → q = { cmd := 1, alive := alive, addr := addr, count := count, crc := crc16 (frameBytes 1 alive addr count []) } →
    Gives (.read alive addr count fill) s (fun c => ReplySent s.chip (8 + fill) c ∧
      (256 < count ∨ 65536 < addr + count → Rejected s.chip 0x13 alive c) ∧
      (count ≤ 256 → addr + count ≤ 65536 → s.chip.host.writing ≠ none → Rejected s.chip 0x14 alive c ∧ c.host.busy = s.chip.host.busy + 1) ∧
      (count ≤ 256 → addr + count ≤ 65536 → s.chip.host.writing = none →
        (∀ l, s.chip.host.last = some l → alive = l.alive →
          (q = l → c.host.retry = s.chip.host.retry + 1 ∧ c.host.pending = some .replay ∧ c.host.last = some l ∧
            c.host.accepted = s.chip.host.accepted ∧ c.host.stored.isSome = s.chip.host.stored.isSome) ∧
          (q ≠ l → Rejected s.chip 0x15 alive c ∧ c.host.clash = s.chip.host.clash + 1)) ∧
        ((∀ l, s.chip.host.last = some l → alive ≠ l.alive) →
          c.host.last = some q ∧ c.host.accepted = s.chip.host.accepted + 1 ∧ c.host.pending = some .fresh ∧ c.regs = s.chip.regs ∧
          ∃ r : Reply, c.host.stored = some r ∧ r.alive = alive ∧ r.count = count ∧ r.status = 0 ∧
            r.gap = s.chip.host.last.any (fun l => decide (alive ≠ (l.alive + 1) % 256)) ∧
            ∀ k, k ≤ count → (∀ i, i < k → s.chip.overGirth (addr + i) = false) → (k = count ∨ s.chip.overGirth (addr + k) = true) →
              r.data = (List.range k).map (fun i =>
                { word := (({ s.chip with host := c.host } : Chip).readWord (addr + i)).1,
                  flags := (({ s.chip with host := c.host } : Chip).readWord (addr + i)).2 })))))

/-- 16 R728, R735, R739, R740, R752, 01 R52-R54: an accepted WRITE executes: its words are stored in order up to the first that crosses the girth, whose
acknowledgement lets it go on; WRITE_DONE stores its reply, pending unless a frame was answered BUSY meanwhile. A remote word of a READ arrives in time
or late. A word that is not awaited changes nothing.
The model's choices: log entry 101. -/
def Obligations.WritesExecuteAndRemoteWordsArrive : Prop :=
  (∀ (s : State) (alive addr fill : Nat) (ws : List Word) (q : Request), s.chip.awake = true → s.chip.slavePort = true → alive < 256 →
    ws.length ≤ 256 → addr < 65536 → addr + ws.length ≤ 65536 → s.chip.host.writing = none →
    q = { cmd := 2, alive := alive, addr := addr, count := ws.length, crc := crc16 (frameBytes 2 alive addr ws.length ws) } →
    (∀ l, s.chip.host.last = some l → alive ≠ l.alive) →
    (ws ≠ [] → s.chip.overGirth addr = true → Gives (.write alive addr ws fill) s (fun c => ReplySent s.chip (8 + 4 * ws.length + fill) c ∧
      c.host.last = some q ∧ c.host.accepted = s.chip.host.accepted + 1 ∧ c.host.pending = none ∧
      c.host.busyAnswered = false ∧ c.host.writing = some (ws.mapIdx (fun i x => (addr + i, x))) ∧ c.regs = s.chip.regs ∧ c.rings = s.chip.rings)) ∧
    ((∀ i, i < ws.length → ∃ r, plainRow (addr + i) r ∧ r.onDie = false) → s.chip.hostOpen = true →
      Gives (.write alive addr ws fill) s (fun c => ReplySent s.chip (8 + 4 * ws.length + fill) c ∧
        c.host.last = some q ∧ c.host.writing = some [] ∧ c.host.pending = none ∧ c.rings = s.chip.rings ∧
        (∀ i x, ws[i]? = some x → ∀ r, regRow (addr + i) = some r → c.reg (addr + i) = plainWord r (s.chip.reg (addr + i)) x) ∧
        (∀ b, (b < addr ∨ addr + ws.length ≤ b) → c.reg b = s.chip.reg b)))) ∧
  (∀ (s : State) (alive addr fill : Nat) (ws : List Word) (l : Request), s.chip.awake = true → s.chip.slavePort = true → alive < 256 →
    ws.length ≤ 256 → addr < 65536 → addr + ws.length ≤ 65536 → s.chip.host.writing = none → s.chip.host.last = some l → alive = l.alive →
    (l = { cmd := 2, alive := alive, addr := addr, count := ws.length, crc := crc16 (frameBytes 2 alive addr ws.length ws) } →
      Gives (.write alive addr ws fill) s (fun c => c.host.retry = s.chip.host.retry + 1 ∧ c.host.pending = some .replay ∧ c.regs = s.chip.regs ∧
        c.rings = s.chip.rings ∧ c.run = s.chip.run)) ∧
    (l ≠ { cmd := 2, alive := alive, addr := addr, count := ws.length, crc := crc16 (frameBytes 2 alive addr ws.length ws) } →
      Gives (.write alive addr ws fill) s (fun c => Rejected s.chip 0x15 alive c ∧ c.host.clash = s.chip.host.clash + 1))) ∧
  (∀ (s : State) (a : Nat) (w : Word) (rest : List (Nat × Word)) (r : RegRow), s.chip.awake = true → s.chip.host.writing = some ((a, w) :: rest) →
    (s.chip.overGirth a = false → Gives .remoteWriteAck s (fun c => c.host = s.chip.host ∧ c.regs = s.chip.regs)) ∧
    (s.chip.overGirth a = true → plainRow a r → s.chip.hostOpen = true →
      (rest = [] ∨ ∃ b x t, rest = (b, x) :: t ∧ s.chip.overGirth b = true) →
      Gives .remoteWriteAck s (fun c => c.host.writing = some rest ∧ c.reg a = plainWord r (s.chip.reg a) w ∧
        ∀ b, b ≠ a → c.reg b = s.chip.reg b))) ∧
  (∀ (s : State), s.chip.awake = true →
    (s.chip.host.writing = some [] → Gives .writeDone s (fun c => c.host.writing = none ∧ c.host.stored = s.chip.host.stored ∧
      (s.chip.host.busyAnswered = false → c.host.pending = some .fresh ∧ c.reg 0x3C02 = s.chip.reg 0x3C02) ∧
      (s.chip.host.busyAnswered = true → c.host.pending = s.chip.host.pending ∧ c.rf 0x3C02 2 2 = 1))) ∧
    (∀ a w rest, s.chip.host.writing = some ((a, w) :: rest) → s.chip.overGirth a = true → Gives .writeDone s (fun c => c.host = s.chip.host)) ∧
    (s.chip.host.writing = none → Gives .writeDone s (fun c => c.host = s.chip.host))) ∧
  (∀ (s : State) (late : Bool) (q : Request) (r : Reply), s.chip.awake = true → s.chip.host.last = some q → s.chip.host.stored = some r →
    (q.cmd = 1 → r.data.length < r.count → s.chip.overGirth (q.addr + r.data.length) = true → Gives (.remoteWordReady late) s (fun c =>
      c.host.last = some q ∧ ∃ more, c.host.stored = some { r with data := r.data ++ { word := (s.chip.readWord (q.addr + r.data.length)).1, late := late, flags := (s.chip.readWord (q.addr + r.data.length)).2 } :: more } ∧
        (r.data.length + 1 = r.count → more = []))) ∧
    (q.cmd ≠ 1 ∨ r.count ≤ r.data.length → Gives (.remoteWordReady late) s (fun c => c.host = s.chip.host)))

/-- 00 R7-R12, R20-R22, 01 R55, R56, 05 R275, 17 R766: a write of one register word, by its access codes and the state of its die. -/
def Obligations.RegisterWritesFollowTheirAccessCodes : Prop :=
  ∀ (s : State) (a : Nat) (w : Word), s.chip.awake = true →
    (s.chip.hostOpen = false → a ≠ 0x0031 → Gives (.registerWrite a w) s (fun c => c = s.chip.follow s.chip)) ∧
    (s.chip.hostOpen = true →
      (a < 0x8000 → regRow a = none → Gives (.registerWrite a w) s (fun c => c = s.chip.follow s.chip)) ∧
      (0xC000 ≤ a → Gives (.registerWrite a w) s (fun c => c = s.chip.follow s.chip)) ∧
      (∀ r, plainRow a r →
        (r.onDie = false ∨ remoteLane a = none ∨ (∃ l, remoteLane a = some l ∧ s.chip.live l = true) →
          Gives (.registerWrite a w) s (fun c => c.reg a = plainWord r (s.chip.reg a) w ∧ (∀ b, b ≠ a → c.reg b = s.chip.reg b) ∧
            c.rings = s.chip.rings ∧ c.run = s.chip.run ∧ c.modes = s.chip.modes ∧ c.mram = s.chip.mram)) ∧
        (∀ l, remoteLane a = some l → r.onDie = true → s.chip.live l = false →
          Gives (.registerWrite a w) s (fun c => c.reg a = (s.chip.reg a &&& ~~~(wd r.sh)) ||| (w &&& wd r.sh) ∧
            (∀ b, b ≠ a → c.reg b = s.chip.reg b) ∧ c.rings = s.chip.rings ∧ c.run = s.chip.run))) ∧
      (∀ r, plainRow a r → r.sh = 0 → r.rw = 0 → Gives (.registerWrite a w) s (fun c => c = s.chip.follow s.chip)) ∧
      (∀ r, regRow a = some r → a < 0x3F00 → ¬ (0x0800 ≤ a ∧ a < 0x0C00) → r.arm = false → r.sh = 0 → r.rw = 0 → r.w1c ≠ 0 →
        (∀ (c : Chip) (v : Word), c.trigger a v = c) → (remoteLane a = none ∨ ∃ l, remoteLane a = some l ∧ s.chip.live l = true) →
        Gives (.registerWrite a w) s (fun c => c.reg a = s.chip.reg a &&& ~~~(w &&& wd r.w1c) ∧ (∀ b, b ≠ a → c.reg b = s.chip.reg b) ∧
          c.rings = s.chip.rings ∧ c.run = s.chip.run)) ∧
      (∀ r, regRow a = some r → a < 0x3F00 → ¬ (0x0800 ≤ a ∧ a < 0x0C00 ∧ a % 16 = 6) → r.arm = true → r.rw = 0 → r.w1c = 0 → bit w 31 = true →
        (∀ (c : Chip) (v : Word), c.trigger a v = c) →
        ((armDie a).any s.chip.silent = true → Gives (.registerWrite a w) s (fun c => c.run = s.chip.run ∧ c.rings = s.chip.rings ∧
          c.girth.armed = s.chip.girth.armed ∧ ∀ b, b ≠ a → c.reg b = s.chip.reg b)) ∧
        ((armDie a).any s.chip.silent = false → r.sh ≠ 0 → Gives (.registerWrite a w) s (fun c =>
          c = ((s.chip.setReg a ((s.chip.reg a &&& ~~~(wd r.sh)) ||| (w &&& wd r.sh))).armUnit a).follow s.chip)) ∧
        ((armDie a).any s.chip.silent = false → r.sh = 0 → Gives (.registerWrite a w) s (fun c => c = (s.chip.armUnit a).follow s.chip))) ∧
      (∀ r, regRow a = some r → a < 0x3F00 → ¬ (0x0800 ≤ a ∧ a < 0x0C00 ∧ a % 16 = 6) → r.arm = false → r.sh = 0 → r.rw = 0 ∨ ownStore a = true →
        r.w1c = 0 → r.wo ≠ 0 ∨ ownStore a = true → (remoteLane a = none ∨ ∃ l, remoteLane a = some l ∧ s.chip.live l = true) →
        Gives (.registerWrite a w) s (fun c => c = (s.chip.trigger a w).follow s.chip)) ∧
      (∀ n i, a = 0x8000 + 256 * n + i → n < 64 → i < 256 →
        ((s.chip.ring n).producer ≠ 0x0B ∨ (s.chip.ring n).free ≤ i / 8 → Gives (.registerWrite a w) s (fun c => c = s.chip.follow s.chip)) ∧
        ((s.chip.ring n).producer = 0x0B → i / 8 < (s.chip.ring n).free → Gives (.registerWrite a w) s (fun c =>
          c.regs = s.chip.regs ∧ (c.ring n).head = (s.chip.ring n).head ∧ (c.ring n).tail = (s.chip.ring n).tail ∧
          c.rings = (s.chip.putEntry ((s.chip.ring n).slot ((s.chip.ring n).head + BitVec.ofNat 16 (i / 8)))
            ((s.chip.entryAt ((s.chip.ring n).slot ((s.chip.ring n).head + BitVec.ofNat 16 (i / 8)))).set (i % 8) w)).rings))) ∧
      (∀ i, a = 0x3F00 + i → i < 256 → (s.chip.mem.xfer.isSome = true →
          Gives (.registerWrite a w) s (fun c => c.mem = s.chip.mem ∧ c.rf 0x3E02 5 5 = 1)) ∧
        (s.chip.mem.xfer = none → Gives (.registerWrite a w) s (fun c => c.regs = s.chip.regs ∧
          (∀ k, k < 4 → mget 0 c.mem.buf (s.chip.rf 0x3E20 2 0 * 1024 + 4 * i + k) = BitVec.ofNat 8 (w.toNat / 256 ^ k)) ∧
          ∀ x, (x < s.chip.rf 0x3E20 2 0 * 1024 + 4 * i ∨ s.chip.rf 0x3E20 2 0 * 1024 + 4 * i + 4 ≤ x) →
            mget 0 c.mem.buf x = mget 0 s.chip.mem.buf x))))

/-- 16 R745-R749, R753, R329: the HOST_CTL set; MASTER changes when no frame runs and drops the replies; a PUSH carries whole entries of the ring that
the arbiter serves, with the next alive value; a good reply consumes them, a third bad CRC or a line error sends the PUSH again unchanged, and a refusal
stops that ring. -/
def Obligations.TheHostPortPushesAsAMaster : Prop :=
  (∀ (s : State) (ws : List (Nat × Word)), s.chip.awake = true → s.chip.hostOpen = true → ws = s.chip.shadow 0x3C00 1 ++ s.chip.shadow 0x3C10 3 →
    (s.chip.rf 0x3C10 23 16 = 0 ∨ s.chip.rf 0x3C10 13 8 = 0 ∨ 32 < s.chip.rf 0x3C10 13 8 ∨ s.chip.rf 0x3C10 7 0 < 4 ∨ s.chip.rf 0x3C10 7 0 % 2 = 1 →
      Gives .hostCtlArm s (fun c => c.rf 0x3C00 7 4 = 6 ∧ c.run = s.chip.run ∧ c.host = s.chip.host)) ∧
    (1 ≤ s.chip.rf 0x3C10 23 16 → 1 ≤ s.chip.rf 0x3C10 13 8 → s.chip.rf 0x3C10 13 8 ≤ 32 → 4 ≤ s.chip.rf 0x3C10 7 0 → s.chip.rf 0x3C10 7 0 % 2 = 0 →
      (∀ n, n < 64 → bit (s.chip.reg (0x3C11 + n / 32)) (n % 32) = true → (s.chip.ring n).consumer ≠ 0x0B → Gives .hostCtlArm s (fun c =>
        c.rf 0x3C00 7 4 = 7 ∧ c.run = s.chip.run ∧ c.host = s.chip.host)) ∧
      ((∀ n, n < 64 → bit (s.chip.reg (0x3C11 + n / 32)) (n % 32) = true → (s.chip.ring n).consumer = 0x0B) →
        (bit (s.chip.reg 0x3C00) 0 = s.chip.host.master → Gives .hostCtlArm s (fun c => c.rf 0x3C00 7 4 = 0 ∧
          c.run = (s.chip.applyWords ws).run ∧ c.host = { s.chip.host with masterNext := none })) ∧
        (bit (s.chip.reg 0x3C00) 0 ≠ s.chip.host.master → Gives .hostCtlArm s (fun c => c.rf 0x3C00 7 4 = 0 ∧ c.run = s.chip.run ∧
          c.armedSet 0x3C00 = some { arm := 0x3C00, words := ws } ∧
          c.host = { s.chip.host with masterNext := some (!s.chip.host.master) }))))) ∧
  (∀ (s : State) (m : Bool) (a : ArmedSet), s.chip.awake = true → s.chip.host.masterNext = some m → s.chip.armedSet 0x3C00 = some a →
    (s.chip.host.writing = none → s.chip.host.mstOut = none → Gives .masterSwitch s (fun c => c.run = (s.chip.applyWords a.words).run ∧
      c.host = { s.chip.host with master := m, masterNext := none, pending := none, stored := none })) ∧
    (s.chip.host.writing.isSome = true ∨ s.chip.host.mstOut.isSome = true → Gives .masterSwitch s (fun c => c.run = s.chip.run ∧ c.host = s.chip.host))) ∧
  (∀ (s : State), s.chip.awake = true → s.chip.host.master = true → s.chip.lands.vioGood = true → s.chip.hostOpen = true →
    (∀ n k, s.chip.host.mstOut = none → PushNext s.chip n → k = min (s.chip.runF 0x3C10 13 8) (s.chip.ring n).fill → Gives .masterPush s (fun c =>
      c.host.hsdo = (let b := frameBytes 3 (s.chip.host.mstAlive + 1).toNat n (8 * k) ((List.range k).flatMap (fun i => s.chip.tailEntry n i)); b ++ beBytes 2 (crc16 b)) ∧
      c.host.mstOut = some (n, k) ∧ c.host.mstAlive = s.chip.host.mstAlive + 1 ∧ c.host.mstRing = n ∧ c.host.mstResend = s.chip.host.mstResend ∧
      c.host.pushed = s.chip.host.pushed + 1 ∧ c.rings = s.chip.rings)) ∧
    (s.chip.host.mstOut = none → (∀ n, n < 64 → s.chip.runB (0x3C11 + n / 32) (n % 32) = true → (s.chip.ring n).consumer = 0x0B →
      (s.chip.ring n).fill = 0 ∨ n ∈ s.chip.host.mstStopped) → Gives .masterPush s (fun c => c.host = s.chip.host ∧ c.rings = s.chip.rings)) ∧
    (∀ n k, s.chip.host.mstOut = some (n, k) → s.chip.host.mstResend = true → Gives .masterPush s (fun c =>
      c.host.hsdo = (let b := frameBytes 3 s.chip.host.mstAlive.toNat n (8 * k) ((List.range k).flatMap (fun i => s.chip.tailEntry n i)); b ++ beBytes 2 (crc16 b)) ∧
      c.host.mstOut = some (n, k) ∧ c.host.mstAlive = s.chip.host.mstAlive ∧ c.host.mstResend = false ∧ c.host.resent = s.chip.host.resent + 1)) ∧
    (∀ n k (st e : Nat) (ok : Bool), s.chip.host.mstOut = some (n, k) → s.chip.host.mstResend = false →
      (ok = true → st ≤ 1 → e % 256 = s.chip.host.mstAlive.toNat → (s.chip.ring n).fill ≠ 0 → Gives (.masterNop st e ok) s (fun c =>
        c.host.mstOut = none ∧ c.host.mstStatus = st ∧ (c.ring n).head = (s.chip.ring n).head ∧ (c.ring n).tail = (s.chip.ring n).tail + BitVec.ofNat 16 k)) ∧
      (ok = true → st = 0x14 → Gives (.masterNop st e ok) s (fun c => c.host = { s.chip.host with mstFails := 0, mstStatus := st } ∧
        c.rings = s.chip.rings)) ∧
      (ok = true → st = 0x10 ∨ st = 0x11 → Gives (.masterNop st e ok) s (fun c => c.host.mstOut = some (n, k) ∧ c.host.mstResend = true ∧
        c.rings = s.chip.rings)) ∧
      (ok = false → s.chip.host.mstFails < 2 → Gives (.masterNop st e ok) s (fun c => c.host.mstFails = s.chip.host.mstFails + 1 ∧
        c.host.mstResend = false ∧ c.host.mstOut = some (n, k) ∧ c.rings = s.chip.rings)) ∧
      (ok = false → s.chip.host.mstFails = 2 → Gives (.masterNop st e ok) s (fun c => c.host.mstResend = true ∧ c.host.mstOut = some (n, k) ∧
        c.rings = s.chip.rings)) ∧
      (ok = true → (st = 0x02 ∨ st = 0x12 ∨ st = 0x13 ∨ st = 0x15) → Gives (.masterNop st e ok) s (fun c => c.host.mstOut = none ∧
        c.host.mstStopped = s.chip.host.mstStopped ++ [n] ∧ c.rf 0x3C13 6 6 = 1 ∧ c.rings = s.chip.rings))))

/-! ### The memory port (17) -/

/-- 17 R775, R779, R780, R782, R784-R788, R790, R792: NOR requests. A mapped read gives the bytes that the NOR holds, 0xFF from its density on, suspends an
erase where the NOR can, and waits otherwise; a program of one page and a sector erase run, wait or are refused; once WIP is clear a program that reads
back intact stands in the NOR, and an erase leaves 0xFF; a NOR that stays silent is refused until the next start. Nothing else in the NOR changes.
The model's choices: log entries 107, 12. -/
def Obligations.TheNorIsReadProgrammedAndErased : Prop :=
  (∀ (s : State) (a n : Nat), s.chip.awake = true → s.chip.mem.state ≠ .undiscovered → a + n ≤ 2 ^ 24 →
    (s.chip.mem.state = .silent → Gives (.mappedRead a n) s (fun c => c.mem = { s.chip.mem with answer := 3 })) ∧
    (s.chip.mem.state ≠ .silent → s.chip.therm.trip = true → Gives (.mappedRead a n) s (fun c => c.mem = { s.chip.mem with answer := 4 })) ∧
    (s.chip.mem.state ≠ .silent → s.chip.therm.trip = false → s.chip.lands.vioGood = false →
      Gives (.mappedRead a n) s (fun c => c.mem = { s.chip.mem with answer := 6 })) ∧
    (s.chip.norRefusal = none → s.chip.busTaken = true ∨ (s.chip.mem.state = .erasing ∧ s.chip.mem.par.suspendOk = false) →
      Gives (.mappedRead a n) s (fun c => c.mem = { s.chip.mem with readWaits := some (a, n), answer := 1 })) ∧
    (s.chip.norRefusal = none → s.chip.busTaken = false → (s.chip.mem.state = .erasing → s.chip.mem.par.suspendOk = true) →
      Memory.wf 0xFF s.chip.mem.nor = true → Gives (.mappedRead a n) s (fun c =>
        c.mem.readData = (List.range n).map (fun i => if a + i < s.chip.mem.par.density then mget 0xFF s.chip.mem.nor (a + i) else 0xFF) ∧
        c.mem.answer = 0 ∧ c.mem.readWaits = none ∧ c.mem.nor = s.chip.mem.nor ∧ c.mem.state = s.chip.mem.state ∧ c.mem.erase = s.chip.mem.erase ∧
        c.mem.suspends = s.chip.mem.suspends + (if s.chip.mem.state = .erasing then 1 else 0) ∧ c.rings = s.chip.rings ∧ c.regs = s.chip.regs))) ∧
  (∀ (s : State) (a : Nat) (bs : List Byte), s.chip.awake = true → s.chip.mem.state ≠ .undiscovered → s.chip.norRefusal = none →
    (bs ≠ [] → a % max 1 s.chip.mem.par.page + bs.length ≤ max 1 s.chip.mem.par.page → s.chip.mem.program = none →
      (s.chip.therm.warning = true → Gives (.pageProgram a bs) s (fun c => c.mem = { s.chip.mem with answer := 4 })) ∧
      (s.chip.therm.warning = false →
        (s.chip.mem.erase.isSome = true ∨ s.chip.mem.xfer.isSome = true → Gives (.pageProgram a bs) s (fun c =>
          c.mem = { s.chip.mem with program := some { addr := a, bytes := bs }, answer := 1 })) ∧
        (s.chip.mem.erase = none → s.chip.mem.xfer = none → Gives (.pageProgram a bs) s (fun c =>
          c.mem.program = some { addr := a, bytes := bs, sent := true } ∧ c.mem.nor = s.chip.mem.nor ∧ c.mem.lines = [] ∧
          c.mem.programs = s.chip.mem.programs + 1 ∧ c.mem.answer = 1)))) ∧
    (s.chip.mem.erase = none → s.chip.busTaken = false →
      (s.chip.therm.warning = true → Gives (.sectorErase a) s (fun c => c.mem = { s.chip.mem with answer := 4 })) ∧
      (s.chip.therm.warning = false → Gives (.sectorErase a) s (fun c => c.mem.erase = some (a - a % 4096) ∧ c.mem.state = .erasing ∧
        c.mem.nor = s.chip.mem.nor ∧ c.mem.lines = [] ∧ c.mem.erases = s.chip.mem.erases + 1 ∧ c.mem.answer = 0)))) ∧
  (∀ (s : State), s.chip.awake = true →
    (∀ intact, Gives (.statusPoll true intact) s (fun c => c.mem = s.chip.mem)) ∧
    (∀ p, s.chip.mem.program = some p → p.sent = true →
      Gives (.statusPoll false true) s (fun c => NorHolds s.chip.mem c.mem p.addr p.bytes ∧ c.mem.program = none ∧
        (BusIdle s.chip.mem → c.mem.answer = 0)) ∧
      Gives (.statusPoll false false) s (fun c => c.mem.program = none ∧ c.rf 0x3E02 2 2 = 1 ∧ (BusIdle s.chip.mem → c.mem.answer = 5) ∧
        ∀ x, (x < p.addr ∨ p.addr + p.bytes.length ≤ x) → mget 0xFF c.mem.nor x = mget 0xFF s.chip.mem.nor x)) ∧
    (∀ a intact, s.chip.mem.erase = some a → s.chip.mem.state = .erasing → (∀ p, s.chip.mem.program = some p → p.sent = false) →
      Gives (.statusPoll false intact) s (fun c => NorHolds s.chip.mem c.mem a (List.replicate 4096 0xFF) ∧ c.mem.erase = none ∧
        c.mem.state = .ready ∧ (∀ p, s.chip.mem.program = some p → s.chip.mem.xfer = none → c.mem.program = some { p with sent := true })))) ∧
  (∀ (s : State), s.chip.awake = true → s.chip.mem.state = .erasing →
    (s.chip.mem.par.suspendOk = true → Gives .eraseReadTimeout s (fun c => c.mem = s.chip.mem)) ∧
    (s.chip.mem.par.suspendOk = false → s.chip.mem.xfer = none → s.chip.mem.readWaits.isSome = true → Gives .eraseReadTimeout s (fun c =>
      c.mem = { s.chip.mem with readWaits := none, answer := 2 })) ∧
    (∀ x, s.chip.mem.par.suspendOk = false → s.chip.mem.xfer = some x → x.cs = 0 → x.init = none → Gives .eraseReadTimeout s (fun c =>
      c.mem.result = 6 ∧ c.mem.nor = s.chip.mem.nor ∧ c.mem.buf = s.chip.mem.buf ∧ (BusIdle s.chip.mem → s.chip.mem.program = none → c.mem.xfer = none)))) ∧
  (∀ (s : State), s.chip.awake = true →
    (s.chip.starting = false → s.chip.started = true → s.chip.mem.state ≠ .undiscovered → s.chip.mem.state ≠ .silent →
      Gives .nvmSilent s (fun c => c.mem.state = .silent ∧ c.mem.program = none ∧ c.mem.erase = none ∧ c.mem.readWaits = none ∧ c.mem.answer = 3 ∧
        c.rf 0x3E02 0 0 = 1 ∧ (s.chip.mem.program = none → s.chip.mem.erase = none → c.mem.nor = s.chip.mem.nor))) ∧
    (s.chip.starting = true → s.chip.start.stirrupStart = false → Gives .nvmSilent s (fun c => c.mem.state = .silent ∧ c.mode = 1 ∧
      c.start.phase = .failed)))

/-- 17 R756, R762-R766, R782, R789, R794, R795: a GO is checked in its order and refused with the first result that applies, or the transfer begins; at its
end the received bits stand in the buffer, KEEP holds the chip select low, and the result is 0; a chain without continuation ends; a set of the port waits
while its chip select is in use; an accepted start-up list runs in entry order.
The model's choices: log entries 107, 105. -/
def Obligations.MemoryTransfersFollowTheirChecks : Prop :=
  (∀ (s : State) (w : Word) (len cs : Nat), s.chip.awake = true → s.chip.hostOpen = true → w = s.chip.reg 0x3E18 → len = s.chip.rf 0x3E1A 15 0 →
    cs = fld w 31 28 → Gives .memXferGo s (fun c =>
      if (4 ≤ cs ∧ cs < 8) ∨ fld w 25 24 = 3 ∨ fld w 23 22 = 3 ∨ (fld w 25 24 ≠ 0 ∧ len % 4 ≠ 0) then c.mem = { s.chip.mem with result := 2 }
      else if cs = 0 ∧ (fld w 7 0 ∉ [0x03, 0x0B, 0x05, 0x9F, 0x5A] ∨ bit w 26 = false ∨ bit w 8 = false ∨ bit w 27 = true) then
        c.mem = { s.chip.mem with result := 3 }
      else if 8 ≤ cs ∧ s.chip.gpClaimed (cs - 8) = false then c.mem = { s.chip.mem with result := 2 }
      else if s.chip.xferLong w len = true then c.mem = { s.chip.mem with result := 4 }
      else if cs = 0 ∧ s.chip.mem.state = .silent then c.mem = { s.chip.mem with result := 5 }
      else if s.chip.mem.xfer.isSome = true ∨ s.chip.therm.trip = true then c.mem = { s.chip.mem with result := 6 }
      else if s.chip.lands.vioGood = false then c.mem = { s.chip.mem with result := 8 } ∧ c.rf 0x3E02 3 3 = 1
      else c.mem.xfer = some { cs := cs, keep := bit w 27, rx := bit w 26, len := len, cmd := fld w 7 0 } ∧ c.mem.result = 1 ∧
        c.mem.nor = s.chip.mem.nor ∧ c.mem.buf = s.chip.mem.buf ∧ c.regs = s.chip.regs)) ∧
  (∀ (s : State) (data : List Byte) (x : Transfer2), s.chip.awake = true → s.chip.mem.xfer = some x →
    (x.cs = 0 → s.chip.mem.state = .erasing → s.chip.mem.par.suspendOk = false → Gives (.xferDone data) s (fun c => c.mem = s.chip.mem)) ∧
    ((x.cs = 0 → s.chip.mem.state = .erasing → s.chip.mem.par.suspendOk = true) → Gives (.xferDone data) s (fun c =>
      (x.init = none → c.mem.result = 0) ∧ c.mem.nor = s.chip.mem.nor ∧
      (x.keep = true → c.mem.chain = some x.cs) ∧ (x.keep = false → s.chip.mem.chain = some x.cs → c.mem.chain = none) ∧
      (x.keep = false → s.chip.mem.chain ≠ some x.cs → c.mem.chain = s.chip.mem.chain) ∧
      (x.rx = false → c.mem.buf = s.chip.mem.buf) ∧
      (x.rx = true → ∀ i, (8 * i + 8 ≤ x.len → mget 0 c.mem.buf i = data.getD i 0) ∧ (x.len ≤ 8 * i → mget 0 c.mem.buf i = mget 0 s.chip.mem.buf i)) ∧
      (BusIdle s.chip.mem → s.chip.mem.program = none → c.mem.xfer = none) ∧
      (s.chip.runB 0x3E00 16 = false → c.rings = s.chip.rings)))) ∧
  (∀ (s : State), s.chip.awake = true →
    (s.chip.mem.chain = none → Gives .keepChainTimeout s (fun c => c.mem = s.chip.mem)) ∧
    (∀ cs, s.chip.mem.chain = some cs → (∀ x, s.chip.mem.xfer = some x → x.cs ≠ cs) →
      Gives .keepChainTimeout s (fun c => c.mem.chain = none ∧ c.mem.result = 7 ∧ c.mem.nor = s.chip.mem.nor ∧ c.mem.buf = s.chip.mem.buf)) ∧
    (∀ x, s.chip.mem.chain = some x.cs → s.chip.mem.xfer = some x → Gives .keepChainTimeout s (fun c => c.mem = s.chip.mem))) ∧
  (∀ (s : State) (ws : List (Nat × Word)) (res : Nat), s.chip.awake = true → s.chip.hostOpen = true →
    res = (if divBad (s.chip.reg 0x3E08) 16 || [0x3E0A, 0x3E0C, 0x3E0E, 0x3E10].any (fun a => divBad (s.chip.reg a) 254) then 6
      else if s.chip.rf 0x3E12 1 0 = 3 then 2 else 0) →
    ws = [(0x3E00, putFld (s.chip.reg 0x3E00) 3 0 0)] ++ s.chip.shadow 0x3E08 11 →
    (res ≠ 0 → Gives .memCtlArm s (fun c => c.rf 0x3E00 3 0 = res ∧ c.run = s.chip.run ∧ c.girth.armed = s.chip.girth.armed ∧ c.mem = s.chip.mem)) ∧
    (res = 0 → s.chip.csBusy ws = true → Gives .memCtlArm s (fun c => c.rf 0x3E00 3 0 = 0 ∧ c.run = s.chip.run ∧
      c.armedSet 0x3E00 = some { arm := 0x3E00, words := ws })) ∧
    (res = 0 → s.chip.csBusy ws = false → Gives .memCtlArm s (fun c => c.rf 0x3E00 3 0 = 0 ∧ c.run = (s.chip.applyWords ws).run))) ∧
  (∀ (s : State), s.chip.awake = true → s.chip.hostOpen = true →
    (s.chip.initEntries.any s.chip.initBad = true → Gives .memInitArm s (fun c => c.rf 0x3E50 3 0 = 2 ∧ c.run = s.chip.run ∧ c.mem = s.chip.mem)) ∧
    (s.chip.initEntries.any s.chip.initBad = false →
      (s.chip.therm.trip = true → Gives .memInitArm s (fun c => c.run = (s.chip.applyWords (s.chip.shadow 0x3E40 16)).run ∧
        c.mem = { s.chip.mem with initLeft := [] })) ∧
      (s.chip.therm.trip = false → s.chip.busTaken = true ∨ s.chip.lands.vioGood = false → Gives .memInitArm s (fun c =>
        c.run = (s.chip.applyWords (s.chip.shadow 0x3E40 16)).run ∧ c.mem = { s.chip.mem with initLeft := s.chip.initEntries })) ∧
      (∀ i rest, s.chip.therm.trip = false → s.chip.busTaken = false → s.chip.lands.vioGood = true → s.chip.initEntries = i :: rest →
        Gives .memInitArm s (fun c => c.mem.initLeft = rest ∧ c.mem.xfer = some { cs := s.chip.rf (0x3E40 + i) 31 28, keep := false, rx := false, len := 8 * s.chip.rf (0x3E40 + i) 27 26, cmd := 0, init := some i } ∧
          c.mem.nor = s.chip.mem.nor ∧ c.mem.buf = s.chip.mem.buf))))

/-! ### Image update, trial and settings (18) -/

/-- 18 R801-R807, R809, R815, R835, R836, R839: the update engine consumes the oldest entry of ring 6 and acts on it, or sets LAST_ERR and acts not; a complete
chunk is erased, programmed and read back, and its bit is committed; the last one ends the download.
The model's choices: log entry 108. -/
def Obligations.TheUpdateEngineDownloadsAndActivates : Prop :=
  (∀ (s : State) (e : Entry) (r : UpdRec), UpdEntry s.chip e → r = s.chip.upd.record →
    (fld (ew e 0) 31 24 = 1 → Gives .begin s (fun c => Taken6 s.chip c ∧
      if s.chip.mem.state = .silent then c.upd = { s.chip.upd with record := { r with lastErr := 6 } } ∧ c.mram = s.chip.mram
      else if r.state = 3 ∨ r.state = 5 then RecordIs s.chip { r with lastErr := 2 } c
      else if (ew e 1).toNat % 4 ≠ 0 ∨ (ew e 1).toNat < 352 ∨ 2097152 < (ew e 1).toNat then RecordIs s.chip { r with lastErr := 1 } c
      else if r.state ≠ 0 ∧ bit (ew e 0) 0 = false ∧ (ew e 1).toNat = r.total ∧ (ew e 2).toNat = r.version then c.upd = s.chip.upd
      else RecordIs s.chip { r with state := 1, target := 1 - s.chip.start.slot, total := (ew e 1).toNat, version := (ew e 2).toNat, bitmap := 0 } c ∧
        c.upd.staging = [])) ∧
    (∀ n off chunk bs, fld (ew e 0) 31 24 = 2 → n = fld (ew e 0) 23 16 → n % 4 = 0 → 4 ≤ n → n ≤ 24 → off = fld (ew e 1) 15 0 → off % 4 = 0 →
      chunk = fld (ew e 1) 31 16 → bs = (wordsToBytes (e.drop 2)).take n → Gives .data s (fun c => Taken6 s.chip c ∧
        if s.chip.mem.state = .silent then c.upd = { s.chip.upd with record := { r with lastErr := 6 } } ∧ c.mram = s.chip.mram
        else if r.state ≠ 1 then RecordIs s.chip { r with lastErr := 2 } c
        else if r.chunks ≤ chunk ∨ 4096 < off + bs.length ∨ r.total < 4096 * chunk + off + bs.length then RecordIs s.chip { r with lastErr := 1 } c
        else if r.bitmap.getLsbD chunk = true then c.upd = { s.chip.upd with dup := s.chip.upd.dup + 1 }
        else if (∃ b ∈ s.chip.upd.staging, b.chunk = chunk ∧ b.written = false) then c.upd = { s.chip.upd with
          staging := s.chip.upd.staging.map (fun b => if b.chunk = chunk then b.add off bs else b) }
        else if s.chip.upd.staging.length < 2 ∧ (∀ b ∈ s.chip.upd.staging, b.chunk ≠ chunk) then c.upd = { s.chip.upd with
          staging := s.chip.upd.staging ++ [({ chunk := chunk } : Staging).add off bs] }
        else c.upd.dropped = s.chip.upd.dropped + 1 ∧ c.upd.staging = s.chip.upd.staging ∧ RecordIs s.chip { r with lastErr := 3 } c)) ∧
    (fld (ew e 0) 31 24 = 3 → s.chip.mem.state ≠ .silent →
      (r.state ≠ 4 → Gives .activate s (fun c => Taken6 s.chip c ∧ RecordIs s.chip { r with lastErr := 2 } c)) ∧
      (r.state = 4 → bit (ew e 0) 0 = false → Gives .activate s (fun c => Taken6 s.chip c ∧ c.start = s.chip.start ∧
        RecordIs s.chip { r with boot := r.target, state := 5, trialStarts := 0, trialSec := 0, checks := 0, migBank := 0xFF, failedCheck := 0xFF } c)) ∧
      (r.state = 4 → bit (ew e 0) 0 = true →
        (s.chip.atWarning = false → Gives .activate s (StartBegun 4)) ∧
        (s.chip.atWarning = true → Gives .activate s (fun c => c.upd.after = 1 ∧ c.start = s.chip.start ∧ c.upd.record.state = 5 ∧
          c.upd.record.boot = r.target)))) ∧
    (fld (ew e 0) 31 24 = 4 →
      (r.state = 1 ∨ r.state = 2 ∨ r.state = 4 → Gives .abort s (fun c => Taken6 s.chip c ∧ c.upd.staging = [] ∧
        RecordIs s.chip { r with state := 0, bitmap := 0 } c)) ∧
      (r.state ≠ 1 → r.state ≠ 2 → r.state ≠ 4 → Gives .abort s (fun c => Taken6 s.chip c ∧ RecordIs s.chip { r with lastErr := 2 } c))) ∧
    (fld (ew e 0) 31 24 = 5 →
      (r.state = 5 → s.chip.atWarning = false → Gives .revert s (StartBegun 4)) ∧
      (r.state = 5 → s.chip.atWarning = true → Gives .revert s (fun c => c.upd.after = 1 ∧ c.start = s.chip.start ∧
        RecordIs s.chip { r with trialStarts := 3 } c)) ∧
      (r.state ≠ 5 → Gives .revert s (fun c => Taken6 s.chip c ∧ RecordIs s.chip { r with lastErr := 2 } c))) ∧
    (fld (ew e 0) 31 24 = 0 ∨ 5 < fld (ew e 0) 31 24 ∨ (fld (ew e 0) 31 24 = 2 ∧ (fld (ew e 0) 23 16 % 4 ≠ 0 ∨ fld (ew e 0) 23 16 < 4 ∨
        24 < fld (ew e 0) 23 16 ∨ fld (ew e 1) 15 0 % 4 ≠ 0)) →
      Gives .updateEntryInvalid s (fun c => Taken6 s.chip c ∧ RecordIs s.chip { r with lastErr := 1 } c))) ∧
  (∀ (s : State) (b : Staging) (r : UpdRec) (a : Nat), s.chip.awake = true → s.chip.started = true → s.chip.mode ≠ 7 → r = s.chip.upd.record → r.state = 1 →
    s.chip.upd.staging.find? (fun b => b.complete r.total && !b.written) = some b → a = slotBase r.target + 4096 * b.chunk →
    (s.chip.mem.state = .silent → ∀ i, Gives (.chunkWrite i) s (fun c => c.mem = s.chip.mem ∧ c.mram = s.chip.mram ∧ c.upd.record = { r with lastErr := 6 } ∧
      c.upd.staging = s.chip.upd.staging.filter (fun x => x.chunk != b.chunk))) ∧
    (s.chip.mem.state ≠ .silent → s.chip.atWarning = true →
      Gives (.chunkWrite true) s (fun c => c = s.chip.follow s.chip) ∧
      Gives (.chunkWrite false) s (fun c => RecordIs s.chip { r with lastErr := 5 } c ∧
        c.upd.staging = s.chip.upd.staging.filter (fun x => x.chunk != b.chunk))) ∧
    (s.chip.mem.state ≠ .silent → s.chip.atWarning = false →
      (s.chip.lands.vioGood = true → Memory.wf 0xFF b.bytes = true → Gives (.chunkWrite true) s (fun c =>
        (∀ x, mget 0xFF c.mem.nor x = if a ≤ x ∧ x < a + 4096 then (if 4096 * b.chunk + (x - a) < r.total then mget 0xFF b.bytes (x - a) else 0xFF)
          else mget 0xFF s.chip.mem.nor x) ∧
        c.upd = { s.chip.upd with staging := s.chip.upd.staging.map (fun x => if x.chunk = b.chunk then { x with written := true } else x) } ∧
        c.mem.erases = s.chip.mem.erases + 1 ∧ c.mram = s.chip.mram)) ∧
      Gives (.chunkWrite false) s (fun c => RecordIs s.chip { r with lastErr := 4 } c ∧
        c.upd.staging = s.chip.upd.staging.filter (fun x => x.chunk != b.chunk) ∧
        ∀ x, (x < a ∨ a + 4096 ≤ x) → mget 0xFF c.mem.nor x = mget 0xFF s.chip.mem.nor x))) ∧
  (∀ (s : State) (b : Staging) (r : UpdRec), s.chip.awake = true → s.chip.started = true → s.chip.mode ≠ 7 → r = s.chip.upd.record → r.state = 1 →
    s.chip.upd.staging.find? (fun b => b.written) = some b → Gives .chunkCommit s (fun c =>
      c.upd.staging = s.chip.upd.staging.filter (fun x => x.chunk != b.chunk) ∧
      (b.chunk < 512 → ∀ i, c.upd.record.bitmap.getLsbD i = (r.bitmap.getLsbD i || decide (i = b.chunk))) ∧
      ((∀ i, i < r.chunks → r.bitmap.getLsbD i = true ∨ i = b.chunk) → b.chunk < 512 → c.upd.record.state = 2) ∧
      ((∃ i, i < r.chunks ∧ r.bitmap.getLsbD i = false ∧ i ≠ b.chunk) → b.chunk < 512 →
        RecordIs s.chip { r with bitmap := c.upd.record.bitmap } c ∧ c.rings = s.chip.rings)))

/-- 18 R811-R813, R818-R822, R830-R832, R834, R836: a verification commits VERIFYING, then its outcome by the checks of the image in the slot not loaded; the
trial checks set their bits, the fifth confirms the image, which is then named by the boot pointer; a failed check waits in KEEPER for a retry; the settings
are saved or cleared, and held on trial; an accepted key-roll command sets or clears NEXT_KEY_HASH.
The model's choices: log entries 109, 110. -/
def Obligations.ImagesAreVerifiedTriedAndConfirmed : Prop :=
  (∀ (s : State) (r : UpdRec), s.chip.awake = true → s.chip.started = true → s.chip.mode ≠ 7 → r = s.chip.upd.record → r.state = 2 ∨ r.state = 3 →
    s.chip.atWarning = false →
    (s.chip.mem.state = .silent → Gives .verification s (fun c => c.upd.record = { r with lastErr := 6 } ∧ c.mram = s.chip.mram)) ∧
    (s.chip.mem.state ≠ .silent → ∀ slot, slot = 1 - s.chip.start.slot →
      (s.chip.mem.imageFault slot = some 2 → Gives .verification s (fun c => c.upd.record = { r with state := 1, bitmap := 0, lastErr := 7 })) ∧
      (∀ k, s.chip.mem.imageFault slot = some k → k ≠ 2 →
        Gives .verification s (fun c => c.upd.record = { r with state := 1, bitmap := 0, lastErr := 1 })) ∧
      (s.chip.mem.imageFault slot = none →
        (s.chip.mem.imageSigned slot s.chip.mram.keys r.nextKeyHash = false →
          Gives .verification s (fun c => c.upd.record = { r with state := 1, bitmap := 0, lastErr := 8 })) ∧
        (s.chip.mem.imageSigned slot s.chip.mram.keys r.nextKeyHash = true →
          (imgLen (s.chip.mem.header slot) + 96 ≠ r.total ∨ imgVersion (s.chip.mem.header slot) ≠ r.version →
            Gives .verification s (fun c => c.upd.record = { r with state := 1, bitmap := 0, lastErr := 1 })) ∧
          (imgLen (s.chip.mem.header slot) + 96 = r.total → imgVersion (s.chip.mem.header slot) = r.version →
            Gives .verification s (fun c => c.upd.record = { r with state := 4 } ∧
              c.mram.bytes = ((s.chip.mram.commit 2 1 ({ r with state := 3 } : UpdRec).body).commit 2 1 ({ r with state := 4 } : UpdRec).body).bytes)))))) ∧
  (∀ (s : State) (k : Nat) (r : UpdRec), s.chip.awake = true → s.chip.started = true → s.chip.upd.trial = true → r = s.chip.upd.record → r.state = 5 →
    s.chip.start.retryDue = false → k < 5 → r.checks.getLsbD k = false →
    ((k = 0 ∨ (k = 1 ∧ s.chip.live 0 = true ∧ s.chip.mon.failed.toNat / 16 % 128 = 0) ∨
        (k = 2 ∧ rgPowered s.chip.mode = true ∧ s.chip.tb.mlg = true ∧ s.chip.acq.state = .idle) ∨
        (k = 3 ∧ rcPowered s.chip.mode = true ∧ (s.chip.radio.state = .idle ∨ s.chip.radio.state = .searching)) ∨
        (k = 4 ∧ (s.chip.upd.reported = true ∨ (0 < s.chip.upd.confirmHours ∧ s.chip.upd.confirmHours * 3600 ≤ s.chip.upd.trialSeconds) ∨
          (s.chip.upd.confirmHours = 0 ∧ s.chip.yardIn = false)))) →
      ((r.checks ||| BitVec.ofNat 5 (2 ^ k)).toNat ≠ 31 → Gives (.trialCheck k) s (fun c =>
        RecordIs s.chip { r with checks := r.checks ||| BitVec.ofNat 5 (2 ^ k) } c ∧ c.mem = s.chip.mem)) ∧
      ((r.checks ||| BitVec.ofNat 5 (2 ^ k)).toNat = 31 →
        (s.chip.atWarning = true → Gives (.trialCheck k) s (fun c => c.upd.after = 3 ∧ c.upd.record.state = 0 ∧ c.upd.record.confirmed = r.boot ∧
          c.mem = s.chip.mem)) ∧
        (s.chip.atWarning = false → Gives (.trialCheck k) s (fun c => c.upd.trial = false ∧ c.upd.heldSave = false ∧ c.upd.record.state = 0 ∧
          c.upd.record.confirmed = r.boot ∧ c.upd.record.trialStarts = 0 ∧ c.upd.record.migBank = 0xFF ∧
          (s.chip.mem.state ≠ .silent → s.chip.mem.state ≠ .undiscovered → s.chip.lands.vioGood = true →
            NorHolds s.chip.mem c.mem s.chip.mem.nextBoot.1 (padTo 4096 0xFF (bootBytes s.chip.mem.nextBoot.2 r.boot))) ∧
          (s.chip.mem.state = .silent ∨ s.chip.lands.vioGood = false → c.rf 0x4060 21 21 = 1 ∧ c.mem = s.chip.mem) ∧
          (leNat r.nextKeyHash ≠ 0 → s.chip.upd.signerHash = r.nextKeyHash → c.mram.keys.imageKeyHash = r.nextKeyHash ∧
            c.upd.record.nextKeyHash = List.replicate 32 0) ∧
          (s.chip.upd.signerHash ≠ r.nextKeyHash → c.mram.keys = s.chip.mram.keys ∧ c.upd.record.nextKeyHash = r.nextKeyHash))))) ∧
    ((k = 1 ∧ s.chip.live 0 = false) ∨ (k = 2 ∧ s.chip.tb.mlg = false) ∨ (k = 3 ∧ rcPowered s.chip.mode = false) →
      Gives (.trialCheck k) s (fun c => c = s.chip.follow s.chip)) ∧
    (1 ≤ k → k ≤ 3 →
      (s.chip.atWarning = true → Gives (.checkFailed k) s (fun c => c.upd.after = 2 ∧ c.mode = s.chip.mode ∧
        RecordIs s.chip { r with lastErr := 9, failedCheck := k } c)) ∧
      (s.chip.atWarning = false → Gives (.checkFailed k) s (fun c => c.start.retryDue = true ∧ c.upd.record = { r with lastErr := 9, failedCheck := k } ∧
        (s.chip.modes.transition = none → s.chip.mode ≠ 1 → c.modes.transition = some (1, .start)))))) ∧
  (∀ (s : State) (r : UpdRec), s.chip.awake = true → r = s.chip.upd.record →
    (s.chip.upd.trialRun < 600 → Gives .trialSecCommit s (fun c => c = s.chip.follow s.chip)) ∧
    (600 ≤ s.chip.upd.trialRun → s.chip.upd.trial = true → r.state = 5 → Gives .trialSecCommit s (fun c => c.upd.trialRun = 0 ∧
      RecordIs s.chip { r with trialSec := r.trialSec + s.chip.upd.trialRun } c))) ∧
  (∀ (s : State), s.chip.awake = true → s.chip.hostOpen = true →
    (s.chip.upd.record.state = 5 → Gives .settingsSave s (fun c => c.upd = { s.chip.upd with heldSave := true, saveResult := 1 } ∧ c.mram = s.chip.mram) ∧
      Gives .settingsClear s (fun c => c.upd = { s.chip.upd with saveResult := 4 } ∧ c.mram = s.chip.mram)) ∧
    (s.chip.upd.record.state ≠ 5 →
      (s.chip.upd.unreadable = true → Gives .settingsSave s (fun c => c.upd = { s.chip.upd with saveResult := 3 } ∧ c.mram = s.chip.mram)) ∧
      (s.chip.upd.unreadable = false → s.chip.atWarning = false → Gives .settingsSave s (fun c => c.upd = { s.chip.upd with saveResult := 0 } ∧
        c.mram = { s.chip.mram with commits := s.chip.mram.commits ++ [(3, s.chip.upd.settingsFormat,
          settingsBody s.chip.keeper.sec.toNat (s.chip.upd.settingsList.map (fun a => (a, (s.chip.readWord a).1))))] })) ∧
      (s.chip.upd.unreadable = false → s.chip.atWarning = true → Gives .settingsSave s (fun c => c.upd = { s.chip.upd with saveResult := 2 } ∧
        c.mram = s.chip.mram ∧ (3, s.chip.upd.settingsFormat,
          settingsBody s.chip.keeper.sec.toNat (s.chip.upd.settingsList.map (fun a => (a, (s.chip.readWord a).1)))) ∈ c.therm.held)) ∧
      (s.chip.atWarning = false → Gives .settingsClear s (fun c => c.upd = { s.chip.upd with saveResult := 0 } ∧
        ∀ x, mget 0 c.mram.bytes x = if (0x05FF8 ≤ x ∧ x < 0x06000) ∨ (0x09FF8 ≤ x ∧ x < 0x0A000) then 0 else mget 0 s.chip.mram.bytes x)))) ∧
  (∀ (s : State) (cmd : List Byte) (res : Nat), s.chip.awake = true → s.chip.hostOpen = true → cmd = s.chip.bufBytes 0x4080 44 →
    res = s.chip.keyRollResult cmd →
    (s.chip.upd.record.state = 5 ∨ s.chip.started = false → res = 0xA) ∧
    (res ≠ 1 → Gives .setNext s (fun c => c.upd.keyResult = res ∧ c.upd.record = s.chip.upd.record ∧ c.upd.nonce ≠ 0) ∧
      Gives .clearNext s (fun c => c.upd.keyResult = res ∧ c.upd.record = s.chip.upd.record ∧ c.upd.nonce ≠ 0)) ∧
    (res = 1 → leAt cmd 2 1 = 1 → Gives .setNext s (fun c => c.upd.keyResult = 1 ∧ c.upd.nonce ≠ 0 ∧
      RecordIs s.chip { s.chip.upd.record with nextKeyHash := slice cmd 16 32 } c)) ∧
    (res = 1 → leAt cmd 2 1 ≠ 1 → Gives .clearNext s (fun c => c.upd.keyResult = 1 ∧ c.upd.nonce ≠ 0 ∧
      RecordIs s.chip { s.chip.upd.record with nextKeyHash := List.replicate 32 0 } c)))

/-! ### The temperature supervisor (19) -/

/-- 19 R843-R848, R851-R856, R790, R132: a sample stores the four readings and marks the dies at or above 125 °C; WARNING begins at 125 °C and ends at
the second sample in a row below 120 °C, when everything it deferred is written; TRIP begins at 140 °C or at a die's comparator, suspends an erase that
can be suspended and stops a start; it ends at the second sample in a row below 115 °C, and with it thermal hold, which a machine that has started
enters as KEEPER.
The model's choices: log entries 112, 2. -/
def Obligations.TheSupervisorFollowsItsThresholds : Prop :=
  (∀ (s : State) (a b d f : Int) (rs : List Int), s.chip.awake = true → rs = s.chip.readings [a, b, d, f] →
    Gives (.thermalSample a b d f) s (fun c => c.therm.temps = rs ∧ c.therm.warnDies = diesAbove rs 2000 ∧
      c.therm.peakSeen = true ∧ (∀ x, x ∈ rs → x ≤ c.therm.peak) ∧ (s.chip.therm.peakSeen = true → s.chip.therm.peak ≤ c.therm.peak)) ∧
    (s.chip.therm.warning = false → s.chip.therm.trip = false → (∀ x, x ∈ rs → x < 2240) → (∃ x, x ∈ rs ∧ 2000 ≤ x) →
      Gives (.thermalSample a b d f) s (fun c => c.therm.warning = true ∧ c.therm.below120 = 0 ∧ c.therm.trip = false ∧ c.rf 0x0071 0 0 = 1 ∧
        c.therm.held = s.chip.therm.held ∧ c.therm.deferred = s.chip.therm.deferred)) ∧
    (s.chip.therm.warning = false → s.chip.therm.trip = false → (∀ x, x ∈ rs → x < 2000) →
      Gives (.thermalSample a b d f) s (fun c => c.therm.warning = false ∧ c.therm.trip = false ∧ c.modes.thermalHold = s.chip.modes.thermalHold)) ∧
    (s.chip.therm.warning = true → s.chip.therm.trip = false → (∀ x, x ∈ rs → x < 1920) →
      (1 ≤ s.chip.therm.below120 → Gives (.thermalSample a b d f) s (fun c => c.therm.warning = false ∧ c.therm.deferred = [] ∧ c.therm.held = [] ∧
        c.keeper.deferredHours = [])) ∧
      (s.chip.therm.below120 = 0 → Gives (.thermalSample a b d f) s (fun c => c.therm.warning = true ∧ c.therm.below120 = 1))) ∧
    (s.chip.therm.warning = true → s.chip.therm.trip = false → (∀ x, x ∈ rs → x < 2240) → (∃ x, x ∈ rs ∧ 1920 ≤ x) →
      Gives (.thermalSample a b d f) s (fun c => c.therm.warning = true ∧ c.therm.below120 = 0)) ∧
    (s.chip.therm.trip = false → (∃ x, x ∈ rs ∧ 2240 ≤ x) →
      Gives (.thermalSample a b d f) s (fun c => c.therm.trip = true ∧ c.therm.warning = true ∧ c.therm.tripDies = diesAbove rs 2240 ∧ c.rf 0x0071 1 1 = 1 ∧
        (s.chip.start.phase = .dies → c.start.phase = .tripped) ∧
        (s.chip.mem.state = .erasing → s.chip.mem.erase.isSome = true → s.chip.mem.par.suspendOk = true → c.mem.state = .suspended))) ∧
    (s.chip.therm.trip = true → (∀ x, x ∈ rs → x < 1840) →
      (1 ≤ s.chip.therm.below115 → Gives (.thermalSample a b d f) s (fun c => c.therm.trip = false ∧ c.therm.tripDies = 0 ∧ c.modes.thermalHold = false ∧
        c.modes.batHold = s.chip.modes.batHold ∧ (s.chip.mem.state = .suspended → c.mem.state = .erasing) ∧
        (s.chip.start.phase = .tripped → c.start.phase = .dies))) ∧
      (s.chip.therm.below115 = 0 → Gives (.thermalSample a b d f) s (fun c => c.therm.trip = true ∧ c.therm.below115 = 1))) ∧
    (s.chip.therm.trip = true → (∃ x, x ∈ rs ∧ 1840 ≤ x) →
      Gives (.thermalSample a b d f) s (fun c => c.therm.trip = true ∧ c.therm.below115 = 0 ∧ c.therm.tripDies = diesAbove rs 2240))) ∧
  (∀ (s : State) (die : Nat) (reading : Int), s.chip.awake = true →
    (s.chip.sensed die = false → Gives (.thermTrip die reading) s (fun c => c = s.chip.follow s.chip)) ∧
    (s.chip.sensed die = true → s.chip.therm.trip = true → Gives (.thermTrip die reading) s (fun c =>
      c.therm = { s.chip.therm with tripDies := s.chip.therm.tripDies ||| BitVec.ofNat 4 (2 ^ die) })) ∧
    (s.chip.sensed die = true → s.chip.therm.trip = false → Gives (.thermTrip die reading) s (fun c => c.therm.trip = true ∧ c.therm.below115 = 0 ∧
      c.therm.tripDies = s.chip.therm.tripDies ||| BitVec.ofNat 4 (2 ^ die) ∧ c.rf 0x0071 1 1 = 1 ∧
      (s.chip.start.phase = .dies → c.start.phase = .tripped) ∧
      (s.chip.mem.state = .erasing → s.chip.mem.erase.isSome = true → s.chip.mem.par.suspendOk = true → c.mem.state = .suspended)))) ∧
  (∀ (s : State), s.chip.awake = true → s.chip.therm.trip = true →
    (s.chip.started = true → s.chip.mode ≠ 7 → s.chip.modes.thermalHold = false → s.chip.modes.before = none →
      Gives .thermalHoldEnter s (fun c => c.modes.thermalHold = true ∧ c.modes.batHold = s.chip.modes.batHold ∧ c.modes.before = some s.chip.mode ∧
        (s.chip.mode ≠ 1 → c.modes.transition = some (1, .protection)))) ∧
    (s.chip.started = false → Gives .thermalHoldEnter s (fun c => c.modes = s.chip.modes)))

/-! ### The block as a whole -/

/-- A step takes the command at the front of the queue: it is that command's effect with the rest of the queue. With no command waiting a step is one
cycle of the keeper timebase, and nothing before the keeper domain's first supply or after it lost its retention (the model's choice: the table
has no row for a tick).
The model's choices: log entry 3. -/
def Obligations.AStepRunsTheFrontCommand : Prop :=
  (∀ (c : Instr) (rest : List Instr) (s : State), s.pending = c :: rest → step s = exec c { s with pending := rest }) ∧
  (∀ (s : State), s.pending = [] → (s.chip.keeper.lost = true ∨ s.chip.keeper.powered = false) →
    step s = .next { s with chip := s.chip.follow s.chip }) ∧
  (∀ (s : State), s.pending = [] → s.chip.keeper.lost = false → s.chip.keeper.powered = true → s.chip.modes.queuedHost = none →
    ∃ t, step s = .next t ∧ t.pending = [] ∧ t.chip.keeper = s.chip.keeperTick.keeper ∧ t.chip.mram = s.chip.keeperTick.mram)

/-- The block before its first supply: no command waits, the core has no supply, every register word is as the Reset columns of the register tables
give it (20 R878; 0 for every word they do not list), the memories are in canonical form, and no sample lane is enabled. That MRAM never
written reads 0 and an erased NOR 0xFF is the model's choice (log entry on memory contents).
The model's choices: log entries 18, 16, 17. -/
def Obligations.ResetIsAsTheTablesGiveIt : Prop :=
  State.reset.pending = [] ∧ State.reset.chip.awake = false ∧ State.reset.chip.lanesSafe ∧ State.reset.chip.memsWf ∧
  (∀ a, mget 0 State.reset.chip.mram.bytes a = 0) ∧ (∀ a, mget 0xFF State.reset.chip.mem.nor a = 0xFF) ∧
  (∀ l, l < 4 → State.reset.chip.lane l = .parked) ∧
  State.reset.chip.reg 0x0011 = 0xA69 ∧ State.reset.chip.reg 0x0022 = 0x11 ∧ (∀ n, n < 8 → State.reset.chip.reg (0x0080 + n) = 0x20) ∧
  State.reset.chip.reg 0x0403 = 1 ∧ State.reset.chip.reg 0x0410 = 0x6DB6DF ∧ State.reset.chip.reg 0x0411 = 0x6DB6DB ∧
  State.reset.chip.reg 0x0412 = 0x1B ∧ State.reset.chip.reg 0x0414 = 0x1F00 ∧ State.reset.chip.reg 0x0800 = 0x00010006 ∧
  State.reset.chip.reg 0x0810 = 0x00020007 ∧ (∀ m, m < 4 → State.reset.chip.reg (0x1200 + m) = 0x400000 ∧ State.reset.chip.reg (0x1204 + m) = 0x09000000) ∧
  (∀ k, k < 4 → State.reset.chip.reg (0x1300 + 2 * k) = 0x03E80005 ∧ State.reset.chip.reg (0x1301 + 2 * k) = 0x01F40005) ∧
  State.reset.chip.reg 0x3E08 = 0x04020204 ∧ State.reset.chip.reg 0x3E12 = 0x1A ∧
  (∀ a, a ∉ resetRegs.map Prod.fst → State.reset.chip.reg a = 0)

/-- 01 R47, 04 R166-R169: in every state in which each sample lane is enabled only while its gate passes its timebase and the radio die's girth lane is
LIVE, every step answers a next state, and it is such a state.
The model's choices: log entry 28. -/
def Obligations.EveryStepKeepsTheSampleLanesBehindTheirGates : Prop :=
  ∀ s : State, s.chip.lanesSafe → ∃ t, step s = .next t ∧ t.chip.lanesSafe

/-- MRAM, the NOR and the memory port's buffer stay in canonical form, addresses strictly rising and no entry equal to what an unlisted address reads as,
over every step.
The model's choices: log entries 16, 17. -/
def Obligations.EveryStepKeepsTheMemoriesCanonical : Prop :=
  ∀ s t : State, s.chip.memsWf → step s = .next t → t.chip.memsWf

/-- The frame of every command over registers, memories, supply, records, update, yard and host port: it answers a next state, leaves the queue alone and
keeps every part that its row of `partsChanged` does not list.
The model's choices: log entry 1. -/
def Obligations.CommandsKeepTheRegistersAndMemoriesTheyDoNotWrite : Prop :=
  ∀ (i : Instr) (s : State) (p : Part), p ∈ storeParts → p ∉ partsChanged i → Gives i s (fun c => s.chip.keeps p c)

/-- The frame of every command over lanes, modes, rings, rules, the measurement units, GNSS and the radio: it keeps every part that its row of
`partsChanged` does not list; the enables of the two sample lanes and the discontinuity mark, which follow the gates, are left open.
The model's choices: log entries 1, 28. -/
def Obligations.CommandsKeepTheUnitsTheyDoNotDrive : Prop :=
  ∀ (i : Instr) (s : State) (p : Part), p ∈ unitParts → p ∉ partsChanged i → Gives i s (fun c => s.chip.keeps p c)
end

