-- ==== Sys2Proof/Laws/State.lean ====
section
/-! SUPPORT. One lemma per field per update of the block, so that no proof unfolds a record update; and what follows a command. -/

namespace Sys2Proof.Machine

/-! `upGirth` -/

@[simp] theorem Chip.upGirth_girth (c : Chip) (f : Girth → Girth) : (c.upGirth f).girth = f c.girth := rfl
@[simp] theorem Chip.upGirth_regs (c : Chip) (f : Girth → Girth) : (c.upGirth f).regs = c.regs := rfl
@[simp] theorem Chip.upGirth_run (c : Chip) (f : Girth → Girth) : (c.upGirth f).run = c.run := rfl
@[simp] theorem Chip.upGirth_lands (c : Chip) (f : Girth → Girth) : (c.upGirth f).lands = c.lands := rfl
@[simp] theorem Chip.upGirth_power (c : Chip) (f : Girth → Girth) : (c.upGirth f).power = c.power := rfl
@[simp] theorem Chip.upGirth_modes (c : Chip) (f : Girth → Girth) : (c.upGirth f).modes = c.modes := rfl
@[simp] theorem Chip.upGirth_tb (c : Chip) (f : Girth → Girth) : (c.upGirth f).tb = c.tb := rfl
@[simp] theorem Chip.upGirth_keeper (c : Chip) (f : Girth → Girth) : (c.upGirth f).keeper = c.keeper := rfl
@[simp] theorem Chip.upGirth_mram (c : Chip) (f : Girth → Girth) : (c.upGirth f).mram = c.mram := rfl
@[simp] theorem Chip.upGirth_start (c : Chip) (f : Girth → Girth) : (c.upGirth f).start = c.start := rfl
@[simp] theorem Chip.upGirth_rings (c : Chip) (f : Girth → Girth) : (c.upGirth f).rings = c.rings := rfl
@[simp] theorem Chip.upGirth_rules (c : Chip) (f : Girth → Girth) : (c.upGirth f).rules = c.rules := rfl
@[simp] theorem Chip.upGirth_seqs (c : Chip) (f : Girth → Girth) : (c.upGirth f).seqs = c.seqs := rfl
@[simp] theorem Chip.upGirth_runSig (c : Chip) (f : Girth → Girth) : (c.upGirth f).runSig = c.runSig := rfl
@[simp] theorem Chip.upGirth_fin (c : Chip) (f : Girth → Girth) : (c.upGirth f).fin = c.fin := rfl
@[simp] theorem Chip.upGirth_chains (c : Chip) (f : Girth → Girth) : (c.upGirth f).chains = c.chains := rfl
@[simp] theorem Chip.upGirth_burnish (c : Chip) (f : Girth → Girth) : (c.upGirth f).burnish = c.burnish := rfl
@[simp] theorem Chip.upGirth_exc (c : Chip) (f : Girth → Girth) : (c.upGirth f).exc = c.exc := rfl
@[simp] theorem Chip.upGirth_mon (c : Chip) (f : Girth → Girth) : (c.upGirth f).mon = c.mon := rfl
@[simp] theorem Chip.upGirth_acq (c : Chip) (f : Girth → Girth) : (c.upGirth f).acq = c.acq := rfl
@[simp] theorem Chip.upGirth_track (c : Chip) (f : Girth → Girth) : (c.upGirth f).track = c.track := rfl
@[simp] theorem Chip.upGirth_radio (c : Chip) (f : Girth → Girth) : (c.upGirth f).radio = c.radio := rfl
@[simp] theorem Chip.upGirth_yard (c : Chip) (f : Girth → Girth) : (c.upGirth f).yard = c.yard := rfl
@[simp] theorem Chip.upGirth_host (c : Chip) (f : Girth → Girth) : (c.upGirth f).host = c.host := rfl
@[simp] theorem Chip.upGirth_mem (c : Chip) (f : Girth → Girth) : (c.upGirth f).mem = c.mem := rfl
@[simp] theorem Chip.upGirth_upd (c : Chip) (f : Girth → Girth) : (c.upGirth f).upd = c.upd := rfl
@[simp] theorem Chip.upGirth_therm (c : Chip) (f : Girth → Girth) : (c.upGirth f).therm = c.therm := rfl

/-! `upLands` -/

@[simp] theorem Chip.upLands_lands (c : Chip) (f : Lands → Lands) : (c.upLands f).lands = f c.lands := rfl
@[simp] theorem Chip.upLands_regs (c : Chip) (f : Lands → Lands) : (c.upLands f).regs = c.regs := rfl
@[simp] theorem Chip.upLands_run (c : Chip) (f : Lands → Lands) : (c.upLands f).run = c.run := rfl
@[simp] theorem Chip.upLands_girth (c : Chip) (f : Lands → Lands) : (c.upLands f).girth = c.girth := rfl
@[simp] theorem Chip.upLands_power (c : Chip) (f : Lands → Lands) : (c.upLands f).power = c.power := rfl
@[simp] theorem Chip.upLands_modes (c : Chip) (f : Lands → Lands) : (c.upLands f).modes = c.modes := rfl
@[simp] theorem Chip.upLands_tb (c : Chip) (f : Lands → Lands) : (c.upLands f).tb = c.tb := rfl
@[simp] theorem Chip.upLands_keeper (c : Chip) (f : Lands → Lands) : (c.upLands f).keeper = c.keeper := rfl
@[simp] theorem Chip.upLands_mram (c : Chip) (f : Lands → Lands) : (c.upLands f).mram = c.mram := rfl
@[simp] theorem Chip.upLands_start (c : Chip) (f : Lands → Lands) : (c.upLands f).start = c.start := rfl
@[simp] theorem Chip.upLands_rings (c : Chip) (f : Lands → Lands) : (c.upLands f).rings = c.rings := rfl
@[simp] theorem Chip.upLands_rules (c : Chip) (f : Lands → Lands) : (c.upLands f).rules = c.rules := rfl
@[simp] theorem Chip.upLands_seqs (c : Chip) (f : Lands → Lands) : (c.upLands f).seqs = c.seqs := rfl
@[simp] theorem Chip.upLands_runSig (c : Chip) (f : Lands → Lands) : (c.upLands f).runSig = c.runSig := rfl
@[simp] theorem Chip.upLands_fin (c : Chip) (f : Lands → Lands) : (c.upLands f).fin = c.fin := rfl
@[simp] theorem Chip.upLands_chains (c : Chip) (f : Lands → Lands) : (c.upLands f).chains = c.chains := rfl
@[simp] theorem Chip.upLands_burnish (c : Chip) (f : Lands → Lands) : (c.upLands f).burnish = c.burnish := rfl
@[simp] theorem Chip.upLands_exc (c : Chip) (f : Lands → Lands) : (c.upLands f).exc = c.exc := rfl
@[simp] theorem Chip.upLands_mon (c : Chip) (f : Lands → Lands) : (c.upLands f).mon = c.mon := rfl
@[simp] theorem Chip.upLands_acq (c : Chip) (f : Lands → Lands) : (c.upLands f).acq = c.acq := rfl
@[simp] theorem Chip.upLands_track (c : Chip) (f : Lands → Lands) : (c.upLands f).track = c.track := rfl
@[simp] theorem Chip.upLands_radio (c : Chip) (f : Lands → Lands) : (c.upLands f).radio = c.radio := rfl
@[simp] theorem Chip.upLands_yard (c : Chip) (f : Lands → Lands) : (c.upLands f).yard = c.yard := rfl
@[simp] theorem Chip.upLands_host (c : Chip) (f : Lands → Lands) : (c.upLands f).host = c.host := rfl
@[simp] theorem Chip.upLands_mem (c : Chip) (f : Lands → Lands) : (c.upLands f).mem = c.mem := rfl
@[simp] theorem Chip.upLands_upd (c : Chip) (f : Lands → Lands) : (c.upLands f).upd = c.upd := rfl
@[simp] theorem Chip.upLands_therm (c : Chip) (f : Lands → Lands) : (c.upLands f).therm = c.therm := rfl

/-! `upPower` -/

@[simp] theorem Chip.upPower_power (c : Chip) (f : Power → Power) : (c.upPower f).power = f c.power := rfl
@[simp] theorem Chip.upPower_regs (c : Chip) (f : Power → Power) : (c.upPower f).regs = c.regs := rfl
@[simp] theorem Chip.upPower_run (c : Chip) (f : Power → Power) : (c.upPower f).run = c.run := rfl
@[simp] theorem Chip.upPower_girth (c : Chip) (f : Power → Power) : (c.upPower f).girth = c.girth := rfl
@[simp] theorem Chip.upPower_lands (c : Chip) (f : Power → Power) : (c.upPower f).lands = c.lands := rfl
@[simp] theorem Chip.upPower_modes (c : Chip) (f : Power → Power) : (c.upPower f).modes = c.modes := rfl
@[simp] theorem Chip.upPower_tb (c : Chip) (f : Power → Power) : (c.upPower f).tb = c.tb := rfl
@[simp] theorem Chip.upPower_keeper (c : Chip) (f : Power → Power) : (c.upPower f).keeper = c.keeper := rfl
@[simp] theorem Chip.upPower_mram (c : Chip) (f : Power → Power) : (c.upPower f).mram = c.mram := rfl
@[simp] theorem Chip.upPower_start (c : Chip) (f : Power → Power) : (c.upPower f).start = c.start := rfl
@[simp] theorem Chip.upPower_rings (c : Chip) (f : Power → Power) : (c.upPower f).rings = c.rings := rfl
@[simp] theorem Chip.upPower_rules (c : Chip) (f : Power → Power) : (c.upPower f).rules = c.rules := rfl
@[simp] theorem Chip.upPower_seqs (c : Chip) (f : Power → Power) : (c.upPower f).seqs = c.seqs := rfl
@[simp] theorem Chip.upPower_runSig (c : Chip) (f : Power → Power) : (c.upPower f).runSig = c.runSig := rfl
@[simp] theorem Chip.upPower_fin (c : Chip) (f : Power → Power) : (c.upPower f).fin = c.fin := rfl
@[simp] theorem Chip.upPower_chains (c : Chip) (f : Power → Power) : (c.upPower f).chains = c.chains := rfl
@[simp] theorem Chip.upPower_burnish (c : Chip) (f : Power → Power) : (c.upPower f).burnish = c.burnish := rfl
@[simp] theorem Chip.upPower_exc (c : Chip) (f : Power → Power) : (c.upPower f).exc = c.exc := rfl
@[simp] theorem Chip.upPower_mon (c : Chip) (f : Power → Power) : (c.upPower f).mon = c.mon := rfl
@[simp] theorem Chip.upPower_acq (c : Chip) (f : Power → Power) : (c.upPower f).acq = c.acq := rfl
@[simp] theorem Chip.upPower_track (c : Chip) (f : Power → Power) : (c.upPower f).track = c.track := rfl
@[simp] theorem Chip.upPower_radio (c : Chip) (f : Power → Power) : (c.upPower f).radio = c.radio := rfl
@[simp] theorem Chip.upPower_yard (c : Chip) (f : Power → Power) : (c.upPower f).yard = c.yard := rfl
@[simp] theorem Chip.upPower_host (c : Chip) (f : Power → Power) : (c.upPower f).host = c.host := rfl
@[simp] theorem Chip.upPower_mem (c : Chip) (f : Power → Power) : (c.upPower f).mem = c.mem := rfl
@[simp] theorem Chip.upPower_upd (c : Chip) (f : Power → Power) : (c.upPower f).upd = c.upd := rfl
@[simp] theorem Chip.upPower_therm (c : Chip) (f : Power → Power) : (c.upPower f).therm = c.therm := rfl

/-! `upModes` -/

@[simp] theorem Chip.upModes_modes (c : Chip) (f : Modes → Modes) : (c.upModes f).modes = f c.modes := rfl
@[simp] theorem Chip.upModes_regs (c : Chip) (f : Modes → Modes) : (c.upModes f).regs = c.regs := rfl
@[simp] theorem Chip.upModes_run (c : Chip) (f : Modes → Modes) : (c.upModes f).run = c.run := rfl
@[simp] theorem Chip.upModes_girth (c : Chip) (f : Modes → Modes) : (c.upModes f).girth = c.girth := rfl
@[simp] theorem Chip.upModes_lands (c : Chip) (f : Modes → Modes) : (c.upModes f).lands = c.lands := rfl
@[simp] theorem Chip.upModes_power (c : Chip) (f : Modes → Modes) : (c.upModes f).power = c.power := rfl
@[simp] theorem Chip.upModes_tb (c : Chip) (f : Modes → Modes) : (c.upModes f).tb = c.tb := rfl
@[simp] theorem Chip.upModes_keeper (c : Chip) (f : Modes → Modes) : (c.upModes f).keeper = c.keeper := rfl
@[simp] theorem Chip.upModes_mram (c : Chip) (f : Modes → Modes) : (c.upModes f).mram = c.mram := rfl
@[simp] theorem Chip.upModes_start (c : Chip) (f : Modes → Modes) : (c.upModes f).start = c.start := rfl
@[simp] theorem Chip.upModes_rings (c : Chip) (f : Modes → Modes) : (c.upModes f).rings = c.rings := rfl
@[simp] theorem Chip.upModes_rules (c : Chip) (f : Modes → Modes) : (c.upModes f).rules = c.rules := rfl
@[simp] theorem Chip.upModes_seqs (c : Chip) (f : Modes → Modes) : (c.upModes f).seqs = c.seqs := rfl
@[simp] theorem Chip.upModes_runSig (c : Chip) (f : Modes → Modes) : (c.upModes f).runSig = c.runSig := rfl
@[simp] theorem Chip.upModes_fin (c : Chip) (f : Modes → Modes) : (c.upModes f).fin = c.fin := rfl
@[simp] theorem Chip.upModes_chains (c : Chip) (f : Modes → Modes) : (c.upModes f).chains = c.chains := rfl
@[simp] theorem Chip.upModes_burnish (c : Chip) (f : Modes → Modes) : (c.upModes f).burnish = c.burnish := rfl
@[simp] theorem Chip.upModes_exc (c : Chip) (f : Modes → Modes) : (c.upModes f).exc = c.exc := rfl
@[simp] theorem Chip.upModes_mon (c : Chip) (f : Modes → Modes) : (c.upModes f).mon = c.mon := rfl
@[simp] theorem Chip.upModes_acq (c : Chip) (f : Modes → Modes) : (c.upModes f).acq = c.acq := rfl
@[simp] theorem Chip.upModes_track (c : Chip) (f : Modes → Modes) : (c.upModes f).track = c.track := rfl
@[simp] theorem Chip.upModes_radio (c : Chip) (f : Modes → Modes) : (c.upModes f).radio = c.radio := rfl
@[simp] theorem Chip.upModes_yard (c : Chip) (f : Modes → Modes) : (c.upModes f).yard = c.yard := rfl
@[simp] theorem Chip.upModes_host (c : Chip) (f : Modes → Modes) : (c.upModes f).host = c.host := rfl
@[simp] theorem Chip.upModes_mem (c : Chip) (f : Modes → Modes) : (c.upModes f).mem = c.mem := rfl
@[simp] theorem Chip.upModes_upd (c : Chip) (f : Modes → Modes) : (c.upModes f).upd = c.upd := rfl
@[simp] theorem Chip.upModes_therm (c : Chip) (f : Modes → Modes) : (c.upModes f).therm = c.therm := rfl

/-! `upTb` -/

@[simp] theorem Chip.upTb_tb (c : Chip) (f : Timebases → Timebases) : (c.upTb f).tb = f c.tb := rfl
@[simp] theorem Chip.upTb_regs (c : Chip) (f : Timebases → Timebases) : (c.upTb f).regs = c.regs := rfl
@[simp] theorem Chip.upTb_run (c : Chip) (f : Timebases → Timebases) : (c.upTb f).run = c.run := rfl
@[simp] theorem Chip.upTb_girth (c : Chip) (f : Timebases → Timebases) : (c.upTb f).girth = c.girth := rfl
@[simp] theorem Chip.upTb_lands (c : Chip) (f : Timebases → Timebases) : (c.upTb f).lands = c.lands := rfl
@[simp] theorem Chip.upTb_power (c : Chip) (f : Timebases → Timebases) : (c.upTb f).power = c.power := rfl
@[simp] theorem Chip.upTb_modes (c : Chip) (f : Timebases → Timebases) : (c.upTb f).modes = c.modes := rfl
@[simp] theorem Chip.upTb_keeper (c : Chip) (f : Timebases → Timebases) : (c.upTb f).keeper = c.keeper := rfl
@[simp] theorem Chip.upTb_mram (c : Chip) (f : Timebases → Timebases) : (c.upTb f).mram = c.mram := rfl
@[simp] theorem Chip.upTb_start (c : Chip) (f : Timebases → Timebases) : (c.upTb f).start = c.start := rfl
@[simp] theorem Chip.upTb_rings (c : Chip) (f : Timebases → Timebases) : (c.upTb f).rings = c.rings := rfl
@[simp] theorem Chip.upTb_rules (c : Chip) (f : Timebases → Timebases) : (c.upTb f).rules = c.rules := rfl
@[simp] theorem Chip.upTb_seqs (c : Chip) (f : Timebases → Timebases) : (c.upTb f).seqs = c.seqs := rfl
@[simp] theorem Chip.upTb_runSig (c : Chip) (f : Timebases → Timebases) : (c.upTb f).runSig = c.runSig := rfl
@[simp] theorem Chip.upTb_fin (c : Chip) (f : Timebases → Timebases) : (c.upTb f).fin = c.fin := rfl
@[simp] theorem Chip.upTb_chains (c : Chip) (f : Timebases → Timebases) : (c.upTb f).chains = c.chains := rfl
@[simp] theorem Chip.upTb_burnish (c : Chip) (f : Timebases → Timebases) : (c.upTb f).burnish = c.burnish := rfl
@[simp] theorem Chip.upTb_exc (c : Chip) (f : Timebases → Timebases) : (c.upTb f).exc = c.exc := rfl
@[simp] theorem Chip.upTb_mon (c : Chip) (f : Timebases → Timebases) : (c.upTb f).mon = c.mon := rfl
@[simp] theorem Chip.upTb_acq (c : Chip) (f : Timebases → Timebases) : (c.upTb f).acq = c.acq := rfl
@[simp] theorem Chip.upTb_track (c : Chip) (f : Timebases → Timebases) : (c.upTb f).track = c.track := rfl
@[simp] theorem Chip.upTb_radio (c : Chip) (f : Timebases → Timebases) : (c.upTb f).radio = c.radio := rfl
@[simp] theorem Chip.upTb_yard (c : Chip) (f : Timebases → Timebases) : (c.upTb f).yard = c.yard := rfl
@[simp] theorem Chip.upTb_host (c : Chip) (f : Timebases → Timebases) : (c.upTb f).host = c.host := rfl
@[simp] theorem Chip.upTb_mem (c : Chip) (f : Timebases → Timebases) : (c.upTb f).mem = c.mem := rfl
@[simp] theorem Chip.upTb_upd (c : Chip) (f : Timebases → Timebases) : (c.upTb f).upd = c.upd := rfl
@[simp] theorem Chip.upTb_therm (c : Chip) (f : Timebases → Timebases) : (c.upTb f).therm = c.therm := rfl

/-! `upKeeper` -/

@[simp] theorem Chip.upKeeper_keeper (c : Chip) (f : Keeper → Keeper) : (c.upKeeper f).keeper = f c.keeper := rfl
@[simp] theorem Chip.upKeeper_regs (c : Chip) (f : Keeper → Keeper) : (c.upKeeper f).regs = c.regs := rfl
@[simp] theorem Chip.upKeeper_run (c : Chip) (f : Keeper → Keeper) : (c.upKeeper f).run = c.run := rfl
@[simp] theorem Chip.upKeeper_girth (c : Chip) (f : Keeper → Keeper) : (c.upKeeper f).girth = c.girth := rfl
@[simp] theorem Chip.upKeeper_lands (c : Chip) (f : Keeper → Keeper) : (c.upKeeper f).lands = c.lands := rfl
@[simp] theorem Chip.upKeeper_power (c : Chip) (f : Keeper → Keeper) : (c.upKeeper f).power = c.power := rfl
@[simp] theorem Chip.upKeeper_modes (c : Chip) (f : Keeper → Keeper) : (c.upKeeper f).modes = c.modes := rfl
@[simp] theorem Chip.upKeeper_tb (c : Chip) (f : Keeper → Keeper) : (c.upKeeper f).tb = c.tb := rfl
@[simp] theorem Chip.upKeeper_mram (c : Chip) (f : Keeper → Keeper) : (c.upKeeper f).mram = c.mram := rfl
@[simp] theorem Chip.upKeeper_start (c : Chip) (f : Keeper → Keeper) : (c.upKeeper f).start = c.start := rfl
@[simp] theorem Chip.upKeeper_rings (c : Chip) (f : Keeper → Keeper) : (c.upKeeper f).rings = c.rings := rfl
@[simp] theorem Chip.upKeeper_rules (c : Chip) (f : Keeper → Keeper) : (c.upKeeper f).rules = c.rules := rfl
@[simp] theorem Chip.upKeeper_seqs (c : Chip) (f : Keeper → Keeper) : (c.upKeeper f).seqs = c.seqs := rfl
@[simp] theorem Chip.upKeeper_runSig (c : Chip) (f : Keeper → Keeper) : (c.upKeeper f).runSig = c.runSig := rfl
@[simp] theorem Chip.upKeeper_fin (c : Chip) (f : Keeper → Keeper) : (c.upKeeper f).fin = c.fin := rfl
@[simp] theorem Chip.upKeeper_chains (c : Chip) (f : Keeper → Keeper) : (c.upKeeper f).chains = c.chains := rfl
@[simp] theorem Chip.upKeeper_burnish (c : Chip) (f : Keeper → Keeper) : (c.upKeeper f).burnish = c.burnish := rfl
@[simp] theorem Chip.upKeeper_exc (c : Chip) (f : Keeper → Keeper) : (c.upKeeper f).exc = c.exc := rfl
@[simp] theorem Chip.upKeeper_mon (c : Chip) (f : Keeper → Keeper) : (c.upKeeper f).mon = c.mon := rfl
@[simp] theorem Chip.upKeeper_acq (c : Chip) (f : Keeper → Keeper) : (c.upKeeper f).acq = c.acq := rfl
@[simp] theorem Chip.upKeeper_track (c : Chip) (f : Keeper → Keeper) : (c.upKeeper f).track = c.track := rfl
@[simp] theorem Chip.upKeeper_radio (c : Chip) (f : Keeper → Keeper) : (c.upKeeper f).radio = c.radio := rfl
@[simp] theorem Chip.upKeeper_yard (c : Chip) (f : Keeper → Keeper) : (c.upKeeper f).yard = c.yard := rfl
@[simp] theorem Chip.upKeeper_host (c : Chip) (f : Keeper → Keeper) : (c.upKeeper f).host = c.host := rfl
@[simp] theorem Chip.upKeeper_mem (c : Chip) (f : Keeper → Keeper) : (c.upKeeper f).mem = c.mem := rfl
@[simp] theorem Chip.upKeeper_upd (c : Chip) (f : Keeper → Keeper) : (c.upKeeper f).upd = c.upd := rfl
@[simp] theorem Chip.upKeeper_therm (c : Chip) (f : Keeper → Keeper) : (c.upKeeper f).therm = c.therm := rfl

/-! `upMram` -/

@[simp] theorem Chip.upMram_mram (c : Chip) (f : Mram → Mram) : (c.upMram f).mram = f c.mram := rfl
@[simp] theorem Chip.upMram_regs (c : Chip) (f : Mram → Mram) : (c.upMram f).regs = c.regs := rfl
@[simp] theorem Chip.upMram_run (c : Chip) (f : Mram → Mram) : (c.upMram f).run = c.run := rfl
@[simp] theorem Chip.upMram_girth (c : Chip) (f : Mram → Mram) : (c.upMram f).girth = c.girth := rfl
@[simp] theorem Chip.upMram_lands (c : Chip) (f : Mram → Mram) : (c.upMram f).lands = c.lands := rfl
@[simp] theorem Chip.upMram_power (c : Chip) (f : Mram → Mram) : (c.upMram f).power = c.power := rfl
@[simp] theorem Chip.upMram_modes (c : Chip) (f : Mram → Mram) : (c.upMram f).modes = c.modes := rfl
@[simp] theorem Chip.upMram_tb (c : Chip) (f : Mram → Mram) : (c.upMram f).tb = c.tb := rfl
@[simp] theorem Chip.upMram_keeper (c : Chip) (f : Mram → Mram) : (c.upMram f).keeper = c.keeper := rfl
@[simp] theorem Chip.upMram_start (c : Chip) (f : Mram → Mram) : (c.upMram f).start = c.start := rfl
@[simp] theorem Chip.upMram_rings (c : Chip) (f : Mram → Mram) : (c.upMram f).rings = c.rings := rfl
@[simp] theorem Chip.upMram_rules (c : Chip) (f : Mram → Mram) : (c.upMram f).rules = c.rules := rfl
@[simp] theorem Chip.upMram_seqs (c : Chip) (f : Mram → Mram) : (c.upMram f).seqs = c.seqs := rfl
@[simp] theorem Chip.upMram_runSig (c : Chip) (f : Mram → Mram) : (c.upMram f).runSig = c.runSig := rfl
@[simp] theorem Chip.upMram_fin (c : Chip) (f : Mram → Mram) : (c.upMram f).fin = c.fin := rfl
@[simp] theorem Chip.upMram_chains (c : Chip) (f : Mram → Mram) : (c.upMram f).chains = c.chains := rfl
@[simp] theorem Chip.upMram_burnish (c : Chip) (f : Mram → Mram) : (c.upMram f).burnish = c.burnish := rfl
@[simp] theorem Chip.upMram_exc (c : Chip) (f : Mram → Mram) : (c.upMram f).exc = c.exc := rfl
@[simp] theorem Chip.upMram_mon (c : Chip) (f : Mram → Mram) : (c.upMram f).mon = c.mon := rfl
@[simp] theorem Chip.upMram_acq (c : Chip) (f : Mram → Mram) : (c.upMram f).acq = c.acq := rfl
@[simp] theorem Chip.upMram_track (c : Chip) (f : Mram → Mram) : (c.upMram f).track = c.track := rfl
@[simp] theorem Chip.upMram_radio (c : Chip) (f : Mram → Mram) : (c.upMram f).radio = c.radio := rfl
@[simp] theorem Chip.upMram_yard (c : Chip) (f : Mram → Mram) : (c.upMram f).yard = c.yard := rfl
@[simp] theorem Chip.upMram_host (c : Chip) (f : Mram → Mram) : (c.upMram f).host = c.host := rfl
@[simp] theorem Chip.upMram_mem (c : Chip) (f : Mram → Mram) : (c.upMram f).mem = c.mem := rfl
@[simp] theorem Chip.upMram_upd (c : Chip) (f : Mram → Mram) : (c.upMram f).upd = c.upd := rfl
@[simp] theorem Chip.upMram_therm (c : Chip) (f : Mram → Mram) : (c.upMram f).therm = c.therm := rfl

/-! `upStart` -/

@[simp] theorem Chip.upStart_start (c : Chip) (f : StartCtl → StartCtl) : (c.upStart f).start = f c.start := rfl
@[simp] theorem Chip.upStart_regs (c : Chip) (f : StartCtl → StartCtl) : (c.upStart f).regs = c.regs := rfl
@[simp] theorem Chip.upStart_run (c : Chip) (f : StartCtl → StartCtl) : (c.upStart f).run = c.run := rfl
@[simp] theorem Chip.upStart_girth (c : Chip) (f : StartCtl → StartCtl) : (c.upStart f).girth = c.girth := rfl
@[simp] theorem Chip.upStart_lands (c : Chip) (f : StartCtl → StartCtl) : (c.upStart f).lands = c.lands := rfl
@[simp] theorem Chip.upStart_power (c : Chip) (f : StartCtl → StartCtl) : (c.upStart f).power = c.power := rfl
@[simp] theorem Chip.upStart_modes (c : Chip) (f : StartCtl → StartCtl) : (c.upStart f).modes = c.modes := rfl
@[simp] theorem Chip.upStart_tb (c : Chip) (f : StartCtl → StartCtl) : (c.upStart f).tb = c.tb := rfl
@[simp] theorem Chip.upStart_keeper (c : Chip) (f : StartCtl → StartCtl) : (c.upStart f).keeper = c.keeper := rfl
@[simp] theorem Chip.upStart_mram (c : Chip) (f : StartCtl → StartCtl) : (c.upStart f).mram = c.mram := rfl
@[simp] theorem Chip.upStart_rings (c : Chip) (f : StartCtl → StartCtl) : (c.upStart f).rings = c.rings := rfl
@[simp] theorem Chip.upStart_rules (c : Chip) (f : StartCtl → StartCtl) : (c.upStart f).rules = c.rules := rfl
@[simp] theorem Chip.upStart_seqs (c : Chip) (f : StartCtl → StartCtl) : (c.upStart f).seqs = c.seqs := rfl
@[simp] theorem Chip.upStart_runSig (c : Chip) (f : StartCtl → StartCtl) : (c.upStart f).runSig = c.runSig := rfl
@[simp] theorem Chip.upStart_fin (c : Chip) (f : StartCtl → StartCtl) : (c.upStart f).fin = c.fin := rfl
@[simp] theorem Chip.upStart_chains (c : Chip) (f : StartCtl → StartCtl) : (c.upStart f).chains = c.chains := rfl
@[simp] theorem Chip.upStart_burnish (c : Chip) (f : StartCtl → StartCtl) : (c.upStart f).burnish = c.burnish := rfl
@[simp] theorem Chip.upStart_exc (c : Chip) (f : StartCtl → StartCtl) : (c.upStart f).exc = c.exc := rfl
@[simp] theorem Chip.upStart_mon (c : Chip) (f : StartCtl → StartCtl) : (c.upStart f).mon = c.mon := rfl
@[simp] theorem Chip.upStart_acq (c : Chip) (f : StartCtl → StartCtl) : (c.upStart f).acq = c.acq := rfl
@[simp] theorem Chip.upStart_track (c : Chip) (f : StartCtl → StartCtl) : (c.upStart f).track = c.track := rfl
@[simp] theorem Chip.upStart_radio (c : Chip) (f : StartCtl → StartCtl) : (c.upStart f).radio = c.radio := rfl
@[simp] theorem Chip.upStart_yard (c : Chip) (f : StartCtl → StartCtl) : (c.upStart f).yard = c.yard := rfl
@[simp] theorem Chip.upStart_host (c : Chip) (f : StartCtl → StartCtl) : (c.upStart f).host = c.host := rfl
@[simp] theorem Chip.upStart_mem (c : Chip) (f : StartCtl → StartCtl) : (c.upStart f).mem = c.mem := rfl
@[simp] theorem Chip.upStart_upd (c : Chip) (f : StartCtl → StartCtl) : (c.upStart f).upd = c.upd := rfl
@[simp] theorem Chip.upStart_therm (c : Chip) (f : StartCtl → StartCtl) : (c.upStart f).therm = c.therm := rfl

/-! `upRings` -/

@[simp] theorem Chip.upRings_rings (c : Chip) (f : RingSys → RingSys) : (c.upRings f).rings = f c.rings := rfl
@[simp] theorem Chip.upRings_regs (c : Chip) (f : RingSys → RingSys) : (c.upRings f).regs = c.regs := rfl
@[simp] theorem Chip.upRings_run (c : Chip) (f : RingSys → RingSys) : (c.upRings f).run = c.run := rfl
@[simp] theorem Chip.upRings_girth (c : Chip) (f : RingSys → RingSys) : (c.upRings f).girth = c.girth := rfl
@[simp] theorem Chip.upRings_lands (c : Chip) (f : RingSys → RingSys) : (c.upRings f).lands = c.lands := rfl
@[simp] theorem Chip.upRings_power (c : Chip) (f : RingSys → RingSys) : (c.upRings f).power = c.power := rfl
@[simp] theorem Chip.upRings_modes (c : Chip) (f : RingSys → RingSys) : (c.upRings f).modes = c.modes := rfl
@[simp] theorem Chip.upRings_tb (c : Chip) (f : RingSys → RingSys) : (c.upRings f).tb = c.tb := rfl
@[simp] theorem Chip.upRings_keeper (c : Chip) (f : RingSys → RingSys) : (c.upRings f).keeper = c.keeper := rfl
@[simp] theorem Chip.upRings_mram (c : Chip) (f : RingSys → RingSys) : (c.upRings f).mram = c.mram := rfl
@[simp] theorem Chip.upRings_start (c : Chip) (f : RingSys → RingSys) : (c.upRings f).start = c.start := rfl
@[simp] theorem Chip.upRings_rules (c : Chip) (f : RingSys → RingSys) : (c.upRings f).rules = c.rules := rfl
@[simp] theorem Chip.upRings_seqs (c : Chip) (f : RingSys → RingSys) : (c.upRings f).seqs = c.seqs := rfl
@[simp] theorem Chip.upRings_runSig (c : Chip) (f : RingSys → RingSys) : (c.upRings f).runSig = c.runSig := rfl
@[simp] theorem Chip.upRings_fin (c : Chip) (f : RingSys → RingSys) : (c.upRings f).fin = c.fin := rfl
@[simp] theorem Chip.upRings_chains (c : Chip) (f : RingSys → RingSys) : (c.upRings f).chains = c.chains := rfl
@[simp] theorem Chip.upRings_burnish (c : Chip) (f : RingSys → RingSys) : (c.upRings f).burnish = c.burnish := rfl
@[simp] theorem Chip.upRings_exc (c : Chip) (f : RingSys → RingSys) : (c.upRings f).exc = c.exc := rfl
@[simp] theorem Chip.upRings_mon (c : Chip) (f : RingSys → RingSys) : (c.upRings f).mon = c.mon := rfl
@[simp] theorem Chip.upRings_acq (c : Chip) (f : RingSys → RingSys) : (c.upRings f).acq = c.acq := rfl
@[simp] theorem Chip.upRings_track (c : Chip) (f : RingSys → RingSys) : (c.upRings f).track = c.track := rfl
@[simp] theorem Chip.upRings_radio (c : Chip) (f : RingSys → RingSys) : (c.upRings f).radio = c.radio := rfl
@[simp] theorem Chip.upRings_yard (c : Chip) (f : RingSys → RingSys) : (c.upRings f).yard = c.yard := rfl
@[simp] theorem Chip.upRings_host (c : Chip) (f : RingSys → RingSys) : (c.upRings f).host = c.host := rfl
@[simp] theorem Chip.upRings_mem (c : Chip) (f : RingSys → RingSys) : (c.upRings f).mem = c.mem := rfl
@[simp] theorem Chip.upRings_upd (c : Chip) (f : RingSys → RingSys) : (c.upRings f).upd = c.upd := rfl
@[simp] theorem Chip.upRings_therm (c : Chip) (f : RingSys → RingSys) : (c.upRings f).therm = c.therm := rfl

/-! `upRules` -/

@[simp] theorem Chip.upRules_rules (c : Chip) (f : RuleEngine → RuleEngine) : (c.upRules f).rules = f c.rules := rfl
@[simp] theorem Chip.upRules_regs (c : Chip) (f : RuleEngine → RuleEngine) : (c.upRules f).regs = c.regs := rfl
@[simp] theorem Chip.upRules_run (c : Chip) (f : RuleEngine → RuleEngine) : (c.upRules f).run = c.run := rfl
@[simp] theorem Chip.upRules_girth (c : Chip) (f : RuleEngine → RuleEngine) : (c.upRules f).girth = c.girth := rfl
@[simp] theorem Chip.upRules_lands (c : Chip) (f : RuleEngine → RuleEngine) : (c.upRules f).lands = c.lands := rfl
@[simp] theorem Chip.upRules_power (c : Chip) (f : RuleEngine → RuleEngine) : (c.upRules f).power = c.power := rfl
@[simp] theorem Chip.upRules_modes (c : Chip) (f : RuleEngine → RuleEngine) : (c.upRules f).modes = c.modes := rfl
@[simp] theorem Chip.upRules_tb (c : Chip) (f : RuleEngine → RuleEngine) : (c.upRules f).tb = c.tb := rfl
@[simp] theorem Chip.upRules_keeper (c : Chip) (f : RuleEngine → RuleEngine) : (c.upRules f).keeper = c.keeper := rfl
@[simp] theorem Chip.upRules_mram (c : Chip) (f : RuleEngine → RuleEngine) : (c.upRules f).mram = c.mram := rfl
@[simp] theorem Chip.upRules_start (c : Chip) (f : RuleEngine → RuleEngine) : (c.upRules f).start = c.start := rfl
@[simp] theorem Chip.upRules_rings (c : Chip) (f : RuleEngine → RuleEngine) : (c.upRules f).rings = c.rings := rfl
@[simp] theorem Chip.upRules_seqs (c : Chip) (f : RuleEngine → RuleEngine) : (c.upRules f).seqs = c.seqs := rfl
@[simp] theorem Chip.upRules_runSig (c : Chip) (f : RuleEngine → RuleEngine) : (c.upRules f).runSig = c.runSig := rfl
@[simp] theorem Chip.upRules_fin (c : Chip) (f : RuleEngine → RuleEngine) : (c.upRules f).fin = c.fin := rfl
@[simp] theorem Chip.upRules_chains (c : Chip) (f : RuleEngine → RuleEngine) : (c.upRules f).chains = c.chains := rfl
@[simp] theorem Chip.upRules_burnish (c : Chip) (f : RuleEngine → RuleEngine) : (c.upRules f).burnish = c.burnish := rfl
@[simp] theorem Chip.upRules_exc (c : Chip) (f : RuleEngine → RuleEngine) : (c.upRules f).exc = c.exc := rfl
@[simp] theorem Chip.upRules_mon (c : Chip) (f : RuleEngine → RuleEngine) : (c.upRules f).mon = c.mon := rfl
@[simp] theorem Chip.upRules_acq (c : Chip) (f : RuleEngine → RuleEngine) : (c.upRules f).acq = c.acq := rfl
@[simp] theorem Chip.upRules_track (c : Chip) (f : RuleEngine → RuleEngine) : (c.upRules f).track = c.track := rfl
@[simp] theorem Chip.upRules_radio (c : Chip) (f : RuleEngine → RuleEngine) : (c.upRules f).radio = c.radio := rfl
@[simp] theorem Chip.upRules_yard (c : Chip) (f : RuleEngine → RuleEngine) : (c.upRules f).yard = c.yard := rfl
@[simp] theorem Chip.upRules_host (c : Chip) (f : RuleEngine → RuleEngine) : (c.upRules f).host = c.host := rfl
@[simp] theorem Chip.upRules_mem (c : Chip) (f : RuleEngine → RuleEngine) : (c.upRules f).mem = c.mem := rfl
@[simp] theorem Chip.upRules_upd (c : Chip) (f : RuleEngine → RuleEngine) : (c.upRules f).upd = c.upd := rfl
@[simp] theorem Chip.upRules_therm (c : Chip) (f : RuleEngine → RuleEngine) : (c.upRules f).therm = c.therm := rfl

/-! `upRunSig` -/

@[simp] theorem Chip.upRunSig_runSig (c : Chip) (f : RunSig → RunSig) : (c.upRunSig f).runSig = f c.runSig := rfl
@[simp] theorem Chip.upRunSig_regs (c : Chip) (f : RunSig → RunSig) : (c.upRunSig f).regs = c.regs := rfl
@[simp] theorem Chip.upRunSig_run (c : Chip) (f : RunSig → RunSig) : (c.upRunSig f).run = c.run := rfl
@[simp] theorem Chip.upRunSig_girth (c : Chip) (f : RunSig → RunSig) : (c.upRunSig f).girth = c.girth := rfl
@[simp] theorem Chip.upRunSig_lands (c : Chip) (f : RunSig → RunSig) : (c.upRunSig f).lands = c.lands := rfl
@[simp] theorem Chip.upRunSig_power (c : Chip) (f : RunSig → RunSig) : (c.upRunSig f).power = c.power := rfl
@[simp] theorem Chip.upRunSig_modes (c : Chip) (f : RunSig → RunSig) : (c.upRunSig f).modes = c.modes := rfl
@[simp] theorem Chip.upRunSig_tb (c : Chip) (f : RunSig → RunSig) : (c.upRunSig f).tb = c.tb := rfl
@[simp] theorem Chip.upRunSig_keeper (c : Chip) (f : RunSig → RunSig) : (c.upRunSig f).keeper = c.keeper := rfl
@[simp] theorem Chip.upRunSig_mram (c : Chip) (f : RunSig → RunSig) : (c.upRunSig f).mram = c.mram := rfl
@[simp] theorem Chip.upRunSig_start (c : Chip) (f : RunSig → RunSig) : (c.upRunSig f).start = c.start := rfl
@[simp] theorem Chip.upRunSig_rings (c : Chip) (f : RunSig → RunSig) : (c.upRunSig f).rings = c.rings := rfl
@[simp] theorem Chip.upRunSig_rules (c : Chip) (f : RunSig → RunSig) : (c.upRunSig f).rules = c.rules := rfl
@[simp] theorem Chip.upRunSig_seqs (c : Chip) (f : RunSig → RunSig) : (c.upRunSig f).seqs = c.seqs := rfl
@[simp] theorem Chip.upRunSig_fin (c : Chip) (f : RunSig → RunSig) : (c.upRunSig f).fin = c.fin := rfl
@[simp] theorem Chip.upRunSig_chains (c : Chip) (f : RunSig → RunSig) : (c.upRunSig f).chains = c.chains := rfl
@[simp] theorem Chip.upRunSig_burnish (c : Chip) (f : RunSig → RunSig) : (c.upRunSig f).burnish = c.burnish := rfl
@[simp] theorem Chip.upRunSig_exc (c : Chip) (f : RunSig → RunSig) : (c.upRunSig f).exc = c.exc := rfl
@[simp] theorem Chip.upRunSig_mon (c : Chip) (f : RunSig → RunSig) : (c.upRunSig f).mon = c.mon := rfl
@[simp] theorem Chip.upRunSig_acq (c : Chip) (f : RunSig → RunSig) : (c.upRunSig f).acq = c.acq := rfl
@[simp] theorem Chip.upRunSig_track (c : Chip) (f : RunSig → RunSig) : (c.upRunSig f).track = c.track := rfl
@[simp] theorem Chip.upRunSig_radio (c : Chip) (f : RunSig → RunSig) : (c.upRunSig f).radio = c.radio := rfl
@[simp] theorem Chip.upRunSig_yard (c : Chip) (f : RunSig → RunSig) : (c.upRunSig f).yard = c.yard := rfl
@[simp] theorem Chip.upRunSig_host (c : Chip) (f : RunSig → RunSig) : (c.upRunSig f).host = c.host := rfl
@[simp] theorem Chip.upRunSig_mem (c : Chip) (f : RunSig → RunSig) : (c.upRunSig f).mem = c.mem := rfl
@[simp] theorem Chip.upRunSig_upd (c : Chip) (f : RunSig → RunSig) : (c.upRunSig f).upd = c.upd := rfl
@[simp] theorem Chip.upRunSig_therm (c : Chip) (f : RunSig → RunSig) : (c.upRunSig f).therm = c.therm := rfl

/-! `upFin` -/

@[simp] theorem Chip.upFin_fin (c : Chip) (f : FieldInputs → FieldInputs) : (c.upFin f).fin = f c.fin := rfl
@[simp] theorem Chip.upFin_regs (c : Chip) (f : FieldInputs → FieldInputs) : (c.upFin f).regs = c.regs := rfl
@[simp] theorem Chip.upFin_run (c : Chip) (f : FieldInputs → FieldInputs) : (c.upFin f).run = c.run := rfl
@[simp] theorem Chip.upFin_girth (c : Chip) (f : FieldInputs → FieldInputs) : (c.upFin f).girth = c.girth := rfl
@[simp] theorem Chip.upFin_lands (c : Chip) (f : FieldInputs → FieldInputs) : (c.upFin f).lands = c.lands := rfl
@[simp] theorem Chip.upFin_power (c : Chip) (f : FieldInputs → FieldInputs) : (c.upFin f).power = c.power := rfl
@[simp] theorem Chip.upFin_modes (c : Chip) (f : FieldInputs → FieldInputs) : (c.upFin f).modes = c.modes := rfl
@[simp] theorem Chip.upFin_tb (c : Chip) (f : FieldInputs → FieldInputs) : (c.upFin f).tb = c.tb := rfl
@[simp] theorem Chip.upFin_keeper (c : Chip) (f : FieldInputs → FieldInputs) : (c.upFin f).keeper = c.keeper := rfl
@[simp] theorem Chip.upFin_mram (c : Chip) (f : FieldInputs → FieldInputs) : (c.upFin f).mram = c.mram := rfl
@[simp] theorem Chip.upFin_start (c : Chip) (f : FieldInputs → FieldInputs) : (c.upFin f).start = c.start := rfl
@[simp] theorem Chip.upFin_rings (c : Chip) (f : FieldInputs → FieldInputs) : (c.upFin f).rings = c.rings := rfl
@[simp] theorem Chip.upFin_rules (c : Chip) (f : FieldInputs → FieldInputs) : (c.upFin f).rules = c.rules := rfl
@[simp] theorem Chip.upFin_seqs (c : Chip) (f : FieldInputs → FieldInputs) : (c.upFin f).seqs = c.seqs := rfl
@[simp] theorem Chip.upFin_runSig (c : Chip) (f : FieldInputs → FieldInputs) : (c.upFin f).runSig = c.runSig := rfl
@[simp] theorem Chip.upFin_chains (c : Chip) (f : FieldInputs → FieldInputs) : (c.upFin f).chains = c.chains := rfl
@[simp] theorem Chip.upFin_burnish (c : Chip) (f : FieldInputs → FieldInputs) : (c.upFin f).burnish = c.burnish := rfl
@[simp] theorem Chip.upFin_exc (c : Chip) (f : FieldInputs → FieldInputs) : (c.upFin f).exc = c.exc := rfl
@[simp] theorem Chip.upFin_mon (c : Chip) (f : FieldInputs → FieldInputs) : (c.upFin f).mon = c.mon := rfl
@[simp] theorem Chip.upFin_acq (c : Chip) (f : FieldInputs → FieldInputs) : (c.upFin f).acq = c.acq := rfl
@[simp] theorem Chip.upFin_track (c : Chip) (f : FieldInputs → FieldInputs) : (c.upFin f).track = c.track := rfl
@[simp] theorem Chip.upFin_radio (c : Chip) (f : FieldInputs → FieldInputs) : (c.upFin f).radio = c.radio := rfl
@[simp] theorem Chip.upFin_yard (c : Chip) (f : FieldInputs → FieldInputs) : (c.upFin f).yard = c.yard := rfl
@[simp] theorem Chip.upFin_host (c : Chip) (f : FieldInputs → FieldInputs) : (c.upFin f).host = c.host := rfl
@[simp] theorem Chip.upFin_mem (c : Chip) (f : FieldInputs → FieldInputs) : (c.upFin f).mem = c.mem := rfl
@[simp] theorem Chip.upFin_upd (c : Chip) (f : FieldInputs → FieldInputs) : (c.upFin f).upd = c.upd := rfl
@[simp] theorem Chip.upFin_therm (c : Chip) (f : FieldInputs → FieldInputs) : (c.upFin f).therm = c.therm := rfl

/-! `upBurnish` -/

@[simp] theorem Chip.upBurnish_burnish (c : Chip) (f : Burnish → Burnish) : (c.upBurnish f).burnish = f c.burnish := rfl
@[simp] theorem Chip.upBurnish_regs (c : Chip) (f : Burnish → Burnish) : (c.upBurnish f).regs = c.regs := rfl
@[simp] theorem Chip.upBurnish_run (c : Chip) (f : Burnish → Burnish) : (c.upBurnish f).run = c.run := rfl
@[simp] theorem Chip.upBurnish_girth (c : Chip) (f : Burnish → Burnish) : (c.upBurnish f).girth = c.girth := rfl
@[simp] theorem Chip.upBurnish_lands (c : Chip) (f : Burnish → Burnish) : (c.upBurnish f).lands = c.lands := rfl
@[simp] theorem Chip.upBurnish_power (c : Chip) (f : Burnish → Burnish) : (c.upBurnish f).power = c.power := rfl
@[simp] theorem Chip.upBurnish_modes (c : Chip) (f : Burnish → Burnish) : (c.upBurnish f).modes = c.modes := rfl
@[simp] theorem Chip.upBurnish_tb (c : Chip) (f : Burnish → Burnish) : (c.upBurnish f).tb = c.tb := rfl
@[simp] theorem Chip.upBurnish_keeper (c : Chip) (f : Burnish → Burnish) : (c.upBurnish f).keeper = c.keeper := rfl
@[simp] theorem Chip.upBurnish_mram (c : Chip) (f : Burnish → Burnish) : (c.upBurnish f).mram = c.mram := rfl
@[simp] theorem Chip.upBurnish_start (c : Chip) (f : Burnish → Burnish) : (c.upBurnish f).start = c.start := rfl
@[simp] theorem Chip.upBurnish_rings (c : Chip) (f : Burnish → Burnish) : (c.upBurnish f).rings = c.rings := rfl
@[simp] theorem Chip.upBurnish_rules (c : Chip) (f : Burnish → Burnish) : (c.upBurnish f).rules = c.rules := rfl
@[simp] theorem Chip.upBurnish_seqs (c : Chip) (f : Burnish → Burnish) : (c.upBurnish f).seqs = c.seqs := rfl
@[simp] theorem Chip.upBurnish_runSig (c : Chip) (f : Burnish → Burnish) : (c.upBurnish f).runSig = c.runSig := rfl
@[simp] theorem Chip.upBurnish_fin (c : Chip) (f : Burnish → Burnish) : (c.upBurnish f).fin = c.fin := rfl
@[simp] theorem Chip.upBurnish_chains (c : Chip) (f : Burnish → Burnish) : (c.upBurnish f).chains = c.chains := rfl
@[simp] theorem Chip.upBurnish_exc (c : Chip) (f : Burnish → Burnish) : (c.upBurnish f).exc = c.exc := rfl
@[simp] theorem Chip.upBurnish_mon (c : Chip) (f : Burnish → Burnish) : (c.upBurnish f).mon = c.mon := rfl
@[simp] theorem Chip.upBurnish_acq (c : Chip) (f : Burnish → Burnish) : (c.upBurnish f).acq = c.acq := rfl
@[simp] theorem Chip.upBurnish_track (c : Chip) (f : Burnish → Burnish) : (c.upBurnish f).track = c.track := rfl
@[simp] theorem Chip.upBurnish_radio (c : Chip) (f : Burnish → Burnish) : (c.upBurnish f).radio = c.radio := rfl
@[simp] theorem Chip.upBurnish_yard (c : Chip) (f : Burnish → Burnish) : (c.upBurnish f).yard = c.yard := rfl
@[simp] theorem Chip.upBurnish_host (c : Chip) (f : Burnish → Burnish) : (c.upBurnish f).host = c.host := rfl
@[simp] theorem Chip.upBurnish_mem (c : Chip) (f : Burnish → Burnish) : (c.upBurnish f).mem = c.mem := rfl
@[simp] theorem Chip.upBurnish_upd (c : Chip) (f : Burnish → Burnish) : (c.upBurnish f).upd = c.upd := rfl
@[simp] theorem Chip.upBurnish_therm (c : Chip) (f : Burnish → Burnish) : (c.upBurnish f).therm = c.therm := rfl

/-! `upMon` -/

@[simp] theorem Chip.upMon_mon (c : Chip) (f : Monitor → Monitor) : (c.upMon f).mon = f c.mon := rfl
@[simp] theorem Chip.upMon_regs (c : Chip) (f : Monitor → Monitor) : (c.upMon f).regs = c.regs := rfl
@[simp] theorem Chip.upMon_run (c : Chip) (f : Monitor → Monitor) : (c.upMon f).run = c.run := rfl
@[simp] theorem Chip.upMon_girth (c : Chip) (f : Monitor → Monitor) : (c.upMon f).girth = c.girth := rfl
@[simp] theorem Chip.upMon_lands (c : Chip) (f : Monitor → Monitor) : (c.upMon f).lands = c.lands := rfl
@[simp] theorem Chip.upMon_power (c : Chip) (f : Monitor → Monitor) : (c.upMon f).power = c.power := rfl
@[simp] theorem Chip.upMon_modes (c : Chip) (f : Monitor → Monitor) : (c.upMon f).modes = c.modes := rfl
@[simp] theorem Chip.upMon_tb (c : Chip) (f : Monitor → Monitor) : (c.upMon f).tb = c.tb := rfl
@[simp] theorem Chip.upMon_keeper (c : Chip) (f : Monitor → Monitor) : (c.upMon f).keeper = c.keeper := rfl
@[simp] theorem Chip.upMon_mram (c : Chip) (f : Monitor → Monitor) : (c.upMon f).mram = c.mram := rfl
@[simp] theorem Chip.upMon_start (c : Chip) (f : Monitor → Monitor) : (c.upMon f).start = c.start := rfl
@[simp] theorem Chip.upMon_rings (c : Chip) (f : Monitor → Monitor) : (c.upMon f).rings = c.rings := rfl
@[simp] theorem Chip.upMon_rules (c : Chip) (f : Monitor → Monitor) : (c.upMon f).rules = c.rules := rfl
@[simp] theorem Chip.upMon_seqs (c : Chip) (f : Monitor → Monitor) : (c.upMon f).seqs = c.seqs := rfl
@[simp] theorem Chip.upMon_runSig (c : Chip) (f : Monitor → Monitor) : (c.upMon f).runSig = c.runSig := rfl
@[simp] theorem Chip.upMon_fin (c : Chip) (f : Monitor → Monitor) : (c.upMon f).fin = c.fin := rfl
@[simp] theorem Chip.upMon_chains (c : Chip) (f : Monitor → Monitor) : (c.upMon f).chains = c.chains := rfl
@[simp] theorem Chip.upMon_burnish (c : Chip) (f : Monitor → Monitor) : (c.upMon f).burnish = c.burnish := rfl
@[simp] theorem Chip.upMon_exc (c : Chip) (f : Monitor → Monitor) : (c.upMon f).exc = c.exc := rfl
@[simp] theorem Chip.upMon_acq (c : Chip) (f : Monitor → Monitor) : (c.upMon f).acq = c.acq := rfl
@[simp] theorem Chip.upMon_track (c : Chip) (f : Monitor → Monitor) : (c.upMon f).track = c.track := rfl
@[simp] theorem Chip.upMon_radio (c : Chip) (f : Monitor → Monitor) : (c.upMon f).radio = c.radio := rfl
@[simp] theorem Chip.upMon_yard (c : Chip) (f : Monitor → Monitor) : (c.upMon f).yard = c.yard := rfl
@[simp] theorem Chip.upMon_host (c : Chip) (f : Monitor → Monitor) : (c.upMon f).host = c.host := rfl
@[simp] theorem Chip.upMon_mem (c : Chip) (f : Monitor → Monitor) : (c.upMon f).mem = c.mem := rfl
@[simp] theorem Chip.upMon_upd (c : Chip) (f : Monitor → Monitor) : (c.upMon f).upd = c.upd := rfl
@[simp] theorem Chip.upMon_therm (c : Chip) (f : Monitor → Monitor) : (c.upMon f).therm = c.therm := rfl

/-! `upAcq` -/

@[simp] theorem Chip.upAcq_acq (c : Chip) (f : Acq → Acq) : (c.upAcq f).acq = f c.acq := rfl
@[simp] theorem Chip.upAcq_regs (c : Chip) (f : Acq → Acq) : (c.upAcq f).regs = c.regs := rfl
@[simp] theorem Chip.upAcq_run (c : Chip) (f : Acq → Acq) : (c.upAcq f).run = c.run := rfl
@[simp] theorem Chip.upAcq_girth (c : Chip) (f : Acq → Acq) : (c.upAcq f).girth = c.girth := rfl
@[simp] theorem Chip.upAcq_lands (c : Chip) (f : Acq → Acq) : (c.upAcq f).lands = c.lands := rfl
@[simp] theorem Chip.upAcq_power (c : Chip) (f : Acq → Acq) : (c.upAcq f).power = c.power := rfl
@[simp] theorem Chip.upAcq_modes (c : Chip) (f : Acq → Acq) : (c.upAcq f).modes = c.modes := rfl
@[simp] theorem Chip.upAcq_tb (c : Chip) (f : Acq → Acq) : (c.upAcq f).tb = c.tb := rfl
@[simp] theorem Chip.upAcq_keeper (c : Chip) (f : Acq → Acq) : (c.upAcq f).keeper = c.keeper := rfl
@[simp] theorem Chip.upAcq_mram (c : Chip) (f : Acq → Acq) : (c.upAcq f).mram = c.mram := rfl
@[simp] theorem Chip.upAcq_start (c : Chip) (f : Acq → Acq) : (c.upAcq f).start = c.start := rfl
@[simp] theorem Chip.upAcq_rings (c : Chip) (f : Acq → Acq) : (c.upAcq f).rings = c.rings := rfl
@[simp] theorem Chip.upAcq_rules (c : Chip) (f : Acq → Acq) : (c.upAcq f).rules = c.rules := rfl
@[simp] theorem Chip.upAcq_seqs (c : Chip) (f : Acq → Acq) : (c.upAcq f).seqs = c.seqs := rfl
@[simp] theorem Chip.upAcq_runSig (c : Chip) (f : Acq → Acq) : (c.upAcq f).runSig = c.runSig := rfl
@[simp] theorem Chip.upAcq_fin (c : Chip) (f : Acq → Acq) : (c.upAcq f).fin = c.fin := rfl
@[simp] theorem Chip.upAcq_chains (c : Chip) (f : Acq → Acq) : (c.upAcq f).chains = c.chains := rfl
@[simp] theorem Chip.upAcq_burnish (c : Chip) (f : Acq → Acq) : (c.upAcq f).burnish = c.burnish := rfl
@[simp] theorem Chip.upAcq_exc (c : Chip) (f : Acq → Acq) : (c.upAcq f).exc = c.exc := rfl
@[simp] theorem Chip.upAcq_mon (c : Chip) (f : Acq → Acq) : (c.upAcq f).mon = c.mon := rfl
@[simp] theorem Chip.upAcq_track (c : Chip) (f : Acq → Acq) : (c.upAcq f).track = c.track := rfl
@[simp] theorem Chip.upAcq_radio (c : Chip) (f : Acq → Acq) : (c.upAcq f).radio = c.radio := rfl
@[simp] theorem Chip.upAcq_yard (c : Chip) (f : Acq → Acq) : (c.upAcq f).yard = c.yard := rfl
@[simp] theorem Chip.upAcq_host (c : Chip) (f : Acq → Acq) : (c.upAcq f).host = c.host := rfl
@[simp] theorem Chip.upAcq_mem (c : Chip) (f : Acq → Acq) : (c.upAcq f).mem = c.mem := rfl
@[simp] theorem Chip.upAcq_upd (c : Chip) (f : Acq → Acq) : (c.upAcq f).upd = c.upd := rfl
@[simp] theorem Chip.upAcq_therm (c : Chip) (f : Acq → Acq) : (c.upAcq f).therm = c.therm := rfl

/-! `upTrack` -/

@[simp] theorem Chip.upTrack_track (c : Chip) (f : Track → Track) : (c.upTrack f).track = f c.track := rfl
@[simp] theorem Chip.upTrack_regs (c : Chip) (f : Track → Track) : (c.upTrack f).regs = c.regs := rfl
@[simp] theorem Chip.upTrack_run (c : Chip) (f : Track → Track) : (c.upTrack f).run = c.run := rfl
@[simp] theorem Chip.upTrack_girth (c : Chip) (f : Track → Track) : (c.upTrack f).girth = c.girth := rfl
@[simp] theorem Chip.upTrack_lands (c : Chip) (f : Track → Track) : (c.upTrack f).lands = c.lands := rfl
@[simp] theorem Chip.upTrack_power (c : Chip) (f : Track → Track) : (c.upTrack f).power = c.power := rfl
@[simp] theorem Chip.upTrack_modes (c : Chip) (f : Track → Track) : (c.upTrack f).modes = c.modes := rfl
@[simp] theorem Chip.upTrack_tb (c : Chip) (f : Track → Track) : (c.upTrack f).tb = c.tb := rfl
@[simp] theorem Chip.upTrack_keeper (c : Chip) (f : Track → Track) : (c.upTrack f).keeper = c.keeper := rfl
@[simp] theorem Chip.upTrack_mram (c : Chip) (f : Track → Track) : (c.upTrack f).mram = c.mram := rfl
@[simp] theorem Chip.upTrack_start (c : Chip) (f : Track → Track) : (c.upTrack f).start = c.start := rfl
@[simp] theorem Chip.upTrack_rings (c : Chip) (f : Track → Track) : (c.upTrack f).rings = c.rings := rfl
@[simp] theorem Chip.upTrack_rules (c : Chip) (f : Track → Track) : (c.upTrack f).rules = c.rules := rfl
@[simp] theorem Chip.upTrack_seqs (c : Chip) (f : Track → Track) : (c.upTrack f).seqs = c.seqs := rfl
@[simp] theorem Chip.upTrack_runSig (c : Chip) (f : Track → Track) : (c.upTrack f).runSig = c.runSig := rfl
@[simp] theorem Chip.upTrack_fin (c : Chip) (f : Track → Track) : (c.upTrack f).fin = c.fin := rfl
@[simp] theorem Chip.upTrack_chains (c : Chip) (f : Track → Track) : (c.upTrack f).chains = c.chains := rfl
@[simp] theorem Chip.upTrack_burnish (c : Chip) (f : Track → Track) : (c.upTrack f).burnish = c.burnish := rfl
@[simp] theorem Chip.upTrack_exc (c : Chip) (f : Track → Track) : (c.upTrack f).exc = c.exc := rfl
@[simp] theorem Chip.upTrack_mon (c : Chip) (f : Track → Track) : (c.upTrack f).mon = c.mon := rfl
@[simp] theorem Chip.upTrack_acq (c : Chip) (f : Track → Track) : (c.upTrack f).acq = c.acq := rfl
@[simp] theorem Chip.upTrack_radio (c : Chip) (f : Track → Track) : (c.upTrack f).radio = c.radio := rfl
@[simp] theorem Chip.upTrack_yard (c : Chip) (f : Track → Track) : (c.upTrack f).yard = c.yard := rfl
@[simp] theorem Chip.upTrack_host (c : Chip) (f : Track → Track) : (c.upTrack f).host = c.host := rfl
@[simp] theorem Chip.upTrack_mem (c : Chip) (f : Track → Track) : (c.upTrack f).mem = c.mem := rfl
@[simp] theorem Chip.upTrack_upd (c : Chip) (f : Track → Track) : (c.upTrack f).upd = c.upd := rfl
@[simp] theorem Chip.upTrack_therm (c : Chip) (f : Track → Track) : (c.upTrack f).therm = c.therm := rfl

/-! `upRadio` -/

@[simp] theorem Chip.upRadio_radio (c : Chip) (f : Radio → Radio) : (c.upRadio f).radio = f c.radio := rfl
@[simp] theorem Chip.upRadio_regs (c : Chip) (f : Radio → Radio) : (c.upRadio f).regs = c.regs := rfl
@[simp] theorem Chip.upRadio_run (c : Chip) (f : Radio → Radio) : (c.upRadio f).run = c.run := rfl
@[simp] theorem Chip.upRadio_girth (c : Chip) (f : Radio → Radio) : (c.upRadio f).girth = c.girth := rfl
@[simp] theorem Chip.upRadio_lands (c : Chip) (f : Radio → Radio) : (c.upRadio f).lands = c.lands := rfl
@[simp] theorem Chip.upRadio_power (c : Chip) (f : Radio → Radio) : (c.upRadio f).power = c.power := rfl
@[simp] theorem Chip.upRadio_modes (c : Chip) (f : Radio → Radio) : (c.upRadio f).modes = c.modes := rfl
@[simp] theorem Chip.upRadio_tb (c : Chip) (f : Radio → Radio) : (c.upRadio f).tb = c.tb := rfl
@[simp] theorem Chip.upRadio_keeper (c : Chip) (f : Radio → Radio) : (c.upRadio f).keeper = c.keeper := rfl
@[simp] theorem Chip.upRadio_mram (c : Chip) (f : Radio → Radio) : (c.upRadio f).mram = c.mram := rfl
@[simp] theorem Chip.upRadio_start (c : Chip) (f : Radio → Radio) : (c.upRadio f).start = c.start := rfl
@[simp] theorem Chip.upRadio_rings (c : Chip) (f : Radio → Radio) : (c.upRadio f).rings = c.rings := rfl
@[simp] theorem Chip.upRadio_rules (c : Chip) (f : Radio → Radio) : (c.upRadio f).rules = c.rules := rfl
@[simp] theorem Chip.upRadio_seqs (c : Chip) (f : Radio → Radio) : (c.upRadio f).seqs = c.seqs := rfl
@[simp] theorem Chip.upRadio_runSig (c : Chip) (f : Radio → Radio) : (c.upRadio f).runSig = c.runSig := rfl
@[simp] theorem Chip.upRadio_fin (c : Chip) (f : Radio → Radio) : (c.upRadio f).fin = c.fin := rfl
@[simp] theorem Chip.upRadio_chains (c : Chip) (f : Radio → Radio) : (c.upRadio f).chains = c.chains := rfl
@[simp] theorem Chip.upRadio_burnish (c : Chip) (f : Radio → Radio) : (c.upRadio f).burnish = c.burnish := rfl
@[simp] theorem Chip.upRadio_exc (c : Chip) (f : Radio → Radio) : (c.upRadio f).exc = c.exc := rfl
@[simp] theorem Chip.upRadio_mon (c : Chip) (f : Radio → Radio) : (c.upRadio f).mon = c.mon := rfl
@[simp] theorem Chip.upRadio_acq (c : Chip) (f : Radio → Radio) : (c.upRadio f).acq = c.acq := rfl
@[simp] theorem Chip.upRadio_track (c : Chip) (f : Radio → Radio) : (c.upRadio f).track = c.track := rfl
@[simp] theorem Chip.upRadio_yard (c : Chip) (f : Radio → Radio) : (c.upRadio f).yard = c.yard := rfl
@[simp] theorem Chip.upRadio_host (c : Chip) (f : Radio → Radio) : (c.upRadio f).host = c.host := rfl
@[simp] theorem Chip.upRadio_mem (c : Chip) (f : Radio → Radio) : (c.upRadio f).mem = c.mem := rfl
@[simp] theorem Chip.upRadio_upd (c : Chip) (f : Radio → Radio) : (c.upRadio f).upd = c.upd := rfl
@[simp] theorem Chip.upRadio_therm (c : Chip) (f : Radio → Radio) : (c.upRadio f).therm = c.therm := rfl

/-! `upYard` -/

@[simp] theorem Chip.upYard_yard (c : Chip) (f : Yard → Yard) : (c.upYard f).yard = f c.yard := rfl
@[simp] theorem Chip.upYard_regs (c : Chip) (f : Yard → Yard) : (c.upYard f).regs = c.regs := rfl
@[simp] theorem Chip.upYard_run (c : Chip) (f : Yard → Yard) : (c.upYard f).run = c.run := rfl
@[simp] theorem Chip.upYard_girth (c : Chip) (f : Yard → Yard) : (c.upYard f).girth = c.girth := rfl
@[simp] theorem Chip.upYard_lands (c : Chip) (f : Yard → Yard) : (c.upYard f).lands = c.lands := rfl
@[simp] theorem Chip.upYard_power (c : Chip) (f : Yard → Yard) : (c.upYard f).power = c.power := rfl
@[simp] theorem Chip.upYard_modes (c : Chip) (f : Yard → Yard) : (c.upYard f).modes = c.modes := rfl
@[simp] theorem Chip.upYard_tb (c : Chip) (f : Yard → Yard) : (c.upYard f).tb = c.tb := rfl
@[simp] theorem Chip.upYard_keeper (c : Chip) (f : Yard → Yard) : (c.upYard f).keeper = c.keeper := rfl
@[simp] theorem Chip.upYard_mram (c : Chip) (f : Yard → Yard) : (c.upYard f).mram = c.mram := rfl
@[simp] theorem Chip.upYard_start (c : Chip) (f : Yard → Yard) : (c.upYard f).start = c.start := rfl
@[simp] theorem Chip.upYard_rings (c : Chip) (f : Yard → Yard) : (c.upYard f).rings = c.rings := rfl
@[simp] theorem Chip.upYard_rules (c : Chip) (f : Yard → Yard) : (c.upYard f).rules = c.rules := rfl
@[simp] theorem Chip.upYard_seqs (c : Chip) (f : Yard → Yard) : (c.upYard f).seqs = c.seqs := rfl
@[simp] theorem Chip.upYard_runSig (c : Chip) (f : Yard → Yard) : (c.upYard f).runSig = c.runSig := rfl
@[simp] theorem Chip.upYard_fin (c : Chip) (f : Yard → Yard) : (c.upYard f).fin = c.fin := rfl
@[simp] theorem Chip.upYard_chains (c : Chip) (f : Yard → Yard) : (c.upYard f).chains = c.chains := rfl
@[simp] theorem Chip.upYard_burnish (c : Chip) (f : Yard → Yard) : (c.upYard f).burnish = c.burnish := rfl
@[simp] theorem Chip.upYard_exc (c : Chip) (f : Yard → Yard) : (c.upYard f).exc = c.exc := rfl
@[simp] theorem Chip.upYard_mon (c : Chip) (f : Yard → Yard) : (c.upYard f).mon = c.mon := rfl
@[simp] theorem Chip.upYard_acq (c : Chip) (f : Yard → Yard) : (c.upYard f).acq = c.acq := rfl
@[simp] theorem Chip.upYard_track (c : Chip) (f : Yard → Yard) : (c.upYard f).track = c.track := rfl
@[simp] theorem Chip.upYard_radio (c : Chip) (f : Yard → Yard) : (c.upYard f).radio = c.radio := rfl
@[simp] theorem Chip.upYard_host (c : Chip) (f : Yard → Yard) : (c.upYard f).host = c.host := rfl
@[simp] theorem Chip.upYard_mem (c : Chip) (f : Yard → Yard) : (c.upYard f).mem = c.mem := rfl
@[simp] theorem Chip.upYard_upd (c : Chip) (f : Yard → Yard) : (c.upYard f).upd = c.upd := rfl
@[simp] theorem Chip.upYard_therm (c : Chip) (f : Yard → Yard) : (c.upYard f).therm = c.therm := rfl

/-! `upHost` -/

@[simp] theorem Chip.upHost_host (c : Chip) (f : HostPort → HostPort) : (c.upHost f).host = f c.host := rfl
@[simp] theorem Chip.upHost_regs (c : Chip) (f : HostPort → HostPort) : (c.upHost f).regs = c.regs := rfl
@[simp] theorem Chip.upHost_run (c : Chip) (f : HostPort → HostPort) : (c.upHost f).run = c.run := rfl
@[simp] theorem Chip.upHost_girth (c : Chip) (f : HostPort → HostPort) : (c.upHost f).girth = c.girth := rfl
@[simp] theorem Chip.upHost_lands (c : Chip) (f : HostPort → HostPort) : (c.upHost f).lands = c.lands := rfl
@[simp] theorem Chip.upHost_power (c : Chip) (f : HostPort → HostPort) : (c.upHost f).power = c.power := rfl
@[simp] theorem Chip.upHost_modes (c : Chip) (f : HostPort → HostPort) : (c.upHost f).modes = c.modes := rfl
@[simp] theorem Chip.upHost_tb (c : Chip) (f : HostPort → HostPort) : (c.upHost f).tb = c.tb := rfl
@[simp] theorem Chip.upHost_keeper (c : Chip) (f : HostPort → HostPort) : (c.upHost f).keeper = c.keeper := rfl
@[simp] theorem Chip.upHost_mram (c : Chip) (f : HostPort → HostPort) : (c.upHost f).mram = c.mram := rfl
@[simp] theorem Chip.upHost_start (c : Chip) (f : HostPort → HostPort) : (c.upHost f).start = c.start := rfl
@[simp] theorem Chip.upHost_rings (c : Chip) (f : HostPort → HostPort) : (c.upHost f).rings = c.rings := rfl
@[simp] theorem Chip.upHost_rules (c : Chip) (f : HostPort → HostPort) : (c.upHost f).rules = c.rules := rfl
@[simp] theorem Chip.upHost_seqs (c : Chip) (f : HostPort → HostPort) : (c.upHost f).seqs = c.seqs := rfl
@[simp] theorem Chip.upHost_runSig (c : Chip) (f : HostPort → HostPort) : (c.upHost f).runSig = c.runSig := rfl
@[simp] theorem Chip.upHost_fin (c : Chip) (f : HostPort → HostPort) : (c.upHost f).fin = c.fin := rfl
@[simp] theorem Chip.upHost_chains (c : Chip) (f : HostPort → HostPort) : (c.upHost f).chains = c.chains := rfl
@[simp] theorem Chip.upHost_burnish (c : Chip) (f : HostPort → HostPort) : (c.upHost f).burnish = c.burnish := rfl
@[simp] theorem Chip.upHost_exc (c : Chip) (f : HostPort → HostPort) : (c.upHost f).exc = c.exc := rfl
@[simp] theorem Chip.upHost_mon (c : Chip) (f : HostPort → HostPort) : (c.upHost f).mon = c.mon := rfl
@[simp] theorem Chip.upHost_acq (c : Chip) (f : HostPort → HostPort) : (c.upHost f).acq = c.acq := rfl
@[simp] theorem Chip.upHost_track (c : Chip) (f : HostPort → HostPort) : (c.upHost f).track = c.track := rfl
@[simp] theorem Chip.upHost_radio (c : Chip) (f : HostPort → HostPort) : (c.upHost f).radio = c.radio := rfl
@[simp] theorem Chip.upHost_yard (c : Chip) (f : HostPort → HostPort) : (c.upHost f).yard = c.yard := rfl
@[simp] theorem Chip.upHost_mem (c : Chip) (f : HostPort → HostPort) : (c.upHost f).mem = c.mem := rfl
@[simp] theorem Chip.upHost_upd (c : Chip) (f : HostPort → HostPort) : (c.upHost f).upd = c.upd := rfl
@[simp] theorem Chip.upHost_therm (c : Chip) (f : HostPort → HostPort) : (c.upHost f).therm = c.therm := rfl

/-! `upMem` -/

@[simp] theorem Chip.upMem_mem (c : Chip) (f : MemPort → MemPort) : (c.upMem f).mem = f c.mem := rfl
@[simp] theorem Chip.upMem_regs (c : Chip) (f : MemPort → MemPort) : (c.upMem f).regs = c.regs := rfl
@[simp] theorem Chip.upMem_run (c : Chip) (f : MemPort → MemPort) : (c.upMem f).run = c.run := rfl
@[simp] theorem Chip.upMem_girth (c : Chip) (f : MemPort → MemPort) : (c.upMem f).girth = c.girth := rfl
@[simp] theorem Chip.upMem_lands (c : Chip) (f : MemPort → MemPort) : (c.upMem f).lands = c.lands := rfl
@[simp] theorem Chip.upMem_power (c : Chip) (f : MemPort → MemPort) : (c.upMem f).power = c.power := rfl
@[simp] theorem Chip.upMem_modes (c : Chip) (f : MemPort → MemPort) : (c.upMem f).modes = c.modes := rfl
@[simp] theorem Chip.upMem_tb (c : Chip) (f : MemPort → MemPort) : (c.upMem f).tb = c.tb := rfl
@[simp] theorem Chip.upMem_keeper (c : Chip) (f : MemPort → MemPort) : (c.upMem f).keeper = c.keeper := rfl
@[simp] theorem Chip.upMem_mram (c : Chip) (f : MemPort → MemPort) : (c.upMem f).mram = c.mram := rfl
@[simp] theorem Chip.upMem_start (c : Chip) (f : MemPort → MemPort) : (c.upMem f).start = c.start := rfl
@[simp] theorem Chip.upMem_rings (c : Chip) (f : MemPort → MemPort) : (c.upMem f).rings = c.rings := rfl
@[simp] theorem Chip.upMem_rules (c : Chip) (f : MemPort → MemPort) : (c.upMem f).rules = c.rules := rfl
@[simp] theorem Chip.upMem_seqs (c : Chip) (f : MemPort → MemPort) : (c.upMem f).seqs = c.seqs := rfl
@[simp] theorem Chip.upMem_runSig (c : Chip) (f : MemPort → MemPort) : (c.upMem f).runSig = c.runSig := rfl
@[simp] theorem Chip.upMem_fin (c : Chip) (f : MemPort → MemPort) : (c.upMem f).fin = c.fin := rfl
@[simp] theorem Chip.upMem_chains (c : Chip) (f : MemPort → MemPort) : (c.upMem f).chains = c.chains := rfl
@[simp] theorem Chip.upMem_burnish (c : Chip) (f : MemPort → MemPort) : (c.upMem f).burnish = c.burnish := rfl
@[simp] theorem Chip.upMem_exc (c : Chip) (f : MemPort → MemPort) : (c.upMem f).exc = c.exc := rfl
@[simp] theorem Chip.upMem_mon (c : Chip) (f : MemPort → MemPort) : (c.upMem f).mon = c.mon := rfl
@[simp] theorem Chip.upMem_acq (c : Chip) (f : MemPort → MemPort) : (c.upMem f).acq = c.acq := rfl
@[simp] theorem Chip.upMem_track (c : Chip) (f : MemPort → MemPort) : (c.upMem f).track = c.track := rfl
@[simp] theorem Chip.upMem_radio (c : Chip) (f : MemPort → MemPort) : (c.upMem f).radio = c.radio := rfl
@[simp] theorem Chip.upMem_yard (c : Chip) (f : MemPort → MemPort) : (c.upMem f).yard = c.yard := rfl
@[simp] theorem Chip.upMem_host (c : Chip) (f : MemPort → MemPort) : (c.upMem f).host = c.host := rfl
@[simp] theorem Chip.upMem_upd (c : Chip) (f : MemPort → MemPort) : (c.upMem f).upd = c.upd := rfl
@[simp] theorem Chip.upMem_therm (c : Chip) (f : MemPort → MemPort) : (c.upMem f).therm = c.therm := rfl

/-! `upUpd` -/

@[simp] theorem Chip.upUpd_upd (c : Chip) (f : Update → Update) : (c.upUpd f).upd = f c.upd := rfl
@[simp] theorem Chip.upUpd_regs (c : Chip) (f : Update → Update) : (c.upUpd f).regs = c.regs := rfl
@[simp] theorem Chip.upUpd_run (c : Chip) (f : Update → Update) : (c.upUpd f).run = c.run := rfl
@[simp] theorem Chip.upUpd_girth (c : Chip) (f : Update → Update) : (c.upUpd f).girth = c.girth := rfl
@[simp] theorem Chip.upUpd_lands (c : Chip) (f : Update → Update) : (c.upUpd f).lands = c.lands := rfl
@[simp] theorem Chip.upUpd_power (c : Chip) (f : Update → Update) : (c.upUpd f).power = c.power := rfl
@[simp] theorem Chip.upUpd_modes (c : Chip) (f : Update → Update) : (c.upUpd f).modes = c.modes := rfl
@[simp] theorem Chip.upUpd_tb (c : Chip) (f : Update → Update) : (c.upUpd f).tb = c.tb := rfl
@[simp] theorem Chip.upUpd_keeper (c : Chip) (f : Update → Update) : (c.upUpd f).keeper = c.keeper := rfl
@[simp] theorem Chip.upUpd_mram (c : Chip) (f : Update → Update) : (c.upUpd f).mram = c.mram := rfl
@[simp] theorem Chip.upUpd_start (c : Chip) (f : Update → Update) : (c.upUpd f).start = c.start := rfl
@[simp] theorem Chip.upUpd_rings (c : Chip) (f : Update → Update) : (c.upUpd f).rings = c.rings := rfl
@[simp] theorem Chip.upUpd_rules (c : Chip) (f : Update → Update) : (c.upUpd f).rules = c.rules := rfl
@[simp] theorem Chip.upUpd_seqs (c : Chip) (f : Update → Update) : (c.upUpd f).seqs = c.seqs := rfl
@[simp] theorem Chip.upUpd_runSig (c : Chip) (f : Update → Update) : (c.upUpd f).runSig = c.runSig := rfl
@[simp] theorem Chip.upUpd_fin (c : Chip) (f : Update → Update) : (c.upUpd f).fin = c.fin := rfl
@[simp] theorem Chip.upUpd_chains (c : Chip) (f : Update → Update) : (c.upUpd f).chains = c.chains := rfl
@[simp] theorem Chip.upUpd_burnish (c : Chip) (f : Update → Update) : (c.upUpd f).burnish = c.burnish := rfl
@[simp] theorem Chip.upUpd_exc (c : Chip) (f : Update → Update) : (c.upUpd f).exc = c.exc := rfl
@[simp] theorem Chip.upUpd_mon (c : Chip) (f : Update → Update) : (c.upUpd f).mon = c.mon := rfl
@[simp] theorem Chip.upUpd_acq (c : Chip) (f : Update → Update) : (c.upUpd f).acq = c.acq := rfl
@[simp] theorem Chip.upUpd_track (c : Chip) (f : Update → Update) : (c.upUpd f).track = c.track := rfl
@[simp] theorem Chip.upUpd_radio (c : Chip) (f : Update → Update) : (c.upUpd f).radio = c.radio := rfl
@[simp] theorem Chip.upUpd_yard (c : Chip) (f : Update → Update) : (c.upUpd f).yard = c.yard := rfl
@[simp] theorem Chip.upUpd_host (c : Chip) (f : Update → Update) : (c.upUpd f).host = c.host := rfl
@[simp] theorem Chip.upUpd_mem (c : Chip) (f : Update → Update) : (c.upUpd f).mem = c.mem := rfl
@[simp] theorem Chip.upUpd_therm (c : Chip) (f : Update → Update) : (c.upUpd f).therm = c.therm := rfl

/-! `upTherm` -/

@[simp] theorem Chip.upTherm_therm (c : Chip) (f : Thermal → Thermal) : (c.upTherm f).therm = f c.therm := rfl
@[simp] theorem Chip.upTherm_regs (c : Chip) (f : Thermal → Thermal) : (c.upTherm f).regs = c.regs := rfl
@[simp] theorem Chip.upTherm_run (c : Chip) (f : Thermal → Thermal) : (c.upTherm f).run = c.run := rfl
@[simp] theorem Chip.upTherm_girth (c : Chip) (f : Thermal → Thermal) : (c.upTherm f).girth = c.girth := rfl
@[simp] theorem Chip.upTherm_lands (c : Chip) (f : Thermal → Thermal) : (c.upTherm f).lands = c.lands := rfl
@[simp] theorem Chip.upTherm_power (c : Chip) (f : Thermal → Thermal) : (c.upTherm f).power = c.power := rfl
@[simp] theorem Chip.upTherm_modes (c : Chip) (f : Thermal → Thermal) : (c.upTherm f).modes = c.modes := rfl
@[simp] theorem Chip.upTherm_tb (c : Chip) (f : Thermal → Thermal) : (c.upTherm f).tb = c.tb := rfl
@[simp] theorem Chip.upTherm_keeper (c : Chip) (f : Thermal → Thermal) : (c.upTherm f).keeper = c.keeper := rfl
@[simp] theorem Chip.upTherm_mram (c : Chip) (f : Thermal → Thermal) : (c.upTherm f).mram = c.mram := rfl
@[simp] theorem Chip.upTherm_start (c : Chip) (f : Thermal → Thermal) : (c.upTherm f).start = c.start := rfl
@[simp] theorem Chip.upTherm_rings (c : Chip) (f : Thermal → Thermal) : (c.upTherm f).rings = c.rings := rfl
@[simp] theorem Chip.upTherm_rules (c : Chip) (f : Thermal → Thermal) : (c.upTherm f).rules = c.rules := rfl
@[simp] theorem Chip.upTherm_seqs (c : Chip) (f : Thermal → Thermal) : (c.upTherm f).seqs = c.seqs := rfl
@[simp] theorem Chip.upTherm_runSig (c : Chip) (f : Thermal → Thermal) : (c.upTherm f).runSig = c.runSig := rfl
@[simp] theorem Chip.upTherm_fin (c : Chip) (f : Thermal → Thermal) : (c.upTherm f).fin = c.fin := rfl
@[simp] theorem Chip.upTherm_chains (c : Chip) (f : Thermal → Thermal) : (c.upTherm f).chains = c.chains := rfl
@[simp] theorem Chip.upTherm_burnish (c : Chip) (f : Thermal → Thermal) : (c.upTherm f).burnish = c.burnish := rfl
@[simp] theorem Chip.upTherm_exc (c : Chip) (f : Thermal → Thermal) : (c.upTherm f).exc = c.exc := rfl
@[simp] theorem Chip.upTherm_mon (c : Chip) (f : Thermal → Thermal) : (c.upTherm f).mon = c.mon := rfl
@[simp] theorem Chip.upTherm_acq (c : Chip) (f : Thermal → Thermal) : (c.upTherm f).acq = c.acq := rfl
@[simp] theorem Chip.upTherm_track (c : Chip) (f : Thermal → Thermal) : (c.upTherm f).track = c.track := rfl
@[simp] theorem Chip.upTherm_radio (c : Chip) (f : Thermal → Thermal) : (c.upTherm f).radio = c.radio := rfl
@[simp] theorem Chip.upTherm_yard (c : Chip) (f : Thermal → Thermal) : (c.upTherm f).yard = c.yard := rfl
@[simp] theorem Chip.upTherm_host (c : Chip) (f : Thermal → Thermal) : (c.upTherm f).host = c.host := rfl
@[simp] theorem Chip.upTherm_mem (c : Chip) (f : Thermal → Thermal) : (c.upTherm f).mem = c.mem := rfl
@[simp] theorem Chip.upTherm_upd (c : Chip) (f : Thermal → Thermal) : (c.upTherm f).upd = c.upd := rfl

/-! `setReg` -/

@[simp] theorem Chip.setReg_run (c : Chip) (a : Nat) (w : Word) : (c.setReg a w).run = c.run := rfl
@[simp] theorem Chip.setReg_girth (c : Chip) (a : Nat) (w : Word) : (c.setReg a w).girth = c.girth := rfl
@[simp] theorem Chip.setReg_lands (c : Chip) (a : Nat) (w : Word) : (c.setReg a w).lands = c.lands := rfl
@[simp] theorem Chip.setReg_power (c : Chip) (a : Nat) (w : Word) : (c.setReg a w).power = c.power := rfl
@[simp] theorem Chip.setReg_modes (c : Chip) (a : Nat) (w : Word) : (c.setReg a w).modes = c.modes := rfl
@[simp] theorem Chip.setReg_tb (c : Chip) (a : Nat) (w : Word) : (c.setReg a w).tb = c.tb := rfl
@[simp] theorem Chip.setReg_keeper (c : Chip) (a : Nat) (w : Word) : (c.setReg a w).keeper = c.keeper := rfl
@[simp] theorem Chip.setReg_mram (c : Chip) (a : Nat) (w : Word) : (c.setReg a w).mram = c.mram := rfl
@[simp] theorem Chip.setReg_start (c : Chip) (a : Nat) (w : Word) : (c.setReg a w).start = c.start := rfl
@[simp] theorem Chip.setReg_rings (c : Chip) (a : Nat) (w : Word) : (c.setReg a w).rings = c.rings := rfl
@[simp] theorem Chip.setReg_rules (c : Chip) (a : Nat) (w : Word) : (c.setReg a w).rules = c.rules := rfl
@[simp] theorem Chip.setReg_seqs (c : Chip) (a : Nat) (w : Word) : (c.setReg a w).seqs = c.seqs := rfl
@[simp] theorem Chip.setReg_runSig (c : Chip) (a : Nat) (w : Word) : (c.setReg a w).runSig = c.runSig := rfl
@[simp] theorem Chip.setReg_fin (c : Chip) (a : Nat) (w : Word) : (c.setReg a w).fin = c.fin := rfl
@[simp] theorem Chip.setReg_chains (c : Chip) (a : Nat) (w : Word) : (c.setReg a w).chains = c.chains := rfl
@[simp] theorem Chip.setReg_burnish (c : Chip) (a : Nat) (w : Word) : (c.setReg a w).burnish = c.burnish := rfl
@[simp] theorem Chip.setReg_exc (c : Chip) (a : Nat) (w : Word) : (c.setReg a w).exc = c.exc := rfl
@[simp] theorem Chip.setReg_mon (c : Chip) (a : Nat) (w : Word) : (c.setReg a w).mon = c.mon := rfl
@[simp] theorem Chip.setReg_acq (c : Chip) (a : Nat) (w : Word) : (c.setReg a w).acq = c.acq := rfl
@[simp] theorem Chip.setReg_track (c : Chip) (a : Nat) (w : Word) : (c.setReg a w).track = c.track := rfl
@[simp] theorem Chip.setReg_radio (c : Chip) (a : Nat) (w : Word) : (c.setReg a w).radio = c.radio := rfl
@[simp] theorem Chip.setReg_yard (c : Chip) (a : Nat) (w : Word) : (c.setReg a w).yard = c.yard := rfl
@[simp] theorem Chip.setReg_host (c : Chip) (a : Nat) (w : Word) : (c.setReg a w).host = c.host := rfl
@[simp] theorem Chip.setReg_mem (c : Chip) (a : Nat) (w : Word) : (c.setReg a w).mem = c.mem := rfl
@[simp] theorem Chip.setReg_upd (c : Chip) (a : Nat) (w : Word) : (c.setReg a w).upd = c.upd := rfl
@[simp] theorem Chip.setReg_therm (c : Chip) (a : Nat) (w : Word) : (c.setReg a w).therm = c.therm := rfl

/-! `setFld` -/

@[simp] theorem Chip.setFld_run (c : Chip) (a hi lo v : Nat) : (c.setFld a hi lo v).run = c.run := rfl
@[simp] theorem Chip.setFld_girth (c : Chip) (a hi lo v : Nat) : (c.setFld a hi lo v).girth = c.girth := rfl
@[simp] theorem Chip.setFld_lands (c : Chip) (a hi lo v : Nat) : (c.setFld a hi lo v).lands = c.lands := rfl
@[simp] theorem Chip.setFld_power (c : Chip) (a hi lo v : Nat) : (c.setFld a hi lo v).power = c.power := rfl
@[simp] theorem Chip.setFld_modes (c : Chip) (a hi lo v : Nat) : (c.setFld a hi lo v).modes = c.modes := rfl
@[simp] theorem Chip.setFld_tb (c : Chip) (a hi lo v : Nat) : (c.setFld a hi lo v).tb = c.tb := rfl
@[simp] theorem Chip.setFld_keeper (c : Chip) (a hi lo v : Nat) : (c.setFld a hi lo v).keeper = c.keeper := rfl
@[simp] theorem Chip.setFld_mram (c : Chip) (a hi lo v : Nat) : (c.setFld a hi lo v).mram = c.mram := rfl
@[simp] theorem Chip.setFld_start (c : Chip) (a hi lo v : Nat) : (c.setFld a hi lo v).start = c.start := rfl
@[simp] theorem Chip.setFld_rings (c : Chip) (a hi lo v : Nat) : (c.setFld a hi lo v).rings = c.rings := rfl
@[simp] theorem Chip.setFld_rules (c : Chip) (a hi lo v : Nat) : (c.setFld a hi lo v).rules = c.rules := rfl
@[simp] theorem Chip.setFld_seqs (c : Chip) (a hi lo v : Nat) : (c.setFld a hi lo v).seqs = c.seqs := rfl
@[simp] theorem Chip.setFld_runSig (c : Chip) (a hi lo v : Nat) : (c.setFld a hi lo v).runSig = c.runSig := rfl
@[simp] theorem Chip.setFld_fin (c : Chip) (a hi lo v : Nat) : (c.setFld a hi lo v).fin = c.fin := rfl
@[simp] theorem Chip.setFld_chains (c : Chip) (a hi lo v : Nat) : (c.setFld a hi lo v).chains = c.chains := rfl
@[simp] theorem Chip.setFld_burnish (c : Chip) (a hi lo v : Nat) : (c.setFld a hi lo v).burnish = c.burnish := rfl
@[simp] theorem Chip.setFld_exc (c : Chip) (a hi lo v : Nat) : (c.setFld a hi lo v).exc = c.exc := rfl
@[simp] theorem Chip.setFld_mon (c : Chip) (a hi lo v : Nat) : (c.setFld a hi lo v).mon = c.mon := rfl
@[simp] theorem Chip.setFld_acq (c : Chip) (a hi lo v : Nat) : (c.setFld a hi lo v).acq = c.acq := rfl
@[simp] theorem Chip.setFld_track (c : Chip) (a hi lo v : Nat) : (c.setFld a hi lo v).track = c.track := rfl
@[simp] theorem Chip.setFld_radio (c : Chip) (a hi lo v : Nat) : (c.setFld a hi lo v).radio = c.radio := rfl
@[simp] theorem Chip.setFld_yard (c : Chip) (a hi lo v : Nat) : (c.setFld a hi lo v).yard = c.yard := rfl
@[simp] theorem Chip.setFld_host (c : Chip) (a hi lo v : Nat) : (c.setFld a hi lo v).host = c.host := rfl
@[simp] theorem Chip.setFld_mem (c : Chip) (a hi lo v : Nat) : (c.setFld a hi lo v).mem = c.mem := rfl
@[simp] theorem Chip.setFld_upd (c : Chip) (a hi lo v : Nat) : (c.setFld a hi lo v).upd = c.upd := rfl
@[simp] theorem Chip.setFld_therm (c : Chip) (a hi lo v : Nat) : (c.setFld a hi lo v).therm = c.therm := rfl

/-! `setBits` -/

@[simp] theorem Chip.setBits_run (c : Chip) (a m : Nat) : (c.setBits a m).run = c.run := rfl
@[simp] theorem Chip.setBits_girth (c : Chip) (a m : Nat) : (c.setBits a m).girth = c.girth := rfl
@[simp] theorem Chip.setBits_lands (c : Chip) (a m : Nat) : (c.setBits a m).lands = c.lands := rfl
@[simp] theorem Chip.setBits_power (c : Chip) (a m : Nat) : (c.setBits a m).power = c.power := rfl
@[simp] theorem Chip.setBits_modes (c : Chip) (a m : Nat) : (c.setBits a m).modes = c.modes := rfl
@[simp] theorem Chip.setBits_tb (c : Chip) (a m : Nat) : (c.setBits a m).tb = c.tb := rfl
@[simp] theorem Chip.setBits_keeper (c : Chip) (a m : Nat) : (c.setBits a m).keeper = c.keeper := rfl
@[simp] theorem Chip.setBits_mram (c : Chip) (a m : Nat) : (c.setBits a m).mram = c.mram := rfl
@[simp] theorem Chip.setBits_start (c : Chip) (a m : Nat) : (c.setBits a m).start = c.start := rfl
@[simp] theorem Chip.setBits_rings (c : Chip) (a m : Nat) : (c.setBits a m).rings = c.rings := rfl
@[simp] theorem Chip.setBits_rules (c : Chip) (a m : Nat) : (c.setBits a m).rules = c.rules := rfl
@[simp] theorem Chip.setBits_seqs (c : Chip) (a m : Nat) : (c.setBits a m).seqs = c.seqs := rfl
@[simp] theorem Chip.setBits_runSig (c : Chip) (a m : Nat) : (c.setBits a m).runSig = c.runSig := rfl
@[simp] theorem Chip.setBits_fin (c : Chip) (a m : Nat) : (c.setBits a m).fin = c.fin := rfl
@[simp] theorem Chip.setBits_chains (c : Chip) (a m : Nat) : (c.setBits a m).chains = c.chains := rfl
@[simp] theorem Chip.setBits_burnish (c : Chip) (a m : Nat) : (c.setBits a m).burnish = c.burnish := rfl
@[simp] theorem Chip.setBits_exc (c : Chip) (a m : Nat) : (c.setBits a m).exc = c.exc := rfl
@[simp] theorem Chip.setBits_mon (c : Chip) (a m : Nat) : (c.setBits a m).mon = c.mon := rfl
@[simp] theorem Chip.setBits_acq (c : Chip) (a m : Nat) : (c.setBits a m).acq = c.acq := rfl
@[simp] theorem Chip.setBits_track (c : Chip) (a m : Nat) : (c.setBits a m).track = c.track := rfl
@[simp] theorem Chip.setBits_radio (c : Chip) (a m : Nat) : (c.setBits a m).radio = c.radio := rfl
@[simp] theorem Chip.setBits_yard (c : Chip) (a m : Nat) : (c.setBits a m).yard = c.yard := rfl
@[simp] theorem Chip.setBits_host (c : Chip) (a m : Nat) : (c.setBits a m).host = c.host := rfl
@[simp] theorem Chip.setBits_mem (c : Chip) (a m : Nat) : (c.setBits a m).mem = c.mem := rfl
@[simp] theorem Chip.setBits_upd (c : Chip) (a m : Nat) : (c.setBits a m).upd = c.upd := rfl
@[simp] theorem Chip.setBits_therm (c : Chip) (a m : Nat) : (c.setBits a m).therm = c.therm := rfl

/-! `clrBits` -/

@[simp] theorem Chip.clrBits_run (c : Chip) (a m : Nat) : (c.clrBits a m).run = c.run := rfl
@[simp] theorem Chip.clrBits_girth (c : Chip) (a m : Nat) : (c.clrBits a m).girth = c.girth := rfl
@[simp] theorem Chip.clrBits_lands (c : Chip) (a m : Nat) : (c.clrBits a m).lands = c.lands := rfl
@[simp] theorem Chip.clrBits_power (c : Chip) (a m : Nat) : (c.clrBits a m).power = c.power := rfl
@[simp] theorem Chip.clrBits_modes (c : Chip) (a m : Nat) : (c.clrBits a m).modes = c.modes := rfl
@[simp] theorem Chip.clrBits_tb (c : Chip) (a m : Nat) : (c.clrBits a m).tb = c.tb := rfl
@[simp] theorem Chip.clrBits_keeper (c : Chip) (a m : Nat) : (c.clrBits a m).keeper = c.keeper := rfl
@[simp] theorem Chip.clrBits_mram (c : Chip) (a m : Nat) : (c.clrBits a m).mram = c.mram := rfl
@[simp] theorem Chip.clrBits_start (c : Chip) (a m : Nat) : (c.clrBits a m).start = c.start := rfl
@[simp] theorem Chip.clrBits_rings (c : Chip) (a m : Nat) : (c.clrBits a m).rings = c.rings := rfl
@[simp] theorem Chip.clrBits_rules (c : Chip) (a m : Nat) : (c.clrBits a m).rules = c.rules := rfl
@[simp] theorem Chip.clrBits_seqs (c : Chip) (a m : Nat) : (c.clrBits a m).seqs = c.seqs := rfl
@[simp] theorem Chip.clrBits_runSig (c : Chip) (a m : Nat) : (c.clrBits a m).runSig = c.runSig := rfl
@[simp] theorem Chip.clrBits_fin (c : Chip) (a m : Nat) : (c.clrBits a m).fin = c.fin := rfl
@[simp] theorem Chip.clrBits_chains (c : Chip) (a m : Nat) : (c.clrBits a m).chains = c.chains := rfl
@[simp] theorem Chip.clrBits_burnish (c : Chip) (a m : Nat) : (c.clrBits a m).burnish = c.burnish := rfl
@[simp] theorem Chip.clrBits_exc (c : Chip) (a m : Nat) : (c.clrBits a m).exc = c.exc := rfl
@[simp] theorem Chip.clrBits_mon (c : Chip) (a m : Nat) : (c.clrBits a m).mon = c.mon := rfl
@[simp] theorem Chip.clrBits_acq (c : Chip) (a m : Nat) : (c.clrBits a m).acq = c.acq := rfl
@[simp] theorem Chip.clrBits_track (c : Chip) (a m : Nat) : (c.clrBits a m).track = c.track := rfl
@[simp] theorem Chip.clrBits_radio (c : Chip) (a m : Nat) : (c.clrBits a m).radio = c.radio := rfl
@[simp] theorem Chip.clrBits_yard (c : Chip) (a m : Nat) : (c.clrBits a m).yard = c.yard := rfl
@[simp] theorem Chip.clrBits_host (c : Chip) (a m : Nat) : (c.clrBits a m).host = c.host := rfl
@[simp] theorem Chip.clrBits_mem (c : Chip) (a m : Nat) : (c.clrBits a m).mem = c.mem := rfl
@[simp] theorem Chip.clrBits_upd (c : Chip) (a m : Nat) : (c.clrBits a m).upd = c.upd := rfl
@[simp] theorem Chip.clrBits_therm (c : Chip) (a m : Nat) : (c.clrBits a m).therm = c.therm := rfl

/-! `armLast` -/

@[simp] theorem Chip.armLast_run (c : Chip) (a r : Nat) : (c.armLast a r).run = c.run := Chip.setReg_run _ _ _
@[simp] theorem Chip.armLast_girth (c : Chip) (a r : Nat) : (c.armLast a r).girth = c.girth := Chip.setReg_girth _ _ _
@[simp] theorem Chip.armLast_lands (c : Chip) (a r : Nat) : (c.armLast a r).lands = c.lands := Chip.setReg_lands _ _ _
@[simp] theorem Chip.armLast_power (c : Chip) (a r : Nat) : (c.armLast a r).power = c.power := Chip.setReg_power _ _ _
@[simp] theorem Chip.armLast_modes (c : Chip) (a r : Nat) : (c.armLast a r).modes = c.modes := Chip.setReg_modes _ _ _
@[simp] theorem Chip.armLast_tb (c : Chip) (a r : Nat) : (c.armLast a r).tb = c.tb := Chip.setReg_tb _ _ _
@[simp] theorem Chip.armLast_keeper (c : Chip) (a r : Nat) : (c.armLast a r).keeper = c.keeper := Chip.setReg_keeper _ _ _
@[simp] theorem Chip.armLast_mram (c : Chip) (a r : Nat) : (c.armLast a r).mram = c.mram := Chip.setReg_mram _ _ _
@[simp] theorem Chip.armLast_start (c : Chip) (a r : Nat) : (c.armLast a r).start = c.start := Chip.setReg_start _ _ _
@[simp] theorem Chip.armLast_rings (c : Chip) (a r : Nat) : (c.armLast a r).rings = c.rings := Chip.setReg_rings _ _ _
@[simp] theorem Chip.armLast_rules (c : Chip) (a r : Nat) : (c.armLast a r).rules = c.rules := Chip.setReg_rules _ _ _
@[simp] theorem Chip.armLast_seqs (c : Chip) (a r : Nat) : (c.armLast a r).seqs = c.seqs := Chip.setReg_seqs _ _ _
@[simp] theorem Chip.armLast_runSig (c : Chip) (a r : Nat) : (c.armLast a r).runSig = c.runSig := Chip.setReg_runSig _ _ _
@[simp] theorem Chip.armLast_fin (c : Chip) (a r : Nat) : (c.armLast a r).fin = c.fin := Chip.setReg_fin _ _ _
@[simp] theorem Chip.armLast_chains (c : Chip) (a r : Nat) : (c.armLast a r).chains = c.chains := Chip.setReg_chains _ _ _
@[simp] theorem Chip.armLast_burnish (c : Chip) (a r : Nat) : (c.armLast a r).burnish = c.burnish := Chip.setReg_burnish _ _ _
@[simp] theorem Chip.armLast_exc (c : Chip) (a r : Nat) : (c.armLast a r).exc = c.exc := Chip.setReg_exc _ _ _
@[simp] theorem Chip.armLast_mon (c : Chip) (a r : Nat) : (c.armLast a r).mon = c.mon := Chip.setReg_mon _ _ _
@[simp] theorem Chip.armLast_acq (c : Chip) (a r : Nat) : (c.armLast a r).acq = c.acq := Chip.setReg_acq _ _ _
@[simp] theorem Chip.armLast_track (c : Chip) (a r : Nat) : (c.armLast a r).track = c.track := Chip.setReg_track _ _ _
@[simp] theorem Chip.armLast_radio (c : Chip) (a r : Nat) : (c.armLast a r).radio = c.radio := Chip.setReg_radio _ _ _
@[simp] theorem Chip.armLast_yard (c : Chip) (a r : Nat) : (c.armLast a r).yard = c.yard := Chip.setReg_yard _ _ _
@[simp] theorem Chip.armLast_host (c : Chip) (a r : Nat) : (c.armLast a r).host = c.host := Chip.setReg_host _ _ _
@[simp] theorem Chip.armLast_mem (c : Chip) (a r : Nat) : (c.armLast a r).mem = c.mem := Chip.setReg_mem _ _ _
@[simp] theorem Chip.armLast_upd (c : Chip) (a r : Nat) : (c.armLast a r).upd = c.upd := Chip.setReg_upd _ _ _
@[simp] theorem Chip.armLast_therm (c : Chip) (a r : Nat) : (c.armLast a r).therm = c.therm := Chip.setReg_therm _ _ _

/-! `setRun` -/

@[simp] theorem Chip.setRun_regs (c : Chip) (a : Nat) (w : Word) : (c.setRun a w).regs = c.regs := rfl
@[simp] theorem Chip.setRun_girth (c : Chip) (a : Nat) (w : Word) : (c.setRun a w).girth = c.girth := rfl
@[simp] theorem Chip.setRun_lands (c : Chip) (a : Nat) (w : Word) : (c.setRun a w).lands = c.lands := rfl
@[simp] theorem Chip.setRun_power (c : Chip) (a : Nat) (w : Word) : (c.setRun a w).power = c.power := rfl
@[simp] theorem Chip.setRun_modes (c : Chip) (a : Nat) (w : Word) : (c.setRun a w).modes = c.modes := rfl
@[simp] theorem Chip.setRun_tb (c : Chip) (a : Nat) (w : Word) : (c.setRun a w).tb = c.tb := rfl
@[simp] theorem Chip.setRun_keeper (c : Chip) (a : Nat) (w : Word) : (c.setRun a w).keeper = c.keeper := rfl
@[simp] theorem Chip.setRun_mram (c : Chip) (a : Nat) (w : Word) : (c.setRun a w).mram = c.mram := rfl
@[simp] theorem Chip.setRun_start (c : Chip) (a : Nat) (w : Word) : (c.setRun a w).start = c.start := rfl
@[simp] theorem Chip.setRun_rings (c : Chip) (a : Nat) (w : Word) : (c.setRun a w).rings = c.rings := rfl
@[simp] theorem Chip.setRun_rules (c : Chip) (a : Nat) (w : Word) : (c.setRun a w).rules = c.rules := rfl
@[simp] theorem Chip.setRun_seqs (c : Chip) (a : Nat) (w : Word) : (c.setRun a w).seqs = c.seqs := rfl
@[simp] theorem Chip.setRun_runSig (c : Chip) (a : Nat) (w : Word) : (c.setRun a w).runSig = c.runSig := rfl
@[simp] theorem Chip.setRun_fin (c : Chip) (a : Nat) (w : Word) : (c.setRun a w).fin = c.fin := rfl
@[simp] theorem Chip.setRun_chains (c : Chip) (a : Nat) (w : Word) : (c.setRun a w).chains = c.chains := rfl
@[simp] theorem Chip.setRun_burnish (c : Chip) (a : Nat) (w : Word) : (c.setRun a w).burnish = c.burnish := rfl
@[simp] theorem Chip.setRun_exc (c : Chip) (a : Nat) (w : Word) : (c.setRun a w).exc = c.exc := rfl
@[simp] theorem Chip.setRun_mon (c : Chip) (a : Nat) (w : Word) : (c.setRun a w).mon = c.mon := rfl
@[simp] theorem Chip.setRun_acq (c : Chip) (a : Nat) (w : Word) : (c.setRun a w).acq = c.acq := rfl
@[simp] theorem Chip.setRun_track (c : Chip) (a : Nat) (w : Word) : (c.setRun a w).track = c.track := rfl
@[simp] theorem Chip.setRun_radio (c : Chip) (a : Nat) (w : Word) : (c.setRun a w).radio = c.radio := rfl
@[simp] theorem Chip.setRun_yard (c : Chip) (a : Nat) (w : Word) : (c.setRun a w).yard = c.yard := rfl
@[simp] theorem Chip.setRun_host (c : Chip) (a : Nat) (w : Word) : (c.setRun a w).host = c.host := rfl
@[simp] theorem Chip.setRun_mem (c : Chip) (a : Nat) (w : Word) : (c.setRun a w).mem = c.mem := rfl
@[simp] theorem Chip.setRun_upd (c : Chip) (a : Nat) (w : Word) : (c.setRun a w).upd = c.upd := rfl
@[simp] theorem Chip.setRun_therm (c : Chip) (a : Nat) (w : Word) : (c.setRun a w).therm = c.therm := rfl

/-! `dropArmed` -/

@[simp] theorem Chip.dropArmed_regs (c : Chip) (a : Nat) : (c.dropArmed a).regs = c.regs := rfl
@[simp] theorem Chip.dropArmed_run (c : Chip) (a : Nat) : (c.dropArmed a).run = c.run := rfl
@[simp] theorem Chip.dropArmed_lands (c : Chip) (a : Nat) : (c.dropArmed a).lands = c.lands := rfl
@[simp] theorem Chip.dropArmed_power (c : Chip) (a : Nat) : (c.dropArmed a).power = c.power := rfl
@[simp] theorem Chip.dropArmed_modes (c : Chip) (a : Nat) : (c.dropArmed a).modes = c.modes := rfl
@[simp] theorem Chip.dropArmed_tb (c : Chip) (a : Nat) : (c.dropArmed a).tb = c.tb := rfl
@[simp] theorem Chip.dropArmed_keeper (c : Chip) (a : Nat) : (c.dropArmed a).keeper = c.keeper := rfl
@[simp] theorem Chip.dropArmed_mram (c : Chip) (a : Nat) : (c.dropArmed a).mram = c.mram := rfl
@[simp] theorem Chip.dropArmed_start (c : Chip) (a : Nat) : (c.dropArmed a).start = c.start := rfl
@[simp] theorem Chip.dropArmed_rings (c : Chip) (a : Nat) : (c.dropArmed a).rings = c.rings := rfl
@[simp] theorem Chip.dropArmed_rules (c : Chip) (a : Nat) : (c.dropArmed a).rules = c.rules := rfl
@[simp] theorem Chip.dropArmed_seqs (c : Chip) (a : Nat) : (c.dropArmed a).seqs = c.seqs := rfl
@[simp] theorem Chip.dropArmed_runSig (c : Chip) (a : Nat) : (c.dropArmed a).runSig = c.runSig := rfl
@[simp] theorem Chip.dropArmed_fin (c : Chip) (a : Nat) : (c.dropArmed a).fin = c.fin := rfl
@[simp] theorem Chip.dropArmed_chains (c : Chip) (a : Nat) : (c.dropArmed a).chains = c.chains := rfl
@[simp] theorem Chip.dropArmed_burnish (c : Chip) (a : Nat) : (c.dropArmed a).burnish = c.burnish := rfl
@[simp] theorem Chip.dropArmed_exc (c : Chip) (a : Nat) : (c.dropArmed a).exc = c.exc := rfl
@[simp] theorem Chip.dropArmed_mon (c : Chip) (a : Nat) : (c.dropArmed a).mon = c.mon := rfl
@[simp] theorem Chip.dropArmed_acq (c : Chip) (a : Nat) : (c.dropArmed a).acq = c.acq := rfl
@[simp] theorem Chip.dropArmed_track (c : Chip) (a : Nat) : (c.dropArmed a).track = c.track := rfl
@[simp] theorem Chip.dropArmed_radio (c : Chip) (a : Nat) : (c.dropArmed a).radio = c.radio := rfl
@[simp] theorem Chip.dropArmed_yard (c : Chip) (a : Nat) : (c.dropArmed a).yard = c.yard := rfl
@[simp] theorem Chip.dropArmed_host (c : Chip) (a : Nat) : (c.dropArmed a).host = c.host := rfl
@[simp] theorem Chip.dropArmed_mem (c : Chip) (a : Nat) : (c.dropArmed a).mem = c.mem := rfl
@[simp] theorem Chip.dropArmed_upd (c : Chip) (a : Nat) : (c.dropArmed a).upd = c.upd := rfl
@[simp] theorem Chip.dropArmed_therm (c : Chip) (a : Nat) : (c.dropArmed a).therm = c.therm := rfl

/-! `holdSet` -/

@[simp] theorem Chip.holdSet_regs (c : Chip) (a : Nat) (ws : List (Nat × Word)) : (c.holdSet a ws).regs = c.regs := rfl
@[simp] theorem Chip.holdSet_run (c : Chip) (a : Nat) (ws : List (Nat × Word)) : (c.holdSet a ws).run = c.run := rfl
@[simp] theorem Chip.holdSet_lands (c : Chip) (a : Nat) (ws : List (Nat × Word)) : (c.holdSet a ws).lands = c.lands := rfl
@[simp] theorem Chip.holdSet_power (c : Chip) (a : Nat) (ws : List (Nat × Word)) : (c.holdSet a ws).power = c.power := rfl
@[simp] theorem Chip.holdSet_modes (c : Chip) (a : Nat) (ws : List (Nat × Word)) : (c.holdSet a ws).modes = c.modes := rfl
@[simp] theorem Chip.holdSet_tb (c : Chip) (a : Nat) (ws : List (Nat × Word)) : (c.holdSet a ws).tb = c.tb := rfl
@[simp] theorem Chip.holdSet_keeper (c : Chip) (a : Nat) (ws : List (Nat × Word)) : (c.holdSet a ws).keeper = c.keeper := rfl
@[simp] theorem Chip.holdSet_mram (c : Chip) (a : Nat) (ws : List (Nat × Word)) : (c.holdSet a ws).mram = c.mram := rfl
@[simp] theorem Chip.holdSet_start (c : Chip) (a : Nat) (ws : List (Nat × Word)) : (c.holdSet a ws).start = c.start := rfl
@[simp] theorem Chip.holdSet_rings (c : Chip) (a : Nat) (ws : List (Nat × Word)) : (c.holdSet a ws).rings = c.rings := rfl
@[simp] theorem Chip.holdSet_rules (c : Chip) (a : Nat) (ws : List (Nat × Word)) : (c.holdSet a ws).rules = c.rules := rfl
@[simp] theorem Chip.holdSet_seqs (c : Chip) (a : Nat) (ws : List (Nat × Word)) : (c.holdSet a ws).seqs = c.seqs := rfl
@[simp] theorem Chip.holdSet_runSig (c : Chip) (a : Nat) (ws : List (Nat × Word)) : (c.holdSet a ws).runSig = c.runSig := rfl
@[simp] theorem Chip.holdSet_fin (c : Chip) (a : Nat) (ws : List (Nat × Word)) : (c.holdSet a ws).fin = c.fin := rfl
@[simp] theorem Chip.holdSet_chains (c : Chip) (a : Nat) (ws : List (Nat × Word)) : (c.holdSet a ws).chains = c.chains := rfl
@[simp] theorem Chip.holdSet_burnish (c : Chip) (a : Nat) (ws : List (Nat × Word)) : (c.holdSet a ws).burnish = c.burnish := rfl
@[simp] theorem Chip.holdSet_exc (c : Chip) (a : Nat) (ws : List (Nat × Word)) : (c.holdSet a ws).exc = c.exc := rfl
@[simp] theorem Chip.holdSet_mon (c : Chip) (a : Nat) (ws : List (Nat × Word)) : (c.holdSet a ws).mon = c.mon := rfl
@[simp] theorem Chip.holdSet_acq (c : Chip) (a : Nat) (ws : List (Nat × Word)) : (c.holdSet a ws).acq = c.acq := rfl
@[simp] theorem Chip.holdSet_track (c : Chip) (a : Nat) (ws : List (Nat × Word)) : (c.holdSet a ws).track = c.track := rfl
@[simp] theorem Chip.holdSet_radio (c : Chip) (a : Nat) (ws : List (Nat × Word)) : (c.holdSet a ws).radio = c.radio := rfl
@[simp] theorem Chip.holdSet_yard (c : Chip) (a : Nat) (ws : List (Nat × Word)) : (c.holdSet a ws).yard = c.yard := rfl
@[simp] theorem Chip.holdSet_host (c : Chip) (a : Nat) (ws : List (Nat × Word)) : (c.holdSet a ws).host = c.host := rfl
@[simp] theorem Chip.holdSet_mem (c : Chip) (a : Nat) (ws : List (Nat × Word)) : (c.holdSet a ws).mem = c.mem := rfl
@[simp] theorem Chip.holdSet_upd (c : Chip) (a : Nat) (ws : List (Nat × Word)) : (c.holdSet a ws).upd = c.upd := rfl
@[simp] theorem Chip.holdSet_therm (c : Chip) (a : Nat) (ws : List (Nat × Word)) : (c.holdSet a ws).therm = c.therm := rfl

/-! `setLane` -/

@[simp] theorem Chip.setLane_regs (c : Chip) (l : Nat) (x : LaneState) : (c.setLane l x).regs = c.regs := rfl
@[simp] theorem Chip.setLane_run (c : Chip) (l : Nat) (x : LaneState) : (c.setLane l x).run = c.run := rfl
@[simp] theorem Chip.setLane_lands (c : Chip) (l : Nat) (x : LaneState) : (c.setLane l x).lands = c.lands := rfl
@[simp] theorem Chip.setLane_power (c : Chip) (l : Nat) (x : LaneState) : (c.setLane l x).power = c.power := rfl
@[simp] theorem Chip.setLane_modes (c : Chip) (l : Nat) (x : LaneState) : (c.setLane l x).modes = c.modes := rfl
@[simp] theorem Chip.setLane_tb (c : Chip) (l : Nat) (x : LaneState) : (c.setLane l x).tb = c.tb := rfl
@[simp] theorem Chip.setLane_keeper (c : Chip) (l : Nat) (x : LaneState) : (c.setLane l x).keeper = c.keeper := rfl
@[simp] theorem Chip.setLane_mram (c : Chip) (l : Nat) (x : LaneState) : (c.setLane l x).mram = c.mram := rfl
@[simp] theorem Chip.setLane_start (c : Chip) (l : Nat) (x : LaneState) : (c.setLane l x).start = c.start := rfl
@[simp] theorem Chip.setLane_rings (c : Chip) (l : Nat) (x : LaneState) : (c.setLane l x).rings = c.rings := rfl
@[simp] theorem Chip.setLane_rules (c : Chip) (l : Nat) (x : LaneState) : (c.setLane l x).rules = c.rules := rfl
@[simp] theorem Chip.setLane_seqs (c : Chip) (l : Nat) (x : LaneState) : (c.setLane l x).seqs = c.seqs := rfl
@[simp] theorem Chip.setLane_runSig (c : Chip) (l : Nat) (x : LaneState) : (c.setLane l x).runSig = c.runSig := rfl
@[simp] theorem Chip.setLane_fin (c : Chip) (l : Nat) (x : LaneState) : (c.setLane l x).fin = c.fin := rfl
@[simp] theorem Chip.setLane_chains (c : Chip) (l : Nat) (x : LaneState) : (c.setLane l x).chains = c.chains := rfl
@[simp] theorem Chip.setLane_burnish (c : Chip) (l : Nat) (x : LaneState) : (c.setLane l x).burnish = c.burnish := rfl
@[simp] theorem Chip.setLane_exc (c : Chip) (l : Nat) (x : LaneState) : (c.setLane l x).exc = c.exc := rfl
@[simp] theorem Chip.setLane_mon (c : Chip) (l : Nat) (x : LaneState) : (c.setLane l x).mon = c.mon := rfl
@[simp] theorem Chip.setLane_acq (c : Chip) (l : Nat) (x : LaneState) : (c.setLane l x).acq = c.acq := rfl
@[simp] theorem Chip.setLane_track (c : Chip) (l : Nat) (x : LaneState) : (c.setLane l x).track = c.track := rfl
@[simp] theorem Chip.setLane_radio (c : Chip) (l : Nat) (x : LaneState) : (c.setLane l x).radio = c.radio := rfl
@[simp] theorem Chip.setLane_yard (c : Chip) (l : Nat) (x : LaneState) : (c.setLane l x).yard = c.yard := rfl
@[simp] theorem Chip.setLane_host (c : Chip) (l : Nat) (x : LaneState) : (c.setLane l x).host = c.host := rfl
@[simp] theorem Chip.setLane_mem (c : Chip) (l : Nat) (x : LaneState) : (c.setLane l x).mem = c.mem := rfl
@[simp] theorem Chip.setLane_upd (c : Chip) (l : Nat) (x : LaneState) : (c.setLane l x).upd = c.upd := rfl
@[simp] theorem Chip.setLane_therm (c : Chip) (l : Nat) (x : LaneState) : (c.setLane l x).therm = c.therm := rfl

/-! `upRing` -/

@[simp] theorem Chip.upRing_regs (c : Chip) (n : Nat) (f : Ring → Ring) : (c.upRing n f).regs = c.regs := rfl
@[simp] theorem Chip.upRing_run (c : Chip) (n : Nat) (f : Ring → Ring) : (c.upRing n f).run = c.run := rfl
@[simp] theorem Chip.upRing_girth (c : Chip) (n : Nat) (f : Ring → Ring) : (c.upRing n f).girth = c.girth := rfl
@[simp] theorem Chip.upRing_lands (c : Chip) (n : Nat) (f : Ring → Ring) : (c.upRing n f).lands = c.lands := rfl
@[simp] theorem Chip.upRing_power (c : Chip) (n : Nat) (f : Ring → Ring) : (c.upRing n f).power = c.power := rfl
@[simp] theorem Chip.upRing_modes (c : Chip) (n : Nat) (f : Ring → Ring) : (c.upRing n f).modes = c.modes := rfl
@[simp] theorem Chip.upRing_tb (c : Chip) (n : Nat) (f : Ring → Ring) : (c.upRing n f).tb = c.tb := rfl
@[simp] theorem Chip.upRing_keeper (c : Chip) (n : Nat) (f : Ring → Ring) : (c.upRing n f).keeper = c.keeper := rfl
@[simp] theorem Chip.upRing_mram (c : Chip) (n : Nat) (f : Ring → Ring) : (c.upRing n f).mram = c.mram := rfl
@[simp] theorem Chip.upRing_start (c : Chip) (n : Nat) (f : Ring → Ring) : (c.upRing n f).start = c.start := rfl
@[simp] theorem Chip.upRing_rules (c : Chip) (n : Nat) (f : Ring → Ring) : (c.upRing n f).rules = c.rules := rfl
@[simp] theorem Chip.upRing_seqs (c : Chip) (n : Nat) (f : Ring → Ring) : (c.upRing n f).seqs = c.seqs := rfl
@[simp] theorem Chip.upRing_runSig (c : Chip) (n : Nat) (f : Ring → Ring) : (c.upRing n f).runSig = c.runSig := rfl
@[simp] theorem Chip.upRing_fin (c : Chip) (n : Nat) (f : Ring → Ring) : (c.upRing n f).fin = c.fin := rfl
@[simp] theorem Chip.upRing_chains (c : Chip) (n : Nat) (f : Ring → Ring) : (c.upRing n f).chains = c.chains := rfl
@[simp] theorem Chip.upRing_burnish (c : Chip) (n : Nat) (f : Ring → Ring) : (c.upRing n f).burnish = c.burnish := rfl
@[simp] theorem Chip.upRing_exc (c : Chip) (n : Nat) (f : Ring → Ring) : (c.upRing n f).exc = c.exc := rfl
@[simp] theorem Chip.upRing_mon (c : Chip) (n : Nat) (f : Ring → Ring) : (c.upRing n f).mon = c.mon := rfl
@[simp] theorem Chip.upRing_acq (c : Chip) (n : Nat) (f : Ring → Ring) : (c.upRing n f).acq = c.acq := rfl
@[simp] theorem Chip.upRing_track (c : Chip) (n : Nat) (f : Ring → Ring) : (c.upRing n f).track = c.track := rfl
@[simp] theorem Chip.upRing_radio (c : Chip) (n : Nat) (f : Ring → Ring) : (c.upRing n f).radio = c.radio := rfl
@[simp] theorem Chip.upRing_yard (c : Chip) (n : Nat) (f : Ring → Ring) : (c.upRing n f).yard = c.yard := rfl
@[simp] theorem Chip.upRing_host (c : Chip) (n : Nat) (f : Ring → Ring) : (c.upRing n f).host = c.host := rfl
@[simp] theorem Chip.upRing_mem (c : Chip) (n : Nat) (f : Ring → Ring) : (c.upRing n f).mem = c.mem := rfl
@[simp] theorem Chip.upRing_upd (c : Chip) (n : Nat) (f : Ring → Ring) : (c.upRing n f).upd = c.upd := rfl
@[simp] theorem Chip.upRing_therm (c : Chip) (n : Nat) (f : Ring → Ring) : (c.upRing n f).therm = c.therm := rfl

/-! `putEntry` -/

@[simp] theorem Chip.putEntry_regs (c : Chip) (n : Nat) (e : Entry) : (c.putEntry n e).regs = c.regs := rfl
@[simp] theorem Chip.putEntry_run (c : Chip) (n : Nat) (e : Entry) : (c.putEntry n e).run = c.run := rfl
@[simp] theorem Chip.putEntry_girth (c : Chip) (n : Nat) (e : Entry) : (c.putEntry n e).girth = c.girth := rfl
@[simp] theorem Chip.putEntry_lands (c : Chip) (n : Nat) (e : Entry) : (c.putEntry n e).lands = c.lands := rfl
@[simp] theorem Chip.putEntry_power (c : Chip) (n : Nat) (e : Entry) : (c.putEntry n e).power = c.power := rfl
@[simp] theorem Chip.putEntry_modes (c : Chip) (n : Nat) (e : Entry) : (c.putEntry n e).modes = c.modes := rfl
@[simp] theorem Chip.putEntry_tb (c : Chip) (n : Nat) (e : Entry) : (c.putEntry n e).tb = c.tb := rfl
@[simp] theorem Chip.putEntry_keeper (c : Chip) (n : Nat) (e : Entry) : (c.putEntry n e).keeper = c.keeper := rfl
@[simp] theorem Chip.putEntry_mram (c : Chip) (n : Nat) (e : Entry) : (c.putEntry n e).mram = c.mram := rfl
@[simp] theorem Chip.putEntry_start (c : Chip) (n : Nat) (e : Entry) : (c.putEntry n e).start = c.start := rfl
@[simp] theorem Chip.putEntry_rules (c : Chip) (n : Nat) (e : Entry) : (c.putEntry n e).rules = c.rules := rfl
@[simp] theorem Chip.putEntry_seqs (c : Chip) (n : Nat) (e : Entry) : (c.putEntry n e).seqs = c.seqs := rfl
@[simp] theorem Chip.putEntry_runSig (c : Chip) (n : Nat) (e : Entry) : (c.putEntry n e).runSig = c.runSig := rfl
@[simp] theorem Chip.putEntry_fin (c : Chip) (n : Nat) (e : Entry) : (c.putEntry n e).fin = c.fin := rfl
@[simp] theorem Chip.putEntry_chains (c : Chip) (n : Nat) (e : Entry) : (c.putEntry n e).chains = c.chains := rfl
@[simp] theorem Chip.putEntry_burnish (c : Chip) (n : Nat) (e : Entry) : (c.putEntry n e).burnish = c.burnish := rfl
@[simp] theorem Chip.putEntry_exc (c : Chip) (n : Nat) (e : Entry) : (c.putEntry n e).exc = c.exc := rfl
@[simp] theorem Chip.putEntry_mon (c : Chip) (n : Nat) (e : Entry) : (c.putEntry n e).mon = c.mon := rfl
@[simp] theorem Chip.putEntry_acq (c : Chip) (n : Nat) (e : Entry) : (c.putEntry n e).acq = c.acq := rfl
@[simp] theorem Chip.putEntry_track (c : Chip) (n : Nat) (e : Entry) : (c.putEntry n e).track = c.track := rfl
@[simp] theorem Chip.putEntry_radio (c : Chip) (n : Nat) (e : Entry) : (c.putEntry n e).radio = c.radio := rfl
@[simp] theorem Chip.putEntry_yard (c : Chip) (n : Nat) (e : Entry) : (c.putEntry n e).yard = c.yard := rfl
@[simp] theorem Chip.putEntry_host (c : Chip) (n : Nat) (e : Entry) : (c.putEntry n e).host = c.host := rfl
@[simp] theorem Chip.putEntry_mem (c : Chip) (n : Nat) (e : Entry) : (c.putEntry n e).mem = c.mem := rfl
@[simp] theorem Chip.putEntry_upd (c : Chip) (n : Nat) (e : Entry) : (c.putEntry n e).upd = c.upd := rfl
@[simp] theorem Chip.putEntry_therm (c : Chip) (n : Nat) (e : Entry) : (c.putEntry n e).therm = c.therm := rfl

/-! `answer` -/

@[simp] theorem Chip.answer_regs (c : Chip) (a : Answer) : (c.answer a).regs = c.regs := rfl
@[simp] theorem Chip.answer_run (c : Chip) (a : Answer) : (c.answer a).run = c.run := rfl
@[simp] theorem Chip.answer_girth (c : Chip) (a : Answer) : (c.answer a).girth = c.girth := rfl
@[simp] theorem Chip.answer_lands (c : Chip) (a : Answer) : (c.answer a).lands = c.lands := rfl
@[simp] theorem Chip.answer_power (c : Chip) (a : Answer) : (c.answer a).power = c.power := rfl
@[simp] theorem Chip.answer_modes (c : Chip) (a : Answer) : (c.answer a).modes = c.modes := rfl
@[simp] theorem Chip.answer_tb (c : Chip) (a : Answer) : (c.answer a).tb = c.tb := rfl
@[simp] theorem Chip.answer_keeper (c : Chip) (a : Answer) : (c.answer a).keeper = c.keeper := rfl
@[simp] theorem Chip.answer_mram (c : Chip) (a : Answer) : (c.answer a).mram = c.mram := rfl
@[simp] theorem Chip.answer_start (c : Chip) (a : Answer) : (c.answer a).start = c.start := rfl
@[simp] theorem Chip.answer_rules (c : Chip) (a : Answer) : (c.answer a).rules = c.rules := rfl
@[simp] theorem Chip.answer_seqs (c : Chip) (a : Answer) : (c.answer a).seqs = c.seqs := rfl
@[simp] theorem Chip.answer_runSig (c : Chip) (a : Answer) : (c.answer a).runSig = c.runSig := rfl
@[simp] theorem Chip.answer_fin (c : Chip) (a : Answer) : (c.answer a).fin = c.fin := rfl
@[simp] theorem Chip.answer_chains (c : Chip) (a : Answer) : (c.answer a).chains = c.chains := rfl
@[simp] theorem Chip.answer_burnish (c : Chip) (a : Answer) : (c.answer a).burnish = c.burnish := rfl
@[simp] theorem Chip.answer_exc (c : Chip) (a : Answer) : (c.answer a).exc = c.exc := rfl
@[simp] theorem Chip.answer_mon (c : Chip) (a : Answer) : (c.answer a).mon = c.mon := rfl
@[simp] theorem Chip.answer_acq (c : Chip) (a : Answer) : (c.answer a).acq = c.acq := rfl
@[simp] theorem Chip.answer_track (c : Chip) (a : Answer) : (c.answer a).track = c.track := rfl
@[simp] theorem Chip.answer_radio (c : Chip) (a : Answer) : (c.answer a).radio = c.radio := rfl
@[simp] theorem Chip.answer_yard (c : Chip) (a : Answer) : (c.answer a).yard = c.yard := rfl
@[simp] theorem Chip.answer_host (c : Chip) (a : Answer) : (c.answer a).host = c.host := rfl
@[simp] theorem Chip.answer_mem (c : Chip) (a : Answer) : (c.answer a).mem = c.mem := rfl
@[simp] theorem Chip.answer_upd (c : Chip) (a : Answer) : (c.answer a).upd = c.upd := rfl
@[simp] theorem Chip.answer_therm (c : Chip) (a : Answer) : (c.answer a).therm = c.therm := rfl

/-! What follows a command -/

@[simp] theorem Chip.follow_regs (c w : Chip) : (c.follow w).regs = c.regs := rfl
@[simp] theorem Chip.follow_run (c w : Chip) : (c.follow w).run = c.run := rfl
@[simp] theorem Chip.follow_lands (c w : Chip) : (c.follow w).lands = c.lands := rfl
@[simp] theorem Chip.follow_power (c w : Chip) : (c.follow w).power = c.power := rfl
@[simp] theorem Chip.follow_modes (c w : Chip) : (c.follow w).modes = c.modes := rfl
@[simp] theorem Chip.follow_tb (c w : Chip) : (c.follow w).tb = c.tb := rfl
@[simp] theorem Chip.follow_keeper (c w : Chip) : (c.follow w).keeper = c.keeper := rfl
@[simp] theorem Chip.follow_mram (c w : Chip) : (c.follow w).mram = c.mram := rfl
@[simp] theorem Chip.follow_start (c w : Chip) : (c.follow w).start = c.start := rfl
@[simp] theorem Chip.follow_rings (c w : Chip) : (c.follow w).rings = c.rings := rfl
@[simp] theorem Chip.follow_rules (c w : Chip) : (c.follow w).rules = c.rules := rfl
@[simp] theorem Chip.follow_seqs (c w : Chip) : (c.follow w).seqs = c.seqs := rfl
@[simp] theorem Chip.follow_runSig (c w : Chip) : (c.follow w).runSig = c.runSig := rfl
@[simp] theorem Chip.follow_fin (c w : Chip) : (c.follow w).fin = c.fin := rfl
@[simp] theorem Chip.follow_chains (c w : Chip) : (c.follow w).chains = c.chains := rfl
@[simp] theorem Chip.follow_burnish (c w : Chip) : (c.follow w).burnish = c.burnish := rfl
@[simp] theorem Chip.follow_exc (c w : Chip) : (c.follow w).exc = c.exc := rfl
@[simp] theorem Chip.follow_mon (c w : Chip) : (c.follow w).mon = c.mon := rfl
@[simp] theorem Chip.follow_acq (c w : Chip) : (c.follow w).acq = c.acq := rfl
@[simp] theorem Chip.follow_radio (c w : Chip) : (c.follow w).radio = c.radio := rfl
@[simp] theorem Chip.follow_yard (c w : Chip) : (c.follow w).yard = c.yard := rfl
@[simp] theorem Chip.follow_host (c w : Chip) : (c.follow w).host = c.host := rfl
@[simp] theorem Chip.follow_mem (c w : Chip) : (c.follow w).mem = c.mem := rfl
@[simp] theorem Chip.follow_upd (c w : Chip) : (c.follow w).upd = c.upd := rfl
@[simp] theorem Chip.follow_therm (c w : Chip) : (c.follow w).therm = c.therm := rfl
@[simp] theorem Chip.follow_girth_lanes (c w : Chip) : (c.follow w).girth.lanes = c.girth.lanes := rfl
@[simp] theorem Chip.follow_girth_xfer (c w : Chip) : (c.follow w).girth.xfer = c.girth.xfer := rfl
@[simp] theorem Chip.follow_girth_last (c w : Chip) : (c.follow w).girth.last = c.girth.last := rfl
@[simp] theorem Chip.follow_girth_rerouted (c w : Chip) : (c.follow w).girth.rerouted = c.girth.rerouted := rfl
@[simp] theorem Chip.follow_girth_heldProt (c w : Chip) : (c.follow w).girth.heldProt = c.girth.heldProt := rfl
@[simp] theorem Chip.follow_girth_fieldCut (c w : Chip) : (c.follow w).girth.fieldCut = c.girth.fieldCut := rfl
@[simp] theorem Chip.follow_girth_converterCut (c w : Chip) : (c.follow w).girth.converterCut = c.girth.converterCut := rfl
@[simp] theorem Chip.follow_girth_convRefused (c w : Chip) : (c.follow w).girth.convRefused = c.girth.convRefused := rfl
@[simp] theorem Chip.follow_girth_radioRefused (c w : Chip) : (c.follow w).girth.radioRefused = c.girth.radioRefused := rfl
@[simp] theorem Chip.follow_girth_fieldRefused (c w : Chip) : (c.follow w).girth.fieldRefused = c.girth.fieldRefused := rfl
@[simp] theorem Chip.follow_girth_beaconRefused (c w : Chip) : (c.follow w).girth.beaconRefused = c.girth.beaconRefused := rfl
@[simp] theorem Chip.follow_girth_armed (c w : Chip) : (c.follow w).girth.armed = c.girth.armed := rfl
@[simp] theorem Chip.follow_girth_latched (c w : Chip) : (c.follow w).girth.latched = c.girth.latched := rfl
@[simp] theorem Chip.follow_girth_revAbsent (c w : Chip) : (c.follow w).girth.revAbsent = c.girth.revAbsent := rfl
@[simp] theorem Chip.follow_track_channels (c w : Chip) : (c.follow w).track.channels = c.track.channels := rfl
@[simp] theorem Chip.follow_track_epochId (c w : Chip) : (c.follow w).track.epochId = c.track.epochId := rfl
@[simp] theorem Chip.follow_track_skip (c w : Chip) : (c.follow w).track.skip = c.track.skip := rfl
@[simp] theorem Chip.follow_track_aligned (c w : Chip) : (c.follow w).track.aligned = c.track.aligned := rfl
@[simp] theorem Chip.follow_track_solution (c w : Chip) : (c.follow w).track.solution = c.track.solution := rfl
@[simp] theorem Chip.follow_track_trust (c w : Chip) : (c.follow w).track.trust = c.track.trust := rfl
@[simp] theorem Chip.follow_track_flags (c w : Chip) : (c.follow w).track.flags = c.track.flags := rfl
@[simp] theorem Chip.follow_track_signals (c w : Chip) : (c.follow w).track.signals = c.track.signals := rfl
@[simp] theorem Chip.follow_track_solved (c w : Chip) : (c.follow w).track.solved = c.track.solved := rfl
@[simp] theorem Chip.follow_track_tp (c w : Chip) : (c.follow w).track.tp = c.track.tp := rfl
@[simp] theorem Chip.follow_track_tpActive (c w : Chip) : (c.follow w).track.tpActive = c.track.tpActive := rfl
@[simp] theorem Chip.follow_track_pulseNo (c w : Chip) : (c.follow w).track.pulseNo = c.track.pulseNo := rfl
@[simp] theorem Chip.follow_track_announced (c w : Chip) : (c.follow w).track.announced = c.track.announced := rfl
@[simp] theorem Chip.follow_track_qerr (c w : Chip) : (c.follow w).track.qerr = c.track.qerr := rfl
@[simp] theorem Chip.follow_track_tpCfg (c w : Chip) : (c.follow w).track.tpCfg = c.track.tpCfg := rfl

end Sys2Proof.Machine
end

