-- ==== Sys2Proof/Laws/Ops.lean ====
section
/-! SUPPORT. What each shared operation can do, said once: producing into a ring touches the rings alone, a signal the rules and the rings, a
keeper event the pending bits and the merge count. -/

namespace Sys2Proof.Machine

/-! ### Producing into rings -/

/-- The block with its rings forgotten: two blocks that agree on it differ in their rings alone. -/
def Chip.noRings (c : Chip) : Chip := { c with rings := {} }

theorem Chip.noRings_upRing (c : Chip) (n : Nat) (f : Ring → Ring) : (c.upRing n f).noRings = c.noRings := rfl
theorem Chip.noRings_putEntry (c : Chip) (n : Nat) (e : Entry) : (c.putEntry n e).noRings = c.noRings := rfl
theorem Chip.noRings_answer (c : Chip) (a : Answer) : (c.answer a).noRings = c.noRings := rfl
theorem Chip.noRings_with (c : Chip) (r : RingSys) : ({ c with rings := r } : Chip).noRings = c.noRings := rfl

theorem Chip.noRings_pushEntry (c : Chip) (n : Nat) (e : Entry) : (c.pushEntry n e).noRings = c.noRings := by
  unfold Chip.pushEntry; dsimp only; split <;> rfl

theorem Chip.noRings_produceRaw (c : Chip) (agent n : Nat) (e : Entry) : (c.produceRaw agent n e).1.noRings = c.noRings := by
  unfold Chip.produceRaw
  dsimp only
  repeat' split
  all_goals simp only [Chip.noRings_answer, Chip.noRings_pushEntry, Chip.noRings_upRing]

theorem Chip.noRings_observe1 (c : Chip) (a : Nat) (g : RingSys → Observer) (p : RingSys → Observer → RingSys) :
    (c.observe1 a g p).noRings = c.noRings := by
  unfold Chip.observe1
  dsimp only
  repeat' split
  all_goals simp only [Chip.noRings_produceRaw, Chip.noRings_with]

theorem Chip.noRings_observe (c : Chip) : c.observe.noRings = c.noRings := by
  simp only [Chip.observe, Chip.observeAll, Chip.noRings_observe1]

/-- A produce request changes the rings and nothing else. -/
@[simp] theorem Chip.noRings_produce (c : Chip) (agent n : Nat) (e : Entry) : (c.produce agent n e).noRings = c.noRings := by
  unfold Chip.produce
  dsimp only
  rw [Chip.noRings_answer, Chip.noRings_observe]
  split <;> simp only [Chip.noRings_produceRaw]

theorem Chip.noRings_regs {c d : Chip} (h : c.noRings = d.noRings) : c.regs = d.regs := (congrArg Chip.regs h :)
theorem Chip.noRings_run {c d : Chip} (h : c.noRings = d.noRings) : c.run = d.run := (congrArg Chip.run h :)
theorem Chip.noRings_girth {c d : Chip} (h : c.noRings = d.noRings) : c.girth = d.girth := (congrArg Chip.girth h :)
theorem Chip.noRings_lands {c d : Chip} (h : c.noRings = d.noRings) : c.lands = d.lands := (congrArg Chip.lands h :)
theorem Chip.noRings_power {c d : Chip} (h : c.noRings = d.noRings) : c.power = d.power := (congrArg Chip.power h :)
theorem Chip.noRings_modes {c d : Chip} (h : c.noRings = d.noRings) : c.modes = d.modes := (congrArg Chip.modes h :)
theorem Chip.noRings_tb {c d : Chip} (h : c.noRings = d.noRings) : c.tb = d.tb := (congrArg Chip.tb h :)
theorem Chip.noRings_keeper {c d : Chip} (h : c.noRings = d.noRings) : c.keeper = d.keeper := (congrArg Chip.keeper h :)
theorem Chip.noRings_mram {c d : Chip} (h : c.noRings = d.noRings) : c.mram = d.mram := (congrArg Chip.mram h :)
theorem Chip.noRings_start {c d : Chip} (h : c.noRings = d.noRings) : c.start = d.start := (congrArg Chip.start h :)
theorem Chip.noRings_rules {c d : Chip} (h : c.noRings = d.noRings) : c.rules = d.rules := (congrArg Chip.rules h :)
theorem Chip.noRings_seqs {c d : Chip} (h : c.noRings = d.noRings) : c.seqs = d.seqs := (congrArg Chip.seqs h :)
theorem Chip.noRings_runSig {c d : Chip} (h : c.noRings = d.noRings) : c.runSig = d.runSig := (congrArg Chip.runSig h :)
theorem Chip.noRings_fin {c d : Chip} (h : c.noRings = d.noRings) : c.fin = d.fin := (congrArg Chip.fin h :)
theorem Chip.noRings_chains {c d : Chip} (h : c.noRings = d.noRings) : c.chains = d.chains := (congrArg Chip.chains h :)
theorem Chip.noRings_burnish {c d : Chip} (h : c.noRings = d.noRings) : c.burnish = d.burnish := (congrArg Chip.burnish h :)
theorem Chip.noRings_exc {c d : Chip} (h : c.noRings = d.noRings) : c.exc = d.exc := (congrArg Chip.exc h :)
theorem Chip.noRings_mon {c d : Chip} (h : c.noRings = d.noRings) : c.mon = d.mon := (congrArg Chip.mon h :)
theorem Chip.noRings_acq {c d : Chip} (h : c.noRings = d.noRings) : c.acq = d.acq := (congrArg Chip.acq h :)
theorem Chip.noRings_track {c d : Chip} (h : c.noRings = d.noRings) : c.track = d.track := (congrArg Chip.track h :)
theorem Chip.noRings_radio {c d : Chip} (h : c.noRings = d.noRings) : c.radio = d.radio := (congrArg Chip.radio h :)
theorem Chip.noRings_yard {c d : Chip} (h : c.noRings = d.noRings) : c.yard = d.yard := (congrArg Chip.yard h :)
theorem Chip.noRings_host {c d : Chip} (h : c.noRings = d.noRings) : c.host = d.host := (congrArg Chip.host h :)
theorem Chip.noRings_mem {c d : Chip} (h : c.noRings = d.noRings) : c.mem = d.mem := (congrArg Chip.mem h :)
theorem Chip.noRings_upd {c d : Chip} (h : c.noRings = d.noRings) : c.upd = d.upd := (congrArg Chip.upd h :)
theorem Chip.noRings_therm {c d : Chip} (h : c.noRings = d.noRings) : c.therm = d.therm := (congrArg Chip.therm h :)

/-! `produce` -/

@[simp] theorem Chip.produce_regs (c : Chip) (a n : Nat) (e : Entry) : (c.produce a n e).regs = c.regs := Chip.noRings_regs (Chip.noRings_produce c a n e)
@[simp] theorem Chip.produce_run (c : Chip) (a n : Nat) (e : Entry) : (c.produce a n e).run = c.run := Chip.noRings_run (Chip.noRings_produce c a n e)
@[simp] theorem Chip.produce_girth (c : Chip) (a n : Nat) (e : Entry) : (c.produce a n e).girth = c.girth := Chip.noRings_girth (Chip.noRings_produce c a n e)
@[simp] theorem Chip.produce_lands (c : Chip) (a n : Nat) (e : Entry) : (c.produce a n e).lands = c.lands := Chip.noRings_lands (Chip.noRings_produce c a n e)
@[simp] theorem Chip.produce_power (c : Chip) (a n : Nat) (e : Entry) : (c.produce a n e).power = c.power := Chip.noRings_power (Chip.noRings_produce c a n e)
@[simp] theorem Chip.produce_modes (c : Chip) (a n : Nat) (e : Entry) : (c.produce a n e).modes = c.modes := Chip.noRings_modes (Chip.noRings_produce c a n e)
@[simp] theorem Chip.produce_tb (c : Chip) (a n : Nat) (e : Entry) : (c.produce a n e).tb = c.tb := Chip.noRings_tb (Chip.noRings_produce c a n e)
@[simp] theorem Chip.produce_keeper (c : Chip) (a n : Nat) (e : Entry) : (c.produce a n e).keeper = c.keeper := Chip.noRings_keeper (Chip.noRings_produce c a n e)
@[simp] theorem Chip.produce_mram (c : Chip) (a n : Nat) (e : Entry) : (c.produce a n e).mram = c.mram := Chip.noRings_mram (Chip.noRings_produce c a n e)
@[simp] theorem Chip.produce_start (c : Chip) (a n : Nat) (e : Entry) : (c.produce a n e).start = c.start := Chip.noRings_start (Chip.noRings_produce c a n e)
@[simp] theorem Chip.produce_rules (c : Chip) (a n : Nat) (e : Entry) : (c.produce a n e).rules = c.rules := Chip.noRings_rules (Chip.noRings_produce c a n e)
@[simp] theorem Chip.produce_seqs (c : Chip) (a n : Nat) (e : Entry) : (c.produce a n e).seqs = c.seqs := Chip.noRings_seqs (Chip.noRings_produce c a n e)
@[simp] theorem Chip.produce_runSig (c : Chip) (a n : Nat) (e : Entry) : (c.produce a n e).runSig = c.runSig := Chip.noRings_runSig (Chip.noRings_produce c a n e)
@[simp] theorem Chip.produce_fin (c : Chip) (a n : Nat) (e : Entry) : (c.produce a n e).fin = c.fin := Chip.noRings_fin (Chip.noRings_produce c a n e)
@[simp] theorem Chip.produce_chains (c : Chip) (a n : Nat) (e : Entry) : (c.produce a n e).chains = c.chains := Chip.noRings_chains (Chip.noRings_produce c a n e)
@[simp] theorem Chip.produce_burnish (c : Chip) (a n : Nat) (e : Entry) : (c.produce a n e).burnish = c.burnish := Chip.noRings_burnish (Chip.noRings_produce c a n e)
@[simp] theorem Chip.produce_exc (c : Chip) (a n : Nat) (e : Entry) : (c.produce a n e).exc = c.exc := Chip.noRings_exc (Chip.noRings_produce c a n e)
@[simp] theorem Chip.produce_mon (c : Chip) (a n : Nat) (e : Entry) : (c.produce a n e).mon = c.mon := Chip.noRings_mon (Chip.noRings_produce c a n e)
@[simp] theorem Chip.produce_acq (c : Chip) (a n : Nat) (e : Entry) : (c.produce a n e).acq = c.acq := Chip.noRings_acq (Chip.noRings_produce c a n e)
@[simp] theorem Chip.produce_track (c : Chip) (a n : Nat) (e : Entry) : (c.produce a n e).track = c.track := Chip.noRings_track (Chip.noRings_produce c a n e)
@[simp] theorem Chip.produce_radio (c : Chip) (a n : Nat) (e : Entry) : (c.produce a n e).radio = c.radio := Chip.noRings_radio (Chip.noRings_produce c a n e)
@[simp] theorem Chip.produce_yard (c : Chip) (a n : Nat) (e : Entry) : (c.produce a n e).yard = c.yard := Chip.noRings_yard (Chip.noRings_produce c a n e)
@[simp] theorem Chip.produce_host (c : Chip) (a n : Nat) (e : Entry) : (c.produce a n e).host = c.host := Chip.noRings_host (Chip.noRings_produce c a n e)
@[simp] theorem Chip.produce_mem (c : Chip) (a n : Nat) (e : Entry) : (c.produce a n e).mem = c.mem := Chip.noRings_mem (Chip.noRings_produce c a n e)
@[simp] theorem Chip.produce_upd (c : Chip) (a n : Nat) (e : Entry) : (c.produce a n e).upd = c.upd := Chip.noRings_upd (Chip.noRings_produce c a n e)
@[simp] theorem Chip.produce_therm (c : Chip) (a n : Nat) (e : Entry) : (c.produce a n e).therm = c.therm := Chip.noRings_therm (Chip.noRings_produce c a n e)

end Sys2Proof.Machine
end

