-- ==== Sys2Proof/Laws/Front.lean ====
section
/-! SUPPORT. What the excitation and a burnish can do when they follow a change of what runs: they touch the excitation channels, the chains, the
sequencers' counts toward a steal, the burnish and the rings, and nothing else. -/

namespace Sys2Proof.Machine

/-- The block with what the excitation and the burnish work on forgotten. -/
def Chip.back (c : Chip) : Chip := { c with rings := {}, seqs := [], chains := [], burnish := {}, exc := [] }

theorem Chip.back_of_noRings {c d : Chip} (h : c.noRings = d.noRings) : c.back = d.back := (congrArg Chip.back h :)
theorem Chip.back_produce (c : Chip) (a n : Nat) (e : Entry) : (c.produce a n e).back = c.back := Chip.back_of_noRings (Chip.noRings_produce c a n e)
theorem Chip.back_upBurnish (c : Chip) (f : Burnish → Burnish) : (c.upBurnish f).back = c.back := rfl
theorem Chip.back_chains (c : Chip) (x : List Chain) : ({ c with chains := x } : Chip).back = c.back := rfl
theorem Chip.back_seqs (c : Chip) (x : List Sequencer) : ({ c with seqs := x } : Chip).back = c.back := rfl

theorem Chip.back_excUpdate (c : Chip) (n : Nat) : (c.excUpdate n).back = c.back := by
  unfold Chip.excUpdate; dsimp only; split <;> rfl

theorem Chip.back_excAll (c : Chip) : c.excAll.back = c.back := by
  unfold Chip.excAll; simp only [List.range, List.range.loop, List.foldl, Chip.back_excUpdate]

theorem Chip.back_burnishBegin (c : Chip) : c.burnishBegin.back = c.back := by
  unfold Chip.burnishBegin Chip.burnishRecord Chip.journal; dsimp only; split
  · simp only [Chip.back_chains, Chip.back_produce, Chip.back_upBurnish]
  · rfl

theorem Chip.back_frontSettle (c : Chip) : c.frontSettle.back = c.back := by
  unfold Chip.frontSettle; rw [Chip.back_excAll, Chip.back_burnishBegin]

theorem Chip.back_burnishEnd (c : Chip) (p r q : Nat) : (c.burnishEnd p r q).back = c.back := by
  unfold Chip.burnishEnd Chip.burnishRecord Chip.journal Chip.event Chip.post2 Chip.releaseBanks; dsimp only; split
  · simp only [Chip.back_excAll, Chip.back_produce, Chip.back_seqs, Chip.back_upBurnish, Chip.back_chains]
  · rfl

/-! ### Fields left alone -/

theorem Chip.back_regs {c d : Chip} (h : c.back = d.back) : c.regs = d.regs := (congrArg Chip.regs h :)
theorem Chip.back_run {c d : Chip} (h : c.back = d.back) : c.run = d.run := (congrArg Chip.run h :)
theorem Chip.back_girth {c d : Chip} (h : c.back = d.back) : c.girth = d.girth := (congrArg Chip.girth h :)
theorem Chip.back_lands {c d : Chip} (h : c.back = d.back) : c.lands = d.lands := (congrArg Chip.lands h :)
theorem Chip.back_power {c d : Chip} (h : c.back = d.back) : c.power = d.power := (congrArg Chip.power h :)
theorem Chip.back_modes {c d : Chip} (h : c.back = d.back) : c.modes = d.modes := (congrArg Chip.modes h :)
theorem Chip.back_tb {c d : Chip} (h : c.back = d.back) : c.tb = d.tb := (congrArg Chip.tb h :)
theorem Chip.back_keeper {c d : Chip} (h : c.back = d.back) : c.keeper = d.keeper := (congrArg Chip.keeper h :)
theorem Chip.back_mram {c d : Chip} (h : c.back = d.back) : c.mram = d.mram := (congrArg Chip.mram h :)
theorem Chip.back_start {c d : Chip} (h : c.back = d.back) : c.start = d.start := (congrArg Chip.start h :)
theorem Chip.back_rules {c d : Chip} (h : c.back = d.back) : c.rules = d.rules := (congrArg Chip.rules h :)
theorem Chip.back_runSig {c d : Chip} (h : c.back = d.back) : c.runSig = d.runSig := (congrArg Chip.runSig h :)
theorem Chip.back_fin {c d : Chip} (h : c.back = d.back) : c.fin = d.fin := (congrArg Chip.fin h :)
theorem Chip.back_mon {c d : Chip} (h : c.back = d.back) : c.mon = d.mon := (congrArg Chip.mon h :)
theorem Chip.back_acq {c d : Chip} (h : c.back = d.back) : c.acq = d.acq := (congrArg Chip.acq h :)
theorem Chip.back_track {c d : Chip} (h : c.back = d.back) : c.track = d.track := (congrArg Chip.track h :)
theorem Chip.back_radio {c d : Chip} (h : c.back = d.back) : c.radio = d.radio := (congrArg Chip.radio h :)
theorem Chip.back_yard {c d : Chip} (h : c.back = d.back) : c.yard = d.yard := (congrArg Chip.yard h :)
theorem Chip.back_host {c d : Chip} (h : c.back = d.back) : c.host = d.host := (congrArg Chip.host h :)
theorem Chip.back_mem {c d : Chip} (h : c.back = d.back) : c.mem = d.mem := (congrArg Chip.mem h :)
theorem Chip.back_upd {c d : Chip} (h : c.back = d.back) : c.upd = d.upd := (congrArg Chip.upd h :)
theorem Chip.back_therm {c d : Chip} (h : c.back = d.back) : c.therm = d.therm := (congrArg Chip.therm h :)

@[simp] theorem Chip.excAll_regs (c : Chip) : (c.excAll).regs = c.regs := Chip.back_regs (Chip.back_excAll c)
@[simp] theorem Chip.excAll_run (c : Chip) : (c.excAll).run = c.run := Chip.back_run (Chip.back_excAll c)
@[simp] theorem Chip.excAll_girth (c : Chip) : (c.excAll).girth = c.girth := Chip.back_girth (Chip.back_excAll c)
@[simp] theorem Chip.excAll_lands (c : Chip) : (c.excAll).lands = c.lands := Chip.back_lands (Chip.back_excAll c)
@[simp] theorem Chip.excAll_power (c : Chip) : (c.excAll).power = c.power := Chip.back_power (Chip.back_excAll c)
@[simp] theorem Chip.excAll_modes (c : Chip) : (c.excAll).modes = c.modes := Chip.back_modes (Chip.back_excAll c)
@[simp] theorem Chip.excAll_tb (c : Chip) : (c.excAll).tb = c.tb := Chip.back_tb (Chip.back_excAll c)
@[simp] theorem Chip.excAll_keeper (c : Chip) : (c.excAll).keeper = c.keeper := Chip.back_keeper (Chip.back_excAll c)
@[simp] theorem Chip.excAll_mram (c : Chip) : (c.excAll).mram = c.mram := Chip.back_mram (Chip.back_excAll c)
@[simp] theorem Chip.excAll_start (c : Chip) : (c.excAll).start = c.start := Chip.back_start (Chip.back_excAll c)
@[simp] theorem Chip.excAll_rules (c : Chip) : (c.excAll).rules = c.rules := Chip.back_rules (Chip.back_excAll c)
@[simp] theorem Chip.excAll_runSig (c : Chip) : (c.excAll).runSig = c.runSig := Chip.back_runSig (Chip.back_excAll c)
@[simp] theorem Chip.excAll_fin (c : Chip) : (c.excAll).fin = c.fin := Chip.back_fin (Chip.back_excAll c)
@[simp] theorem Chip.excAll_mon (c : Chip) : (c.excAll).mon = c.mon := Chip.back_mon (Chip.back_excAll c)
@[simp] theorem Chip.excAll_acq (c : Chip) : (c.excAll).acq = c.acq := Chip.back_acq (Chip.back_excAll c)
@[simp] theorem Chip.excAll_track (c : Chip) : (c.excAll).track = c.track := Chip.back_track (Chip.back_excAll c)
@[simp] theorem Chip.excAll_radio (c : Chip) : (c.excAll).radio = c.radio := Chip.back_radio (Chip.back_excAll c)
@[simp] theorem Chip.excAll_yard (c : Chip) : (c.excAll).yard = c.yard := Chip.back_yard (Chip.back_excAll c)
@[simp] theorem Chip.excAll_host (c : Chip) : (c.excAll).host = c.host := Chip.back_host (Chip.back_excAll c)
@[simp] theorem Chip.excAll_mem (c : Chip) : (c.excAll).mem = c.mem := Chip.back_mem (Chip.back_excAll c)
@[simp] theorem Chip.excAll_upd (c : Chip) : (c.excAll).upd = c.upd := Chip.back_upd (Chip.back_excAll c)
@[simp] theorem Chip.excAll_therm (c : Chip) : (c.excAll).therm = c.therm := Chip.back_therm (Chip.back_excAll c)

@[simp] theorem Chip.frontSettle_regs (c : Chip) : (c.frontSettle).regs = c.regs := Chip.back_regs (Chip.back_frontSettle c)
@[simp] theorem Chip.frontSettle_run (c : Chip) : (c.frontSettle).run = c.run := Chip.back_run (Chip.back_frontSettle c)
@[simp] theorem Chip.frontSettle_girth (c : Chip) : (c.frontSettle).girth = c.girth := Chip.back_girth (Chip.back_frontSettle c)
@[simp] theorem Chip.frontSettle_lands (c : Chip) : (c.frontSettle).lands = c.lands := Chip.back_lands (Chip.back_frontSettle c)
@[simp] theorem Chip.frontSettle_power (c : Chip) : (c.frontSettle).power = c.power := Chip.back_power (Chip.back_frontSettle c)
@[simp] theorem Chip.frontSettle_modes (c : Chip) : (c.frontSettle).modes = c.modes := Chip.back_modes (Chip.back_frontSettle c)
@[simp] theorem Chip.frontSettle_tb (c : Chip) : (c.frontSettle).tb = c.tb := Chip.back_tb (Chip.back_frontSettle c)
@[simp] theorem Chip.frontSettle_keeper (c : Chip) : (c.frontSettle).keeper = c.keeper := Chip.back_keeper (Chip.back_frontSettle c)
@[simp] theorem Chip.frontSettle_mram (c : Chip) : (c.frontSettle).mram = c.mram := Chip.back_mram (Chip.back_frontSettle c)
@[simp] theorem Chip.frontSettle_start (c : Chip) : (c.frontSettle).start = c.start := Chip.back_start (Chip.back_frontSettle c)
@[simp] theorem Chip.frontSettle_rules (c : Chip) : (c.frontSettle).rules = c.rules := Chip.back_rules (Chip.back_frontSettle c)
@[simp] theorem Chip.frontSettle_runSig (c : Chip) : (c.frontSettle).runSig = c.runSig := Chip.back_runSig (Chip.back_frontSettle c)
@[simp] theorem Chip.frontSettle_fin (c : Chip) : (c.frontSettle).fin = c.fin := Chip.back_fin (Chip.back_frontSettle c)
@[simp] theorem Chip.frontSettle_mon (c : Chip) : (c.frontSettle).mon = c.mon := Chip.back_mon (Chip.back_frontSettle c)
@[simp] theorem Chip.frontSettle_acq (c : Chip) : (c.frontSettle).acq = c.acq := Chip.back_acq (Chip.back_frontSettle c)
@[simp] theorem Chip.frontSettle_track (c : Chip) : (c.frontSettle).track = c.track := Chip.back_track (Chip.back_frontSettle c)
@[simp] theorem Chip.frontSettle_radio (c : Chip) : (c.frontSettle).radio = c.radio := Chip.back_radio (Chip.back_frontSettle c)
@[simp] theorem Chip.frontSettle_yard (c : Chip) : (c.frontSettle).yard = c.yard := Chip.back_yard (Chip.back_frontSettle c)
@[simp] theorem Chip.frontSettle_host (c : Chip) : (c.frontSettle).host = c.host := Chip.back_host (Chip.back_frontSettle c)
@[simp] theorem Chip.frontSettle_mem (c : Chip) : (c.frontSettle).mem = c.mem := Chip.back_mem (Chip.back_frontSettle c)
@[simp] theorem Chip.frontSettle_upd (c : Chip) : (c.frontSettle).upd = c.upd := Chip.back_upd (Chip.back_frontSettle c)
@[simp] theorem Chip.frontSettle_therm (c : Chip) : (c.frontSettle).therm = c.therm := Chip.back_therm (Chip.back_frontSettle c)

@[simp] theorem Chip.burnishEnd_regs (c : Chip) (p r q : Nat) : (c.burnishEnd p r q).regs = c.regs := Chip.back_regs (Chip.back_burnishEnd c p r q)
@[simp] theorem Chip.burnishEnd_run (c : Chip) (p r q : Nat) : (c.burnishEnd p r q).run = c.run := Chip.back_run (Chip.back_burnishEnd c p r q)
@[simp] theorem Chip.burnishEnd_girth (c : Chip) (p r q : Nat) : (c.burnishEnd p r q).girth = c.girth := Chip.back_girth (Chip.back_burnishEnd c p r q)
@[simp] theorem Chip.burnishEnd_lands (c : Chip) (p r q : Nat) : (c.burnishEnd p r q).lands = c.lands := Chip.back_lands (Chip.back_burnishEnd c p r q)
@[simp] theorem Chip.burnishEnd_power (c : Chip) (p r q : Nat) : (c.burnishEnd p r q).power = c.power := Chip.back_power (Chip.back_burnishEnd c p r q)
@[simp] theorem Chip.burnishEnd_modes (c : Chip) (p r q : Nat) : (c.burnishEnd p r q).modes = c.modes := Chip.back_modes (Chip.back_burnishEnd c p r q)
@[simp] theorem Chip.burnishEnd_tb (c : Chip) (p r q : Nat) : (c.burnishEnd p r q).tb = c.tb := Chip.back_tb (Chip.back_burnishEnd c p r q)
@[simp] theorem Chip.burnishEnd_keeper (c : Chip) (p r q : Nat) : (c.burnishEnd p r q).keeper = c.keeper := Chip.back_keeper (Chip.back_burnishEnd c p r q)
@[simp] theorem Chip.burnishEnd_mram (c : Chip) (p r q : Nat) : (c.burnishEnd p r q).mram = c.mram := Chip.back_mram (Chip.back_burnishEnd c p r q)
@[simp] theorem Chip.burnishEnd_start (c : Chip) (p r q : Nat) : (c.burnishEnd p r q).start = c.start := Chip.back_start (Chip.back_burnishEnd c p r q)
@[simp] theorem Chip.burnishEnd_rules (c : Chip) (p r q : Nat) : (c.burnishEnd p r q).rules = c.rules := Chip.back_rules (Chip.back_burnishEnd c p r q)
@[simp] theorem Chip.burnishEnd_runSig (c : Chip) (p r q : Nat) : (c.burnishEnd p r q).runSig = c.runSig := Chip.back_runSig (Chip.back_burnishEnd c p r q)
@[simp] theorem Chip.burnishEnd_fin (c : Chip) (p r q : Nat) : (c.burnishEnd p r q).fin = c.fin := Chip.back_fin (Chip.back_burnishEnd c p r q)
@[simp] theorem Chip.burnishEnd_mon (c : Chip) (p r q : Nat) : (c.burnishEnd p r q).mon = c.mon := Chip.back_mon (Chip.back_burnishEnd c p r q)
@[simp] theorem Chip.burnishEnd_acq (c : Chip) (p r q : Nat) : (c.burnishEnd p r q).acq = c.acq := Chip.back_acq (Chip.back_burnishEnd c p r q)
@[simp] theorem Chip.burnishEnd_track (c : Chip) (p r q : Nat) : (c.burnishEnd p r q).track = c.track := Chip.back_track (Chip.back_burnishEnd c p r q)
@[simp] theorem Chip.burnishEnd_radio (c : Chip) (p r q : Nat) : (c.burnishEnd p r q).radio = c.radio := Chip.back_radio (Chip.back_burnishEnd c p r q)
@[simp] theorem Chip.burnishEnd_yard (c : Chip) (p r q : Nat) : (c.burnishEnd p r q).yard = c.yard := Chip.back_yard (Chip.back_burnishEnd c p r q)
@[simp] theorem Chip.burnishEnd_host (c : Chip) (p r q : Nat) : (c.burnishEnd p r q).host = c.host := Chip.back_host (Chip.back_burnishEnd c p r q)
@[simp] theorem Chip.burnishEnd_mem (c : Chip) (p r q : Nat) : (c.burnishEnd p r q).mem = c.mem := Chip.back_mem (Chip.back_burnishEnd c p r q)
@[simp] theorem Chip.burnishEnd_upd (c : Chip) (p r q : Nat) : (c.burnishEnd p r q).upd = c.upd := Chip.back_upd (Chip.back_burnishEnd c p r q)
@[simp] theorem Chip.burnishEnd_therm (c : Chip) (p r q : Nat) : (c.burnishEnd p r q).therm = c.therm := Chip.back_therm (Chip.back_burnishEnd c p r q)

end Sys2Proof.Machine
end

