-- ==== Sys2Proof/Laws/Memory.lean ====
section
/-! SUPPORT. The sparse memories: every write keeps the canonical form, a read after a write gives the value written, and a write leaves every other
place alone; and the bit fields of a word. -/

namespace Sys2Proof.Machine

variable {α : Type} [DecidableEq α]

/-! ### Maps -/

omit [DecidableEq α] in
theorem mget_minsert (d : α) (m : List (Nat × α)) (a : Nat) (x : α) : mget d (minsert a x m) a = x := by
  induction m with
  | nil => simp [minsert, mget]
  | cons p m ih =>
    obtain ⟨k, v⟩ := p
    unfold minsert
    split
    · simp [mget]
    · split
      · simp [mget]
      · simp only [mget]; rw [if_neg (by omega)]; exact ih

omit [DecidableEq α] in
theorem mget_minsert_ne (d : α) (m : List (Nat × α)) (a b : Nat) (x : α) (h : a ≠ b) : mget d (minsert b x m) a = mget d m a := by
  induction m with
  | nil => simp only [minsert, mget]; rw [if_neg h]
  | cons p m ih =>
    obtain ⟨k, v⟩ := p
    unfold minsert
    split
    · simp only [mget]; rw [if_neg h]
    · split
      · rename_i hk; subst hk
        simp only [mget]; rw [if_neg h]; rw [if_neg h]
      · simp only [mget]; rw [ih]

omit [DecidableEq α] in
theorem mget_merase (d : α) (m : List (Nat × α)) (a b : Nat) : mget d (merase b m) a = if a = b then d else mget d m a := by
  induction m with
  | nil => simp [merase, mget]
  | cons p m ih =>
    obtain ⟨k, v⟩ := p
    unfold merase
    by_cases e : b = k
    · rw [if_pos e, ih]; simp only [mget]
      by_cases ha : a = b
      · rw [if_pos ha, if_pos ha]
      · rw [if_neg ha, if_neg ha, if_neg (by omega)]
    · rw [if_neg e]; simp only [mget]; rw [ih]
      by_cases ha : a = b
      · rw [if_pos ha, if_pos ha, if_neg (by omega)]
      · rw [if_neg ha, if_neg ha]

/-- A value written reads back, and every other place is as before. -/
theorem mget_mset (d : α) (m : List (Nat × α)) (a b : Nat) (x : α) : mget d (mset d m b x) a = if a = b then x else mget d m a := by
  unfold mset
  split
  · rename_i h; rw [mget_merase, h]
  · by_cases e : a = b
    · subst e; rw [if_pos rfl]; exact mget_minsert d m a x
    · rw [if_neg e]; exact mget_minsert_ne d m a b x e

theorem mwfAbove_mono (d : α) (m : List (Nat × α)) (a b : Nat) (h : a ≤ b) (w : mwfAbove d b m = true) : mwfAbove d a m = true := by
  cases m with
  | nil => rfl
  | cons p m =>
    obtain ⟨k, v⟩ := p
    simp only [mwfAbove, Bool.and_eq_true, decide_eq_true_eq] at *
    exact ⟨⟨by omega, w.1.2⟩, w.2⟩

theorem mwfAbove_minsert (d : α) (m : List (Nat × α)) (a lo : Nat) (x : α) (h : x ≠ d) (hl : lo ≤ a) (w : mwfAbove d lo m = true) :
    mwfAbove d lo (minsert a x m) = true := by
  induction m generalizing lo with
  | nil => simp [minsert, mwfAbove, h, hl]
  | cons p m ih =>
    obtain ⟨k, v⟩ := p
    simp only [mwfAbove, Bool.and_eq_true, decide_eq_true_eq] at w
    unfold minsert
    split
    · simp only [mwfAbove, Bool.and_eq_true, decide_eq_true_eq]
      exact ⟨⟨hl, h⟩, ⟨by omega, w.1.2⟩, w.2⟩
    · split
      · rename_i e; subst e
        simp only [mwfAbove, Bool.and_eq_true, decide_eq_true_eq]
        exact ⟨⟨hl, h⟩, w.2⟩
      · simp only [mwfAbove, Bool.and_eq_true, decide_eq_true_eq]
        exact ⟨w.1, ih _ (by omega) w.2⟩

theorem mwfAbove_merase (d : α) (m : List (Nat × α)) (a lo : Nat) (w : mwfAbove d lo m = true) : mwfAbove d lo (merase a m) = true := by
  induction m generalizing lo with
  | nil => rfl
  | cons p m ih =>
    obtain ⟨k, v⟩ := p
    simp only [mwfAbove, Bool.and_eq_true, decide_eq_true_eq] at w
    unfold merase
    split
    · exact mwfAbove_mono d _ _ _ (by omega) (ih _ w.2)
    · simp only [mwfAbove, Bool.and_eq_true, decide_eq_true_eq]
      exact ⟨w.1, ih _ w.2⟩

/-- Writing a value keeps the canonical form. -/
theorem mwf_mset (d : α) (m : List (Nat × α)) (a : Nat) (x : α) (w : mwf d m = true) : mwf d (mset d m a x) = true := by
  unfold mset
  split
  · exact mwfAbove_merase d m a 0 w
  · rename_i h; exact mwfAbove_minsert d m a 0 x h (Nat.zero_le _) w

/-! ### Memories of bytes -/

theorem mwfAbove_cellsOf (d : Byte) (bs : List Byte) (a lo : Nat) (h : lo ≤ a) (m : List Host.Cell) (w : mwfAbove d (a + bs.length) m = true) :
    mwfAbove d lo (cellsOf d a bs ++ m) = true := by
  induction bs generalizing a lo with
  | nil => exact mwfAbove_mono d m _ _ (by simpa using h) w
  | cons b bs ih =>
    have w' : mwfAbove d (a + 1 + bs.length) m = true := by
      have e : a + (b :: bs).length = a + 1 + bs.length := by simp only [List.length_cons]; omega
      rw [← e]; exact w
    unfold cellsOf
    split
    · exact ih (a + 1) lo (by omega) w'
    · rename_i hb
      simp only [List.cons_append, mwfAbove, Bool.and_eq_true, decide_eq_true_eq]
      exact ⟨⟨h, hb⟩, ih (a + 1) (a + 1) (Nat.le_refl _) w'⟩

theorem mwfAbove_filter_ge (d : Byte) (m : List Host.Cell) (lo a : Nat) (w : mwfAbove d lo m = true) :
    mwfAbove d a (m.filter (fun p => decide (a ≤ p.1))) = true := by
  induction m generalizing lo with
  | nil => rfl
  | cons p m ih =>
    obtain ⟨k, v⟩ := p
    simp only [mwfAbove, Bool.and_eq_true, decide_eq_true_eq] at w
    by_cases h : a ≤ k
    · have e : ((k, v) :: m).filter (fun p => decide (a ≤ p.1)) = (k, v) :: m.filter (fun p => decide (a ≤ p.1)) := by simp [h]
      rw [e]
      simp only [mwfAbove, Bool.and_eq_true, decide_eq_true_eq]
      refine ⟨⟨h, w.1.2⟩, ?_⟩
      have hm : ∀ (m : List Host.Cell) (lo : Nat), a ≤ lo → mwfAbove d lo m = true → mwfAbove d lo (m.filter (fun p => decide (a ≤ p.1))) = true := by
        intro m
        induction m with
        | nil => intro _ _ _; rfl
        | cons q m ihm =>
          obtain ⟨j, u⟩ := q
          intro lo hlo hw
          simp only [mwfAbove, Bool.and_eq_true, decide_eq_true_eq] at hw
          have e : ((j, u) :: m).filter (fun p => decide (a ≤ p.1)) = (j, u) :: m.filter (fun p => decide (a ≤ p.1)) := by
            simp [show a ≤ j by omega]
          rw [e]
          simp only [mwfAbove, Bool.and_eq_true, decide_eq_true_eq]
          exact ⟨hw.1, ihm _ (by omega) hw.2⟩
      exact hm m (k + 1) (by omega) w.2
    · have e : ((k, v) :: m).filter (fun p => decide (a ≤ p.1)) = m.filter (fun p => decide (a ≤ p.1)) := by simp [h]
      rw [e]; exact ih _ w.2

theorem mwfAbove_filter_lt (d : Byte) (m n : List Host.Cell) (lo a : Nat) (w : mwfAbove d lo m = true) (h : lo ≤ a)
    (k : ∀ l, l ≤ a → mwfAbove d l n = true) : mwfAbove d lo (m.filter (fun p => decide (p.1 < a)) ++ n) = true := by
  induction m generalizing lo with
  | nil => exact k lo h
  | cons p m ih =>
    obtain ⟨j, v⟩ := p
    simp only [mwfAbove, Bool.and_eq_true, decide_eq_true_eq] at w
    by_cases e : j < a
    · have t : ((j, v) :: m).filter (fun p => decide (p.1 < a)) = (j, v) :: m.filter (fun p => decide (p.1 < a)) := by simp [e]
      rw [t]
      simp only [List.cons_append, mwfAbove, Bool.and_eq_true, decide_eq_true_eq]
      exact ⟨w.1, ih _ w.2 (by omega)⟩
    · have t : ((j, v) :: m).filter (fun p => decide (p.1 < a)) = m.filter (fun p => decide (p.1 < a)) := by simp [e]
      rw [t]
      have w2 : mwfAbove d lo m = true := mwfAbove_mono d m _ _ (by omega) w.2
      exact ih _ w2 h

/-- Writing bytes keeps the canonical form. -/
theorem memWrite_wf (d : Byte) (m : List Host.Cell) (a : Nat) (bs : List Byte) (w : Memory.wf d m = true) :
    Memory.wf d (memWrite d m a bs) = true := by
  unfold Memory.wf mwf memWrite at *
  rw [List.append_assoc]
  refine mwfAbove_filter_lt d m _ 0 a w (Nat.zero_le _) (fun l hl => ?_)
  exact mwfAbove_cellsOf d bs a l hl _ (mwfAbove_filter_ge d m 0 _ w)

theorem reset_nor_wf : Memory.wf 0xFF Chip.reset.mem.nor = true := rfl
theorem reset_mram_wf : Memory.wf 0 Chip.reset.mram.bytes = true := rfl
theorem reset_regs_wf : mwf 0 Chip.reset.regs = true := by decide
theorem reset_run_wf : mwf 0 Chip.reset.run = true := by decide

/-! ### Registers -/

theorem Chip.reg_setReg (c : Chip) (a b : Nat) (w : Word) : (c.setReg b w).reg a = if a = b then w else c.reg a := mget_mset 0 c.regs a b w

theorem Chip.reg_setBits (c : Chip) (a b m : Nat) : (c.setBits b m).reg a = if a = b then c.reg b ||| wd m else c.reg a :=
  Chip.reg_setReg c a b _

theorem Chip.reg_clrBits (c : Chip) (a b m : Nat) : (c.clrBits b m).reg a = if a = b then c.reg b &&& ~~~(wd m) else c.reg a :=
  Chip.reg_setReg c a b _

theorem Chip.reg_setFld (c : Chip) (a b hi lo v : Nat) : (c.setFld b hi lo v).reg a = if a = b then putFld (c.reg b) hi lo v else c.reg a :=
  Chip.reg_setReg c a b _

theorem Chip.reg_armLast (c : Chip) (a arm res : Nat) : (c.armLast arm res).reg a = if a = 0x0023 then wd (arm * 65536 + res) else c.reg a :=
  Chip.reg_setReg c a _ _

theorem Chip.runW_setRun (c : Chip) (a b : Nat) (w : Word) : (c.setRun b w).runW a = if a = b then w else c.runW a := mget_mset 0 c.run a b w

/-! ### Fields of a word -/

theorem fmask_bit (hi lo i : Nat) (h : lo ≤ hi) (hh : hi < 32) : (fmask hi lo).getLsbD i = (decide (lo ≤ i) && decide (i ≤ hi)) := by
  unfold fmask wd
  simp only [BitVec.getLsbD_ofNat, Nat.testBit_mul_two_pow, Nat.testBit_two_pow_sub_one]
  by_cases a : lo ≤ i <;> by_cases b : i ≤ hi <;> simp [a, b] <;> omega
theorem fld_bit (w : Word) (hi lo i : Nat) : (fld w hi lo).testBit i = (decide (i < hi - lo + 1) && w.getLsbD (lo + i)) := by
  unfold fld
  rw [Nat.testBit_mod_two_pow, Nat.testBit_div_two_pow, ← BitVec.testBit_toNat, Nat.add_comm lo i]
theorem putFld_bit (w : Word) (hi lo v i : Nat) (h : lo ≤ hi) (hh : hi < 32) :
    (putFld w hi lo v).getLsbD i = if lo ≤ i ∧ i ≤ hi then v.testBit (i - lo) else w.getLsbD i := by
  unfold putFld
  rw [BitVec.getLsbD_or, BitVec.getLsbD_and, BitVec.getLsbD_and, BitVec.getLsbD_not, fmask_bit hi lo i h hh]
  unfold wd
  rw [BitVec.getLsbD_ofNat, Nat.testBit_mul_two_pow]
  by_cases a : lo ≤ i <;> by_cases b : i ≤ hi <;> simp [a, b]
  · intro; omega
  · exact fun k => BitVec.lt_of_getLsbD k
  · exact fun k => BitVec.lt_of_getLsbD k
  · exact fun k => BitVec.lt_of_getLsbD k
/-- A field reads back what was put into it. -/
theorem fld_putFld (w : Word) (hi lo v : Nat) (h : lo ≤ hi) (hh : hi < 32) : fld (putFld w hi lo v) hi lo = v % 2 ^ (hi - lo + 1) := by
  apply Nat.eq_of_testBit_eq
  intro i
  rw [fld_bit, putFld_bit _ _ _ _ _ h hh, Nat.testBit_mod_two_pow]
  by_cases a : i < hi - lo + 1
  · rw [if_pos (by omega)]; simp [a]
  · simp [a]
/-- A field keeps its value when another is put beside it. -/
theorem fld_putFld_other (w : Word) (hi lo hi' lo' v : Nat) (h : lo ≤ hi) (hh : hi < 32) (h' : lo' ≤ hi') (d : hi' < lo ∨ hi < lo') :
    fld (putFld w hi lo v) hi' lo' = fld w hi' lo' := by
  apply Nat.eq_of_testBit_eq
  intro i
  rw [fld_bit, fld_bit, putFld_bit _ _ _ _ _ h hh]
  by_cases a : i < hi' - lo' + 1
  · rw [if_neg (by omega)]
  · simp [a]

end Sys2Proof.Machine
end

