-- ==== Sys2Proof/Laws/Modes.lean ====
section
/-! SUPPORT. What the mode controller can do: it begins transitions, requests fixes and bursts and refuses rules' requests; everything
else of the block it leaves alone, and a SILENT lane stays SILENT. -/

namespace Sys2Proof.Machine

/-- The requests, results and transitions of the mode controller forgotten: the mode, its holds and the mode before them stay. -/
def Modes.still (m : Modes) : Modes :=
  { m with reqMode := 0, reqResult := 0, transition := none, thenTo := none, queuedHost := none, queuedRule := none }

/-- The block with what the mode controller works on forgotten: lanes of the girth, requests and transitions, rings, acquisition, tracking,
radio. -/
def Chip.calm (c : Chip) : Chip :=
  { c with girth := { c.girth with lanes := [] }, modes := c.modes.still, rings := {}, acq := {}, track := {}, radio := {} }

theorem Chip.calm_queuedHost (c : Chip) (q : Option Nat) : (c.upModes (fun m => { m with queuedHost := q })).calm = c.calm := rfl
theorem Chip.calm_queuedRule (c : Chip) (q : Option (Nat × Nat × Nat)) : (c.upModes (fun m => { m with queuedRule := q })).calm = c.calm := rfl
theorem Chip.calm_reqMode (c : Chip) (q : Nat) : (c.upModes (fun m => { m with reqMode := q })).calm = c.calm := rfl
theorem Chip.calm_noTransition (c : Chip) : (c.upModes (fun m => { m with transition := none, thenTo := none })).calm = c.calm := rfl
theorem Chip.calm_upRadio (c : Chip) (f : Radio → Radio) : (c.upRadio f).calm = c.calm := rfl
theorem Chip.calm_upAcq (c : Chip) (f : Acq → Acq) : (c.upAcq f).calm = c.calm := rfl
theorem Chip.calm_of_noRings {c d : Chip} (h : c.noRings = d.noRings) : c.calm = d.calm := (congrArg Chip.calm h :)
theorem Chip.calm_produce (c : Chip) (a n : Nat) (e : Entry) : (c.produce a n e).calm = c.calm :=
  Chip.calm_of_noRings (Chip.noRings_produce c a n e)
theorem Chip.calm_beginTransition (c : Chip) (m : Nat) (r : Reason) : (c.beginTransition m r).calm = c.calm := rfl

theorem Chip.calm_goTo (c : Chip) (m : Nat) (r : Reason) : (c.goTo m r).calm = c.calm := by
  unfold Chip.goTo
  repeat' split
  all_goals rfl

theorem Chip.calm_wantBurst (c : Chip) (r : Reason) : (c.wantBurst r).calm = c.calm := by
  unfold Chip.wantBurst
  dsimp only
  repeat' split
  all_goals simp only [Chip.calm_goTo, Chip.calm_upAcq, Chip.calm_upRadio]

theorem Chip.calm_startBurst (c : Chip) : c.startBurst.calm = c.calm := rfl

theorem Chip.calm_fixInMode (c : Chip) (r : Reason) : (c.fixInMode r).calm = c.calm := by
  unfold Chip.fixInMode
  repeat' split
  all_goals simp only [Chip.calm_goTo, Chip.calm_startBurst]

theorem Chip.calm_requestFix (c : Chip) (a b : Nat) (r : Reason) : (c.requestFix a b r).1.calm = c.calm := by
  unfold Chip.requestFix
  dsimp only
  repeat' split
  all_goals first
    | rfl
    | rw [Chip.calm_fixInMode]; rfl

theorem Chip.calm_decideMode (c : Chip) (q : Nat) (r : Reason) : (c.decideMode q r).1.calm = c.calm := by
  have hf := Chip.calm_requestFix c 0 0 r
  unfold Chip.decideMode
  repeat' split
  all_goals first
    | rfl
    | (simp only [Chip.calm_goTo, Chip.calm_wantBurst]; done)
    | simp_all only

theorem Chip.calm_hostResult (c : Chip) (q x : Nat) : (c.hostResult q x).calm = c.calm := rfl

theorem Chip.calm_ruleMode (c : Chip) (q k i : Nat) : (c.ruleMode q k i).calm = c.calm := by
  unfold Chip.ruleMode Chip.ruleModeRefused Chip.event Chip.post2 Chip.post3
  dsimp only
  repeat' split
  all_goals simp only [Chip.calm_produce, Chip.calm_decideMode, Chip.calm_queuedRule]

theorem Chip.calm_settleQueue (c : Chip) : c.settleQueue.calm = c.calm := by
  unfold Chip.settleQueue
  dsimp only
  repeat' split
  all_goals simp only [Chip.calm_ruleMode, Chip.calm_hostResult, Chip.calm_decideMode, Chip.calm_queuedHost, Chip.calm_queuedRule]

/-- What the mode controller decides changes nothing but its own parts. -/
theorem Chip.calm_settle (c : Chip) : c.settle.calm = c.calm := by
  unfold Chip.settle
  dsimp only
  repeat' split
  all_goals simp only [Chip.calm_goTo, Chip.calm_settleQueue]

theorem Chip.calm_settleOver (c : Chip) : c.settleOver.calm = c.calm := by
  unfold Chip.settleOver
  repeat' split
  all_goals simp only [Chip.calm_settle, Chip.calm_noTransition]

theorem Chip.calm_hostMode (c : Chip) (q : Nat) : (c.hostMode q).calm = c.calm := by
  unfold Chip.hostMode
  dsimp only
  repeat' split
  all_goals simp only [Chip.calm_hostResult, Chip.calm_decideMode, Chip.calm_reqMode]

/-! ### Fields the mode controller leaves alone -/

theorem Chip.calm_regs {c d : Chip} (h : c.calm = d.calm) : c.regs = d.regs := (congrArg Chip.regs h :)
theorem Chip.calm_run {c d : Chip} (h : c.calm = d.calm) : c.run = d.run := (congrArg Chip.run h :)
theorem Chip.calm_lands {c d : Chip} (h : c.calm = d.calm) : c.lands = d.lands := (congrArg Chip.lands h :)
theorem Chip.calm_power {c d : Chip} (h : c.calm = d.calm) : c.power = d.power := (congrArg Chip.power h :)
theorem Chip.calm_tb {c d : Chip} (h : c.calm = d.calm) : c.tb = d.tb := (congrArg Chip.tb h :)
theorem Chip.calm_keeper {c d : Chip} (h : c.calm = d.calm) : c.keeper = d.keeper := (congrArg Chip.keeper h :)
theorem Chip.calm_mram {c d : Chip} (h : c.calm = d.calm) : c.mram = d.mram := (congrArg Chip.mram h :)
theorem Chip.calm_start {c d : Chip} (h : c.calm = d.calm) : c.start = d.start := (congrArg Chip.start h :)
theorem Chip.calm_rules {c d : Chip} (h : c.calm = d.calm) : c.rules = d.rules := (congrArg Chip.rules h :)
theorem Chip.calm_seqs {c d : Chip} (h : c.calm = d.calm) : c.seqs = d.seqs := (congrArg Chip.seqs h :)
theorem Chip.calm_runSig {c d : Chip} (h : c.calm = d.calm) : c.runSig = d.runSig := (congrArg Chip.runSig h :)
theorem Chip.calm_fin {c d : Chip} (h : c.calm = d.calm) : c.fin = d.fin := (congrArg Chip.fin h :)
theorem Chip.calm_chains {c d : Chip} (h : c.calm = d.calm) : c.chains = d.chains := (congrArg Chip.chains h :)
theorem Chip.calm_burnish {c d : Chip} (h : c.calm = d.calm) : c.burnish = d.burnish := (congrArg Chip.burnish h :)
theorem Chip.calm_exc {c d : Chip} (h : c.calm = d.calm) : c.exc = d.exc := (congrArg Chip.exc h :)
theorem Chip.calm_mon {c d : Chip} (h : c.calm = d.calm) : c.mon = d.mon := (congrArg Chip.mon h :)
theorem Chip.calm_yard {c d : Chip} (h : c.calm = d.calm) : c.yard = d.yard := (congrArg Chip.yard h :)
theorem Chip.calm_host {c d : Chip} (h : c.calm = d.calm) : c.host = d.host := (congrArg Chip.host h :)
theorem Chip.calm_mem {c d : Chip} (h : c.calm = d.calm) : c.mem = d.mem := (congrArg Chip.mem h :)
theorem Chip.calm_upd {c d : Chip} (h : c.calm = d.calm) : c.upd = d.upd := (congrArg Chip.upd h :)
theorem Chip.calm_therm {c d : Chip} (h : c.calm = d.calm) : c.therm = d.therm := (congrArg Chip.therm h :)
theorem Chip.calm_girth {c d : Chip} (h : c.calm = d.calm) : { c.girth with lanes := [] } = { d.girth with lanes := [] } := (congrArg Chip.girth h :)
theorem Chip.calm_modes_mode {c d : Chip} (h : c.calm = d.calm) : c.modes.mode = d.modes.mode := (congrArg (fun c => c.modes.mode) h :)
theorem Chip.calm_modes_prev {c d : Chip} (h : c.calm = d.calm) : c.modes.prev = d.modes.prev := (congrArg (fun c => c.modes.prev) h :)
theorem Chip.calm_modes_reason {c d : Chip} (h : c.calm = d.calm) : c.modes.reason = d.modes.reason := (congrArg (fun c => c.modes.reason) h :)
theorem Chip.calm_modes_thermalHold {c d : Chip} (h : c.calm = d.calm) : c.modes.thermalHold = d.modes.thermalHold := (congrArg (fun c => c.modes.thermalHold) h :)
theorem Chip.calm_modes_batHold {c d : Chip} (h : c.calm = d.calm) : c.modes.batHold = d.modes.batHold := (congrArg (fun c => c.modes.batHold) h :)
theorem Chip.calm_modes_before {c d : Chip} (h : c.calm = d.calm) : c.modes.before = d.modes.before := (congrArg (fun c => c.modes.before) h :)

@[simp] theorem Chip.goTo_regs (c : Chip) (m : Nat) (r : Reason) : (c.goTo m r).regs = c.regs := Chip.calm_regs (Chip.calm_goTo c m r)
@[simp] theorem Chip.goTo_run (c : Chip) (m : Nat) (r : Reason) : (c.goTo m r).run = c.run := Chip.calm_run (Chip.calm_goTo c m r)
@[simp] theorem Chip.goTo_lands (c : Chip) (m : Nat) (r : Reason) : (c.goTo m r).lands = c.lands := Chip.calm_lands (Chip.calm_goTo c m r)
@[simp] theorem Chip.goTo_power (c : Chip) (m : Nat) (r : Reason) : (c.goTo m r).power = c.power := Chip.calm_power (Chip.calm_goTo c m r)
@[simp] theorem Chip.goTo_tb (c : Chip) (m : Nat) (r : Reason) : (c.goTo m r).tb = c.tb := Chip.calm_tb (Chip.calm_goTo c m r)
@[simp] theorem Chip.goTo_keeper (c : Chip) (m : Nat) (r : Reason) : (c.goTo m r).keeper = c.keeper := Chip.calm_keeper (Chip.calm_goTo c m r)
@[simp] theorem Chip.goTo_mram (c : Chip) (m : Nat) (r : Reason) : (c.goTo m r).mram = c.mram := Chip.calm_mram (Chip.calm_goTo c m r)
@[simp] theorem Chip.goTo_start (c : Chip) (m : Nat) (r : Reason) : (c.goTo m r).start = c.start := Chip.calm_start (Chip.calm_goTo c m r)
@[simp] theorem Chip.goTo_rules (c : Chip) (m : Nat) (r : Reason) : (c.goTo m r).rules = c.rules := Chip.calm_rules (Chip.calm_goTo c m r)
@[simp] theorem Chip.goTo_seqs (c : Chip) (m : Nat) (r : Reason) : (c.goTo m r).seqs = c.seqs := Chip.calm_seqs (Chip.calm_goTo c m r)
@[simp] theorem Chip.goTo_runSig (c : Chip) (m : Nat) (r : Reason) : (c.goTo m r).runSig = c.runSig := Chip.calm_runSig (Chip.calm_goTo c m r)
@[simp] theorem Chip.goTo_fin (c : Chip) (m : Nat) (r : Reason) : (c.goTo m r).fin = c.fin := Chip.calm_fin (Chip.calm_goTo c m r)
@[simp] theorem Chip.goTo_chains (c : Chip) (m : Nat) (r : Reason) : (c.goTo m r).chains = c.chains := Chip.calm_chains (Chip.calm_goTo c m r)
@[simp] theorem Chip.goTo_burnish (c : Chip) (m : Nat) (r : Reason) : (c.goTo m r).burnish = c.burnish := Chip.calm_burnish (Chip.calm_goTo c m r)
@[simp] theorem Chip.goTo_exc (c : Chip) (m : Nat) (r : Reason) : (c.goTo m r).exc = c.exc := Chip.calm_exc (Chip.calm_goTo c m r)
@[simp] theorem Chip.goTo_mon (c : Chip) (m : Nat) (r : Reason) : (c.goTo m r).mon = c.mon := Chip.calm_mon (Chip.calm_goTo c m r)
@[simp] theorem Chip.goTo_yard (c : Chip) (m : Nat) (r : Reason) : (c.goTo m r).yard = c.yard := Chip.calm_yard (Chip.calm_goTo c m r)
@[simp] theorem Chip.goTo_host (c : Chip) (m : Nat) (r : Reason) : (c.goTo m r).host = c.host := Chip.calm_host (Chip.calm_goTo c m r)
@[simp] theorem Chip.goTo_mem (c : Chip) (m : Nat) (r : Reason) : (c.goTo m r).mem = c.mem := Chip.calm_mem (Chip.calm_goTo c m r)
@[simp] theorem Chip.goTo_upd (c : Chip) (m : Nat) (r : Reason) : (c.goTo m r).upd = c.upd := Chip.calm_upd (Chip.calm_goTo c m r)
@[simp] theorem Chip.goTo_therm (c : Chip) (m : Nat) (r : Reason) : (c.goTo m r).therm = c.therm := Chip.calm_therm (Chip.calm_goTo c m r)
@[simp] theorem Chip.goTo_modes_mode (c : Chip) (m : Nat) (r : Reason) : (c.goTo m r).modes.mode = c.modes.mode := Chip.calm_modes_mode (Chip.calm_goTo c m r)
@[simp] theorem Chip.goTo_modes_prev (c : Chip) (m : Nat) (r : Reason) : (c.goTo m r).modes.prev = c.modes.prev := Chip.calm_modes_prev (Chip.calm_goTo c m r)
@[simp] theorem Chip.goTo_modes_reason (c : Chip) (m : Nat) (r : Reason) : (c.goTo m r).modes.reason = c.modes.reason := Chip.calm_modes_reason (Chip.calm_goTo c m r)
@[simp] theorem Chip.goTo_modes_thermalHold (c : Chip) (m : Nat) (r : Reason) : (c.goTo m r).modes.thermalHold = c.modes.thermalHold := Chip.calm_modes_thermalHold (Chip.calm_goTo c m r)
@[simp] theorem Chip.goTo_modes_batHold (c : Chip) (m : Nat) (r : Reason) : (c.goTo m r).modes.batHold = c.modes.batHold := Chip.calm_modes_batHold (Chip.calm_goTo c m r)
@[simp] theorem Chip.goTo_modes_before (c : Chip) (m : Nat) (r : Reason) : (c.goTo m r).modes.before = c.modes.before := Chip.calm_modes_before (Chip.calm_goTo c m r)

@[simp] theorem Chip.settle_regs (c : Chip) : (c.settle).regs = c.regs := Chip.calm_regs (Chip.calm_settle c)
@[simp] theorem Chip.settle_run (c : Chip) : (c.settle).run = c.run := Chip.calm_run (Chip.calm_settle c)
@[simp] theorem Chip.settle_lands (c : Chip) : (c.settle).lands = c.lands := Chip.calm_lands (Chip.calm_settle c)
@[simp] theorem Chip.settle_power (c : Chip) : (c.settle).power = c.power := Chip.calm_power (Chip.calm_settle c)
@[simp] theorem Chip.settle_tb (c : Chip) : (c.settle).tb = c.tb := Chip.calm_tb (Chip.calm_settle c)
@[simp] theorem Chip.settle_keeper (c : Chip) : (c.settle).keeper = c.keeper := Chip.calm_keeper (Chip.calm_settle c)
@[simp] theorem Chip.settle_mram (c : Chip) : (c.settle).mram = c.mram := Chip.calm_mram (Chip.calm_settle c)
@[simp] theorem Chip.settle_start (c : Chip) : (c.settle).start = c.start := Chip.calm_start (Chip.calm_settle c)
@[simp] theorem Chip.settle_rules (c : Chip) : (c.settle).rules = c.rules := Chip.calm_rules (Chip.calm_settle c)
@[simp] theorem Chip.settle_seqs (c : Chip) : (c.settle).seqs = c.seqs := Chip.calm_seqs (Chip.calm_settle c)
@[simp] theorem Chip.settle_runSig (c : Chip) : (c.settle).runSig = c.runSig := Chip.calm_runSig (Chip.calm_settle c)
@[simp] theorem Chip.settle_fin (c : Chip) : (c.settle).fin = c.fin := Chip.calm_fin (Chip.calm_settle c)
@[simp] theorem Chip.settle_chains (c : Chip) : (c.settle).chains = c.chains := Chip.calm_chains (Chip.calm_settle c)
@[simp] theorem Chip.settle_burnish (c : Chip) : (c.settle).burnish = c.burnish := Chip.calm_burnish (Chip.calm_settle c)
@[simp] theorem Chip.settle_exc (c : Chip) : (c.settle).exc = c.exc := Chip.calm_exc (Chip.calm_settle c)
@[simp] theorem Chip.settle_mon (c : Chip) : (c.settle).mon = c.mon := Chip.calm_mon (Chip.calm_settle c)
@[simp] theorem Chip.settle_yard (c : Chip) : (c.settle).yard = c.yard := Chip.calm_yard (Chip.calm_settle c)
@[simp] theorem Chip.settle_host (c : Chip) : (c.settle).host = c.host := Chip.calm_host (Chip.calm_settle c)
@[simp] theorem Chip.settle_mem (c : Chip) : (c.settle).mem = c.mem := Chip.calm_mem (Chip.calm_settle c)
@[simp] theorem Chip.settle_upd (c : Chip) : (c.settle).upd = c.upd := Chip.calm_upd (Chip.calm_settle c)
@[simp] theorem Chip.settle_therm (c : Chip) : (c.settle).therm = c.therm := Chip.calm_therm (Chip.calm_settle c)
@[simp] theorem Chip.settle_modes_mode (c : Chip) : (c.settle).modes.mode = c.modes.mode := Chip.calm_modes_mode (Chip.calm_settle c)
@[simp] theorem Chip.settle_modes_prev (c : Chip) : (c.settle).modes.prev = c.modes.prev := Chip.calm_modes_prev (Chip.calm_settle c)
@[simp] theorem Chip.settle_modes_reason (c : Chip) : (c.settle).modes.reason = c.modes.reason := Chip.calm_modes_reason (Chip.calm_settle c)
@[simp] theorem Chip.settle_modes_thermalHold (c : Chip) : (c.settle).modes.thermalHold = c.modes.thermalHold := Chip.calm_modes_thermalHold (Chip.calm_settle c)
@[simp] theorem Chip.settle_modes_batHold (c : Chip) : (c.settle).modes.batHold = c.modes.batHold := Chip.calm_modes_batHold (Chip.calm_settle c)
@[simp] theorem Chip.settle_modes_before (c : Chip) : (c.settle).modes.before = c.modes.before := Chip.calm_modes_before (Chip.calm_settle c)

@[simp] theorem Chip.settleOver_regs (c : Chip) : (c.settleOver).regs = c.regs := Chip.calm_regs (Chip.calm_settleOver c)
@[simp] theorem Chip.settleOver_run (c : Chip) : (c.settleOver).run = c.run := Chip.calm_run (Chip.calm_settleOver c)
@[simp] theorem Chip.settleOver_lands (c : Chip) : (c.settleOver).lands = c.lands := Chip.calm_lands (Chip.calm_settleOver c)
@[simp] theorem Chip.settleOver_power (c : Chip) : (c.settleOver).power = c.power := Chip.calm_power (Chip.calm_settleOver c)
@[simp] theorem Chip.settleOver_tb (c : Chip) : (c.settleOver).tb = c.tb := Chip.calm_tb (Chip.calm_settleOver c)
@[simp] theorem Chip.settleOver_keeper (c : Chip) : (c.settleOver).keeper = c.keeper := Chip.calm_keeper (Chip.calm_settleOver c)
@[simp] theorem Chip.settleOver_mram (c : Chip) : (c.settleOver).mram = c.mram := Chip.calm_mram (Chip.calm_settleOver c)
@[simp] theorem Chip.settleOver_start (c : Chip) : (c.settleOver).start = c.start := Chip.calm_start (Chip.calm_settleOver c)
@[simp] theorem Chip.settleOver_rules (c : Chip) : (c.settleOver).rules = c.rules := Chip.calm_rules (Chip.calm_settleOver c)
@[simp] theorem Chip.settleOver_seqs (c : Chip) : (c.settleOver).seqs = c.seqs := Chip.calm_seqs (Chip.calm_settleOver c)
@[simp] theorem Chip.settleOver_runSig (c : Chip) : (c.settleOver).runSig = c.runSig := Chip.calm_runSig (Chip.calm_settleOver c)
@[simp] theorem Chip.settleOver_fin (c : Chip) : (c.settleOver).fin = c.fin := Chip.calm_fin (Chip.calm_settleOver c)
@[simp] theorem Chip.settleOver_chains (c : Chip) : (c.settleOver).chains = c.chains := Chip.calm_chains (Chip.calm_settleOver c)
@[simp] theorem Chip.settleOver_burnish (c : Chip) : (c.settleOver).burnish = c.burnish := Chip.calm_burnish (Chip.calm_settleOver c)
@[simp] theorem Chip.settleOver_exc (c : Chip) : (c.settleOver).exc = c.exc := Chip.calm_exc (Chip.calm_settleOver c)
@[simp] theorem Chip.settleOver_mon (c : Chip) : (c.settleOver).mon = c.mon := Chip.calm_mon (Chip.calm_settleOver c)
@[simp] theorem Chip.settleOver_yard (c : Chip) : (c.settleOver).yard = c.yard := Chip.calm_yard (Chip.calm_settleOver c)
@[simp] theorem Chip.settleOver_host (c : Chip) : (c.settleOver).host = c.host := Chip.calm_host (Chip.calm_settleOver c)
@[simp] theorem Chip.settleOver_mem (c : Chip) : (c.settleOver).mem = c.mem := Chip.calm_mem (Chip.calm_settleOver c)
@[simp] theorem Chip.settleOver_upd (c : Chip) : (c.settleOver).upd = c.upd := Chip.calm_upd (Chip.calm_settleOver c)
@[simp] theorem Chip.settleOver_therm (c : Chip) : (c.settleOver).therm = c.therm := Chip.calm_therm (Chip.calm_settleOver c)
@[simp] theorem Chip.settleOver_modes_mode (c : Chip) : (c.settleOver).modes.mode = c.modes.mode := Chip.calm_modes_mode (Chip.calm_settleOver c)
@[simp] theorem Chip.settleOver_modes_prev (c : Chip) : (c.settleOver).modes.prev = c.modes.prev := Chip.calm_modes_prev (Chip.calm_settleOver c)
@[simp] theorem Chip.settleOver_modes_reason (c : Chip) : (c.settleOver).modes.reason = c.modes.reason := Chip.calm_modes_reason (Chip.calm_settleOver c)
@[simp] theorem Chip.settleOver_modes_thermalHold (c : Chip) : (c.settleOver).modes.thermalHold = c.modes.thermalHold := Chip.calm_modes_thermalHold (Chip.calm_settleOver c)
@[simp] theorem Chip.settleOver_modes_batHold (c : Chip) : (c.settleOver).modes.batHold = c.modes.batHold := Chip.calm_modes_batHold (Chip.calm_settleOver c)
@[simp] theorem Chip.settleOver_modes_before (c : Chip) : (c.settleOver).modes.before = c.modes.before := Chip.calm_modes_before (Chip.calm_settleOver c)

/-! ### A SILENT lane stays SILENT (R42) -/

theorem wakeFor_silent (m l : Nat) (ls : List LaneState) (hl : l < 4) (h : ls.getD l .parked = .silent) :
    (wakeFor m ls).getD l .parked = .silent := by
  have e : (wakeFor m ls)[l]? = some (if (modeLanes m).getD l false ∧ ls.getD l .parked = .parked then LaneState.waking else ls.getD l .parked) := by
    unfold wakeFor
    rw [List.getElem?_map, List.getElem?_range hl]
    rfl
  rw [List.getD_eq_getElem?_getD, e, h]
  simp

theorem Chip.silent_goTo (c : Chip) (m l : Nat) (r : Reason) (hl : l < 4) (h : c.lane l = .silent) : (c.goTo m r).lane l = .silent := by
  have hw (k : Nat) := wakeFor_silent k l c.girth.lanes hl h
  unfold Chip.goTo Chip.beginTransition
  repeat' split
  all_goals first
    | exact h
    | exact hw _

theorem Chip.silent_wantBurst (c : Chip) (l : Nat) (r : Reason) (hl : l < 4) (h : c.lane l = .silent) : (c.wantBurst r).lane l = .silent := by
  unfold Chip.wantBurst
  dsimp only
  repeat' split
  all_goals first
    | exact Chip.silent_goTo _ _ _ _ hl h
    | exact h

theorem Chip.silent_requestFix (c : Chip) (a b l : Nat) (r : Reason) (hl : l < 4) (h : c.lane l = .silent) :
    (c.requestFix a b r).1.lane l = .silent := by
  unfold Chip.requestFix Chip.fixInMode
  dsimp only
  repeat' split
  all_goals first
    | exact h
    | exact Chip.silent_goTo _ _ _ _ hl h

theorem Chip.silent_decideMode (c : Chip) (q l : Nat) (r : Reason) (hl : l < 4) (h : c.lane l = .silent) :
    (c.decideMode q r).1.lane l = .silent := by
  have hf := Chip.silent_requestFix c 0 0 l r hl h
  unfold Chip.decideMode
  repeat' split
  all_goals first
    | exact h
    | exact Chip.silent_goTo _ _ _ _ hl h
    | exact Chip.silent_wantBurst _ _ _ hl h
    | simp_all only

theorem Chip.lane_produce (c : Chip) (a n l : Nat) (e : Entry) : (c.produce a n e).lane l = c.lane l := by
  unfold Chip.lane; rw [Chip.produce_girth]

theorem Chip.silent_ruleMode (c : Chip) (q k i l : Nat) (hl : l < 4) (h : c.lane l = .silent) : (c.ruleMode q k i).lane l = .silent := by
  have hd := Chip.silent_decideMode c q l .rule hl h
  unfold Chip.ruleMode Chip.ruleModeRefused Chip.event Chip.post2 Chip.post3
  dsimp only
  repeat' split
  · exact h
  · exact hd
  · exact hd
  · rw [Chip.lane_produce, Chip.lane_produce]; exact hd

theorem Chip.silent_settleQueue (c : Chip) (l : Nat) (hl : l < 4) (h : c.lane l = .silent) : c.settleQueue.lane l = .silent := by
  have hd (c : Chip) (q : Nat) (h : c.lane l = .silent) := Chip.silent_decideMode c q l .host hl h
  have hr (c : Chip) (q k i : Nat) (h : c.lane l = .silent) := Chip.silent_ruleMode c q k i l hl h
  unfold Chip.settleQueue
  dsimp only
  repeat' split
  all_goals first
    | exact h
    | exact hd _ _ h
    | exact hr _ _ _ _ h
    | exact hr _ _ _ _ (hd _ _ h)

theorem Chip.silent_settle (c : Chip) (l : Nat) (hl : l < 4) (h : c.lane l = .silent) : c.settle.lane l = .silent := by
  have hq := Chip.silent_settleQueue c l hl h
  unfold Chip.settle
  dsimp only
  repeat' split
  all_goals first
    | exact h
    | exact hq
    | exact Chip.silent_goTo _ _ _ _ hl h
    | exact Chip.silent_goTo _ _ _ _ hl hq

theorem Chip.silent_settleOver (c : Chip) (l : Nat) (hl : l < 4) (h : c.lane l = .silent) : c.settleOver.lane l = .silent := by
  unfold Chip.settleOver
  repeat' split
  all_goals first
    | exact h
    | exact Chip.silent_settle _ _ hl h

end Sys2Proof.Machine
end

