-- ==== Sys2Proof/Laws/Rings.lean ====
section
/-! SUPPORT. Producing into a ring reaches that ring and ring 0, whose events it may raise, and no other. -/

namespace Sys2Proof.Machine

theorem Chip.ring_of {c d : Chip} {n : Nat} (h : c.rings = d.rings) : c.ring n = d.ring n := by unfold Chip.ring; rw [h]

theorem Chip.ring_upRing (c : Chip) (n k : Nat) (f : Ring → Ring) :
    (c.upRing n f).ring k = if n = k ∧ k < c.rings.rings.length then f (c.ring k) else c.ring k := by
  unfold Chip.upRing Chip.ring
  simp only [List.getD, List.getElem?_modify]
  by_cases h : n = k <;> by_cases l : k < c.rings.rings.length <;> simp [h, l]

theorem Chip.ring_upRing_ne (c : Chip) (n k : Nat) (f : Ring → Ring) (h : n ≠ k) : (c.upRing n f).ring k = c.ring k := by
  rw [Chip.ring_upRing, if_neg (fun x => h x.1)]

theorem Chip.ring_upRing_self (c : Chip) (n : Nat) (f : Ring → Ring) (h : n < c.rings.rings.length) : (c.upRing n f).ring n = f (c.ring n) := by
  rw [Chip.ring_upRing, if_pos ⟨rfl, h⟩]

/-- A ring that differs from the empty one is among those of the block. -/
theorem Chip.ring_lt (c : Chip) (n : Nat) (h : c.ring n ≠ {}) : n < c.rings.rings.length := by
  by_contra k
  exact h (by unfold Chip.ring; simp [List.getD, List.getElem?_eq_none (Nat.not_lt.1 k)])

@[simp] theorem Chip.ring_answer (c : Chip) (a : Answer) (n : Nat) : (c.answer a).ring n = c.ring n := rfl
@[simp] theorem Chip.ring_putEntry (c : Chip) (s : Nat) (e : Entry) (n : Nat) : (c.putEntry s e).ring n = c.ring n := rfl
@[simp] theorem Chip.len_upRing (c : Chip) (n : Nat) (f : Ring → Ring) : (c.upRing n f).rings.rings.length = c.rings.rings.length := by
  unfold Chip.upRing; simp

theorem Chip.ring_pushEntry (c : Chip) (n k : Nat) (e : Entry) :
    (c.pushEntry n e).ring k = if n = k ∧ k < c.rings.rings.length then (c.ring k).pushed else c.ring k := by
  unfold Chip.pushEntry
  dsimp only
  have h := Chip.ring_upRing (c.putEntry ((c.ring n).slot (c.ring n).head) (c.stamp n e)) n k Ring.pushed
  split
  · exact h
  · exact h

theorem Chip.produceRaw_ring_ne (c : Chip) (a n k : Nat) (e : Entry) (h : n ≠ k) : (c.produceRaw a n e).1.ring k = c.ring k := by
  unfold Chip.produceRaw
  dsimp only
  repeat' split
  all_goals simp only [Chip.ring_answer, Chip.ring_pushEntry, h, false_and, if_false, Chip.ring_upRing_ne c n k _ h]

theorem Chip.observe1_ring (c : Chip) (a k : Nat) (g : RingSys → Observer) (p : RingSys → Observer → RingSys) (hp : ∀ r o, (p r o).rings = r.rings)
    (h : k ≠ 0) : (c.observe1 a g p).ring k = c.ring k := by
  unfold Chip.observe1
  dsimp only
  have e : ∀ o : Observer, Chip.ring { c with rings := p c.rings o } k = c.ring k := by
    intro o; unfold Chip.ring; dsimp only; rw [hp]
  repeat' split
  · rfl
  · exact e _
  · rw [Chip.produceRaw_ring_ne _ _ _ _ _ (Ne.symm h)]; exact e _

theorem Chip.observe_ring (c : Chip) (k : Nat) (h : k ≠ 0) : c.observe.ring k = c.ring k := by
  have o : ∀ c : Chip, c.observeAll.ring k = c.ring k := by
    intro c
    unfold Chip.observeAll
    exact (Chip.observe1_ring _ _ _ _ _ (by intros; rfl) h).trans ((Chip.observe1_ring _ _ _ _ _ (by intros; rfl) h).trans
      (Chip.observe1_ring _ _ _ _ _ (by intros; rfl) h))
  unfold Chip.observe
  rw [o, o, o, o]

/-- What a produce does to a ring other than ring 0, the request alone does. -/
theorem Chip.produce_ring (c : Chip) (a n k : Nat) (e : Entry) (h : k ≠ 0) : (c.produce a n e).ring k = (c.produceRaw a n e).1.ring k := by
  unfold Chip.produce
  dsimp only
  rw [Chip.ring_answer, Chip.observe_ring _ _ h]
  split
  · exact Chip.produceRaw_ring_ne _ _ _ _ _ (Ne.symm h)
  · rfl

/-- A produce leaves every ring but its own and ring 0 as it is. -/
theorem Chip.produce_ring_ne (c : Chip) (a n k : Nat) (e : Entry) (h : k ≠ 0) (hn : n ≠ k) : (c.produce a n e).ring k = c.ring k := by
  rw [Chip.produce_ring _ _ _ _ _ h, Chip.produceRaw_ring_ne _ _ _ _ _ hn]

@[simp] theorem Chip.answer_answer (c : Chip) (a : Answer) : (c.answer a).rings.answer = a := rfl

/-- The answer to the producer is that of its own request. -/
theorem Chip.produce_answer (c : Chip) (a n : Nat) (e : Entry) : (c.produce a n e).rings.answer = (c.produceRaw a n e).1.rings.answer := by
  unfold Chip.produce
  exact Chip.answer_answer _ _

end Sys2Proof.Machine
end

