-- ==== Sys2Proof/Laws/Exec.lean ====
section
/-! SUPPORT. What a command answers, from what its meaning does to the block: the three ways a meaning runs (always, with core supply and out of
SHIP, and as a host write). -/

namespace Sys2Proof.Machine

theorem Gives.power {i : Instr} {s : State} {f : Chip → Chip} {P : Chip → Prop} (e : exec i s = s.runPower f)
    (hp : P ((f s.chip).follow s.chip)) : Gives i s P := ⟨_, e, rfl, hp⟩

theorem Gives.run {i : Instr} {s : State} {f : Chip → Chip} {P : Chip → Prop} (e : exec i s = s.run f) (h : s.chip.awake = true)
    (hp : P ((f s.chip).follow s.chip)) : Gives i s P := by
  refine Gives.power e ?_
  simp only [h, if_true]; exact hp

theorem Gives.host {i : Instr} {s : State} {f : Chip → Chip} {P : Chip → Prop} (e : exec i s = s.runHost f) (h : s.chip.awake = true)
    (ho : s.chip.hostOpen = true) (hp : P ((f s.chip).follow s.chip)) : Gives i s P := by
  refine Gives.run e h ?_
  simp only [ho, if_true]; exact hp

theorem Chip.follow_lane (c w : Chip) (l : Nat) : (c.follow w).lane l = c.lane l := rfl

end Sys2Proof.Machine
end

