-- ==== Sys2Proof/Laws/Follow.lean ====
section
/-! SUPPORT. Small facts that many statements share: reads of a register the block keeps, a bit put into a register, held and applied register sets, a keeper event, and what follows a command. -/

namespace Sys2Proof.Machine

theorem rf_of_reg {c d : Chip} {a hi lo : Nat} (h : c.reg a = d.reg a) : c.rf a hi lo = d.rf a hi lo := by unfold Chip.rf; rw [h]
theorem shadow_of_reg {c d : Chip} {a n : Nat} (h : ∀ i, i < n → c.reg (a + i) = d.reg (a + i)) : c.shadow a n = d.shadow a n := by
  unfold Chip.shadow; exact List.map_congr_left (fun i hi => by rw [h i (List.mem_range.1 hi)])
theorem reg_of_regs {c d : Chip} (h : c.regs = d.regs) (a : Nat) : c.reg a = d.reg a := by unfold Chip.reg; rw [h]
theorem runW_of_run {c d : Chip} (h : c.run = d.run) (a : Nat) : c.runW a = d.runW a := by unfold Chip.runW; rw [h]
theorem applyWords_run (ws : List (Nat × Word)) (c d : Chip) (h : c.run = d.run) : (c.applyWords ws).run = (d.applyWords ws).run := by
  unfold Chip.applyWords
  induction ws generalizing c d with
  | nil => exact h
  | cons p t ih => simp only [List.foldl_cons]; apply ih; unfold Chip.setRun; rw [h]
theorem keeperEvent_any (c : Chip) (k o d a : Nat) : (c.keeperEvent k o d a).keeper.pending.any (fun p => p.source == k) = true := by
  unfold Chip.keeperEvent
  split
  · assumption
  · simp
theorem keeperEvent_regs (c : Chip) (k o d a : Nat) : (c.keeperEvent k o d a).regs = c.regs := by
  unfold Chip.keeperEvent; split <;> rfl
theorem follow_reg (c w : Chip) (a : Nat) : (c.follow w).reg a = c.reg a := rfl
theorem leaveHold_modes (c : Chip) (t : Bool) : (c.leaveHold t).modes.batHold = (c.modes.batHold && t) ∧
    (c.leaveHold t).modes.thermalHold = (c.modes.thermalHold && !t) := by
  unfold Chip.leaveHold; dsimp only; repeat' split
  all_goals (try simp only [Chip.settle_modes_batHold, Chip.settle_modes_thermalHold, Chip.goTo_modes_batHold, Chip.goTo_modes_thermalHold, Chip.upModes_modes])
  all_goals cases t <;> simp_all
theorem rf_setFld_self (c : Chip) (a hi lo v : Nat) (h1 : lo ≤ hi) (h2 : hi < 32) (hv : v < 2 ^ (hi - lo + 1)) : (c.setFld a hi lo v).rf a hi lo = v := by
  unfold Chip.rf
  rw [Chip.reg_setFld, if_pos rfl, fld_putFld _ _ _ _ h1 h2]
  exact Nat.mod_eq_of_lt hv
theorem fld_or_bit (r : Word) (k : Nat) (hk : k < 32) : fld (r ||| wd (2 ^ k)) k k = 1 := by
  unfold fld wd
  rw [BitVec.toNat_or, BitVec.toNat_ofNat, Nat.mod_eq_of_lt (Nat.pow_lt_pow_right (by decide) hk), Nat.sub_self]
  apply Nat.eq_of_testBit_eq
  intro i
  simp only [Nat.zero_add, Nat.testBit_mod_two_pow, Nat.testBit_div_two_pow, Nat.testBit_or, Nat.testBit_two_pow]
  cases i with
  | zero => simp
  | succ i => simp [Nat.testBit_succ]
theorem rf_setBits_bit (c : Chip) (a k : Nat) (hk : k < 32) : (c.setBits a (2 ^ k)).rf a k k = 1 := by
  unfold Chip.rf Chip.setBits
  rw [Chip.reg_setReg, if_pos rfl]
  exact fld_or_bit _ _ hk
theorem armedSet_holdSet (c : Chip) (arm : Nat) (ws : List (Nat × Word)) : (c.holdSet arm ws).armedSet arm = some { arm := arm, words := ws } := by
  unfold Chip.holdSet Chip.armedSet
  dsimp only
  rw [List.find?_append]
  have : (c.girth.armed.filter (fun a => a.arm != arm)).find? (fun a => a.arm == arm) = none := by
    rw [List.find?_eq_none]; intro x hx; simp at hx; simp [hx.2]
  rw [this]; simp
theorem not_silent {c : Chip} {l : Nat} (h : c.live l = true) : c.silent l = false := by
  unfold Chip.live at h; unfold Chip.silent; simp at h ⊢; rw [h]; decide
theorem unit_bad (c : Chip) (l arm a hi lo res : Nat) (ws : List (Nat × Word)) (r : Bool) (ap : Chip → List (Nat × Word) → Chip) (h : c.silent l = false) (hr : res ≠ 0) :
    c.unitArm l arm (some (a, hi, lo)) res ws r ap = (c.armLast arm res).setFld a hi lo res := by
  unfold Chip.unitArm; rw [if_neg (by simp [h])]; dsimp only; rw [if_pos hr]
theorem unit_wait (c : Chip) (l arm a hi lo res : Nat) (ws : List (Nat × Word)) (r : Bool) (ap : Chip → List (Nat × Word) → Chip) (h : c.silent l = false) (hr : res = 0) (hw : (c.live l && r) = false) :
    c.unitArm l arm (some (a, hi, lo)) res ws r ap = ((c.armLast arm res).setFld a hi lo res).holdSet arm ws := by
  unfold Chip.unitArm; rw [if_neg (by simp [h])]; dsimp only; rw [if_neg (by simp [hr])]
  have : ((((c.armLast arm res).setFld a hi lo res).live l) && r) = false := hw
  rw [this]; rfl
theorem unit_apply (c : Chip) (l arm a hi lo res : Nat) (ws : List (Nat × Word)) (ap : Chip → List (Nat × Word) → Chip) (h : c.live l = true) (hr : res = 0) :
    c.unitArm l arm (some (a, hi, lo)) res ws true ap = ap (((c.armLast arm res).setFld a hi lo res).dropArmed arm) ws := by
  unfold Chip.unitArm; rw [if_neg (by simp [not_silent h])]; dsimp only; rw [if_neg (by simp [hr])]
  have : ((((c.armLast arm res).setFld a hi lo res).live l) && true) = true := by rw [Bool.and_true]; exact h
  rw [this]; rfl
theorem unit_apply0 (c : Chip) (l arm res : Nat) (ws : List (Nat × Word)) (ap : Chip → List (Nat × Word) → Chip) (h : c.live l = true) (hr : res = 0) :
    c.unitArm l arm none res ws true ap = ap ((c.armLast arm res).dropArmed arm) ws := by
  unfold Chip.unitArm; rw [if_neg (by simp [not_silent h])]; dsimp only; rw [if_neg (by simp [hr])]
  have : (((c.armLast arm res).live l) && true) = true := by rw [Bool.and_true]; exact h
  rw [this]; rfl
theorem Chip.follow_gsamp (c w : Chip) : (c.follow w).girth.gsamp = c.girth.gsamp.follow (c.gnssGate && c.live 1) := rfl
theorem Chip.follow_rsamp (c w : Chip) : (c.follow w).girth.rsamp = c.girth.rsamp.follow (c.radioGate && c.live 1) := rfl

end Sys2Proof.Machine
end

