-- ==== Sys2Proof/Laws/Kept.lean ====
section
/-! SUPPORT. The silent lanes, the refusal flags and the sample lanes, kept by everything the mode controller, the radio and the fix do. -/

namespace Sys2Proof.Machine

theorem excAll_girth (c : Chip) : c.excAll.girth = c.girth := Chip.excAll_girth c
theorem frontSettle_girth (c : Chip) : c.frontSettle.girth = c.girth := Chip.frontSettle_girth c
theorem burnishEnd_girth (c : Chip) (a b d : Nat) : (c.burnishEnd a b d).girth = c.girth := Chip.burnishEnd_girth c a b d
theorem abortTx_girth (c : Chip) (r : Nat) : (c.abortTx r).girth = c.girth := by
  unfold Chip.abortTx Chip.txStatus; dsimp only; split
  · rfl
  · simp only [Chip.upRadio_girth, Chip.setBits_girth, Chip.produce_girth]
theorem preemptRx_girth (c : Chip) : c.preemptRx.girth = c.girth := by
  unfold Chip.preemptRx Chip.rxStatus; dsimp only; split
  · simp only [Chip.upRadio_girth, Chip.produce_girth]
  · rfl
theorem abortRadio_girth (c : Chip) (r : Nat) : (c.abortRadio r).girth = c.girth := by
  unfold Chip.abortRadio; simp only [Chip.upRadio_girth, preemptRx_girth, abortTx_girth]
theorem tpHold_girth (c : Chip) : c.tpHold.girth = c.girth := by unfold Chip.tpHold; split <;> rfl
theorem loseTracking_girth (c : Chip) : c.loseTracking.girth = c.girth := by
  unfold Chip.loseTracking; split
  · rw [tpHold_girth]; rfl
  · rfl
theorem recordCause_girth (c : Chip) (k : Nat) (b : Bool) : (c.recordCause k b).girth = c.girth := by
  unfold Chip.recordCause; dsimp only; split <;> rfl
theorem recordCause_start_phase (c : Chip) (k : Nat) (b : Bool) : (c.recordCause k b).start.phase = c.start.phase := by
  unfold Chip.recordCause; dsimp only; split <;> rfl

/-- Between two blocks a SILENT lane stayed SILENT and the refusal flags and sample lanes did not change. -/
def Kept (c d : Chip) : Prop := (∀ l, l < 4 → c.lane l = .silent → d.lane l = .silent) ∧
  d.girth.convRefused = c.girth.convRefused ∧ d.girth.radioRefused = c.girth.radioRefused ∧ d.girth.fieldRefused = c.girth.fieldRefused ∧
  d.girth.gsamp = c.girth.gsamp ∧ d.girth.rsamp = c.girth.rsamp
theorem Kept.refl (c : Chip) : Kept c c := ⟨fun _ _ h => h, rfl, rfl, rfl, rfl, rfl⟩
theorem Kept.of_eq {c d : Chip} (h : d.girth = c.girth) : Kept c d := by
  refine ⟨fun l _ hl => ?_, ?_, ?_, ?_, ?_, ?_⟩ <;> first | (unfold Chip.lane at *; rw [h]; exact hl) | rw [h]
theorem Kept.trans {a b c : Chip} (h : Kept a b) (k : Kept b c) : Kept a c :=
  ⟨fun l hl x => k.1 l hl (h.1 l hl x), k.2.1.trans h.2.1, k.2.2.1.trans h.2.2.1, k.2.2.2.1.trans h.2.2.2.1, k.2.2.2.2.1.trans h.2.2.2.2.1, k.2.2.2.2.2.trans h.2.2.2.2.2⟩
theorem Kept.calm {c d : Chip} (h : d.calm = c.calm) (s : ∀ l, l < 4 → c.lane l = .silent → d.lane l = .silent) : Kept c d := by
  have g := Chip.calm_girth h
  exact ⟨s, (congrArg Girth.convRefused g :), (congrArg Girth.radioRefused g :), (congrArg Girth.fieldRefused g :), (congrArg Girth.gsamp g :), (congrArg Girth.rsamp g :)⟩
theorem kept_settleOver (c : Chip) : Kept c c.settleOver := Kept.calm (Chip.calm_settleOver c) (fun l hl h => Chip.silent_settleOver c l hl h)
theorem kept_settle (c : Chip) : Kept c c.settle := Kept.calm (Chip.calm_settle c) (fun l hl h => Chip.silent_settle c l hl h)
theorem kept_goTo (c : Chip) (m : Nat) (r : Reason) : Kept c (c.goTo m r) := Kept.calm (Chip.calm_goTo c m r) (fun l hl h => Chip.silent_goTo c m l r hl h)
theorem kept_leaveFix (c : Chip) : Kept c c.leaveFix := by
  unfold Chip.leaveFix Chip.idleCheck
  repeat' split
  all_goals first | exact kept_goTo _ _ _ | exact Kept.refl _
theorem kept_elim (c : Chip) (o : Option ArmedSet) (arm : Nat) : Kept c (o.elim c (fun a => (c.applyWords a.words).dropArmed arm)) := by
  cases o with
  | none => exact Kept.refl _
  | some a =>
    have : ∀ (ws : List (Nat × Word)) (c : Chip), (c.applyWords ws).girth = c.girth := by
      intro ws; induction ws with
      | nil => intro c; rfl
      | cons p t ih => intro c; unfold Chip.applyWords at *; rw [List.foldl_cons, ih]; rfl
    refine Kept.trans (Kept.of_eq (this a.words c)) ?_
    exact ⟨fun l hl h => h, rfl, rfl, rfl, rfl, rfl⟩
theorem kept_endFix (c : Chip) (r : Nat) : Kept c (c.endFix r) := by
  unfold Chip.endFix
  dsimp only
  refine Kept.trans ?_ (kept_leaveFix _)
  refine Kept.trans ?_ (kept_elim _ _ _)
  refine Kept.trans ?_ (kept_elim _ _ _)
  apply Kept.of_eq
  simp only [Chip.event, Chip.post2, Chip.produce_girth]
theorem kept_loseFix (c : Chip) (r : Nat) : Kept c (c.loseFix r) := by
  unfold Chip.loseFix Chip.failFix
  dsimp only
  repeat' split
  · exact Kept.refl _
  · exact Kept.refl _
  · refine Kept.trans (Kept.of_eq ?_) (kept_endFix _ _)
    rw [tpHold_girth]; rfl
  · exact kept_endFix _ _

end Sys2Proof.Machine
end

