-- ==== Sys2Proof/Laws/Reads.lean ====
section
/-! SUPPORT. Reading one byte of a sparse memory after a write of many, a read of many as reads of one, and one ring after another ring changes. -/

namespace Sys2Proof.Machine

theorem mget_notin (d : Byte) (m : List Host.Cell) (x : Nat) (h : ∀ p ∈ m, p.1 ≠ x) : mget d m x = d := by
  induction m with
  | nil => rfl
  | cons p m ih =>
    obtain ⟨k, v⟩ := p
    simp only [mget]
    rw [if_neg (fun e => h (k, v) (List.mem_cons_self ..) e.symm)]
    exact ih (fun p hp => h p (List.mem_cons_of_mem _ hp))
theorem mget_append_right (d : Byte) (l m : List Host.Cell) (x : Nat) (h : ∀ p ∈ l, p.1 ≠ x) : mget d (l ++ m) x = mget d m x := by
  induction l with
  | nil => rfl
  | cons p l ih =>
    obtain ⟨k, v⟩ := p
    rw [List.cons_append]
    simp only [mget]
    rw [if_neg (fun e => h (k, v) (List.mem_cons_self ..) e.symm)]
    exact ih (fun p hp => h p (List.mem_cons_of_mem _ hp))
theorem mget_append_left (d : Byte) (l m : List Host.Cell) (x : Nat) (h : ∀ p ∈ m, p.1 ≠ x) : mget d (l ++ m) x = mget d l x := by
  induction l with
  | nil => exact mget_notin d m x h
  | cons p l ih =>
    obtain ⟨k, v⟩ := p
    rw [List.cons_append]
    simp only [mget]
    rw [ih]
theorem mget_filter (d : Byte) (m : List Host.Cell) (f : Nat → Bool) (x : Nat) : mget d (m.filter (fun p => f p.1)) x = if f x then mget d m x else d := by
  induction m with
  | nil => simp [mget]
  | cons p m ih =>
    obtain ⟨k, v⟩ := p
    by_cases e : x = k
    · subst e
      by_cases g : f x = true
      · simp [g, mget]
      · rw [List.filter_cons, if_neg g, ih, if_neg g, if_neg g]
    · by_cases g : f k = true
      · rw [List.filter_cons, if_pos g]; simp only [mget]; rw [if_neg e, if_neg e, ih]
      · rw [List.filter_cons, if_neg g, ih]; simp only [mget]; rw [if_neg e]
theorem cells_keys (d : Byte) (bs : List Byte) : ∀ (a : Nat) (p : Host.Cell), p ∈ cellsOf d a bs → a ≤ p.1 ∧ p.1 < a + bs.length := by
  induction bs with
  | nil => intro a p h; simp [cellsOf] at h
  | cons b bs ih =>
    intro a p h
    unfold cellsOf at h
    rw [List.length_cons]
    split at h
    · have := ih (a + 1) p h; omega
    · rcases List.mem_cons.1 h with rfl | h
      · exact ⟨Nat.le_refl _, by show a < _; omega⟩
      · have := ih (a + 1) p h; omega
theorem mget_cells (d : Byte) (bs : List Byte) : ∀ (a x : Nat), mget d (cellsOf d a bs) x = if a ≤ x ∧ x < a + bs.length then bs.getD (x - a) d else d := by
  induction bs with
  | nil => intro a x; simp [cellsOf, mget]
  | cons b bs ih =>
    intro a x
    unfold cellsOf
    rw [List.length_cons]
    by_cases e : x = a
    · subst e
      rw [if_pos (by omega : x ≤ x ∧ x < x + (bs.length + 1)), Nat.sub_self]
      by_cases q : b = d
      · rw [if_pos q, ih, if_neg (by omega)]; exact q.symm
      · rw [if_neg q]; simp [mget]
    · have st : (if b = d then cellsOf d (a + 1) bs else (a, b) :: cellsOf d (a + 1) bs : List Host.Cell) = cellsOf d (a + 1) bs ∨ (if b = d then cellsOf d (a + 1) bs else (a, b) :: cellsOf d (a + 1) bs : List Host.Cell) = (a, b) :: cellsOf d (a + 1) bs := by split <;> simp
      have : mget d (if b = d then cellsOf d (a + 1) bs else (a, b) :: cellsOf d (a + 1) bs) x = mget d (cellsOf d (a + 1) bs) x := by
        rcases st with s | s <;> rw [s]
        simp only [mget]; rw [if_neg e]
      rw [this, ih]
      by_cases h : a ≤ x ∧ x < a + (bs.length + 1)
      · rw [if_pos h, if_pos (by omega), show x - a = (x - (a + 1)) + 1 by omega]; rfl
      · rw [if_neg h, if_neg (by omega)]
theorem mget_memWrite (d : Byte) (m : List Host.Cell) (a : Nat) (bs : List Byte) (x : Nat) :
    mget d (memWrite d m a bs) x = if a ≤ x ∧ x < a + bs.length then bs.getD (x - a) d else mget d m x := by
  unfold memWrite
  have k1 : ∀ p ∈ m.filter (fun p => decide (p.1 < a)), p.1 < a := fun p h => by simpa using (List.mem_filter.1 h).2
  have k2 : ∀ p ∈ m.filter (fun p => decide (a + bs.length ≤ p.1)), a + bs.length ≤ p.1 := fun p h => by simpa using (List.mem_filter.1 h).2
  have k3 := cells_keys d bs a
  by_cases h : a ≤ x ∧ x < a + bs.length
  · rw [mget_append_left d _ _ _ (fun p hp => by have := k2 p hp; omega), mget_append_right d _ _ _ (fun p hp => by have := k1 p hp; omega), mget_cells, if_pos h, if_pos h]
  · rw [if_neg h]
    by_cases g : x < a
    · rw [List.append_assoc, mget_append_left d _ _ _ (fun p hp => by
        rcases List.mem_append.1 hp with hp | hp
        · have := k3 p hp; omega
        · have := k2 p hp; omega), mget_filter d m (fun k => decide (k < a)), if_pos (by simpa using g)]
    · rw [mget_append_right d _ _ _ (fun p hp => by
        rcases List.mem_append.1 hp with hp | hp
        · have := k1 p hp; omega
        · have := k3 p hp; omega), mget_filter d m (fun k => decide (a + bs.length ≤ k)), if_pos (by simp; omega)]
theorem mget_drop (d : Byte) (m : List Host.Cell) (a x lo : Nat) (w : mwfAbove d lo m = true) (h : a ≤ x) : mget d (m.dropWhile (fun p => decide (p.1 < a))) x = mget d m x := by
  induction m generalizing lo with
  | nil => rfl
  | cons p m ih =>
    obtain ⟨k, v⟩ := p
    simp only [mwfAbove, Bool.and_eq_true, decide_eq_true_eq] at w
    rw [List.dropWhile_cons]
    split
    · rename_i g
      rw [ih (k + 1) w.2]; simp only [mget]; rw [if_neg (by simp at g; omega)]
    · rfl
theorem mwf_drop (d : Byte) (m : List Host.Cell) (a lo : Nat) (w : mwfAbove d lo m = true) : mwfAbove d a (m.dropWhile (fun p => decide (p.1 < a))) = true := by
  induction m generalizing lo with
  | nil => rfl
  | cons p m ih =>
    obtain ⟨k, v⟩ := p
    simp only [mwfAbove, Bool.and_eq_true, decide_eq_true_eq] at w
    rw [List.dropWhile_cons]
    split
    · exact ih (k + 1) w.2
    · rename_i g
      simp only [mwfAbove, Bool.and_eq_true, decide_eq_true_eq]
      exact ⟨⟨by simp at g; omega, w.1.2⟩, w.2⟩
theorem memWalk_eq (d : Byte) (n : Nat) : ∀ (m : List Host.Cell) (a : Nat), mwfAbove d a m = true → memWalk d m a n = (List.range n).map (fun i => mget d m (a + i)) := by
  induction n with
  | zero => intro m a _; cases m <;> rfl
  | succ n ih =>
    intro m a w
    rw [List.range_succ_eq_map, List.map_cons, List.map_map]
    cases m with
    | nil =>
      simp only [memWalk]
      rw [ih [] (a + 1) rfl]
      rfl
    | cons p m =>
      obtain ⟨k, v⟩ := p
      have w2 := w
      simp only [mwfAbove, Bool.and_eq_true, decide_eq_true_eq] at w2
      simp only [memWalk]
      by_cases e : k = a
      · subst e
        rw [if_pos rfl, ih m (k + 1) w2.2]
        congr 1
        · simp [mget]
        · apply List.map_congr_left
          intro i _
          show _ = mget d ((k, v) :: m) (k + (i + 1))
          simp only [mget]
          rw [if_neg (by omega)]
          congr 1; omega
      · rw [if_neg e, ih ((k, v) :: m) (a + 1) (by simp only [mwfAbove, Bool.and_eq_true, decide_eq_true_eq]; exact ⟨⟨by omega, w2.1.2⟩, w2.2⟩)]
        congr 1
        · rw [Nat.add_zero]
          rw [mget_notin]
          intro p hp
          rcases List.mem_cons.1 hp with rfl | hp
          · exact e
          · have : ∀ (m : List Host.Cell) (lo : Nat), mwfAbove d lo m = true → ∀ p ∈ m, lo ≤ p.1 := by
              intro m
              induction m with
              | nil => intro lo _ p hp; cases hp
              | cons q m ih =>
                intro lo w p hp
                obtain ⟨k, v⟩ := q
                simp only [mwfAbove, Bool.and_eq_true, decide_eq_true_eq] at w
                rcases List.mem_cons.1 hp with rfl | hp
                · exact w.1.1
                · have := ih (k + 1) w.2 p hp; omega
            have := this m (k + 1) w2.2 p hp
            omega
        · apply List.map_congr_left
          intro i _
          show mget d ((k, v) :: m) (a + 1 + i) = mget d ((k, v) :: m) (a + (i + 1))
          congr 1; omega
theorem memRead_eq (d : Byte) (m : List Host.Cell) (a n : Nat) (w : Memory.wf d m = true) : memRead d m a n = (List.range n).map (fun i => mget d m (a + i)) := by
  unfold memRead
  rw [memWalk_eq d n _ a (mwf_drop d m a 0 w)]
  apply List.map_congr_left
  intro i _
  exact mget_drop d m a (a + i) 0 w (by omega)
theorem memRead_memWrite (d : Byte) (m : List Host.Cell) (a b n : Nat) (bs : List Byte) (w : Memory.wf d m = true) :
    memRead d (memWrite d m a bs) b n = (List.range n).map (fun i => if a ≤ b + i ∧ b + i < a + bs.length then bs.getD (b + i - a) d else mget d m (b + i)) := by
  rw [memRead_eq d _ b n (memWrite_wf d m a bs w)]
  apply List.map_congr_left
  intro i _
  exact mget_memWrite d m a bs (b + i)
/-- What an absent ring reads as. -/
def noRing : Ring := {}
@[simp] theorem produce_rk (c : Chip) (a n k : Nat) (e : Entry) (h : n ≠ k) (hk : k ≠ 0) : ((c.produce a n e).rings.rings[k]?).getD noRing = (c.rings.rings[k]?).getD noRing := by
  have := Chip.produce_ring_ne c a n k e hk h
  unfold Chip.ring at this; simpa [noRing] using this
@[simp] theorem upRing_rk (c : Chip) (n k : Nat) (f : Ring → Ring) (h : n ≠ k) : ((c.upRing n f).rings.rings[k]?).getD noRing = (c.rings.rings[k]?).getD noRing := by
  have := Chip.ring_upRing_ne c n k f h
  unfold Chip.ring at this; simpa [noRing] using this
@[simp] theorem consume_rk (c : Chip) (n k m : Nat) (h : n ≠ k) : ((c.consume n m).rings.rings[k]?).getD noRing = (c.rings.rings[k]?).getD noRing := upRing_rk _ _ _ _ h
theorem ring_rk {c d : Chip} {k : Nat} (h : (c.rings.rings[k]?).getD noRing = (d.rings.rings[k]?).getD noRing) : c.ring k = d.ring k := by
  unfold Chip.ring; simpa [noRing] using h

end Sys2Proof.Machine
end

