-- ==== Sys2Proof/Tests/Slice0.lean ====
section
/-! SUPPORT. Tests: for every obligation a witness that its hypotheses are met together, at boundary values; ill-formed commands that the check
refuses; figures of the spec's worked examples. -/

namespace Sys2Proof.Tests
open Sys2Proof Sys2Proof.Machine

-- The theorems are checked one after another: each in a thread of its own would need more stacks than the memory limit leaves.
set_option Elab.async false

/-! ### A small block -/

/-- A block that has started: mode WATCH, every lane LIVE, supplied from FVIN with a cell, VIO good, timebases proven. -/
def up : Chip := { Chip.reset with
  power := { coreSupplied := true, fvinTaken := true, fvinPresent := true, cellConnected := true, vcapGood := true },
  modes := { mode := 2 }, start := { phase := .done, slot := 0 }, girth := { lanes := List.replicate 4 .live },
  keeper := { powered := true }, tb := { tbkProven := true, tbmProven := true, mlg := true, mlc := true, mls := true },
  lands := { vioGood := true } }

/-- The block in another mode. -/
def inMode (m : Nat) : Chip := { up with modes := { mode := m } }

/-- The block with one girth lane in a state. -/
def laneIs (l : Nat) (x : LaneState) : Chip := { up with girth := { up.girth with lanes := (List.replicate 4 LaneState.live).set l x } }

/-- The block with a register word. -/
def withReg (a : Nat) (w : Nat) : Chip := up.setReg a (wd w)

/-- The block with a running word. -/
def withRun (a : Nat) (w : Nat) : Chip := up.setRun a (wd w)

/-- The block may run its commands and executes host writes: the premises nearly every statement has. -/
theorem witness_block : up.awake = true ∧ up.hostOpen = true ∧ up.started = true ∧ up.afterStart = true ∧ (∀ l, l < 4 → up.live l = true) := by decide +kernel

/-! ### Witnesses: the girth -/

theorem witness_transfers : (up.lane 0 = .live ∧ [0, 1, 2, 3, 0, 1, 2, 3].length = 8 ∧ (symbols [0, 1, 2, 3, 0, 1, 2, 3]).isSome = true) ∧
    [0, 1].length ≠ 8 ∧ symbols [0, 1, 2, 3, 0, 1, 2, 4] = none ∧ up.tb.pstate ≤ 1 ∧
    (let c := { up with tb := { up.tb with pstate := 2 } }; c.awake = true ∧ c.lane 3 = .live ∧ c.lane 2 = .live ∧ c.tb.pstate = 2) := by decide +kernel

/-- The block in PURSUIT: it tracks, its receiver searches, both sample lanes are starting; CKO takes the converter domain, the monitor scans. -/
def tracking : Chip :=
  { ((((inMode 6).setRun 0x0410 (wd 0xFFFFFF)).setRun 0x0411 (wd 0xFFFFFF)).setRun 0x0412 (wd 0xFFFFFF)).setRun 0x1901 (wd 0xFFFF) with
    tb := { up.tb with ckoEn := true, domains := up.tb.domains.set 3 { source := 5 } }, girth := { up.girth with gsamp := .starting, rsamp := .starting }, radio := { state := .searching } }

theorem witness_lanes_come_alive : (laneIs 3 .waking).awake = true ∧ (laneIs 3 .waking).lane 3 = .waking ∧
    tracking.awake = true ∧ tracking.girth.gsamp = .starting ∧ tracking.gnssGate = true ∧ tracking.live 1 = true ∧
    tracking.girth.rsamp = .starting ∧ tracking.radioGate = true := by decide +kernel

theorem witness_silent_lanes : (up.lane 3 = .live ∧ (laneIs 0 .waking).lane 0 = .waking ∧ (laneIs 0 .waking).afterStart = true) ∧
    (tracking.samp 1 = .starting ∧ tracking.samp 0 = .starting ∧ tracking.afterStart = true) ∧
    (∀ line, line < 4 → tracking.gatePasses (lineGate line).1 = true ∧ tracking.live (lineGate line).2 = true) := by decide +kernel

theorem witness_own_waits : up.lane 2 ≠ .parked ∧ up.lane 3 ≠ .parked ∧ up.lane 0 ≠ .parked ∧ up.girth.rerouted = false ∧ up.live 2 = true ∧
    (laneIs 2 .waking).live 2 = false ∧ (laneIs 2 .waking).awake = true ∧ (laneIs 2 .waking).lane 3 ≠ .parked := by decide +kernel

/-! ### Witnesses: lands and supplies -/

theorem witness_drive_groups : let c := { up with lands := { up.lands with memDrive := some 7, hostDrive := some 0 } };
    c.awake = true ∧ c.lands.memDrive = some 7 ∧ c.mcsHigh = true ∧ c.lands.hostDrive = some 0 := by decide +kernel

/-- Pin 7 is watched for a rising edge, its reference level low. -/
def watched : Chip := { withRun 0x0087 0x40 with lands := { vioGood := true, gpWatch := 0x80 } }

theorem witness_pins : (∀ i, i < 8 → up.rf (0x80 + i) 5 4 ≠ 3) ∧ (withReg 0x0087 0x30).awake = true ∧ (withReg 0x0087 0x30).hostOpen = true ∧
    (withReg 0x0087 0x30).rf (0x80 + 7) 5 4 = 3 ∧ watched.awake = true ∧ watched.gpWatched 7 = true ∧ watched.lands.gpRef.getLsbD 7 ≠ true ∧
    watched.gpWakes 7 true = true := by decide +kernel

theorem witness_supplies : up.lands.vioGood = true ∧ Chip.reset.lands.vioGood = false := by decide +kernel

theorem witness_power_path : Chip.reset.power.fvinTaken = false ∧ up.power.fvinTaken = true ∧ up.power.cellConnected = true ∧
    Chip.reset.power.cellConnected = false ∧
    (let c := { up with power := { up.power with cellConnected := false } }; c.power.fvinTaken = true ∧ c.power.cellConnected = false) ∧
    (let c := { up with power := { up.power with fvinTaken := false } }; c.power.fvinTaken = false ∧ c.power.cellConnected = true) := by decide +kernel

/-- A Li-ion cell of 4.1 V (TYPE 2, current code 2) in a step of its charge. -/
def charging (x : ChgState) : Chip := { withRun 0x1C04 0x29 with power := { up.power with chg := x, chgResume := .constCurrent } }

theorem witness_charger : (charging .precharge).mayCharge = true ∧ (charging .precharge).power.chg = .precharge ∧ (charging .constCurrent).mayCharge = true ∧
    (charging .constCurrent).floatMv ≤ 4100 ∧ (charging .constVoltage).mayCharge = true ∧ 10 * 10 ≤ 50 * (charging .constVoltage).runF 0x1C04 7 4 ∧
    (charging .done).mayCharge = true ∧ 4000 + 100 ≤ (charging .done).floatMv ∧ (charging .constVoltage).power.chg.charging = true ∧
    (charging .precharge).cellType ≠ 0 ∧ (charging .precharge).runB 0x1C04 0 = true ∧ (charging .precharge).power.ntcOpen = false ∧
    (charging .precharge).power.chgTimedOut = false ∧ (charging .paused).mayCharge = true ∧ (charging .paused).power.chg = .paused := by decide +kernel

/-- Both FOUT and GBIAS are on, and an open output is looked for. -/
def outputs : Chip := { withRun 0x1C20 4 with power := { up.power with fout0 := true, fout1 := true, gbias := true } }

theorem witness_outputs : outputs.awake = true ∧ outputs.foutOn 0 = true ∧ outputs.foutOn 1 = true ∧ outputs.runB 0x1C20 2 = true ∧
    outputs.rf 0x1C21 10 10 = 0 ∧ outputs.rf 0x1C21 11 11 = 0 ∧ outputs.power.gbias = true ∧ outputs.rf 0x1C01 10 10 = 0 := by decide +kernel

theorem witness_field_sets : up.lane 2 = .live ∧
    (withReg 0x1C04 0xA9).awake = true ∧ (withReg 0x1C04 0xA9).hostOpen = true ∧ (withReg 0x1C04 0xA9).lane 2 = .live ∧ (withReg 0x1C04 0xA9).rf 0x1C04 7 4 ≠ 0 ∧
    (withReg 0x1C04 0xA9).rf 0x1C04 7 4 ≤ 10 ∧ (withReg 0x1C04 0xA9).rf 0x1C04 3 2 ≠ 3 ∧
    (laneIs 2 .parked).lane 2 = .parked ∧ (laneIs 2 .parked).hostOpen = true ∧ (laneIs 2 .parked).awake = true ∧
    (∀ arm ∈ [0x1C04, 0x1C06, 0x1C07, 0x1C20, 0x1900, 0x130A],
      let c := { up with girth := { up.girth with armed := [{ arm := arm, words := [(arm, 1)] }] } };
      c.awake = true ∧ (c.armedSet arm).isSome = true ∧ c.lane (armLane arm) = .live) := by decide +kernel

theorem witness_battery_hold : let c := { up with power := { up.power with fvinTaken := false } };
    c.awake = true ∧ c.power.fvinTaken = false ∧ c.modes.batHold = false ∧ c.mode ≠ 7 ∧
    ({ c with modes := { mode := 1, batHold := true } } : Chip).awake = true ∧
    ({ c with modes := { mode := 1, batHold := true } } : Chip).modes.batHold = true := by decide +kernel

/-! ### Witnesses: starts, STIRRUP and modes -/

/-- A supply with the core unsupplied, and the block in SHIP. -/
theorem witness_triggers : (let c := { up with power := { up.power with coreSupplied := false } };
      c.power.coreSupplied = false ∧ c.power.fvinTaken = true ∧ c.power.cellConnected = true) ∧
    (inMode 0).power.coreSupplied = true ∧ (inMode 0).mode = 0 ∧ (0x53544153 : Word) ≠ 0x53544152 ∧
    (let c := { inMode 1 with start := { phase := .failed } }; c.awake = true ∧ c.start.phase = .failed) := by decide +kernel

/-- SHA-256 of the recovery key the four commands carry. -/
def recoveryHash : List Byte :=
  [0xA9, 0xA7, 0xDB, 0x24, 0x22, 0x8C, 0x23, 0xC2, 0x62, 0x15, 0x2F, 0x7A, 0x02, 0xF2, 0x6A, 0xDB, 0xDC, 0x34, 0xA8, 0x9C, 0x2E, 0xB4, 0xB7, 0x29,
    0x4D, 0xC2, 0xDE, 0xA9, 0xE4, 0x28, 0xB7, 0x67]

/-- The block in STIRRUP: it listens, its key store is locked, its challenge is 7. -/
def stirrup : Chip := { inMode 7 with
  start := { phase := .stirrup, listening := true, nonce := 7 }, mram := { keys := { locked := true, region := 1, recoveryKeyHash := recoveryHash } } }

/-- RESTART, signed outside the model with the key whose hash is `recoveryHash`, for challenge 7. -/
def recoveryCommand1 : List Byte :=
  [0x52, 0x43, 0x01, 0x00, 0x00, 0x00, 0x00, 0x00, 0x00, 0x00, 0x00, 0x00, 0x07, 0x00, 0x00, 0x00, 0x2A, 0x2B, 0x8C, 0x45, 0x4C, 0x62, 0xB6, 0xA8,
   0x80, 0xE9, 0x24, 0x66, 0xF3, 0x2F, 0xCF, 0x16, 0x53, 0x14, 0x4F, 0xB1, 0x36, 0xF5, 0xE9, 0xCB, 0x36, 0x94, 0xE0, 0xD0, 0xC9, 0x7F, 0x55, 0xFC,
   0xAB, 0x1C, 0xC1, 0x7E, 0xF1, 0xA3, 0xB7, 0x8A, 0x2E, 0xCE, 0xA3, 0xC1, 0xB5, 0x43, 0x06, 0x7B, 0x7E, 0x64, 0xB4, 0x61, 0x27, 0xAD, 0x49, 0xD4,
   0xD2, 0xDA, 0x1C, 0x40, 0x51, 0xCC, 0x62, 0xFC, 0x3A, 0xF2, 0x13, 0x6F, 0xF4, 0xBE, 0x93, 0x33, 0xAD, 0xD0, 0x3E, 0xC3, 0xD5, 0xB6, 0x5B, 0x23,
   0x62, 0xA7, 0xB4, 0xE7, 0x76, 0xD4, 0x42, 0xFD, 0xAF, 0xAE, 0x63, 0xB7, 0xFC, 0x5F, 0x44, 0x3F, 0x47, 0x6E, 0x1F, 0x8D, 0xC3, 0x84, 0x98, 0xC9,
   0x37, 0x3D, 0xA1, 0xAB, 0x1D, 0x4B, 0x52, 0x85, 0xB4, 0xA7, 0xDA, 0x14, 0x0B, 0x4A, 0xD8, 0xC4, 0x77, 0x36, 0xF3, 0xC0, 0x39, 0xBA, 0x49, 0x80]

set_option maxRecDepth 100000 in
theorem witness_recovery_1 : stirrup.recoveryResult recoveryCommand1 = 1 ∧ leAt recoveryCommand1 2 1 = 1 := by decide +kernel

/-- RESTART_SLOT of slot B, signed outside the model with the key whose hash is `recoveryHash`, for challenge 7. -/
def recoveryCommand2 : List Byte :=
  [0x52, 0x43, 0x02, 0x01, 0x00, 0x00, 0x00, 0x00, 0x00, 0x00, 0x00, 0x00, 0x07, 0x00, 0x00, 0x00, 0x2A, 0x2B, 0x8C, 0x45, 0x4C, 0x62, 0xB6, 0xA8,
   0x80, 0xE9, 0x24, 0x66, 0xF3, 0x2F, 0xCF, 0x16, 0x53, 0x14, 0x4F, 0xB1, 0x36, 0xF5, 0xE9, 0xCB, 0x36, 0x94, 0xE0, 0xD0, 0xC9, 0x7F, 0x55, 0xFC,
   0xAB, 0x1C, 0xC1, 0x7E, 0xF1, 0xA3, 0xB7, 0x8A, 0x2E, 0xCE, 0xA3, 0xC1, 0xB5, 0x43, 0x06, 0x7B, 0x7E, 0x64, 0xB4, 0x61, 0x27, 0xAD, 0x49, 0xD4,
   0xD2, 0xDA, 0x1C, 0x40, 0x51, 0xCC, 0x62, 0xFC, 0x3B, 0xE8, 0xD1, 0xBE, 0x83, 0xAC, 0x2D, 0x22, 0xDB, 0x49, 0x5F, 0xD5, 0x10, 0x6F, 0x28, 0xDB,
   0x6F, 0xBC, 0xBA, 0x79, 0xF0, 0x36, 0xE6, 0x6D, 0x22, 0x57, 0x5C, 0xB2, 0x65, 0xC8, 0x82, 0x7D, 0xB8, 0xD6, 0x1C, 0x84, 0xE2, 0x45, 0xBA, 0xE4,
   0x62, 0x68, 0x48, 0xBD, 0xFC, 0xC3, 0x34, 0xFE, 0x87, 0x6E, 0x64, 0xC9, 0x7A, 0x2D, 0x31, 0x2C, 0xDC, 0xB2, 0x70, 0x1B, 0x7B, 0xA2, 0x9F, 0x74]

set_option maxRecDepth 100000 in
theorem witness_recovery_2 : stirrup.recoveryResult recoveryCommand2 = 1 ∧ leAt recoveryCommand2 2 1 = 2 := by decide +kernel

/-- RESTART_DEFAULTS, signed outside the model with the key whose hash is `recoveryHash`, for challenge 7. -/
def recoveryCommand3 : List Byte :=
  [0x52, 0x43, 0x03, 0x00, 0x00, 0x00, 0x00, 0x00, 0x00, 0x00, 0x00, 0x00, 0x07, 0x00, 0x00, 0x00, 0x2A, 0x2B, 0x8C, 0x45, 0x4C, 0x62, 0xB6, 0xA8,
   0x80, 0xE9, 0x24, 0x66, 0xF3, 0x2F, 0xCF, 0x16, 0x53, 0x14, 0x4F, 0xB1, 0x36, 0xF5, 0xE9, 0xCB, 0x36, 0x94, 0xE0, 0xD0, 0xC9, 0x7F, 0x55, 0xFC,
   0xAB, 0x1C, 0xC1, 0x7E, 0xF1, 0xA3, 0xB7, 0x8A, 0x2E, 0xCE, 0xA3, 0xC1, 0xB5, 0x43, 0x06, 0x7B, 0x7E, 0x64, 0xB4, 0x61, 0x27, 0xAD, 0x49, 0xD4,
   0xD2, 0xDA, 0x1C, 0x40, 0x51, 0xCC, 0x62, 0xFC, 0xEF, 0xEA, 0xE8, 0x97, 0x9E, 0x51, 0xCD, 0xF3, 0xA0, 0xC0, 0x68, 0x90, 0x8F, 0x78, 0x8D, 0xAF,
   0x8C, 0x5B, 0xC0, 0x6B, 0x95, 0xBA, 0xD4, 0xDE, 0xE4, 0x7F, 0xC7, 0x3E, 0xDC, 0x4E, 0xA2, 0xCF, 0xA4, 0xD1, 0xBA, 0xB0, 0x61, 0x95, 0x9D, 0x05,
   0xD4, 0x77, 0x85, 0x3E, 0x9B, 0xCF, 0x7F, 0x9B, 0xE6, 0xC2, 0xD9, 0x46, 0x2F, 0x54, 0xEE, 0x25, 0x39, 0x32, 0x3C, 0x0A, 0x30, 0x90, 0xF7, 0xD2]

set_option maxRecDepth 100000 in
theorem witness_recovery_3 : stirrup.recoveryResult recoveryCommand3 = 1 ∧ leAt recoveryCommand3 2 1 = 3 := by decide +kernel

/-- RESTART_CAL_DEFAULTS, signed outside the model with the key whose hash is `recoveryHash`, for challenge 7. -/
def recoveryCommand4 : List Byte :=
  [0x52, 0x43, 0x04, 0x00, 0x00, 0x00, 0x00, 0x00, 0x00, 0x00, 0x00, 0x00, 0x07, 0x00, 0x00, 0x00, 0x2A, 0x2B, 0x8C, 0x45, 0x4C, 0x62, 0xB6, 0xA8,
   0x80, 0xE9, 0x24, 0x66, 0xF3, 0x2F, 0xCF, 0x16, 0x53, 0x14, 0x4F, 0xB1, 0x36, 0xF5, 0xE9, 0xCB, 0x36, 0x94, 0xE0, 0xD0, 0xC9, 0x7F, 0x55, 0xFC,
   0xAB, 0x1C, 0xC1, 0x7E, 0xF1, 0xA3, 0xB7, 0x8A, 0x2E, 0xCE, 0xA3, 0xC1, 0xB5, 0x43, 0x06, 0x7B, 0x7E, 0x64, 0xB4, 0x61, 0x27, 0xAD, 0x49, 0xD4,
   0xD2, 0xDA, 0x1C, 0x40, 0x51, 0xCC, 0x62, 0xFC, 0x99, 0x41, 0xD7, 0x97, 0x0E, 0xB1, 0x6D, 0xB6, 0x82, 0xA5, 0x48, 0xBF, 0x37, 0xEB, 0x85, 0xC4,
   0x4C, 0x6B, 0x2A, 0x9D, 0xB5, 0x23, 0x34, 0xB6, 0x5D, 0xC3, 0x65, 0x25, 0xAC, 0x29, 0xB8, 0xA7, 0x93, 0x28, 0x2D, 0x49, 0xD9, 0x44, 0xEE, 0x9D,
   0x0F, 0x67, 0xF2, 0x9D, 0x08, 0xC2, 0xAA, 0x0B, 0xBF, 0x7D, 0xCA, 0x5A, 0x8B, 0xB4, 0xCA, 0xC6, 0xCE, 0xBC, 0x58, 0xE8, 0xC4, 0xED, 0x3B, 0x3B]

set_option maxRecDepth 100000 in
theorem witness_recovery_4 : stirrup.recoveryResult recoveryCommand4 = 1 ∧ leAt recoveryCommand4 2 1 = 4 := by decide +kernel

theorem witness_recovery : stirrup.awake = true ∧ stirrup.mode = 7 ∧ stirrup.start.listening = true ∧ up.mode ≠ 7 ∧ up.started = true := by decide +kernel

/-- A start under way. -/
def begun : Chip := { inMode 0xF with start := {}, tb := {} }

theorem witness_starts_fail : begun.awake = true ∧ begun.starting = true ∧ begun.start.stirrupStart = false ∧ begun.tb.tbmProven = false ∧ begun.tb.tbkProven = false ∧
    Chip.reset.power.fvinTaken = false ∧ stirrup.mayBeacon = true ∧
    (let c := { inMode 0xF with start := { stirrupStart := true } };
      c.awake = true ∧ c.starting = true ∧ c.held = false ∧ c.start.stirrupStart = true ∧ c.stirrupDone = true) := by decide +kernel

/-- One entry in a ring that the radio modem consumes. -/
def holding (c : Chip) (n : Nat) (e : Entry) : Chip :=
  (c.upRing n (fun _ => { sizeLog2 := 5, base := 512, producer := 0x0B, consumer := 0x08, head := 1 })).putEntry 512 e

theorem witness_mode_requests :
    (∀ watch : Bool, let c := if watch then inMode 1 else up;
      c.awake = true ∧ c.started = true ∧ c.mode = (if watch then 1 else 2) ∧ c.modes.transition = none ∧ c.held = false ∧
        c.fallback (if watch then 2 else 1) = (if watch then 2 else 1)) ∧
    (let c := { (inMode 1).setRun 0x22 (wd 0x200) with power := { coreSupplied := true, cellConnected := true } };
      c.awake = true ∧ c.started = true ∧ c.mode = 1 ∧ c.modes.transition = none ∧ c.held = false ∧ c.keeper.theft = .disarmed ∧
        c.power.fvinTaken = false ∧ c.runB 0x22 9 = true ∧ c.shipBusy = false) ∧
    (up.power.fvinTaken = true ∧ up.fallback 5 = 5) ∧
    (let c := (up.setRun 0x2000 (wd 3)).setRun 0x2001 (wd 0x00A01000);
      c.awake = true ∧ c.started = true ∧ c.mode = 2 ∧ c.modes.transition = none ∧ c.held = false ∧ c.acqReady = true ∧ c.silent 1 = false ∧
        c.girth.radioRefused = false ∧ c.acq.state = .idle) ∧
    (let c := holding up 34 [0x01000000, 0, 0, 0, 0, 0, 0, 0];
      c.awake = true ∧ c.started = true ∧ c.mode = 2 ∧ c.modes.transition = none ∧ c.held = false ∧ c.burstDue = true ∧ c.silent 1 = false ∧
        c.girth.radioRefused = false) ∧
    (let c := { up with modes := { mode := 2, transition := some (5, .host) } };
      c.awake = true ∧ c.started = true ∧ c.mode ≠ 7 ∧ c.modes.transition ≠ none) := by decide +kernel

theorem witness_transitions : (let c := { up with modes := { mode := 2, transition := some (5, .host) } };
      c.awake = true ∧ c.modes.transition = some (5, .host) ∧ c.lanesReady 5 = true) ∧
    (let c := withReg 0x22 0x51;
      c.awake = true ∧ c.hostOpen = true ∧ (c.rf 0x22 7 4 = 1 ∨ c.rf 0x22 7 4 = 2 ∨ c.rf 0x22 7 4 = 5) ∧ (c.rf 0x22 3 0 = 1 ∨ c.rf 0x22 3 0 = 2)) ∧
    (let c := withReg 0x22 0x53;
      c.awake = true ∧ c.hostOpen = true ∧ ¬ ((c.rf 0x22 7 4 = 1 ∨ c.rf 0x22 7 4 = 2 ∨ c.rf 0x22 7 4 = 5) ∧ (c.rf 0x22 3 0 = 1 ∨ c.rf 0x22 3 0 = 2))) := by
  decide +kernel

/-! ### Witnesses: timebases -/

/-- The block with a switch of a domain under way. -/
def switching (d : Nat) (st : SwitchStage) : Chip :=
  { up with tb := { up.tb with domains := up.tb.domains.set d { source := 0, switch := some { stage := st, target := 1 } } } }

theorem witness_switches : (∀ d, d < 3 → up.pathReady d 1 = true ∧ up.switchStage d = none ∧ up.domSource d ≠ 1 ∧ d < up.tb.domains.length) ∧
    (let c := withRun 0x0403 0x10000; c.pathReady 3 1 = true ∧ c.switchStage 3 = none ∧ c.domSource 3 ≠ 1 ∧ c.awake = true) ∧
    (∀ d, d < 3 → let c := switching d .requested;
      c.awake = true ∧ c.pathReady d 1 = true ∧ c.switchStage d = some .requested ∧ c.safePoint d = true) ∧
    (∀ d, d < 4 → let c := switching d .acknowledged;
      c.awake = true ∧ d < c.tb.domains.length ∧ (c.tb.domains.getD d {}).switch = some { stage := .acknowledged, target := 1 }) ∧
    (∀ d, d < 4 → let c := switching d .switched;
      c.awake = true ∧ d < c.tb.domains.length ∧ c.switchStage d = some .switched ∧ (c.tb.domains.getD d {}).queued = none) := by decide +kernel

theorem witness_timebases : up.tb.tbkFailed = false ∧ tracking.tbmRuns = true ∧ up.tb.tbkProven = true ∧ 2 < up.tb.domains.length ∧
    (let c := { tracking with tb := { tracking.tb with tbmProven := true, domains := [{ source := 1 }, { source := 1 }, { source := 1 }, { source := 5 }] } };
      c.awake = true ∧ c.tb.tbmProven = true ∧ c.tbmRuns = true ∧ 1 < c.tb.domains.length ∧ c.domSource 0 = 1 ∧ c.domSource 1 = 1 ∧ c.domSource 2 = 1) ∧
    up.tb.tbmProven = true ∧ up.tb.tbmFailed = false ∧ up.tb.mlc = true ∧ up.tb.mls = true ∧ up.tb.mlg = true ∧
    (∀ l, l < 3 → let c := { up with tb := { up.tb with retry := [true, true, true] } };
      c.awake = true ∧ c.tb.retry.getD l false = true ∧ c.tb.tbmProven = true ∧ c.tb.tbmFailed = false) := by decide +kernel

theorem witness_gates : up.gateCheck.1 = 0 ∧ (withReg 0x0410 0x6DB600).gateCheck.1 ≠ 0 ∧ (withReg 0x0410 0x6DB600).awake = true ∧
    (withReg 0x0410 0x6DB600).hostOpen = true ∧
    (let c := withReg 0x0403 0x000A0004;
      c.awake = true ∧ c.hostOpen = true ∧ c.rf 0x0403 18 16 ≠ 7 ∧ ckoHz (c.rf 0x0403 18 16) ≤ 50000000 * ckoDivisor (c.rf 0x0403 15 0) ∧ c.tb.ckoEn = false) ∧
    tracking.tb.ckoEn = true ∧ (tracking.setReg 0x0403 0x000A0004).rf 0x0403 18 16 ≠ 7 ∧
    cdPowered 2 = true ∧ cdPowered 1 = false ∧ rgPowered 1 = false ∧ rcPowered 1 = false ∧
    (∀ p, p < 6 → p < up.tb.ports.length) ∧ tracking.gatePasses (portGate 5) = true ∧ up.gatePasses (portGate 5) = false ∧
    up.tb.pstate = 0 := by decide +kernel

/-! ### Witnesses: the keeper domain and MRAM -/

/-- A leap second is pending at the end of day 0, and it is past. -/
def leaping (del : Bool) : Chip := { up with keeper := { powered := true, valid := true, sec := 86400, leapPending := true, leapDelete := del } }

theorem witness_keeper_time : (∀ del, (leaping del).awake = true ∧ (leaping del).keeper.leapPending = true ∧ (leaping del).keeper.leapDelete = del ∧
      (leaping del).keeper.leapAt ≤ ((leaping del).keeper.sec.toNat : Int)) ∧
    (let c := (up.setReg 0x4008 (wd 0x07E8021D)).setReg 0x4009 (wd 0x00173B3B);
      c.awake = true ∧ c.hostOpen = true ∧
        calendarBad (c.rf 0x4008 31 16) (c.rf 0x4008 15 8) (c.rf 0x4008 7 0) (c.rf 0x4009 23 16) (c.rf 0x4009 15 8) (c.rf 0x4009 7 0) c.keeper.leap = false) ∧
    (let c := (up.setReg 0x4008 (wd 0x07E7021D)).setReg 0x4009 (wd 0x00173B3B);
      c.awake = true ∧ c.hostOpen = true ∧
        calendarBad (c.rf 0x4008 31 16) (c.rf 0x4008 15 8) (c.rf 0x4008 7 0) (c.rf 0x4009 23 16) (c.rf 0x4009 15 8) (c.rf 0x4009 7 0) c.keeper.leap = true) ∧
    (let c := { up with keeper := { powered := true, calPending := some 12345 } }; c.awake = true ∧ c.keeper.calPending = some 12345) ∧
    bit (up.reg 0x4010) 4 = false ∧ (leaping true).keeper.valid = true := by decide +kernel

/-- The tamper loop in mode EOL, its last sample shorted. -/
def looped : Chip := { up with keeper := { powered := true, loopMode := 2, loop := some .normal, loopLast := some .shorted } }

theorem witness_loop : (∀ m, m < 4 → (withReg 0x4020 m).awake = true ∧ (withReg 0x4020 m).hostOpen = true ∧ (withReg 0x4020 m).rf 0x4020 1 0 = m) ∧
    looped.hostOpen = true ∧ looped.rf 0x4020 1 0 = 0 ∧ looped.keeper.loopMode ≠ 0 ∧ looped.awake = true ∧
    looped.keeper.loopLast = some (loopClass true 4699 0) ∧ looped.keeper.loop ≠ some (loopClass true 4699 0) ∧
    looped.keeper.loopLast ≠ some (loopClass true 4700 0) ∧ looped.keeper.loopLast ≠ some (loopClass true 22001 0) ∧
    (let c := { up with power := {} }; c.power.coreSupplied = false ∧ c.keeper.powered = true) ∧
    (let c := { up with keeper := { powered := true, pending := [{ source := 0x0800, origin := 2, code := 0x0800, arg := 0 }] } };
      c.awake = true ∧ c.sweeping = true ∧ c.keeper.pending ≠ []) := by decide +kernel

/-- A meter with a count. -/
def metered (x : Meter) : Chip := { up with keeper := { powered := true, meters := List.replicate 16 x }, rules := { marks := List.replicate 16 2 } }

/-- One record waits in ring 1; with it, one ring-0 entry with JOURNAL set. -/
def recorded : Chip := ({ up with rings := { up.rings with rings :=
  { sizeLog2 := 6, consumer := 0x01, head := 1 } :: { sizeLog2 := 7, consumer := 0x02, base := 64, head := 1 } :: List.replicate 62 {} } }.putEntry 64
    [0, 0x05000000, 0, 0, 0, 0, 0, 0]).putEntry 0 [0x05800601, 0, 0, 0, 0, 0, 0, 0]

theorem witness_records : (let c := { up with mram := { commits := [(1, 1, [0]), (3, 1, [])] } }; c.awake = true ∧ c.mram.commits = (1, 1, [0]) :: [(3, 1, [])] ∧
      (1 : Nat) ≠ clearFormat ∧ (1 : Nat) ≠ 2 ∧ (1 : Nat) ≠ 4) ∧
    (recorded.awake = true ∧ (recorded.ring 1).fill ≠ 0 ∧
      recorded.mayRecord (bit (ew (recorded.entryAt ((recorded.ring 1).slot (recorded.ring 1).tail)) 6) 0) = true ∧ recorded.keeper.theft = .disarmed) ∧
    (recorded.rings.eventWritten = false ∧ recorded.journalFrom 64 recorded.rings.obsMram.index = some 0 ∧
      recorded.mayRecord (decide (entryClass (recorded.entryAt ((recorded.ring 0).slot 0)) = 1)) = true) ∧
    (∀ m, m < 16 → let c := metered { count := 7200, committed := 7140, running := true };
      c.awake = true ∧ (c.meter m).committed + 60 ≤ (c.meter m).count ∧ c.rules.marks.getD m 0 ≠ 0 ∧ (c.meter m).marked = false ∧
        c.rules.marks.getD m 0 * 3600 ≤ (c.meter m).count) ∧
    ((metered { commitDue := true }).meter 15).commitDue = true ∧
    (let c := metered { count := meterCeil, running := true };
      c.awake = true ∧ (c.meter 15).running = true ∧ meterCeil ≤ (c.meter 15).count) := by decide +kernel

/-! ### Witnesses: rings -/

/-- The block with a ring. -/
def withRing (n : Nat) (r : Ring) : Chip := up.upRing n (fun _ => r)

/-- An enabled ring of four entries, with what it holds. -/
def four (x : Ring) : Ring := { x with sizeLog2 := 2, base := 512, consumer := if x.consumer = 0 then 0x0B else x.consumer }

theorem witness_ring_classes :
    (RingTakes (withRing 21 (four {})) 0x08 21 ∧ ((withRing 21 (four {})).ring 21).full = false ∧ ((withRing 21 (four {})).ring 21).held = [] ∧
      ((withRing 21 (four {})).ring 21).waiting = []) ∧
    (∀ x ∈ [RingClass.dropOldest, .dropNewest], RingTakes (withRing 21 (four { cls := x, head := 4 })) 0x08 21 ∧
      ((withRing 21 (four { cls := x, head := 4 })).ring 21).full = true ∧ ((withRing 21 (four { cls := x, head := 4 })).ring 21).active = x) ∧
    (∀ k, k < 5 → let r := four { head := 4, held := List.replicate k (0x08, zeroEntry) };
      RingTakes (withRing 21 r) 0x08 21 ∧ ((withRing 21 r).ring 21).full = true ∧ ((withRing 21 r).ring 21).active = .lossless ∧
        timebaseDriven 0x08 = true ∧ (((withRing 21 r).ring 21).held.filter (fun h => h.1 == 0x08)).length = k) ∧
    (RingTakes (withRing 2 (four { head := 4, consumer := 0x03 })) 0x0C 2 ∧ ((withRing 2 (four { head := 4, consumer := 0x03 })).ring 2).full = true ∧
      timebaseDriven 0x0C = false ∧ drainRank 0x03 < drainRank 0x0C) ∧
    (RingTakes (withRing 60 (four { head := 4, producer := 0x03, consumer := 0x0C })) 0x03 60 ∧
      ((withRing 60 (four { head := 4, producer := 0x03, consumer := 0x0C })).ring 60).full = true ∧ timebaseDriven 0x03 = false ∧
      ¬ (drainRank 0x0C < drainRank 0x03 ∨ (0x0C : Nat) = 0x0B)) ∧
    (up.mayProduce 0x08 21 = true ∧ 21 < up.rings.rings.length ∧ (up.ring 21).sizeLog2 = 0) := by
  simp only [RingTakes]; decide +kernel

theorem witness_rings_resume :
    (let c := withRing 60 (four { waiting := [(0x0C, zeroEntry)], held := [(0x08, zeroEntry)] });
      c.awake = true ∧ (c.ring 60).active = .lossless ∧ (c.ring 60).full = false ∧ (c.ring 60).waiting = [(0x0C, zeroEntry)] ∧
        (c.ring 60).held = [(0x08, zeroEntry)]) ∧
    (let c := withRing 18 (four { head := 3, held := [(0x08, [1, 0, 0, 0, 0, 0, 0, 0]), (0x08, zeroEntry)] });
      c.awake = true ∧ (c.ring 18).held = [(0x08, [1, 0, 0, 0, 0, 0, 0, 0]), (0x08, zeroEntry)] ∧
        (c.ring 18).size < (c.ring 18).fill + ((c.ring 18).held.take (1 + fld (ew [1, 0, 0, 0, 0, 0, 0, 0] 0) 7 0)).length) ∧
    (let c := withRing 60 (four { head := 4, svc := 1, waiting := [(0x0C, zeroEntry)] });
      c.awake = true ∧ (c.ring 60).active = .lossless ∧ (c.ring 60).consumer = 0x0B ∧ (c.ring 60).svc ≠ 0 ∧ (c.ring 60).sizeLog2 ≠ 0 ∧
        (c.ring 60).full = true ∧ (c.ring 60).waiting ≠ []) ∧
    (let c := withRing 60 (four { head := 4, svc := 10000, held := [(0x08, zeroEntry)] });
      (c.ring 60).full = true ∧ (c.ring 60).svc ≠ 0 ∧ (c.ring 60).held ≠ []) := by decide +kernel

/-- Ring 63, from the host to the host, two of its four entries filled. -/
def hostRing : Chip := withRing 63 (four { head := 2, producer := 0x0B })

theorem witness_host_rings : hostRing.awake = true ∧ hostRing.hostOpen = true ∧ 63 < hostRing.rings.rings.length ∧ (up.ring 63).consumer ≠ 0x0B ∧
    (up.ring 63).producer ≠ 0x0B ∧ (hostRing.ring 63).consumer = 0x0B ∧ (hostRing.ring 63).producer = 0x0B ∧
    (bit (0x00018001 : Word) 15 = true ∧ (hostRing.ring 63).tail.toNat ≠ fld (0x00018001 : Word) 31 16 ∧
      (hostRing.ring 63).head.toNat ≠ fld (0x00018001 : Word) 31 16) ∧
    (bit (0x00000003 : Word) 15 = false ∧ (hostRing.ring 63).fill < fld (0x00000003 : Word) 12 0 ∧ (hostRing.ring 63).free < fld (0x00000003 : Word) 12 0) ∧
    (bit (0x00000002 : Word) 15 = false ∧ fld (0x00000002 : Word) 12 0 ≤ (hostRing.ring 63).fill ∧ fld (0x00000002 : Word) 12 0 ≤ (hostRing.ring 63).free) ∧
    (bit (0x00008002 : Word) 15 = true ∧ (hostRing.ring 63).tail.toNat = fld (0x00008002 : Word) 31 16) ∧
    (15 / 8 < (hostRing.ring 63).free ∧ ¬ ((hostRing.ring 63).producer = 0x0B ∧ 16 / 8 < (hostRing.ring 63).free)) := by decide +kernel

theorem witness_descriptors : (let c := withReg 0x0BF0 0x00000001; c.awake = true ∧ c.hostOpen = true ∧ 63 < c.rings.rings.length ∧ c.ringCheck 63 ≠ 0) ∧
    (let c := hostRing.setReg 0x0BF0 (wd 0x000B0B02);
      c.ringCheck 63 = 0 ∧ c.rf (0x0800 + 16 * 63) 3 0 = (c.ring 63).sizeLog2 ∧ (c.ring 63).fill ≠ 0) ∧
    (let c := (withRing 63 (four {})).setReg 0x0BF0 (wd 0x000B0B02);
      c.ringCheck 63 = 0 ∧ c.rf (0x0800 + 16 * 63) 3 0 = (c.ring 63).sizeLog2 ∧ (c.ring 63).fill = 0) ∧
    (let c := withRing 63 (four { pendAgents := some (0x0B, 0x0C) }); c.awake = true ∧ (c.ring 63).pendAgents = some (0x0B, 0x0C) ∧ (c.ring 63).fill = 0) ∧
    ((withRing 63 (four { pendAgents := some (0x0B, 0x0C), head := 1 })).ring 63).fill ≠ 0 ∧
    (let qs := up.rings.arb ++ newReqs up.rings.arb [(5, true), (2, false)]; qs.any (fun q => !up.reqShut qs q) = true) ∧
    (∀ n ∈ [60, 63], let c := (withRing n (four { head := 1, consumer := 0x13 })).upRing (if n = 63 then 60 else n + 1) (fun _ => four { producer := 0x13 });
      c.awake = true ∧ (c.ring n).consumer = 0x13 ∧ 0 < (c.ring n).fill ∧ (c.ring (if n = 63 then 60 else n + 1)).producer = 0x13 ∧
        (c.ring (if n = 63 then 60 else n + 1)).sizeLog2 ≠ 0 ∧ (c.ring (if n = 63 then 60 else n + 1)).full = false ∧
        (c.ring (if n = 63 then 60 else n + 1)).copying = false) ∧
    (recorded.awake = true ∧ (recorded.ring 0).fill ≠ 0 ∧ (recorded.ring 0).held = [] ∧
      entryClass (recorded.entryAt ((recorded.ring 0).slot (recorded.ring 0).tail)) ≠ 2) ∧
    (let c := { recorded.putEntry 0 [0x02000A10, 0, 0, 0, 1, 7, 2, 0] with modes := { mode := 2, transition := some (5, .host) } };
      c.awake = true ∧ (c.ring 0).fill ≠ 0 ∧ (c.ring 0).held = [] ∧ entryClass (c.entryAt ((c.ring 0).slot (c.ring 0).tail)) = 2 ∧
        fld (ew (c.entryAt ((c.ring 0).slot (c.ring 0).tail)) 0) 15 0 = 0x0A10 ∧ c.modes.transition ≠ none) ∧
    (let c := withRing 4 (four { head := 1 }); c.awake = true ∧ c.started = true ∧ (c.ring 4).fill ≠ 0) := by decide +kernel

/-! ### Witnesses: rules and theft -/

/-- The block in a theft state. -/
def theftIs (x : TheftState) (score : Nat) : Chip :=
  { up with keeper := { powered := true, theft := x, score := score, theftNonce := 7 }, rules := { threshold := 3, windowCfg := 60 } }

theorem witness_theft : (∀ x ∈ [TheftState.disarmed, .armed, .suspect, .declared], (theftIs x 1).awake = true ∧ (theftIs x 1).started = true ∧
      (theftIs x 1).keeper.theft = x) ∧ 2 < (theftIs .armed 0).rules.threshold ∧ (theftIs .armed 0).rules.threshold ≤ 3 ∧
    (theftIs .suspect 1).keeper.score + 1 < (theftIs .suspect 1).rules.threshold ∧ (theftIs .suspect 1).rules.threshold ≤ (theftIs .suspect 1).keeper.score + 2 ∧
    (theftIs .suspect 1).keeper.window = 0 := by decide +kernel

/-- Theft is declared, the challenge is 7, the key store is locked. -/
def declared : Chip := { theftIs .declared 3 with mram := { keys := { locked := true, recoveryKeyHash := recoveryHash } } }

/-- A clear with opcode DISARM, signed outside the model for challenge 7. -/
def clearCommand1 : List Byte :=
  [0x54, 0x43, 0x01, 0x00, 0x00, 0x00, 0x00, 0x00, 0x00, 0x00, 0x00, 0x00, 0x07, 0x00, 0x00, 0x00, 0x2A, 0x2B, 0x8C, 0x45, 0x4C, 0x62, 0xB6, 0xA8,
   0x80, 0xE9, 0x24, 0x66, 0xF3, 0x2F, 0xCF, 0x16, 0x53, 0x14, 0x4F, 0xB1, 0x36, 0xF5, 0xE9, 0xCB, 0x36, 0x94, 0xE0, 0xD0, 0xC9, 0x7F, 0x55, 0xFC,
   0xAB, 0x1C, 0xC1, 0x7E, 0xF1, 0xA3, 0xB7, 0x8A, 0x2E, 0xCE, 0xA3, 0xC1, 0xB5, 0x43, 0x06, 0x7B, 0x7E, 0x64, 0xB4, 0x61, 0x27, 0xAD, 0x49, 0xD4,
   0xD2, 0xDA, 0x1C, 0x40, 0x51, 0xCC, 0x62, 0xFC, 0xC9, 0xAB, 0xDF, 0xC5, 0xCB, 0xA7, 0xBD, 0x79, 0x9C, 0xC1, 0x80, 0x56, 0xF6, 0x37, 0x28, 0xFA,
   0xF6, 0x0A, 0x29, 0xCC, 0x87, 0x8B, 0x29, 0xD1, 0x5F, 0x4B, 0x2E, 0x67, 0xC0, 0xE4, 0x5E, 0x54, 0x82, 0x84, 0x2C, 0x30, 0xA8, 0xD4, 0xF0, 0x8D,
   0x65, 0xF1, 0x1A, 0xFC, 0x76, 0xAE, 0xAF, 0x22, 0x59, 0xDF, 0x59, 0x21, 0xB0, 0xA5, 0x4F, 0x71, 0x16, 0x7B, 0xEA, 0x4D, 0xAA, 0xCD, 0x50, 0xF4]

set_option maxRecDepth 100000 in
theorem witness_clear_1 : declared.commandCheck clearCommand1 144 0x54 0x43 declared.keeper.theftNonce 16 true = 1 ∧
    clearCommand1.getD 3 0 = 0 ∧ clearCommand1.getD 2 0 = 1 := by decide +kernel

/-- A clear with opcode ARM, signed outside the model for challenge 7. -/
def clearCommand2 : List Byte :=
  [0x54, 0x43, 0x02, 0x00, 0x00, 0x00, 0x00, 0x00, 0x00, 0x00, 0x00, 0x00, 0x07, 0x00, 0x00, 0x00, 0x2A, 0x2B, 0x8C, 0x45, 0x4C, 0x62, 0xB6, 0xA8,
   0x80, 0xE9, 0x24, 0x66, 0xF3, 0x2F, 0xCF, 0x16, 0x53, 0x14, 0x4F, 0xB1, 0x36, 0xF5, 0xE9, 0xCB, 0x36, 0x94, 0xE0, 0xD0, 0xC9, 0x7F, 0x55, 0xFC,
   0xAB, 0x1C, 0xC1, 0x7E, 0xF1, 0xA3, 0xB7, 0x8A, 0x2E, 0xCE, 0xA3, 0xC1, 0xB5, 0x43, 0x06, 0x7B, 0x7E, 0x64, 0xB4, 0x61, 0x27, 0xAD, 0x49, 0xD4,
   0xD2, 0xDA, 0x1C, 0x40, 0x51, 0xCC, 0x62, 0xFC, 0xD2, 0x81, 0xAC, 0xB0, 0xBE, 0x6A, 0x26, 0xFD, 0x5C, 0x38, 0xCE, 0x55, 0xD5, 0x18, 0x41, 0x71,
   0x02, 0x81, 0x1C, 0x5C, 0xC9, 0x7D, 0x18, 0xD3, 0xE1, 0x62, 0x4E, 0x56, 0x88, 0xA8, 0x65, 0xBD, 0xCB, 0xBF, 0x4C, 0xB0, 0xE0, 0x1A, 0x6D, 0x3C,
   0x2E, 0x83, 0x16, 0xB4, 0xAB, 0xB1, 0x3B, 0xFC, 0x0F, 0xAC, 0xBF, 0x56, 0x7A, 0x20, 0x82, 0xA4, 0x81, 0xED, 0x01, 0x7B, 0x9D, 0xCE, 0x0A, 0x4C]

set_option maxRecDepth 100000 in
theorem witness_clear_2 : declared.commandCheck clearCommand2 144 0x54 0x43 declared.keeper.theftNonce 16 true = 1 ∧
    clearCommand2.getD 3 0 = 0 ∧ clearCommand2.getD 2 0 = 2 := by decide +kernel

/-- An entry at the head of ring 2. -/
def ring2 (c : Chip) (e : Entry) : Chip := (c.upRing 2 (fun _ => { sizeLog2 := 6, base := 512, consumer := 0x03, head := 1 })).putEntry 512 e

theorem witness_clear_apply : declared.awake = true ∧ declared.keeper.theft = .declared ∧ (theftIs .armed 0).keeper.theft ≠ .declared ∧
    (let c := ring2 { declared with rules := { clearTo := [.armed] } } [0x03000002, 0, 0, 0, 0, 0, 0, 0];
      c.awake = true ∧ c.sweeping = true ∧ c.headCommand = some 2 ∧ c.rules.clearTo = [.armed] ∧ c.keeper.theft = .declared ∧
        c.rules.pendingSets = [] ∧ c.rules.order = []) := by decide +kernel

/-- Rule 255: when FLAG 0 is as its term asks, FLAG 7 is set, in the modes of its guard. -/
def flagRule (v guard : Nat) : Rule :=
  { en := true, condition := true, guard := guard, terms := [{ signal := 0x20, op := 0, value := v }], acts := [{ code := 0x0F, target := 7, value := 1 }] }

/-- The block with that rule alone, and an entry on ring 2. -/
def ruled (v guard : Nat) (fired : Bool) (e : Entry) : Chip :=
  ring2 { up with rules := { order := [255], rules := (List.replicate 256 ({} : Rule)).set 255 (flagRule v guard), fired := List.replicate 256 fired } } e

theorem witness_sweep : (∀ v ∈ [0, 1], ∀ g ∈ [0x00, 0xFF], ∀ f : Bool, let c := ruled v g f [0x01000000, 0, 0, 0, 0, 0, 0, 0];
      c.awake = true ∧ c.sweeping = true ∧ c.held = false ∧ c.behind c.rings.obsRule = 0 ∧ c.rules.pendingSets = [] ∧ (c.ring 2).fill ≠ 0 ∧
        c.headCommand = none ∧ c.rules.order = [255] ∧ c.rules.rules.getD 255 {} = flagRule v g ∧ 255 < c.rules.fired.length ∧
        FlagRule (flagRule v g) 7 ∧ (flagRule v g).condition = true ∧ (flagRule v g).hold = 0 ∧
        c.termResult (flagRule v g) = decide (v = 0) ∧ c.rules.fired.getD 255 false = f ∧ (flagRule v g).guard.testBit c.mode = decide (g = 0xFF)) ∧
    (∀ g ∈ [0x00, 0xFF], let c := ruled 0 g false [0x03000001, 255, 0, 0, 0, 0, 0, 0];
      c.headCommand = some 1 ∧ (ew (c.entryAt ((c.ring 2).slot (c.ring 2).tail)) 1).toNat = 255 ∧ c.sweeping = true ∧ c.held = false ∧
        (flagRule 0 g).guard.testBit c.mode = decide (g = 0xFF)) ∧
    (let c := { up with keeper := { powered := true, timers := List.replicate 64 { running := true, remain := 0 } },
                        rules := { rules := [{ en := true, condition := true, hold := 5, holdTimer := 63 }] } };
      c.awake = true ∧ (c.keeper.timers.getD 63 {}).running = true ∧ (c.keeper.timers.getD 63 {}).remain = 0 ∧
        c.rules.rules.any (fun r => decide (r.timer = some 63)) = true) := by
  simp only [FlagRule]; decide +kernel

/-- The edit buffer holds a rule: no term, SET_FLAG 1 of flag 3. -/
def editing (ctl pad : Nat) : Chip :=
  ((((up.setReg 0x0C20 (wd 255)).setReg 0x0C21 (wd (ctl + 0xFF00))).setReg 0x0C22 (wd (0xFF0000 + pad * 2 ^ 24))).setReg 0x0C26 (wd 0x0001030F))

set_option maxRecDepth 100000 in
theorem witness_rule_edit : (let c := editing 2 0;
      c.awake = true ∧ c.hostOpen = true ∧ c.rf 0x0C20 7 0 = 255 ∧ ruleForm (c.bufBytes 0x0C21 9) = true ∧
        tableCheck c.projected.2 (c.projected.1.set 255 { Rule.ofBytes (c.bufBytes 0x0C21 9) with en := (c.projected.1.getD 255 {}).en }) = (0, 0)) ∧
    ruleForm ((editing 2 1).bufBytes 0x0C21 9) = false ∧ ruleForm ((editing 16 0).bufBytes 0x0C21 9) = false ∧
    (tableCheck up.projected.2 (up.projected.1.mapIdx (fun _ r => { r with en := false }))).1 = 0 ∧
    (let c := { up with rules := { rules := (List.replicate 256 ({} : Rule)).set 9 { terms := [{ signal := 0xFF }] } } };
      (tableCheck c.projected.2 (c.projected.1.mapIdx (fun n r => { r with en := decide (n = 9) }))).1 ≠ 0) := by decide +kernel

/-- A circle of 10 m around the origin, or of 9 m, in the fence buffer. -/
def fencing (radius : Nat) : Chip := ((up.setReg 0x0C80 (wd 15)).setReg 0x0C81 (wd 0x0101)).setReg 0x0C83 (wd radius)

set_option maxRecDepth 100000 in
theorem witness_rule_settings :
    (let c := withReg 0x0C62 meterCeil; c.awake = true ∧ c.hostOpen = true ∧ c.rf 0x0C61 3 0 < c.keeper.meters.length ∧ (c.reg 0x0C62).toNat ≤ meterCeil) ∧
    meterCeil < ((withReg 0x0C62 (meterCeil + 1)).reg 0x0C62).toNat ∧
    (let c := metered { pendingSet := some 36 }; c.awake = true ∧ (c.meter 15).pendingSet = some 36) ∧
    fenceMalformed ((fencing 10).bufBytes 0x0C81 35) = false ∧ fenceMalformed ((fencing 9).bufBytes 0x0C81 35) = true ∧
    (let src := (List.range 8).map (fun i => (withReg 0x0C70 0x1000).reg (0x0C70 + i));
      src.all (fun w => decide (fld w 12 8 ≤ 16)) = true ∧ (loadOrder (watchMods src) up.projected.1).2 = none) ∧
    ((List.range 8).map (fun i => (withReg 0x0C77 0x1100).reg (0x0C70 + i))).any (fun w => decide (16 < fld w 12 8)) = true ∧
    (∀ w ∈ [10, 3600], let c := withReg 0x0CC1 (w * 65536 + 1);
      c.hostOpen = true ∧ 10 ≤ c.rf 0x0CC1 27 16 ∧ c.rf 0x0CC1 27 16 ≤ 3600 ∧ c.rf 0x0CC1 3 0 ≠ 0) ∧
    (let c := { up with rules := { pendingSets := [.theft 3 60 true] } }; c.awake = true ∧ c.rules.pendingSets = [.theft 3 60 true]) ∧
    ({ up with rules := { pendingSets := [.edit 255 {}] } } : Chip).rules.pendingSets = [.edit 255 {}] := by decide +kernel

/-! ### Witnesses: the front end -/

/-- Every sequencer in one condition, its slot 63 holding a word. -/
def seqd (q : Sequencer) (w : Nat) : Chip :=
  (List.range 4).foldl (fun c m => c.setRun (0x1100 + 64 * m + 63) (wd w)) { up with seqs := List.replicate 4 q }

/-- An open sequencer at its slot 63. -/
def openAt : Sequencer := { opened := true, first := 63, slot := 63, period := 64 }

/-- A converting slot. -/
def atWork (w : Nat) (q : Sequencer) : Chip := seqd { q with opened := true, first := 63, slot := 63, period := 64, round := true } w

theorem witness_round : ∀ m, m < 4 →
    (let c := seqd openAt 0x02003400;
      c.awake = true ∧ (c.seq m).opened = true ∧ (c.seq m).suspended = false ∧ c.converterOn = true ∧ (c.seq m).round = false ∧
        (c.seq m).listening = false ∧ (c.seq m).listenDue = false ∧ c.burnish.under = false ∧ c.slotSkipped (c.slotWord m (c.seq m).first) = false ∧
        c.armedSet (0x1200 + m) = none ∧ (c.newRound m).slotFree m (c.slotWord m (c.seq m).first) = true) ∧
    (let c := atWork 0x02003400 {}; (c.seq m).round = true ∧ c.converterOn = true) := by decide +kernel

/-- Sequencer 0 runs an awl test on the position that sequencer 1 is to convert. -/
def meeting : Chip := let c := seqd openAt 0x02803400; { c with seqs := c.seqs.set 0 { openAt with round := true } }

theorem witness_round_waits : meeting.awake = true ∧ (meeting.seq 1).opened = true ∧ (meeting.seq 1).suspended = false ∧ meeting.converterOn = true ∧
    (meeting.seq 1).round = false ∧ (meeting.seq 1).listening = false ∧ (meeting.seq 1).listenDue = false ∧ meeting.burnish.under = false ∧
    meeting.slotSkipped (meeting.slotWord 1 63) = false ∧ meeting.armedSet 0x1201 = none ∧ (meeting.newRound 1).slotFree 1 (meeting.slotWord 1 63) = false := by
  decide +kernel

theorem witness_sample : ∀ m, m < 4 →
    (let c := atWork 0x02003400 {}; c.awake = true ∧ c.converting m = some (c.slotWord m 63) ∧ (c.chain m).swapPending = false ∧
      (c.seq m).pendingOpen = none ∧ (c.seq m).sinceRestart + 1 < settleCount (slotPreset (c.slotWord m 63)) ∧ c.runB (0x1200 + m) 8 = false) ∧
    (let c := atWork 0x02003400 { sinceRestart := 29 }; c.converting m = some (c.slotWord m 63) ∧
      settleCount (slotPreset (c.slotWord m 63)) ≤ (c.seq m).sinceRestart + 1 ∧ (c.seq m).awlSpan = 0 ∧
      (c.seq m).taken + 1 < slotRepeat (c.slotWord m 63) ∧ (c.seq m).samples.length < 3) := by decide +kernel

theorem witness_seq_arm : ∀ m, m < 4 →
    (let c := atWork 0x02003400 {}; c.awake = true ∧ c.hostOpen = true ∧ c.silent 0 = false ∧ (c.seq m).round = true ∧
      seqCheck (fun i => c.reg (0x1100 + 64 * m + i)) (c.rf (0x1000 + m) 13 8) (c.rf (0x1000 + m) 27 16) ≠ 0) ∧
    (let c := (atWork 0x02003400 {}).setReg (0x1100 + 64 * m) (wd 0x02003400); (c.seq m).round = true ∧ c.silent 0 = false ∧
      seqCheck (fun i => c.reg (0x1100 + 64 * m + i)) (c.rf (0x1000 + m) 13 8) (c.rf (0x1000 + m) 27 16) = 0) ∧
    (∀ b : Bool, let c := { up.setReg (0x1100 + 64 * m) (wd 0x02003400) with modes := { mode := 1 }, seqs := List.replicate 4 {} };
      let c := c.setReg (0x1000 + m) (wd (b2n b));
      c.awake = true ∧ c.hostOpen = true ∧ (c.seq m).round = false ∧ (c.seq m).opened = false ∧ c.live 0 = true ∧ m < c.seqs.length ∧
      seqCheck (fun i => c.reg (0x1100 + 64 * m + i)) (c.rf (0x1000 + m) 13 8) (c.rf (0x1000 + m) 27 16) = 0 ∧
      (c.applyWords (c.shadow (0x1000 + m) 1 ++ c.shadow (0x1100 + 64 * m) 64)).runB (0x1000 + m) 0 = b ∧ c.converterOn = false) := by decide +kernel

/-- Run signature on, on modulator 3; its thresholds. -/
def runOn (q : Sequencer) (r : RunSig) : Chip :=
  (((up.setRun 0x1010 (wd 0x70400000)).setRun 0x1011 (wd 0x2EE000C8)).setRun 0x1012 (wd 1)) |> fun c =>
    { c with seqs := List.replicate 4 q, runSig := r }

theorem witness_run : (let c := runOn {} {}; c.awake = true ∧ c.runB 0x1010 30 = true ∧ c.converterOn = true ∧ c.runF 0x1010 29 28 = 3 ∧
      3 < c.seqs.length ∧ c.converting 3 = none ∧ (c.seq 3).stolen = false) ∧
    (let c := runOn { opened := true, round := true } {}; (c.converting 3).isSome = true) ∧
    (let c := runOn { listening := true } {}; (c.seq 3).listening = true ∧ (c.seq 3).round = false ∧ c.armedSet 0x1010 = none ∧
      c.runSig.conf ≤ c.runLevel (((1000, 50, 0) :: c.runSig.history).take 8)) ∧
    (∀ f ∈ [0, 1], let c := runOn { listening := true } { conf := 2, fails := f };
      c.runLevel (((1000, 50, 0) :: c.runSig.history).take 8) < c.runSig.conf ∧ c.runSig.fails = f) ∧
    (let c := up.setReg 0x1011 (wd 199); c.hostOpen = true ∧ c.silent 0 = false ∧ c.rf 0x1011 15 0 < 200) ∧
    (let c := ((up.setReg 0x1010 (wd 0x0F000000)).setReg 0x1011 (wd 0x2EE000C8)).setReg 0x1012 (wd 2000);
      c.awake = true ∧ c.hostOpen = true ∧ c.live 0 = true ∧ c.seqs.any (fun q => q.listening) = false ∧ 200 ≤ c.rf 0x1011 15 0 ∧
      c.rf 0x1011 15 0 < c.rf 0x1011 31 16 ∧ c.rf 0x1011 31 16 ≤ 12000 ∧ 1 ≤ c.rf 0x1010 27 22 ∧ c.rf 0x1010 27 22 ≤ 60 ∧
      1 ≤ c.rf 0x1012 15 0 ∧ c.rf 0x1012 15 0 ≤ 2000) := by decide +kernel

/-- Field input 7 converted, its comparator in a state; FIGN in a state. -/
def finAt (st last : Nat) (fg : Bool) : Chip :=
  { up.setRun 0x1C17 (wd 0x28140001) with fin := { state := BitVec.ofNat 8 st, lastDiffers := BitVec.ofNat 8 last, fign := fg, fignDiffers := true } }

theorem witness_fields : (∀ last ∈ [0, 128], let c := finAt 0 last false;
      c.awake = true ∧ ffPowered c.mode = true ∧ c.runB 0x1C17 0 = true ∧ c.fin.state.getLsbD 7 = false ∧
      ((c.runF 0x1C17 31 24 : Nat) : Int) * 250 < 10001 ∧ (10000 : Int) ≤ ((c.runF 0x1C17 31 24 : Nat) : Int) * 250 ∧
      c.fin.lastDiffers.getLsbD 7 = decide (last = 128)) ∧
    (let c := finAt 128 128 true; c.fin.state.getLsbD 7 = true ∧ (4999 : Int) < ((c.runF 0x1C17 23 16 : Nat) : Int) * 250 ∧
      c.fin.lastDiffers.getLsbD 7 = true ∧ c.fin.fign = true ∧ c.fin.fignDiffers = true) ∧
    (finAt 0 0 false).fin.fignDiffers = true ∧
    (up.awake = true ∧ up.hostOpen = true ∧ up.silent 2 = false ∧ up.live 2 = true ∧
      (List.range 8).any (fun i => finBad ((withReg 0x1C10 0x14140000).reg (0x1C10 + i))) = true) ∧
    (let c := (List.range 8).foldl (fun c i => c.setReg (0x1C10 + i) (wd 0xF0140000)) up;
      (List.range 8).all (fun i => !finBad (c.reg (0x1C10 + i))) = true ∧ (List.range 8).all (fun i => !c.finConverted i) = true ∧
        c.live 2 = true ∧ c.silent 2 = false) := by decide +kernel

theorem witness_awl : (∀ m, m < 4 → let c := atWork 0x02803417 { awl := true }; c.awake = true ∧ c.converting m = some (c.slotWord m 63) ∧
      (c.seq m).awl = true ∧ c.girth.converterCut = false ∧ slotPos (c.slotWord m 63) = 23) ∧
    (awlClass 1 1000 100 5 (-5) 0 200 0 = 1 ∧ awlClass 1 1000 100 5 (-5) 0 1000 0 = 2) ∧
    (∀ m, m < 4 → let c := withReg (0x1200 + m) 0x00010000; c.awake = true ∧ c.hostOpen = true ∧ c.silent 0 = false ∧
      c.rf (0x1200 + m) 23 16 ≠ 0) ∧
    (∀ m, m < 4 → shiftBad (((withReg (0x1200 + m) 0x00010000).setReg (0x1204 + m) (wd 0)).reg (0x1204 + m)) = true ∧
      shiftBad (((withReg (0x1200 + m) 0x00010000).setReg (0x1204 + m) (wd 0x09249249)).reg (0x1204 + m)) = false) := by decide +kernel

theorem witness_banks : (∀ m, m < 4 → (atWork 0x02003400 {}).live 0 = true ∧ m < up.chains.length ∧ (up.chain m).held = false ∧
      ((atWork 0x02003400 {}).converting m).isSome = true ∧ ((atWork 0x02003400 {}).chain m).held = false ∧ up.converting m = none) ∧
    (∀ m, m < 4 → let c := { up with chains := List.replicate 4 { held := true, swapPending := true } };
      c.awake = true ∧ (c.chain m).held = true ∧ (c.chain m).swapPending = true) ∧
    (let c := withReg 0x1210 0x0387; c.hostOpen = true ∧ c.live 0 = true ∧ c.rf 0x1210 9 8 = 3 ∧ c.rf 0x1210 7 0 = 135 ∧
      3 < c.chains.length ∧ (c.chain 3).held = false) ∧ (withReg 0x1210 0x0388).rf 0x1210 7 0 = 136 := by decide +kernel

/-! ### Witnesses: excitation, monitor, pin checks and burnish -/

/-- Excitation channels in one condition, of one mode. -/
def excAt (mode : Nat) (x : ExcChannel) : Chip :=
  (List.range 4).foldl (fun c i => c.setRun (0x1800 + i) (wd (mode * 256))) { up with exc := List.replicate 4 x }

theorem witness_codes : (∀ ch, ch < 4 → up.awake = true ∧ up.hostOpen = true ∧ up.live 0 = true ∧ ch < up.exc.length ∧ up.excWanted ch = false) ∧
    (∀ ch, ch < 4 → (excAt 2 {}).excWanted ch = true ∧ ((excAt 2 {}).excCh ch).driven = false) ∧
    (∀ ch, ch < 4 → let c := excAt 2 { driven := true, drive := 0x0FFF };
      c.excWanted ch = true ∧ (c.excCh ch).driven = true ∧ (c.excCh ch).hold = false ∧
        ((c.setReg (0x1804 + ch) (wd (0x0800 % 65536))).excDrive ch).1 / 4096 = (c.excCh ch).drive / 4096 ∧
        ((c.setReg (0x1804 + ch) (wd (0x1000 % 65536))).excDrive ch).1 / 4096 ≠ (c.excCh ch).drive / 4096) ∧
    (∀ ch, ch < 4 → let c := excAt 2 { driven := true, hold := true };
      c.excWanted ch = true ∧ (c.excCh ch).driven = true ∧ (c.excCh ch).hold = true ∧ c.armedSet (0x1800 + ch) = none) ∧
    (∀ ch, ch < 4 → (withReg (0x1800 + ch) 0x00C90000).silent 0 = false ∧ (withReg (0x1800 + ch) 0).rf (0x1800 + ch) 23 16 = 0 ∧
      200 < (withReg (0x1800 + ch) 0x00C90000).rf (0x1800 + ch) 23 16) ∧
    (∀ ch, ch < 4 → let c := withReg (0x1800 + ch) 0x00C80200; c.rf (0x1800 + ch) 23 16 ≠ 0 ∧ c.rf (0x1800 + ch) 23 16 ≤ 200 ∧
      c.rf (0x1800 + ch) 9 8 ≠ 3 ∧ (c.excCh ch).driven = false ∧ c.live 0 = true ∧ (c.excCh ch).hold = false) := by decide +kernel

theorem witness_monitor : (∀ i, i < 16 → (withRun 0x1901 0xFFFF).awake = true ∧ (withRun 0x1901 0xFFFF).converterOn = true ∧
      (withRun 0x1901 0xFFFF).girth.converterCut = false ∧ (withRun 0x1901 0xFFFF).runB 0x1901 i = true) ∧
    (∀ i ∈ [4, 5, 6, 7, 8, 9, 10], let c := { withRun 0x1901 0xFFFF with mon := { failed := 0xFFFF } };
      c.mon.failed.getLsbD i = true ∧ (c.monFails i 0).isSome = true) ∧
    (withRun 0x1901 0xFFFF).monFails 4 2475 = none ∧ (withRun 0x1901 0xFFFF).monFails 4 2474 = some 2 ∧
    (withRun 0x1901 0xFFFF).monFails 12 0 = none ∧ up.live 2 = true ∧
    (withRun 0x1C20 2).runB 0x1C20 1 = true ∧ (withRun 0x1C20 2).fin.fign = false ∧
    (let c := { up with fin := { fign := true }, power := { up.power with fvinPresent := false } };
      c.awake = true ∧ c.fin.fign = true ∧ c.power.fvinPresent = false) := by decide +kernel

/-- A burnish that is under way with its steps. -/
def burning (target : Nat) (left : List BurnishStep) (cal : List Byte) : Chip :=
  { up with burnish := { under := true, target := target, mask := 1, left := left, begun := true, calUse := cal } }

/-- Corrections of offset 0 and gain 1. -/
def unity : List Byte := (List.replicate 80 [0, 0, 0, 0x40, 0, 0, 0, 0]).flatten

theorem witness_burnish : (up.awake = true ∧ up.hostOpen = true ∧ up.converterOn = true ∧ up.held = false ∧ up.burnish.under = false) ∧
    ({ up with modes := { mode := 1 } } : Chip).converterOn = false ∧
    (let c := burning 4 [.offset 0 0, .offset 0 1] unity; c.awake = true ∧ c.converterOn = true ∧ c.held = false ∧ c.burnish.under = true ∧
      c.runningStep 0 = some (.offset 0 0) ∧ (c.seq 0).stolen = false ∧
      ({ c with burnish := { c.burnish with left := c.burnish.left.erase (.offset 0 0), done := c.burnish.done ++ [(.offset 0 0, 4194304, 0)] } } : Chip).burnishOut = false ∧
      ({ c with burnish := { c.burnish with left := c.burnish.left.erase (.offset 0 0), done := c.burnish.done ++ [(.offset 0 0, 4194305, 0)] } } : Chip).burnishOut = true ∧
      c.burnish.target.testBit 2 = true ∧ c.burnish.left.erase (.offset 0 0) ≠ []) ∧
    (let c := burning 0 [.offset 0 0] unity; c.runningStep 0 = some (.offset 0 0) ∧ c.burnish.target.testBit 2 = false ∧
      c.burnish.left.erase (.offset 0 0) = [] ∧
      ({ c with burnish := { c.burnish with left := c.burnish.left.erase (.offset 0 0), done := c.burnish.done ++ [(.offset 0 0, 4194304, 0)] } } : Chip).burnishOut = false) := by
  decide +kernel

/-! ### Witnesses: GNSS -/

/-- The block in FIX with a fix in a state. -/
def fixing (x : FixState) : Chip := { inMode 3 with acq := { state := x } }

/-- A solution of the solver. -/
def solved (ok : Bool) : Solution :=
  { ok := ok, signals := 12, systems := 3, lat := 5, lon := 6, height := 7, hErr := 20, vErr := 30, speed := 0, heading := 0, towMs := 0, week := 0,
    cn0Max := 4500, l1Count := 8, l1Spread := 300, l5Count := 8, l5Spread := 300, isoNs := 0, doppler := 0, sigma3 := 0, clock := 0, raimExcl := false,
    raimFail := false, checked := true, offsets := [], drift := 0, driftUnc := 10, temp := 400, sec := 1000, sub := 0 }

/-- A burst whose engine 31 works on task 0. -/
def searching : Chip :=
  { inMode 3 with acq := { state := .burst, engines := List.replicate 31 none ++ [some 0],
                           tasks := [{ system := 0, band := 0, sv := 32, cls := 2, phase := 0, passesLeft := 0 }] } }

theorem witness_fix : (let c := { fixing .waiting with acq := { state := .waiting } };
      c.awake = true ∧ c.acq.state = .waiting ∧ c.acq.wantBurst = false ∧ rgPowered c.mode = true ∧ c.girth.radioRefused = false) ∧
    (∀ b : Bool, ((fixing .waiting).setRun 0x2001 (wd (268435456 * b2n b))).runB 0x2001 28 = b) ∧
    ((fixing .capturing).awake = true ∧ (fixing .capturing).acq.state = .capturing ∧ (fixing .capturing).blankedOut [] = false ∧
      (fixing .capturing).blankedOut [(0, 0), (0, 0)] = false ∧ (fixing .capturing).blankedOut [(0, 0), (0, 0), (0, 0)] = true ∧
      (fixing .capturing).acq.retaken = false) ∧
    (let c := { inMode 3 with acq := { state := .capturing, retaken := true } }; c.blankedOut [(0, 508)] = true ∧ c.acq.retaken = true) ∧
    (fixing .burst).acq.state = .burst ∧
    (searching.awake = true ∧ searching.acq.state = .burst ∧ searching.acq.engines.getD 31 none = some 0 ∧ searching.acq.tasks[0]?.isSome = true ∧
      searching.acq.tasks.getD 0 { system := 0, band := 0, sv := 0, cls := 0, phase := 0, passesLeft := 0, detected := true } =
        { system := 0, band := 0, sv := 32, cls := 2, phase := 0, passesLeft := 0 } ∧
      searching.channelFor 4000 = some 0 ∧ 0 < searching.track.channels.length) ∧
    ((fixing .solving).acq.state = .solving ∧ (solved true).ok = true ∧ (solved false).ok = false ∧ (fixing .solving).runB 0x2001 29 = false) := by
  decide +kernel

/-- A capture is under way and one GPS satellite is kept. -/
def keeping : Chip := { fixing .capturing with acq := { state := .capturing, keep := { present := true, eph := [{ system := 0, sv := 1, refSec := 0, words := [] }] } } }

/-- Where the kept satellite is predicted above the elevation mask, a free value of the model, phase A has a task. -/
theorem witness_phase_a (h : keeping.aboveMask { system := 0, sv := 1, refSec := 0, words := [] } = true) : keeping.phaseA ≠ [] := by
  have p : keeping.predicted = [{ system := 0, sv := 1, refSec := 0, words := [] }] := by
    unfold Chip.predicted
    rw [if_pos (by decide +kernel), show keeping.acq.keep.eph = [{ system := 0, sv := 1, refSec := 0, words := [] }] from by decide +kernel,
      List.filter_cons_of_pos (by rw [h]; decide +kernel), List.filter_nil]
  unfold Chip.phaseA
  rw [p]
  simp [List.mergeSort_singleton]

theorem witness_receiver_sets : (up.awake = true ∧ up.hostOpen = true ∧ up.acq.state = .idle ∧ up.therm.warning = false ∧ up.therm.trip = false) ∧
    ({ up with therm := { warning := true } } : Chip).therm.warning = true ∧
    (∀ b ∈ [0, 1, 2, 3], (withReg 0x2000 b).rf 0x2000 1 0 = b ∧ (withReg 0x2000 b).acq.state = .idle) ∧
    (∀ b ∈ [1, 3], ((fixing .burst).setReg 0x2000 (wd b)).rf 0x2000 1 0 = b ∧ ((fixing .burst).setReg 0x2000 (wd b)).acq.state ≠ .idle ∧
      ((fixing .burst).setReg 0x2000 (wd b)).hostOpen = true) ∧
    (withReg 0x2001 0x00A0101E).gacqPlanCheck = 0 ∧ (withReg 0x2001 0x0090101E).gacqPlanCheck ≠ 0 ∧ (withReg 0x2001 0x0090101E).hostOpen = true := by
  decide +kernel

/-- Tracking in FIX-and-LINK with channel 71 in a condition. -/
def tracking71 (x : Channel) : Chip := { inMode 6 with track := { channels := List.replicate 71 {} ++ [x] } }

/-- A measurement of channel 71. -/
def meas71 : Meas := { ch := 71, codePhase := 1, carrier := 0, doppler := 0, cn0 := 4000, txValid := false, txMs := 0, half := false, blanked := false, elapsed := 1 }

theorem witness_channels : (∀ a b : Bool, let c := tracking71 { busy := true, code := a, carrier := b, sv := 1 };
      c.awake = true ∧ (c.chan 71).busy = true ∧ (c.chan 71).code = a ∧ (c.chan 71).carrier = b ∧ dataOnly (c.chan 71).system (c.chan 71).band = true ∧
        c.tracking = true ∧ c.tb.mlg = true ∧ c.girth.radioRefused = false ∧ c.armedSet 0x2800 = none ∧ meas71.ch = 71) ∧
    (let c := tracking71 { busy := true, code := true, system := 1 }; dataOnly (c.chan 71).system (c.chan 71).band = false) ∧
    (let c := (tracking71 { busy := true, code := true }).upRing 18 (fun _ => { sizeLog2 := 6, consumer := 1, head := 63 });
      c.tracking = true ∧ c.tb.mlg = true ∧ (c.chan 71).code = true ∧ (c.ring 18).sizeLog2 ≠ 0 ∧ (c.ring 18).consumer ≠ 0 ∧ (c.ring 18).copying = false ∧
        (c.ring 18).size < (c.ring 18).fill + 2) ∧
    (tracking71 { busy := true }).awake = true ∧ ((tracking71 { busy := true }).chan 71).system ≤ 2 := by decide +kernel

theorem witness_solutions : (∀ p ∈ [PulseState.waiting, .running, .holdover], let c := { inMode 6 with track := { tp := p } };
      c.awake = true ∧ c.tracking = true ∧ c.track.tp = p ∧ c.track.tp ≠ .off ∧ c.runF 0x2C00 5 4 ≤ trustLevel (solved true) (c.trustFlags (solved true) false) ∧
        c.track.announced = none) ∧
    (∀ w ∈ [0x000F0001, 0x00230014], let c := withReg 0x2800 w; c.gtrkCheck = 0 ∧ c.tracking = false ∧ c.hostOpen = true) ∧
    (let c := (inMode 6).setReg 0x2800 (wd 0x000F0001); c.awake = true ∧ c.hostOpen = true ∧ c.gtrkCheck = 0 ∧ c.tracking = true) ∧
    (withReg 0x2800 0x000E0001).gtrkCheck ≠ 0 ∧ (withReg 0x2800 0x000E0001).hostOpen = true ∧
    (∀ w ∈ [0x052D, 0x323C], let c := withReg 0x2868 w; c.hostOpen = true ∧ 5 ≤ c.rf 0x2868 15 8 ∧ c.rf 0x2868 15 8 ≤ 50 ∧ 45 ≤ c.rf 0x2868 7 0 ∧
      c.rf 0x2868 7 0 ≤ 60) ∧
    (withReg 0x2868 0x042D).rf 0x2868 15 8 < 5 := by decide +kernel

/-- A pulse is announced, and TP drives. -/
def pulsing (p : PulseState) (rg : Bool) : Chip :=
  { inMode (if rg then 6 else 2) with track := { tp := p, announced := some [1, 0, 0, 0, 0, 0, 0, 0] } }

theorem witness_pulse : (pulsing .running true).awake = true ∧ (pulsing .running true).track.announced.isSome = true ∧ (pulsing .running true).tpDrives = true ∧
    (∀ p ∈ [PulseState.running, .holdover], (pulsing p false).track.tp = p ∧ (pulsing p false).tpDrives = false ∧ (pulsing p false).awake = true) ∧
    (∀ b : Bool, ((pulsing .holdover true).setRun 0x2C00 (wd (b2n b))).track.tp = .holdover ∧ ((pulsing .holdover true).setRun 0x2C00 (wd (b2n b))).runB 0x2C00 0 = b) ∧
    (∀ b : Bool, let c := ((up.setReg 0x2C00 (wd (b2n b))).setReg 0x2C01 (wd 0x000103E8)).setReg 0x2C02 (wd 3600);
      c.awake = true ∧ c.hostOpen = true ∧ c.tpCheck = 0 ∧ c.track.tp = .off ∧ c.track.announced = none ∧
        (c.applyWords (c.shadow 0x2C00 3)).runB 0x2C00 0 = b) ∧
    (withReg 0x2C01 0).tpCheck ≠ 0 ∧ (withReg 0x2C01 0).hostOpen = true := by decide +kernel

/-! ### Witnesses: the chirp radio -/

/-- An item of one entry at the head of a ring. -/
def onRing (c : Chip) (n : Nat) (e : Entry) : Chip := (c.upRing n (fun _ => { sizeLog2 := 6, base := 512, consumer := 0x09, head := 1 })).putEntry 512 e

/-- A transmit entry without payload: symbol order, power, and whether it hops. -/
def txEntry (k power hop : Nat) : Entry := [0x01000000, wd (0x00010800 + 16 * k + hop), wd 434000000, wd (power * 2 ^ 24), 0, 0, 0, 0]

/-- In LINK, RAMP 2, budget entry 3 enabled for 425-437.5 MHz at 10 dBm and a budget, LATE_MAX 1 ms. -/
def airing (budget : Nat) : Chip :=
  ((((inMode 4).setRun 0x3100 (wd 0x02000000)).setRun 0x3019 (wd (17500 * 65536 + 17000))).setRun 0x301A (wd (0x800A0000 + budget))).setRun 0x3002 (wd 0x00010000)

theorem witness_bursts : (∀ n ∈ [32, 33, 34, 35], let c := onRing (inMode 2) n (txEntry 6 10 0);
      c.awake = true ∧ c.headItem n = some (txEntry 6 10 0) ∧ c.radioRefusal = some 12) ∧
    (∀ n ∈ [32, 35], ∀ m ∈ [1, 2], let c := onRing ((inMode m).setRun 0x3100 (wd 0x02000000)) n (txEntry 6 10 0);
      c.awake = true ∧ c.headItem n = some (txEntry 6 10 0) ∧ c.radioRefusal = none ∧ c.modes.transition = none ∧ c.mode = m) ∧
    fld (ew (txEntry 6 10 0) 0) 31 24 = 1 := by decide +kernel

theorem witness_launch : (∀ n ∈ [32, 33, 34, 35], ∀ e ∈ [txEntry 6 10 0, txEntry 5 10 0, txEntry 6 11 0], let c := onRing (airing 1) n e;
      c.awake = true ∧ c.headItem n = some e ∧ c.radioRefusal = none ∧ rcPowered c.mode = true ∧ c.radio.state ≠ .transmitting ∧
        c.runF 0x3002 23 16 = 1) ∧
    (airing 1).formatBad (txEntry 5 10 0) = true ∧ (airing 1).formatBad (txEntry 6 10 0) = false ∧
    inBand ((airing 1).freqOf (txEntry 6 10 0)) (hBw (txEntry 6 10 0)) = true ∧
    (airing 1).budgetEntry ((airing 1).freqOf (txEntry 6 10 0)) (hBw (txEntry 6 10 0)) = some 3 ∧
    ((inMode 4).setRun 0x3100 (wd 0x02000000)).budgetEntry 434000000 0 = none ∧
    sx 8 (fld ((airing 1).runW 0x301A) 23 16) < hPower (txEntry 6 11 0) ∧ hPower (txEntry 6 10 0) ≤ sx 8 (fld ((airing 1).runW 0x301A) 23 16) ∧
    fld ((airing 0).runW 0x301A) 15 0 * 360000 < (airing 0).usedUs 3 + (airing 0).airOf (txEntry 6 10 0) ∧
    (airing 1).usedUs 3 + (airing 1).airOf (txEntry 6 10 0) ≤ fld ((airing 1).runW 0x301A) 15 0 * 360000 ∧ hHop (txEntry 6 10 0) = false ∧
    (airing 0).budgetEntry 434000000 0 = some 3 ∧ (airing 0).radioRefusal = none := by decide +kernel

/-- A frame is on air. -/
def onAir (fb : Nat) : Chip := { inMode 4 with radio := { state := .transmitting, tx := some { ring := 32, header := txEntry 6 10 0 }, foldback := fb } }

theorem witness_radio_sets : ((onAir 0).awake = true ∧ (onAir 0).hostOpen = true ∧ (onAir 0).radio.tx = some { ring := 32, header := txEntry 6 10 0 } ∧
      (onAir 5).radio.foldback < 6 ∧ (onAir 0).radio.foldback = 0 ∧ 6 ≤ (onAir 6).radio.foldback) ∧
    (up.girth.armed = [] ∧ up.radioQuiet = true ∧ (onAir 0).girth.armed = [] ∧ (onAir 0).radioQuiet = false) ∧
    (∀ w ∈ [0x80002710, 0x80000001, 0], (withReg 0x301A w).radioCheck 0x301C = 0 ∧ (withReg 0x301A w).hostOpen = true) ∧
    (∀ w ∈ [0x80002711, 0x80000000], (withReg 0x301A w).radioCheck 0x301C ≠ 0) ∧
    (∀ n ∈ [1, 64], let c := withReg 0x3020 (n * 65536 + 1); 1 ≤ c.rf 0x3020 22 16 ∧ c.rf 0x3020 22 16 ≤ 64 ∧ 1 ≤ c.rf 0x3020 15 0 ∧ c.radioQuiet = true) ∧
    (withReg 0x3020 1).rf 0x3020 22 16 < 1 ∧ 64 < (withReg 0x3020 0x00410001).rf 0x3020 22 16 ∧ (withReg 0x3020 0x00400000).rf 0x3020 15 0 < 1 ∧
    (let c := withReg 0x3100 0x02000000; 2 ≤ c.rf 0x3100 29 24 ∧ c.live 1 = true ∧ c.radioQuiet = true) ∧
    (let c := withReg 0x3100 0x01000000; c.rf 0x3100 29 24 < 2 ∧ c.silent 1 = false) := by decide +kernel

/-- A LISTEN entry: symbol order 6, yard code 0x2A. -/
def listenEntry : Entry := [0x02000000, 0x00010860, wd 434000000, 0x002A0000, 0, 0, 0, 0]

/-- In LINK with a listen window open. -/
def listening (x : RadioState) (hdr : Option Nat) : Chip :=
  { airing 1 with radio := { state := x, window := some { ring := 33, header := listenEntry, freq := 434000000 }, rxHeader := hdr } }

theorem witness_listen : (∀ n ∈ [32, 33, 34, 35], let c := onRing (airing 1) n listenEntry;
      c.awake = true ∧ c.headItem n = some listenEntry ∧ fld (ew listenEntry 0) 31 24 = 2 ∧ c.radioRefusal = none ∧ rcPowered c.mode = true ∧
        c.radio.window = none) ∧
    (onRing (inMode 4) 32 listenEntry).radioRefusal = some 12 ∧ (onRing (inMode 4) 32 listenEntry).headItem 32 = some listenEntry ∧
    (∀ x ∈ [RadioState.searching, .receiving], (listening x none).awake = true ∧ (listening x none).radio.state = x ∧ (listening x none).radio.window.isSome = true ∧
      (listening x none).radio.gotFrame = false ∧ (listening x none).radio.rxHeader = none) ∧
    syncCode 6 (2 * 4) (10 * 4) = some 0x2A ∧ fld (ew listenEntry 3) 23 16 = 0x2A ∧ syncCode 6 (15 * 4) (15 * 4) = some 0xFF ∧
    ((listening .searching none).setRun 0x3000 (wd 0x01000000)).runB 0x3000 24 = true ∧ (listening .searching none).runB 0x3000 24 = false ∧
    crc8 24 0x000102 0 = crc8 24 0x000102 0 ∧ crc8 24 0x000102 0 ≠ crc8 24 0x000102 0 + 1 ∧
    (let c := listening .receiving (some 0x000102); c.awake = true ∧ c.mode ≠ 7 ∧ c.radio.state = .receiving ∧ c.radio.rxHeader = some 0x000102 ∧
      (c.ring 36).consumer ≠ 0x0A ∧ c.rxRing = 36 ∧ [0, 0].length = 0x000102 % 256) := by decide +kernel

/-! ### Witnesses: the yard -/

/-- A yard key, and a radio setting of order 6. -/
def yardKeys : YardRecord := { present := true, code := 0x2A, key := List.replicate 16 7, number := some 5, era := 3 }
def setting : RadioSetting := { freq := 434000000, k := 6, preLen := 8 }

/-- A unit of the yard, lead or member number 5, valid time. -/
def inYard (lead : Bool) (y : Yard) : Chip :=
  { inMode 2 with
    mram := { keys := { locked := true, recoveryKeyHash := recoveryHash, yard := yardKeys } }
    keeper := { powered := true, valid := true, tsrc := 3, sec := 1000 }
    yard := { y with sec := { present := true, lead := lead, slot := setting, beacon := setting, alarm := setting, templates := List.replicate 16 {} } } }

/-- The entries of a frame at the head of ring 36. -/
def heardFrame (c : Chip) (es : List Entry) : Chip :=
  let c1 := c.upRing 36 (fun _ => { sizeLog2 := 6, base := 512, consumer := 0x0A, head := BitVec.ofNat 16 es.length })
  { c1 with rings := { c1.rings with mem := es.mapIdx (fun i e => (512 + i, e)) } }

/-- The frame as the unit reads it. -/
def headOf (c : Chip) : RxYard := c.yardHead.getD { entry := [], len := 0, ptype := 0, src := 0, dst := 0, flags := 0, era := 0, seq := 0, header := [], sealed := [] }

/-- A beacon body of 54 bytes; ACK bits of byte 14. -/
def beaconBody (acks : Nat) : List Byte := List.replicate 14 0 ++ [BitVec.ofNat 8 acks] ++ List.replicate 39 0

/-- A command body: OPCODE, ARG, CTIME 1000, data. -/
def commandBody (op arg : Nat) (data : List Byte) : List Byte := bytesOf [op, arg] ++ leBytes 4 1000 ++ data

/-- Frames for a member, sealed outside the model: PTYPE, body, entries. Two beacons, two alarms, an ALARM_ACK and two offers. -/
def memberFrames1 : List (Nat × List Byte × List Entry) :=
  [(1, [0, 0, 0, 0, 0, 0, 0, 0, 0, 0, 0, 0, 0, 0, 32, 0, 0, 0, 0, 0, 0, 0, 0, 0, 0, 0, 0, 0, 0, 0, 0, 0, 0, 0, 0, 0, 0, 0, 0, 0, 0, 0, 0, 0, 0, 0, 0, 0, 0, 0, 0, 0, 0, 0],
    [[0x1014043, 0, 0, 0, 0, 0, 0, 0],
     [0x301FF00, 0x900, 0x92CEC800, 0x2D05DE51, 0x3FF58AFC, 0x58AF20D2, 0x6E808515, 0x99706F8C],
     [0xD5CAAEBB, 0xD3C13DE4, 0x73CEB02, 0xF3461B58, 0x15BEF33D, 0xB202A458, 0xD4BFFA31, 0x3B93BAB4],
     [0x9D3F09, 0, 0, 0, 0, 0, 0, 0]]),
   (1, [0, 0, 0, 0, 0, 0, 0, 0, 0, 0, 0, 0, 0, 0, 0, 0, 0, 0, 0, 0, 0, 0, 0, 0, 0, 0, 0, 0, 0, 0, 0, 0, 0, 0, 0, 0, 0, 0, 0, 0, 0, 0, 0, 0, 0, 0, 0, 0, 0, 0, 0, 0, 0, 0],
    [[0x1014043, 0, 0, 0, 0, 0, 0, 0],
     [0x301FF00, 0x900, 0x92CEC800, 0x2D05DE51, 0x3FF58AFC, 0x78AF20D2, 0x6E808515, 0x99706F8C],
     [0xD5CAAEBB, 0xD3C13DE4, 0x73CEB02, 0xF3461B58, 0x15BEF33D, 0xB202A458, 0xD4BFFA31, 0x2893BAB4],
     [0xDE7AC3, 0, 0, 0, 0, 0, 0, 0]]),
   (5, [1, 9, 2, 0, 0],
    [[0x1054012, 0, 0, 0, 0, 0, 0, 0],
     [0x301FF09, 0x900, 0x5503C700, 0x6E395DC, 0xAAA8, 0, 0, 0]]),
   (5, [1, 9, 3, 0, 0],
    [[0x1054012, 0, 0, 0, 0, 0, 0, 0],
     [0x301FF09, 0x900, 0x5403C700, 0x7CC295DC, 0xE073, 0, 0, 0]]),
   (6, [5, 1],
    [[0x106400F, 0, 0, 0, 0, 0, 0, 0],
     [0x301FF00, 0x900, 0x8AA07D00, 0x7C99FA, 0, 0, 0, 0]]),
   (8, [0, 0, 0, 0, 0, 0, 0, 0, 6, 4, 0],
    [[0x1084018, 0, 0, 0, 0, 0, 0, 0],
     [0x302FF00, 0, 0x7E225E00, 0x9DDAA074, 0xDF912B32, 0xF801A2B6, 0, 0]]),
   (8, [1, 0, 0, 0, 0, 0, 0, 0, 6, 4, 0],
    [[0x1084018, 0, 0, 0, 0, 0, 0, 0],
     [0x302FF00, 0, 0x7E225F00, 0x9DDAA074, 0xDF912B32, 0x94F3E5FF, 0, 0]])]

/-- Commands for member 5 with OPCODE 1, 3, 4, 5 and 2. -/
def memberFrames2 : List (Nat × List Byte × List Entry) :=
  [(4, [1, 0, 232, 3, 0, 0],
    [[0x1044413, 0, 0, 0, 0, 0, 0, 0],
     [0x3000500, 0x900, 0x7BE5A00, 0xFA239A51, 0x89A1D5, 0, 0, 0]]),
   (4, [3, 0, 232, 3, 0, 0],
    [[0x1044413, 0, 0, 0, 0, 0, 0, 0],
     [0x3000500, 0x900, 0x7BE5800, 0xF8239A51, 0x23341C, 0, 0, 0]]),
   (4, [4, 0, 232, 3, 0, 0],
    [[0x1044413, 0, 0, 0, 0, 0, 0, 0],
     [0x3000500, 0x900, 0x7BE5F00, 0x12239A51, 0xE8F0F1, 0, 0, 0]]),
   (4, [5, 0, 232, 3, 0, 0],
    [[0x1044413, 0, 0, 0, 0, 0, 0, 0],
     [0x3000500, 0x900, 0x7BE5E00, 0xC3239A51, 0xBE8EF6, 0, 0, 0]]),
   (4, [2, 0, 232, 3, 0, 0, 0, 0, 0, 0, 0, 0, 0, 0, 0, 0, 0, 0, 0, 0, 0, 0, 0, 0, 0, 0, 0, 0, 0, 0, 0, 0, 0, 0, 0, 0, 0, 0],
    [[0x1044433, 0, 0, 0, 0, 0, 0, 0],
     [0x3000500, 0x900, 0x7BE5900, 0xA5239A51, 0x438FDFAF, 0x3D8A1961, 0x20F5D287, 0xC99A6FE0],
     [0x1408732F, 0xED1239CC, 0x5DBC9C28, 0x7C4ACFA1, 0x8B20AC, 0, 0, 0]])]

/-- Frames for the lead: a report, a reply, an alarm, a request and a confirm of number 5. -/
def leadFrames : List (Nat × List Byte × List Entry) :=
  [(2, [0, 0, 0, 1],
    [[0x1024411, 0, 0, 0, 0, 0, 0, 0],
     [0x3000005, 0x900, 0xC9435500, 0x2633C2CF, 0xA3, 0, 0, 0]]),
   (3, [5, 0, 7, 0, 0, 0],
    [[0x1034413, 0, 0, 0, 0, 0, 0, 0],
     [0x3000005, 0x900, 0xE7BAF600, 0xD0BD2A46, 0xF8575A, 0, 0, 0]]),
   (5, [1, 5, 0, 0, 0],
    [[0x1054012, 0, 0, 0, 0, 0, 0, 0],
     [0x301FF05, 0x900, 0xE9C55500, 0x888B111B, 0xB045, 0, 0, 0]]),
   (7, [77, 0, 0, 0, 0, 0, 0, 0, 254, 3, 0],
    [[0x1074018, 0, 0, 0, 0, 0, 0, 0],
     [0x30200FF, 0, 0xBCEAB200, 0xCFFCDE73, 0xC5F11FD3, 0x9E0073D9, 0, 0]]),
   (9, [77, 0, 0, 0, 0, 0, 0, 0],
    [[0x1094415, 0, 0, 0, 0, 0, 0, 0],
     [0x3000005, 0x900, 0x977CA400, 0x5FA890AB, 0xADAE0751, 0x60, 0, 0]])]

set_option maxRecDepth 100000 in
theorem witness_member_frames : ∀ x ∈ memberFrames1, let c := heardFrame (inYard false { miniListen := 2, buckle := .requested }) x.2.2;
    c.awake = true ∧ c.yard.sec.lead = false ∧ (headOf c).ptype = x.1 ∧ NewFrame c (headOf c) x.2.1 := by
  simp only [NewFrame]; decide +kernel

set_option maxRecDepth 100000 in
theorem witness_member_commands : ∀ x ∈ memberFrames2, let c := heardFrame (inYard false {}) x.2.2;
    c.awake = true ∧ c.yard.sec.lead = false ∧ (headOf c).ptype = x.1 ∧ NewFrame c (headOf c) x.2.1 := by
  simp only [NewFrame]; decide +kernel

set_option maxRecDepth 100000 in
theorem witness_member_duplicates : ∀ x ∈ [memberFrames1.getD 0 (0, [], []), memberFrames1.getD 2 (0, [], []), memberFrames2.getD 3 (0, [], [])],
    let c := heardFrame (inYard false { miniListen := 2, replay := [0, 9].map (fun n => { src := n, era := 3, high := 9, seen := [9] }) }) x.2.2;
    c.awake = true ∧ c.yard.sec.lead = false ∧ (headOf c).ptype = x.1 ∧ OldFrame c (headOf c) x.2.1 := by
  simp only [OldFrame]; decide +kernel

theorem witness_member_conditions : ackBit (beaconBody 32) 5 = true ∧ ackBit (beaconBody 0) 5 = false ∧
    (∀ p ∈ [2, 9], (inYard false { lastSent := p }).yard.lastSent = p ∧ (inYard false { lastSent := p }).yardNumber = some 5) ∧
    (∀ v : Bool, ({ inYard false {} with keeper := { valid := v } } : Chip).keeper.valid = v) ∧
    (inYard false { miniListen := 2 }).miniOn = true ∧
    (inYard false {}).commandFresh (commandBody 5 0 []) = true ∧ (inYard false {}).commandFresh (bytesOf [5, 0] ++ leBytes 4 1129) = false ∧
    (inYard false {}).commandFresh (bytesOf [5, 0] ++ leBytes 4 1128) = true ∧
    (inYard false {}).mayProduce 0x0A 6 = false ∧
    (∀ h ∈ [0, 63, 64], let c := (inYard false {}).upRing 6 (fun _ => { sizeLog2 := 6, producer := 0x0A, consumer := 0x0D, head := BitVec.ofNat 16 h });
      c.mayProduce 0x0A 6 = true ∧ (c.ring 6).free = 64 - h ∧ (c.ring 6).active = .lossless ∧ (c.ring 6).consumer ≠ 0 ∧ (c.ring 6).copying = false ∧
        (c.ring 6).waiting = []) ∧
    (let c := (inYard false {}).upRing 33 (fun _ => { sizeLog2 := 6, producer := 0x03, consumer := 0x0A });
      c.silent 1 = false ∧ c.girth.radioRefused = false ∧ (c.ring 33).sizeLog2 ≠ 0 ∧ (c.ring 33).consumer ≠ 0 ∧ (c.ring 33).copying = false ∧
        (c.ring 33).active = .lossless ∧ (c.ring 33).full = false ∧ (c.ring 33).waiting = []) ∧
    (laneIs 1 .silent).silent 1 = true ∧
    (let c := inYard false { alarm := some { origin := 5, id := 1, hops := 0, rule := 0, theft := 0 } };
      c.yard.alarm = some { origin := 5, id := 1, hops := 0, rule := 0, theft := 0 }) := by decide +kernel

/-- A lead in DUTY with ring 40 full or empty and a command in progress. -/
def leading (full : Bool) (y : Yard) : Chip :=
  { (inYard true { y with commands := [{ ptype := 4, dst := 5, seq := 7, body := [] }] }).upRing 40
      (fun _ => { sizeLog2 := 6, producer := 0x0A, consumer := 0x0B, head := if full then 64 else 0 }) with modes := { mode := 5 } }

set_option maxRecDepth 100000 in
theorem witness_lead_frames : ∀ x ∈ leadFrames, let c := heardFrame (leading false {}) x.2.2;
    c.awake = true ∧ c.yard.sec.lead = true ∧ (headOf c).src < 256 ∧ (headOf c).ptype = x.1 ∧ NewFrame c (headOf c) x.2.1 := by
  simp only [NewFrame]; decide +kernel

set_option maxRecDepth 100000 in
theorem witness_lead_full : let x := leadFrames.getD 0 (0, [], []);
    let c := heardFrame (leading true {}) x.2.2; NewFrame c (headOf c) x.2.1 ∧ (headOf c).ptype = 2 ∧ c.yard.sec.lead = true := by
  simp only [NewFrame]; decide +kernel

theorem witness_lead_rings : ∀ x ∈ leadFrames, ∀ full : Bool, ∀ k ∈ [1, 2, 3], let c := heardFrame (leading full {}) x.2.2;
    (c.putOut 40 (c.rxRingEntries k (headOf c).seq (headOf c) x.2.1)).isSome = !full := by decide +kernel

set_option maxRecDepth 100000 in
theorem witness_lead_duplicates : ∀ x ∈ [leadFrames.getD 0 (0, [], []), leadFrames.getD 4 (0, [], [])],
    let c := heardFrame (leading false { replay := [{ src := 5, era := 3, high := 9, seen := [9] }] }) x.2.2;
    c.awake = true ∧ c.yard.sec.lead = true ∧ (headOf c).src < 256 ∧ (headOf c).ptype = x.1 ∧ OldFrame c (headOf c) x.2.1 := by
  simp only [OldFrame]; decide +kernel

/-- The first example of FIPS 197, appendix C. -/
theorem test_aes128 : aes128 ((List.range 16).map (BitVec.ofNat 8)) ((List.range 16).map (fun i => BitVec.ofNat 8 (17 * i))) =
    [0x69, 0xC4, 0xE0, 0xD8, 0x6A, 0x7B, 0x04, 0x30, 0xD8, 0xCD, 0xB7, 0x80, 0x70, 0xB4, 0xC5, 0x5A] := by decide +kernel

/-- The S-box table holds the S-box. -/
theorem test_sbox_table : (List.range 256).all (fun a => decide (sbox a = sboxOf a)) = true := by decide +kernel

/-- A host command of an opcode's bytes at the head of ring 42. -/
def hostCommand (y : Yard) : Chip :=
  ((((inYard true y).upRing 42 (fun _ => { sizeLog2 := 6, base := 512, producer := 0x0B, consumer := 0x0A, head := 2 })).putEntry 512
    [0x01000506, 0, 0, 0, 0, 0, 0, 0]).putEntry 513 [0, 0, 0, 0, 0, 0, 0, 0])

theorem witness_lead_conditions : (leAt (bytesOf [0, 0, 0, 1]) 3 1).testBit 0 = true ∧ (leading false {}).mode = 5 ∧
    (leading false {}).yard.commands.find? (fun x => decide (x.dst = 5) && decide (x.seq = leAt (bytesOf [5, 0, 7, 0, 0, 0]) 2 4) && decide (x.seq ≠ 0)) =
      some { ptype := 4, dst := 5, seq := 7, body := [] } ∧
    (leading false {}).yard.holdOff = 0 ∧ (leading false { holdOff := 1 }).yard.holdOff ≠ 0 ∧
    (leading false {}).assignNumber (BitVec.ofNat 64 77) 254 = some 254 ∧
    (∀ r ∈ [setting, { setting with k := 13 }], let c := { hostCommand {} with yard := { (hostCommand {}).yard with sec := { (hostCommand {}).yard.sec with slot := r } } };
      c.awake = true ∧ c.yardLead = true ∧ c.yard.commands.length < 4 ∧ (c.ring 42).fill ≠ 0 ∧
        frameEntries (fld (ew (c.tailEntry 42 0) 0) 7 0) ≤ (c.ring 42).fill ∧ fld (ew (c.tailEntry 42 0) 0) 7 0 = 6) ∧
    setting.airUs 19 0 ≤ 224000 ∧ 224000 < ({ setting with k := 13 } : RadioSetting).airUs 19 0 := by decide +kernel

/-- A chip whose ring 35 takes yard frames. -/
def airRing (c : Chip) : Chip := c.upRing 35 (fun _ => { sizeLog2 := 6, producer := 0x0A, consumer := 0x09 })

/-- A report in flight. -/
def inFlight (sent : Bool) (tries : Nat) : YardFrame :=
  { ptype := 2, dst := 0, seq := if sent then 4 else 0, body := bytesOf [0, 0, 0, 0], ackReq := true, sent := sent, tries := tries }

theorem witness_rounds : (∀ lead : Bool, (inYard lead {}).awake = true ∧ (inYard lead {}).yardIn = true ∧ (inYard lead {}).yard.sec.lead = lead ∧
      (inYard lead {}).yard.buckle = .idle) ∧
    ({ inYard false {} with mram := { keys := { yard := { yardKeys with number := none } } } } : Chip).mram.keys.yard.number = none ∧
    (inYard false { buckle := .waiting 2 }).yard.buckle = .waiting 2 ∧
    (let c := airRing (inYard true {}); c.yard.alarm = none ∧ c.yard.relay = none ∧ c.yard.ackOwed = none ∧ c.yard.exhausted = false ∧
      mget 0 c.yard.counters 256 < 0xFFFFFFFF ∧ c.timeUnc.isSome = true ∧ c.yard.sec.beacon.airUs 67 c.ramp ≤ 224000 ∧ (c.ring 35).sizeLog2 ≠ 0 ∧
      (c.ring 35).consumer ≠ 0 ∧ (c.ring 35).copying = false ∧ (c.ring 35).active = .lossless ∧ (c.ring 35).waiting = [] ∧
      (c.ring 35).fill + 6 ≤ (c.ring 35).size) ∧
    ({ airRing (inYard true {}) with keeper := { powered := true, valid := true, tsrc := 3, sec := 45, setSec := 45 } } : Chip).timeUnc = some 45 ∧
    ({ airRing (inYard true {}) with keeper := { powered := true, valid := true, tsrc := 2, sec := 46, setSec := 45 } } : Chip).timeUnc.any (fun u => decide (1000 < u)) = true ∧
    (∀ x ∈ [(true, 0), (true, 6), (false, 0)], let c := airRing { inYard false { report := some (inFlight x.1 x.2), beaconNeeded := true, beaconHeard := true } with
        keeper := { powered := true, valid := true, tsrc := 3, sec := 45, setSec := 45 } };
      c.awake = true ∧ c.yardIn = true ∧ c.yard.sec.lead = false ∧ c.mram.keys.yard.number = some 5 ∧ c.yard.alarm = none ∧ c.yard.relay = none ∧
        c.miniOn = false ∧ c.yard.confirm = none ∧ c.yard.replies = [] ∧ c.yard.report = some (inFlight x.1 x.2) ∧ c.yard.exhausted = false ∧
        c.timeUnc = some 45 ∧ (c.yard.beaconNeeded = false ∨ c.yard.beaconHeard = true) ∧
        c.yard.sec.slot.airUs (13 + (inFlight x.1 x.2).body.length) c.ramp ≤ 224000 ∧ (inFlight x.1 x.2).body.length ≤ 224 ∧ (c.ring 35).sizeLog2 ≠ 0 ∧
        (c.ring 35).consumer ≠ 0 ∧ (c.ring 35).waiting = [] ∧ (c.ring 35).fill + 9 ≤ (c.ring 35).size ∧ (inFlight x.1 x.2).sent = x.1 ∧
        (inFlight x.1 x.2).tries < 7 ∧ ((inFlight x.1 x.2).seq ≠ 0) = (x.1 = true) ∧ mget 0 c.yard.counters 0 < 0xFFFFFFFF) := by decide +kernel

theorem witness_retries : (let c := inYard false { beaconNeeded := true }; c.yardNumber = some 5 ∧ c.yard.beaconNeeded = true ∧ c.yard.beaconHeard = false) ∧
    (let c := ((inYard false {}).upRing 33 (fun _ => { sizeLog2 := 6, base := 512, producer := 0x03, consumer := 0x0A, head := 1 })).putEntry 512 [0x03000F00, 0, 0, 0, 0, 0, 0, 0];
      c.awake = true ∧ c.headItem 33 = some [0x03000F00, 0, 0, 0, 0, 0, 0, 0] ∧ fld (ew [0x03000F00, 0, 0, 0, 0, 0, 0, 0] 0) 31 24 = 3 ∧ c.yard.report = none ∧
        c.yardIn = true ∧ c.yard.sec.lead = false) ∧
    (∀ t ∈ [0, 6, 7], let c := inYard false { alarm := some { origin := 5, id := 1, hops := 0, rule := 0, theft := 0, tries := t, waited := 7, due := false } };
      c.yard.alarm.any (fun a => decide (a.due = false) && decide (7 ≤ a.waited) && decide (a.tries = t)) = true) ∧
    (∀ b ∈ [Buckle.requested, .listening], (inYard false { buckle := b }).yard.buckle = b ∧ (inYard false { buckle := b }).awake = true) ∧
    (∀ w ∈ [0x00100000, 0x0FFF0200], (withReg 0x3808 w).hostOpen = true ∧ 16 ≤ (withReg 0x3808 w).rf 0x3808 27 16 ∧ (withReg 0x3808 w).rf 0x3808 9 8 ≤ 2) ∧
    (withReg 0x3808 0x000F0000).rf 0x3808 27 16 < 16 ∧ 2 < (withReg 0x3808 0x00100300).rf 0x3808 9 8 ∧
    (∃ t : Template, t.alarm = true ∧ t.ackReq = true) := by
  refine ⟨?_, ?_, ?_, ?_, ?_, ?_, ?_, { alarm := true, ackReq := true }, ?_⟩ <;> decide +kernel

/-- A yard-key load, signed outside the model for challenge 7. -/
def keyCommand1 : List Byte :=
  [0x59, 0x4B, 0x01, 0xFE, 0x00, 0x00, 0x00, 0x00, 0x00, 0x00, 0x00, 0x00, 0x07, 0x00, 0x00, 0x00, 0x09, 0x09, 0x09, 0x09, 0x09, 0x09, 0x09, 0x09,
   0x09, 0x09, 0x09, 0x09, 0x09, 0x09, 0x09, 0x09, 0x2A, 0x2B, 0x8C, 0x45, 0x4C, 0x62, 0xB6, 0xA8, 0x80, 0xE9, 0x24, 0x66, 0xF3, 0x2F, 0xCF, 0x16,
   0x53, 0x14, 0x4F, 0xB1, 0x36, 0xF5, 0xE9, 0xCB, 0x36, 0x94, 0xE0, 0xD0, 0xC9, 0x7F, 0x55, 0xFC, 0xAB, 0x1C, 0xC1, 0x7E, 0xF1, 0xA3, 0xB7, 0x8A,
   0x2E, 0xCE, 0xA3, 0xC1, 0xB5, 0x43, 0x06, 0x7B, 0x7E, 0x64, 0xB4, 0x61, 0x27, 0xAD, 0x49, 0xD4, 0xD2, 0xDA, 0x1C, 0x40, 0x51, 0xCC, 0x62, 0xFC,
   0x07, 0xF5, 0xA6, 0x0A, 0xF6, 0x65, 0x85, 0xE3, 0x08, 0xFF, 0xB2, 0x13, 0xEC, 0x96, 0x2E, 0xD3, 0x92, 0x28, 0x7B, 0x36, 0x49, 0xD1, 0x15, 0x50,
   0x1A, 0xEC, 0x77, 0x17, 0xDA, 0x2B, 0x4C, 0xD3, 0xC3, 0xA2, 0xCB, 0x13, 0xDC, 0x6A, 0x52, 0xA2, 0xB0, 0xA6, 0x21, 0x8C, 0x39, 0xA0, 0x51, 0x09,
   0xFF, 0x86, 0xF3, 0x01, 0xF0, 0x24, 0x89, 0x55, 0xD7, 0x18, 0x31, 0x7A, 0xA0, 0xCC, 0x92, 0x5D]

set_option maxRecDepth 100000 in
theorem witness_key_1 : let c := (List.range 40).foldl (fun c i => c.setReg (0x3820 + i) (wd (leAt keyCommand1 (4 * i) 4))) (inYard false { nonce := 7 });
    c.awake = true ∧ c.hostOpen = true ∧ c.yardLoadResult (c.bufBytes 0x3820 40) = 1 ∧ leAt (c.bufBytes 0x3820 40) 2 1 = 1 := by decide +kernel

/-- A yard-key erase, signed outside the model for challenge 7. -/
def keyCommand2 : List Byte :=
  [0x59, 0x4B, 0x02, 0x00, 0x00, 0x00, 0x00, 0x00, 0x00, 0x00, 0x00, 0x00, 0x07, 0x00, 0x00, 0x00, 0x00, 0x00, 0x00, 0x00, 0x00, 0x00, 0x00, 0x00,
   0x00, 0x00, 0x00, 0x00, 0x00, 0x00, 0x00, 0x00, 0x2A, 0x2B, 0x8C, 0x45, 0x4C, 0x62, 0xB6, 0xA8, 0x80, 0xE9, 0x24, 0x66, 0xF3, 0x2F, 0xCF, 0x16,
   0x53, 0x14, 0x4F, 0xB1, 0x36, 0xF5, 0xE9, 0xCB, 0x36, 0x94, 0xE0, 0xD0, 0xC9, 0x7F, 0x55, 0xFC, 0xAB, 0x1C, 0xC1, 0x7E, 0xF1, 0xA3, 0xB7, 0x8A,
   0x2E, 0xCE, 0xA3, 0xC1, 0xB5, 0x43, 0x06, 0x7B, 0x7E, 0x64, 0xB4, 0x61, 0x27, 0xAD, 0x49, 0xD4, 0xD2, 0xDA, 0x1C, 0x40, 0x51, 0xCC, 0x62, 0xFC,
   0x27, 0xC1, 0x0F, 0xB8, 0x79, 0xAE, 0x19, 0x2A, 0x47, 0x44, 0xBE, 0x41, 0x0B, 0x42, 0x65, 0x4D, 0xA8, 0x85, 0x20, 0x3F, 0x3F, 0xAB, 0xB4, 0x35,
   0xD9, 0x44, 0xE4, 0xC2, 0xDA, 0x5E, 0xB9, 0x2B, 0xDC, 0x10, 0x40, 0x00, 0x08, 0xC5, 0x21, 0xFE, 0x65, 0x24, 0x38, 0xEC, 0x24, 0x8D, 0x36, 0xC1,
   0x2C, 0x2B, 0xD1, 0x58, 0xD8, 0xC3, 0x77, 0xB4, 0xBE, 0x36, 0x83, 0xFD, 0xE2, 0x6B, 0xF9, 0x6E]

set_option maxRecDepth 100000 in
theorem witness_key_2 : let c := (List.range 40).foldl (fun c i => c.setReg (0x3820 + i) (wd (leAt keyCommand2 (4 * i) 4))) (inYard false { nonce := 7 });
    c.awake = true ∧ c.hostOpen = true ∧ c.yardLoadResult (c.bufBytes 0x3820 40) = 1 ∧ leAt (c.bufBytes 0x3820 40) 2 1 = 2 := by decide +kernel

theorem witness_key_refused : (inYard false { nonce := 7 }).yardLoadResult ((inYard false { nonce := 7 }).bufBytes 0x3820 40) ≠ 1 ∧
    (inYard false { nonce := 7 }).awake = true ∧ (inYard false { nonce := 7 }).hostOpen = true := by decide +kernel

/-! ### Witnesses: the host port and register access -/

/-- The block with a host port in a condition. -/
def ported (h : HostPort) : Chip := { up with host := h }

/-- A READ accepted before: alive 7, of the words from an address, its reply with the words it has. -/
def readBefore (addr count : Nat) (ws : List ReplyWord) (p : Option PendingReply) : Chip :=
  ported { last := some { cmd := 1, alive := 7, addr := addr, count := count, crc := crc16 (frameBytes 1 7 addr count []) },
           stored := some { alive := 7, count := count, data := ws }, pending := p }

/-- A WRITE of alive 7 still executes with these words. -/
def writing (ws : List (Nat × Word)) (b : Bool) : Chip :=
  ported { last := some { cmd := 2, alive := 7, addr := 0x1210, count := 1, crc := 0 }, stored := some { alive := 7 }, writing := some ws, busyAnswered := b }

theorem witness_replies : (up.awake = true ∧ up.slavePort = true ∧ up.host.writing = none ∧ up.host.stored = none ∧ up.host.pending = none ∧ up.host.last = none) ∧
    (∀ p ∈ [PendingReply.fresh, .replay, .short { status := 2, alive := 9 }], let c := readBefore 0 2 [{ word := 1 }, { word := 2 }] (some p);
      c.awake = true ∧ c.slavePort = true ∧ c.host.writing = none ∧ c.host.pending = some p ∧ c.host.stored ≠ none ∧
        (∀ r, c.host.stored = some r → r.data.length = r.count ∧ ∀ w ∈ r.data, w.late = false)) ∧
    (let c := readBefore 0 2 [{ word := 1 }, { word := 2, late := true }] (some .fresh); ∃ r, c.host.stored = some r ∧ r.data.length = r.count ∧
      ∃ w ∈ r.data, w.late = true) ∧
    (let c := readBefore 0x1210 2 [] (some .fresh); ∃ r q, c.host.stored = some r ∧ c.host.last = some q ∧ q.cmd = 1 ∧ r.data.length < r.count ∧
      c.overGirth (q.addr + r.data.length) = true) ∧
    (let c := writing [(0x1210, 1)] false; c.awake = true ∧ c.slavePort = true ∧ c.host.writing ≠ none) := by
  refine ⟨by decide +kernel, ?_, ⟨_, rfl, by decide +kernel, by decide +kernel⟩, ⟨_, _, rfl, rfl, by decide +kernel, by decide +kernel, by decide +kernel⟩,
    by decide +kernel⟩
  intro p hp
  refine ⟨?_, ?_, rfl, rfl, by simp [readBefore, ported], fun r hr => ?_⟩
  · revert p; decide +kernel
  · revert p; decide +kernel
  · cases hr; decide

theorem witness_rejected : (∀ x ∈ [([0, 7, 0, 0, 0, 0, 0, 0], 1), ([0, 7], 0), ([0, 7, 0, 0, 0, 0, 0, 0, 0], 0)], let p : List Byte × Nat := x;
      (p.2 % 8 ≠ 0 ∨ p.1.length < 8 ∨ ((p.1.getD 0 0).toNat < 2 ∧ ∃ b ∈ p.1.drop 8, b ≠ 0xFF)) ∧ 2 ≤ p.1.length) ∧
    (let bs : List Byte := [1, 7, 0, 0, 0, 1, 0, 0]; bs.length = 8 ∧ (bs.getD 0 0).toNat < 2 ∧ beNat (slice bs 6 2) ≠ crc16 (bs.take 6)) := by
  decide +kernel

theorem witness_reads : (∀ x ∈ [(0xFF00, 256), (0xFFFF, 0), (0xFF00, 257), (0xFFFF, 2)], let p : Nat × Nat := x; p.1 < 65536 ∧ p.2 < 65536 ∧
      ((256 < p.2 ∨ 65536 < p.1 + p.2) ∨ (p.2 ≤ 256 ∧ p.1 + p.2 ≤ 65536))) ∧
    (let c := readBefore 3 4 [] none; ∀ l, c.host.last = some l → 7 = l.alive ∧
      ({ cmd := 1, alive := 7, addr := 3, count := 4, crc := crc16 (frameBytes 1 7 3 4 []) } : Request) = l ∧
      ({ cmd := 1, alive := 7, addr := 3, count := 5, crc := crc16 (frameBytes 1 7 3 5 []) } : Request) ≠ l ∧ 8 ≠ l.alive) ∧
    (∀ i, i < 4 → up.overGirth i = false) ∧ up.overGirth 0x1210 = true ∧ (laneIs 0 .parked).overGirth 0x1210 = false := by
  refine ⟨by decide +kernel, fun l hl => ?_, by decide +kernel, by decide +kernel, by decide +kernel⟩
  cases hl
  decide +kernel

/-- GTIM_TP_PERIOD is plain, FLT_BANK_PTR is plain on the converter die, and the word at 0 is read-only. -/
theorem witness_plain : (∃ r, plainRow 0x2C01 r ∧ r.onDie = false ∧ remoteLane 0x2C01 = none) ∧
    (∃ r, plainRow 0x1210 r ∧ r.onDie = true ∧ remoteLane 0x1210 = some 0) ∧ (∃ r, plainRow 0x0000 r ∧ r.sh = 0 ∧ r.rw = 0) := by
  refine ⟨?_, ?_, ?_⟩
  · cases h : regRow 0x2C01 with
    | none => exact absurd h (by decide +kernel)
    | some r =>
      obtain ⟨h1, h2, h3, h4⟩ : (regRow 0x2C01).any (fun r => r.arm == false) = true ∧ (regRow 0x2C01).any (fun r => r.w1c == 0) = true ∧
        (regRow 0x2C01).any (fun r => r.wo == 0) = true ∧ (regRow 0x2C01).any (fun r => r.onDie == false) = true := by decide +kernel
      simp only [h, Option.any_some, beq_iff_eq] at h1 h2 h3 h4
      exact ⟨r, ⟨h, h1, h2, h3, by decide, by decide, by decide, by decide, fun _ _ => rfl⟩, h4, by decide +kernel⟩
  · cases h : regRow 0x1210 with
    | none => exact absurd h (by decide +kernel)
    | some r =>
      obtain ⟨h1, h2, h3, h4⟩ : (regRow 0x1210).any (fun r => r.arm == false) = true ∧ (regRow 0x1210).any (fun r => r.w1c == 0) = true ∧
        (regRow 0x1210).any (fun r => r.wo == 0) = true ∧ (regRow 0x1210).any (fun r => r.onDie == true) = true := by decide +kernel
      simp only [h, Option.any_some, beq_iff_eq] at h1 h2 h3 h4
      exact ⟨r, ⟨h, h1, h2, h3, by decide, by decide, by decide, by decide, fun _ _ => rfl⟩, h4, by decide +kernel⟩
  · cases h : regRow 0x0000 with
    | none => exact absurd h (by decide +kernel)
    | some r =>
      obtain ⟨h1, h2, h3, h4, h5⟩ : (regRow 0x0000).any (fun r => r.arm == false) = true ∧ (regRow 0x0000).any (fun r => r.w1c == 0) = true ∧
        (regRow 0x0000).any (fun r => r.wo == 0) = true ∧ (regRow 0x0000).any (fun r => r.sh == 0) = true ∧
        (regRow 0x0000).any (fun r => r.rw == 0) = true := by decide +kernel
      simp only [h, Option.any_some, beq_iff_eq] at h1 h2 h3 h4 h5
      exact ⟨r, ⟨h, h1, h2, h3, by decide, by decide, by decide, by decide, fun _ _ => rfl⟩, h4, h5⟩

/-- A word of the row's kind: W1C alone, an ARM with and without SH fields, a WO field alone. -/
theorem witness_kinds : (regRow 0x0010).any (fun r => !r.arm && decide (r.sh = 0) && decide (r.rw = 0) && decide (r.w1c ≠ 0)) = true ∧
    (∀ (c : Chip) (v : Word), c.trigger 0x0010 v = c) ∧ remoteLane 0x0010 = none ∧
    (regRow 0x0011).any (fun r => r.arm && decide (r.rw = 0) && decide (r.w1c = 0) && decide (r.sh ≠ 0)) = true ∧ bit (0x80000000 : Word) 31 = true ∧
    (∀ (c : Chip) (v : Word), c.trigger 0x0011 v = c) ∧ (armDie 0x0011).any up.silent = false ∧ (armDie 0x1808).any (laneIs 0 .silent).silent = true ∧
    (regRow 0x0021).any (fun r => !r.arm && decide (r.sh = 0) && decide (r.rw = 0) && decide (r.w1c = 0) && decide (r.wo ≠ 0)) = true ∧
    regRow 0x7FFF = none ∧ (laneIs 0 .parked).live 0 = false ∧ up.live 0 = true ∧
    ({ up with start := {} } : Chip).hostOpen = false ∧ ({ up with start := {} } : Chip).awake = true := by
  refine ⟨by decide +kernel, fun _ _ => rfl, by decide +kernel, by decide +kernel, by decide, fun _ _ => rfl, by decide +kernel, by decide +kernel,
    by decide +kernel, by decide +kernel, by decide +kernel, by decide +kernel, by decide +kernel, by decide +kernel⟩

theorem witness_windows : (∀ n ∈ [6, 63], let c := up.upRing n (fun _ => { sizeLog2 := 6, producer := 0x0B, consumer := 0x0D, head := 33 });
      c.hostOpen = true ∧ (c.ring n).producer = 0x0B ∧ (c.ring n).free = 31) ∧ (up.ring 63).producer ≠ 0x0B ∧ up.mem.xfer = none ∧
    ({ up with mem := { up.mem with xfer := some { cs := 0, keep := false, rx := true, len := 4, cmd := 0 } } } : Chip).mem.xfer.isSome = true := by
  decide +kernel

theorem witness_writes : (writing [(0x1210, 1)] false).awake = true ∧ (writing [(0x1210, 1)] false).host.writing = some [(0x1210, 1)] ∧
    (writing [(0x1210, 1)] false).overGirth 0x1210 = true ∧ (writing [(0x2C01, 1)] false).overGirth 0x2C01 = false ∧
    (writing [(0x1210, 1), (0x1C1A, 2)] false).overGirth 0x1C1A = true ∧ (writing [(0x1210, 1)] false).hostOpen = true ∧
    (∀ b : Bool, (writing [] b).host.writing = some [] ∧ (writing [] b).host.busyAnswered = b) ∧ up.host.writing = none ∧
    (let c := readBefore 0x1210 1 [] none; ∀ l, c.host.last = some l → 7 = l.alive ∧ 8 ≠ l.alive ∧
      l ≠ { cmd := 2, alive := 7, addr := 0x2C01, count := 1, crc := crc16 (frameBytes 2 7 0x2C01 1 [5]) }) ∧
    (let q : Request := { cmd := 2, alive := 7, addr := 0x2C01, count := 1, crc := crc16 (frameBytes 2 7 0x2C01 1 [5]) };
      let c := ported { last := some q, stored := some { alive := 7 } }; c.host.last = some q ∧ c.host.writing = none ∧ c.slavePort = true) ∧
    (let c := readBefore 0x1210 1 [{ word := 0 }] none; ∃ r, c.host.stored = some r ∧ r.count ≤ r.data.length) := by
  refine ⟨by decide +kernel, by decide +kernel, by decide +kernel, by decide +kernel, by decide +kernel, by decide +kernel, by decide +kernel, by decide +kernel,
    fun l hl => ?_, ⟨rfl, rfl, by decide +kernel⟩, ⟨_, rfl, by decide +kernel⟩⟩
  cases hl
  decide +kernel

theorem witness_host_ctl : (∀ w ∈ [0x00002000, 0x00010000 + 33 * 256 + 4, 0x00010003, 0x00010000 + 256 + 5], let c := withReg 0x3C10 w; c.awake = true ∧ c.hostOpen = true ∧
      (c.rf 0x3C10 23 16 = 0 ∨ c.rf 0x3C10 13 8 = 0 ∨ 32 < c.rf 0x3C10 13 8 ∨ c.rf 0x3C10 7 0 < 4 ∨ c.rf 0x3C10 7 0 % 2 = 1)) ∧
    (∀ w ∈ [0x00010104, 0x00FF20FE], let c := withReg 0x3C10 w; c.hostOpen = true ∧ 1 ≤ c.rf 0x3C10 23 16 ∧ 1 ≤ c.rf 0x3C10 13 8 ∧ c.rf 0x3C10 13 8 ≤ 32 ∧
      4 ≤ c.rf 0x3C10 7 0 ∧ c.rf 0x3C10 7 0 % 2 = 0) ∧
    (bit ((withReg 0x3C12 0x80000000).reg 0x3C12) 31 = true ∧ ((withReg 0x3C12 0x80000000).ring 63).consumer ≠ 0x0B) ∧
    (∀ n, n < 64 → bit (up.reg (0x3C11 + n / 32)) (n % 32) = false) ∧
    bit (up.reg 0x3C00) 0 = up.host.master ∧ bit ((withReg 0x3C00 1).reg 0x3C00) 0 ≠ (withReg 0x3C00 1).host.master ∧
    (let c := { ported { masterNext := some true } with girth := { up.girth with armed := [{ arm := 0x3C00, words := [] }] } };
      c.awake = true ∧ c.host.masterNext = some true ∧ c.armedSet 0x3C00 = some { arm := 0x3C00, words := [] } ∧ c.host.writing = none ∧ c.host.mstOut = none) ∧
    (let c := { ported { masterNext := some true, mstOut := some (4, 1) } with girth := { up.girth with armed := [{ arm := 0x3C00, words := [] }] } };
      c.armedSet 0x3C00 = some { arm := 0x3C00, words := [] } ∧ c.host.mstOut.isSome = true) := by decide +kernel

/-- The block as a master whose ring 63 may be served. -/
def mastering (h : HostPort) (fill : Nat) : Chip :=
  ({ (up.setRun 0x3C12 (wd 0x80000000)).setRun 0x3C10 (wd 0x00010104) with host := h }).upRing 63
    (fun _ => { sizeLog2 := 6, producer := 0x03, consumer := 0x0B, head := BitVec.ofNat 16 fill })

theorem witness_pushes : (let c := mastering { master := true } 1; c.awake = true ∧ c.host.master = true ∧ c.lands.vioGood = true ∧ c.hostOpen = true ∧
      c.host.mstOut = none ∧ c.runB 0x3C12 31 = true ∧ (c.ring 63).consumer = 0x0B ∧ 0 < (c.ring 63).fill ∧ 63 ∉ c.host.mstStopped ∧
      ∀ m, m < 64 → c.runB (0x3C11 + m / 32) (m % 32) = true → m = 63) ∧
    (let c := mastering { master := true } 0; c.host.mstOut = none ∧ (c.ring 63).fill = 0) ∧
    (∀ b : Bool, ∀ f, f < 3 → let c := mastering { master := true, mstOut := some (63, 1), mstResend := b, mstFails := f } 1;
      c.awake = true ∧ c.host.mstOut = some (63, 1) ∧ c.host.mstResend = b ∧ c.host.mstFails = f ∧ (c.ring 63).fill ≠ 0 ∧
        0 % 256 = c.host.mstAlive.toNat) := by decide +kernel

/-! ### Witnesses: the memory port -/

/-- The block with its memory port in a condition. -/
def portIs (m : MemPort) : Chip := { up with mem := m }

/-- A NOR that answers: ready, or erasing, with or without suspend. -/
def norIs (st : NorState) (sus : Bool) (f : MemPort → MemPort) : Chip :=
  portIs (f { state := st, par := { density := 2 ^ 21, page := 256, suspendOk := sus }, erase := if st = .ready then none else some 0x1000 })

/-- A transfer on a chip select. -/
def moving (cs : Nat) (keep rx : Bool) : Transfer2 := { cs := cs, keep := keep, rx := rx, len := 12, cmd := 0 }

theorem witness_nor_reads : (∀ st ∈ [NorState.ready, .erasing, .silent], ∀ sus : Bool, let c := norIs st sus id;
      c.awake = true ∧ c.mem.state = st ∧ c.mem.state ≠ .undiscovered ∧ c.therm.trip = false ∧ c.lands.vioGood = true ∧
      (st ≠ .silent → c.norRefusal = none) ∧ c.busTaken = false ∧ c.mem.par.suspendOk = sus ∧ Memory.wf 0xFF c.mem.nor = true ∧
        c.starting = false ∧ c.started = true) ∧
    (2 ^ 24 - 1) + 1 ≤ 2 ^ 24 ∧
    (let c := { norIs .ready true id with therm := { trip := true } }; c.awake = true ∧ c.mem.state ≠ .silent ∧ c.therm.trip = true) ∧
    (let c := { norIs .ready true id with lands := { vioGood := false } }; c.mem.state ≠ .silent ∧ c.therm.trip = false ∧ c.lands.vioGood = false) ∧
    (let c := norIs .ready true (fun m => { m with xfer := some (moving 1 false true) }); c.norRefusal = none ∧ c.busTaken = true) := by decide +kernel

theorem witness_nor_programs : (∀ n ∈ [1, 256], 0x100 % max 1 (norIs .ready true id).mem.par.page + (List.replicate n (0 : Byte)).length ≤ max 1 (norIs .ready true id).mem.par.page) ∧
    (let c := norIs .ready true id; c.mem.program = none ∧ c.mem.erase = none ∧ c.mem.xfer = none ∧ c.therm.warning = false ∧ c.norRefusal = none ∧ c.busTaken = false) ∧
    (let c := { norIs .ready true id with therm := { warning := true } }; c.therm.warning = true ∧ c.norRefusal = none ∧ c.mem.erase = none ∧ c.busTaken = false) ∧
    ((norIs .erasing true id).mem.erase.isSome = true ∧ (norIs .erasing true id).mem.program = none) ∧
    (let c := norIs .ready true (fun m => { m with program := some { addr := 0xFF00, bytes := [1], sent := true } }); c.awake = true ∧
      c.mem.program = some { addr := 0xFF00, bytes := [1], sent := true } ∧ c.mem.readWaits = none ∧ c.mem.initLeft = []) ∧
    (let c := norIs .erasing true (fun m => { m with program := some { addr := 0, bytes := [1] } });
      c.mem.erase = some 0x1000 ∧ c.mem.state = .erasing ∧ c.mem.program = some { addr := 0, bytes := [1] } ∧ c.mem.xfer = none) ∧
    (let c := norIs .erasing false (fun m => { m with readWaits := some (0, 4) }); c.mem.state = .erasing ∧ c.mem.par.suspendOk = false ∧ c.mem.xfer = none ∧
      c.mem.readWaits.isSome = true) ∧
    (let c := norIs .erasing false (fun m => { m with xfer := some (moving 0 false true) }); c.mem.xfer = some (moving 0 false true) ∧ (moving 0 false true).cs = 0 ∧
      (moving 0 false true).init = none ∧ c.mem.readWaits = none ∧ c.mem.initLeft = [] ∧ c.mem.program = none) ∧
    (let c := { up with start := { phase := .dies } }; c.awake = true ∧ c.starting = true ∧ c.start.stirrupStart = false) := by decide +kernel

/-- A GO of MEM_XFER_CMD and LEN. -/
def going (cmd len : Nat) (m : MemPort) : Chip := (({ up with mem := m }.setReg 0x3E18 (wd cmd)).setReg 0x3E1A (wd len)).setRun 0x3E0A (wd 4)

/-- One GO for each result of the check: the command word, the length and the port. -/
def goCases : List (Nat × Nat × MemPort × Nat) :=
  [(0x40000000, 8, {}, 2), (0x13000000, 8, {}, 2), (0x10C00000, 8, {}, 2), (0x11000000, 7, {}, 2), (0x04000102, 8, {}, 3), (0x00000103, 8, {}, 3), (0x0C000103, 8, {}, 3),
   (0x80000000, 8, {}, 2), (0x10000000, 65535, {}, 0), (0x04000103, 8, { state := .silent }, 5), (0x10000000, 8, { xfer := some (moving 2 false false) }, 6),
   (0x10000000, 8, {}, 0), (0x04000103, 8, { state := .ready }, 0)]

theorem witness_go : (∀ x ∈ goCases, let c := going x.1 x.2.1 x.2.2.1; c.awake = true ∧ c.hostOpen = true ∧ c.goCheck (c.reg 0x3E18) (c.rf 0x3E1A 15 0) = x.2.2.2) ∧
    (let c := (going 0x10000000 65535 {}).setRun 0x3E0A (wd 254); c.goCheck (c.reg 0x3E18) (c.rf 0x3E1A 15 0) = 4) ∧
    (let c := { going 0x10000000 8 {} with lands := { vioGood := false } }; c.awake = true ∧ c.goCheck (c.reg 0x3E18) (c.rf 0x3E1A 15 0) = 0 ∧ c.lands.vioGood = false) := by
  decide +kernel

theorem witness_port_transfers : (∀ k : Bool, ∀ r : Bool, ∀ cs ∈ [0, 3, 15], let c := portIs { xfer := some (moving cs k r), chain := some 3 };
      c.awake = true ∧ c.mem.xfer = some (moving cs k r) ∧ (cs = 0 → c.mem.state ≠ .erasing) ∧ c.mem.readWaits = none ∧ c.mem.initLeft = [] ∧ c.mem.program = none ∧
        c.runB 0x3E00 16 = false) ∧
    (∀ sus : Bool, let c := norIs .erasing sus (fun m => { m with xfer := some (moving 0 false true) }); c.mem.state = .erasing ∧ c.mem.par.suspendOk = sus) ∧
    (portIs {}).mem.chain = none ∧ (portIs { chain := some 3 }).mem.chain = some 3 ∧ (portIs { chain := some 3 }).mem.xfer = none ∧
    (let c := portIs { chain := some 3, xfer := some (moving 3 true true) }; c.mem.chain = some (moving 3 true true).cs ∧ c.mem.xfer = some (moving 3 true true)) := by
  decide +kernel

/-- Timing words that the check accepts. -/
def timed (m : MemPort) : Chip :=
  [0x3E08, 0x3E0A, 0x3E0C, 0x3E0E, 0x3E10].foldl (fun c a => c.setReg a (wd 0x04020210)) (portIs m)

theorem witness_port_sets : (let c := timed {}; c.awake = true ∧ c.hostOpen = true ∧
      (divBad (c.reg 0x3E08) 16 || [0x3E0A, 0x3E0C, 0x3E0E, 0x3E10].any (fun a => divBad (c.reg a) 254)) = false ∧ c.rf 0x3E12 1 0 ≠ 3 ∧
      c.csBusy ([(0x3E00, putFld (c.reg 0x3E00) 3 0 0)] ++ c.shadow 0x3E08 11) = false) ∧
    (let c := timed { chain := some 1 }; c.csBusy ([(0x3E00, putFld (c.reg 0x3E00) 3 0 0)] ++ c.shadow 0x3E08 11) = true) ∧
    (divBad (wd 0x04020212) 16 = true ∧ divBad (wd 0x0402020F) 16 = true) ∧ (withReg 0x3E12 3).rf 0x3E12 1 0 = 3 ∧
    (let c := withReg 0x3E40 0x04000000; c.awake = true ∧ c.hostOpen = true ∧ c.initEntries.any c.initBad = true) ∧
    (let c := withReg 0x3E40 0x14000000; c.initEntries = [0] ∧ c.initEntries.any c.initBad = false ∧ c.therm.trip = false ∧ c.busTaken = false ∧
      c.lands.vioGood = true ∧ c.hostOpen = true) ∧
    (let c := { withReg 0x3E40 0x14000000 with therm := { trip := true } }; c.therm.trip = true ∧ c.initEntries.any c.initBad = false ∧ c.awake = true) ∧
    (let c := { withReg 0x3E40 0x14000000 with lands := { vioGood := false } }; c.lands.vioGood = false ∧ c.initEntries.any c.initBad = false ∧ c.therm.trip = false) := by
  decide +kernel

/-! ### Witnesses: image update, trial and settings -/

/-- An entry at the head of ring 6. -/
def ring6 (c : Chip) (e : Entry) : Chip := (c.upRing 6 (fun _ => { sizeLog2 := 6, base := 512, consumer := 0x0D, head := 1 })).putEntry 512 e

/-- The block with an update record and staging buffers. -/
def updating (r : UpdRec) (st : List Staging) : Chip := { up with upd := { record := r, staging := st }, mem := { state := .ready, par := { density := 2 ^ 24 } } }

/-- The block with a die at WARNING. -/
def warm (c : Chip) : Chip := { c with therm := { warning := true } }

/-- The block whose NOR is silent. -/
def mute (c : Chip) : Chip := { c with mem := { c.mem with state := .silent } }

theorem witness_entries : (∀ k ∈ [0, 1, 2, 3, 4, 5, 6, 255], ∀ st ∈ [0, 1, 2, 3, 4, 5], let c := ring6 (updating { state := st, total := 8192 } []) [wd (k * 2 ^ 24 + 0x00180000), 352, 7, 0, 0, 0, 0, 0];
      c.awake = true ∧ c.started = true ∧ c.mode ≠ 7 ∧ (c.ring 6).fill ≠ 0 ∧ c.tailEntry 6 0 = [wd (k * 2 ^ 24 + 0x00180000), 352, 7, 0, 0, 0, 0, 0] ∧
        fld (ew (c.tailEntry 6 0) 0) 31 24 = k ∧ c.upd.record.state = st ∧ c.atWarning = false ∧ c.mem.state ≠ .silent) ∧
    (∀ n ∈ [4, 24], n % 4 = 0 ∧ 4 ≤ n ∧ n ≤ 24 ∧ fld (wd (0x02000000 + n * 65536)) 23 16 = n) ∧ fld (wd 0x02050000) 23 16 % 4 ≠ 0 ∧
    (mute (updating {} [])).mem.state = .silent ∧ (warm (updating {} [])).atWarning = true ∧
    (∀ b : Bool, bit (wd (0x03000000 + b2n b)) 0 = b) := by decide +kernel

/-- A complete buffer of the last chunk of a download of 352 bytes. -/
def complete (w : Bool) : Staging := { chunk := 0, words := List.range 88, written := w }

theorem witness_chunks : (let c := updating { state := 1, total := 352 } [complete false]; c.awake = true ∧ c.started = true ∧ c.mode ≠ 7 ∧
      c.upd.staging.find? (fun b => b.complete c.upd.record.total && !b.written) = some (complete false) ∧ c.mem.state ≠ .silent ∧ c.atWarning = false ∧
      c.lands.vioGood = true ∧ Memory.wf 0xFF (complete false).bytes = true ∧ (mute c).mem.state = .silent ∧ (warm c).atWarning = true ∧ (warm c).awake = true) ∧
    (let c := updating { state := 1, total := 352 } [complete true]; c.upd.staging.find? (fun b => b.written) = some (complete true) ∧
      (∀ i, i < c.upd.record.chunks → i = (complete true).chunk)) ∧
    (let c := updating { state := 1, total := 8192 } [complete true]; c.upd.staging.find? (fun b => b.written) = some (complete true) ∧
      ∃ i, i < c.upd.record.chunks ∧ c.upd.record.bitmap.getLsbD i = false ∧ i ≠ (complete true).chunk) := by
  refine ⟨by decide +kernel, ⟨by decide +kernel, by decide +kernel⟩, ⟨by decide +kernel, 1, by decide +kernel⟩⟩

/-- An image of 352 bytes, VERSION 7, hashed and signed outside the model with the key whose hash is `recoveryHash`. -/
def imageBytes : List Byte :=
  [0x54, 0x41, 0x43, 0x4B, 0x01, 0x00, 0x00, 0x01, 0x00, 0x01, 0x00, 0x00, 0x07, 0x00, 0x00, 0x00, 0x00, 0x00, 0x00, 0x00, 0x00, 0x00, 0x00, 0x00,
   0x00, 0x00, 0x00, 0x00, 0x00, 0x00, 0x00, 0x00, 0x02, 0x00, 0x01, 0x00, 0x00, 0x01, 0x00, 0x00, 0x00, 0x00, 0x00, 0x00, 0x00, 0x00, 0x00, 0x00,
   0x00, 0x00, 0x00, 0x00, 0x00, 0x00, 0x00, 0x00, 0x00, 0x00, 0x00, 0x00, 0x00, 0x00, 0x00, 0x00, 0x00, 0x00, 0x00, 0x00, 0x00, 0x00, 0x00, 0x00,
   0x00, 0x00, 0x00, 0x00, 0x00, 0x00, 0x00, 0x00, 0x00, 0x00, 0x00, 0x00, 0x00, 0x00, 0x00, 0x00, 0x00, 0x00, 0x00, 0x00, 0x00, 0x00, 0x00, 0x00,
   0x00, 0x00, 0x00, 0x00, 0x00, 0x00, 0x00, 0x00, 0x00, 0x00, 0x00, 0x00, 0x00, 0x00, 0x00, 0x00, 0x00, 0x00, 0x00, 0x00, 0x00, 0x00, 0x00, 0x00,
   0x00, 0x00, 0x00, 0x00, 0x00, 0x00, 0x00, 0x00, 0x2A, 0x2B, 0x8C, 0x45, 0x4C, 0x62, 0xB6, 0xA8, 0x80, 0xE9, 0x24, 0x66, 0xF3, 0x2F, 0xCF, 0x16,
   0x53, 0x14, 0x4F, 0xB1, 0x36, 0xF5, 0xE9, 0xCB, 0x36, 0x94, 0xE0, 0xD0, 0xC9, 0x7F, 0x55, 0xFC, 0xAB, 0x1C, 0xC1, 0x7E, 0xF1, 0xA3, 0xB7, 0x8A,
   0x2E, 0xCE, 0xA3, 0xC1, 0xB5, 0x43, 0x06, 0x7B, 0x7E, 0x64, 0xB4, 0x61, 0x27, 0xAD, 0x49, 0xD4, 0xD2, 0xDA, 0x1C, 0x40, 0x51, 0xCC, 0x62, 0xFC,
   0x00, 0x00, 0x00, 0x00, 0x00, 0x00, 0x00, 0x00, 0x00, 0x00, 0x00, 0x00, 0x00, 0x00, 0x00, 0x00, 0x00, 0x00, 0x00, 0x00, 0x00, 0x00, 0x00, 0x00,
   0x00, 0x00, 0x00, 0x00, 0x00, 0x00, 0x00, 0x00, 0x00, 0x00, 0x00, 0x00, 0x00, 0x00, 0x00, 0x00, 0x00, 0x00, 0x00, 0x00, 0x00, 0x00, 0x00, 0x00,
   0x00, 0x00, 0x00, 0x00, 0x00, 0x00, 0x00, 0x00, 0x00, 0x00, 0x00, 0x00, 0x00, 0x00, 0x00, 0x00, 0x30, 0x19, 0xC5, 0xAB, 0xE0, 0x95, 0x48, 0x5B,
   0x40, 0x23, 0x1A, 0xD3, 0x61, 0xE2, 0xDC, 0x57, 0xB9, 0x26, 0xBD, 0x30, 0xA9, 0xDB, 0x8E, 0x62, 0xB1, 0x2F, 0xEE, 0x2E, 0x2A, 0xB8, 0xD1, 0x48,
   0xAD, 0x43, 0xC4, 0x50, 0x11, 0x66, 0x40, 0x30, 0x6C, 0xC2, 0xDE, 0x99, 0x5F, 0x4E, 0x47, 0x7C, 0x55, 0x72, 0xED, 0xEF, 0xB6, 0x64, 0xD6, 0x30,
   0x67, 0x57, 0x2A, 0x5F, 0x70, 0xC1, 0xD5, 0x4B, 0xE2, 0x28, 0x37, 0x87, 0x25, 0xAB, 0xBC, 0xBC, 0x5D, 0x18, 0x3D, 0xC4, 0x4C, 0xA4, 0x1F, 0xCD,
   0x77, 0xFA, 0x73, 0x26, 0x10, 0xAE, 0x9B, 0x3B, 0x8E, 0x31, 0x31, 0x47, 0xF0, 0x7F, 0x32, 0xA6]

/-- The block whose slot B holds the image, which it has downloaded or verifies. -/
def imaged (v : Nat) (k : List Byte) (flip : Byte) : Chip :=
  { up with upd := { record := { state := 2, total := 352, version := v } }, mram := { keys := { locked := true, imageKeyHash := k } },
            mem := { state := .ready, par := { density := 2 ^ 24 }, nor := (imageBytes.mapIdx (fun i b => (0x210000 + i, if i = 0x18 then flip else b))).filter (fun p => p.2 != 0xFF) } }

set_option maxRecDepth 100000 in
theorem witness_image_hash : (imaged 7 recoveryHash 0).mem.imageFault 1 = none ∧ (imaged 7 recoveryHash 1).mem.imageFault 1 = some 2 ∧
    (updating { state := 3 } []).mem.imageFault 1 = some 1 := by decide +kernel

set_option maxRecDepth 100000 in
theorem witness_image_signed : (imaged 7 recoveryHash 0).mem.imageSigned 1 (imaged 7 recoveryHash 0).mram.keys (imaged 7 recoveryHash 0).upd.record.nextKeyHash = true ∧
    (imaged 7 [] 0).mem.imageSigned 1 (imaged 7 [] 0).mram.keys (imaged 7 [] 0).upd.record.nextKeyHash = false := by decide +kernel

theorem witness_verification : (let c := imaged 7 recoveryHash 0; c.awake = true ∧ c.started = true ∧ c.mode ≠ 7 ∧ c.upd.record.state = 2 ∧ c.atWarning = false ∧
      c.mem.state ≠ .silent ∧ 1 = 1 - c.start.slot ∧ imgLen (c.mem.header 1) + 96 = c.upd.record.total ∧ imgVersion (c.mem.header 1) = c.upd.record.version) ∧
    imgVersion ((imaged 8 recoveryHash 0).mem.header 1) ≠ (imaged 8 recoveryHash 0).upd.record.version ∧
    (mute (imaged 7 recoveryHash 0)).mem.state = .silent := by decide +kernel

/-- The block on trial, with the checks that have passed. -/
def trying (m : Nat) (checks : Nat) (u : Update) (mem : MemPort) : Chip :=
  { inMode m with upd := { u with record := { state := 5, boot := 1, checks := BitVec.ofNat 5 checks, nextKeyHash := u.signerHash }, trial := true, reported := true }, mem := mem }

theorem witness_trial : (∀ x ∈ [(0, 0), (0, 30), (1, 0), (1, 29), (2, 0), (2, 27), (3, 0), (3, 23), (4, 0), (4, 15)], let p : Nat × Nat := x;
      let c := { trying 6 p.2 {} { state := .ready } with radio := { state := .idle } };
      c.awake = true ∧ c.started = true ∧ c.upd.trial = true ∧ c.upd.record.state = 5 ∧ c.start.retryDue = false ∧ c.upd.record.checks.getLsbD p.1 = false ∧
        c.live 0 = true ∧ c.mon.failed.toNat / 16 % 128 = 0 ∧ rgPowered c.mode = true ∧ c.tb.mlg = true ∧ c.acq.state = .idle ∧ rcPowered c.mode = true ∧
        c.radio.state = .idle ∧ c.upd.reported = true ∧ c.atWarning = false ∧ c.mem.state ≠ .undiscovered ∧ c.lands.vioGood = true ∧
        c.modes.transition = none ∧ c.mode ≠ 1) ∧
    (∀ x ∈ [(0, 30), (1, 29), (2, 27), (3, 23), (4, 15)], let p : Nat × Nat := x; (BitVec.ofNat 5 p.2 ||| BitVec.ofNat 5 (2 ^ p.1)).toNat = 31) ∧
    (let c := warm (trying 6 30 {} {}); c.atWarning = true ∧ c.awake = true ∧ c.upd.trial = true) ∧
    (let c := mute (trying 6 30 {} {}); c.mem.state = .silent ∧ c.upd.trial = true) ∧
    (let c := trying 6 30 { signerHash := recoveryHash } {}; leNat c.upd.record.nextKeyHash ≠ 0 ∧ c.upd.signerHash = c.upd.record.nextKeyHash) ∧
    (let c := { laneIs 0 .silent with upd := (trying 6 0 {} {}).upd }; c.awake = true ∧ c.live 0 = false ∧ c.upd.trial = true) ∧
    rcPowered 2 = false ∧ ({ (trying 6 0 {} {}) with tb := {} } : Chip).tb.mlg = false ∧
    (∀ n ∈ [599, 600], let c := trying 6 0 { trialRun := n } {}; c.awake = true ∧ c.upd.trialRun = n ∧ c.upd.trial = true ∧ c.upd.record.state = 5) := by decide +kernel

theorem witness_settings : (∀ b : Bool, ∀ w : Bool, let c := { up with upd := { unreadable := b }, therm := { warning := w } };
      c.awake = true ∧ c.hostOpen = true ∧ c.upd.record.state ≠ 5 ∧ c.upd.unreadable = b ∧ c.atWarning = w) ∧
    ((trying 6 0 {} {}).hostOpen = true ∧ (trying 6 0 {} {}).upd.record.state = 5) ∧ ({ up with start := {} } : Chip).started = false ∧
    up.keyRollResult (up.bufBytes 0x4080 44) ≠ 1 := by decide +kernel

/-- The block with a command in UPD_KEY_BUF, its challenge 7. -/
def rollIn (cmd : List Byte) : Chip :=
  (List.range 44).foldl (fun c i => c.setReg (0x4080 + i) (wd (leAt cmd (4 * i) 4)))
    { up with upd := { nonce := 7 }, mram := { keys := { locked := true, recoveryKeyHash := recoveryHash } } }

/-- A key-roll command SET_NEXT, signed outside the model for challenge 7. -/
def rollCommand1 : List Byte :=
  [0x4B, 0x52, 0x01, 0x00, 0x00, 0x00, 0x00, 0x00, 0x00, 0x00, 0x00, 0x00, 0x07, 0x00, 0x00, 0x00, 0x09, 0x09, 0x09, 0x09, 0x09, 0x09, 0x09, 0x09,
   0x09, 0x09, 0x09, 0x09, 0x09, 0x09, 0x09, 0x09, 0x09, 0x09, 0x09, 0x09, 0x09, 0x09, 0x09, 0x09, 0x09, 0x09, 0x09, 0x09, 0x09, 0x09, 0x09, 0x09,
   0x2A, 0x2B, 0x8C, 0x45, 0x4C, 0x62, 0xB6, 0xA8, 0x80, 0xE9, 0x24, 0x66, 0xF3, 0x2F, 0xCF, 0x16, 0x53, 0x14, 0x4F, 0xB1, 0x36, 0xF5, 0xE9, 0xCB,
   0x36, 0x94, 0xE0, 0xD0, 0xC9, 0x7F, 0x55, 0xFC, 0xAB, 0x1C, 0xC1, 0x7E, 0xF1, 0xA3, 0xB7, 0x8A, 0x2E, 0xCE, 0xA3, 0xC1, 0xB5, 0x43, 0x06, 0x7B,
   0x7E, 0x64, 0xB4, 0x61, 0x27, 0xAD, 0x49, 0xD4, 0xD2, 0xDA, 0x1C, 0x40, 0x51, 0xCC, 0x62, 0xFC, 0xCB, 0x97, 0x60, 0x75, 0x99, 0x19, 0xFD, 0xBC,
   0x2C, 0x30, 0x1E, 0xDB, 0xA8, 0xB2, 0xB8, 0xC8, 0x0D, 0x34, 0x08, 0xD5, 0x51, 0xB7, 0x97, 0x12, 0x7F, 0xEE, 0x67, 0x0B, 0x9D, 0x45, 0xFC, 0x44,
   0x61, 0x08, 0xAD, 0x28, 0x58, 0xF2, 0xA0, 0x17, 0x89, 0xD9, 0xD0, 0xED, 0xCB, 0x73, 0xA8, 0x5F, 0x1B, 0xFF, 0x3E, 0x68, 0x55, 0x1A, 0xAA, 0xE9,
   0x55, 0xB4, 0x1A, 0xAE, 0x64, 0xFA, 0x72, 0xA5]

set_option maxRecDepth 100000 in
theorem witness_roll_1 : let c := rollIn rollCommand1;
    c.awake = true ∧ c.hostOpen = true ∧ c.keyRollResult (c.bufBytes 0x4080 44) = 1 ∧ leAt (c.bufBytes 0x4080 44) 2 1 = 1 := by decide +kernel

/-- A key-roll command CLEAR_NEXT, signed outside the model for challenge 7. -/
def rollCommand2 : List Byte :=
  [0x4B, 0x52, 0x02, 0x00, 0x00, 0x00, 0x00, 0x00, 0x00, 0x00, 0x00, 0x00, 0x07, 0x00, 0x00, 0x00, 0x00, 0x00, 0x00, 0x00, 0x00, 0x00, 0x00, 0x00,
   0x00, 0x00, 0x00, 0x00, 0x00, 0x00, 0x00, 0x00, 0x00, 0x00, 0x00, 0x00, 0x00, 0x00, 0x00, 0x00, 0x00, 0x00, 0x00, 0x00, 0x00, 0x00, 0x00, 0x00,
   0x2A, 0x2B, 0x8C, 0x45, 0x4C, 0x62, 0xB6, 0xA8, 0x80, 0xE9, 0x24, 0x66, 0xF3, 0x2F, 0xCF, 0x16, 0x53, 0x14, 0x4F, 0xB1, 0x36, 0xF5, 0xE9, 0xCB,
   0x36, 0x94, 0xE0, 0xD0, 0xC9, 0x7F, 0x55, 0xFC, 0xAB, 0x1C, 0xC1, 0x7E, 0xF1, 0xA3, 0xB7, 0x8A, 0x2E, 0xCE, 0xA3, 0xC1, 0xB5, 0x43, 0x06, 0x7B,
   0x7E, 0x64, 0xB4, 0x61, 0x27, 0xAD, 0x49, 0xD4, 0xD2, 0xDA, 0x1C, 0x40, 0x51, 0xCC, 0x62, 0xFC, 0xEE, 0x09, 0x23, 0x2A, 0x71, 0x2D, 0xAB, 0x94,
   0xD6, 0x37, 0x1D, 0x01, 0x7E, 0x64, 0x07, 0x16, 0x58, 0xB9, 0xA7, 0x36, 0xF6, 0xA6, 0xA7, 0x55, 0xF6, 0x1C, 0xF5, 0x16, 0x61, 0xF8, 0xDB, 0xF5,
   0x18, 0x64, 0x22, 0x9C, 0x2E, 0xE6, 0x80, 0x39, 0x0A, 0x94, 0x42, 0x2C, 0xB3, 0xBE, 0xC3, 0x86, 0xA6, 0xA3, 0x68, 0x15, 0x97, 0xCA, 0xDD, 0xBE,
   0x1F, 0xE8, 0x18, 0x17, 0x38, 0xE5, 0x60, 0x85]

set_option maxRecDepth 100000 in
theorem witness_roll_2 : let c := rollIn rollCommand2;
    c.awake = true ∧ c.hostOpen = true ∧ c.keyRollResult (c.bufBytes 0x4080 44) = 1 ∧ leAt (c.bufBytes 0x4080 44) 2 1 = 2 := by decide +kernel

/-! ### Witnesses: the temperature supervisor -/

/-- The block with the supervisor in a condition. -/
def hot (t : Thermal) (m : MemPort) : Chip := { up with therm := t, mem := m }

/-- A NOR under erase that can suspend. -/
def eraseSus (st : NorState) : MemPort := { state := st, par := { suspendOk := true }, erase := some 0 }

theorem witness_thermal : (∀ w t : Bool, ∀ n ∈ [0, 1], let c := hot { warning := w, trip := t, below120 := n, below115 := n, peakSeen := true } (eraseSus .erasing);
      c.awake = true ∧ c.therm.warning = w ∧ c.therm.trip = t ∧ c.therm.below120 = n ∧ c.therm.below115 = n ∧ c.therm.peakSeen = true ∧
      c.mem.state = .erasing ∧ c.mem.erase.isSome = true ∧ c.mem.par.suspendOk = true ∧ c.readings [400, 400, 400, 400] = [400, 400, 400, 400]) ∧
    (∀ x ∈ [1839, 1840, 1919, 1920, 1999, 2000, 2239, 2240], up.readings [x, 400, 400, 400] = [x, 400, 400, 400]) ∧
    (hot { trip := true } (eraseSus .suspended)).mem.state = .suspended ∧
    ({ up with start := { phase := .dies } } : Chip).awake = true ∧ ({ up with start := { phase := .tripped } } : Chip).awake = true ∧
    (∀ d, d < 4 → up.sensed d = true) ∧ (laneIs 0 .parked).sensed 1 = false ∧ (hot { trip := true } {}).sensed 3 = true ∧
    (hot { trip := true } {}).started = true ∧ (hot { trip := true } {}).mode = 2 ∧ (hot { trip := true } {}).modes.thermalHold = false ∧
    (hot { trip := true } {}).modes.before = none ∧
    (let c := { hot { trip := true } {} with start := { phase := .dies } }; c.awake = true ∧ c.therm.trip = true ∧ c.started = false) := by decide +kernel

/-! ### Witnesses: the block as a whole -/

/-- A state with a chip and a queue. -/
def queue (c : Chip) (q : List Instr) : State := { State.reset with chip := c, pending := q }

theorem witness_step : (queue up [.seqRoundStart 0, .memXferGo]).pending = .seqRoundStart 0 :: [.memXferGo] ∧
    ((queue up []).pending = [] ∧ up.keeper.lost = false ∧ up.keeper.powered = true ∧ up.modes.queuedHost = none) ∧
    ((queue { up with keeper := { powered := true, lost := true } } []).chip.keeper.lost = true ∧ Chip.reset.keeper.powered = false) := by decide +kernel

theorem witness_invariants : up.lanesSafe ∧ up.memsWf ∧ State.reset.chip.lanesSafe ∧ State.reset.chip.memsWf ∧
    (∃ t, step (queue up []) = .next t) ∧ ∃ t, step (queue up [.memXferGo]) = .next t := by
  refine ⟨?_, ?_, ?_, ?_, ⟨_, rfl⟩, ⟨_, rfl⟩⟩
  · simp only [Chip.lanesSafe]; decide +kernel
  · simp only [Chip.memsWf]; decide +kernel
  · simp only [Chip.lanesSafe]; decide +kernel
  · simp only [Chip.memsWf]; decide +kernel

/-- A round start keeps the memory port: the row of `partsChanged` does not list it. -/
theorem witness_frames : (storeParts.filter (fun p => !(partsChanged (.seqRoundStart 0)).contains p)) ≠ [] ∧
    (unitParts.filter (fun p => !(partsChanged (.seqRoundStart 0)).contains p)) ≠ [] := by decide +kernel

/-! ### Ill-formed commands: one for each check of `Instr.wellFormed` -/

theorem smoke_wellFormed_girth_lands_start : ([.girthTransfer 4 (List.replicate 8 0) 0, .girthTransfer 0 (List.replicate 7 0) 0,
    .girthTransfer 0 (List.replicate 8 5) 0, .girthTransfer 0 (List.replicate 8 0) 16, .laneProbe 4, .laneSilent 4, .laneWakeHandshake 4, .laneWakeTimeout 4,
    .firstStrobe 4, .sampleLaneFail 2, .timebaseLineFail 4, .remoteSetApply 0x8000, .protectionLaneTimeout 65536 0 0, .protectionLaneTimeout 0 (2 ^ 32) 0,
    .protectionLaneTimeout 0 0 (2 ^ 32), .vioLost (some 256), .gpEdge 8 true, .foutLimit 2, .foutTherm 2, .foutOpen 2, .supplyOut 4 true,
    .modeReqInvalid 16, .restart (some (List.replicate 256 0)), .restartSlot (some (List.replicate 256 0)), .restartDefaults (some (List.replicate 256 0)),
    .restartCalDefaults (some (List.replicate 256 0)), .theftClearDisarm (some []), .theftClearArm (some (List.replicate 145 0)), .tbkFail 0 0, .tbmFail 3 0,
    .loopLocked 3, .loopLockRetry 3 true, .mlUnlock 0, .mlUnlock 3, .domainSwitchRequest 4 0, .domainSwitchRequest 0 4, .stopAcknowledged 4, .sourceSwitch 4,
    .domainRelease 4, .captureComplete 6 0, .captureStale 6, .tbSpeedUpdate 65536] : List Instr).all (fun i => !i.wellFormed) = true := by decide +kernel

theorem smoke_wellFormed_keeper_rings_rules : ([.hourCommit 16, .meterMark 16, .meterCeiling 16, .ringProduce 0x80 0 zeroEntry, .ringProduce 0 64 zeroEntry,
    .ringProduce 0 0 [], .ringProduceResume 64, .holdingBufferDrain 64, .lossyConversion 64, .ringConsume 64 0, .ringProducePublish 64 0, .ringCfgArm 64,
    .ringCfgApply 64, .testHarnessForward 64, .ringWindowStage 64 0 0, .ringWindowStage 0 256 0, .ringWindowRead 64 0 1, .ringWindowRead 0 255 2,
    .arbiterGrant [(64, true)], .ruleTimerExpired 64, .holdTimerExpired 64, .ruleHostEvt 256, .theftCmdSuspect 65536] : List Instr).all (fun i => !i.wellFormed) = true := by
  decide +kernel

theorem smoke_wellFormed_front_gnss : ([.seqRoundStart 4, .seqArm 4, .modOverload 4, .fltCtlArm 4, .bankSwap 4, .chainSample 4 0 false, .fastPathValue 4 0,
    .awlTestEnd 4 0 0 0, .burnishStepEnd 4 0 0 0, .runWindowEnd 65536 0 0, .runWindowEnd 0 65536 0, .runWindowEnd 0 0 65536, .finSample 8 0, .fltSwap 16,
    .burnishRequest 256 1, .burnishRequest 0 16, .excCodeWrite 4 0, .excCodeWrite 0 65536, .deglitchEnd 4, .excCut 4 0, .excCfgArm 4, .monScan [] [] 0,
    .monScan (List.replicate 16 0) [] 0, .monScan (List.replicate 16 0) (List.replicate 16 0) 65536, .snapshotCaptureEnd [] [(2, 1)] 0 0, .snapshotCaptureEnd [] [] 1024 0,
    .snapshotCaptureEnd [] [] 0 1024, .acqPassEnd 32 0 0 0 0, .codeLock 72, .carrierLock 72 true, .cycleSlip 72, .navSyncLost 72, .codeLockTimeout 72, .channelLoss 72,
    .navUnit 72 0 0 [] (.almanac []), .measurementEpoch 0 0 [{ meas71 with ch := 72 }], .snapshotSolution { solved true with towMs := 604800000 },
    .navSolution { solved true with towMs := 604800000 }, .timeMessage (2 ^ 33) 0 0 0 0 0, .timeMessage 0 1000 0 0 0 0, .pulseSkipped (2 ^ 33) 0 0,
    .pulseSkipped 0 1000 0] : List Instr).all (fun i => !i.wellFormed) = true := by decide +kernel

/-- Captures and epochs that are too long. -/
theorem smoke_wellFormed_long : (∀ bs : List Byte, 1048576 < bs.length → (Instr.snapshotCaptureEnd bs [] 0 0).wellFormed = false) ∧
    (∀ bs : List Byte, 520000 < bs.length → (Instr.liveBlockComplete bs).wellFormed = false) ∧
    (∀ ms : List Meas, 72 < ms.length → (Instr.measurementEpoch 0 0 ms).wellFormed = false) ∧
    (∀ bs : List Byte, 8192 < bs.length → (Instr.xferDone bs).wellFormed = false) ∧
    (∀ ws : List Word, 65536 ≤ ws.length → (Instr.write 0 0 ws 0).wellFormed = false ∧ (Instr.push 0 0 ws 0).wellFormed = false) := by
  refine ⟨fun bs h => ?_, fun bs h => ?_, fun ms h => ?_, fun bs h => ?_, fun ws h => ?_⟩ <;>
    simp [Instr.wellFormed, frameOk] <;> omega

theorem smoke_wellFormed_radio_host_memory : ([.burstRequest 31, .burstRequest 36, .frameLaunch 31 0, .frameLaunch 36 0, .listenWindowStart 31, .listenWindowStart 36,
    .headerDecode (2 ^ 24) 0, .headerDecode 0 256, .frameReceived (List.replicate 256 0) 0 { foff := 0, sec := 0, sub := 0, fine := 0, toff := 0 },
    .yardSlotStart 256, .nop 256 0, .read 256 0 0 0, .read 0 65536 0 0, .read 0 0 65536 0, .write 256 0 [] 0, .push 0 65536 [] 0, .masterNop 256 0 true,
    .masterNop 0 256 true, .mappedRead 0 0, .mappedRead (2 ^ 24 - 1) 2, .pageProgram 0 [], .pageProgram 0 (List.replicate 257 0),
    .pageProgram (2 ^ 24 - 1) [0, 0], .sectorErase 1, .sectorErase (2 ^ 24), .trialCheck 5, .checkFailed 5, .thermTrip 4 0, .registerWrite 65536 0,
    .rejectedFrame [] 8] : List Instr).all (fun i => !i.wellFormed) = true := by decide +kernel

/-! ### Figures of the spec's worked examples -/

/-- 16 R726: the CRC of "123456789"; 14 R630: the CRC-8 of a header with LEN 1. -/
theorem test_crcs : crc16 (bytesOf [0x31, 0x32, 0x33, 0x34, 0x35, 0x36, 0x37, 0x38, 0x39]) = 0x29B1 ∧ crc8 24 1 0 = 0x0B := by decide +kernel

/-- 14 and 15, worked examples: symbols and on-air time of a slot frame, the same at k 10, and of a beacon. -/
theorem test_air_time : frameSymbols 9 2 12 40 = 77 ∧ onAirUs 9 1 2 12 40 16 = 197152 ∧ frameSymbols 10 2 12 40 = 74 ∧ onAirUs 10 1 2 12 40 0 = 378880 ∧
    frameSymbols 7 2 16 67 = 144 ∧ onAirUs 7 1 2 16 67 0 = 92160 := by decide +kernel

/-- 14, worked example: the occupied band lies within budget entry 0. -/
theorem test_budget_entry : (((withRun 0x3010 0x87E287D8).setRun 0x3011 (wd 0x801603E8))).budgetEntry 869525000 1 = some 0 ∧ syncCode 9 160 320 = some 0x5A := by
  decide +kernel

/-- 15, worked example: ACK bit 23 is bit 7 of byte 2. -/
theorem test_ack_bit : ackBit (List.replicate 14 0 ++ [0, 0, 0x80] ++ List.replicate 37 0) 23 = true ∧
    ackBit (List.replicate 14 0 ++ [0, 0, 0x80] ++ List.replicate 37 0) 22 = false := by decide +kernel

/-- 13, worked example: the edge nearest to 412 345 678.90 ns at +1250 ppb, and QERR +2024 ps. -/
theorem test_nearest_edge : nearestEdge 412345678900 1250 = (0x028E5BA4, 2024) := by decide +kernel

/-- 11, worked example: drive code 0xCCCD of the ×2 range is 4.000 V (0x0FA0 mV). -/
theorem test_exc_mv : excMv 0xCCCD 1 = 0x0FA0 := by decide +kernel

/-- 10, worked example: a slot of STEADY with REPEAT 10 lasts 39 sample periods of 1024. -/
theorem test_slot_units : slotUnits (wd (2 * 512 + 10 * 4096)) = 39 * 1024 := by decide +kernel

/-- 17, worked example: DIV 8 gives 10 on TBF and 8 on ML-S. -/
theorem test_divisor : (withRun 0x3E0A 0x02010108).csDiv 1 = 10 ∧
    ({ withRun 0x3E0A 0x02010108 with tb := { up.tb with domains := List.replicate 4 { source := 1 } } } : Chip).csDiv 1 = 8 := by decide +kernel

/-- 08, worked example, in the parts that make edges: rules 3, 4, 5, 6, 7 of the draft and of the repaired table, and rule 8. -/
def siteTable (repaired : Bool) : List Rule :=
  let flag (v : Nat) : RuleAct := { code := 0x0F, target := 0, value := v }
  let three : Rule := { en := true, event := 0x07FF, acts := [{ code := 0x0E, target := 2, value := 2 }, { code := 0x01 }, { code := 0x0C, target := 3, value := 0x403C }] ++ (if repaired then [flag 1] else []) }
  let four : Rule := { en := true, event := 0x0300, acts := [{ code := 0x0E, target := 2, value := 2 }] }
  let five : Rule := { en := true, event := 0x0103, terms := [if repaired then { signal := 0x48, value := 1 } else { signal := 0x10, value := 2 }], acts := [{ code := 0x01 }, { code := 0x0C, target := 3, value := 0x403C }] }
  let six : Rule := { en := true, event := 0x0D03, acts := [{ code := 0x02, target := 1 }, { code := 0x0B, value := 0x66 }] }
  let seven : Rule := { en := true, event := 0x0502, acts := { code := 0x0E, target := 1 } :: (if repaired then [flag 0, { code := 0x0D, target := 3 }] else []) }
  let eight : Rule := { en := repaired, event := 0x0D01, acts := [flag 0, { code := 0x0D, target := 3 }] }
  [{}, {}, {}, three, four, five, six, seven, eight]

/-- The draft is rejected with rule 4; the repaired table has a load order. -/
theorem test_rule_cycle : (loadOrder [] (siteTable false)).2 = some 4 ∧ (loadOrder [] (siteTable true)).2 = none := by decide +kernel

/-- 18, worked example: TOTAL 614 400 is exactly 150 chunks. -/
theorem test_chunks : ({ total := 0x00096000 } : UpdRec).chunks = 150 := by decide +kernel

end Sys2Proof.Tests
end

section
/-! SUPPORT. Register writes: the bytes of a number, what each part of a register write does to the block, and the statement on the
access codes assembled from them. -/

namespace Sys2Proof.Machine

/-! ### The bytes of a number -/

@[simp] theorem leBytes_length (n v : Nat) : (leBytes n v).length = n := by
  induction n generalizing v with
  | zero => rfl
  | succ n ih => simp [leBytes, ih]

theorem leBytes_getD (n v k : Nat) (h : k < n) : (leBytes n v).getD k 0 = BitVec.ofNat 8 (v / 256 ^ k) := by
  induction n generalizing v k with
  | zero => omega
  | succ n ih =>
    cases k with
    | zero => simp [leBytes]
    | succ k => rw [leBytes, List.getD_cons_succ, ih _ k (by omega), Nat.div_div_eq_div_mul, Nat.pow_succ']

/-! ### One register word written -/

/-- Between two states of the block one register word is written, to the value `v`, and nothing else changes. -/
structure WordWritten (a : Nat) (v : Word) (c d : Chip) : Prop where
  word : d.reg a = v
  others : ∀ b, b ≠ a → d.reg b = c.reg b
  rest : { d with regs := c.regs } = c

namespace WordWritten

variable {a : Nat} {u v : Word} {c d e : Chip}

theorem refl (h : c.reg a = v) : WordWritten a v c c := ⟨h, fun _ _ => rfl, rfl⟩

theorem setReg (c : Chip) (a : Nat) (v : Word) : WordWritten a v c (c.setReg a v) where
  word := by rw [Chip.reg_setReg, if_pos rfl]
  others b hb := by rw [Chip.reg_setReg, if_neg hb]
  rest := rfl

theorem trans (h : WordWritten a u c d) (k : WordWritten a v d e) : WordWritten a v c e where
  word := k.word
  others b hb := (k.others b hb).trans (h.others b hb)
  rest := by
    have hk : { e with regs := c.regs } = { d with regs := c.regs } := congrArg (fun x : Chip => { x with regs := c.regs }) k.rest
    exact hk.trans h.rest

theorem rings (h : WordWritten a v c d) : d.rings = c.rings := (congrArg Chip.rings h.rest :)
theorem run (h : WordWritten a v c d) : d.run = c.run := (congrArg Chip.run h.rest :)
theorem modes (h : WordWritten a v c d) : d.modes = c.modes := (congrArg Chip.modes h.rest :)
theorem mram (h : WordWritten a v c d) : d.mram = c.mram := (congrArg Chip.mram h.rest :)
theorem girth (h : WordWritten a v c d) : d.girth = c.girth := (congrArg Chip.girth h.rest :)

end WordWritten

/-- What bits under mask `m` hold after a write of `w` to a word that held `v`: a mask of 0 leaves the word alone. -/
theorem maskedWrite_zero (v w : Word) : (v &&& ~~~(wd 0)) ||| (w &&& wd 0) = v := by
  rw [wd, BitVec.and_zero, BitVec.or_zero, BitVec.not_zero, BitVec.and_allOnes]

/-! ### The SH fields of a written word (00 R7) -/

/-- The block after the SH fields of a word have taken the write. -/
def Chip.takeShadow (c : Chip) (r : RegRow) (a : Nat) (w : Word) : Chip :=
  if r.sh = 0 then c else c.setReg a ((c.reg a &&& ~~~(wd r.sh)) ||| (w &&& wd r.sh))

theorem Chip.takeShadow_of_none (c : Chip) (r : RegRow) (a : Nat) (w : Word) (h : r.sh = 0) : c.takeShadow r a w = c := if_pos h

theorem Chip.takeShadow_of_some (c : Chip) (r : RegRow) (a : Nat) (w : Word) (h : r.sh ≠ 0) :
    c.takeShadow r a w = c.setReg a ((c.reg a &&& ~~~(wd r.sh)) ||| (w &&& wd r.sh)) := if_neg h

theorem Chip.takeShadow_written (c : Chip) (r : RegRow) (a : Nat) (w : Word) :
    WordWritten a ((c.reg a &&& ~~~(wd r.sh)) ||| (w &&& wd r.sh)) c (c.takeShadow r a w) := by
  by_cases h : r.sh = 0
  · rw [Chip.takeShadow_of_none c r a w h, h]
    exact .refl (maskedWrite_zero _ _).symm
  · rw [Chip.takeShadow_of_some c r a w h]
    exact .setReg c a _

/-! ### The other fields of a written word (00 R8-R10, R12) -/

/-- The block after the RW fields of a word that is held as a word have taken the write (R7). -/
def Chip.takeRw (c : Chip) (r : RegRow) (a : Nat) (w : Word) : Chip :=
  if r.rw = 0 ∨ ownStore a = true then c else c.setReg a ((c.reg a &&& ~~~(wd r.rw)) ||| (w &&& wd r.rw))

theorem Chip.takeRw_of_none (c : Chip) (r : RegRow) (a : Nat) (w : Word) (h : r.rw = 0 ∨ ownStore a = true) : c.takeRw r a w = c := if_pos h

theorem Chip.takeRw_written (c : Chip) (r : RegRow) (a : Nat) (w : Word) (hown : ownStore a = false) :
    WordWritten a ((c.reg a &&& ~~~(wd r.rw)) ||| (w &&& wd r.rw)) c (c.takeRw r a w) := by
  by_cases h : r.rw = 0
  · rw [Chip.takeRw_of_none c r a w (Or.inl h), h]
    exact .refl (maskedWrite_zero _ _).symm
  · have hkept : ¬ (r.rw = 0 ∨ ownStore a = true) := by simp [h, hown]
    rw [Chip.takeRw, if_neg hkept]
    exact .setReg c a _

/-- Away from the ring status words and the memory buffer, the own fields of a word are its RW bits, its W1C bits and its trigger. -/
theorem Chip.storeOwn_eq (c : Chip) (r : RegRow) (a : Nat) (w : Word) (hring : ¬ (0x0800 ≤ a ∧ a < 0x0C00 ∧ a % 16 = 6))
    (hbuf : ¬ (0x3F00 ≤ a ∧ a < 0x4000)) :
    c.storeOwn r a w =
      (if r.w1c = 0 then c.takeRw r a w else (c.takeRw r a w).clrBits a (w &&& wd r.w1c).toNat).trigger a w := by
  unfold Chip.storeOwn
  simp only [if_neg hring, if_neg hbuf]
  rfl

theorem Chip.storeOwn_trigger (c : Chip) (r : RegRow) (a : Nat) (w : Word) (hbuf : a < 0x3F00) (hring : ¬ (0x0800 ≤ a ∧ a < 0x0C00 ∧ a % 16 = 6))
    (hrw : r.rw = 0 ∨ ownStore a = true) (hw1c : r.w1c = 0) : c.storeOwn r a w = c.trigger a w := by
  rw [Chip.storeOwn_eq c r a w hring (by omega), if_pos hw1c, Chip.takeRw_of_none c r a w hrw]

/-- Of a plain word's own fields only the RW bits take the write. -/
theorem Chip.storeOwn_of_plain (c : Chip) {r : RegRow} {a : Nat} (w : Word) (h : plainRow a r) : c.storeOwn r a w = c.takeRw r a w := by
  obtain ⟨-, -, hw1c, -, -, hring, hbuf, -, htrig⟩ := h
  rw [Chip.storeOwn_eq c r a w (by omega) hbuf, if_pos hw1c, htrig]

/-- The W1C bits written as 1 are cleared (R10). -/
theorem Chip.storeOwn_written_of_w1c (c : Chip) (r : RegRow) (a : Nat) (w : Word) (hbuf : a < 0x3F00)
    (hring : ¬ (0x0800 ≤ a ∧ a < 0x0C00)) (hrw : r.rw = 0) (hw1c : r.w1c ≠ 0) (htrig : ∀ (c : Chip) (v : Word), c.trigger a v = c) :
    WordWritten a (c.reg a &&& ~~~(w &&& wd r.w1c)) c (c.storeOwn r a w) := by
  have hmask : wd (w &&& wd r.w1c).toNat = w &&& wd r.w1c := by rw [wd, BitVec.ofNat_toNat, BitVec.setWidth_eq]
  rw [Chip.storeOwn_eq c r a w (by omega) (by omega), if_neg hw1c, htrig, Chip.takeRw_of_none c r a w (Or.inl hrw), Chip.clrBits, hmask]
  exact .setReg c a _

/-! ### The ARM bit of a written word (00 R12, 01 R56, 20 R885) -/

theorem Chip.storeArm_of_unarmed (c : Chip) (r : RegRow) (a : Nat) (w : Word) (h : r.arm = false) : c.storeArm r a w = (c, 0) := by
  simp [Chip.storeArm, h]

theorem Chip.storeArm_isolated (c : Chip) (r : RegRow) (a : Nat) (w : Word) (h : (armDie a).any c.silent = true) : (c.storeArm r a w).1 = c := by
  simp only [Chip.storeArm, h, if_true]
  split <;> rfl

theorem Chip.storeArm_reaches (c : Chip) (r : RegRow) (a : Nat) (w : Word) (harm : r.arm = true) (hbit : bit w 31 = true)
    (h : (armDie a).any c.silent = false) : (c.storeArm r a w).1 = c.armUnit a := by
  simp [Chip.storeArm, harm, hbit, h]

/-! ### A written word of a mapped register (01 R55, R56) -/

/-- The die of a word takes the fields that are its own: the word has none, is on the logic die, or its lane is LIVE. -/
def Chip.dieTakes (c : Chip) (r : RegRow) (a : Nat) : Prop :=
  r.onDie = false ∨ remoteLane a = none ∨ ∃ l, remoteLane a = some l ∧ c.live l = true

theorem Chip.storeWord_of_dieTakes (c : Chip) (r : RegRow) (a : Nat) (w : Word) (h : c.dieTakes r a) :
    (c.storeWord r a w).1 = (((c.takeShadow r a w).storeOwn r a w).storeArm r a w).1 := by
  have hreach : (!r.onDie || ((remoteLane a).map c.lane).all (fun l => decide (l = .live))) = true := by
    rcases h with h | h | ⟨l, hl, hlive⟩
    · simp [h]
    · simp [h]
    · simp_all [Chip.live]
  unfold Chip.storeWord
  simp only [hreach, if_true]
  rfl

theorem Chip.storeWord_of_notLive (c : Chip) (r : RegRow) (a l : Nat) (w : Word) (hl : remoteLane a = some l) (hdie : r.onDie = true)
    (hlive : c.live l = false) : (c.storeWord r a w).1 = ((c.takeShadow r a w).storeArm r a w).1 := by
  have hreach : ¬ (!r.onDie || ((remoteLane a).map c.lane).all (fun l => decide (l = .live))) = true := by
    simpa [hl, hdie, Chip.live] using hlive
  unfold Chip.storeWord
  simp only [if_neg hreach]
  split <;> rfl

/-- Where the own fields take nothing from the write, the state of the die does not matter. -/
theorem Chip.storeWord_of_storeOwn_idle (c : Chip) (r : RegRow) (a : Nat) (w : Word)
    (h : (c.takeShadow r a w).storeOwn r a w = c.takeShadow r a w) : (c.storeWord r a w).1 = ((c.takeShadow r a w).storeArm r a w).1 := by
  by_cases hd : c.dieTakes r a
  · rw [Chip.storeWord_of_dieTakes c r a w hd, h]
  · simp only [Chip.dieTakes, not_or, not_exists, not_and, Bool.not_eq_true, Bool.not_eq_false] at hd
    obtain ⟨hdie, hlane, hlive⟩ := hd
    obtain ⟨l, hl⟩ := Option.ne_none_iff_exists'.mp hlane
    exact Chip.storeWord_of_notLive c r a l w hl hdie (hlive l hl)

/-! ### The address of a written word (00 R20, R21; 05 R275; 07 R320; 20 R871) -/

theorem Chip.writeWord_of_mapped (c : Chip) {r : RegRow} {a : Nat} (w : Word) (ha : a < 0x8000) (hr : regRow a = some r) :
    c.writeWord a w = c.storeWord r a w := by
  unfold Chip.writeWord
  rw [if_neg (by omega), if_neg (by omega), hr]

theorem Chip.writeWord_of_unmapped (c : Chip) {a : Nat} (w : Word) (ha : a < 0x8000) (hr : regRow a = none) : (c.writeWord a w).1 = c := by
  unfold Chip.writeWord
  rw [if_neg (by omega), if_neg (by omega), hr]

theorem Chip.writeWord_mramWindow (c : Chip) {a : Nat} (w : Word) (ha : 0xC000 ≤ a) : (c.writeWord a w).1 = c := by
  unfold Chip.writeWord
  rw [if_neg (by omega), if_pos ha]

theorem Chip.writeWord_ringWindow (c : Chip) (n i : Nat) (w : Word) (hn : n < 64) (hi : i < 256) :
    (c.writeWord (0x8000 + 256 * n + i) w).1 = (c.stageWindow n i w).1 := by
  have hring : (0x8000 + 256 * n + i - 0x8000) / 256 = n := by omega
  have hword : (0x8000 + 256 * n + i) % 256 = i := by omega
  unfold Chip.writeWord
  rw [if_pos (by omega), hring, hword]

theorem Chip.stageWindow_discarded (c : Chip) (n i : Nat) (w : Word) (h : (c.ring n).producer ≠ 0x0B ∨ (c.ring n).free ≤ i / 8) :
    (c.stageWindow n i w).1 = c := by
  unfold Chip.stageWindow
  dsimp only
  rw [if_neg (by rintro ⟨hp, hf⟩; exact h.elim (· hp) (by omega))]

theorem Chip.stageWindow_staged (c : Chip) (n i : Nat) (w : Word) (hp : (c.ring n).producer = 0x0B) (hf : i / 8 < (c.ring n).free) :
    (c.stageWindow n i w).1 = c.putEntry ((c.ring n).slot ((c.ring n).head + BitVec.ofNat 16 (i / 8)))
      ((c.entryAt ((c.ring n).slot ((c.ring n).head + BitVec.ofNat 16 (i / 8)))).set (i % 8) w) := by
  unfold Chip.stageWindow
  exact congrArg Prod.fst (if_pos ⟨hp, hf⟩)

@[simp] theorem Chip.ring_follow (c was : Chip) (n : Nat) : (c.follow was).ring n = c.ring n := rfl

/-! ### The memory port's buffer (17 R766) -/

/-- Every row of the port registers but the last lies below the buffer. -/
theorem regRow_buffer (i : Nat) (hi : i < 256) : regRow (0x3F00 + i) = some { lo := 0x3F00, hi := 0x3FFF, rw := allBits } := by
  have hblock : blockRows (0x3F00 + i) = portRows.dropLast ++ [{ lo := 0x3F00, hi := 0x3FFF, rw := allBits }] := by
    simp only [blockRows]
    repeat rw [if_neg (by omega)]
    rw [if_pos (by omega)]
    rfl
  have haddr : mapAddr (0x3F00 + i) = 0x3F00 + i := if_neg (by omega)
  have hbelow : ∀ r ∈ portRows.dropLast, r.hi < 0x3F00 := by decide
  have hnone : portRows.dropLast.find? (fun r => decide (r.lo ≤ 0x3F00 + i) && decide (0x3F00 + i ≤ r.hi)) = none :=
    List.find?_eq_none.mpr fun r hr => by
      have := hbelow r hr
      simp only [Bool.and_eq_true, decide_eq_true_eq]
      omega
  unfold regRow
  rw [hblock, haddr, List.find?_append, hnone, Option.none_or, List.find?_cons_of_pos]
  simp only [Bool.and_eq_true, decide_eq_true_eq]
  omega

theorem Chip.writeWord_buffer (c : Chip) (i : Nat) (w : Word) (hi : i < 256) : (c.writeWord (0x3F00 + i) w).1 = c.bufWrite i w := by
  have hlane : remoteLane (0x3F00 + i) = none := by
    unfold remoteLane
    repeat rw [if_neg (by omega)]
  have hown : ownStore (0x3F00 + i) = true := by
    simp only [ownStore, Bool.or_eq_true, decide_eq_true_eq]
    omega
  rw [Chip.writeWord_of_mapped c w (by omega) (regRow_buffer i hi), Chip.storeWord_of_dieTakes _ _ _ _ (Or.inr (Or.inl hlane)),
    Chip.takeShadow_of_none _ _ _ _ rfl, Chip.storeArm_of_unarmed _ _ _ _ rfl]
  unfold Chip.storeOwn
  simp only [hown, or_true, if_true]
  rw [if_neg (by omega), if_pos (by omega), Nat.add_sub_cancel_left]

theorem Chip.bufWrite_busy (c : Chip) (i : Nat) (w : Word) (h : c.mem.xfer.isSome = true) : c.bufWrite i w = c.setBits 0x3E02 32 := if_pos h

theorem Chip.bufWrite_idle (c : Chip) (i : Nat) (w : Word) (h : c.mem.xfer = none) :
    c.bufWrite i w = c.upMem fun m => { m with buf := memWrite 0 m.buf (c.rf 0x3E20 2 0 * 1024 + 4 * i) (leBytes 4 w.toNat) } := by
  simp [Chip.bufWrite, h]

/-! ### The command -/

theorem exec_registerWrite (a : Nat) (w : Word) (s : State) : exec (.registerWrite a w) s = s.run (fun c => (c.hostWrite a w).1) := rfl

/-- Where the host may write, a register write is the write of its word. -/
theorem gives_registerWrite_open {s : State} {a : Nat} {w : Word} {P : Chip → Prop} (hawake : s.chip.awake = true)
    (hopen : s.chip.hostOpen = true) (h : P ((s.chip.writeWord a w).1.follow s.chip)) : Gives (.registerWrite a w) s P := by
  refine Gives.run (exec_registerWrite a w s) hawake ?_
  simpa only [Chip.hostWrite, hopen, Bool.true_or, if_true] using h

theorem Gives.mono {i : Instr} {s : State} {P Q : Chip → Prop} (h : Gives i s P) (hPQ : ∀ c, P c → Q c) : Gives i s Q := by
  obtain ⟨t, hexec, hpending, hP⟩ := h
  exact ⟨t, hexec, hpending, hPQ _ hP⟩

section Open
variable {s : State} (hawake : s.chip.awake = true) (hopen : s.chip.hostOpen = true)
include hawake hopen

/-- A write that leaves the block alone, where the host may write. -/
theorem registerWrite_idle {a : Nat} {w : Word} (h : (s.chip.writeWord a w).1 = s.chip) :
    Gives (.registerWrite a w) s (fun c => c = s.chip.follow s.chip) :=
  gives_registerWrite_open hawake hopen (congrArg (fun c : Chip => c.follow s.chip) h)

/-- A write that changes one register word, where the host may write. -/
theorem registerWrite_written {a : Nat} {w v : Word} (h : WordWritten a v s.chip (s.chip.writeWord a w).1) :
    Gives (.registerWrite a w) s (fun c => c.reg a = v ∧ (∀ b, b ≠ a → c.reg b = s.chip.reg b) ∧ c.rings = s.chip.rings ∧ c.run = s.chip.run ∧
      c.modes = s.chip.modes ∧ c.mram = s.chip.mram) :=
  gives_registerWrite_open hawake hopen ⟨h.word, h.others, h.rings, h.run, h.modes, h.mram⟩

/-- SH and RW fields of a plain word take the write where the die of the word takes it (R7, R8). -/
theorem registerWrite_plain {a : Nat} {r : RegRow} (w : Word) (hp : plainRow a r) (hd : s.chip.dieTakes r a) :
    Gives (.registerWrite a w) s (fun c => c.reg a = plainWord r (s.chip.reg a) w ∧ (∀ b, b ≠ a → c.reg b = s.chip.reg b) ∧
      c.rings = s.chip.rings ∧ c.run = s.chip.run ∧ c.modes = s.chip.modes ∧ c.mram = s.chip.mram) := by
  have ⟨hr, harm, _, _, ha, _, _, hown, _⟩ := hp
  have hsh := s.chip.takeShadow_written r a w
  have hrw := (s.chip.takeShadow r a w).takeRw_written r a w hown
  refine registerWrite_written hawake hopen ?_
  rw [Chip.writeWord_of_mapped _ w ha hr, Chip.storeWord_of_dieTakes _ _ _ _ hd, Chip.storeOwn_of_plain _ w hp,
    Chip.storeArm_of_unarmed _ _ _ _ harm]
  rw [hsh.word] at hrw
  exact hsh.trans hrw

/-- Only the SH fields of a plain word take the write while its die cannot (01 R55, R56). -/
theorem registerWrite_plain_notLive {a l : Nat} {r : RegRow} (w : Word) (hp : plainRow a r) (hl : remoteLane a = some l) (hdie : r.onDie = true)
    (hlive : s.chip.live l = false) :
    Gives (.registerWrite a w) s (fun c => c.reg a = (s.chip.reg a &&& ~~~(wd r.sh)) ||| (w &&& wd r.sh) ∧
      (∀ b, b ≠ a → c.reg b = s.chip.reg b) ∧ c.rings = s.chip.rings ∧ c.run = s.chip.run) := by
  obtain ⟨hr, harm, -, -, ha, -⟩ := hp
  have hw : WordWritten a ((s.chip.reg a &&& ~~~(wd r.sh)) ||| (w &&& wd r.sh)) s.chip (s.chip.writeWord a w).1 := by
    rw [Chip.writeWord_of_mapped _ w ha hr, Chip.storeWord_of_notLive _ _ _ _ _ hl hdie hlive, Chip.storeArm_of_unarmed _ _ _ _ harm]
    exact s.chip.takeShadow_written r a w
  exact (registerWrite_written hawake hopen hw).mono fun c ⟨h1, h2, h3, h4, _⟩ => ⟨h1, h2, h3, h4⟩

/-- RO fields ignore the write (R8). -/
theorem registerWrite_readOnly {a : Nat} {r : RegRow} (w : Word) (hp : plainRow a r) (hsh : r.sh = 0) (hrw : r.rw = 0) :
    Gives (.registerWrite a w) s (fun c => c = s.chip.follow s.chip) := by
  have ⟨hr, harm, _, _, ha, _⟩ := hp
  have hidle : (s.chip.takeShadow r a w).storeOwn r a w = s.chip.takeShadow r a w :=
    (Chip.storeOwn_of_plain _ w hp).trans (Chip.takeRw_of_none _ r a w (Or.inl hrw))
  refine registerWrite_idle hawake hopen ?_
  rw [Chip.writeWord_of_mapped _ w ha hr, Chip.storeWord_of_storeOwn_idle _ _ _ _ hidle, Chip.takeShadow_of_none _ _ _ _ hsh,
    Chip.storeArm_of_unarmed _ _ _ _ harm]

/-- W1C bits written as 1 are cleared (R10). -/
theorem registerWrite_w1c {a : Nat} {r : RegRow} (w : Word) (hr : regRow a = some r) (ha : a < 0x3F00) (hring : ¬ (0x0800 ≤ a ∧ a < 0x0C00))
    (harm : r.arm = false) (hsh : r.sh = 0) (hrw : r.rw = 0) (hw1c : r.w1c ≠ 0) (htrig : ∀ (c : Chip) (v : Word), c.trigger a v = c)
    (hd : s.chip.dieTakes r a) :
    Gives (.registerWrite a w) s (fun c => c.reg a = s.chip.reg a &&& ~~~(w &&& wd r.w1c) ∧ (∀ b, b ≠ a → c.reg b = s.chip.reg b) ∧
      c.rings = s.chip.rings ∧ c.run = s.chip.run) := by
  have hw : WordWritten a (s.chip.reg a &&& ~~~(w &&& wd r.w1c)) s.chip (s.chip.writeWord a w).1 := by
    rw [Chip.writeWord_of_mapped _ w (by omega) hr, Chip.storeWord_of_dieTakes _ _ _ _ hd, Chip.takeShadow_of_none _ _ _ _ hsh,
      Chip.storeArm_of_unarmed _ _ _ _ harm]
    exact Chip.storeOwn_written_of_w1c _ r a w ha hring hrw hw1c htrig
  exact (registerWrite_written hawake hopen hw).mono fun c ⟨h1, h2, h3, h4, _⟩ => ⟨h1, h2, h3, h4⟩

/-- A word whose bits act when written: what its trigger does (R9, R12). -/
theorem registerWrite_trigger {a : Nat} {r : RegRow} (w : Word) (hr : regRow a = some r) (ha : a < 0x3F00)
    (hring : ¬ (0x0800 ≤ a ∧ a < 0x0C00 ∧ a % 16 = 6)) (harm : r.arm = false) (hsh : r.sh = 0) (hrw : r.rw = 0 ∨ ownStore a = true)
    (hw1c : r.w1c = 0) (hd : s.chip.dieTakes r a) : Gives (.registerWrite a w) s (fun c => c = (s.chip.trigger a w).follow s.chip) := by
  refine gives_registerWrite_open hawake hopen ?_
  rw [Chip.writeWord_of_mapped _ w (by omega) hr, Chip.storeWord_of_dieTakes _ _ _ _ hd, Chip.takeShadow_of_none _ _ _ _ hsh,
    Chip.storeOwn_trigger _ r a w ha hring hrw hw1c, Chip.storeArm_of_unarmed _ _ _ _ harm]

/-- An ARM bit written as 1: the SH fields of its word are stored, and its unit takes the set unless its die is isolated (R12, R56, R885). -/
theorem registerWrite_arm {a : Nat} {r : RegRow} (w : Word) (hr : regRow a = some r) (ha : a < 0x3F00)
    (hring : ¬ (0x0800 ≤ a ∧ a < 0x0C00 ∧ a % 16 = 6)) (harm : r.arm = true) (hrw : r.rw = 0) (hw1c : r.w1c = 0) (hbit : bit w 31 = true)
    (htrig : ∀ (c : Chip) (v : Word), c.trigger a v = c) :
    ((armDie a).any s.chip.silent = true → Gives (.registerWrite a w) s (fun c => c = (s.chip.takeShadow r a w).follow s.chip)) ∧
    ((armDie a).any s.chip.silent = false → Gives (.registerWrite a w) s (fun c => c = ((s.chip.takeShadow r a w).armUnit a).follow s.chip)) := by
  have hidle : (s.chip.takeShadow r a w).storeOwn r a w = s.chip.takeShadow r a w := by
    rw [Chip.storeOwn_trigger _ r a w ha hring (Or.inl hrw) hw1c, htrig]
  have hstore : (s.chip.writeWord a w).1 = ((s.chip.takeShadow r a w).storeArm r a w).1 := by
    rw [Chip.writeWord_of_mapped _ w (by omega) hr, Chip.storeWord_of_storeOwn_idle _ _ _ _ hidle]
  have hsilent : (s.chip.takeShadow r a w).silent = s.chip.silent := by
    funext l
    unfold Chip.silent Chip.lane
    rw [(s.chip.takeShadow_written r a w).girth]
  constructor <;> intro hdie <;> refine gives_registerWrite_open hawake hopen ?_
  · rw [hstore, Chip.storeArm_isolated _ r a w (by rwa [hsilent])]
  · rw [hstore, Chip.storeArm_reaches _ r a w harm hbit (by rwa [hsilent])]

/-- A word of a ring's entry window: discarded, or staged in the entry it names (07 R320). -/
theorem registerWrite_ringWindow (n i : Nat) (w : Word) (hn : n < 64) (hi : i < 256) :
    ((s.chip.ring n).producer ≠ 0x0B ∨ (s.chip.ring n).free ≤ i / 8 →
      Gives (.registerWrite (0x8000 + 256 * n + i) w) s (fun c => c = s.chip.follow s.chip)) ∧
    ((s.chip.ring n).producer = 0x0B → i / 8 < (s.chip.ring n).free → Gives (.registerWrite (0x8000 + 256 * n + i) w) s (fun c =>
      c.regs = s.chip.regs ∧ (c.ring n).head = (s.chip.ring n).head ∧ (c.ring n).tail = (s.chip.ring n).tail ∧
      c.rings = (s.chip.putEntry ((s.chip.ring n).slot ((s.chip.ring n).head + BitVec.ofNat 16 (i / 8)))
        ((s.chip.entryAt ((s.chip.ring n).slot ((s.chip.ring n).head + BitVec.ofNat 16 (i / 8)))).set (i % 8) w)).rings)) := by
  have hwin := s.chip.writeWord_ringWindow n i w hn hi
  constructor
  · intro h
    exact registerWrite_idle hawake hopen (hwin.trans (s.chip.stageWindow_discarded n i w h))
  · intro hp hf
    refine gives_registerWrite_open hawake hopen ?_
    rw [hwin, Chip.stageWindow_staged _ n i w hp hf]
    simp

/-- A word of the memory port's buffer: its four bytes are stored, or BUF_BUSY is set while a transfer runs (17 R766). -/
theorem registerWrite_buffer (i : Nat) (w : Word) (hi : i < 256) :
    (s.chip.mem.xfer.isSome = true → Gives (.registerWrite (0x3F00 + i) w) s (fun c => c.mem = s.chip.mem ∧ c.rf 0x3E02 5 5 = 1)) ∧
    (s.chip.mem.xfer = none → Gives (.registerWrite (0x3F00 + i) w) s (fun c => c.regs = s.chip.regs ∧
      (∀ k, k < 4 → mget 0 c.mem.buf (s.chip.rf 0x3E20 2 0 * 1024 + 4 * i + k) = BitVec.ofNat 8 (w.toNat / 256 ^ k)) ∧
      ∀ x, (x < s.chip.rf 0x3E20 2 0 * 1024 + 4 * i ∨ s.chip.rf 0x3E20 2 0 * 1024 + 4 * i + 4 ≤ x) →
        mget 0 c.mem.buf x = mget 0 s.chip.mem.buf x)) := by
  have hbuf := s.chip.writeWord_buffer i w hi
  constructor <;> intro hx <;> refine gives_registerWrite_open hawake hopen ?_
  · rw [hbuf, Chip.bufWrite_busy _ i w hx]
    exact ⟨rfl, rf_setBits_bit s.chip 0x3E02 5 (by decide)⟩
  · rw [hbuf, Chip.bufWrite_idle _ i w hx]
    simp only [Chip.follow_regs, Chip.follow_mem, Chip.upMem_regs, Chip.upMem_mem, mget_memWrite, leBytes_length]
    refine ⟨trivial, fun k hk => ?_, fun x hx => if_neg (by omega)⟩
    rw [if_pos (by omega), Nat.add_sub_cancel_left, leBytes_getD 4 _ k hk]

end Open

/-- Settles O48: by the state of the host port, the address and the access codes, each clause is the rule proved for it above. -/
theorem registerWritesFollowTheirAccessCodes : Obligations.RegisterWritesFollowTheirAccessCodes := by
  intro s a w hawake
  refine ⟨fun hclosed ha => ?closed, fun hopen => ⟨fun ha hr => ?unmapped, fun ha => ?mramWindow,
    fun r hp => ⟨fun hd => ?plain, fun l hl hdie hlive => ?notLive⟩,
    fun r hp hsh hrw => ?readOnly,
    fun r hr ha hring harm hsh hrw hw1c htrig hd => ?w1c,
    fun r hr ha hring harm hrw hw1c hbit htrig => ?arm,
    fun r hr ha hring harm hsh hrw hw1c _ hd => ?trigger,
    fun n i ha hn hi => ?ringWindow, fun i ha hi => ?buffer⟩⟩
  case closed => exact Gives.run (exec_registerWrite a w s) hawake (by simp [Chip.hostWrite, hclosed, ha])
  case unmapped => exact registerWrite_idle hawake hopen (s.chip.writeWord_of_unmapped w ha hr)
  case mramWindow => exact registerWrite_idle hawake hopen (s.chip.writeWord_mramWindow w ha)
  case plain => exact registerWrite_plain hawake hopen w hp hd
  case notLive => exact registerWrite_plain_notLive hawake hopen w hp hl hdie hlive
  case readOnly => exact registerWrite_readOnly hawake hopen w hp hsh hrw
  case w1c => exact registerWrite_w1c hawake hopen w hr ha hring harm hsh hrw hw1c htrig (Or.inr hd)
  case arm =>
    obtain ⟨hisolated, hreached⟩ := registerWrite_arm hawake hopen w hr ha hring harm hrw hw1c hbit htrig
    have hsh := s.chip.takeShadow_written r a w
    refine ⟨fun hdie => (hisolated hdie).mono ?_, fun hdie hsome => ?_, fun hdie hnone => ?_⟩
    · rintro c rfl
      exact ⟨hsh.run, hsh.rings, (Chip.follow_girth_armed _ _).trans (congrArg Girth.armed hsh.girth), hsh.others⟩
    · simpa only [Chip.takeShadow_of_some _ r a w hsome] using hreached hdie
    · simpa only [Chip.takeShadow_of_none _ r a w hnone] using hreached hdie
  case trigger => exact registerWrite_trigger hawake hopen w hr ha hring harm hsh hrw hw1c (Or.inr hd)
  case ringWindow =>
    subst ha
    exact registerWrite_ringWindow hawake hopen n i w hn hi
  case buffer =>
    subst ha
    exact registerWrite_buffer hawake hopen i w hi

end Sys2Proof.Machine
end

section
/-! SUPPORT. A start: what follows the reset of a start leaves alone, the state every start begins with, and the statement on the triggers
assembled from them. -/

namespace Sys2Proof.Machine

/-! ### What a start does after its reset (06 R239, R251, R252, R489, R861) -/

/-- The block with what a start works on after its reset forgotten: registers, MRAM, rings, yard engine, burnish and update record, and of the
start everything but its trigger and phase. -/
def Chip.opened (c : Chip) : Chip :=
  { c with regs := [], mram := {}, rings := {}, yard := {}, burnish := {}, upd := {},
           start := { trigger := c.start.trigger, phase := c.start.phase } }

theorem Chip.opened_setBits (c : Chip) (a m : Nat) : (c.setBits a m).opened = c.opened := rfl
theorem Chip.opened_upBurnish (c : Chip) (f : Burnish → Burnish) : (c.upBurnish f).opened = c.opened := rfl
theorem Chip.opened_upUpd (c : Chip) (f : Update → Update) : (c.upUpd f).opened = c.opened := rfl
theorem Chip.opened_nextEra (c : Chip) : c.nextEra.opened = c.opened := rfl

theorem Chip.opened_upStart_cause (c : Chip) (k : Nat) (r : StartCtl → StartRec) :
    (c.upStart (fun s => { s with cause := k, record := r s })).opened = c.opened := rfl
theorem Chip.opened_readRecord (c : Chip) : c.readRecord.opened = c.opened := rfl

theorem Chip.opened_of_noRings {c d : Chip} (h : c.noRings = d.noRings) : c.opened = d.opened := (congrArg Chip.opened h :)

theorem Chip.opened_journal (c : Chip) (agent type w1 w2 : Nat) (prot : Bool) : (c.journal agent type w1 w2 prot).opened = c.opened :=
  Chip.opened_of_noRings (Chip.noRings_produce c agent 1 _)

theorem Chip.opened_heldBits (c : Chip) : c.heldBits.opened = c.opened := by
  unfold Chip.heldBits
  generalize c.girth.heldProt.filter (fun h => h.afterStart) = held
  induction held generalizing c with
  | nil => rfl
  | cons h held ih =>
    rw [List.foldl_cons, ih]
    split
    · exact Chip.opened_setBits c _ _
    · rfl

theorem Chip.opened_readUpd (c : Chip) : c.readUpd.opened = c.opened := by
  unfold Chip.readUpd
  split <;> exact Chip.opened_upUpd c _

theorem Chip.opened_lapseFound (c : Chip) : c.lapseFound.opened = c.opened := by
  unfold Chip.lapseFound
  dsimp only
  split
  · rw [Chip.opened_nextEra, Chip.opened_upStart_cause, Chip.opened_journal]
  · rw [Chip.opened_upStart_cause, Chip.opened_journal]

theorem Chip.opened_burnishFound (c : Chip) : c.burnishFound.opened = c.opened := by
  unfold Chip.burnishFound
  dsimp only
  split
  · rw [Chip.opened_upStart_cause, Chip.opened_journal, Chip.opened_upBurnish]
  · rfl

theorem Chip.opened_countStart (c : Chip) : c.countStart.opened = c.opened := by
  unfold Chip.countStart
  dsimp only
  split <;> rfl

/-- After its reset a start changes only what `Chip.opened` forgets. -/
theorem Chip.opened_beginStart (c : Chip) (trigger : Nat) : (c.beginStart trigger).opened = (c.norCut.afresh trigger).opened := by
  unfold Chip.beginStart
  dsimp only
  rw [Chip.opened_countStart, Chip.opened_burnishFound]
  split
  · rw [Chip.opened_lapseFound, Chip.opened_readRecord, Chip.opened_readUpd]
  · rw [Chip.opened_readRecord, Chip.opened_readUpd]

/-! ### Every start begins in one state (06 R248, R250) -/

theorem startBegun_opened (trigger : Nat) (c : Chip) : StartBegun trigger c.opened ↔ StartBegun trigger c := Iff.rfl
theorem startBegun_follow (trigger : Nat) (c was : Chip) : StartBegun trigger (c.follow was) ↔ StartBegun trigger c := Iff.rfl

theorem StartBegun.of_opened {trigger : Nat} {c d : Chip} (h : StartBegun trigger c) (hd : d.opened = c.opened) : StartBegun trigger d := by
  rwa [← startBegun_opened, hd, startBegun_opened]

/-- The reset of a start gives the state it begins with; the fault bits held over it are register bits (R861). -/
theorem startBegun_afresh (c : Chip) (trigger : Nat) : StartBegun trigger (c.afresh trigger) := by
  have hheld (d : Chip) (g : Girth) : ({ d.heldBits with girth := g } : Chip).opened = ({ d with girth := g } : Chip).opened :=
    congrArg (fun x : Chip => { x with girth := g }) d.opened_heldBits
  unfold Chip.afresh
  refine StartBegun.of_opened ?_ (hheld _ _)
  exact ⟨rfl, rfl, rfl, rfl, rfl, rfl, rfl, rfl⟩

theorem startBegun_beginStart (c : Chip) (trigger : Nat) : StartBegun trigger (c.beginStart trigger) :=
  (startBegun_afresh c.norCut trigger).of_opened (c.opened_beginStart trigger)

/-- A meaning that amounts to `Chip.beginStart`, of whatever block, leaves a start begun. -/
theorem startBegun_follow_of_eq {trigger : Nat} {c d was : Chip} (h : d = c.beginStart trigger) : StartBegun trigger (d.follow was) := by
  rw [startBegun_follow, h]
  exact startBegun_beginStart c trigger

/-! ### The triggers (02 R74, 03 R120, 06 R248, R249, R255) -/

theorem exec_corePowerOn (s : State) : exec .corePowerOn s =
    s.runPower (fun c => if !c.power.coreSupplied && (c.power.fvinTaken || c.power.cellConnected) then c.beginStart 1 else c) := rfl
theorem exec_shipExit (fvin : Bool) (s : State) : exec (.shipExit fvin) s =
    s.runPower (fun c => if c.power.coreSupplied && decide (c.mode = 0) then (if fvin then c.fvinTake else c).beginStart 2 else c) := rfl
theorem exec_nrstReset (s : State) : exec .nrstReset s = s.run (fun c => c.beginStart 3) := rfl
theorem exec_sysStartCmd (key : Word) (s : State) : exec (.sysStartCmd key) s = s.run (fun c => c.startCmd key) := rfl
theorem exec_startRetry (s : State) : exec .startRetry s =
    s.run (fun c => if decide (c.start.phase = .failed) || c.start.retryDue then c.beginStart 6 else c) := rfl

theorem Chip.startCmd_key (c : Chip) : c.startCmd 0x53544152 = c.beginStart 4 := if_pos rfl
theorem Chip.startCmd_other (c : Chip) {key : Word} (h : key ≠ 0x53544152) : c.startCmd key = c := if_neg h

/-- Settles O13: where its condition holds, each trigger's meaning is `Chip.beginStart` with its code. -/
theorem triggersBeginAStart : Obligations.TriggersBeginAStart := by
  refine ⟨fun s hoff hsupply => ?power, fun s fvin hon hship => ?ship, fun s hawake => ?nrst, fun s hawake => ?key,
    fun s key hawake hkey => ?otherKey, fun s hawake hfailed => ?retry⟩
  case power => exact Gives.power (exec_corePowerOn s) (startBegun_follow_of_eq (if_pos (by simpa [hoff] using hsupply)))
  case ship => exact Gives.power (exec_shipExit fvin s) (startBegun_follow_of_eq (if_pos (by simp [hon, hship])))
  case nrst => exact Gives.run (exec_nrstReset s) hawake (startBegun_follow_of_eq rfl)
  case key => exact Gives.run (exec_sysStartCmd _ s) hawake (startBegun_follow_of_eq s.chip.startCmd_key)
  case otherKey => exact Gives.run (exec_sysStartCmd key s) hawake (by rw [s.chip.startCmd_other hkey])
  case retry => exact Gives.run (exec_startRetry s) hawake (startBegun_follow_of_eq (if_pos (by simp [hfailed])))

end Sys2Proof.Machine
end

section
/-! SUPPORT. The rings in use: what a produce request does by its ring's class, what the host's accesses do to a ring, and the statements on both
assembled from them. -/

namespace Sys2Proof.Machine

/-! ### The outcome of one produce request (07 R297-R301, R314-R317) -/

/-- One produce request of `agent` into ring `n` leaves that ring as `r` and is answered `a`. -/
def Produced (c : Chip) (agent n : Nat) (e : Entry) (r : Ring) (a : Answer) : Prop :=
  (c.produceRaw agent n e).1.ring n = r ∧ (c.produceRaw agent n e).1.rings.answer = a

theorem Produced.of_eq {c d : Chip} {agent n : Nat} {e : Entry} {a : Answer} {b : Bool} (h : c.produceRaw agent n e = (d.answer a, b)) :
    Produced c agent n e (d.ring n) a := by
  unfold Produced
  rw [h]
  exact ⟨rfl, rfl⟩

/-- The outcome of a request whose effect is one change of its ring. -/
theorem Produced.of_upRing {c : Chip} {agent n : Nat} {e : Entry} {f : Ring → Ring} {a : Answer} {b : Bool} (hn : n < c.rings.rings.length)
    (h : c.produceRaw agent n e = ((c.upRing n f).answer a, b)) : Produced c agent n e (f (c.ring n)) a := by
  rw [← Chip.ring_upRing_self c n f hn]
  exact Produced.of_eq h

/-- A full ring other than ring 0 is met as full by every entry: ring 0 alone reserves entries by class (R307). -/
theorem Ring.meetsFull_of_full (r : Ring) {n : Nat} (agent : Nat) (e : Entry) (hn : n ≠ 0) (hfull : r.full = true) :
    r.meetsFull n agent e = true := by
  simp [Ring.meetsFull, Ring.fullFor, hn, hfull]

theorem Chip.ring_pushEntry_self (c : Chip) (n : Nat) (e : Entry) (hn : n < c.rings.rings.length) :
    (c.pushEntry n e).ring n = (c.ring n).pushed := by
  rw [Chip.ring_pushEntry, if_pos ⟨rfl, hn⟩]

theorem Chip.produceRaw_disabled (c : Chip) (agent n : Nat) (e : Entry) (h : (c.ring n).sizeLog2 = 0) :
    c.produceRaw agent n e = ((c.upRing n (fun r => r.drops 1)).answer
      (if timebaseDriven agent || (decide (n = 0) && decide (agent = 0x01)) then .counted else .unpowered), false) := if_pos h

/-- A disabled ring counts the entry. -/
theorem Produced.disabled {c : Chip} {agent n : Nat} (e : Entry) (hn : n < c.rings.rings.length) (h : (c.ring n).sizeLog2 = 0) :
    ∃ a, Produced c agent n e ((c.ring n).drops 1) a :=
  ⟨_, Produced.of_upRing hn (c.produceRaw_disabled agent n e h)⟩

namespace RingTakes
variable {c : Chip} {agent n : Nat} (h : RingTakes c agent n) (e : Entry)
include h

/-- A ring that takes entries is enabled, and so one of the block. -/
theorem lt_length : n < c.rings.rings.length := by
  obtain ⟨-, -, hsize, -⟩ := h
  exact c.ring_lt n fun hnone => hsize (by rw [hnone])

theorem push_done (hraw : c.produceRaw agent n e = ((c.pushEntry n e).answer .done, false)) :
    Produced c agent n e (c.ring n).pushed .done := by
  rw [← c.ring_pushEntry_self n e h.lt_length]
  exact Produced.of_eq hraw

/-- With room and no entry before it, the entry goes in, whatever the class. -/
theorem produced_room (hfull : (c.ring n).full = false) (hheld : (c.ring n).held = []) (hwaiting : (c.ring n).waiting = []) :
    Produced c agent n e (c.ring n).pushed .done := by
  refine h.push_done e ?_
  obtain ⟨-, hn, hsize, hconsumer, hcopying⟩ := h
  have hmeets : (c.ring n).meetsFull n agent e = false := by simp [Ring.meetsFull, Ring.fullFor, hn, hfull, hheld, hwaiting]
  unfold Chip.produceRaw
  cases hclass : (c.ring n).active <;> simp [hsize, hconsumer, hcopying, hfull, hmeets, hclass]

section Full
variable (hfull : (c.ring n).full = true)
include hfull

/-- A full DROP_OLDEST ring counts its oldest entry and takes the new one (R315). -/
theorem produced_dropOldest (hclass : (c.ring n).active = .dropOldest) :
    Produced c agent n e ({ (c.ring n).drops 1 with tail := (c.ring n).tail + 1 } : Ring).pushed .done := by
  have hlt := h.lt_length
  obtain ⟨-, -, hsize, hconsumer, hcopying⟩ := h
  have hraw : c.produceRaw agent n e =
      (((c.upRing n (fun r => { (r.drops 1) with tail := r.tail + 1 })).pushEntry n e).answer .done, false) := by
    simp [Chip.produceRaw, hsize, hconsumer, hcopying, hclass, hfull]
  have hring := Produced.of_eq hraw
  rwa [Chip.ring_pushEntry_self _ _ _ (by rwa [Chip.len_upRing]), Chip.ring_upRing_self _ _ _ hlt] at hring

/-- A full DROP_NEWEST ring counts the new entry (R316). -/
theorem produced_dropNewest (hclass : (c.ring n).active = .dropNewest) : Produced c agent n e ((c.ring n).drops 1) .dropped := by
  refine Produced.of_upRing (f := fun r => r.drops 1) h.lt_length (b := false) ?_
  obtain ⟨-, -, hsize, hconsumer, hcopying⟩ := h
  simp [Chip.produceRaw, hsize, hconsumer, hcopying, hclass, hfull]

section Lossless
variable (hclass : (c.ring n).active = .lossless)
include hclass

/-- A full LOSSLESS ring holds the entry of a timebase-driven producer while that producer holds fewer than four (R298). -/
theorem produced_held (htimebase : timebaseDriven agent = true) (hroom : ((c.ring n).held.filter (fun h => h.1 == agent)).length < 4) :
    Produced c agent n e { c.ring n with held := (c.ring n).held ++ [(agent, e)] } .held := by
  refine Produced.of_upRing (f := fun r => { r with held := r.held ++ [(agent, e)] }) h.lt_length (b := false) ?_
  obtain ⟨-, hn, hsize, hconsumer, hcopying⟩ := h
  simp [Chip.produceRaw, Ring.meetsFull_of_full _ agent e hn hfull, hn, hsize, hconsumer, hcopying, hclass, htimebase, hroom]

/-- Beyond four held entries the new one is counted and the ring overruns (R298). -/
theorem produced_overrun (htimebase : timebaseDriven agent = true) (hroom : 4 ≤ ((c.ring n).held.filter (fun h => h.1 == agent)).length) :
    Produced c agent n e { (c.ring n).drops 1 with overrun := true } .dropped := by
  refine Produced.of_upRing (f := fun r => { (r.drops 1) with overrun := true }) h.lt_length (b := !(c.ring n).overrun) ?_
  obtain ⟨-, hn, hsize, hconsumer, hcopying⟩ := h
  simp [Chip.produceRaw, Ring.meetsFull_of_full _ agent e hn hfull, hn, hsize, hconsumer, hcopying, hclass, htimebase, Nat.not_lt.2 hroom]

/-- Another producer waits behind a consumer of lower drain rank or an external one (R299). -/
theorem produced_waiting (htimebase : timebaseDriven agent = false) (hharness : agent ≠ 0x13)
    (hrank : drainRank (c.ring n).consumer < drainRank agent ∨ (c.ring n).consumer = 0x0B) :
    Produced c agent n e { c.ring n with waiting := (c.ring n).waiting ++ [(agent, e)] } .waiting := by
  refine Produced.of_upRing (f := fun r => { r with waiting := r.waiting ++ [(agent, e)] }) h.lt_length (b := false) ?_
  obtain ⟨-, hn, hsize, hconsumer, hcopying⟩ := h
  simp [Chip.produceRaw, Ring.meetsFull_of_full _ agent e hn hfull, hn, hsize, hconsumer, hcopying, hclass, htimebase, hharness, hrank]

/-- Otherwise it is refused, and the ring is as it was (R299). -/
theorem produced_refused (htimebase : timebaseDriven agent = false)
    (hrank : ¬ (drainRank (c.ring n).consumer < drainRank agent ∨ (c.ring n).consumer = 0x0B)) :
    Produced c agent n e (c.ring n) .refusedFull := by
  refine Produced.of_eq (b := false) ?_
  obtain ⟨-, hn, hsize, hconsumer, hcopying⟩ := h
  simp [Chip.produceRaw, Ring.meetsFull_of_full _ agent e hn hfull, hn, hsize, hconsumer, hcopying, hclass, htimebase, hrank]

end Lossless
end Full
end RingTakes

/-! ### The command RING_PRODUCE -/

theorem exec_ringProduce (agent n : Nat) (e : List Word) (s : State) : exec (.ringProduce agent n e) s =
    s.run (fun c => if c.mayProduce agent n then c.produce agent n (padTo 8 0 e) else c) := rfl

/-- The events a request raises go to ring 0, so that of another ring the command shows the outcome of the request. -/
theorem Produced.gives {s : State} {agent n : Nat} {e : List Word} {r : Ring} {a : Answer} (h : Produced s.chip agent n (padTo 8 0 e) r a)
    (hawake : s.chip.awake = true) (hmay : s.chip.mayProduce agent n = true) (hn : n ≠ 0) :
    Gives (.ringProduce agent n e) s (fun c => c.ring n = r ∧ c.rings.answer = a) := by
  obtain ⟨hring, hanswer⟩ := h
  refine Gives.run (exec_ringProduce agent n e s) hawake ?_
  rw [if_pos hmay, Chip.ring_follow, Chip.follow_rings, Chip.produce_ring _ _ _ _ _ hn, Chip.produce_answer]
  exact ⟨hring, hanswer⟩

theorem RingTakes.gives {s : State} {agent n : Nat} {e : List Word} {r : Ring} {a : Answer} (h : RingTakes s.chip agent n)
    (hawake : s.chip.awake = true) (hp : Produced s.chip agent n (padTo 8 0 e) r a) :
    Gives (.ringProduce agent n e) s (fun c => c.ring n = r ∧ c.rings.answer = a) := by
  obtain ⟨hmay, hn, -⟩ := h
  exact hp.gives hawake hmay hn

@[simp] theorem Ring.drops_one_drop (r : Ring) : (r.drops 1).drop = r.drop + 1 := rfl
@[simp] theorem Ring.drops_head (r : Ring) (k : Nat) : (r.drops k).head = r.head := by unfold Ring.drops; split <;> rfl
@[simp] theorem Ring.drops_tail (r : Ring) (k : Nat) : (r.drops k).tail = r.tail := by unfold Ring.drops; split <;> rfl
@[simp] theorem Ring.drops_held (r : Ring) (k : Nat) : (r.drops k).held = r.held := by unfold Ring.drops; split <;> rfl
@[simp] theorem Ring.pushed_head (r : Ring) : r.pushed.head = r.head + 1 := rfl
@[simp] theorem Ring.pushed_tail (r : Ring) : r.pushed.tail = r.tail := rfl
@[simp] theorem Ring.pushed_drop (r : Ring) : r.pushed.drop = r.drop := rfl

/-- Settles O24: each clause reads the ring and the answer off the outcome its class gives the request. -/
theorem ringsDecideByTheirClass : Obligations.RingsDecideByTheirClass := by
  intro s agent n e hawake
  refine ⟨fun h hfull hheld hwaiting => ?room, fun h hfull hclass => ?dropOldest, fun h hfull hclass => ?dropNewest,
    fun h hfull hclass htimebase hroom => ?held, fun h hfull hclass htimebase hroom => ?overrun,
    fun h hfull hclass htimebase hharness => ⟨fun hrank => ?waiting, fun hrank => ?refused⟩, fun hmay hn hlt hsize => ?disabled⟩
  case room => exact (h.gives hawake (h.produced_room _ hfull hheld hwaiting)).mono fun c ⟨hring, hanswer⟩ => by simp [hring, hanswer]
  case dropOldest => exact (h.gives hawake (h.produced_dropOldest _ hfull hclass)).mono fun c ⟨hring, hanswer⟩ => by simp [hring, hanswer]
  case dropNewest => exact (h.gives hawake (h.produced_dropNewest _ hfull hclass)).mono fun c ⟨hring, hanswer⟩ => by simp [hring, hanswer]
  case held =>
    exact (h.gives hawake (h.produced_held _ hfull hclass htimebase hroom)).mono fun c ⟨hring, hanswer⟩ => by simp [hring, hanswer]
  case overrun =>
    exact (h.gives hawake (h.produced_overrun _ hfull hclass htimebase hroom)).mono fun c ⟨hring, hanswer⟩ => by simp [hring, hanswer]
  case waiting =>
    exact (h.gives hawake (h.produced_waiting _ hfull hclass htimebase hharness hrank)).mono fun c ⟨hring, hanswer⟩ => by
      simp [hring, hanswer]
  case refused => exact h.gives hawake (h.produced_refused _ hfull hclass htimebase hrank)
  case disabled =>
    obtain ⟨a, hp⟩ := Produced.disabled (agent := agent) (padTo 8 0 e) hlt hsize
    exact (hp.gives hawake hmay hn).mono fun c ⟨hring, _⟩ => by simp [hring]

/-! ### What the host's consume and publish do to a ring (07 R322, R323) -/

theorem Chip.ring_endCopy (c : Chip) (n : Nat) (hn : n < c.rings.rings.length) :
    (c.endCopy n).ring n = { c.ring n with copying := false } := c.ring_upRing_self n _ hn

theorem Chip.ring_opResult (c : Chip) (n res : Nat) (hn : n < c.rings.rings.length) :
    (c.opResult n res).ring n = { c.ring n with opstat := res, stale := (c.ring n).stale || decide (res = 1) } := c.ring_upRing_self n _ hn

theorem Chip.ring_consume (c : Chip) (n k : Nat) (hn : n < c.rings.rings.length) :
    (c.consume n k).ring n = { c.ring n with tail := (c.ring n).tail + BitVec.ofNat 16 k } := c.ring_upRing_self n _ hn

/-- A converted ring that returns to its class changes in nothing else (R326). -/
theorem Chip.ring_settleClass (c : Chip) (n : Nat) : ∃ b, (c.settleClass n).ring n = { c.ring n with converted := b } := by
  unfold Chip.settleClass
  rw [Chip.ring_upRing]
  split
  · split
    · exact ⟨false, rfl⟩
    · exact ⟨_, rfl⟩
  · exact ⟨_, rfl⟩

@[simp] theorem Chip.len_endCopy (c : Chip) (n : Nat) : (c.endCopy n).rings.rings.length = c.rings.rings.length := c.len_upRing n _
@[simp] theorem Chip.len_consume (c : Chip) (n k : Nat) : (c.consume n k).rings.rings.length = c.rings.rings.length := c.len_upRing n _

/-- A ring after a host access that is refused with a result (R322): the copy has ended, the indices stay. -/
def Ring.refused (r : Ring) (res : Nat) : Ring := { r with copying := false, opstat := res, stale := r.stale || decide (res = 1) }

/-- A host access to ring `n` under the checks of R322, in order: the host must be the ring's agent, the index as written must agree where the
word asks for the check, and COUNT must not pass the limit. -/
def Chip.hostChecked (c : Chip) (n : Nat) (w : Word) (agent : Nat) (index : BitVec 16) (limit short : Nat) (done : Chip) : Chip :=
  if agent ≠ 0x0B then (c.endCopy n).opResult n 4
  else if bit w 15 = true ∧ index.toNat ≠ fld w 31 16 then (c.endCopy n).opResult n 1
  else if limit < fld w 12 0 then (c.endCopy n).opResult n short
  else done

namespace Chip
variable (c : Chip) (n : Nat) (hn : n < c.rings.rings.length)
include hn

theorem ring_refused (res : Nat) : ((c.endCopy n).opResult n res).ring n = (c.ring n).refused res := by
  rw [Chip.ring_opResult _ _ _ (by rwa [Chip.len_endCopy]), c.ring_endCopy n hn]
  rfl

/-- A consume is checked against the ring's consumer, TAIL and FILL; that a copy ends first changes none of them. -/
theorem hostConsume_eq (w : Word) : c.hostConsume n w = c.hostChecked n w (c.ring n).consumer (c.ring n).tail (c.ring n).fill 2
    ((((c.endCopy n).consume n (fld w 12 0)).opResult n 0).settleClass n) := by
  unfold Chip.hostConsume
  dsimp only
  rw [c.ring_endCopy n hn]
  rfl

/-- A publish is checked against the ring's producer, HEAD and free space. -/
theorem hostPublish_eq (w : Word) : c.hostPublish n w = c.hostChecked n w (c.ring n).producer (c.ring n).head (c.ring n).free 3
    (((c.endCopy n).upRing n (fun r =>
      { r with head := r.head + BitVec.ofNat 16 (fld w 12 0), peak := max r.peak (r.fill + fld w 12 0) })).opResult n 0) := by
  unfold Chip.hostPublish
  dsimp only
  rw [c.ring_endCopy n hn]
  rfl

/-- A consume that acts advances TAIL and may return a converted ring to its class. -/
theorem ring_consumed (k : Nat) : ∃ b, ((((c.endCopy n).consume n k).opResult n 0).settleClass n).ring n =
    { c.ring n with copying := false, tail := (c.ring n).tail + BitVec.ofNat 16 k, opstat := 0, converted := b } := by
  obtain ⟨b, hb⟩ := (((c.endCopy n).consume n k).opResult n 0).ring_settleClass n
  refine ⟨b, ?_⟩
  rw [hb, Chip.ring_opResult _ _ _ (by rwa [Chip.len_consume, Chip.len_endCopy]), Chip.ring_consume _ _ _ (by rwa [Chip.len_endCopy]),
    c.ring_endCopy n hn]
  simp

/-- A publish that acts advances HEAD, and PEAK follows. -/
theorem ring_published (k : Nat) :
    (((c.endCopy n).upRing n (fun r => { r with head := r.head + BitVec.ofNat 16 k, peak := max r.peak (r.fill + k) })).opResult n 0).ring n =
    { c.ring n with copying := false, head := (c.ring n).head + BitVec.ofNat 16 k, peak := max (c.ring n).peak ((c.ring n).fill + k),
                    opstat := 0 } := by
  rw [Chip.ring_opResult _ _ _ (by rwa [Chip.len_upRing, Chip.len_endCopy]), Chip.ring_upRing_self _ _ _ (by rwa [Chip.len_endCopy]),
    c.ring_endCopy n hn]
  simp [Ring.fill]

end Chip

/-- A checked access shows 4, 1 or the code for too large a COUNT by the first check it fails, and acts when it fails none. -/
theorem Gives.checked {i : Instr} {s : State} {n agent limit short : Nat} {w : Word} {index : BitVec 16} {done : Chip}
    (h : Gives i s (fun c => c.ring n = (s.chip.hostChecked n w agent index limit short done).ring n)) (hn : n < s.chip.rings.rings.length) :
    (agent ≠ 0x0B → Gives i s (fun c => c.ring n = (s.chip.ring n).refused 4)) ∧
    (agent = 0x0B → bit w 15 = true → index.toNat ≠ fld w 31 16 → Gives i s (fun c => c.ring n = (s.chip.ring n).refused 1)) ∧
    (agent = 0x0B → (bit w 15 = false ∨ index.toNat = fld w 31 16) → limit < fld w 12 0 →
      Gives i s (fun c => c.ring n = (s.chip.ring n).refused short)) ∧
    (agent = 0x0B → (bit w 15 = false ∨ index.toNat = fld w 31 16) → fld w 12 0 ≤ limit → Gives i s (fun c => c.ring n = done.ring n)) := by
  have hrefused := s.chip.ring_refused n hn
  have hfresh (hf : bit w 15 = false ∨ index.toNat = fld w 31 16) : ¬ (bit w 15 = true ∧ index.toNat ≠ fld w 31 16) := by
    rintro ⟨hcheck, hne⟩
    exact hf.elim (by simp [hcheck]) hne
  unfold Chip.hostChecked at h
  refine ⟨fun hother => ?_, fun hhost hcheck hne => ?_, fun hhost hf hshort => ?_, fun hhost hf henough => ?_⟩
  · rwa [if_pos hother, hrefused] at h
  · rwa [if_neg (not_not.2 hhost), if_pos ⟨hcheck, hne⟩, hrefused] at h
  · rwa [if_neg (not_not.2 hhost), if_neg (hfresh hf), if_pos hshort, hrefused] at h
  · rwa [if_neg (not_not.2 hhost), if_neg (hfresh hf), if_neg (Nat.not_lt.2 henough)] at h

/-! ### The words of ring memory (07 R318-R320) -/

theorem Chip.entryAt_of {c d : Chip} (h : c.rings = d.rings) (k : Nat) : c.entryAt k = d.entryAt k := by unfold Chip.entryAt; rw [h]

theorem Chip.entryAt_putEntry (c : Chip) (p k : Nat) (e : Entry) : (c.putEntry p e).entryAt k = if k = p then e else c.entryAt k :=
  mget_mset zeroEntry c.rings.mem k p e

/-! ### The host's commands -/

theorem exec_ringConsume (n : Nat) (w : Word) (s : State) : exec (.ringConsume n w) s =
    s.runHost (fun c => if n < 64 then c.hostConsume n w else c) := rfl
theorem exec_ringProducePublish (n : Nat) (w : Word) (s : State) : exec (.ringProducePublish n w) s =
    s.runHost (fun c => if n < 64 then c.hostPublish n w else c) := rfl
theorem exec_ringObsAck (w : Word) (s : State) : exec (.ringObsAck w) s = s.runHost (fun c => c.obsAck w) := rfl
theorem exec_ringWindowStage (n i : Nat) (w : Word) (s : State) : exec (.ringWindowStage n i w) s =
    s.runHost (fun c => if n < 64 ∧ i < 256 then (c.stageWindow n i w).1 else c) := rfl
theorem exec_ringWindowRead (n first count : Nat) (s : State) : exec (.ringWindowRead n first count) s =
    s.run (fun c => if n < 64 then
      ({ c with rings := { c.rings with copied := c.windowRead n first count } }).upRing n (fun r => { r with copying := true }) else c) := rfl

section HostWrites
variable {s : State} (hawake : s.chip.awake = true) (hopen : s.chip.hostOpen = true) {n : Nat} (h64 : n < 64)
include hawake hopen h64

theorem gives_ringConsume (w : Word) : Gives (.ringConsume n w) s (fun c => c.ring n = (s.chip.hostConsume n w).ring n) := by
  refine Gives.host (exec_ringConsume n w s) hawake hopen ?_
  rw [if_pos h64, Chip.ring_follow]

theorem gives_ringProducePublish (w : Word) : Gives (.ringProducePublish n w) s (fun c => c.ring n = (s.chip.hostPublish n w).ring n) := by
  refine Gives.host (exec_ringProducePublish n w s) hawake hopen ?_
  rw [if_pos h64, Chip.ring_follow]

theorem gives_ringWindowStage {i : Nat} (w : Word) (hi : i < 256) :
    Gives (.ringWindowStage n i w) s (fun c => c.rings = (s.chip.stageWindow n i w).1.rings) := by
  refine Gives.host (exec_ringWindowStage n i w s) hawake hopen ?_
  rw [if_pos ⟨h64, hi⟩, Chip.follow_rings]

end HostWrites

/-- Settles O26: a consume or publish by the checks of R322, the other accesses by their one effect. -/
theorem hostConsumesPublishesAndReads : Obligations.HostConsumesPublishesAndReads := by
  refine ⟨fun s n w hawake hopen h64 hn => ?consume, fun s n w hawake hopen h64 hn => ?publish, fun s w hawake hopen => ?ack,
    fun s n i w hawake hopen h64 hi => ⟨fun hproducer hfree => ?stage, fun hnot => ?discard⟩, fun s n first count hawake h64 hn => ?read⟩
  case consume =>
    have hgives := gives_ringConsume hawake hopen h64 w
    rw [s.chip.hostConsume_eq n hn w] at hgives
    obtain ⟨hother, hstale, hshort, hdone⟩ := hgives.checked hn
    obtain ⟨b, hconsumed⟩ := s.chip.ring_consumed n hn (fld w 12 0)
    exact ⟨fun h => (hother h).mono fun c hring => by simp [hring, Ring.refused],
      fun h hcheck hne => (hstale h hcheck hne).mono fun c hring => by simp [hring, Ring.refused],
      fun h hfresh hlt => (hshort h hfresh hlt).mono fun c hring => by simp [hring, Ring.refused],
      fun h hfresh hle => (hdone h hfresh hle).mono fun c hring => by simp [hring, hconsumed]⟩
  case publish =>
    have hgives := gives_ringProducePublish hawake hopen h64 w
    rw [s.chip.hostPublish_eq n hn w] at hgives
    obtain ⟨hother, hstale, hshort, hdone⟩ := hgives.checked hn
    have hpublished := s.chip.ring_published n hn (fld w 12 0)
    exact ⟨fun h => (hother h).mono fun c hring => by simp [hring, Ring.refused],
      fun h hcheck hne => (hstale h hcheck hne).mono fun c hring => by simp [hring, Ring.refused],
      fun h hfresh hlt => (hshort h hfresh hlt).mono fun c hring => by simp [hring, Ring.refused],
      fun h hfresh hle => (hdone h hfresh hle).mono fun c hring => by simp [hring, hpublished]⟩
  case ack => exact Gives.host (exec_ringObsAck w s) hawake hopen ⟨rfl, rfl⟩
  case stage =>
    have hgives := gives_ringWindowStage hawake hopen h64 w hi
    rw [s.chip.stageWindow_staged n i w hproducer hfree] at hgives
    refine hgives.mono fun c hrings => ?_
    simp only [Chip.entryAt_of hrings, Chip.entryAt_putEntry, if_true]
    exact ⟨trivial, fun k hk => if_neg hk⟩
  case discard =>
    have hgives := gives_ringWindowStage hawake hopen h64 w hi
    rwa [s.chip.stageWindow_discarded n i w (by omega)] at hgives
  case read =>
    refine Gives.run (exec_ringWindowRead n first count s) hawake ?_
    have hcopying := Chip.ring_upRing_self { s.chip with rings := { s.chip.rings with copied := s.chip.windowRead n first count } } n
      (fun r => { r with copying := true }) hn
    rw [if_pos h64, Chip.ring_follow, hcopying]
    exact ⟨rfl, rfl, rfl, rfl⟩

end Sys2Proof.Machine
end

section
/-! SUPPORT. Reception: what entries produced one after another do to the rings, what follows the end of a burst or of a frame, what each radio
command does, and the statement on listen windows, sync words, headers and frames assembled from them. -/

namespace Sys2Proof.Machine

/-! ### The item at the head of a ring -/

/-- A ring with an item at its head is among those of the block. -/
theorem Chip.ring_ne_of_headItem {c : Chip} {n : Nat} {e : Entry} (h : c.headItem n = some e) : c.ring n ≠ {} := by
  intro hempty
  simp [Chip.headItem, hempty, Ring.fill] at h

/-- A LISTEN entry is a single entry (R654). -/
theorem itemEntries_of_listen {e : Entry} (h : fld (ew e 0) 31 24 = 2) : itemEntries e = 1 := by simp [itemEntries, h]

/-- A refused item leaves one status entry on ring 38 and its place in its own ring, whatever refused it. -/
theorem itemRefused_refuseItem {c : Chip} {n : Nat} {e : Entry} (why : Nat) (hhead : c.headItem n = some e) (h0 : n ≠ 0) (h38 : n ≠ 38) :
    ItemRefused c n why e (c.refuseItem n why e) := by
  have hsame : (c.txStatus 3 why { ring := n, header := e, freq := c.freqOf e }).ring n = c.ring n :=
    c.produce_ring_ne _ _ _ _ h0 (Ne.symm h38)
  have hlt := Chip.ring_lt _ n (hsame.trans_ne (Chip.ring_ne_of_headItem hhead))
  refine ⟨?_, ?_, ?_⟩
  · rw [Chip.refuseItem, Chip.ring_consume _ _ _ hlt, hsame]
  · simp only [Chip.refuseItem, Chip.consume, Chip.txStatus, Chip.upRing_radio, Chip.produce_radio]
  · exact Chip.ring_upRing_ne _ _ _ _ h38

/-- What follows a command changes nothing of a refusal. -/
theorem ItemRefused.follow {c d was : Chip} {n why : Nat} {e : Entry} (h : ItemRefused c n why e d) : ItemRefused c n why e (d.follow was) := by
  simpa only [ItemRefused, Chip.ring_follow, Chip.follow_radio] using h

/-! ### Entries produced one after another -/

/-- What a produce does to a ring other than ring 0 is decided by the rings alone. -/
theorem Chip.produce_ring_of_rings {c d : Chip} (h : c.rings = d.rings) (a n k : Nat) (e : Entry) (hk : k ≠ 0) :
    (c.produce a n e).ring k = (d.produce a n e).ring k := by
  rw [Chip.produce_ring _ _ _ _ _ hk, Chip.produce_ring _ _ _ _ _ hk]
  unfold Chip.produceRaw
  dsimp only
  rw [Chip.ring_of (n := n) h]
  repeat' split
  all_goals simp only [Chip.ring_answer, Chip.ring_pushEntry, Chip.ring_upRing, Chip.len_upRing, Chip.ring_of h, h]

@[simp] theorem Ring.drops_consumer (r : Ring) (k : Nat) : (r.drops k).consumer = r.consumer := by unfold Ring.drops; split <;> rfl

/-- A change of a ring that leaves its consumer alone gives no ring another consumer. -/
theorem Chip.upRing_consumer (c : Chip) (n k : Nat) (f : Ring → Ring) (hf : ∀ r, (f r).consumer = r.consumer) :
    ((c.upRing n f).ring k).consumer = (c.ring k).consumer := by
  rw [Chip.ring_upRing]
  split
  · exact hf _
  · rfl

theorem Chip.pushEntry_consumer (c : Chip) (n k : Nat) (e : Entry) : ((c.pushEntry n e).ring k).consumer = (c.ring k).consumer := by
  rw [Chip.ring_pushEntry]
  split <;> rfl

/-- A produce gives no ring another consumer. -/
theorem Chip.produce_consumer (c : Chip) (a n k : Nat) (e : Entry) (hk : k ≠ 0) :
    ((c.produce a n e).ring k).consumer = (c.ring k).consumer := by
  rw [Chip.produce_ring _ _ _ _ _ hk]
  unfold Chip.produceRaw
  dsimp only
  repeat' split
  all_goals simp [Chip.upRing_consumer, Chip.pushEntry_consumer]

/-- What every single produce keeps, a series of them keeps. -/
theorem foldl_produce_keeps {α : Type} (g : Chip → α) (a n : Nat) (hg : ∀ c e, g (c.produce a n e) = g c) (es : List Entry) (c : Chip) :
    g (es.foldl (fun c x => c.produce a n x) c) = g c := by
  induction es generalizing c with
  | nil => rfl
  | cons e es ih => rw [List.foldl_cons, ih, hg]

/-- The ring of a received frame is that of its sync word and window, which its own entries leave alone. -/
theorem foldl_produce_rxRing (es : List Entry) (c : Chip) :
    es.foldl (fun c x => c.produce 0x09 c.rxRing x) c = es.foldl (fun d x => d.produce 0x09 c.rxRing x) c := by
  induction es generalizing c with
  | nil => simp only [List.foldl_nil]
  | cons e es ih =>
    have hring : (c.produce 0x09 c.rxRing e).rxRing = c.rxRing := by simp only [Chip.rxRing, Chip.produce_radio]
    rw [List.foldl_cons, List.foldl_cons, ih, hring]

theorem Chip.rxRing_cases (c : Chip) : c.rxRing = 36 ∨ c.rxRing = 37 := by
  unfold Chip.rxRing
  split <;> simp

/-! ### The end of a burst and of a frame (R124, R132, R643, R667) -/

/-- The block with what the end of a burst works on forgotten: the running configuration, the girth and the modes. -/
def Chip.noBurst (c : Chip) : Chip := { c with run := [], girth := {}, modes := {} }

theorem Chip.rings_of_noBurst {c d : Chip} (h : c.noBurst = d.noBurst) : c.rings = d.rings := (congrArg Chip.rings h :)
theorem Chip.radio_of_noBurst {c d : Chip} (h : c.noBurst = d.noBurst) : c.radio = d.radio := (congrArg Chip.radio h :)

theorem Chip.noBurst_applyWords (ws : List (Nat × Word)) (c : Chip) : (c.applyWords ws).noBurst = c.noBurst := by
  induction ws generalizing c with
  | nil => rfl
  | cons p ws ih => exact ih (c.setRun p.1 p.2)

theorem Chip.noBurst_radioApply (c : Chip) : c.radioApply.noBurst = c.noBurst := by
  unfold Chip.radioApply
  split
  · refine List.foldlRecOn (motive := fun d : Chip => d.noBurst = c.noBurst) radioArms _ rfl fun d hd a _ => ?_
    split
    · split
      · exact (Chip.noBurst_applyWords _ d).trans hd
      · exact hd
    · exact hd
  · rfl

theorem Chip.noBurst_goTo (c : Chip) (m : Nat) (r : Reason) : (c.goTo m r).noBurst = c.noBurst := by
  unfold Chip.goTo
  repeat' split
  all_goals rfl

theorem Chip.noBurst_leaveLink (c : Chip) : c.leaveLink.noBurst = c.noBurst := by
  unfold Chip.leaveLink Chip.idleCheck
  split
  · repeat' split
    all_goals exact Chip.noBurst_goTo _ _ _
  · split
    · exact Chip.noBurst_goTo _ _ _
    · rfl

@[simp] theorem Chip.radioApply_radio (c : Chip) : c.radioApply.radio = c.radio := Chip.radio_of_noBurst c.noBurst_radioApply
@[simp] theorem Chip.leaveLink_radio (c : Chip) : c.leaveLink.radio = c.radio := Chip.radio_of_noBurst c.noBurst_leaveLink

@[simp] theorem Chip.burstOver_rings (c : Chip) : c.burstOver.rings = c.rings := by
  have happly := Chip.rings_of_noBurst c.noBurst_radioApply
  unfold Chip.burstOver
  dsimp only
  split
  · exact (Chip.rings_of_noBurst (Chip.noBurst_leaveLink _)).trans happly
  · exact happly

/-- A burst goes on while a window is open or a frame is being received. -/
theorem Chip.burstOver_radio_of_open (c : Chip) (h : c.radio.window.isSome = true ∨ c.radio.state = .receiving) :
    c.burstOver.radio = c.radio := by
  unfold Chip.burstOver
  dsimp only
  rw [if_neg, Chip.radioApply_radio]
  rw [Chip.radioApply_radio]
  rcases h with hwindow | hreceiving
  · simp [Option.isNone_eq_false_iff.2 hwindow]
  · simp [hreceiving]

/-- The end of a burst changes of the radio only its state and whether a burst is wanted. -/
theorem Chip.burstOver_radio (c : Chip) : ∃ b x, c.burstOver.radio = { c.radio with burstWanted := b, state := x } := by
  unfold Chip.burstOver
  dsimp only
  split
  · rw [Chip.leaveLink_radio, Chip.upRadio_radio, Chip.radioApply_radio]
    exact ⟨_, _, rfl⟩
  · rw [Chip.radioApply_radio]
    exact ⟨_, _, rfl⟩

@[simp] theorem Chip.rxOver_rings (c : Chip) : c.rxOver.rings = c.rings := Chip.burstOver_rings _

/-- The receiver when a frame has ended, whether or not the burst ends with it. -/
def Chip.frameEnded (c : Chip) : Chip :=
  c.upRadio fun r => { r with
    state := if r.window.isSome then .searching else if r.state = .off then .off else .idle, sync := none, rxHeader := none }

theorem Chip.rxOver_eq (c : Chip) : c.rxOver = c.frameEnded.burstOver := rfl

/-- After a frame the receiver holds neither sync word nor header, and searches where a window is open. -/
theorem Chip.rxOver_radio (c : Chip) : ∃ b x, c.rxOver.radio = { c.radio with sync := none, rxHeader := none, burstWanted := b, state := x } ∧
    (c.radio.window.isSome = true → x = .searching) := by
  rw [Chip.rxOver_eq]
  by_cases hwindow : c.radio.window.isSome = true
  · rw [Chip.burstOver_radio_of_open c.frameEnded (.inl hwindow)]
    exact ⟨_, _, rfl, fun _ => if_pos hwindow⟩
  · obtain ⟨b, x, hradio⟩ := Chip.burstOver_radio c.frameEnded
    exact ⟨b, x, hradio, fun hopen => absurd hopen hwindow⟩

/-! ### Listen windows (R654, R660, R662) -/

theorem exec_listenWindowStart (n : Nat) (s : State) : exec (.listenWindowStart n) s = execListenWindowStart n s := rfl
theorem exec_windowEnd (s : State) : exec .windowEnd s = s.run Chip.windowEnd := rfl

/-- The window of a LISTEN entry has opened; a transmission it meets goes on. -/
def Chip.openWindow (c : Chip) (n : Nat) (e : Entry) : Chip :=
  (c.consume n 1).upRadio fun r => { r with
    window := some { ring := n, header := e, freq := c.freqOf e }, gotFrame := false, burstWanted := true,
    state := if r.state = .transmitting then .transmitting else .searching }

section ListenEntry
variable {s : State} {n : Nat} {e : Entry} {P : Chip → Prop} (hawake : s.chip.awake = true) (hlow : 32 ≤ n) (hhigh : n ≤ 35)
  (hhead : s.chip.headItem n = some e) (hkind : fld (ew e 0) 31 24 = 2)
include hawake hlow hhigh hhead hkind

theorem gives_listen_refused {why : Nat} (hwhy : s.chip.radioRefusal = some why) (hP : P ((s.chip.refuseItem n why e).follow s.chip)) :
    Gives (.listenWindowStart n) s P := by
  refine Gives.run (exec_listenWindowStart n s) hawake ?_
  have hring : ¬ (n < 32 ∨ 35 < n) := by omega
  simpa only [hring, hhead, hkind, hwhy, if_false, ne_eq, not_true_eq_false] using hP

theorem gives_listen_opened (hwhy : s.chip.radioRefusal = none) (hpowered : rcPowered s.chip.mode = true) (hwindow : s.chip.radio.window = none)
    (hP : P ((s.chip.openWindow n e).follow s.chip)) : Gives (.listenWindowStart n) s P := by
  refine Gives.run (exec_listenWindowStart n s) hawake ?_
  have hring : ¬ (n < 32 ∨ 35 < n) := by omega
  simpa only [Chip.openWindow, hring, hhead, hkind, hwhy, hpowered, hwindow, Option.isNone_none, Bool.and_self, if_true, if_false, ne_eq, not_true_eq_false] using hP

end ListenEntry

/-- The window has closed: a search ends, a frame being received goes on. -/
def Chip.closeWindow (c : Chip) : Chip :=
  c.upRadio fun r => { r with window := none, state := if r.state = .searching then .idle else r.state }

theorem Chip.windowEnd_of_receiving {c : Chip} {w : RadioFrame} (hwindow : c.radio.window = some w) (hstate : c.radio.state = .receiving) :
    c.windowEnd = c.closeWindow.burstOver := by
  simp [Chip.windowEnd, Chip.closeWindow, hwindow, hstate]

theorem Chip.windowEnd_of_silence {c : Chip} {w : RadioFrame} (hwindow : c.radio.window = some w) (hstate : c.radio.state = .searching)
    (hgot : c.radio.gotFrame = false) :
    c.windowEnd = (c.closeWindow.rxStatus 4 (hTag w.header) 0 [0, 0, 0, 0, 0, 0, 0, wd w.freq]).burstOver := by
  simp [Chip.windowEnd, Chip.closeWindow, hwindow, hstate, hgot]

/-- A receiver that is in the middle of a frame when its window closes stays so. -/
theorem Chip.windowEnd_receiving {c : Chip} {w : RadioFrame} (hwindow : c.radio.window = some w) (hstate : c.radio.state = .receiving) :
    c.windowEnd.radio.window = none ∧ c.windowEnd.radio.state = .receiving ∧ c.windowEnd.rings = c.rings := by
  have hstays : c.closeWindow.radio.state = .receiving := by simp [Chip.closeWindow, hstate]
  rw [Chip.windowEnd_of_receiving hwindow hstate, Chip.burstOver_radio_of_open _ (.inr hstays), Chip.burstOver_rings]
  exact ⟨rfl, hstays, rfl⟩

/-- A window that has heard no frame leaves its WINDOW_END entry on ring 39. -/
theorem Chip.windowEnd_silence {c : Chip} {w : RadioFrame} (hwindow : c.radio.window = some w) (hstate : c.radio.state = .searching)
    (hgot : c.radio.gotFrame = false) :
    c.windowEnd.radio.window = none ∧ c.windowEnd.ring 39 = (c.rxStatus 4 (hTag w.header) 0 [0, 0, 0, 0, 0, 0, 0, wd w.freq]).ring 39 := by
  rw [Chip.windowEnd_of_silence hwindow hstate hgot]
  constructor
  · obtain ⟨b, x, hradio⟩ := Chip.burstOver_radio (c.closeWindow.rxStatus 4 (hTag w.header) 0 [0, 0, 0, 0, 0, 0, 0, wd w.freq])
    rw [hradio, Chip.rxStatus, Chip.produce_radio]
    rfl
  · rw [Chip.ring_of (Chip.burstOver_rings _)]
    exact Chip.produce_ring_of_rings (show c.closeWindow.rings = c.rings from rfl) _ _ _ _ (by decide)

/-! ### Sync words (R629, R642, R645) -/

theorem exec_syncDetect (sweeps s1 s2 : Nat) (rssi snr : Int) (s : State) :
    exec (.syncDetect sweeps s1 s2 rssi snr) s = s.run (fun c => c.syncDetect sweeps s1 s2 rssi snr) := rfl

/-- A sync word the window listens for: that of its own code, or the stirrup code where that is heard too. -/
def Chip.hears (c : Chip) (w : RadioFrame) (code : Nat) : Prop :=
  code = fld (ew w.header 3) 23 16 ∨ (code = 0xFF ∧ c.runB 0x3000 24 = true)

section SyncWord
variable {c : Chip} {w : RadioFrame} {sweeps s1 s2 code : Nat} (rssi snr : Int) (hwindow : c.radio.window = some w)
  (hstate : c.radio.state = .searching) (hsweeps : 8 ≤ sweeps) (hcode : syncCode (hK w.header) s1 s2 = some code)
include hwindow hstate hsweeps hcode

theorem Chip.syncDetect_heard (h : c.hears w code) : c.syncDetect sweeps s1 s2 rssi snr =
    c.upRadio (fun r => { r with state := .receiving, sync := some (code, ux 16 rssi, ux 16 snr), rxHeader := none, gotFrame := true }) := by
  simp only [Chip.hears] at h
  simp [Chip.syncDetect, Chip.searching, Chip.rxK, hwindow, hstate, hcode, Nat.not_lt.2 hsweeps, h]

theorem Chip.syncDetect_other (h : ¬ c.hears w code) : c.syncDetect sweeps s1 s2 rssi snr =
    c.upRadio (fun r => { r with syncOther := r.syncOther + 1 }) := by
  simp only [Chip.hears] at h
  simp [Chip.syncDetect, Chip.searching, Chip.rxK, hwindow, hstate, hcode, Nat.not_lt.2 hsweeps, h]

end SyncWord

/-! ### Headers (R643) -/

theorem exec_headerDecode (hdr crc : Nat) (s : State) : exec (.headerDecode hdr crc) s = s.run (fun c => c.headerDecode hdr crc) := rfl

section Header
variable {c : Chip} {hdr crc : Nat} (hstate : c.radio.state = .receiving) (hheader : c.radio.rxHeader = none)
include hstate hheader

theorem Chip.headerDecode_kept (hcrc : crc8 24 hdr 0 = crc) :
    c.headerDecode hdr crc = c.upRadio (fun r => { r with rxHeader := some (hdr % 2 ^ 24) }) := by
  simp [Chip.headerDecode, hstate, hheader, hcrc]

/-- A header whose CRC-8 fails is counted and forgotten, and the search resumes in an open window. -/
theorem Chip.headerDecode_dropped (hcrc : crc8 24 hdr 0 ≠ crc) : (c.headerDecode hdr crc).radio.hdrFail = c.radio.hdrFail + 1 ∧
    (c.headerDecode hdr crc).radio.rxHeader = none ∧ (c.headerDecode hdr crc).radio.sync = none ∧
    (c.radio.window.isSome = true → (c.headerDecode hdr crc).radio.state = .searching) := by
  obtain ⟨b, x, hradio, hsearching⟩ := Chip.rxOver_radio
    ((c.rxStatus 1 c.rxTag 0 [0, 0, c.rxLevels, 0, 0, 0, 0, wd ((c.radio.window.map (·.freq)).getD 0)]).upRadio
      (fun r => { r with hdrFail := r.hdrFail + 1 }))
  rw [Chip.upRadio_radio, Chip.rxStatus, Chip.produce_radio] at hradio hsearching
  have hdropped : (c.headerDecode hdr crc).radio =
      { c.radio with hdrFail := c.radio.hdrFail + 1, sync := none, rxHeader := none, burstWanted := b, state := x } := by
    rw [← hradio]
    simp [Chip.headerDecode, Chip.rxStatus, hstate, hheader, hcrc]
  rw [hdropped]
  exact ⟨rfl, rfl, rfl, hsearching⟩

end Header

/-! ### Frames (R648, R653, R655) -/

/-- The yard engine sifts nothing from a ring it does not consume. -/
theorem Chip.yardSift_of_consumer (c : Chip) (h : (c.ring 36).consumer ≠ 0x0A) : c.yardSift = c := by
  have hhead : c.yardHead = none := if_pos h
  have hnone : c.sift1 = none := by simp [Chip.sift1, hhead]
  unfold Chip.yardSift
  cases (c.ring 36).fill with
  | zero => rfl
  | succ k => simp [Chip.sift, hnone]

theorem exec_frameReceived (payload : List Byte) (crc : Word) (rx : RxMeta) (s : State) : exec (.frameReceived payload crc rx) s =
    s.run (fun c => if c.mode = 7 then c.stirrupFrame payload crc else (c.frameReceived payload crc rx).yardSift) := rfl

/-- Outside STIRRUP, with ring 36 consumed by another than the yard engine, a frame is the modem's alone. -/
theorem gives_frameReceived {s : State} {payload : List Byte} {crc : Word} {rx : RxMeta} {P : Chip → Prop} (hawake : s.chip.awake = true)
    (hmode : s.chip.mode ≠ 7) (hconsumer : ((s.chip.frameReceived payload crc rx).ring 36).consumer ≠ 0x0A)
    (hP : P ((s.chip.frameReceived payload crc rx).follow s.chip)) : Gives (.frameReceived payload crc rx) s P := by
  refine Gives.run (exec_frameReceived payload crc rx s) hawake ?_
  rwa [if_neg hmode, Chip.yardSift_of_consumer _ hconsumer]

/-- The entries of a frame have been put on a ring. -/
def Chip.putFrame (c : Chip) (r : Nat) (es : List Entry) : Chip := es.foldl (fun c x => c.produce 0x09 r x) c

theorem Chip.putFrame_radio (c : Chip) (r : Nat) (es : List Entry) : (c.putFrame r es).radio = c.radio :=
  foldl_produce_keeps Chip.radio _ _ (fun _ _ => Chip.produce_radio _ _ _ _) es c

theorem Chip.putFrame_ring_ne (c : Chip) {r k : Nat} (es : List Entry) (hk : k ≠ 0) (hne : r ≠ k) : (c.putFrame r es).ring k = c.ring k :=
  foldl_produce_keeps (fun c => c.ring k) _ _ (fun _ _ => Chip.produce_ring_ne _ _ _ _ _ hk hne) es c

theorem Chip.putFrame_consumer (c : Chip) (r : Nat) {k : Nat} (es : List Entry) (hk : k ≠ 0) :
    ((c.putFrame r es).ring k).consumer = (c.ring k).consumer :=
  foldl_produce_keeps (fun c => (c.ring k).consumer) _ _ (fun _ _ => Chip.produce_consumer _ _ _ _ _ hk) es c

section Delivered
variable {c : Chip} {payload : List Byte} {crc : Word} {hdr : Nat} (rx : RxMeta) (hheader : c.radio.rxHeader = some hdr)
  (hlen : payload.length = hdr % 256) (hcrc : crc = wd (crc32 (leBytes 3 hdr ++ payload)))
include hheader hlen hcrc

theorem Chip.frameReceived_delivered : c.frameReceived payload crc rx =
    ((c.putFrame c.rxRing (c.rxHeaderEntry hdr rx :: dataEntries payload)).upRadio (fun r => { r with rxOk := r.rxOk + 1 })).rxOver := by
  unfold Chip.frameReceived Chip.putFrame
  simp only [hheader, hlen, hcrc, foldl_produce_rxRing, decide_true, Bool.and_self, if_true]

theorem Chip.delivered_ring (k : Nat) : (c.frameReceived payload crc rx).ring k =
    (c.putFrame c.rxRing (c.rxHeaderEntry hdr rx :: dataEntries payload)).ring k :=
  Chip.ring_of (by rw [Chip.frameReceived_delivered rx hheader hlen hcrc, Chip.rxOver_rings, Chip.upRadio_rings])

theorem Chip.delivered_radio : (c.frameReceived payload crc rx).radio.rxOk = c.radio.rxOk + 1 ∧
    (c.frameReceived payload crc rx).radio.crcFail = c.radio.crcFail ∧ (c.frameReceived payload crc rx).radio.rxHeader = none := by
  obtain ⟨b, x, hradio, -⟩ := Chip.rxOver_radio
    ((c.putFrame c.rxRing (c.rxHeaderEntry hdr rx :: dataEntries payload)).upRadio (fun r => { r with rxOk := r.rxOk + 1 }))
  rw [Chip.frameReceived_delivered rx hheader hlen hcrc, hradio, Chip.upRadio_radio, Chip.putFrame_radio]
  exact ⟨rfl, rfl, rfl⟩

end Delivered

section Discarded
variable {c : Chip} {payload : List Byte} {crc : Word} {hdr : Nat} (rx : RxMeta) (hheader : c.radio.rxHeader = some hdr)
  (hcrc : crc ≠ wd (crc32 (leBytes 3 hdr ++ payload)))
include hheader hcrc

theorem Chip.frameReceived_discarded : c.frameReceived payload crc rx =
    ((c.rxStatus 2 c.rxTag (hdr % 256) (c.rxHeaderEntry hdr rx)).upRadio (fun r => { r with crcFail := r.crcFail + 1 })).rxOver := by
  simp [Chip.frameReceived, hheader, hcrc.symm]

theorem Chip.discarded_ring (k : Nat) : (c.frameReceived payload crc rx).ring k =
    (c.rxStatus 2 c.rxTag (hdr % 256) (c.rxHeaderEntry hdr rx)).ring k :=
  Chip.ring_of (by rw [Chip.frameReceived_discarded rx hheader hcrc, Chip.rxOver_rings, Chip.upRadio_rings])

/-- A discarded frame is seen on ring 39 alone, ring 0's events apart. -/
theorem Chip.discarded_ring_ne {k : Nat} (hk : k ≠ 0) (hne : 39 ≠ k) : (c.frameReceived payload crc rx).ring k = c.ring k :=
  (Chip.discarded_ring rx hheader hcrc k).trans (c.produce_ring_ne _ _ _ _ hk hne)

theorem Chip.discarded_radio : (c.frameReceived payload crc rx).radio.crcFail = c.radio.crcFail + 1 ∧
    (c.frameReceived payload crc rx).radio.rxOk = c.radio.rxOk := by
  obtain ⟨b, x, hradio, -⟩ := Chip.rxOver_radio
    ((c.rxStatus 2 c.rxTag (hdr % 256) (c.rxHeaderEntry hdr rx)).upRadio (fun r => { r with crcFail := r.crcFail + 1 }))
  rw [Chip.frameReceived_discarded rx hheader hcrc, hradio, Chip.upRadio_radio, Chip.rxStatus, Chip.produce_radio]
  exact ⟨rfl, rfl⟩

end Discarded

/-- Settles O42: each clause is the command's effect where its hypotheses put the receiver. -/
theorem receptionFollowsItsWindow : Obligations.ReceptionFollowsItsWindow := by
  refine ⟨fun s n e hawake hlow hhigh hhead hkind => ⟨fun why hwhy => ?refused, fun hwhy hpowered hwindow => ?opened⟩,
    fun s w hawake hwindow => ⟨fun hstate => ?endReceiving, fun hstate hgot => ?endSilence⟩,
    fun s w sweeps s1 s2 code rssi snr hawake hwindow hstate hsweeps hcode => ⟨fun hheard => ?heard, fun hother => ?other⟩,
    fun s hdr crc hawake hstate hheader => ⟨fun hcrc => ?kept, fun hcrc => ?dropped⟩,
    fun s payload crc rx hdr hawake hmode hstate hheader hconsumer => ⟨fun r hr hlen hcrc => ?delivered, fun hcrc => ?discarded⟩⟩
  case refused =>
    exact gives_listen_refused hawake hlow hhigh hhead hkind hwhy (itemRefused_refuseItem why hhead (by omega) (by omega)).follow
  case opened =>
    have hlt := s.chip.ring_lt n (Chip.ring_ne_of_headItem hhead)
    refine gives_listen_opened hawake hlow hhigh hhead hkind hwhy hpowered hwindow
      ⟨⟨_, rfl, rfl, rfl, rfl⟩, rfl, rfl, fun hsending => if_pos hsending, fun hidle => if_neg hidle, ?_⟩
    exact congrArg Ring.tail (s.chip.ring_consume n 1 hlt)
  case endReceiving => exact Gives.run (exec_windowEnd s) hawake (Chip.windowEnd_receiving hwindow hstate)
  case endSilence => exact Gives.run (exec_windowEnd s) hawake (Chip.windowEnd_silence hwindow hstate hgot)
  case heard =>
    refine Gives.run (exec_syncDetect sweeps s1 s2 rssi snr s) hawake ?_
    rw [Chip.syncDetect_heard rssi snr hwindow hstate hsweeps hcode hheard]
    exact ⟨rfl, rfl, rfl, rfl⟩
  case other =>
    refine Gives.run (exec_syncDetect sweeps s1 s2 rssi snr s) hawake ?_
    rw [Chip.syncDetect_other rssi snr hwindow hstate hsweeps hcode hother]
    rfl
  case kept =>
    refine Gives.run (exec_headerDecode hdr crc s) hawake ?_
    rw [Chip.headerDecode_kept hstate hheader hcrc]
    exact ⟨rfl, rfl⟩
  case dropped => exact Gives.run (exec_headerDecode hdr crc s) hawake (Chip.headerDecode_dropped hstate hheader hcrc)
  case delivered =>
    subst hr
    have hring := Chip.delivered_ring rx hheader hlen hcrc
    have h39 : s.chip.rxRing ≠ 39 := by have := s.chip.rxRing_cases; omega
    obtain ⟨hok, hfail, hdone⟩ := Chip.delivered_radio rx hheader hlen hcrc
    refine gives_frameReceived hawake hmode ?_ ⟨hok, hfail, hdone, ?_, hring _⟩
    · rwa [hring, Chip.putFrame_consumer _ _ _ (by decide)]
    · rw [Chip.ring_follow, hring, Chip.putFrame_ring_ne _ _ (by decide) h39]
  case discarded =>
    have hother := fun k => Chip.discarded_ring_ne (k := k) rx hheader hcrc
    obtain ⟨hfail, hok⟩ := Chip.discarded_radio rx hheader hcrc
    refine gives_frameReceived hawake hmode ?_
      ⟨hfail, hok, hother 36 (by decide) (by decide), hother 37 (by decide) (by decide), Chip.discarded_ring rx hheader hcrc 39⟩
    rwa [hother 36 (by decide) (by decide)]

end Sys2Proof.Machine
end

section
/-! SUPPORT. The host port as a master: the check of its set, the ring that is pushed next, what a push and a reply do to the block, and the
statement on the master assembled from them. -/

namespace Sys2Proof.Machine

theorem exec_hostCtlArm (s : State) : exec .hostCtlArm s = s.runHost Chip.hostCtlArm := rfl
theorem exec_masterSwitch (s : State) : exec .masterSwitch s = s.run Chip.masterSwitch := rfl
theorem exec_masterPush (s : State) : exec .masterPush s = s.run Chip.masterPush := rfl
theorem exec_masterNop (st e : Nat) (ok : Bool) (s : State) :
    exec (.masterNop st e ok) s = s.run (fun c => c.masterNop st e ok) := rfl

/-! ### The HOST_CTL set (16 R745, R748, R753) -/

/-- TURN, BATCH or DIV of the HOST_CTL set is out of its range (R745). -/
def Chip.mstCfgBad (c : Chip) : Prop :=
  c.rf 0x3C10 23 16 = 0 ∨ c.rf 0x3C10 13 8 = 0 ∨ 32 < c.rf 0x3C10 13 8 ∨ c.rf 0x3C10 7 0 < 4 ∨ c.rf 0x3C10 7 0 % 2 = 1

/-- Every ring that the HOST_CTL set names has the host as its consumer (R753). -/
def Chip.mstRingsHost (c : Chip) : Prop :=
  ∀ n, n < 64 → bit (c.reg (0x3C11 + n / 32)) (n % 32) = true → (c.ring n).consumer = 0x0B

/-- The ring check reads: some named ring has another consumer. -/
theorem Chip.mstRings_any_iff (c : Chip) :
    (List.range 64).any (fun n => bit (c.reg (0x3C11 + n / 32)) (n % 32) && decide ((c.ring n).consumer ≠ 0x0B)) = true ↔ ¬ c.mstRingsHost := by
  simp [Chip.mstRingsHost]

theorem Chip.hostCtlCheck_range {c : Chip} (h : c.mstCfgBad) : c.hostCtlCheck = 6 := if_pos h

theorem Chip.hostCtlCheck_ring {c : Chip} (h : ¬ c.mstCfgBad) (hring : ¬ c.mstRingsHost) : c.hostCtlCheck = 7 :=
  (if_neg h).trans (if_pos (c.mstRings_any_iff.2 hring))

theorem Chip.hostCtlCheck_good {c : Chip} (h : ¬ c.mstCfgBad) (hring : c.mstRingsHost) : c.hostCtlCheck = 0 :=
  (if_neg h).trans (if_neg (by rw [c.mstRings_any_iff]; exact not_not.2 hring))

/-- The result of the check is shown in SYS_ARM_LAST and HOST_CTL. -/
def Chip.showHostCtl (c : Chip) (res : Nat) : Chip := (c.armLast 0x3C00 res).setFld 0x3C00 7 4 res

theorem Chip.showHostCtl_rf (c : Chip) {res : Nat} (h : res < 16) : (c.showHostCtl res).rf 0x3C00 7 4 = res :=
  rf_setFld_self _ _ _ _ _ (by decide) (by decide) h

/-- The words of a HOST_CTL set. -/
def Chip.hostCtlWords (c : Chip) : List (Nat × Word) := c.shadow 0x3C00 1 ++ c.shadow 0x3C10 3

theorem Chip.hostCtlArm_refused {c : Chip} {res : Nat} (hcheck : c.hostCtlCheck = res) (hres : res ≠ 0) : c.hostCtlArm = c.showHostCtl res := by
  subst hcheck
  exact if_pos hres

/-- A good set that keeps MASTER applies at once. -/
theorem Chip.hostCtlArm_applied {c : Chip} (hcheck : c.hostCtlCheck = 0) (hsame : bit (c.reg 0x3C00) 0 = c.host.master) :
    c.hostCtlArm = (((c.showHostCtl 0).dropArmed 0x3C00).applyWords c.hostCtlWords).upHost (fun h => { h with masterNext := none }) := by
  simp only [Chip.hostCtlArm, hcheck, hsame, ne_eq, not_true_eq_false, if_false, if_true]
  rfl

/-- A good set that changes MASTER waits for its moment. -/
theorem Chip.hostCtlArm_waits {c : Chip} (hcheck : c.hostCtlCheck = 0) (hother : bit (c.reg 0x3C00) 0 ≠ c.host.master) :
    c.hostCtlArm = ((c.showHostCtl 0).holdSet 0x3C00 c.hostCtlWords).upHost (fun h => { h with masterNext := some (!c.host.master) }) := by
  rw [← Bool.eq_not.2 hother]
  simp only [Chip.hostCtlArm, hcheck, ne_eq, not_true_eq_false, if_false, if_neg hother]
  rfl

theorem Chip.applyWords_host (c : Chip) (ws : List (Nat × Word)) : (c.applyWords ws).host = c.host :=
  (congrArg Chip.host (Chip.noBurst_applyWords ws c) :)

theorem Chip.applyWords_regs (c : Chip) (ws : List (Nat × Word)) : (c.applyWords ws).regs = c.regs :=
  (congrArg Chip.regs (Chip.noBurst_applyWords ws c) :)

section HostCtl
variable {s : State} (hawake : s.chip.awake = true) (hopen : s.chip.hostOpen = true)
include hawake hopen

/-- A refused set shows its result and leaves the running sets and the port alone. -/
theorem gives_hostCtlArm_refused {res : Nat} (hcheck : s.chip.hostCtlCheck = res) (hres : res ≠ 0) (hlt : res < 16) :
    Gives .hostCtlArm s (fun c => c.rf 0x3C00 7 4 = res ∧ c.run = s.chip.run ∧ c.host = s.chip.host) := by
  refine Gives.host (exec_hostCtlArm s) hawake hopen ?_
  rw [Chip.hostCtlArm_refused hcheck hres]
  exact ⟨s.chip.showHostCtl_rf hlt, rfl, rfl⟩

theorem gives_hostCtlArm_applied (hcheck : s.chip.hostCtlCheck = 0) (hsame : bit (s.chip.reg 0x3C00) 0 = s.chip.host.master) :
    Gives .hostCtlArm s (fun c => c.rf 0x3C00 7 4 = 0 ∧ c.run = (s.chip.applyWords s.chip.hostCtlWords).run ∧
      c.host = { s.chip.host with masterNext := none }) := by
  refine Gives.host (exec_hostCtlArm s) hawake hopen ?_
  rw [Chip.hostCtlArm_applied hcheck hsame]
  refine ⟨?_, applyWords_run _ _ _ rfl, ?_⟩
  · exact (rf_of_reg (reg_of_regs (Chip.applyWords_regs _ _) _)).trans (s.chip.showHostCtl_rf (by decide))
  · rw [Chip.follow_host, Chip.upHost_host, Chip.applyWords_host]
    rfl

theorem gives_hostCtlArm_waits (hcheck : s.chip.hostCtlCheck = 0) (hother : bit (s.chip.reg 0x3C00) 0 ≠ s.chip.host.master) :
    Gives .hostCtlArm s (fun c => c.rf 0x3C00 7 4 = 0 ∧ c.run = s.chip.run ∧
      c.armedSet 0x3C00 = some { arm := 0x3C00, words := s.chip.hostCtlWords } ∧
      c.host = { s.chip.host with masterNext := some (!s.chip.host.master) }) := by
  refine Gives.host (exec_hostCtlArm s) hawake hopen ?_
  rw [Chip.hostCtlArm_waits hcheck hother]
  exact ⟨s.chip.showHostCtl_rf (by decide), rfl, armedSet_holdSet _ _ _, rfl⟩

end HostCtl

/-! ### The change of MASTER (16 R748) -/

section Switch
variable {c : Chip} {m : Bool} {a : ArmedSet} (hnext : c.host.masterNext = some m) (harmed : c.armedSet 0x3C00 = some a)
include hnext harmed

/-- At its moment the set applies, MASTER changes and the replies are dropped. -/
theorem Chip.masterSwitch_free (hwriting : c.host.writing = none) (hout : c.host.mstOut = none) :
    c.masterSwitch = ((c.applyWords a.words).dropArmed 0x3C00).upHost
      (fun h => { h with master := m, masterNext := none, pending := none, stored := none }) := by
  simp [Chip.masterSwitch, hnext, harmed, hwriting, hout]

theorem Chip.masterSwitch_busy (hbusy : c.host.writing.isSome = true ∨ c.host.mstOut.isSome = true) : c.masterSwitch = c := by
  simp only [Chip.masterSwitch, hnext, harmed, Bool.or_eq_true, if_pos hbusy]

end Switch

/-! ### The ring that is pushed next (16 R746, 07 R329) -/

/-- The master may serve ring `n`: it is named, the host consumes it, it holds entries and has not been stopped. -/
def Chip.mayPush (c : Chip) (n : Nat) : Bool :=
  c.runB (0x3C11 + n / 32) (n % 32) && decide ((c.ring n).consumer = 0x0B) && decide (0 < (c.ring n).fill) && !c.host.mstStopped.contains n

theorem Chip.mayPush_iff (c : Chip) (n : Nat) : c.mayPush n = true ↔
    c.runB (0x3C11 + n / 32) (n % 32) = true ∧ (c.ring n).consumer = 0x0B ∧ 0 < (c.ring n).fill ∧ n ∉ c.host.mstStopped := by
  simp [Chip.mayPush, and_assoc]

/-- The ring pushed is the first of those the master may serve that no other of them precedes in priority. -/
theorem Chip.pushRing_eq (c : Chip) : c.pushRing =
    (List.range 64).find? (fun n => c.mayPush n && ((List.range 64).filter c.mayPush).all (fun m => decide ((c.ring n).prio ≤ (c.ring m).prio))) := by
  refine List.find?_filter.trans ?_
  simp only [Bool.decide_and, Bool.decide_eq_true]
  rfl

theorem Chip.pushRing_of_pushNext {c : Chip} {n : Nat} (h : PushNext c n) : c.pushRing = some n := by
  obtain ⟨hlt, hmay, hfirst⟩ := h
  have hbefore (m : Nat) (hm : m < 64) (hserved : c.mayPush m = true) :
      (c.ring n).prio < (c.ring m).prio ∨ ((c.ring n).prio = (c.ring m).prio ∧ n ≤ m) := by
    obtain ⟨hnamed, hhost, hfill, hgoes⟩ := (c.mayPush_iff m).1 hserved
    exact hfirst m hm hnamed hhost hfill hgoes
  have hn : c.mayPush n = true := (c.mayPush_iff n).2 hmay
  rw [Chip.pushRing_eq, List.find?_range_eq_some]
  refine ⟨?_, List.mem_range.2 hlt, fun j hj => ?_⟩
  · simp only [hn, Bool.true_and, List.all_eq_true, List.mem_filter, List.mem_range, decide_eq_true_eq]
    rintro m ⟨hm, hserved⟩
    have := hbefore m hm hserved
    omega
  · by_contra hnot
    simp only [Bool.not_eq_true, Bool.not_eq_false', Bool.and_eq_true, List.all_eq_true, List.mem_filter, List.mem_range,
      decide_eq_true_eq] at hnot
    obtain ⟨hserved, hleast⟩ := hnot
    have := hbefore j (by omega) hserved
    have := hleast n ⟨hlt, hn⟩
    omega

theorem Chip.pushRing_none {c : Chip} (h : ∀ n, n < 64 → c.mayPush n = false) : c.pushRing = none := by
  rw [Chip.pushRing_eq, List.find?_eq_none]
  intro n hn
  simp [h n (List.mem_range.1 hn)]

/-! ### A push (16 R746, R747) -/

section Push
variable {c : Chip} (hmaster : c.host.master = true) (hvio : c.lands.vioGood = true) (hopen : c.hostOpen = true)
include hmaster hvio hopen

/-- A new PUSH carries up to BATCH of the oldest entries of its ring with the next alive value. -/
theorem Chip.masterPush_new {n k : Nat} (hout : c.host.mstOut = none) (hnext : PushNext c n) (hk : k = min (c.runF 0x3C10 13 8) (c.ring n).fill) :
    c.masterPush = c.upHost (fun h => { h with
      hsdo := c.pushBytes n k (c.host.mstAlive + 1).toNat, mstAlive := c.host.mstAlive + 1, mstRing := n, mstOut := some (n, k), mstFails := 0,
      pushed := h.pushed + 1 }) := by
  simp [Chip.masterPush, hmaster, hvio, hopen, hout, Chip.pushRing_of_pushNext hnext, hk]

theorem Chip.masterPush_idle (hout : c.host.mstOut = none) (hnone : c.pushRing = none) : c.masterPush = c := by
  simp [Chip.masterPush, hmaster, hvio, hopen, hout, hnone]

/-- A PUSH that is to be sent again goes out with the same alive value and entries. -/
theorem Chip.masterPush_again {n k : Nat} (hout : c.host.mstOut = some (n, k)) (hresend : c.host.mstResend = true) :
    c.masterPush = c.upHost (fun h => { h with
      hsdo := c.pushBytes n k h.mstAlive.toNat, mstResend := false, mstFails := 0, resent := h.resent + 1 }) := by
  simp [Chip.masterPush, hmaster, hvio, hopen, hout, hresend]

end Push

/-! ### The reply to a push (16 R747) -/

/-- What a consume leaves of a ring with entries: its HEAD, and TAIL further on, whether or not the ring returns to its class. -/
theorem Chip.ring_consume_settleClass {c : Chip} {n : Nat} (k : Nat) (hfill : (c.ring n).fill ≠ 0) :
    (((c.consume n k).settleClass n).ring n).head = (c.ring n).head ∧
    (((c.consume n k).settleClass n).ring n).tail = (c.ring n).tail + BitVec.ofNat 16 k := by
  have hlt := c.ring_lt n fun hempty => hfill (by rw [hempty]; rfl)
  obtain ⟨b, hring⟩ := (c.consume n k).ring_settleClass n
  rw [hring, Chip.ring_consume _ _ _ hlt]
  exact ⟨rfl, rfl⟩

section Reply
variable {c : Chip} {n k : Nat} (hmaster : c.host.master = true) (hvio : c.lands.vioGood = true) (hout : c.host.mstOut = some (n, k))
  (hresend : c.host.mstResend = false)
include hmaster hvio hout hresend

/-- A reply with a bad CRC is counted; the third in a row has the PUSH sent again. -/
theorem Chip.masterNop_badCrc (st e : Nat) : c.masterNop st e false =
    c.upHost (fun h => { h with mstFails := if 2 ≤ h.mstFails then 0 else h.mstFails + 1, mstResend := decide (2 ≤ h.mstFails) }) := by
  simp [Chip.masterNop, hmaster, hvio, hout, hresend]

/-- A good reply to this PUSH consumes its entries. -/
theorem Chip.masterNop_accepted {st e : Nat} (hst : st ≤ 1) (hecho : e % 256 = c.host.mstAlive.toNat) : c.masterNop st e true =
    ((c.upHost (fun h => { h with mstFails := 0, mstStatus := st % 256, mstOut := none })).consume n k).settleClass n := by
  simp only [Chip.masterNop, hmaster, hvio, hout, hresend, hst, hecho, Bool.not_true, Bool.or_self, Bool.false_eq_true, if_false, if_true]
  rfl

/-- BUSY is no answer to the PUSH, which stays outstanding. -/
theorem Chip.masterNop_busy (e : Nat) : c.masterNop 0x14 e true = c.upHost (fun h => { h with mstFails := 0, mstStatus := 0x14 }) := by
  simp [Chip.masterNop, hmaster, hvio, hout, hresend]

/-- A line error at the other end has the PUSH sent again. -/
theorem Chip.masterNop_lineError {st : Nat} (e : Nat) (hst : st = 0x10 ∨ st = 0x11) : c.masterNop st e true =
    c.upHost (fun h => { h with mstFails := 0, mstStatus := st % 256, mstResend := true }) := by
  have hlarge : ¬ st ≤ 1 := by omega
  simp only [Chip.masterNop, hmaster, hvio, hout, hresend, Bool.not_true, Bool.or_self, Bool.false_eq_true, if_false, if_neg hlarge, if_pos hst]
  rfl

/-- A refusal ends the PUSH and stops its ring, which HOST_MST_STAT shows. -/
theorem Chip.masterNop_stopped {st : Nat} (e : Nat) (hst : st = 0x02 ∨ st = 0x12 ∨ st = 0x13 ∨ st = 0x15) : c.masterNop st e true =
    (c.upHost (fun h => { h with mstFails := 0, mstStatus := st % 256, mstOut := none, mstStopped := h.mstStopped ++ [n] })).setBits 0x3C13 (2 ^ 6) := by
  have hlarge : ¬ st ≤ 1 := by omega
  have hline : ¬ (st = 0x10 ∨ st = 0x11) := by omega
  simp only [Chip.masterNop, hmaster, hvio, hout, hresend, Bool.not_true, Bool.or_self, Bool.false_eq_true, if_false, if_neg hlarge, if_neg hline,
    if_pos hst]
  rfl

end Reply

/-- Settles O49: the set by its check, the change by its moment, a push by what is outstanding, and a reply by its CRC and STATUS. -/
theorem theHostPortPushesAsAMaster : Obligations.TheHostPortPushesAsAMaster := by
  refine ⟨fun s ws hawake hopen hws => ⟨fun hbad => ?outOfRange, fun hturn hbatch hbatch32 hdiv hdivEven =>
      ⟨fun n hn hnamed hother => ?otherConsumer, fun hrings => ⟨fun hsame => ?applied, fun hother => ?waits⟩⟩⟩,
    fun s m a hawake hnext harmed => ⟨fun hwriting hout => ?switched, fun hbusy => ?kept⟩,
    fun s hawake hmaster hvio hopen => ⟨fun n k hout hnext hk => ?new, fun hout hnone => ?idle, fun n k hout hresend => ?again,
      fun n k st e ok hout hresend => ⟨fun hok hst hecho hfill => ?accepted, fun hok hst => ?busy, fun hok hst => ?lineError,
        fun hbad hfails => ?badCrc, fun hbad hfails => ?thirdBadCrc, fun hok hst => ?stopped⟩⟩⟩
  case outOfRange => exact gives_hostCtlArm_refused hawake hopen (Chip.hostCtlCheck_range hbad) (by decide) (by decide)
  case otherConsumer =>
    have hgood : ¬ s.chip.mstCfgBad := by unfold Chip.mstCfgBad; omega
    exact gives_hostCtlArm_refused hawake hopen (Chip.hostCtlCheck_ring hgood fun h => hother (h n hn hnamed)) (by decide) (by decide)
  case applied =>
    have hgood : ¬ s.chip.mstCfgBad := by unfold Chip.mstCfgBad; omega
    subst hws
    exact gives_hostCtlArm_applied hawake hopen (Chip.hostCtlCheck_good hgood hrings) hsame
  case waits =>
    have hgood : ¬ s.chip.mstCfgBad := by unfold Chip.mstCfgBad; omega
    subst hws
    exact gives_hostCtlArm_waits hawake hopen (Chip.hostCtlCheck_good hgood hrings) hother
  case switched =>
    refine Gives.run (exec_masterSwitch s) hawake ?_
    rw [Chip.masterSwitch_free hnext harmed hwriting hout, Chip.follow_host, Chip.upHost_host, Chip.dropArmed_host, Chip.applyWords_host]
    exact ⟨rfl, rfl⟩
  case kept =>
    refine Gives.run (exec_masterSwitch s) hawake ?_
    rw [Chip.masterSwitch_busy hnext harmed hbusy]
    exact ⟨rfl, rfl⟩
  case new =>
    refine Gives.run (exec_masterPush s) hawake ?_
    rw [Chip.masterPush_new hmaster hvio hopen hout hnext hk]
    exact ⟨rfl, rfl, rfl, rfl, rfl, rfl, rfl⟩
  case idle =>
    have hserves (n : Nat) (hn : n < 64) : s.chip.mayPush n = false := by
      rw [Bool.eq_false_iff, Ne, Chip.mayPush_iff]
      rintro ⟨hnamed, hhost, hfill, hgoes⟩
      exact (hnone n hn hnamed hhost).elim (by omega) hgoes
    refine Gives.run (exec_masterPush s) hawake ?_
    rw [Chip.masterPush_idle hmaster hvio hopen hout (Chip.pushRing_none hserves)]
    exact ⟨rfl, rfl⟩
  case again =>
    refine Gives.run (exec_masterPush s) hawake ?_
    rw [Chip.masterPush_again hmaster hvio hopen hout hresend]
    exact ⟨rfl, hout, rfl, rfl, rfl⟩
  case accepted =>
    subst hok
    refine Gives.run (exec_masterNop st e true s) hawake ?_
    rw [Chip.masterNop_accepted hmaster hvio hout hresend hst hecho, Chip.ring_follow]
    exact ⟨rfl, Nat.mod_eq_of_lt (by omega), Chip.ring_consume_settleClass k hfill⟩
  case busy =>
    subst hok hst
    refine Gives.run (exec_masterNop 0x14 e true s) hawake ?_
    rw [Chip.masterNop_busy hmaster hvio hout hresend]
    exact ⟨rfl, rfl⟩
  case lineError =>
    subst hok
    refine Gives.run (exec_masterNop st e true s) hawake ?_
    rw [Chip.masterNop_lineError hmaster hvio hout hresend e hst]
    exact ⟨hout, rfl, rfl⟩
  case badCrc =>
    subst hbad
    refine Gives.run (exec_masterNop st e false s) hawake ?_
    rw [Chip.masterNop_badCrc hmaster hvio hout hresend]
    exact ⟨if_neg (by omega), decide_eq_false (by omega), hout, rfl⟩
  case thirdBadCrc =>
    subst hbad
    refine Gives.run (exec_masterNop st e false s) hawake ?_
    rw [Chip.masterNop_badCrc hmaster hvio hout hresend]
    exact ⟨decide_eq_true (by omega), hout, rfl⟩
  case stopped =>
    subst hok
    refine Gives.run (exec_masterNop st e true s) hawake ?_
    rw [Chip.masterNop_stopped hmaster hvio hout hresend e hst]
    exact ⟨rfl, rfl, rf_setBits_bit _ 0x3C13 6 (by decide), rfl⟩

end Sys2Proof.Machine
end

section
/-! SUPPORT. One step: every command and the idle cycle end by following the gates, so a step always answers, keeps the sample lanes behind their
gates, and is the effect of the command at the front of the queue. -/

namespace Sys2Proof.Machine

/-! ### The sample lanes behind their gates (01 R47) -/

/-- A sample lane that has followed its enable is enabled only while that enable holds. -/
theorem SampleState.enabled_follow {x : SampleState} {on : Bool} (h : (x.follow on).enabled = true) : on = true := by
  revert h
  cases x <;> cases on <;> decide

theorem Chip.lanesSafe_follow (c was : Chip) : (c.follow was).lanesSafe := by
  have hgnss : (c.follow was).gnssGate = c.gnssGate := rfl
  have hradio : (c.follow was).radioGate = c.radioGate := rfl
  have hlive : (c.follow was).live 1 = c.live 1 := rfl
  unfold Chip.lanesSafe
  rw [Chip.follow_gsamp, Chip.follow_rsamp, hgnss, hradio, hlive]
  exact ⟨fun h => Bool.and_eq_true_iff.mp (SampleState.enabled_follow h), fun h => Bool.and_eq_true_iff.mp (SampleState.enabled_follow h)⟩

/-- Every command answers the block it makes of the present one, completed by `follow`, with the queue as it was. -/
theorem exec_followed (i : Instr) (s : State) : ∃ c : Chip, exec i s = .next { s with chip := c.follow s.chip } := by
  cases i <;> exact ⟨_, rfl⟩

theorem step_command {s : State} {i : Instr} {rest : List Instr} (h : s.pending = i :: rest) : step s = exec i { s with pending := rest } := by
  unfold step
  rw [h]

theorem step_idle {s : State} (h : s.pending = []) : step s = .next { s with chip := s.chip.idle.follow s.chip } := by
  simp only [step, h, State.runPower]

/-- Every step, with a command or without, answers a block that has followed the gates. -/
theorem step_followed (s : State) : ∃ (c : Chip) (q : List Instr), step s = .next { chip := c.follow s.chip, pending := q } := by
  match h : s.pending with
  | [] => exact ⟨_, _, step_idle h⟩
  | i :: rest =>
    obtain ⟨c, hc⟩ := exec_followed i { s with pending := rest }
    exact ⟨c, rest, (step_command h).trans hc⟩

/-- Settles O57: whatever a step does, it ends by following the gates. -/
theorem everyStepKeepsTheSampleLanesBehindTheirGates : Obligations.EveryStepKeepsTheSampleLanesBehindTheirGates := by
  intro s _
  obtain ⟨c, q, hstep⟩ := step_followed s
  exact ⟨_, hstep, c.lanesSafe_follow s.chip⟩

/-! ### The front of the queue, and the idle cycle (05 R202) -/

theorem Chip.growUnc_keeper (c : Chip) : c.growUnc.keeper = c.keeper := by
  unfold Chip.growUnc
  split <;> rfl

theorem Chip.growUnc_mram (c : Chip) : c.growUnc.mram = c.mram := by
  unfold Chip.growUnc
  split <;> rfl

/-- Before the keeper domain's first supply, and after it lost its retention, no cycle of the keeper timebase counts. -/
theorem Chip.idle_of_stopped {c : Chip} (h : c.keeper.lost = true ∨ c.keeper.powered = false) : c.idle = c := by
  unfold Chip.idle
  rw [if_pos (by rcases h with h | h <;> simp [h])]

/-- What an idle cycle makes of the keeper domain and the MRAM is the work of the keeper's tick alone. -/
theorem Chip.idle_of_running {c : Chip} (hlost : c.keeper.lost = false) (hpowered : c.keeper.powered = true) :
    c.idle.keeper = c.keeperTick.keeper ∧ c.idle.mram = c.keeperTick.mram := by
  unfold Chip.idle
  rw [if_neg (by simp [hlost, hpowered])]
  dsimp only
  split <;> split <;> simp [Chip.growUnc_keeper, Chip.growUnc_mram]

/-- Settles O55: by what the queue holds, and with an empty queue by whether the keeper domain counts. -/
theorem aStepRunsTheFrontCommand : Obligations.AStepRunsTheFrontCommand := by
  refine ⟨fun i rest s h => step_command h, fun s h hstopped => ?_, fun s h hlost hpowered _ => ?_⟩
  · rw [step_idle h, Chip.idle_of_stopped hstopped]
  · obtain ⟨hkeeper, hmram⟩ := Chip.idle_of_running hlost hpowered
    exact ⟨_, step_idle h, h, hkeeper, hmram⟩

end Sys2Proof.Machine
end

section
/-! SUPPORT. Two rows of `partsChanged` name too few parts: RULE_FIRE runs the actions of its rule, and an action may drive a GP pin or close a
sequence (08 R355), which changes register words and the measurement units. -/

namespace Sys2Proof.Machine

/-- A block in PERIODIC whose sequences are open and whose ring 2 holds FIRE of rule 0, which has one action. -/
def Chip.firing (a : RuleAct) : Chip :=
  let c : Chip := { Chip.reset with
    power := { coreSupplied := true }, modes := { mode := 3 }, start := { phase := .done, slot := 0 }, girth := { lanes := List.replicate 4 .live },
    seqs := List.replicate 4 { opened := true },
    rules := { order := [0], rules := (List.replicate 256 ({} : Rule)).set 0 { en := true, guard := 0xFF, acts := [a] } } }
  (c.upRing 2 (fun r => { r with head := 1 })).putEntry ((c.ring 2).slot 0) [0x03000001, 0, 0, 0, 0, 0, 0, 0]

/-- The action that drives GP pin 0 high. -/
def drivePin : RuleAct := { code := 0x05, target := 0x10, value := 1 }

/-- The action that closes sequence 0. -/
def closeSequence : RuleAct := { code := 0x04, target := 0 }

theorem exec_ruleFire (s : State) : exec .ruleFire s = execRuleFire s := rfl

/-- RULE_FIRE with its command at the head of ring 2 sweeps that entry, and then follows the gates. -/
theorem Gives.ruleFire {c : Chip} {P : Chip → Prop} (hawake : c.awake = true) (hsweeping : c.sweeping = true)
    (hhead : c.headCommand = some 1) (h : Gives .ruleFire { chip := c, pending := [] } P) : P (c.sweepHead.follow c) := by
  obtain ⟨t, hstep, -, hP⟩ := h
  have hrun : exec .ruleFire { chip := c, pending := [] } = .next { chip := c.sweepHead.follow c, pending := [] } := by
    rw [exec_ruleFire]
    simp [execRuleFire, State.run, State.runPower, hawake, hsweeping, hhead]
  cases hstep.symm.trans hrun
  exact hP

theorem Chip.keeps_regs_follow {a b : Chip} (h : a.keeps .regs (b.follow a)) : b.regs = a.regs := h

theorem Chip.keeps_seqs_follow {a b : Chip} (h : a.keeps .seqs (b.follow a)) : b.seqs = a.seqs := h

theorem drivePin_writes_register : (Chip.firing drivePin).sweepHead.reg 0x0080 ≠ (Chip.firing drivePin).reg 0x0080 := by decide +kernel

theorem closeSequence_closes : ((Chip.firing closeSequence).sweepHead.seq 0).opened ≠ ((Chip.firing closeSequence).seq 0).opened := by decide +kernel

/-- Refutes O59: RULE_FIRE's row does not list the registers, but its rule may drive a GP pin, which writes the pin's register word. -/
theorem not_commandsKeepTheRegistersAndMemoriesTheyDoNotWrite : ¬ Obligations.CommandsKeepTheRegistersAndMemoriesTheyDoNotWrite := by
  intro h
  have hframe := Gives.ruleFire (by decide +kernel) (by decide +kernel) (by decide +kernel)
    (h .ruleFire { chip := Chip.firing drivePin, pending := [] } .regs (by decide) (by decide))
  exact drivePin_writes_register (reg_of_regs (Chip.keeps_regs_follow hframe) 0x0080)

/-- Refutes O60: RULE_FIRE's row does not list the sequencers, but its rule may close a sequence. -/
theorem not_commandsKeepTheUnitsTheyDoNotDrive : ¬ Obligations.CommandsKeepTheUnitsTheyDoNotDrive := by
  intro h
  have hframe := Gives.ruleFire (by decide +kernel) (by decide +kernel) (by decide +kernel)
    (h .ruleFire { chip := Chip.firing closeSequence, pending := [] } .seqs (by decide) (by decide))
  exact closeSequence_closes (congrArg (fun qs => (qs.getD 0 {}).opened) (Chip.keeps_seqs_follow hframe))

end Sys2Proof.Machine
end

section
/-! SUPPORT. The frame of an operation: the block with the parts that the operation may change forgotten. Two blocks that agree on it differ in
those parts alone, and the frame of a sequence of operations follows from the frames of its members by rewriting. -/

namespace Sys2Proof.Machine

/-! ### The block with parts forgotten -/

/-- The block with the parts `ps` forgotten: two blocks that agree on it differ in those parts alone. -/
def Chip.hide (ps : List Part) (c : Chip) : Chip where
  regs := if .regs ∈ ps then [] else c.regs
  run := if .run ∈ ps then [] else c.run
  girth := if .girth ∈ ps then {} else c.girth
  lands := if .lands ∈ ps then {} else c.lands
  power := if .power ∈ ps then {} else c.power
  modes := if .modes ∈ ps then {} else c.modes
  tb := if .tb ∈ ps then {} else c.tb
  keeper := if .keeper ∈ ps then {} else c.keeper
  mram := if .mram ∈ ps then {} else c.mram
  start := if .start ∈ ps then {} else c.start
  rings := if .rings ∈ ps then {} else c.rings
  rules := if .rules ∈ ps then {} else c.rules
  seqs := if .seqs ∈ ps then [] else c.seqs
  runSig := if .runSig ∈ ps then {} else c.runSig
  fin := if .fin ∈ ps then {} else c.fin
  chains := if .chains ∈ ps then [] else c.chains
  burnish := if .burnish ∈ ps then {} else c.burnish
  exc := if .exc ∈ ps then [] else c.exc
  mon := if .mon ∈ ps then {} else c.mon
  acq := if .acq ∈ ps then {} else c.acq
  track := if .track ∈ ps then {} else c.track
  radio := if .radio ∈ ps then {} else c.radio
  yard := if .yard ∈ ps then {} else c.yard
  host := if .host ∈ ps then {} else c.host
  mem := if .mem ∈ ps then {} else c.mem
  upd := if .upd ∈ ps then {} else c.upd
  therm := if .therm ∈ ps then {} else c.therm

variable {ps : List Part}

/-! A part that is not among the forgotten ones is the same in two blocks that agree on the rest. -/

theorem Chip.regs_of_hide {c d : Chip} (h : c.hide ps = d.hide ps) (hp : .regs ∉ ps) : c.regs = d.regs := by
  simpa only [Chip.hide, if_neg hp] using congrArg Chip.regs h
theorem Chip.run_of_hide {c d : Chip} (h : c.hide ps = d.hide ps) (hp : .run ∉ ps) : c.run = d.run := by
  simpa only [Chip.hide, if_neg hp] using congrArg Chip.run h
theorem Chip.girth_of_hide {c d : Chip} (h : c.hide ps = d.hide ps) (hp : .girth ∉ ps) : c.girth = d.girth := by
  simpa only [Chip.hide, if_neg hp] using congrArg Chip.girth h
theorem Chip.lands_of_hide {c d : Chip} (h : c.hide ps = d.hide ps) (hp : .lands ∉ ps) : c.lands = d.lands := by
  simpa only [Chip.hide, if_neg hp] using congrArg Chip.lands h
theorem Chip.power_of_hide {c d : Chip} (h : c.hide ps = d.hide ps) (hp : .power ∉ ps) : c.power = d.power := by
  simpa only [Chip.hide, if_neg hp] using congrArg Chip.power h
theorem Chip.modes_of_hide {c d : Chip} (h : c.hide ps = d.hide ps) (hp : .modes ∉ ps) : c.modes = d.modes := by
  simpa only [Chip.hide, if_neg hp] using congrArg Chip.modes h
theorem Chip.tb_of_hide {c d : Chip} (h : c.hide ps = d.hide ps) (hp : .tb ∉ ps) : c.tb = d.tb := by
  simpa only [Chip.hide, if_neg hp] using congrArg Chip.tb h
theorem Chip.keeper_of_hide {c d : Chip} (h : c.hide ps = d.hide ps) (hp : .keeper ∉ ps) : c.keeper = d.keeper := by
  simpa only [Chip.hide, if_neg hp] using congrArg Chip.keeper h
theorem Chip.mram_of_hide {c d : Chip} (h : c.hide ps = d.hide ps) (hp : .mram ∉ ps) : c.mram = d.mram := by
  simpa only [Chip.hide, if_neg hp] using congrArg Chip.mram h
theorem Chip.start_of_hide {c d : Chip} (h : c.hide ps = d.hide ps) (hp : .start ∉ ps) : c.start = d.start := by
  simpa only [Chip.hide, if_neg hp] using congrArg Chip.start h
theorem Chip.rings_of_hide {c d : Chip} (h : c.hide ps = d.hide ps) (hp : .rings ∉ ps) : c.rings = d.rings := by
  simpa only [Chip.hide, if_neg hp] using congrArg Chip.rings h
theorem Chip.rules_of_hide {c d : Chip} (h : c.hide ps = d.hide ps) (hp : .rules ∉ ps) : c.rules = d.rules := by
  simpa only [Chip.hide, if_neg hp] using congrArg Chip.rules h
theorem Chip.seqs_of_hide {c d : Chip} (h : c.hide ps = d.hide ps) (hp : .seqs ∉ ps) : c.seqs = d.seqs := by
  simpa only [Chip.hide, if_neg hp] using congrArg Chip.seqs h
theorem Chip.runSig_of_hide {c d : Chip} (h : c.hide ps = d.hide ps) (hp : .runSig ∉ ps) : c.runSig = d.runSig := by
  simpa only [Chip.hide, if_neg hp] using congrArg Chip.runSig h
theorem Chip.fin_of_hide {c d : Chip} (h : c.hide ps = d.hide ps) (hp : .fin ∉ ps) : c.fin = d.fin := by
  simpa only [Chip.hide, if_neg hp] using congrArg Chip.fin h
theorem Chip.chains_of_hide {c d : Chip} (h : c.hide ps = d.hide ps) (hp : .chains ∉ ps) : c.chains = d.chains := by
  simpa only [Chip.hide, if_neg hp] using congrArg Chip.chains h
theorem Chip.burnish_of_hide {c d : Chip} (h : c.hide ps = d.hide ps) (hp : .burnish ∉ ps) : c.burnish = d.burnish := by
  simpa only [Chip.hide, if_neg hp] using congrArg Chip.burnish h
theorem Chip.exc_of_hide {c d : Chip} (h : c.hide ps = d.hide ps) (hp : .exc ∉ ps) : c.exc = d.exc := by
  simpa only [Chip.hide, if_neg hp] using congrArg Chip.exc h
theorem Chip.mon_of_hide {c d : Chip} (h : c.hide ps = d.hide ps) (hp : .mon ∉ ps) : c.mon = d.mon := by
  simpa only [Chip.hide, if_neg hp] using congrArg Chip.mon h
theorem Chip.acq_of_hide {c d : Chip} (h : c.hide ps = d.hide ps) (hp : .acq ∉ ps) : c.acq = d.acq := by
  simpa only [Chip.hide, if_neg hp] using congrArg Chip.acq h
theorem Chip.track_of_hide {c d : Chip} (h : c.hide ps = d.hide ps) (hp : .track ∉ ps) : c.track = d.track := by
  simpa only [Chip.hide, if_neg hp] using congrArg Chip.track h
theorem Chip.radio_of_hide {c d : Chip} (h : c.hide ps = d.hide ps) (hp : .radio ∉ ps) : c.radio = d.radio := by
  simpa only [Chip.hide, if_neg hp] using congrArg Chip.radio h
theorem Chip.yard_of_hide {c d : Chip} (h : c.hide ps = d.hide ps) (hp : .yard ∉ ps) : c.yard = d.yard := by
  simpa only [Chip.hide, if_neg hp] using congrArg Chip.yard h
theorem Chip.mem_of_hide {c d : Chip} (h : c.hide ps = d.hide ps) (hp : .mem ∉ ps) : c.mem = d.mem := by
  simpa only [Chip.hide, if_neg hp] using congrArg Chip.mem h
theorem Chip.upd_of_hide {c d : Chip} (h : c.hide ps = d.hide ps) (hp : .upd ∉ ps) : c.upd = d.upd := by
  simpa only [Chip.hide, if_neg hp] using congrArg Chip.upd h
theorem Chip.therm_of_hide {c d : Chip} (h : c.hide ps = d.hide ps) (hp : .therm ∉ ps) : c.therm = d.therm := by
  simpa only [Chip.hide, if_neg hp] using congrArg Chip.therm h

/-! One lemma per part: a block with the part replaced. -/

theorem Chip.hide_with_regs (c : Chip) (x : RegFile) (h : .regs ∈ ps) : Chip.hide ps { c with regs := x } = c.hide ps := by
  simp only [Chip.hide, if_pos h]
theorem Chip.hide_with_run (c : Chip) (x : RegFile) (h : .run ∈ ps) : Chip.hide ps { c with run := x } = c.hide ps := by
  simp only [Chip.hide, if_pos h]
theorem Chip.hide_with_girth (c : Chip) (x : Girth) (h : .girth ∈ ps) : Chip.hide ps { c with girth := x } = c.hide ps := by
  simp only [Chip.hide, if_pos h]
theorem Chip.hide_with_lands (c : Chip) (x : Lands) (h : .lands ∈ ps) : Chip.hide ps { c with lands := x } = c.hide ps := by
  simp only [Chip.hide, if_pos h]
theorem Chip.hide_with_power (c : Chip) (x : Power) (h : .power ∈ ps) : Chip.hide ps { c with power := x } = c.hide ps := by
  simp only [Chip.hide, if_pos h]
theorem Chip.hide_with_modes (c : Chip) (x : Modes) (h : .modes ∈ ps) : Chip.hide ps { c with modes := x } = c.hide ps := by
  simp only [Chip.hide, if_pos h]
theorem Chip.hide_with_tb (c : Chip) (x : Timebases) (h : .tb ∈ ps) : Chip.hide ps { c with tb := x } = c.hide ps := by
  simp only [Chip.hide, if_pos h]
theorem Chip.hide_with_keeper (c : Chip) (x : Keeper) (h : .keeper ∈ ps) : Chip.hide ps { c with keeper := x } = c.hide ps := by
  simp only [Chip.hide, if_pos h]
theorem Chip.hide_with_mram (c : Chip) (x : Mram) (h : .mram ∈ ps) : Chip.hide ps { c with mram := x } = c.hide ps := by
  simp only [Chip.hide, if_pos h]
theorem Chip.hide_with_start (c : Chip) (x : StartCtl) (h : .start ∈ ps) : Chip.hide ps { c with start := x } = c.hide ps := by
  simp only [Chip.hide, if_pos h]
theorem Chip.hide_with_rings (c : Chip) (x : RingSys) (h : .rings ∈ ps) : Chip.hide ps { c with rings := x } = c.hide ps := by
  simp only [Chip.hide, if_pos h]
theorem Chip.hide_with_rules (c : Chip) (x : RuleEngine) (h : .rules ∈ ps) : Chip.hide ps { c with rules := x } = c.hide ps := by
  simp only [Chip.hide, if_pos h]
theorem Chip.hide_with_seqs (c : Chip) (x : List Sequencer) (h : .seqs ∈ ps) : Chip.hide ps { c with seqs := x } = c.hide ps := by
  simp only [Chip.hide, if_pos h]
theorem Chip.hide_with_runSig (c : Chip) (x : RunSig) (h : .runSig ∈ ps) : Chip.hide ps { c with runSig := x } = c.hide ps := by
  simp only [Chip.hide, if_pos h]
theorem Chip.hide_with_fin (c : Chip) (x : FieldInputs) (h : .fin ∈ ps) : Chip.hide ps { c with fin := x } = c.hide ps := by
  simp only [Chip.hide, if_pos h]
theorem Chip.hide_with_chains (c : Chip) (x : List Chain) (h : .chains ∈ ps) : Chip.hide ps { c with chains := x } = c.hide ps := by
  simp only [Chip.hide, if_pos h]
theorem Chip.hide_with_burnish (c : Chip) (x : Burnish) (h : .burnish ∈ ps) : Chip.hide ps { c with burnish := x } = c.hide ps := by
  simp only [Chip.hide, if_pos h]
theorem Chip.hide_with_exc (c : Chip) (x : List ExcChannel) (h : .exc ∈ ps) : Chip.hide ps { c with exc := x } = c.hide ps := by
  simp only [Chip.hide, if_pos h]
theorem Chip.hide_with_mon (c : Chip) (x : Monitor) (h : .mon ∈ ps) : Chip.hide ps { c with mon := x } = c.hide ps := by
  simp only [Chip.hide, if_pos h]
theorem Chip.hide_with_acq (c : Chip) (x : Acq) (h : .acq ∈ ps) : Chip.hide ps { c with acq := x } = c.hide ps := by
  simp only [Chip.hide, if_pos h]
theorem Chip.hide_with_track (c : Chip) (x : Track) (h : .track ∈ ps) : Chip.hide ps { c with track := x } = c.hide ps := by
  simp only [Chip.hide, if_pos h]
theorem Chip.hide_with_radio (c : Chip) (x : Radio) (h : .radio ∈ ps) : Chip.hide ps { c with radio := x } = c.hide ps := by
  simp only [Chip.hide, if_pos h]
theorem Chip.hide_with_yard (c : Chip) (x : Yard) (h : .yard ∈ ps) : Chip.hide ps { c with yard := x } = c.hide ps := by
  simp only [Chip.hide, if_pos h]
theorem Chip.hide_with_host (c : Chip) (x : HostPort) (h : .host ∈ ps) : Chip.hide ps { c with host := x } = c.hide ps := by
  simp only [Chip.hide, if_pos h]
theorem Chip.hide_with_mem (c : Chip) (x : MemPort) (h : .mem ∈ ps) : Chip.hide ps { c with mem := x } = c.hide ps := by
  simp only [Chip.hide, if_pos h]
theorem Chip.hide_with_upd (c : Chip) (x : Update) (h : .upd ∈ ps) : Chip.hide ps { c with upd := x } = c.hide ps := by
  simp only [Chip.hide, if_pos h]
theorem Chip.hide_with_therm (c : Chip) (x : Thermal) (h : .therm ∈ ps) : Chip.hide ps { c with therm := x } = c.hide ps := by
  simp only [Chip.hide, if_pos h]

theorem Chip.hide_ite (ps : List Part) (P : Prop) [Decidable P] (a b : Chip) : (if P then a else b).hide ps = if P then a.hide ps else b.hide ps :=
  apply_ite _ _ _ _

/-- A fold of an operation over a list changes what the operation changes. -/
theorem Chip.hide_foldl {α : Type} {f : Chip → α → Chip} (h : ∀ c x, (f c x).hide ps = c.hide ps) (xs : List α) (c : Chip) :
    (xs.foldl f c).hide ps = c.hide ps := by
  induction xs generalizing c with
  | nil => rfl
  | cons x xs ih => rw [List.foldl_cons, ih, h]

end Sys2Proof.Machine
end

section
/-! SUPPORT. The frame of each operation of the model: the parts that it may change, said once. An operation that changes parts of `ps` alone
is the same block as before, those parts forgotten. -/

namespace Sys2Proof.Machine

variable {ps : List Part}

/-! ### Shared operations -/

theorem Chip.hide_upGirth (c : Chip) (f : Girth → Girth) (h : .girth ∈ ps) : (c.upGirth f).hide ps = c.hide ps := by
  simp only [Chip.upGirth, Chip.hide_with_girth, h]

theorem Chip.hide_upLands (c : Chip) (f : Lands → Lands) (h : .lands ∈ ps) : (c.upLands f).hide ps = c.hide ps := by
  simp only [Chip.upLands, Chip.hide_with_lands, h]

theorem Chip.hide_upPower (c : Chip) (f : Power → Power) (h : .power ∈ ps) : (c.upPower f).hide ps = c.hide ps := by
  simp only [Chip.upPower, Chip.hide_with_power, h]

theorem Chip.hide_upModes (c : Chip) (f : Modes → Modes) (h : .modes ∈ ps) : (c.upModes f).hide ps = c.hide ps := by
  simp only [Chip.upModes, Chip.hide_with_modes, h]

theorem Chip.hide_upTb (c : Chip) (f : Timebases → Timebases) (h : .tb ∈ ps) : (c.upTb f).hide ps = c.hide ps := by
  simp only [Chip.upTb, Chip.hide_with_tb, h]

theorem Chip.hide_upKeeper (c : Chip) (f : Keeper → Keeper) (h : .keeper ∈ ps) : (c.upKeeper f).hide ps = c.hide ps := by
  simp only [Chip.upKeeper, Chip.hide_with_keeper, h]

theorem Chip.hide_upStart (c : Chip) (f : StartCtl → StartCtl) (h : .start ∈ ps) : (c.upStart f).hide ps = c.hide ps := by
  simp only [Chip.upStart, Chip.hide_with_start, h]

theorem Chip.hide_upRules (c : Chip) (f : RuleEngine → RuleEngine) (h : .rules ∈ ps) : (c.upRules f).hide ps = c.hide ps := by
  simp only [Chip.upRules, Chip.hide_with_rules, h]

theorem Chip.hide_upRunSig (c : Chip) (f : RunSig → RunSig) (h : .runSig ∈ ps) : (c.upRunSig f).hide ps = c.hide ps := by
  simp only [Chip.upRunSig, Chip.hide_with_runSig, h]

theorem Chip.hide_upFin (c : Chip) (f : FieldInputs → FieldInputs) (h : .fin ∈ ps) : (c.upFin f).hide ps = c.hide ps := by
  simp only [Chip.upFin, Chip.hide_with_fin, h]

theorem Chip.hide_upBurnish (c : Chip) (f : Burnish → Burnish) (h : .burnish ∈ ps) : (c.upBurnish f).hide ps = c.hide ps := by
  simp only [Chip.upBurnish, Chip.hide_with_burnish, h]

theorem Chip.hide_upMon (c : Chip) (f : Monitor → Monitor) (h : .mon ∈ ps) : (c.upMon f).hide ps = c.hide ps := by
  simp only [Chip.upMon, Chip.hide_with_mon, h]

theorem Chip.hide_upAcq (c : Chip) (f : Acq → Acq) (h : .acq ∈ ps) : (c.upAcq f).hide ps = c.hide ps := by
  simp only [Chip.upAcq, Chip.hide_with_acq, h]

theorem Chip.hide_upRadio (c : Chip) (f : Radio → Radio) (h : .radio ∈ ps) : (c.upRadio f).hide ps = c.hide ps := by
  simp only [Chip.upRadio, Chip.hide_with_radio, h]

theorem Chip.hide_upYard (c : Chip) (f : Yard → Yard) (h : .yard ∈ ps) : (c.upYard f).hide ps = c.hide ps := by
  simp only [Chip.upYard, Chip.hide_with_yard, h]

theorem Chip.hide_upHost (c : Chip) (f : HostPort → HostPort) (h : .host ∈ ps) : (c.upHost f).hide ps = c.hide ps := by
  simp only [Chip.upHost, Chip.hide_with_host, h]

theorem Chip.hide_upUpd (c : Chip) (f : Update → Update) (h : .upd ∈ ps) : (c.upUpd f).hide ps = c.hide ps := by
  simp only [Chip.upUpd, Chip.hide_with_upd, h]

theorem Chip.hide_upTherm (c : Chip) (f : Thermal → Thermal) (h : .therm ∈ ps) : (c.upTherm f).hide ps = c.hide ps := by
  simp only [Chip.upTherm, Chip.hide_with_therm, h]

theorem Chip.hide_setReg (c : Chip) (a : Nat) (w : Word) (h : .regs ∈ ps) : (c.setReg a w).hide ps = c.hide ps := by
  simp only [Chip.setReg, Chip.hide_with_regs, h]

theorem Chip.hide_setFld (c : Chip) (a : Nat) (hi : Nat) (lo : Nat) (v : Nat) (h : .regs ∈ ps) : (c.setFld a hi lo v).hide ps = c.hide ps := by
  simp only [Chip.setFld, Chip.hide_setReg, h]

theorem Chip.hide_setBits (c : Chip) (a : Nat) (mask : Nat) (h : .regs ∈ ps) : (c.setBits a mask).hide ps = c.hide ps := by
  simp only [Chip.setBits, Chip.hide_setReg, h]

theorem Chip.hide_clrBits (c : Chip) (a : Nat) (mask : Nat) (h : .regs ∈ ps) : (c.clrBits a mask).hide ps = c.hide ps := by
  simp only [Chip.clrBits, Chip.hide_setReg, h]

theorem Chip.hide_setRun (c : Chip) (a : Nat) (w : Word) (h : .run ∈ ps) : (c.setRun a w).hide ps = c.hide ps := by
  simp only [Chip.setRun, Chip.hide_with_run, h]

theorem Chip.hide_applyWords (c : Chip) (ws : List (Nat × Word)) (h : .run ∈ ps) : (c.applyWords ws).hide ps = c.hide ps := by
  simp only [Chip.applyWords, Chip.hide_setRun, Chip.hide_foldl, h, implies_true]

theorem Chip.hide_armLast (c : Chip) (arm : Nat) (res : Nat) (h : .regs ∈ ps) : (c.armLast arm res).hide ps = c.hide ps := by
  simp only [Chip.armLast, Chip.hide_setReg, h]

theorem Chip.hide_dropArmed (c : Chip) (arm : Nat) (h : .girth ∈ ps) : (c.dropArmed arm).hide ps = c.hide ps := by
  simp only [Chip.dropArmed, Chip.hide_with_girth, h]

theorem Chip.hide_holdSet (c : Chip) (arm : Nat) (ws : List (Nat × Word)) (h : .girth ∈ ps) : (c.holdSet arm ws).hide ps = c.hide ps := by
  simp only [Chip.holdSet, Chip.hide_with_girth, h]

theorem Chip.hide_setLane (c : Chip) (l : Nat) (x : LaneState) (h : .girth ∈ ps) : (c.setLane l x).hide ps = c.hide ps := by
  simp only [Chip.setLane, Chip.hide_with_girth, h]

theorem Chip.hide_upRing (c : Chip) (n : Nat) (f : Machine.Ring → Machine.Ring) (h : .rings ∈ ps) : (c.upRing n f).hide ps = c.hide ps := by
  simp only [Chip.upRing, Chip.hide_with_rings, h]

theorem Chip.hide_putEntry (c : Chip) (slot : Nat) (e : Entry) (h : .rings ∈ ps) : (c.putEntry slot e).hide ps = c.hide ps := by
  simp only [Chip.putEntry, Chip.hide_with_rings, h]

theorem Chip.hide_pushEntry (c : Chip) (n : Nat) (e : Entry) (h : .rings ∈ ps) : (c.pushEntry n e).hide ps = c.hide ps := by
  simp only [Chip.pushEntry, Chip.hide_putEntry, Chip.hide_upRing, Chip.hide_with_rings, Chip.hide_ite, h, ite_self]

theorem Chip.hide_answer (c : Chip) (a : Answer) (h : .rings ∈ ps) : (c.answer a).hide ps = c.hide ps := by
  simp only [Chip.answer, Chip.hide_with_rings, h]

theorem Chip.hide_produceRaw (c : Chip) (agent : Nat) (n : Nat) (e : Entry) (h : .rings ∈ ps) : (c.produceRaw agent n e).1.hide ps = c.hide ps := by
  simp only [Chip.produceRaw]
  repeat' split
  all_goals simp only [Chip.hide_upRing, Chip.hide_pushEntry, Chip.hide_answer, h]

theorem Chip.hide_observe1 (c : Chip) (agent : Nat) (get : RingSys → Observer) (put : RingSys → Observer → RingSys) (h : .rings ∈ ps) :
    (c.observe1 agent get put).hide ps = c.hide ps := by
  simp only [Chip.observe1, Chip.hide_produceRaw, Chip.hide_with_rings, Chip.hide_ite, h, ite_self]

theorem Chip.hide_observeAll (c : Chip) (h : .rings ∈ ps) : c.observeAll.hide ps = c.hide ps := by
  simp only [Chip.observeAll, Chip.hide_observe1, h]

theorem Chip.hide_observe (c : Chip) (h : .rings ∈ ps) : c.observe.hide ps = c.hide ps := by
  simp only [Chip.observe, Chip.hide_observeAll, h]

theorem Chip.hide_produce (c : Chip) (agent : Nat) (n : Nat) (e : Entry) (h : .rings ∈ ps) : (c.produce agent n e).hide ps = c.hide ps := by
  simp only [Chip.produce, Chip.hide_answer, Chip.hide_observe, Chip.hide_produceRaw, Chip.hide_ite, h, ite_self]

theorem Chip.hide_post0 (c : Chip) (origin : Nat) (cls : Nat) (code : Nat) (journal : Bool) (a0 : Nat) (a1 : Nat) (a2 : Nat) (a3 : Nat) (h :
    .rings ∈ ps) : (c.post0 origin cls code journal a0 a1 a2 a3).hide ps = c.hide ps := by
  simp only [Chip.post0, Chip.hide_produce, h]

theorem Chip.hide_protect (c : Chip) (origin : Nat) (code : Nat) (a0 : Nat) (a1 : Nat) (a2 : Nat) (a3 : Nat) (h : .rings ∈ ps) :
    (c.protect origin code a0 a1 a2 a3).hide ps = c.hide ps := by
  simp only [Chip.protect, Chip.hide_post0, h]

theorem Chip.hide_journal (c : Chip) (agent : Nat) (type : Nat) (w1 : Nat) (w2 : Nat) (prot : Bool) (h : .rings ∈ ps) :
    (c.journal agent type w1 w2 prot).hide ps = c.hide ps := by
  simp only [Chip.journal, Chip.hide_produce, h]

theorem Chip.hide_post2 (c : Chip) (origin : Nat) (kind : Nat) (code : Nat) (arg : Nat) (h : .rings ∈ ps) :
    (c.post2 origin kind code arg).hide ps = c.hide ps := by
  simp only [Chip.post2, Chip.hide_produce, h]

theorem Chip.hide_event (c : Chip) (origin : Nat) (cls : Nat) (idx : Nat) (arg : Nat) (h : .rings ∈ ps) :
    (c.event origin cls idx arg).hide ps = c.hide ps := by
  simp only [Chip.event, Chip.hide_post2, h]

theorem Chip.hide_post3 (c : Chip) (kind : Nat) (rule : Nat) (tag : Nat) (trigger : Nat) (arg : Nat) (h : .rings ∈ ps) :
    (c.post3 kind rule tag trigger arg).hide ps = c.hide ps := by
  simp only [Chip.post3, Chip.hide_produce, h]

theorem Chip.hide_postSignal (c : Chip) (origin : Nat) (sig : Nat) (h : .rings ∈ ps ∧ .rules ∈ ps) :
    (c.postSignal origin sig).hide ps = c.hide ps := by
  simp only [Chip.postSignal, Chip.hide_post2, Chip.hide_with_rules, Chip.hide_ite, h, ite_self]

theorem Chip.hide_setSignal (c : Chip) (origin : Nat) (sig : Nat) (v : Nat) (h : .rings ∈ ps ∧ .rules ∈ ps) :
    (c.setSignal origin sig v).hide ps = c.hide ps := by
  simp only [Chip.setSignal, Chip.hide_postSignal, Chip.hide_with_rules, Chip.hide_ite, h, and_self, ite_self]

theorem Chip.hide_keeperEvent (c : Chip) (source : Nat) (origin : Nat) (code : Nat) (arg : Nat) (h : .keeper ∈ ps ∧ .rules ∈ ps) :
    (c.keeperEvent source origin code arg).hide ps = c.hide ps := by
  simp only [Chip.keeperEvent, Chip.hide_with_keeper, Chip.hide_with_rules, Chip.hide_ite, h, ite_self]

theorem Chip.hide_draw (c : Chip) (h : .start ∈ ps) : c.draw.1.hide ps = c.hide ps := by
  simp only [Chip.draw, Chip.hide_with_start, h]

/-! ### The MRAM -/

theorem Chip.hide_deferRecord (c : Chip) (ws : List Word) (h : .regs ∈ ps ∧ .therm ∈ ps) : (c.deferRecord ws).hide ps = c.hide ps := by
  simp only [Chip.deferRecord, Chip.hide_setBits, Chip.hide_with_therm, Chip.hide_ite, h, ite_self]

theorem Chip.hide_deferHour (c : Chip) (meter : Nat) (w1 : Nat) (h : .keeper ∈ ps) : (c.deferHour meter w1).hide ps = c.hide ps := by
  simp only [Chip.deferHour, Chip.hide_with_keeper, h]

/-! ### The update-state record -/

theorem Chip.hide_readUpd (c : Chip) (h : .upd ∈ ps) : c.readUpd.hide ps = c.hide ps := by
  simp only [Chip.readUpd]
  split <;> simp only [Chip.hide_upUpd, h]

/-! ### The keeper domain -/

theorem Chip.hide_timeSetRecord (c : Chip) (oldSec : Nat) (src : Nat) (h : .rings ∈ ps) : (c.timeSetRecord oldSec src).hide ps = c.hide ps := by
  simp only [Chip.timeSetRecord, Chip.hide_journal, h]

theorem Chip.hide_setTime (c : Chip) (sec : Nat) (sub : Nat) (src : Nat) (h : .keeper ∈ ps ∧ .rings ∈ ps ∧ .rules ∈ ps) :
    (c.setTime sec sub src).hide ps = c.hide ps := by
  simp only [Chip.setTime, Chip.hide_timeSetRecord, Chip.hide_postSignal, Chip.hide_with_keeper, Chip.hide_ite, h, and_self, ite_self]

theorem Chip.hide_rateStep (c : Chip) (units : Nat) (h : .keeper ∈ ps) : (c.rateStep units).hide ps = c.hide ps := by
  simp only [Chip.rateStep]
  repeat' split
  all_goals simp only [Chip.hide_with_keeper, h]

theorem Chip.hide_gnssTime (c : Chip) (trust : Nat) (sec : Nat) (sub : Nat) (h : .regs ∈ ps ∧ .keeper ∈ ps ∧ .rings ∈ ps ∧ .rules ∈ ps) :
    (c.gnssTime trust sec sub).hide ps = c.hide ps := by
  simp only [Chip.gnssTime, Chip.hide_setBits, Chip.hide_setTime, Chip.hide_rateStep, Chip.hide_with_keeper, Chip.hide_ite, h, and_self, ite_self]

theorem Chip.hide_calendarArm (c : Chip) (h : .regs ∈ ps ∧ .keeper ∈ ps) : c.calendarArm.hide ps = c.hide ps := by
  simp only [Chip.calendarArm, Chip.hide_setBits, Chip.hide_setFld, Chip.hide_armLast, Chip.hide_with_keeper, Chip.hide_ite, h, ite_self]

theorem Chip.hide_keepDiscArm (c : Chip) (h : .regs ∈ ps ∧ .keeper ∈ ps) : c.keepDiscArm.hide ps = c.hide ps := by
  simp only [Chip.keepDiscArm, Chip.hide_armLast, Chip.hide_with_keeper, h]

theorem Chip.hide_tamperRecord (c : Chip) (new : Nat) (old : Nat) (h : .rings ∈ ps) : (c.tamperRecord new old).hide ps = c.hide ps := by
  simp only [Chip.tamperRecord, Chip.hide_journal, h]

theorem Chip.hide_keepLoopArm (c : Chip) (h : .regs ∈ ps ∧ .keeper ∈ ps ∧ .rings ∈ ps ∧ .rules ∈ ps) : c.keepLoopArm.hide ps = c.hide ps := by
  simp only [Chip.keepLoopArm, Chip.hide_tamperRecord, Chip.hide_postSignal, Chip.hide_armLast, Chip.hide_with_keeper, Chip.hide_ite, h, and_self,
    ite_self]

theorem Chip.hide_loopSample (c : Chip) (ohms : Nat) (idleMv : Int) (h : .regs ∈ ps ∧ .keeper ∈ ps ∧ .rings ∈ ps ∧ .rules ∈ ps) :
    (c.loopSample ohms idleMv).hide ps = c.hide ps := by
  simp only [Chip.loopSample, Chip.hide_keeperEvent, Chip.hide_setBits, Chip.hide_tamperRecord, Chip.hide_postSignal, Chip.hide_with_keeper,
    Chip.hide_ite, h, and_self, ite_self]

theorem Chip.hide_wakeRose (c : Chip) (level : Bool) (h : .regs ∈ ps ∧ .keeper ∈ ps ∧ .rings ∈ ps ∧ .rules ∈ ps) :
    (c.wakeRose level).hide ps = c.hide ps := by
  simp only [Chip.wakeRose, Chip.hide_setBits, Chip.hide_keeperEvent, Chip.hide_postSignal, Chip.hide_with_keeper, Chip.hide_ite, h, and_self,
    ite_self]

theorem Chip.hide_theftRecord (c : Chip) (rule : Nat) (old : Nat) (h : .rings ∈ ps) : (c.theftRecord rule old).hide ps = c.hide ps := by
  simp only [Chip.theftRecord, Chip.hide_journal, h]

theorem Chip.hide_theftNote (c : Chip) (type : Nat) (h : .keeper ∈ ps ∧ .rings ∈ ps) : (c.theftNote type).hide ps = c.hide ps := by
  simp only [Chip.theftNote, Chip.hide_upKeeper, Chip.hide_theftRecord, Chip.hide_ite, h, ite_self]

theorem Chip.hide_upMeter (c : Chip) (m : Nat) (f : Meter → Meter) (h : .keeper ∈ ps) : (c.upMeter m f).hide ps = c.hide ps := by
  simp only [Chip.upMeter, Chip.hide_with_keeper, h]

theorem Chip.hide_commitHour (c : Chip) (m : Nat) (h : .keeper ∈ ps ∧ .rings ∈ ps) : (c.commitHour m).hide ps = c.hide ps := by
  simp only [Chip.commitHour, Chip.hide_journal, Chip.hide_deferHour, Chip.hide_upMeter, Chip.hide_ite, h, ite_self]

/-! ### Fences -/

theorem Chip.hide_fenceStep (lat : Int) (lon : Int) (trust : Nat) (c : Chip) (i : Nat) (h : .rings ∈ ps ∧ .rules ∈ ps) :
    (Chip.fenceStep lat lon trust c i).hide ps = c.hide ps := by
  simp only [Chip.fenceStep, Chip.hide_event, Chip.hide_postSignal, Chip.hide_with_rules, Chip.hide_ite, h, and_self, ite_self]

theorem Chip.hide_fencesStep (c : Chip) (lat : Int) (lon : Int) (trust : Nat) (h : .rings ∈ ps ∧ .rules ∈ ps) :
    (c.fencesStep lat lon trust).hide ps = c.hide ps := by
  simp only [Chip.fencesStep, Chip.hide_fenceStep, Chip.hide_foldl, h, and_self, implies_true]

/-! ### Asking for a mode -/

theorem Chip.hide_beginTransition (c : Chip) (target : Nat) (r : Reason) (h : .girth ∈ ps ∧ .modes ∈ ps) :
    (c.beginTransition target r).hide ps = c.hide ps := by
  simp only [Chip.beginTransition, Chip.hide, h, if_true]

theorem Chip.hide_goTo (c : Chip) (target : Nat) (r : Reason) (h : .girth ∈ ps ∧ .modes ∈ ps) : (c.goTo target r).hide ps = c.hide ps := by
  simp only [Chip.goTo]
  split <;> simp only [Chip.hide_beginTransition, Chip.hide_with_modes, Chip.hide_ite, h, and_self, ite_self]

theorem Chip.hide_idleCheck (c : Chip) (h : .girth ∈ ps ∧ .modes ∈ ps) : c.idleCheck.hide ps = c.hide ps := by
  simp only [Chip.idleCheck, Chip.hide_goTo, Chip.hide_ite, h, and_self, ite_self]

theorem Chip.hide_leaveFix (c : Chip) (h : .girth ∈ ps ∧ .modes ∈ ps) : c.leaveFix.hide ps = c.hide ps := by
  simp only [Chip.leaveFix, Chip.hide_goTo, Chip.hide_idleCheck, Chip.hide_ite, h, and_self, ite_self]

theorem Chip.hide_leaveLink (c : Chip) (h : .girth ∈ ps ∧ .modes ∈ ps) : c.leaveLink.hide ps = c.hide ps := by
  simp only [Chip.leaveLink, Chip.hide_goTo, Chip.hide_idleCheck, Chip.hide_ite, h, and_self, ite_self]

/-! ### GNSS tracking -/

theorem Chip.hide_upChan (c : Chip) (n : Nat) (f : Channel → Channel) (h : .track ∈ ps) : (c.upChan n f).hide ps = c.hide ps := by
  simp only [Chip.upChan, Chip.hide_with_track, h]

theorem Chip.hide_release (c : Chip) (n : Nat) (h : .track ∈ ps) : (c.release n).hide ps = c.hide ps := by
  simp only [Chip.release, Chip.hide_upChan, h]

theorem Chip.hide_releaseAll (c : Chip) (h : .track ∈ ps) : c.releaseAll.hide ps = c.hide ps := by
  simp only [Chip.releaseAll, Chip.hide_with_track, h]

theorem Chip.hide_handOff (c : Chip) (system : Nat) (band : Nat) (sv : Nat) (cn0 : Nat) (h : .track ∈ ps) :
    (c.handOff system band sv cn0).hide ps = c.hide ps := by
  simp only [Chip.handOff]
  split <;> simp only [Chip.hide_upChan, h]

theorem Chip.hide_tpSettle (c : Chip) (h : .track ∈ ps) : c.tpSettle.hide ps = c.hide ps := by
  simp only [Chip.tpSettle, Chip.hide_with_track, Chip.hide_ite, h, ite_self]

theorem Chip.hide_tpStop (c : Chip) (h : .rings ∈ ps ∧ .track ∈ ps) : c.tpStop.hide ps = c.hide ps := by
  simp only [Chip.tpStop, Chip.hide_produce, Chip.hide_with_track, Chip.hide_ite, h, ite_self]

theorem Chip.hide_tpHold (c : Chip) (h : .track ∈ ps) : c.tpHold.hide ps = c.hide ps := by
  simp only [Chip.tpHold, Chip.hide_with_track, Chip.hide_ite, h, ite_self]

theorem Chip.hide_tpSolution (c : Chip) (ok : Bool) (trust : Nat) (h : .track ∈ ps) : (c.tpSolution ok trust).hide ps = c.hide ps := by
  simp only [Chip.tpSolution, Chip.hide_tpHold, Chip.hide_with_track, Chip.hide_ite, h, ite_self]

theorem Chip.hide_tpCfgArm (c : Chip) (h : .regs ∈ ps ∧ .run ∈ ps ∧ .track ∈ ps) : c.tpCfgArm.hide ps = c.hide ps := by
  simp only [Chip.tpCfgArm, Chip.hide_applyWords, Chip.hide_armLast, Chip.hide_with_track, Chip.hide_ite, h, ite_self]

theorem Chip.hide_gtrkApply (c : Chip) (ws : List (Nat × Word)) (h : .run ∈ ps ∧ .track ∈ ps) : (c.gtrkApply ws).hide ps = c.hide ps := by
  simp only [Chip.gtrkApply, Chip.hide_applyWords, Chip.hide_with_track, Chip.hide_ite, h, ite_self]

theorem Chip.hide_gtrkCfgArm (c : Chip) (h : .regs ∈ ps ∧ .run ∈ ps ∧ .girth ∈ ps ∧ .track ∈ ps) : c.gtrkCfgArm.hide ps = c.hide ps := by
  simp only [Chip.gtrkCfgArm, Chip.hide_holdSet, Chip.hide_gtrkApply, Chip.hide_armLast, Chip.hide_ite, h, and_self, ite_self]

theorem Chip.hide_gtrkTrustArm (c : Chip) (h : .regs ∈ ps ∧ .run ∈ ps) : c.gtrkTrustArm.hide ps = c.hide ps := by
  simp only [Chip.gtrkTrustArm, Chip.hide_applyWords, Chip.hide_armLast, Chip.hide_ite, h, ite_self]

theorem Chip.hide_produceEpoch (c : Chip) (es : List Entry) (h : .rings ∈ ps ∧ .track ∈ ps) : (c.produceEpoch es).hide ps = c.hide ps := by
  simp only [Chip.produceEpoch, Chip.hide_produce, Chip.hide_upRing, Chip.hide_with_track, Chip.hide_foldl, Chip.hide_ite, h, ite_self,
    implies_true]

theorem Chip.hide_with_track_acq_start (c : Chip) (x : Track) (y : Acq) (z : StartCtl) (h : .start ∈ ps ∧ .acq ∈ ps ∧ .track ∈ ps) :
    Chip.hide ps { c with track := x, acq := y, start := z } = c.hide ps := by
  simp only [Chip.hide, h, if_true]

theorem Chip.hide_epoch (c : Chip) (mlg scount : Word) (meas : List Meas) (h : .run ∈ ps ∧ .girth ∈ ps ∧ .start ∈ ps ∧ .rings ∈ ps ∧ .acq ∈ ps ∧
    .track ∈ ps) :
    (c.epoch mlg scount meas).hide ps = c.hide ps := by
  simp only [Chip.epoch]
  repeat' split
  all_goals
    simp only [Chip.hide_with_track_acq_start, Chip.hide_foldl, Chip.hide_upChan, Chip.hide_produceEpoch, Chip.hide_dropArmed, Chip.hide_gtrkApply, h,
      and_self, implies_true]

theorem Chip.hide_with_acq_keeper (c : Chip) (x : Acq) (y : Keeper) (h : .keeper ∈ ps ∧ .acq ∈ ps) :
    Chip.hide ps { c with acq := x, keeper := y } = c.hide ps := by
  simp only [Chip.hide, h, if_true]

theorem Chip.hide_navContent (c : Chip) (x : Channel) (n : NavContent) (h : .keeper ∈ ps ∧ .acq ∈ ps) : (c.navContent x n).hide ps = c.hide ps := by
  cases n with
  | other => rfl
  | ephemeris t ws => simp only [Chip.navContent, Chip.hide_with_acq, h]
  | almanac ws => simp only [Chip.navContent, Chip.hide_with_acq, h]
  | utc n p d day ws => simp only [Chip.navContent, Chip.hide_ite, Chip.hide_with_acq_keeper, h, and_self, ite_self]

theorem Chip.hide_keepSolution (c : Chip) (sol : Solution) (trust : Nat) (snap : Bool) (h : .acq ∈ ps) :
    (c.keepSolution sol trust snap).hide ps = c.hide ps := by
  simp only [Chip.keepSolution, Chip.hide_with_acq, h]

theorem Chip.hide_solution (c : Chip) (sol : Solution) (snap : Bool) (h : .regs ∈ ps ∧ .keeper ∈ ps ∧ .rings ∈ ps ∧ .rules ∈ ps ∧ .acq ∈ ps ∧
    .track ∈ ps) : (c.solution sol snap).hide ps = c.hide ps := by
  simp only [Chip.solution, Chip.hide_setSignal, Chip.hide_keepSolution, Chip.hide_produce, Chip.hide_fencesStep, Chip.hide_gnssTime,
    Chip.hide_with_track, Chip.hide_ite, h, and_self, ite_self]

theorem Chip.hide_failedSolution (c : Chip) (h : .rings ∈ ps ∧ .rules ∈ ps ∧ .track ∈ ps) : c.failedSolution.hide ps = c.hide ps := by
  simp only [Chip.failedSolution, Chip.hide_produce, Chip.hide_setSignal, Chip.hide_with_track, h, and_self]

/-! ### GNSS acquisition -/

theorem Chip.hide_grant (c : Chip) (h : .acq ∈ ps) : c.grant.hide ps = c.hide ps := by
  simp only [Chip.grant, Chip.hide_with_acq, Chip.hide_ite, h, ite_self]

theorem Chip.hide_elim {α : Type} {c : Chip} {f : α → Chip} (hf : ∀ a, (f a).hide ps = c.hide ps) (o : Option α) :
    (o.elim c f).hide ps = c.hide ps := by
  cases o with
  | none => rfl
  | some a => exact hf a

theorem Chip.hide_endFix (c : Chip) (reason : Nat) (h : .run ∈ ps ∧ .girth ∈ ps ∧ .modes ∈ ps ∧ .rings ∈ ps ∧ .acq ∈ ps) :
    (c.endFix reason).hide ps = c.hide ps := by
  simp only [Chip.endFix, Chip.hide_leaveFix, Chip.hide_elim, Chip.hide_dropArmed, Chip.hide_applyWords, Chip.hide_with_acq, Chip.hide_event,
    Chip.hide_produce, h, and_self, implies_true]

theorem Chip.hide_failFix (c : Chip) (reason : Nat) (h : .run ∈ ps ∧ .girth ∈ ps ∧ .modes ∈ ps ∧ .rings ∈ ps ∧ .acq ∈ ps ∧ .track ∈ ps) :
    (c.failFix reason).hide ps = c.hide ps := by
  simp only [Chip.failFix, Chip.hide_releaseAll, Chip.hide_endFix, Chip.hide_tpHold, Chip.hide_ite, h, and_self, ite_self]

theorem Chip.hide_startBurst (c : Chip) (h : .acq ∈ ps ∧ .track ∈ ps) : c.startBurst.hide ps = c.hide ps := by
  simp only [Chip.startBurst, Chip.hide, h, if_true]

theorem Chip.hide_tooFew (c : Chip) (h : .run ∈ ps ∧ .girth ∈ ps ∧ .modes ∈ ps ∧ .rings ∈ ps ∧ .acq ∈ ps ∧ .track ∈ ps) :
    c.tooFew.hide ps = c.hide ps := by
  simp only [Chip.tooFew, Chip.hide_endFix, Chip.hide_startBurst, Chip.hide_goTo, Chip.hide_with_acq, Chip.hide_ite, h, and_self, ite_self]

theorem Chip.hide_phaseEnd (c : Chip) (h : .rings ∈ ps) : c.phaseEnd.hide ps = c.hide ps := by
  simp only [Chip.phaseEnd, Chip.hide_produce, h]

theorem Chip.hide_enterPhase (c : Chip) (p : Nat) (ts : List Machine.Task) (h : .acq ∈ ps) : (c.enterPhase p ts).hide ps = c.hide ps := by
  simp only [Chip.enterPhase, Chip.hide_grant, Chip.hide_with_acq, h]

theorem Chip.hide_phaseStep (n : Nat) (c : Chip) (h : .run ∈ ps ∧ .girth ∈ ps ∧ .modes ∈ ps ∧ .rings ∈ ps ∧ .acq ∈ ps ∧ .track ∈ ps) :
    (Chip.phaseStep n c).hide ps = c.hide ps := by
  induction n generalizing c with
  | zero => rfl
  | succ n ih =>
    simp only [Chip.phaseStep, Chip.hide_ite, ih, Chip.hide_enterPhase, Chip.hide_phaseEnd, Chip.hide_tooFew, Chip.hide_with_acq, h, and_self,
      ite_self]

theorem Chip.hide_fixInMode (c : Chip) (r : Reason) (h : .girth ∈ ps ∧ .modes ∈ ps ∧ .acq ∈ ps ∧ .track ∈ ps) :
    (c.fixInMode r).hide ps = c.hide ps := by
  simp only [Chip.fixInMode, Chip.hide_startBurst, Chip.hide_goTo, Chip.hide_ite, h, and_self, ite_self]

theorem Chip.hide_requestFix (c : Chip) (target : Nat) (value : Nat) (r : Reason) (h : .girth ∈ ps ∧ .modes ∈ ps ∧ .acq ∈ ps ∧ .track ∈ ps) :
    (c.requestFix target value r).1.hide ps = c.hide ps := by
  simp only [Chip.requestFix]
  repeat' split
  all_goals simp only [Chip.hide_fixInMode, Chip.hide_with_acq, h, and_self]

theorem Chip.hide_with_acq_track (c : Chip) (x : Acq) (y : Track) (h : .acq ∈ ps ∧ .track ∈ ps) :
    Chip.hide ps { c with acq := x, track := y } = c.hide ps := by
  simp only [Chip.hide, h, if_true]

theorem Chip.hide_fixEntered (c : Chip) (h : .acq ∈ ps ∧ .track ∈ ps) : c.fixEntered.hide ps = c.hide ps := by
  simp only [Chip.fixEntered, Chip.hide_ite, Chip.hide_with_acq_track, Chip.hide_startBurst, h, and_self, ite_self]

theorem Chip.hide_captureEnd (c : Chip) (samples : List Byte) (blanks : List (Nat × Nat)) (agc1 : Nat) (agc5 : Nat) (h : .run ∈ ps ∧ .girth ∈ ps ∧
    .modes ∈ ps ∧ .rings ∈ ps ∧ .acq ∈ ps ∧ .track ∈ ps) : (c.captureEnd samples blanks agc1 agc5).hide ps = c.hide ps := by
  simp only [Chip.captureEnd, Chip.hide_leaveFix, Chip.hide_phaseStep, Chip.hide_endFix, Chip.hide_produce, Chip.hide_grant, Chip.hide_with_acq,
    Chip.hide_ite, h, and_self, ite_self]

theorem Chip.hide_detect (c : Chip) (i : Nat) (t : Machine.Task) (engine : Nat) (pnr : Nat) (code : Word) (doppler : Int) (cn0 : Nat) (h :
    .rings ∈ ps ∧ .acq ∈ ps ∧ .track ∈ ps) : (c.detect i t engine pnr code doppler cn0).hide ps = c.hide ps := by
  simp only [Chip.detect, Chip.hide_handOff, Chip.hide_produce, Chip.hide_upAcq, Chip.hide_ite, h, ite_self]

theorem Chip.hide_passResult (c : Chip) (i : Nat) (engine : Nat) (pnr : Nat) (code : Word) (doppler : Int) (cn0 : Nat) (h : .rings ∈ ps ∧
    .acq ∈ ps ∧ .track ∈ ps) : (c.passResult i engine pnr code doppler cn0).hide ps = c.hide ps := by
  simp only [Chip.passResult]
  split <;> simp only [Chip.hide_produce, Chip.hide_detect, Chip.hide_ite, h, and_self, ite_self]

theorem Chip.hide_passEnd (c : Chip) (engine : Nat) (pnr : Nat) (code : Word) (doppler : Int) (cn0 : Nat) (h : .run ∈ ps ∧ .girth ∈ ps ∧
    .modes ∈ ps ∧ .rings ∈ ps ∧ .acq ∈ ps ∧ .track ∈ ps) : (c.passEnd engine pnr code doppler cn0).hide ps = c.hide ps := by
  simp only [Chip.passEnd]
  split <;> simp only [Chip.hide_passResult, Chip.hide_phaseStep, Chip.hide_upAcq, Chip.hide_grant, h, and_self]

theorem Chip.hide_gacqRfArm (c : Chip) (h : .regs ∈ ps ∧ .run ∈ ps ∧ .girth ∈ ps) : c.gacqRfArm.hide ps = c.hide ps := by
  simp only [Chip.gacqRfArm, Chip.hide_holdSet, Chip.hide_applyWords, Chip.hide_armLast, Chip.hide_ite, h, ite_self]

theorem Chip.hide_gacqPlanArm (c : Chip) (h : .regs ∈ ps ∧ .run ∈ ps ∧ .girth ∈ ps) : c.gacqPlanArm.hide ps = c.hide ps := by
  simp only [Chip.gacqPlanArm, Chip.hide_holdSet, Chip.hide_applyWords, Chip.hide_armLast, Chip.hide_ite, h, ite_self]

/-! ### Remote words -/

theorem Chip.hide_latchDie (c : Chip) (l : Nat) (h : .girth ∈ ps) : (c.latchDie l).hide ps = c.hide ps := by
  simp only [Chip.latchDie, Chip.hide_upGirth, h]

theorem Chip.hide_setLanes (c : Chip) (ls : List LaneState) (h : .girth ∈ ps) : (c.setLanes ls).hide ps = c.hide ps := by
  simp only [Chip.setLanes, Chip.hide_latchDie, Chip.hide_upGirth, Chip.hide_foldl, Chip.hide_ite, h, ite_self, implies_true]

/-! ### The chirp radio -/

theorem Chip.hide_consume (c : Chip) (n : Nat) (k : Nat) (h : .rings ∈ ps) : (c.consume n k).hide ps = c.hide ps := by
  simp only [Chip.consume, Chip.hide_upRing, h]

theorem Chip.hide_txStatus (c : Chip) (kind : Nat) (reason : Nat) (f : RadioFrame) (h : .rings ∈ ps) :
    (c.txStatus kind reason f).hide ps = c.hide ps := by
  simp only [Chip.txStatus, Chip.hide_produce, h]

theorem Chip.hide_refuseItem (c : Chip) (n : Nat) (reason : Nat) (e : Entry) (h : .rings ∈ ps) : (c.refuseItem n reason e).hide ps = c.hide ps := by
  simp only [Chip.refuseItem, Chip.hide_consume, Chip.hide_txStatus, h]

theorem Chip.hide_rxStatus (c : Chip) (kind : Nat) (tag : Nat) (len : Nat) (w : Entry) (h : .rings ∈ ps) :
    (c.rxStatus kind tag len w).hide ps = c.hide ps := by
  simp only [Chip.rxStatus, Chip.hide_produce, h]

theorem Chip.hide_radioApply (c : Chip) (h : .run ∈ ps ∧ .girth ∈ ps) : c.radioApply.hide ps = c.hide ps := by
  simp only [Chip.radioApply]
  split
  · refine Chip.hide_foldl (fun c a => ?_) _ _
    split <;> simp only [Chip.hide_ite, Chip.hide_dropArmed, Chip.hide_applyWords, h, ite_self]
  · rfl

theorem Chip.hide_radioArm (c : Chip) (arm : Nat) (h : .regs ∈ ps ∧ .run ∈ ps ∧ .girth ∈ ps) : (c.radioArm arm).hide ps = c.hide ps := by
  simp only [Chip.radioArm, Chip.hide_setFld, Chip.hide_holdSet, Chip.hide_radioApply, Chip.hide_armLast, Chip.hide_ite, h, and_self, ite_self]

theorem Chip.hide_burstOver (c : Chip) (h : .run ∈ ps ∧ .girth ∈ ps ∧ .modes ∈ ps ∧ .radio ∈ ps) : c.burstOver.hide ps = c.hide ps := by
  simp only [Chip.burstOver, Chip.hide_radioApply, Chip.hide_upRadio, Chip.hide_leaveLink, Chip.hide_ite, h, and_self, ite_self]

theorem Chip.hide_wantBurst (c : Chip) (r : Reason) (h : .girth ∈ ps ∧ .modes ∈ ps ∧ .acq ∈ ps ∧ .radio ∈ ps) :
    (c.wantBurst r).hide ps = c.hide ps := by
  simp only [Chip.wantBurst, Chip.hide_upAcq, Chip.hide_upRadio, Chip.hide_goTo, Chip.hide_ite, h, and_self, ite_self]

theorem Chip.hide_preemptRx (c : Chip) (h : .rings ∈ ps ∧ .radio ∈ ps) : c.preemptRx.hide ps = c.hide ps := by
  simp only [Chip.preemptRx, Chip.hide_rxStatus, Chip.hide_upRadio, Chip.hide_ite, h, ite_self]

theorem Chip.hide_launch (c : Chip) (n : Nat) (e : Entry) (h : .rings ∈ ps ∧ .radio ∈ ps) : (c.launch n e).hide ps = c.hide ps := by
  simp only [Chip.launch, Chip.hide_consume, Chip.hide_upRadio, Chip.hide_preemptRx, h, and_self]

theorem Chip.hide_frameLaunch (c : Chip) (n : Nat) (lateMs : Nat) (h : .rings ∈ ps ∧ .radio ∈ ps) : (c.frameLaunch n lateMs).hide ps = c.hide ps := by
  simp only [Chip.frameLaunch]
  repeat' split
  all_goals simp only [Chip.hide_refuseItem, Chip.hide_launch, h, and_self]

theorem Chip.hide_frameSent (c : Chip) (h : .run ∈ ps ∧ .girth ∈ ps ∧ .modes ∈ ps ∧ .rings ∈ ps ∧ .radio ∈ ps) : c.frameSent.hide ps = c.hide ps := by
  simp only [Chip.frameSent]
  split <;> simp only [Chip.hide_txStatus, Chip.hide_burstOver, Chip.hide_upRadio, h, and_self]

theorem Chip.hide_abortTx (c : Chip) (reason : Nat) (h : .regs ∈ ps ∧ .rings ∈ ps ∧ .radio ∈ ps) : (c.abortTx reason).hide ps = c.hide ps := by
  simp only [Chip.abortTx]
  split <;> simp only [Chip.hide_setBits, Chip.hide_txStatus, Chip.hide_upRadio, h]

theorem Chip.hide_abortRadio (c : Chip) (reason : Nat) (h : .regs ∈ ps ∧ .rings ∈ ps ∧ .radio ∈ ps) : (c.abortRadio reason).hide ps = c.hide ps := by
  simp only [Chip.abortRadio, Chip.hide_abortTx, Chip.hide_upRadio, Chip.hide_preemptRx, h, and_self]

theorem Chip.hide_txAbort (c : Chip) (h : .regs ∈ ps ∧ .run ∈ ps ∧ .girth ∈ ps ∧ .modes ∈ ps ∧ .rings ∈ ps ∧ .radio ∈ ps) :
    c.txAbort.hide ps = c.hide ps := by
  simp only [Chip.txAbort, Chip.hide_burstOver, Chip.hide_abortTx, Chip.hide_ite, h, and_self, ite_self]

theorem Chip.hide_reflect (c : Chip) (loss : Nat) (h : .regs ∈ ps ∧ .rings ∈ ps ∧ .radio ∈ ps) : (c.reflect loss).hide ps = c.hide ps := by
  simp only [Chip.reflect]
  split <;> simp only [Chip.hide_protect, Chip.hide_setBits, Chip.hide_upRadio, Chip.hide_ite, h, ite_self]

theorem Chip.hide_windowEnd (c : Chip) (h : .run ∈ ps ∧ .girth ∈ ps ∧ .modes ∈ ps ∧ .rings ∈ ps ∧ .radio ∈ ps) : c.windowEnd.hide ps = c.hide ps := by
  simp only [Chip.windowEnd]
  split <;> simp only [Chip.hide_burstOver, Chip.hide_rxStatus, Chip.hide_upRadio, Chip.hide_ite, h, and_self, ite_self]

theorem Chip.hide_syncDetect (c : Chip) (sweeps : Nat) (s1 : Nat) (s2 : Nat) (rssi : Int) (snr : Int) (h : .radio ∈ ps) :
    (c.syncDetect sweeps s1 s2 rssi snr).hide ps = c.hide ps := by
  simp only [Chip.syncDetect]
  repeat' split
  all_goals simp only [Chip.hide_upRadio, h]

theorem Chip.hide_rxOver (c : Chip) (h : .run ∈ ps ∧ .girth ∈ ps ∧ .modes ∈ ps ∧ .radio ∈ ps) : c.rxOver.hide ps = c.hide ps := by
  simp only [Chip.rxOver, Chip.hide_burstOver, Chip.hide_upRadio, h, and_self]

theorem Chip.hide_headerDecode (c : Chip) (hdr : Nat) (crc : Nat) (h : .run ∈ ps ∧ .girth ∈ ps ∧ .modes ∈ ps ∧ .rings ∈ ps ∧ .radio ∈ ps) :
    (c.headerDecode hdr crc).hide ps = c.hide ps := by
  simp only [Chip.headerDecode, Chip.hide_rxStatus, Chip.hide_rxOver, Chip.hide_upRadio, Chip.hide_ite, h, and_self, ite_self]

theorem Chip.hide_frameReceived (c : Chip) (payload : List Byte) (crc : Word) (rx : RxMeta) (h : .run ∈ ps ∧ .girth ∈ ps ∧ .modes ∈ ps ∧
    .rings ∈ ps ∧ .radio ∈ ps) : (c.frameReceived payload crc rx).hide ps = c.hide ps := by
  simp only [Chip.frameReceived]
  split <;> simp only [Chip.hide_produce, Chip.hide_rxStatus, Chip.hide_rxOver, Chip.hide_upRadio, Chip.hide_foldl, Chip.hide_ite, h, and_self,
    ite_self, implies_true]

/-! ### The rings -/

theorem Chip.hide_endCopy (c : Chip) (n : Nat) (h : .rings ∈ ps) : (c.endCopy n).hide ps = c.hide ps := by
  simp only [Chip.endCopy, Chip.hide_upRing, h]

theorem Chip.hide_settleClass (c : Chip) (n : Nat) (h : .rings ∈ ps) : (c.settleClass n).hide ps = c.hide ps := by
  simp only [Chip.settleClass, Chip.hide_upRing, h]

theorem Chip.hide_drainEpoch (c : Chip) (h : .rings ∈ ps ∧ .track ∈ ps) : c.drainEpoch.hide ps = c.hide ps := by
  simp only [Chip.drainEpoch]
  split <;> simp only [Chip.hide_produce, Chip.hide_upRing, Chip.hide_with_track, Chip.hide_foldl, Chip.hide_ite, h, ite_self, implies_true]

theorem Chip.hide_drain (c : Chip) (n : Nat) (h : .rings ∈ ps) : (c.drain n).hide ps = c.hide ps := by
  simp only [Chip.drain]
  split <;> simp only [Chip.hide_observe, Chip.hide_produce, Chip.hide_upRing, Chip.hide_pushEntry, Chip.hide_answer, Chip.hide_ite, h,
    ite_self]

theorem Chip.hide_convert (c : Chip) (n : Nat) (h : .rings ∈ ps) : (c.convert n).hide ps = c.hide ps := by
  simp only [Chip.convert, Chip.hide_produce, Chip.hide_upRing, h]

theorem Chip.hide_opResult (c : Chip) (n : Nat) (res : Nat) (h : .rings ∈ ps) : (c.opResult n res).hide ps = c.hide ps := by
  simp only [Chip.opResult, Chip.hide_upRing, h]

theorem Chip.hide_hostConsume (c0 : Chip) (n : Nat) (w : Word) (h : .rings ∈ ps) : (c0.hostConsume n w).hide ps = c0.hide ps := by
  simp only [Chip.hostConsume, Chip.hide_consume, Chip.hide_settleClass, Chip.hide_opResult, Chip.hide_endCopy, Chip.hide_ite, h, ite_self]

theorem Chip.hide_hostPublish (c0 : Chip) (n : Nat) (w : Word) (h : .rings ∈ ps) : (c0.hostPublish n w).hide ps = c0.hide ps := by
  simp only [Chip.hostPublish, Chip.hide_upRing, Chip.hide_opResult, Chip.hide_endCopy, Chip.hide_ite, h, ite_self]

theorem Chip.hide_obsAck (c : Chip) (w : Word) (h : .rings ∈ ps) : (c.obsAck w).hide ps = c.hide ps := by
  simp only [Chip.obsAck, Chip.hide_with_rings, h]

theorem Chip.hide_stageWindow (c : Chip) (n : Nat) (i : Nat) (w : Word) (h : .rings ∈ ps) : (c.stageWindow n i w).1.hide ps = c.hide ps := by
  simp only [Chip.stageWindow]
  split <;> simp only [Chip.hide_putEntry, h]

theorem Chip.hide_ringApply (c : Chip) (n : Nat) (h : .rings ∈ ps) : (c.ringApply n).hide ps = c.hide ps := by
  simp only [Chip.ringApply, Chip.hide_settleClass, Chip.hide_upRing, Chip.hide_with_rings, Chip.hide_ite, h, ite_self]

theorem Chip.hide_ringCfgArm (c : Chip) (n : Nat) (h : .regs ∈ ps ∧ .rings ∈ ps) : (c.ringCfgArm n).hide ps = c.hide ps := by
  simp only [Chip.ringCfgArm, Chip.hide_ringApply, Chip.hide_armLast, Chip.hide_upRing, Chip.hide_ite, h, ite_self]

theorem Chip.hide_arbGrant (c : Chip) (posted : List (Nat × Bool)) (h : .rings ∈ ps) : (c.arbGrant posted).hide ps = c.hide ps := by
  simp only [Chip.arbGrant]
  split <;> simp only [Chip.hide_with_rings, h]

theorem Chip.hide_dropHeld (c : Chip) (agents : List Nat) (h : .rings ∈ ps) : (c.dropHeld agents).hide ps = c.hide ps := by
  simp only [Chip.dropHeld, Chip.hide_with_rings, h]

/-! ### The mode controller -/

theorem Chip.hide_gbiasFor (c : Chip) (m : Nat) (h : .power ∈ ps) : (c.gbiasFor m).hide ps = c.hide ps := by
  simp only [Chip.gbiasFor, Chip.hide_upPower, h]

theorem Chip.hide_foutFor (c : Chip) (m : Nat) (h : .power ∈ ps) : (c.foutFor m).hide ps = c.hide ps := by
  simp only [Chip.foutFor, Chip.hide_upPower, Chip.hide_ite, h, ite_self]

theorem Chip.hide_endWork (c : Chip) (m : Nat) (r : Reason) (h : .regs ∈ ps ∧ .run ∈ ps ∧ .girth ∈ ps ∧ .modes ∈ ps ∧ .rings ∈ ps ∧ .acq ∈ ps ∧
    .track ∈ ps ∧ .radio ∈ ps) : (c.endWork m r).hide ps = c.hide ps := by
  simp only [Chip.endWork, Chip.hide_abortRadio, Chip.hide_failFix, Chip.hide_tpHold, Chip.hide_upRadio, Chip.hide_releaseAll, Chip.hide_ite, h,
    and_self, ite_self]

theorem Chip.hide_domains (c : Chip) (m : Nat) (r : Reason) (h : .regs ∈ ps ∧ .run ∈ ps ∧ .girth ∈ ps ∧ .power ∈ ps ∧ .modes ∈ ps ∧ .rings ∈ ps ∧
    .seqs ∈ ps ∧ .acq ∈ ps ∧ .track ∈ ps ∧ .radio ∈ ps) : (c.domains m r).hide ps = c.hide ps := by
  simp only [Chip.domains, Chip.hide_endWork, Chip.hide_foutFor, Chip.hide_setLanes, Chip.hide_gbiasFor, Chip.hide_with_seqs, h, and_self]

theorem Chip.hide_decideMode (c : Chip) (req : Nat) (r : Reason) (h : .girth ∈ ps ∧ .modes ∈ ps ∧ .acq ∈ ps ∧ .track ∈ ps ∧ .radio ∈ ps) :
    (c.decideMode req r).1.hide ps = c.hide ps := by
  have hfix : (c.requestFix 0 0 r).1.hide ps = c.hide ps := by simp only [Chip.hide_requestFix, h, and_self]
  simp only [Chip.decideMode]
  split
  · split
    · rfl
    · split
      next c1 hc1 => rw [← hfix, hc1]
      all_goals rfl
  · repeat' split
    all_goals simp only [Chip.hide_wantBurst, Chip.hide_goTo, h, and_self]

theorem Chip.hide_hostResult (c : Chip) (req : Nat) (res : Nat) (h : .modes ∈ ps) : (c.hostResult req res).hide ps = c.hide ps := by
  simp only [Chip.hostResult, Chip.hide_upModes, h]

theorem Chip.hide_hostMode (c0 : Chip) (req : Nat) (h : .girth ∈ ps ∧ .modes ∈ ps ∧ .acq ∈ ps ∧ .track ∈ ps ∧ .radio ∈ ps) :
    (c0.hostMode req).hide ps = c0.hide ps := by
  simp only [Chip.hostMode, Chip.hide_upModes, Chip.hide_hostResult, Chip.hide_decideMode, Chip.hide_ite, h, and_self, ite_self]

theorem Chip.hide_ruleModeRefused (c : Chip) (rule : Nat) (res : Nat) (h : .rings ∈ ps) : (c.ruleModeRefused rule res).hide ps = c.hide ps := by
  simp only [Chip.ruleModeRefused, Chip.hide_post3, Chip.hide_event, h]

theorem Chip.hide_ruleMode (c : Chip) (req : Nat) (rule : Nat) (idx : Nat) (h : .girth ∈ ps ∧ .modes ∈ ps ∧ .rings ∈ ps ∧ .acq ∈ ps ∧ .track ∈ ps ∧
    .radio ∈ ps) : (c.ruleMode req rule idx).hide ps = c.hide ps := by
  simp only [Chip.ruleMode, Chip.hide_ruleModeRefused, Chip.hide_upModes, Chip.hide_decideMode, Chip.hide_ite, h, and_self, ite_self]

theorem Chip.hide_settleQueue (c : Chip) (h : .girth ∈ ps ∧ .modes ∈ ps ∧ .rings ∈ ps ∧ .acq ∈ ps ∧ .track ∈ ps ∧ .radio ∈ ps) :
    c.settleQueue.hide ps = c.hide ps := by
  simp only [Chip.settleQueue]
  repeat' split
  all_goals simp only [Chip.hide_ruleMode, Chip.hide_upModes, Chip.hide_hostResult, Chip.hide_decideMode, h, and_self]

theorem Chip.hide_settle (c : Chip) (h : .girth ∈ ps ∧ .modes ∈ ps ∧ .rings ∈ ps ∧ .acq ∈ ps ∧ .track ∈ ps ∧ .radio ∈ ps) :
    c.settle.hide ps = c.hide ps := by
  simp only [Chip.settle, Chip.hide_settleQueue, Chip.hide_goTo, Chip.hide_ite, h, and_self, ite_self]

theorem Chip.hide_pursue (c : Chip) (h : .girth ∈ ps ∧ .modes ∈ ps) : c.pursue.hide ps = c.hide ps := by
  simp only [Chip.pursue, Chip.hide_goTo, Chip.hide_ite, h, and_self, ite_self]

theorem Chip.hide_settleOver (c : Chip) (h : .girth ∈ ps ∧ .modes ∈ ps ∧ .rings ∈ ps ∧ .acq ∈ ps ∧ .track ∈ ps ∧ .radio ∈ ps) :
    c.settleOver.hide ps = c.hide ps := by
  simp only [Chip.settleOver]
  split <;> simp only [Chip.hide_upModes, Chip.hide_settle, Chip.hide_ite, h, and_self, ite_self]

theorem Chip.hide_enterHold (c : Chip) (thermal : Bool) (h : .girth ∈ ps ∧ .modes ∈ ps) : (c.enterHold thermal).hide ps = c.hide ps := by
  simp only [Chip.enterHold, Chip.hide_upModes, Chip.hide_beginTransition, Chip.hide_ite, h, and_self, ite_self]

theorem Chip.hide_leaveHold (c : Chip) (thermal : Bool) (h : .girth ∈ ps ∧ .modes ∈ ps ∧ .rings ∈ ps ∧ .acq ∈ ps ∧ .track ∈ ps ∧ .radio ∈ ps) :
    (c.leaveHold thermal).hide ps = c.hide ps := by
  simp only [Chip.leaveHold, Chip.hide_upModes, Chip.hide_settle, Chip.hide_goTo, Chip.hide_ite, h, and_self, ite_self]

theorem Chip.hide_postMode (c : Chip) (h : .rings ∈ ps) : c.postMode.hide ps = c.hide ps := by
  simp only [Chip.postMode, Chip.hide_post0, h]

theorem Chip.hide_modePolicyArm (c : Chip) (h : .regs ∈ ps ∧ .run ∈ ps ∧ .girth ∈ ps ∧ .modes ∈ ps ∧ .rings ∈ ps ∧ .acq ∈ ps ∧ .track ∈ ps ∧
    .radio ∈ ps) : c.modePolicyArm.hide ps = c.hide ps := by
  simp only [Chip.modePolicyArm, Chip.hide_applyWords, Chip.hide_armLast, Chip.hide_settle, Chip.hide_ite, h, and_self, ite_self]

theorem Chip.hide_drainOwn (n : Nat) (c : Chip) (h : .rings ∈ ps) : (Chip.drainOwn n c).hide ps = c.hide ps := by
  induction n generalizing c with
  | zero => rfl
  | succ n ih =>
    simp only [Chip.drainOwn]
    split <;> simp only [Chip.hide_ite, ih, Chip.hide_observe, Chip.hide_pushEntry, Chip.hide_upRing, h, ite_self]

theorem Chip.hide_ring0Consume (c : Chip) (h : .girth ∈ ps ∧ .modes ∈ ps ∧ .rings ∈ ps ∧ .acq ∈ ps ∧ .track ∈ ps ∧ .radio ∈ ps) :
    c.ring0Consume.hide ps = c.hide ps := by
  simp only [Chip.ring0Consume, Chip.hide_consume, Chip.hide_ruleMode, Chip.hide_drainOwn, Chip.hide_ite, h, and_self, ite_self]

/-! ### The theft state -/

theorem Chip.hide_theftChange (c : Chip) (rule : Nat) (new : TheftState) (score : Nat) (trigger : Nat) (h : .girth ∈ ps ∧ .modes ∈ ps ∧
    .keeper ∈ ps ∧ .start ∈ ps ∧ .rings ∈ ps ∧ .rules ∈ ps ∧ .acq ∈ ps ∧ .track ∈ ps ∧ .radio ∈ ps) :
    (c.theftChange rule new score trigger).hide ps = c.hide ps := by
  simp only [Chip.theftChange, Chip.hide_draw, Chip.hide_upKeeper, Chip.hide_settle, Chip.hide_pursue, Chip.hide_postSignal, Chip.hide_post3,
    Chip.hide_theftRecord, Chip.hide_ite, h, and_self, ite_self]

theorem Chip.hide_theftRequest (c : Chip) (rule : Nat) (req : Nat) (w : Nat) (trigger : Nat) (h : .girth ∈ ps ∧ .modes ∈ ps ∧ .keeper ∈ ps ∧
    .start ∈ ps ∧ .rings ∈ ps ∧ .rules ∈ ps ∧ .acq ∈ ps ∧ .track ∈ ps ∧ .radio ∈ ps) : (c.theftRequest rule req w trigger).1.hide ps = c.hide ps := by
  simp only [Chip.theftRequest]
  repeat' split
  all_goals simp only [Chip.hide_upKeeper, Chip.hide_theftChange, h, and_self]

theorem Chip.hide_theftEvent (c : Chip) (st : Option Nat) (h : .rings ∈ ps) : (c.theftEvent st).hide ps = c.hide ps := by
  simp only [Chip.theftEvent]
  split <;> simp only [Chip.hide_event, h]

theorem Chip.hide_theftCmd (c : Chip) (req : Nat) (w : Nat) (h : .girth ∈ ps ∧ .modes ∈ ps ∧ .keeper ∈ ps ∧ .start ∈ ps ∧ .rings ∈ ps ∧
    .rules ∈ ps ∧ .acq ∈ ps ∧ .track ∈ ps ∧ .radio ∈ ps) : (c.theftCmd req w).hide ps = c.hide ps := by
  simp only [Chip.theftCmd, Chip.hide_post3, Chip.hide_theftEvent, Chip.hide_theftRequest, Chip.hide_ite, h, and_self, ite_self]

theorem Chip.hide_theftClear (c : Chip) (cmd : List Byte) (h : .regs ∈ ps ∧ .keeper ∈ ps ∧ .start ∈ ps ∧ .rings ∈ ps ∧ .rules ∈ ps) :
    (c.theftClear cmd).hide ps = c.hide ps := by
  simp only [Chip.theftClear, Chip.hide_upKeeper, Chip.hide_post2, Chip.hide_setFld, Chip.hide_draw, Chip.hide_with_rules, Chip.hide_ite, h,
    ite_self]

/-! ### Yard frames -/

theorem Chip.hide_putItem {c d : Chip} {n : Nat} {es : List Entry} (hd : c.putItem n es = some d) (h : .rings ∈ ps) :
    d.hide ps = c.hide ps := by
  simp only [Chip.putItem, Option.ite_none_left_eq_some, Option.some.injEq] at hd
  simp only [← hd.2, Chip.hide_foldl, Chip.hide_produce, h, implies_true]

theorem Chip.hide_yardSend {c d : Chip} {ring src units us limit : Nat} {f : YardFrame} {r : RadioSetting}
    (hd : c.yardSend ring src f r units us limit = some d) (h : .rings ∈ ps) : d.hide ps = c.hide ps := by
  simp only [Chip.yardSend, Option.ite_none_left_eq_some] at hd
  exact Chip.hide_putItem hd.2 h

theorem Chip.hide_getD {o : Option Chip} {c : Chip} (ho : ∀ d, o = some d → d.hide ps = c.hide ps) : (o.getD c).hide ps = c.hide ps := by
  cases o with
  | none => rfl
  | some d => exact ho d rfl

theorem Chip.hide_yardListen (c : Chip) (r : RadioSetting) (units us ms : Nat) (h : .rings ∈ ps) : (c.yardListen r units us ms).hide ps = c.hide ps :=
  Chip.hide_getD fun _ hd => Chip.hide_putItem hd h

/-! ### The yard, sending -/

theorem Chip.hide_yardEvent (c : Chip) (idx : Nat) (num : Nat) (h : .rings ∈ ps) : (c.yardEvent idx num).hide ps = c.hide ps := by
  simp only [Chip.yardEvent, Chip.hide_produce, Chip.hide_event, h]

theorem Chip.hide_reportEvent (c : Chip) (idx : Nat) (h : .rings ∈ ps ∧ .upd ∈ ps) : (c.reportEvent idx).hide ps = c.hide ps := by
  simp only [Chip.reportEvent, Chip.hide_upUpd, Chip.hide_event, h]

theorem Chip.hide_sendReport (c : Chip) (agent : Nat) (tpl : Nat) (rule : Nat) (value : Nat) (h : .rings ∈ ps) :
    (c.sendReport agent tpl rule value).1.hide ps = c.hide ps := by
  simp only [Chip.sendReport]
  repeat' split
  all_goals simp only [Chip.hide_produce, h]

theorem Chip.hide_raiseAlarm (c : Chip) (rule : Nat) (h : .yard ∈ ps) : (c.raiseAlarm rule).hide ps = c.hide ps := by
  simp only [Chip.raiseAlarm, Chip.hide_upYard, h]

theorem Chip.hide_buildReport (c : Chip) (tpl : Nat) (rule : Nat) (value : Nat) (h : .rings ∈ ps ∧ .yard ∈ ps ∧ .upd ∈ ps) :
    (c.buildReport tpl rule value).hide ps = c.hide ps := by
  simp only [Chip.buildReport, Chip.hide_reportEvent, Chip.hide_raiseAlarm, Chip.hide_upYard, Chip.hide_ite, h, and_self, ite_self]

theorem Chip.hide_reportReq (c : Chip) (h : .rings ∈ ps ∧ .yard ∈ ps ∧ .upd ∈ ps) : c.reportReq.hide ps = c.hide ps := by
  simp only [Chip.reportReq]
  split <;> simp only [Chip.hide_consume, Chip.hide_buildReport, Chip.hide_ite, h, and_self, ite_self]

theorem Chip.hide_putOut {c d : Chip} {n : Nat} {es : List Entry} (hd : c.putOut n es = some d) (h : .rings ∈ ps) :
    d.hide ps = c.hide ps := by
  simp only [Chip.putOut, Option.ite_none_left_eq_some, Option.some.injEq] at hd
  simp only [← hd.2, Chip.hide_foldl, Chip.hide_produce, h, implies_true]

theorem Chip.hide_commandFailed (c : Chip) (f : YardFrame) (body : List Byte) (h : .rings ∈ ps) : (c.commandFailed f body).hide ps = c.hide ps := by
  simp only [Chip.commandFailed, Chip.hide_produce, Chip.hide_foldl, h, implies_true]

theorem Chip.hide_heard (c : Chip) (n : Nat) (uid : Option (BitVec 64)) (h : .yard ∈ ps) : (c.heard n uid).hide ps = c.hide ps := by
  simp only [Chip.heard, Chip.hide_upYard, h]

theorem Chip.hide_failCommands (c : Chip) (h : .rings ∈ ps ∧ .yard ∈ ps) : c.failCommands.hide ps = c.hide ps := by
  simp only [Chip.failCommands, Chip.hide_upYard, Chip.hide_commandFailed, Chip.hide_foldl, h, implies_true]

theorem Chip.hide_buckleWindow (c : Chip) (h : .rings ∈ ps) : c.buckleWindow.hide ps = c.hide ps := by
  simp only [Chip.buckleWindow, Chip.hide_yardListen, h]

theorem Chip.hide_buckleRound (c : Chip) (h : .rings ∈ ps ∧ .yard ∈ ps) : c.buckleRound.hide ps = c.hide ps := by
  simp only [Chip.buckleRound]
  repeat' split
  all_goals simp only [Chip.hide_buckleWindow, Chip.hide_upYard, h]

theorem Chip.hide_yardCfgApply (c : Chip) (h : .run ∈ ps ∧ .girth ∈ ps ∧ .yard ∈ ps) : c.yardCfgApply.hide ps = c.hide ps := by
  simp only [Chip.yardCfgApply]
  split <;> simp only [Chip.hide_applyWords, Chip.hide_dropArmed, Chip.hide_upYard, h]

theorem Chip.hide_yardRound (c : Chip) (h : .run ∈ ps ∧ .girth ∈ ps ∧ .rings ∈ ps ∧ .yard ∈ ps) : c.yardRound.hide ps = c.hide ps := by
  simp only [Chip.yardRound, Chip.hide_buckleRound, Chip.hide_failCommands, Chip.hide_upYard, Chip.hide_yardCfgApply, h, and_self]

theorem Chip.hide_miniWait (c : Chip) (h : .yard ∈ ps) : c.miniWait.hide ps = c.hide ps := by
  simp only [Chip.miniWait, Chip.hide_upYard, h]

theorem Chip.hide_miniListen (c : Chip) (h : .rings ∈ ps) : c.miniListen.hide ps = c.hide ps := by
  simp only [Chip.miniListen, Chip.hide_yardListen, Chip.hide_ite, h, ite_self]

theorem Chip.hide_keepSent (c : Chip) (old : YardFrame) (new : YardFrame) (h : .yard ∈ ps) : (c.keepSent old new).hide ps = c.hide ps := by
  simp only [Chip.keepSent, Chip.hide_upYard, Chip.hide_ite, h, ite_self]

theorem Chip.hide_joinSlot (c : Chip) (s : Nat) (h : .start ∈ ps ∧ .rings ∈ ps ∧ .yard ∈ ps) : (c.joinSlot s).hide ps = c.hide ps := by
  unfold Chip.joinSlot
  split
  · rfl
  · split
    · split
      · rfl
      · split
        next => rfl
        next c1 hsend => simp only [Chip.hide_with_start, Chip.hide_upYard, Chip.hide_yardSend hsend, h]
    · simp only [Chip.hide_yardListen, h]
    · rfl

theorem Chip.hide_beaconWindow (c : Chip) (h : .rings ∈ ps ∧ .yard ∈ ps) : c.beaconWindow.hide ps = c.hide ps := by
  simp only [Chip.beaconWindow, Chip.hide_yardListen, Chip.hide_upYard, Chip.hide_ite, h, ite_self]

theorem Chip.hide_yardDrain (c : Chip) (h : .rings ∈ ps) : c.yardDrain.hide ps = c.hide ps := by
  simp only [Chip.yardDrain]
  repeat' split
  all_goals simp only [Chip.hide_consume, Chip.hide_foldl, Chip.hide_ite, h, ite_self, implies_true]

theorem Chip.hide_alarmRetry (c : Chip) (h : .rings ∈ ps ∧ .yard ∈ ps) : c.alarmRetry.hide ps = c.hide ps := by
  simp only [Chip.alarmRetry]
  split <;> simp only [Chip.hide_yardEvent, Chip.hide_upYard, Chip.hide_ite, h, ite_self]

theorem Chip.hide_buckleRetry (c : Chip) (h : .start ∈ ps ∧ .yard ∈ ps) : c.buckleRetry.hide ps = c.hide ps := by
  simp only [Chip.buckleRetry, Chip.hide_upYard, Chip.hide_with_start, Chip.hide_ite, h, ite_self]

/-! ### The yard, receiving -/

theorem Chip.hide_yardAccept (c : Chip) (f : RxYard) (h : .yard ∈ ps) : (c.yardAccept f).hide ps = c.hide ps := by
  simp only [Chip.yardAccept]
  repeat' split
  all_goals simp only [Chip.hide_upYard, h]

theorem Chip.hide_dropHead (c : Chip) (f : RxYard) (h : .rings ∈ ps) : (c.dropHead f).hide ps = c.hide ps := by
  simp only [Chip.dropHead, Chip.hide_consume, h]

theorem Chip.hide_dupHead (c : Chip) (f : RxYard) (h : .rings ∈ ps ∧ .yard ∈ ps) : (c.dupHead f).hide ps = c.hide ps := by
  simp only [Chip.dupHead, Chip.hide_dropHead, Chip.hide_upYard, h]

theorem Chip.hide_queueReply (c : Chip) (body : List Byte) (h : .yard ∈ ps) : (c.queueReply body).hide ps = c.hide ps := by
  simp only [Chip.queueReply, Chip.hide_upYard, h]

theorem Chip.hide_answerCommand (c : Chip) (f : RxYard) (op : Nat) (res : Nat) (data : List Byte) (h : .yard ∈ ps) :
    (c.answerCommand f op res data).hide ps = c.hide ps := by
  simp only [Chip.answerCommand, Chip.hide_queueReply, Chip.hide_upYard, h]

theorem Chip.hide_dupCommand (c : Chip) (f : RxYard) (h : .rings ∈ ps ∧ .yard ∈ ps) : (c.dupCommand f).hide ps = c.hide ps := by
  simp only [Chip.dupCommand]
  split <;> simp only [Chip.hide_dupHead, Chip.hide_queueReply, Chip.hide_ite, h, and_self, ite_self]

theorem Chip.hide_command (c : Chip) (f : RxYard) (body : List Byte) (act : Chip → Nat → List Byte → Chip × Nat × List Byte)
    (hact : ∀ c n bs, (act c n bs).1.hide ps = c.hide ps) (h : .rings ∈ ps ∧ .yard ∈ ps) : (c.command f body act).hide ps = c.hide ps := by
  simp only [Chip.command, Chip.hide_ite, Chip.hide_answerCommand, hact, Chip.hide_dropHead, Chip.hide_yardAccept, h, ite_self]

theorem Chip.hide_sift1 {c d : Chip} (hd : c.sift1 = some d) (h : .rings ∈ ps ∧ .yard ∈ ps) : d.hide ps = c.hide ps := by
  simp only [Chip.sift1] at hd
  repeat' split at hd
  all_goals first
    | exact absurd hd (by simp only [reduceCtorEq, not_false_eq_true])
    | (rw [← Option.some.inj hd]
       simp only [Chip.hide_command, Chip.hide_dupCommand, Chip.hide_upYard, Chip.hide_dropHead, h, and_self, implies_true])

theorem Chip.hide_sift (n : Nat) (c : Chip) (h : .rings ∈ ps ∧ .yard ∈ ps) : (Chip.sift n c).hide ps = c.hide ps := by
  induction n generalizing c with
  | zero => rfl
  | succ n ih =>
    simp only [Chip.sift]
    split
    next c1 hd => rw [ih, Chip.hide_sift1 hd h]
    next => rfl

theorem Chip.hide_yardSift (c : Chip) (h : .rings ∈ ps ∧ .yard ∈ ps) : c.yardSift.hide ps = c.hide ps := by
  simp only [Chip.yardSift, Chip.hide_sift, h, and_self]

theorem Chip.hide_yardRow (c : Chip) (ptype : Nat) (act : Chip → RxYard → List Byte → Bool → Chip)
    (hact : ∀ c f body dup, (act c f body dup).hide ps = c.hide ps) (h : .rings ∈ ps ∧ .yard ∈ ps) : (c.yardRow ptype act).hide ps = c.hide ps := by
  simp only [Chip.yardRow]
  repeat' split
  all_goals simp only [Chip.hide_yardSift, hact, h, and_self]

theorem Chip.hide_takeTime (c : Chip) (off : Int) (h : .keeper ∈ ps ∧ .rings ∈ ps ∧ .rules ∈ ps) : (c.takeTime off).hide ps = c.hide ps := by
  simp only [Chip.takeTime, Chip.hide_yardEvent, Chip.hide_upKeeper, Chip.hide_timeSetRecord, Chip.hide_setTime, Chip.hide_ite, h, and_self, ite_self]

theorem Chip.hide_commandRow (c : Chip) (op : Nat) (act : Chip → Nat → List Byte → Chip × Nat × List Byte)
    (hact : ∀ c n bs, (act c n bs).1.hide ps = c.hide ps) (h : .rings ∈ ps ∧ .yard ∈ ps) : (c.commandRow op act).hide ps = c.hide ps := by
  refine Chip.hide_yardRow c 4 _ (fun c f body dup => ?_) h
  simp only [Chip.hide_ite, Chip.hide_dupCommand, Chip.hide_command _ _ _ _ hact, h, and_self, ite_self]

theorem Chip.hide_doTheftClear (c : Chip) (_arg : Nat) (data : List Byte) (h : .regs ∈ ps ∧ .keeper ∈ ps ∧ .start ∈ ps ∧ .rings ∈ ps ∧
    .rules ∈ ps) : (c.doTheftClear _arg data).1.hide ps = c.hide ps := by
  simp only [Chip.doTheftClear, Chip.hide_theftClear, h, and_self]

theorem Chip.hide_doUpdateData (c : Chip) (_arg : Nat) (data : List Byte) (h : .rings ∈ ps) : (c.doUpdateData _arg data).1.hide ps = c.hide ps := by
  simp only [Chip.doUpdateData]
  repeat' split
  all_goals simp only [Chip.hide_produce, Chip.hide_foldl, h, implies_true]

theorem Chip.hide_doHostEvent (c : Chip) (arg : Nat) (_data : List Byte) (h : .rings ∈ ps) : (c.doHostEvent arg _data).1.hide ps = c.hide ps := by
  simp only [Chip.doHostEvent, Chip.hide_event, h]

theorem Chip.hide_doRequestReport (c : Chip) (arg : Nat) (_data : List Byte) (h : .rings ∈ ps) :
    (c.doRequestReport arg _data).1.hide ps = c.hide ps := by
  simp only [Chip.doRequestReport, Chip.hide_sendReport, h]

theorem Chip.hide_doRebuckle (c : Chip) (_arg : Nat) (_data : List Byte) (h : .yard ∈ ps) : (c.doRebuckle _arg _data).1.hide ps = c.hide ps := by
  simp only [Chip.doRebuckle, Chip.hide_upYard, h]

theorem Chip.hide_relayAlarm (c : Chip) (body : List Byte) (h : .yard ∈ ps) : (c.relayAlarm body).hide ps = c.hide ps := by
  simp only [Chip.relayAlarm, Chip.hide_upYard, Chip.hide_ite, h, ite_self]

theorem Chip.hide_leadAlarm (c : Chip) (f : RxYard) (body : List Byte) (dup : Bool) (h : .rings ∈ ps ∧ .yard ∈ ps) :
    (c.leadAlarm f body dup).hide ps = c.hide ps := by
  simp only [Chip.leadAlarm]
  split
  · simp only [Chip.hide_upYard, Chip.hide_dupHead, h, and_self]
  · split
    next => simp only [Chip.hide_dropHead, h]
    next c1 hput => simp only [Chip.hide_upYard, Chip.hide_dropHead, Chip.hide_yardAccept, Chip.hide_heard, Chip.hide_yardEvent,
      Chip.hide_putOut hput, h]

theorem Chip.hide_alarmRow (c : Chip) (f : RxYard) (body : List Byte) (dup : Bool) (h : .rings ∈ ps ∧ .yard ∈ ps) :
    (c.alarmRow f body dup).hide ps = c.hide ps := by
  simp only [Chip.alarmRow, Chip.hide_leadAlarm, Chip.hide_dupHead, Chip.hide_relayAlarm, Chip.hide_dropHead, Chip.hide_yardAccept, Chip.hide_ite,
    h, and_self, ite_self]

theorem Chip.hide_alarmAckRow (c : Chip) (f : RxYard) (body : List Byte) (dup : Bool) (h : .rings ∈ ps ∧ .yard ∈ ps) :
    (c.alarmAckRow f body dup).hide ps = c.hide ps := by
  simp only [Chip.alarmAckRow, Chip.hide_dropHead, Chip.hide_upYard, Chip.hide_dupHead, Chip.hide_yardAccept, Chip.hide_ite, h, and_self, ite_self]

theorem Chip.hide_ackUnit (c : Chip) (f : RxYard) (h : .yard ∈ ps) : (c.ackUnit f).hide ps = c.hide ps := by
  simp only [Chip.ackUnit, Chip.hide_upYard, Chip.hide_ite, h, ite_self]

theorem Chip.hide_leadAccept (c : Chip) (f : RxYard) (uid : Option (BitVec 64)) (h : .rings ∈ ps ∧ .yard ∈ ps) :
    (c.leadAccept f uid).hide ps = c.hide ps := by
  simp only [Chip.leadAccept, Chip.hide_dropHead, Chip.hide_heard, Chip.hide_ackUnit, Chip.hide_yardAccept, h]

theorem Chip.hide_baselineStep (c : Chip) (n : Nat) (b : Baseline) (h : .rings ∈ ps ∧ .yard ∈ ps) : (c.baselineStep n b).hide ps = c.hide ps := by
  simp only [Chip.baselineStep, Chip.hide_yardEvent, Chip.hide_produce, Chip.hide_upYard, Chip.hide_ite, h, ite_self]

theorem Chip.hide_reportRow (b : Option Baseline) (c : Chip) (f : RxYard) (body : List Byte) (dup : Bool) (h : .rings ∈ ps ∧ .yard ∈ ps) :
    (c.reportRow b f body dup).hide ps = c.hide ps := by
  simp only [Chip.reportRow]
  split
  · simp only [Chip.hide_ackUnit, Chip.hide_dupHead, h, and_self]
  · split
    next => simp only [Chip.hide_dropHead, h]
    next c1 hput => split <;> simp only [Chip.hide_ite, Chip.hide_baselineStep, Chip.hide_leadAccept, Chip.hide_putOut hput, h, and_self, ite_self]

theorem Chip.hide_endCommand (c : Chip) (f : RxYard) (body : List Byte) (h : .rings ∈ ps ∧ .yard ∈ ps) :
    (c.endCommand f body).hide ps = c.hide ps := by
  simp only [Chip.endCommand]
  split <;> simp only [Chip.hide_yardEvent, Chip.hide_produce, Chip.hide_upYard, Chip.hide_foldl, h, implies_true]

theorem Chip.hide_replyRow (c : Chip) (f : RxYard) (body : List Byte) (dup : Bool) (h : .rings ∈ ps ∧ .yard ∈ ps) :
    (c.replyRow f body dup).hide ps = c.hide ps := by
  simp only [Chip.replyRow]
  split
  · simp only [Chip.hide_ackUnit, Chip.hide_dupHead, h, and_self]
  · split
    next => simp only [Chip.hide_dropHead, h]
    next c1 hput => simp only [Chip.hide_leadAccept, Chip.hide_endCommand,
      Chip.hide_putOut hput, h, and_self]

theorem Chip.hide_buckleReqRow (c : Chip) (f : RxYard) (body : List Byte) (_dup : Bool) (h : .rings ∈ ps ∧ .yard ∈ ps) :
    (c.buckleReqRow f body _dup).hide ps = c.hide ps := by
  simp only [Chip.buckleReqRow]
  repeat' split
  all_goals simp only [Chip.hide_dropHead, Chip.hide_upYard, h]

theorem Chip.hide_confirmRow (c : Chip) (f : RxYard) (body : List Byte) (dup : Bool) (h : .rings ∈ ps ∧ .yard ∈ ps) :
    (c.confirmRow f body dup).hide ps = c.hide ps := by
  simp only [Chip.confirmRow, Chip.hide_leadAccept, Chip.hide_dupHead, Chip.hide_ackUnit, Chip.hide_ite, h, and_self, ite_self]

theorem Chip.hide_commandQueued (c : Chip) (h : .rings ∈ ps ∧ .yard ∈ ps) : c.commandQueued.hide ps = c.hide ps := by
  simp only [Chip.commandQueued, Chip.hide_consume, Chip.hide_upYard, Chip.hide_commandFailed, Chip.hide_ite, h, ite_self]

theorem Chip.hide_unbuckle (c : Chip) (h : .rings ∈ ps ∧ .yard ∈ ps) : c.unbuckle.hide ps = c.hide ps := by
  simp only [Chip.unbuckle, Chip.hide_yardEvent, Chip.hide_upYard, Chip.hide_ite, h, ite_self]

theorem Chip.hide_yardCfgArm (c : Chip) (h : .regs ∈ ps ∧ .girth ∈ ps) : c.yardCfgArm.hide ps = c.hide ps := by
  simp only [Chip.yardCfgArm, Chip.hide_holdSet, Chip.hide_armLast, Chip.hide_ite, h, ite_self]

theorem Chip.hide_frameSentYard (c : Chip) (h : .run ∈ ps ∧ .girth ∈ ps ∧ .modes ∈ ps ∧ .rings ∈ ps ∧ .radio ∈ ps ∧ .yard ∈ ps ∧ .upd ∈ ps) :
    c.frameSentYard.hide ps = c.hide ps := by
  simp only [Chip.frameSentYard]
  split <;> simp only [Chip.hide_frameSent, Chip.hide_reportEvent, Chip.hide_upYard, Chip.hide_ite, h, and_self, ite_self]

/-! ### Supplies -/

theorem Chip.hide_fieldProtect (c : Chip) (bit : Nat) (code : Nat) (a0 : Nat) (a1 : Nat) (a2 : Nat) (h : .girth ∈ ps ∧ .rings ∈ ps) :
    (c.fieldProtect bit code a0 a1 a2).hide ps = c.hide ps := by
  simp only [Chip.fieldProtect, Chip.hide_protect, Chip.hide_upGirth, Chip.hide_ite, h, ite_self]

theorem Chip.hide_fieldFault (c : Chip) (code : Nat) (idx : Nat) (a0 : Nat) (a1 : Nat) (a2 : Nat) (h : .regs ∈ ps ∧ .girth ∈ ps ∧ .rings ∈ ps) :
    (c.fieldFault code idx a0 a1 a2).hide ps = c.hide ps := by
  simp only [Chip.fieldFault]
  split <;> simp only [Chip.hide_setBits, Chip.hide_fieldProtect, Chip.hide_ite, h, and_self, ite_self]

theorem Chip.hide_sendHeld (c : Chip) (afterStart : Bool) (h : .girth ∈ ps ∧ .rings ∈ ps) : (c.sendHeld afterStart).hide ps = c.hide ps := by
  simp only [Chip.sendHeld, Chip.hide_protect, Chip.hide_upGirth, Chip.hide_foldl, Chip.hide_ite, h, ite_self, implies_true]

theorem Chip.hide_chargeEval (c : Chip) (h : .power ∈ ps) : c.chargeEval.hide ps = c.hide ps := by
  simp only [Chip.chargeEval, Chip.hide_upPower, h]

theorem Chip.hide_chgApply (c : Chip) (ws : List (Nat × Word)) (h : .run ∈ ps ∧ .power ∈ ps) : (c.chgApply ws).hide ps = c.hide ps := by
  simp only [Chip.chgApply, Chip.hide_applyWords, Chip.hide_chargeEval, Chip.hide_upPower, h]

theorem Chip.hide_foutApply (c : Chip) (ws : List (Nat × Word)) (h : .run ∈ ps ∧ .power ∈ ps) : (c.foutApply ws).hide ps = c.hide ps := by
  simp only [Chip.foutApply, Chip.hide_applyWords, Chip.hide_foutFor, Chip.hide_upPower, h]

theorem Chip.hide_setFout (c : Chip) (n : Nat) (v : Nat) (h : .regs ∈ ps ∧ .run ∈ ps ∧ .power ∈ ps) : (c.setFout n v).hide ps = c.hide ps := by
  simp only [Chip.setFout, Chip.hide_setFld, Chip.hide_foutFor, Chip.hide_setRun, h]

theorem Chip.hide_foutCut (c : Chip) (code : Nat) (n : Nat) (h : .regs ∈ ps ∧ .girth ∈ ps ∧ .power ∈ ps ∧ .rings ∈ ps) :
    (c.foutCut code n).hide ps = c.hide ps := by
  simp only [Chip.foutCut, Chip.hide_fieldFault, Chip.hide_upPower, Chip.hide_ite, h, and_self, ite_self]

theorem Chip.hide_gbiasApply (c : Chip) (ws : List (Nat × Word)) (h : .run ∈ ps ∧ .power ∈ ps) : (c.gbiasApply ws).hide ps = c.hide ps := by
  simp only [Chip.gbiasApply, Chip.hide_applyWords, Chip.hide_upPower, h]

theorem Chip.hide_remoteArm (c : Chip) (l arm res : Nat) (ws : List (Nat × Word)) (apply : Chip → List (Nat × Word) → Chip)
    (happly : ∀ c ws, (apply c ws).hide ps = c.hide ps) (h : .regs ∈ ps ∧ .girth ∈ ps) : (c.remoteArm l arm res ws apply).hide ps = c.hide ps := by
  simp only [Chip.remoteArm, Chip.hide_ite, happly, Chip.hide_dropArmed, Chip.hide_holdSet, Chip.hide_armLast, h, ite_self]

theorem Chip.hide_fldChgArm (c : Chip) (h : .regs ∈ ps ∧ .run ∈ ps ∧ .girth ∈ ps ∧ .power ∈ ps) : c.fldChgArm.hide ps = c.hide ps := by
  simp only [Chip.fldChgArm, Chip.hide_remoteArm, Chip.hide_chgApply, h, and_self, implies_true]

theorem Chip.hide_fldFoutArm (c : Chip) (h : .regs ∈ ps ∧ .run ∈ ps ∧ .girth ∈ ps ∧ .power ∈ ps) : c.fldFoutArm.hide ps = c.hide ps := by
  simp only [Chip.fldFoutArm, Chip.hide_remoteArm, Chip.hide_foutApply, h, and_self, implies_true]

theorem Chip.hide_fldGbiasArm (c : Chip) (h : .regs ∈ ps ∧ .run ∈ ps ∧ .girth ∈ ps ∧ .power ∈ ps) : c.fldGbiasArm.hide ps = c.hide ps := by
  simp only [Chip.fldGbiasArm, Chip.hide_remoteArm, Chip.hide_gbiasApply, h, and_self, implies_true]

theorem Chip.hide_supplyCheck (c : Chip) (h : .power ∈ ps) : c.supplyCheck.hide ps = c.hide ps := by
  simp only [Chip.supplyCheck, Chip.hide_upPower, Chip.hide_ite, h, ite_self]

theorem Chip.hide_endBatHold (c : Chip) (h : .girth ∈ ps ∧ .modes ∈ ps ∧ .rings ∈ ps ∧ .acq ∈ ps ∧ .track ∈ ps ∧ .radio ∈ ps) :
    c.endBatHold.hide ps = c.hide ps := by
  simp only [Chip.endBatHold, Chip.hide_leaveHold, Chip.hide_ite, h, and_self, ite_self]

theorem Chip.hide_fvinSettle (c : Chip) (h : .girth ∈ ps ∧ .modes ∈ ps ∧ .rings ∈ ps ∧ .acq ∈ ps ∧ .track ∈ ps ∧ .radio ∈ ps) :
    c.fvinSettle.hide ps = c.hide ps := by
  simp only [Chip.fvinSettle, Chip.hide_settleOver, Chip.hide_ite, h, and_self, ite_self]

theorem Chip.hide_fvinTake (c : Chip) (h : .girth ∈ ps ∧ .power ∈ ps ∧ .modes ∈ ps ∧ .rings ∈ ps ∧ .rules ∈ ps ∧ .acq ∈ ps ∧ .track ∈ ps ∧
    .radio ∈ ps) : c.fvinTake.hide ps = c.hide ps := by
  simp only [Chip.fvinTake, Chip.hide_chargeEval, Chip.hide_fvinSettle, Chip.hide_endBatHold, Chip.hide_upPower, Chip.hide_postSignal,
    Chip.hide_ite, h, and_self, ite_self]

theorem Chip.hide_fvinDrop (c : Chip) (h : .girth ∈ ps ∧ .power ∈ ps ∧ .modes ∈ ps ∧ .rings ∈ ps ∧ .rules ∈ ps ∧ .acq ∈ ps ∧ .track ∈ ps ∧
    .radio ∈ ps) : c.fvinDrop.hide ps = c.hide ps := by
  simp only [Chip.fvinDrop, Chip.hide_chargeEval, Chip.hide_fvinSettle, Chip.hide_upPower, Chip.hide_supplyCheck, Chip.hide_postSignal,
    Chip.hide_ite, h, and_self, ite_self]

theorem Chip.hide_cellCut (c : Chip) (vbat : Int) (fvin : Int) (h : .regs ∈ ps ∧ .girth ∈ ps ∧ .power ∈ ps ∧ .rings ∈ ps ∧ .rules ∈ ps) :
    (c.cellCut vbat fvin).hide ps = c.hide ps := by
  simp only [Chip.cellCut, Chip.hide_fieldFault, Chip.hide_upPower, Chip.hide_supplyCheck, Chip.hide_postSignal, Chip.hide_ite, h, and_self, ite_self]

theorem Chip.hide_cellReconnect (c : Chip) (h : .power ∈ ps ∧ .rings ∈ ps ∧ .rules ∈ ps) : c.cellReconnect.hide ps = c.hide ps := by
  simp only [Chip.cellReconnect, Chip.hide_chargeEval, Chip.hide_upPower, Chip.hide_postSignal, Chip.hide_ite, h, and_self, ite_self]

theorem Chip.hide_batHold (c : Chip) (vbat : Int) (fvin : Int) (h : .regs ∈ ps ∧ .girth ∈ ps ∧ .power ∈ ps ∧ .modes ∈ ps ∧ .rings ∈ ps ∧
    .radio ∈ ps) : (c.batHold vbat fvin).hide ps = c.hide ps := by
  simp only [Chip.batHold, Chip.hide_fieldFault, Chip.hide_abortRadio, Chip.hide_upPower, Chip.hide_enterHold, Chip.hide_ite, h, and_self, ite_self]

/-! ### Sequencers -/

theorem Chip.hide_upSeq (c : Chip) (m : Nat) (f : Sequencer → Sequencer) (h : .seqs ∈ ps) : (c.upSeq m f).hide ps = c.hide ps := by
  simp only [Chip.upSeq, Chip.hide_with_seqs, h]

theorem Chip.hide_unitArm (c : Chip) (l arm : Nat) (rf : Option (Nat × Nat × Nat)) (res : Nat) (ws : List (Nat × Word)) (ready : Bool)
    (apply : Chip → List (Nat × Word) → Chip) (happly : ∀ c ws, (apply c ws).hide ps = c.hide ps) (h : .regs ∈ ps ∧ .girth ∈ ps) :
    (c.unitArm l arm rf res ws ready apply).hide ps = c.hide ps := by
  simp only [Chip.unitArm]
  repeat' split
  all_goals simp only [happly, Chip.hide_dropArmed, Chip.hide_holdSet, Chip.hide_setFld, Chip.hide_armLast, h]

/-! ### Excitation and monitor -/

theorem Chip.hide_upExc (c : Chip) (ch : Nat) (f : ExcChannel → ExcChannel) (h : .exc ∈ ps) : (c.upExc ch f).hide ps = c.hide ps := by
  simp only [Chip.upExc, Chip.hide_with_exc, h]

theorem Chip.hide_excUpdate (c : Chip) (ch : Nat) (h : .exc ∈ ps) : (c.excUpdate ch).hide ps = c.hide ps := by
  simp only [Chip.excUpdate, Chip.hide_upExc, Chip.hide_ite, h, ite_self]

theorem Chip.hide_excAll (c : Chip) (h : .exc ∈ ps) : c.excAll.hide ps = c.hide ps := by
  simp only [Chip.excAll, Chip.hide_excUpdate, Chip.hide_foldl, h, implies_true]

theorem Chip.hide_burnishRecord (c : Chip) (agent : Nat) (phase : Nat) (reason : Nat) (seq : Nat) (temp : Int) (h : .rings ∈ ps) :
    (c.burnishRecord agent phase reason seq temp).hide ps = c.hide ps := by
  simp only [Chip.burnishRecord, Chip.hide_journal, h]

theorem Chip.hide_burnishBegin (c : Chip) (h : .rings ∈ ps ∧ .chains ∈ ps ∧ .burnish ∈ ps) : c.burnishBegin.hide ps = c.hide ps := by
  simp only [Chip.burnishBegin, Chip.hide_upBurnish, Chip.hide_burnishRecord, Chip.hide_with_chains, Chip.hide_ite, h, ite_self]

theorem Chip.hide_frontSettle (c : Chip) (h : .rings ∈ ps ∧ .chains ∈ ps ∧ .burnish ∈ ps ∧ .exc ∈ ps) : c.frontSettle.hide ps = c.hide ps := by
  simp only [Chip.frontSettle, Chip.hide_excAll, Chip.hide_burnishBegin, h, and_self]

theorem Chip.hide_excWrite (c : Chip) (ch : Nat) (code : Nat) (h : .regs ∈ ps ∧ .exc ∈ ps) : (c.excWrite ch code).hide ps = c.hide ps := by
  simp only [Chip.excWrite, Chip.hide_setReg, Chip.hide_excUpdate, h]

theorem Chip.hide_excApply (ch : Nat) (c : Chip) (ws : List (Nat × Word)) (h : .regs ∈ ps ∧ .run ∈ ps ∧ .exc ∈ ps) :
    (Chip.excApply ch c ws).hide ps = c.hide ps := by
  simp only [Chip.excApply, Chip.hide_upExc, Chip.hide_setReg, Chip.hide_applyWords, Chip.hide_excUpdate, Chip.hide_ite, h, ite_self]

theorem Chip.hide_excCfgArm (c : Chip) (k : Nat) (h : .regs ∈ ps ∧ .run ∈ ps ∧ .girth ∈ ps ∧ .exc ∈ ps) : (c.excCfgArm k).hide ps = c.hide ps := by
  simp only [Chip.excCfgArm, Chip.hide_unitArm, Chip.hide_excApply, h, and_self, implies_true]

theorem Chip.hide_deglitchEnd (c : Chip) (ch : Nat) (h : .regs ∈ ps ∧ .run ∈ ps ∧ .girth ∈ ps ∧ .exc ∈ ps) :
    (c.deglitchEnd ch).hide ps = c.hide ps := by
  simp only [Chip.deglitchEnd]
  repeat' split
  all_goals simp only [Chip.hide_excApply, Chip.hide_dropArmed, Chip.hide_upExc, h, and_self]

theorem Chip.hide_excFault (c : Chip) (ch : Nat) (kind : Nat) (mv : Nat) (h : .regs ∈ ps ∧ .rings ∈ ps) :
    (c.excFault ch kind mv).hide ps = c.hide ps := by
  simp only [Chip.excFault, Chip.hide_protect, Chip.hide_setBits, Chip.hide_ite, h, ite_self]

theorem Chip.hide_excCut (c : Chip) (ch : Nat) (mv : Nat) (h : .regs ∈ ps ∧ .rings ∈ ps ∧ .exc ∈ ps) : (c.excCut ch mv).hide ps = c.hide ps := by
  simp only [Chip.excCut, Chip.hide_upExc, Chip.hide_excFault, Chip.hide_ite, h, and_self, ite_self]

theorem Chip.hide_monInput (codes : List Nat) (mvs : List Nat) (excluded : Nat) (c : Chip) (i : Nat) (h : .regs ∈ ps ∧ .rings ∈ ps ∧ .mon ∈ ps) :
    (Chip.monInput codes mvs excluded c i).hide ps = c.hide ps := by
  simp only [Chip.monInput]
  repeat' split
  all_goals simp only [Chip.hide_protect, Chip.hide_setBits, Chip.hide_setReg, Chip.hide_excFault, Chip.hide_upMon, h, and_self]

theorem Chip.hide_monScan (c : Chip) (codes : List Nat) (mvs : List Nat) (excluded : Nat) (h : .regs ∈ ps ∧ .power ∈ ps ∧ .rings ∈ ps ∧
    .rules ∈ ps ∧ .mon ∈ ps) : (c.monScan codes mvs excluded).hide ps = c.hide ps := by
  simp only [Chip.monScan, Chip.hide_monInput, Chip.hide_upPower, Chip.hide_setSignal, Chip.hide_foldl, Chip.hide_ite, h, and_self, ite_self,
    implies_true]

theorem Chip.hide_monCtlArm (c : Chip) (h : .regs ∈ ps ∧ .run ∈ ps ∧ .girth ∈ ps) : c.monCtlArm.hide ps = c.hide ps := by
  simp only [Chip.monCtlArm, Chip.hide_unitArm, Chip.hide_applyWords, h, and_self, implies_true]

theorem Chip.hide_awlCtlArm (c : Chip) (h : .regs ∈ ps ∧ .run ∈ ps ∧ .girth ∈ ps) : c.awlCtlArm.hide ps = c.hide ps := by
  simp only [Chip.awlCtlArm, Chip.hide_unitArm, Chip.hide_applyWords, h, and_self, implies_true]

theorem Chip.hide_fldPinArm (c : Chip) (h : .regs ∈ ps ∧ .run ∈ ps ∧ .girth ∈ ps) : c.fldPinArm.hide ps = c.hide ps := by
  simp only [Chip.fldPinArm, Chip.hide_unitArm, Chip.hide_applyWords, h, and_self, implies_true]

/-! ### The front end -/

theorem Chip.hide_upChain (c : Chip) (m : Nat) (f : Chain → Chain) (h : .chains ∈ ps) : (c.upChain m f).hide ps = c.hide ps := by
  simp only [Chip.upChain, Chip.hide_with_chains, h]

theorem Chip.hide_flushEntry (c : Chip) (m : Nat) (h : .rings ∈ ps ∧ .seqs ∈ ps) : (c.flushEntry m).hide ps = c.hide ps := by
  simp only [Chip.flushEntry, Chip.hide_produce, Chip.hide_upSeq, Chip.hide_ite, h, ite_self]

theorem Chip.hide_deliver (c : Chip) (m : Nat) (w : Word) (h : .rings ∈ ps ∧ .seqs ∈ ps) : (c.deliver m w).hide ps = c.hide ps := by
  simp only [Chip.deliver, Chip.hide_flushEntry, Chip.hide_upSeq, Chip.hide_ite, h, and_self, ite_self]

theorem Chip.hide_stealEntry (c : Chip) (m : Nat) (h : .rings ∈ ps ∧ .seqs ∈ ps) : (c.stealEntry m).hide ps = c.hide ps := by
  simp only [Chip.stealEntry, Chip.hide_produce, Chip.hide_upSeq, h]

theorem Chip.hide_swapBank (c : Chip) (m : Nat) (h : .seqs ∈ ps ∧ .chains ∈ ps) : (c.swapBank m).hide ps = c.hide ps := by
  simp only [Chip.swapBank, Chip.hide_upSeq, Chip.hide_upChain, h]

theorem Chip.hide_requestSwap (c : Chip) (m : Nat) (h : .seqs ∈ ps ∧ .chains ∈ ps) : (c.requestSwap m).hide ps = c.hide ps := by
  simp only [Chip.requestSwap, Chip.hide_upChain, Chip.hide_swapBank, Chip.hide_ite, h, and_self, ite_self]

theorem Chip.hide_runSlot (c : Chip) (m : Nat) (h : .run ∈ ps ∧ .girth ∈ ps ∧ .seqs ∈ ps) : (c.runSlot m).hide ps = c.hide ps := by
  simp only [Chip.runSlot]
  split <;> simp only [Chip.hide_applyWords, Chip.hide_dropArmed, Chip.hide_upSeq, Chip.hide_ite, h, ite_self]

theorem Chip.hide_closeSeq (c : Chip) (m : Nat) (h : .run ∈ ps ∧ .seqs ∈ ps) : (c.closeSeq m).hide ps = c.hide ps := by
  simp only [Chip.closeSeq, Chip.hide_setRun, Chip.hide_upSeq, h]

theorem Chip.hide_openSeq (c : Chip) (m : Nat) (first : Nat) (h : .run ∈ ps ∧ .seqs ∈ ps) : (c.openSeq m first).hide ps = c.hide ps := by
  simp only [Chip.openSeq, Chip.hide_setRun, Chip.hide_upSeq, h]

theorem Chip.hide_regain (c : Chip) (m : Nat) (h : .burnish ∈ ps) : (c.regain m).hide ps = c.hide ps := by
  simp only [Chip.regain, Chip.hide_upBurnish, Chip.hide_ite, h, ite_self]

theorem Chip.hide_seqApply (m : Nat) (c : Chip) (ws : List (Nat × Word)) (h : .run ∈ ps ∧ .seqs ∈ ps ∧ .burnish ∈ ps) :
    (Chip.seqApply m c ws).hide ps = c.hide ps := by
  simp only [Chip.seqApply, Chip.hide_regain, Chip.hide_openSeq, Chip.hide_applyWords, Chip.hide_closeSeq, Chip.hide_upSeq, Chip.hide_ite, h,
    and_self, ite_self]

theorem Chip.hide_seqWaited (c : Chip) (m : Nat) (h : .run ∈ ps ∧ .girth ∈ ps ∧ .seqs ∈ ps ∧ .burnish ∈ ps) :
    (c.seqWaited m).hide ps = c.hide ps := by
  simp only [Chip.seqWaited]
  split <;> simp only [Chip.hide_dropArmed, Chip.hide_seqApply, Chip.hide_ite, h, and_self, ite_self]

theorem Chip.hide_newRound (c : Chip) (m : Nat) (h : .seqs ∈ ps) : (c.newRound m).hide ps = c.hide ps := by
  simp only [Chip.newRound, Chip.hide_upSeq, h]

theorem Chip.hide_endRound (c : Chip) (m : Nat) (close : Bool) (h : .run ∈ ps ∧ .girth ∈ ps ∧ .seqs ∈ ps ∧ .burnish ∈ ps) :
    (c.endRound m close).1.hide ps = c.hide ps := by
  simp only [Chip.endRound]
  repeat' split
  all_goals simp only [Chip.hide_seqWaited, Chip.hide_newRound, Chip.hide_closeSeq, Chip.hide_upSeq, h, and_self]

theorem Chip.hide_leaveSlot (c : Chip) (m : Nat) (h : .run ∈ ps ∧ .girth ∈ ps ∧ .seqs ∈ ps ∧ .burnish ∈ ps) :
    (c.leaveSlot m).1.hide ps = c.hide ps := by
  simp only [Chip.leaveSlot]
  split <;> simp only [Chip.hide_upSeq, Chip.hide_endRound, h, and_self]

theorem Chip.hide_enterSlot (n : Nat) (c : Chip) (m : Nat) (h : .run ∈ ps ∧ .girth ∈ ps ∧ .seqs ∈ ps ∧ .burnish ∈ ps) :
    (Chip.enterSlot n c m).hide ps = c.hide ps := by
  induction n generalizing c with
  | zero => simp only [Chip.enterSlot, Chip.hide_upSeq, h]
  | succ n ih =>
    simp only [Chip.enterSlot]
    repeat' split
    all_goals simp only [ih, Chip.hide_leaveSlot, Chip.hide_runSlot, Chip.hide_upSeq, h, and_self]

theorem Chip.hide_goOn (c : Chip) (m : Nat) (h : .run ∈ ps ∧ .girth ∈ ps ∧ .rings ∈ ps ∧ .seqs ∈ ps ∧ .chains ∈ ps ∧ .burnish ∈ ps ∧ .exc ∈ ps) :
    (c.goOn m).hide ps = c.hide ps := by
  simp only [Chip.goOn]
  split <;> simp only [Chip.hide_leaveSlot, Chip.hide_frontSettle, Chip.hide_enterSlot, h, and_self]

theorem Chip.hide_beginRound (c : Chip) (m : Nat) (h : .run ∈ ps ∧ .girth ∈ ps ∧ .rings ∈ ps ∧ .seqs ∈ ps ∧ .chains ∈ ps ∧ .burnish ∈ ps ∧
    .exc ∈ ps) : (c.beginRound m).hide ps = c.hide ps := by
  simp only [Chip.beginRound, Chip.hide_frontSettle, Chip.hide_newRound, Chip.hide_enterSlot, h, and_self]

theorem Chip.hide_startSeq (c : Chip) (m : Nat) (h : .run ∈ ps ∧ .girth ∈ ps ∧ .rings ∈ ps ∧ .seqs ∈ ps ∧ .chains ∈ ps ∧ .burnish ∈ ps ∧
    .exc ∈ ps) : (c.startSeq m).hide ps = c.hide ps := by
  simp only [Chip.startSeq, Chip.hide_beginRound, Chip.hide_frontSettle, Chip.hide_ite, h, and_self, ite_self]

theorem Chip.hide_roundStart (c : Chip) (m : Nat) (h : .run ∈ ps ∧ .girth ∈ ps ∧ .rings ∈ ps ∧ .seqs ∈ ps ∧ .chains ∈ ps ∧ .burnish ∈ ps ∧
    .exc ∈ ps) : (c.roundStart m).hide ps = c.hide ps := by
  simp only [Chip.roundStart, Chip.hide_beginRound, Chip.hide_upSeq, Chip.hide_ite, h, and_self, ite_self]

theorem Chip.hide_seqArm (c : Chip) (m : Nat) (h : .regs ∈ ps ∧ .run ∈ ps ∧ .girth ∈ ps ∧ .rings ∈ ps ∧ .seqs ∈ ps ∧ .chains ∈ ps ∧ .burnish ∈ ps ∧
    .exc ∈ ps) : (c.seqArm m).hide ps = c.hide ps := by
  simp only [Chip.seqArm, Chip.hide_startSeq, Chip.hide_unitArm, Chip.hide_seqApply, h, and_self, implies_true]

theorem Chip.hide_seqOpen (c : Chip) (m : Nat) (first : Nat) (h : .regs ∈ ps ∧ .run ∈ ps ∧ .girth ∈ ps ∧ .rings ∈ ps ∧ .seqs ∈ ps ∧ .chains ∈ ps ∧
    .burnish ∈ ps ∧ .exc ∈ ps) : (c.seqOpen m first).hide ps = c.hide ps := by
  simp only [Chip.seqOpen, Chip.hide_startSeq, Chip.hide_setRun, Chip.hide_setFld, Chip.hide_openSeq, Chip.hide_upSeq, Chip.hide_ite, h, and_self,
    ite_self]

theorem Chip.hide_seqClose (c : Chip) (m : Nat) (h : .regs ∈ ps ∧ .run ∈ ps ∧ .girth ∈ ps ∧ .rings ∈ ps ∧ .seqs ∈ ps ∧ .chains ∈ ps ∧
    .burnish ∈ ps ∧ .exc ∈ ps) : (c.seqClose m).hide ps = c.hide ps := by
  simp only [Chip.seqClose, Chip.hide_seqWaited, Chip.hide_startSeq, Chip.hide_setRun, Chip.hide_setFld, Chip.hide_closeSeq, Chip.hide_upSeq,
    Chip.hide_ite, h, and_self, ite_self]

theorem Chip.hide_finApply (c : Chip) (ws : List (Nat × Word)) (h : .run ∈ ps ∧ .girth ∈ ps) : (c.finApply ws).hide ps = c.hide ps := by
  simp only [Chip.finApply, Chip.hide_holdSet, Chip.hide_dropArmed, Chip.hide_applyWords, Chip.hide_ite, h, ite_self]

theorem Chip.hide_finWaited (c : Chip) (h : .run ∈ ps ∧ .girth ∈ ps) : c.finWaited.hide ps = c.hide ps := by
  simp only [Chip.finWaited]
  split <;> simp only [Chip.hide_finApply, Chip.hide_ite, h, and_self, ite_self]

theorem Chip.hide_finCfgArm (c : Chip) (h : .regs ∈ ps ∧ .run ∈ ps ∧ .girth ∈ ps) : c.finCfgArm.hide ps = c.hide ps := by
  simp only [Chip.finCfgArm, Chip.hide_unitArm, Chip.hide_finApply, h, and_self, implies_true]

theorem Chip.hide_finSample (c : Chip) (i : Nat) (mv : Int) (h : .regs ∈ ps ∧ .rings ∈ ps ∧ .rules ∈ ps ∧ .fin ∈ ps) :
    (c.finSample i mv).hide ps = c.hide ps := by
  simp only [Chip.finSample, Chip.hide_setBits, Chip.hide_event, Chip.hide_upFin, Chip.hide_setSignal, Chip.hide_ite, h, and_self, ite_self]

theorem Chip.hide_fignSample (c : Chip) (mv : Int) (h : .regs ∈ ps ∧ .keeper ∈ ps ∧ .rings ∈ ps ∧ .rules ∈ ps ∧ .fin ∈ ps) :
    (c.fignSample mv).hide ps = c.hide ps := by
  simp only [Chip.fignSample, Chip.hide_keeperEvent, Chip.hide_setBits, Chip.hide_upFin, Chip.hide_setSignal, Chip.hide_ite, h, and_self, ite_self]

theorem Chip.hide_finMismatch (c : Chip) (w : Word) (code : Int) (h : .regs ∈ ps ∧ .girth ∈ ps ∧ .rings ∈ ps) :
    (c.finMismatch w code).hide ps = c.hide ps := by
  simp only [Chip.finMismatch, Chip.hide_fieldFault, Chip.hide_ite, h, and_self, ite_self]

theorem Chip.hide_watchStep (m : Nat) (slot : Nat) (code : Int) (c : Chip) (i : Nat) (h : .rings ∈ ps ∧ .rules ∈ ps) :
    (Chip.watchStep m slot code c i).hide ps = c.hide ps := by
  simp only [Chip.watchStep, Chip.hide_upRules, Chip.hide_postSignal, Chip.hide_ite, h, and_self, ite_self]

theorem Chip.hide_takeSample (c : Chip) (m : Nat) (x : Int) (sat : Bool) (h : .regs ∈ ps ∧ .run ∈ ps ∧ .girth ∈ ps ∧ .rings ∈ ps ∧ .rules ∈ ps ∧
    .seqs ∈ ps ∧ .chains ∈ ps ∧ .burnish ∈ ps ∧ .exc ∈ ps) : (c.takeSample m x sat).hide ps = c.hide ps := by
  simp only [Chip.takeSample, Chip.hide_setBits, Chip.hide_finWaited, Chip.hide_goOn, Chip.hide_flushEntry, Chip.hide_upSeq, Chip.hide_watchStep,
    Chip.hide_finMismatch, Chip.hide_deliver, Chip.hide_foldl, Chip.hide_ite, h, and_self, ite_self, implies_true]

theorem Chip.hide_atBoundary (c : Chip) (m : Nat) (h : .run ∈ ps ∧ .girth ∈ ps ∧ .rings ∈ ps ∧ .seqs ∈ ps ∧ .chains ∈ ps ∧ .burnish ∈ ps ∧
    .exc ∈ ps) : (c.atBoundary m).hide ps = c.hide ps := by
  simp only [Chip.atBoundary]
  repeat' split
  all_goals simp only [Chip.hide_seqWaited, Chip.hide_startSeq, Chip.hide_openSeq, Chip.hide_finWaited, Chip.hide_swapBank, Chip.hide_flushEntry,
    Chip.hide_closeSeq, Chip.hide_upSeq, h, and_self]

theorem Chip.hide_chainSample (c : Chip) (m : Nat) (x : Int) (sat : Bool) (h : .regs ∈ ps ∧ .run ∈ ps ∧ .girth ∈ ps ∧ .rings ∈ ps ∧ .rules ∈ ps ∧
    .seqs ∈ ps ∧ .chains ∈ ps ∧ .burnish ∈ ps ∧ .exc ∈ ps) : (c.chainSample m x sat).hide ps = c.hide ps := by
  simp only [Chip.chainSample, Chip.hide_frontSettle, Chip.hide_enterSlot, Chip.hide_atBoundary, Chip.hide_takeSample, Chip.hide_ite, h, and_self,
    ite_self]

theorem Chip.hide_fastValue (c : Chip) (m : Nat) (x : Int) (h : .rings ∈ ps ∧ .seqs ∈ ps) : (c.fastValue m x).hide ps = c.hide ps := by
  simp only [Chip.fastValue]
  split <;> simp only [Chip.hide_produce, Chip.hide_upSeq, h]

theorem Chip.hide_overload (c : Chip) (m : Nat) (h : .regs ∈ ps ∧ .rings ∈ ps ∧ .seqs ∈ ps) : (c.overload m).hide ps = c.hide ps := by
  simp only [Chip.overload]
  split <;> simp only [Chip.hide_setBits, Chip.hide_setFld, Chip.hide_upSeq, Chip.hide_post0, h]

theorem Chip.hide_awlEnd (c : Chip) (m : Nat) (v0 : Int) (v1 : Int) (v2 : Int) (h : .regs ∈ ps ∧ .rings ∈ ps ∧ .seqs ∈ ps) :
    (c.awlEnd m v0 v1 v2).hide ps = c.hide ps := by
  simp only [Chip.awlEnd]
  split <;> simp only [Chip.hide_protect, Chip.hide_setBits, Chip.hide_setReg, Chip.hide_setFld, Chip.hide_upSeq, Chip.hide_ite, h,
    ite_self]

theorem Chip.hide_listenDue (c : Chip) (h : .seqs ∈ ps) : c.listenDue.hide ps = c.hide ps := by
  simp only [Chip.listenDue, Chip.hide_upSeq, Chip.hide_ite, h, ite_self]

theorem Chip.hide_setConf (c : Chip) (l : Nat) (h : .rings ∈ ps ∧ .rules ∈ ps ∧ .runSig ∈ ps) : (c.setConf l).hide ps = c.hide ps := by
  simp only [Chip.setConf, Chip.hide_upRunSig, Chip.hide_setSignal, Chip.hide_event, Chip.hide_foldl, Chip.hide_ite, h, and_self, ite_self,
    implies_true]

theorem Chip.hide_classify (c : Chip) (freq : Nat) (amp : Nat) (vib : Nat) (h : .rings ∈ ps ∧ .rules ∈ ps ∧ .runSig ∈ ps) :
    (c.classify freq amp vib).hide ps = c.hide ps := by
  simp only [Chip.classify, Chip.hide_upRunSig, Chip.hide_setConf, Chip.hide_ite, h, and_self, ite_self]

theorem Chip.hide_runApply (c : Chip) (ws : List (Nat × Word)) (h : .run ∈ ps ∧ .rings ∈ ps ∧ .rules ∈ ps ∧ .runSig ∈ ps) :
    (c.runApply ws).hide ps = c.hide ps := by
  simp only [Chip.runApply, Chip.hide_upRunSig, Chip.hide_applyWords, Chip.hide_setConf, h, and_self]

theorem Chip.hide_windowDone (c : Chip) (freq : Nat) (amp : Nat) (vib : Nat) (h : .run ∈ ps ∧ .girth ∈ ps ∧ .rings ∈ ps ∧ .rules ∈ ps ∧
    .seqs ∈ ps ∧ .runSig ∈ ps ∧ .chains ∈ ps ∧ .burnish ∈ ps ∧ .exc ∈ ps) : (c.windowDone freq amp vib).hide ps = c.hide ps := by
  simp only [Chip.windowDone]
  repeat' split
  all_goals simp only [Chip.hide_enterSlot, Chip.hide_runApply, Chip.hide_dropArmed, Chip.hide_classify, Chip.hide_upSeq, Chip.hide_frontSettle,
    h, and_self]

theorem Chip.hide_runCfgArm (c : Chip) (h : .regs ∈ ps ∧ .run ∈ ps ∧ .girth ∈ ps ∧ .rings ∈ ps ∧ .rules ∈ ps ∧ .runSig ∈ ps) :
    c.runCfgArm.hide ps = c.hide ps := by
  simp only [Chip.runCfgArm, Chip.hide_unitArm, Chip.hide_runApply, h, and_self, implies_true]

theorem Chip.hide_fltCtlArm (c : Chip) (m : Nat) (h : .regs ∈ ps ∧ .run ∈ ps ∧ .girth ∈ ps) : (c.fltCtlArm m).hide ps = c.hide ps := by
  simp only [Chip.fltCtlArm, Chip.hide_unitArm, Chip.hide_applyWords, h, and_self, implies_true]

theorem Chip.hide_fltSwap (c : Chip) (mask : Nat) (h : .regs ∈ ps ∧ .seqs ∈ ps ∧ .chains ∈ ps) : (c.fltSwap mask).hide ps = c.hide ps := by
  simp only [Chip.fltSwap, Chip.hide_setBits, Chip.hide_requestSwap, Chip.hide_foldl, Chip.hide_ite, h, and_self, ite_self, implies_true]

theorem Chip.hide_bankData (c : Chip) (w : Word) (h : .regs ∈ ps ∧ .chains ∈ ps) : (c.bankData w).hide ps = c.hide ps := by
  simp only [Chip.bankData, Chip.hide_upChain, Chip.hide_setFld, Chip.hide_setBits, Chip.hide_ite, h, ite_self]

theorem Chip.hide_frontFollow (c : Chip) (h : .run ∈ ps ∧ .girth ∈ ps ∧ .rings ∈ ps ∧ .seqs ∈ ps ∧ .chains ∈ ps ∧ .burnish ∈ ps ∧ .exc ∈ ps) :
    c.frontFollow.hide ps = c.hide ps := by
  simp only [Chip.frontFollow, Chip.hide_beginRound, Chip.hide_frontSettle, Chip.hide_foldl, Chip.hide_ite, h, and_self, ite_self, implies_true]

theorem Chip.hide_flushFor (c : Chip) (h : .rings ∈ ps ∧ .seqs ∈ ps) : c.flushFor.hide ps = c.hide ps := by
  simp only [Chip.flushFor]
  split <;> simp only [Chip.hide_flushEntry, Chip.hide_foldl, Chip.hide_ite, h, and_self, ite_self, implies_true]

/-! ### Burnish -/

theorem Chip.hide_useExc (c : Chip) (rs : List (Nat × Int × Int)) (h : .exc ∈ ps ∧ .mon ∈ ps) : (c.useExc rs).hide ps = c.hide ps := by
  simp only [Chip.useExc, Chip.hide_excAll, Chip.hide_upMon, Chip.hide_foldl, Chip.hide_ite, h, ite_self, implies_true]

theorem Chip.hide_useExcCal (c : Chip) (cal : List Byte) (h : .exc ∈ ps ∧ .mon ∈ ps) : (c.useExcCal cal).hide ps = c.hide ps := by
  simp only [Chip.useExcCal, Chip.hide_useExc, h, and_self]

theorem Chip.hide_releaseBanks (c : Chip) (h : .chains ∈ ps) : c.releaseBanks.hide ps = c.hide ps := by
  simp only [Chip.releaseBanks, Chip.hide_with_chains, h]

theorem Chip.hide_burnishEnd (c : Chip) (phase : Nat) (reason : Nat) (seq : Nat) (h : .rings ∈ ps ∧ .seqs ∈ ps ∧ .chains ∈ ps ∧ .burnish ∈ ps ∧
    .exc ∈ ps) : (c.burnishEnd phase reason seq).hide ps = c.hide ps := by
  simp only [Chip.burnishEnd, Chip.hide_releaseBanks, Chip.hide_event, Chip.hide_upBurnish, Chip.hide_burnishRecord, Chip.hide_excAll,
    Chip.hide_with_seqs, Chip.hide_ite, h, ite_self]

theorem Chip.hide_burnishInterrupt (c : Chip) (reason : Nat) (h : .rings ∈ ps ∧ .seqs ∈ ps ∧ .chains ∈ ps ∧ .burnish ∈ ps ∧ .exc ∈ ps) :
    (c.burnishInterrupt reason).hide ps = c.hide ps := by
  simp only [Chip.burnishInterrupt, Chip.hide_burnishEnd, h, and_self]

theorem Chip.hide_burnishCommitted (c : Chip) (h : .rings ∈ ps ∧ .seqs ∈ ps ∧ .chains ∈ ps ∧ .burnish ∈ ps ∧ .exc ∈ ps ∧ .mon ∈ ps) :
    c.burnishCommitted.hide ps = c.hide ps := by
  simp only [Chip.burnishCommitted, Chip.hide_burnishEnd, Chip.hide_useExcCal, Chip.hide_upBurnish, Chip.hide_requestSwap, Chip.hide_upChain,
    Chip.hide_foldl, Chip.hide_ite, h, and_self, ite_self, implies_true]

theorem Chip.hide_burnishSwap (c : Chip) (m : Nat) (h : .seqs ∈ ps ∧ .chains ∈ ps) : (c.burnishSwap m).hide ps = c.hide ps := by
  simp only [Chip.burnishSwap, Chip.hide_requestSwap, Chip.hide_upChain, Chip.hide_ite, h, and_self, ite_self]

theorem Chip.hide_holdBanks (c : Chip) (mask : Nat) (h : .chains ∈ ps) : (c.holdBanks mask).hide ps = c.hide ps := by
  simp only [Chip.holdBanks, Chip.hide_with_chains, h]

theorem Chip.hide_burnishReq (c : Chip) (target : Nat) (mask : Nat) (h : .rings ∈ ps ∧ .seqs ∈ ps ∧ .chains ∈ ps ∧ .burnish ∈ ps ∧ .exc ∈ ps) :
    (c.burnishReq target mask).1.hide ps = c.hide ps := by
  simp only [Chip.burnishReq]
  repeat' split
  all_goals simp only [Chip.hide_upBurnish, Chip.hide_frontSettle, Chip.hide_holdBanks, Chip.hide_with_seqs, h, and_self]

/-! ### The rule table -/

theorem Chip.hide_loadTable (c : Chip) (bs : List Byte) (h : .regs ∈ ps ∧ .rules ∈ ps) : (c.loadTable bs).hide ps = c.hide ps := by
  simp only [Chip.loadTable, Chip.hide_setReg, Chip.hide_upRules, Chip.hide_foldl, h, implies_true]

/-! ### Rules -/

theorem Chip.hide_upTimer (c : Chip) (t : Nat) (f : RuleTimer → RuleTimer) (h : .keeper ∈ ps) : (c.upTimer t f).hide ps = c.hide ps := by
  simp only [Chip.upTimer, Chip.hide_upKeeper, h]

theorem Chip.hide_startTimer (c : Chip) (t : Nat) (d : Nat) (h : .keeper ∈ ps ∧ .rings ∈ ps ∧ .rules ∈ ps) :
    (c.startTimer t d).hide ps = c.hide ps := by
  simp only [Chip.startTimer, Chip.hide_postSignal, Chip.hide_upTimer, Chip.hide_ite, h, and_self, ite_self]

theorem Chip.hide_stopTimer (c : Chip) (t : Nat) (h : .keeper ∈ ps ∧ .rings ∈ ps ∧ .rules ∈ ps) : (c.stopTimer t).hide ps = c.hide ps := by
  simp only [Chip.stopTimer, Chip.hide_postSignal, Chip.hide_upTimer, Chip.hide_ite, h, and_self, ite_self]

theorem Chip.hide_meterStart (c : Chip) (m : Nat) (credit : Nat) (h : .keeper ∈ ps ∧ .rings ∈ ps ∧ .rules ∈ ps) :
    (c.meterStart m credit).1.hide ps = c.hide ps := by
  simp only [Chip.meterStart]
  split <;> simp only [Chip.hide_postSignal, Chip.hide_commitHour, Chip.hide_upMeter, Chip.hide_ite, h, and_self, ite_self]

theorem Chip.hide_meterStop (c : Chip) (m : Nat) (debit : Nat) (h : .keeper ∈ ps ∧ .rings ∈ ps ∧ .rules ∈ ps) :
    (c.meterStop m debit).hide ps = c.hide ps := by
  simp only [Chip.meterStop, Chip.hide_postSignal, Chip.hide_upMeter, Chip.hide_ite, h, and_self, ite_self]

theorem Chip.hide_ruleRecord (c : Chip) (n : Nat) (r : Rule) (idx : Nat) (tag : Nat) (ev : Nat) (h : .rings ∈ ps) :
    (c.ruleRecord n r idx tag ev).hide ps = c.hide ps := by
  simp only [Chip.ruleRecord, Chip.hide_journal, h]

theorem Chip.hide_setGp (c : Chip) (pin : Nat) (v : Nat) (h : .regs ∈ ps ∧ .run ∈ ps ∧ .lands ∈ ps) : (c.setGp pin v).hide ps = c.hide ps := by
  simp only [Chip.setGp, Chip.hide_setFld, Chip.hide_upLands, Chip.hide_setRun, h]

theorem Chip.hide_act (c : Chip) (n : Nat) (r : Rule) (idx : Nat) (a : RuleAct) (w0 : Word) (ev : Nat) (h : .regs ∈ ps ∧ .run ∈ ps ∧ .girth ∈ ps ∧
    .lands ∈ ps ∧ .power ∈ ps ∧ .modes ∈ ps ∧ .keeper ∈ ps ∧ .start ∈ ps ∧ .rings ∈ ps ∧ .rules ∈ ps ∧ .seqs ∈ ps ∧ .chains ∈ ps ∧ .burnish ∈ ps ∧
    .exc ∈ ps ∧ .acq ∈ ps ∧ .track ∈ ps ∧ .radio ∈ ps) :
    (c.act n r idx a w0 ev).chip.hide ps = c.hide ps := by
  simp only [Chip.act]
  repeat' split
  all_goals
    simp only [Chip.hide_requestFix, Chip.hide_sendReport, Chip.hide_seqOpen, Chip.hide_seqClose, Chip.hide_setFout, Chip.hide_setGp,
      Chip.hide_meterStart, Chip.hide_meterStop, Chip.hide_post0, Chip.hide_burnishReq, Chip.hide_ruleRecord, Chip.hide_post3, Chip.hide_startTimer,
      Chip.hide_stopTimer, Chip.hide_theftRequest, Chip.hide_upRules, Chip.hide_postSignal, h, and_self]

theorem Chip.hide_runAct (n : Nat) (r : Rule) (w0 : Word) (ev : Nat) (st : Chip × List Nat) (x : Nat × RuleAct) (h : .regs ∈ ps ∧ .run ∈ ps ∧
    .girth ∈ ps ∧ .lands ∈ ps ∧ .power ∈ ps ∧ .modes ∈ ps ∧ .keeper ∈ ps ∧ .start ∈ ps ∧ .rings ∈ ps ∧ .rules ∈ ps ∧ .seqs ∈ ps ∧ .chains ∈ ps ∧
    .burnish ∈ ps ∧ .exc ∈ ps ∧ .acq ∈ ps ∧ .track ∈ ps ∧ .radio ∈ ps) :
    (Chip.runAct n r w0 ev st x).1.hide ps = st.1.hide ps := by
  simp only [Chip.runAct]
  repeat' split
  all_goals simp only [Chip.hide_post3, Chip.hide_act, h, and_self]

theorem Chip.hide_foldl_fst {α β : Type} {f : Chip × β → α → Chip × β} (hf : ∀ p x, (f p x).1.hide ps = p.1.hide ps) (xs : List α)
    (p : Chip × β) : (xs.foldl f p).1.hide ps = p.1.hide ps := by
  induction xs generalizing p with
  | nil => rfl
  | cons x xs ih => rw [List.foldl_cons, ih, hf]

theorem Chip.hide_fire (c : Chip) (derived : List Nat) (n : Nat) (r : Rule) (w0 : Word) (ev : Nat) (h : .regs ∈ ps ∧ .run ∈ ps ∧ .girth ∈ ps ∧
    .lands ∈ ps ∧ .power ∈ ps ∧ .modes ∈ ps ∧ .keeper ∈ ps ∧ .start ∈ ps ∧ .rings ∈ ps ∧ .rules ∈ ps ∧ .seqs ∈ ps ∧ .chains ∈ ps ∧ .burnish ∈ ps ∧
    .exc ∈ ps ∧ .acq ∈ ps ∧ .track ∈ ps ∧ .radio ∈ ps) :
    (c.fire derived n r w0 ev).1.hide ps = c.hide ps := by
  simp only [Chip.fire, Chip.hide_foldl_fst, Chip.hide_runAct, Chip.hide_ite, Chip.hide_ruleRecord, h, and_self, ite_self, implies_true]

theorem Chip.hide_setFired (c : Chip) (n : Nat) (b : Bool) (h : .rules ∈ ps) : (c.setFired n b).hide ps = c.hide ps := by
  simp only [Chip.setFired, Chip.hide_upRules, h]

theorem Chip.hide_eventRule (t : Trigger) (st : Chip × List Nat) (n : Nat) (r : Rule) (h : .regs ∈ ps ∧ .run ∈ ps ∧ .girth ∈ ps ∧ .lands ∈ ps ∧
    .power ∈ ps ∧ .modes ∈ ps ∧ .keeper ∈ ps ∧ .start ∈ ps ∧ .rings ∈ ps ∧ .rules ∈ ps ∧ .seqs ∈ ps ∧ .chains ∈ ps ∧ .burnish ∈ ps ∧ .exc ∈ ps ∧
    .acq ∈ ps ∧ .track ∈ ps ∧ .radio ∈ ps) : (Chip.eventRule t st n r).1.hide ps = st.1.hide ps := by
  simp only [Chip.eventRule]
  repeat' split
  all_goals simp only [Chip.hide_fire, h, and_self]

theorem Chip.hide_conditionRule (t : Trigger) (st : Chip × List Nat) (n : Nat) (r : Rule) (h : .regs ∈ ps ∧ .run ∈ ps ∧ .girth ∈ ps ∧ .lands ∈ ps ∧
    .power ∈ ps ∧ .modes ∈ ps ∧ .keeper ∈ ps ∧ .start ∈ ps ∧ .rings ∈ ps ∧ .rules ∈ ps ∧ .seqs ∈ ps ∧ .chains ∈ ps ∧ .burnish ∈ ps ∧ .exc ∈ ps ∧
    .acq ∈ ps ∧ .track ∈ ps ∧ .radio ∈ ps) : (Chip.conditionRule t st n r).1.hide ps = st.1.hide ps := by
  simp only [Chip.conditionRule]
  repeat' split
  all_goals simp only [Chip.hide_startTimer, Chip.hide_stopTimer, Chip.hide_fire, Chip.hide_setFired, h, and_self]

theorem Chip.hide_sweepRule (t : Trigger) (st : Chip × List Nat) (n : Nat) (h : .regs ∈ ps ∧ .run ∈ ps ∧ .girth ∈ ps ∧ .lands ∈ ps ∧ .power ∈ ps ∧
    .modes ∈ ps ∧ .keeper ∈ ps ∧ .start ∈ ps ∧ .rings ∈ ps ∧ .rules ∈ ps ∧ .seqs ∈ ps ∧ .chains ∈ ps ∧ .burnish ∈ ps ∧ .exc ∈ ps ∧ .acq ∈ ps ∧
    .track ∈ ps ∧ .radio ∈ ps) : (Chip.sweepRule t st n).1.hide ps = st.1.hide ps := by
  simp only [Chip.sweepRule]
  repeat' split
  all_goals simp only [Chip.hide_eventRule, Chip.hide_conditionRule, Chip.hide_fire, h, and_self]

theorem Chip.hide_applySet (c : Chip) (s : RuleSet) (h : .keeper ∈ ps ∧ .rings ∈ ps ∧ .rules ∈ ps) : (c.applySet s).hide ps = c.hide ps := by
  cases s with
  | edit n r =>
    simp only [Chip.applySet, Chip.hide_upRules, h]
    split <;> simp only [Chip.hide_stopTimer, h, and_self]
  | enables en =>
    simp only [Chip.applySet, Chip.hide_upRules, h]
    refine Chip.hide_foldl (fun c n => ?_) _ _
    repeat' split
    all_goals simp only [Chip.hide_setFired, Chip.hide_stopTimer, h, and_self]
  | watch src => simp only [Chip.applySet, Chip.hide_upRules, h]
  | fence n f => simp only [Chip.applySet, Chip.hide_ite, Chip.hide_postSignal, Chip.hide_upRules, h, and_self, ite_self]
  | theft th w l => simp only [Chip.applySet, Chip.hide_upRules, h]

theorem Chip.hide_applySets (c : Chip) (h : .keeper ∈ ps ∧ .rings ∈ ps ∧ .rules ∈ ps) : c.applySets.hide ps = c.hide ps := by
  simp only [Chip.applySets, Chip.hide_upRules, Chip.hide_applySet, Chip.hide_foldl, h, and_self, implies_true]

theorem Chip.hide_observeRule (n : Nat) (c : Chip) (h : .rings ∈ ps) : (Chip.observeRule n c).hide ps = c.hide ps := by
  induction n generalizing c with
  | zero => rfl
  | succ n ih => simp only [Chip.observeRule, Chip.hide_ite, ih, Chip.hide_event, Chip.hide_with_rings, h, ite_self]

theorem Chip.hide_applyClear (c : Chip) (w0 : Word) (h : .girth ∈ ps ∧ .modes ∈ ps ∧ .keeper ∈ ps ∧ .start ∈ ps ∧ .rings ∈ ps ∧ .rules ∈ ps ∧
    .acq ∈ ps ∧ .track ∈ ps ∧ .radio ∈ ps) : (c.applyClear w0).1.hide ps = c.hide ps := by
  simp only [Chip.applyClear]
  repeat' split
  all_goals simp only [Chip.hide_upRules, Chip.hide_theftChange, h, and_self]

theorem Chip.hide_sweepHead (c : Chip) (h : .regs ∈ ps ∧ .run ∈ ps ∧ .girth ∈ ps ∧ .lands ∈ ps ∧ .power ∈ ps ∧ .modes ∈ ps ∧ .keeper ∈ ps ∧
    .start ∈ ps ∧ .rings ∈ ps ∧ .rules ∈ ps ∧ .seqs ∈ ps ∧ .chains ∈ ps ∧ .burnish ∈ ps ∧ .exc ∈ ps ∧ .acq ∈ ps ∧ .track ∈ ps ∧ .radio ∈ ps) :
    c.sweepHead.hide ps = c.hide ps := by
  simp only [Chip.sweepHead]
  repeat' split
  all_goals
    simp only [Chip.hide_foldl_fst, Chip.hide_sweepRule, Chip.hide_applyClear, Chip.hide_consume, Chip.hide_applySets, h, and_self, implies_true]

theorem Chip.hide_ruleSweep (c : Chip) (h : .regs ∈ ps ∧ .run ∈ ps ∧ .girth ∈ ps ∧ .lands ∈ ps ∧ .power ∈ ps ∧ .modes ∈ ps ∧ .keeper ∈ ps ∧
    .start ∈ ps ∧ .rings ∈ ps ∧ .rules ∈ ps ∧ .seqs ∈ ps ∧ .chains ∈ ps ∧ .burnish ∈ ps ∧ .exc ∈ ps ∧ .acq ∈ ps ∧ .track ∈ ps ∧ .radio ∈ ps) :
    c.ruleSweep.hide ps = c.hide ps := by
  simp only [Chip.ruleSweep, Chip.hide_sweepHead, Chip.hide_observeRule, Chip.hide_ite, h, and_self, ite_self]

theorem Chip.hide_timerExpired (c : Chip) (t : Nat) (h : .keeper ∈ ps ∧ .rings ∈ ps ∧ .rules ∈ ps) : (c.timerExpired t).hide ps = c.hide ps := by
  simp only [Chip.timerExpired, Chip.hide_keeperEvent, Chip.hide_postSignal, Chip.hide_upTimer, Chip.hide_ite, h, and_self, ite_self]

theorem Chip.hide_postKeeper (c : Chip) (h : .keeper ∈ ps ∧ .rings ∈ ps) : c.postKeeper.hide ps = c.hide ps := by
  simp only [Chip.postKeeper]
  repeat' split
  all_goals simp only [Chip.hide_post2, Chip.hide_upKeeper, h]

theorem Chip.hide_showCheck (c : Chip) (p : Nat × Nat) (h : .rules ∈ ps) : (c.showCheck p).hide ps = c.hide ps := by
  simp only [Chip.showCheck, Chip.hide_upRules, h]

theorem Chip.hide_ruleArm (c : Chip) (arm : Nat) (res : Nat) (own : Bool) (s : RuleSet) (h : .regs ∈ ps ∧ .rules ∈ ps) :
    (c.ruleArm arm res own s).hide ps = c.hide ps := by
  simp only [Chip.ruleArm, Chip.hide_setFld, Chip.hide_armLast, Chip.hide_upRules, Chip.hide_ite, h, ite_self]

theorem Chip.hide_ruleEditArm (c : Chip) (h : .regs ∈ ps ∧ .rules ∈ ps) : c.ruleEditArm.hide ps = c.hide ps := by
  simp only [Chip.ruleEditArm, Chip.hide_ruleArm, Chip.hide_showCheck, h, and_self]

theorem Chip.hide_ruleEnArm (c : Chip) (h : .regs ∈ ps ∧ .rules ∈ ps) : c.ruleEnArm.hide ps = c.hide ps := by
  simp only [Chip.ruleEnArm, Chip.hide_ruleArm, Chip.hide_showCheck, h, and_self]

theorem Chip.hide_ruleMeterArm (c : Chip) (h : .regs ∈ ps ∧ .keeper ∈ ps) : c.ruleMeterArm.hide ps = c.hide ps := by
  simp only [Chip.ruleMeterArm, Chip.hide_setFld, Chip.hide_armLast, Chip.hide_upMeter, Chip.hide_ite, h, ite_self]

theorem Chip.hide_meterSetApply (c : Chip) (h : .keeper ∈ ps ∧ .rings ∈ ps) : c.meterSetApply.hide ps = c.hide ps := by
  refine Chip.hide_foldl (fun c m => ?_) _ _
  split <;> simp only [Chip.hide_commitHour, Chip.hide_upMeter, h, and_self]

theorem Chip.hide_ruleFenceArm (c : Chip) (h : .regs ∈ ps ∧ .rules ∈ ps) : c.ruleFenceArm.hide ps = c.hide ps := by
  simp only [Chip.ruleFenceArm, Chip.hide_ruleArm, h, and_self]

theorem Chip.hide_ruleWatchArm (c : Chip) (h : .regs ∈ ps ∧ .rules ∈ ps) : c.ruleWatchArm.hide ps = c.hide ps := by
  simp only [Chip.ruleWatchArm, Chip.hide_ruleArm, h, and_self]

theorem Chip.hide_ruleTheftCfgArm (c : Chip) (h : .regs ∈ ps ∧ .rules ∈ ps) : c.ruleTheftCfgArm.hide ps = c.hide ps := by
  simp only [Chip.ruleTheftCfgArm, Chip.hide_ruleArm, h, and_self]

/-! ### Starts -/

theorem Chip.hide_heldBits (c : Chip) (h : .regs ∈ ps) : c.heldBits.hide ps = c.hide ps := by
  refine Chip.hide_foldl (fun c m => ?_) _ _
  split <;> simp only [Chip.hide_setBits, h]

theorem Chip.hide_burnishFound (c : Chip) (h : .start ∈ ps ∧ .rings ∈ ps ∧ .burnish ∈ ps) : c.burnishFound.hide ps = c.hide ps := by
  simp only [Chip.burnishFound, Chip.hide_journal, Chip.hide_upStart, Chip.hide_upBurnish, Chip.hide_ite, h, ite_self]

theorem Chip.hide_readRecord (c : Chip) (h : .start ∈ ps) : c.readRecord.hide ps = c.hide ps := by
  simp only [Chip.readRecord, Chip.hide_upStart, h]

/-! ### Lanes -/

theorem Chip.hide_converterGone (c : Chip) (h : .girth ∈ ps ∧ .modes ∈ ps ∧ .rings ∈ ps ∧ .seqs ∈ ps ∧ .chains ∈ ps ∧ .burnish ∈ ps ∧ .exc ∈ ps ∧
    .acq ∈ ps ∧ .track ∈ ps ∧ .radio ∈ ps) : c.converterGone.hide ps = c.hide ps := by
  simp only [Chip.converterGone, Chip.hide_settleOver, Chip.hide_upGirth, Chip.hide_frontSettle, Chip.hide_burnishInterrupt, h, and_self]

theorem Chip.hide_loseFix (c : Chip) (reason : Nat) (h : .run ∈ ps ∧ .girth ∈ ps ∧ .modes ∈ ps ∧ .rings ∈ ps ∧ .acq ∈ ps ∧ .track ∈ ps) :
    (c.loseFix reason).hide ps = c.hide ps := by
  simp only [Chip.loseFix, Chip.hide_failFix, Chip.hide_ite, h, and_self, ite_self]

theorem Chip.hide_loseTracking (c : Chip) (h : .track ∈ ps) : c.loseTracking.hide ps = c.hide ps := by
  simp only [Chip.loseTracking, Chip.hide_releaseAll, Chip.hide_tpHold, Chip.hide_ite, h, ite_self]

theorem Chip.hide_radioGone (c : Chip) (fix : Nat) (frame : Nat) (h : .regs ∈ ps ∧ .run ∈ ps ∧ .girth ∈ ps ∧ .modes ∈ ps ∧ .rings ∈ ps ∧
    .acq ∈ ps ∧ .track ∈ ps ∧ .radio ∈ ps) : (c.radioGone fix frame).hide ps = c.hide ps := by
  simp only [Chip.radioGone, Chip.hide_abortRadio, Chip.hide_loseFix, Chip.hide_loseTracking, Chip.hide_settleOver, Chip.hide_upGirth, h, and_self]

theorem Chip.hide_fieldGone (c : Chip) (h : .girth ∈ ps ∧ .modes ∈ ps ∧ .rings ∈ ps ∧ .acq ∈ ps ∧ .track ∈ ps ∧ .radio ∈ ps) :
    c.fieldGone.hide ps = c.hide ps := by
  simp only [Chip.fieldGone, Chip.hide_settleOver, Chip.hide_upGirth, h, and_self]

/-! ### Timebases -/

theorem Chip.hide_gateArm (c : Chip) (h : .regs ∈ ps ∧ .run ∈ ps) : c.gateArm.hide ps = c.hide ps := by
  simp only [Chip.gateArm, Chip.hide_setFld, Chip.hide_applyWords, Chip.hide_armLast, Chip.hide_ite, h, ite_self]

theorem Chip.hide_upDomain (c : Chip) (d : Nat) (f : Domain → Domain) (h : .tb ∈ ps) : (c.upDomain d f).hide ps = c.hide ps := by
  simp only [Chip.upDomain, Chip.hide_upTb, h]

theorem Chip.hide_requestSwitch (c : Chip) (d : Nat) (target : Nat) (h : .tb ∈ ps) : (c.requestSwitch d target).hide ps = c.hide ps := by
  simp only [Chip.requestSwitch]
  split <;> simp only [Chip.hide_upDomain, Chip.hide_ite, h, ite_self]

theorem Chip.hide_markGap (c : Chip) (h : .seqs ∈ ps) : c.markGap.hide ps = c.hide ps := by
  simp only [Chip.markGap, Chip.hide_with_seqs, h]

theorem Chip.hide_stopDomain (c : Chip) (d : Nat) (h : .tb ∈ ps ∧ .seqs ∈ ps) : (c.stopDomain d).hide ps = c.hide ps := by
  simp only [Chip.stopDomain, Chip.hide_upDomain, Chip.hide_markGap, Chip.hide_ite, h, ite_self]

theorem Chip.hide_releaseDomain (c : Chip) (d : Nat) (h : .tb ∈ ps ∧ .keeper ∈ ps) : (c.releaseDomain d).hide ps = c.hide ps := by
  simp only [Chip.releaseDomain]
  split <;> simp only [Chip.hide_upTb, Chip.hide_upKeeper, Chip.hide_upDomain, Chip.hide_requestSwitch, Chip.hide_ite, h, ite_self]

theorem Chip.hide_forceSwitch (c : Chip) (d : Nat) (h : .tb ∈ ps ∧ .seqs ∈ ps) : (c.forceSwitch d).hide ps = c.hide ps := by
  simp only [Chip.forceSwitch, Chip.hide_upDomain, Chip.hide_stopDomain, Chip.hide_ite, h, and_self, ite_self]

theorem Chip.hide_tbEvent (c : Chip) (code : Nat) (cause : Nat) (err : Int) (h : .rings ∈ ps) : (c.tbEvent code cause err).hide ps = c.hide ps := by
  simp only [Chip.tbEvent, Chip.hide_protect, Chip.hide_ite, h, ite_self]

theorem Chip.hide_mlgLost (c : Chip) (h : .run ∈ ps ∧ .girth ∈ ps ∧ .modes ∈ ps ∧ .rings ∈ ps ∧ .rules ∈ ps ∧ .acq ∈ ps ∧ .track ∈ ps) :
    c.mlgLost.hide ps = c.hide ps := by
  simp only [Chip.mlgLost, Chip.hide_tpStop, Chip.hide_failFix, Chip.hide_failedSolution, Chip.hide_releaseAll, Chip.hide_with_track,
    Chip.hide_ite, h, and_self, ite_self]

theorem Chip.hide_loopLock (c : Chip) (l : Nat) (h : .tb ∈ ps) : (c.loopLock l).hide ps = c.hide ps := by
  simp only [Chip.loopLock, Chip.hide_upTb, Chip.hide_ite, h, ite_self]

theorem Chip.hide_mlUnlock (c : Chip) (l : Nat) (h : .regs ∈ ps ∧ .tb ∈ ps ∧ .seqs ∈ ps) : (c.mlUnlock l).hide ps = c.hide ps := by
  simp only [Chip.mlUnlock, Chip.hide_upTb, Chip.hide_setBits, Chip.hide_forceSwitch, Chip.hide_ite, h, and_self, ite_self]

theorem Chip.hide_tbSrcArm (c : Chip) (h : .regs ∈ ps ∧ .run ∈ ps) : c.tbSrcArm.hide ps = c.hide ps := by
  simp only [Chip.tbSrcArm, Chip.hide_setFld, Chip.hide_applyWords, Chip.hide_armLast, h]

theorem Chip.hide_tbCkoArm (c : Chip) (h : .regs ∈ ps ∧ .run ∈ ps ∧ .tb ∈ ps) : c.tbCkoArm.hide ps = c.hide ps := by
  simp only [Chip.tbCkoArm, Chip.hide_upTb, Chip.hide_setFld, Chip.hide_applyWords, Chip.hide_armLast, Chip.hide_upDomain, Chip.hide_ite, h,
    ite_self]

theorem Chip.hide_upPort (c : Chip) (p : Nat) (f : CapturePort → CapturePort) (h : .tb ∈ ps) : (c.upPort p f).hide ps = c.hide ps := by
  simp only [Chip.upPort, Chip.hide_upTb, h]

/-! ### Lands -/

theorem Chip.hide_ioDriveArm (c : Chip) (h : .regs ∈ ps ∧ .run ∈ ps ∧ .lands ∈ ps) : c.ioDriveArm.hide ps = c.hide ps := by
  simp only [Chip.ioDriveArm, Chip.hide_upLands, Chip.hide_armLast, Chip.hide_setRun, h]

theorem Chip.hide_ioDriveApply (c : Chip) (mem : Bool) (h : .run ∈ ps ∧ .lands ∈ ps) : (c.ioDriveApply mem).hide ps = c.hide ps := by
  simp only [Chip.ioDriveApply]
  repeat' split
  all_goals simp only [Chip.hide_upLands, Chip.hide_setRun, h]

theorem Chip.hide_gpCfgArm (c : Chip) (h : .regs ∈ ps ∧ .run ∈ ps ∧ .lands ∈ ps) : c.gpCfgArm.hide ps = c.hide ps := by
  simp only [Chip.gpCfgArm, Chip.hide_setFld, Chip.hide_upLands, Chip.hide_applyWords, Chip.hide_armLast, Chip.hide_ite, h, ite_self]

theorem Chip.hide_gpEdge (c : Chip) (pin : Nat) (level : Bool) (h : .regs ∈ ps ∧ .lands ∈ ps ∧ .keeper ∈ ps ∧ .rules ∈ ps) :
    (c.gpEdge pin level).hide ps = c.hide ps := by
  simp only [Chip.gpEdge, Chip.hide_keeperEvent, Chip.hide_setBits, Chip.hide_upLands, Chip.hide_ite, h, and_self, ite_self]

/-! ### The girth -/

theorem Chip.hide_girthTransfer (c : Chip) (l : Nat) (groups : List Nat) (kind : Nat) (h : .girth ∈ ps) :
    (c.girthTransfer l groups kind).hide ps = c.hide ps := by
  simp only [Chip.girthTransfer]
  repeat' split
  all_goals simp only [Chip.hide_upGirth, h]

theorem Chip.hide_girthEvent (c : Chip) (code : Nat) (a0 : Nat) (mode : Nat) (h : .rings ∈ ps) : (c.girthEvent code a0 mode).hide ps = c.hide ps := by
  simp only [Chip.girthEvent, Chip.hide_protect, h]

theorem Chip.hide_fieldCutOff (c : Chip) (h : .girth ∈ ps ∧ .power ∈ ps ∧ .rings ∈ ps ∧ .chains ∈ ps ∧ .burnish ∈ ps ∧ .exc ∈ ps) :
    c.fieldCutOff.hide ps = c.hide ps := by
  simp only [Chip.fieldCutOff, Chip.hide_upPower, Chip.hide_upGirth, Chip.hide_frontSettle, h, and_self]

theorem Chip.hide_reroute (c : Chip) (code : Nat) (a0 : Nat) (a1 : Nat) (h : .girth ∈ ps ∧ .rings ∈ ps) :
    (c.reroute code a0 a1).hide ps = c.hide ps := by
  simp only [Chip.reroute, Chip.hide_protect, Chip.hide_upGirth, Chip.hide_ite, h, ite_self]

theorem Chip.hide_converterCutOff (c : Chip) (h : .girth ∈ ps ∧ .seqs ∈ ps ∧ .exc ∈ ps) : c.converterCutOff.hide ps = c.hide ps := by
  simp only [Chip.converterCutOff, Chip.hide_upGirth, Chip.hide_excAll, Chip.hide_with_seqs, h]

theorem Chip.hide_setSamp (c : Chip) (l : Nat) (x : SampleState) (h : .girth ∈ ps) : (c.setSamp l x).hide ps = c.hide ps := by
  simp only [Chip.setSamp, Chip.hide_upGirth, h]

theorem Chip.hide_applyUnit (c : Chip) (arm : Nat) (ws : List (Nat × Word)) (h : .regs ∈ ps ∧ .run ∈ ps ∧ .girth ∈ ps ∧ .power ∈ ps ∧ .rings ∈ ps ∧
    .rules ∈ ps ∧ .seqs ∈ ps ∧ .runSig ∈ ps ∧ .chains ∈ ps ∧ .burnish ∈ ps ∧ .exc ∈ ps) : (c.applyUnit arm ws).hide ps = c.hide ps := by
  simp only [Chip.applyUnit, Chip.hide_foutApply, Chip.hide_excApply, Chip.hide_startSeq, Chip.hide_radioApply, Chip.hide_gbiasApply,
    Chip.hide_applyWords, Chip.hide_runApply, Chip.hide_dropArmed, Chip.hide_seqApply, Chip.hide_finApply, Chip.hide_chgApply, Chip.hide_ite, h,
    and_self, ite_self]

/-! ### The memory port -/

theorem Chip.hide_quadEnable (c : Chip) (part : NorPart) (p : NorParams) (h : .regs ∈ ps) : (c.quadEnable part p).1.hide ps = c.hide ps := by
  simp only [Chip.quadEnable]
  repeat' split
  all_goals simp only [Chip.hide_setBits, h]

theorem Chip.hide_xferEvent (c : Chip) (res : Nat) (h : .rings ∈ ps) : (c.xferEvent res).hide ps = c.hide ps := by
  simp only [Chip.xferEvent, Chip.hide_post0, Chip.hide_ite, h, ite_self]

theorem Chip.hide_memWaited (c : Chip) (h : .run ∈ ps ∧ .girth ∈ ps) : c.memWaited.hide ps = c.hide ps := by
  simp only [Chip.memWaited]
  split <;> simp only [Chip.hide_dropArmed, Chip.hide_applyWords, Chip.hide_ite, h, ite_self]

theorem Chip.hide_memCtlArm (c : Chip) (h : .regs ∈ ps ∧ .run ∈ ps ∧ .girth ∈ ps) : c.memCtlArm.hide ps = c.hide ps := by
  simp only [Chip.memCtlArm, Chip.hide_setFld, Chip.hide_holdSet, Chip.hide_dropArmed, Chip.hide_applyWords, Chip.hide_armLast, Chip.hide_ite, h,
    ite_self]

/-! ### Temperatures -/

theorem Chip.hide_thermEvent (c : Chip) (code : Nat) (die : Nat) (reading : Int) (h : .rings ∈ ps) :
    (c.thermEvent code die reading).hide ps = c.hide ps := by
  simp only [Chip.thermEvent, Chip.hide_produce, h]

theorem Chip.hide_newTemps (c : Chip) (ts : List Int) (h : .keeper ∈ ps ∧ .rings ∈ ps ∧ .rules ∈ ps ∧ .therm ∈ ps) :
    (c.newTemps ts).hide ps = c.hide ps := by
  simp only [Chip.newTemps, Chip.hide_upTherm, Chip.hide_upKeeper, Chip.hide_postSignal, Chip.hide_ite, h, and_self, ite_self]

theorem Chip.hide_warningBegins (c : Chip) (h : .regs ∈ ps ∧ .rings ∈ ps ∧ .therm ∈ ps) : c.warningBegins.hide ps = c.hide ps := by
  simp only [Chip.warningBegins, Chip.hide_setBits, Chip.hide_upTherm, Chip.hide_thermEvent, h]

theorem Chip.hide_heldCal (c : Chip) (h : .rings ∈ ps ∧ .seqs ∈ ps ∧ .chains ∈ ps ∧ .burnish ∈ ps ∧ .exc ∈ ps ∧ .therm ∈ ps) :
    c.heldCal.hide ps = c.hide ps := by
  simp only [Chip.heldCal, Chip.hide_burnishEnd, Chip.hide_upTherm, Chip.hide_ite, h, and_self, ite_self]

theorem Chip.hide_warningEnds (c : Chip) (h : .rings ∈ ps ∧ .therm ∈ ps) : c.warningEnds.hide ps = c.hide ps := by
  simp only [Chip.warningEnds, Chip.hide_upTherm, Chip.hide_thermEvent, h]

theorem Chip.hide_tripFix (c : Chip) (h : .run ∈ ps ∧ .girth ∈ ps ∧ .modes ∈ ps ∧ .rings ∈ ps ∧ .acq ∈ ps ∧ .track ∈ ps) :
    c.tripFix.hide ps = c.hide ps := by
  simp only [Chip.tripFix, Chip.hide_failFix, Chip.hide_ite, h, and_self, ite_self]

theorem Chip.hide_countBelow (c : Chip) (h : .therm ∈ ps) : c.countBelow.hide ps = c.hide ps := by
  simp only [Chip.countBelow, Chip.hide_upTherm, h]

/-! ### Updates -/

theorem Chip.hide_updEvent (c : Chip) (code : Nat) (slot : Nat) (h : .rings ∈ ps) : (c.updEvent code slot).hide ps = c.hide ps := by
  simp only [Chip.updEvent, Chip.hide_post0, h]

/-! ### Settings -/

theorem Chip.hide_saveRes (c : Chip) (r : Nat) (h : .upd ∈ ps) : (c.saveRes r).hide ps = c.hide ps := by
  simp only [Chip.saveRes, Chip.hide_upUpd, h]

theorem Chip.hide_failedCheckWait (c : Chip) (h : .girth ∈ ps ∧ .modes ∈ ps ∧ .start ∈ ps) : c.failedCheckWait.hide ps = c.hide ps := by
  simp only [Chip.failedCheckWait, Chip.hide_upStart, Chip.hide_goTo, h, and_self]

/-! ### Registers -/

theorem Chip.hide_hostCtlArm (c : Chip) (h : .regs ∈ ps ∧ .run ∈ ps ∧ .girth ∈ ps ∧ .host ∈ ps) : c.hostCtlArm.hide ps = c.hide ps := by
  simp only [Chip.hostCtlArm, Chip.hide_upHost, Chip.hide_setFld, Chip.hide_holdSet, Chip.hide_applyWords, Chip.hide_armLast, Chip.hide_dropArmed,
    Chip.hide_ite, h, ite_self]

/-! ### The load of a start -/

theorem Chip.hide_choose (c : Chip) (slot : Nat) (trial : Bool) (h : .start ∈ ps) : (c.choose slot trial).hide ps = c.hide ps := by
  simp only [Chip.choose, Chip.hide_upStart, h]

theorem Chip.hide_takeCal (c : Chip) (cal : List Byte) (dflt : Bool) (h : .start ∈ ps ∧ .chains ∈ ps ∧ .burnish ∈ ps ∧ .exc ∈ ps ∧ .mon ∈ ps) :
    (c.takeCal cal dflt).hide ps = c.hide ps := by
  simp only [Chip.takeCal, Chip.hide_useExcCal, Chip.hide_upStart, Chip.hide_upBurnish, Chip.hide_with_chains, h, and_self]

theorem Chip.hide_takeYard (c : Chip) (bs : List Byte) (h : .regs ∈ ps ∧ .run ∈ ps ∧ .yard ∈ ps) : (c.takeYard bs).hide ps = c.hide ps := by
  simp only [Chip.takeYard, Chip.hide_setReg, Chip.hide_setRun, Chip.hide_upYard, h]

theorem Chip.hide_yardFirst (c : Chip) (h : .regs ∈ ps ∧ .run ∈ ps ∧ .yard ∈ ps) : c.yardFirst.hide ps = c.hide ps := by
  simp only [Chip.yardFirst]
  split <;> simp only [Chip.hide_takeYard, Chip.hide_ite, h, and_self, ite_self]

/-! ### The host port -/

theorem Chip.hide_fetch (n : Nat) (c : Chip) (h : .host ∈ ps) : (Chip.fetch n c).hide ps = c.hide ps := by
  induction n generalizing c with
  | zero => rfl
  | succ n ih =>
    simp only [Chip.fetch]
    repeat' split
    all_goals simp only [ih, Chip.hide_upHost, h]

theorem Chip.hide_fetchAll (c : Chip) (h : .host ∈ ps) : c.fetchAll.hide ps = c.hide ps := by
  simp only [Chip.fetchAll, Chip.hide_fetch, h]

theorem Chip.hide_wordReady (c : Chip) (late : Bool) (h : .host ∈ ps) : (c.wordReady late).hide ps = c.hide ps := by
  simp only [Chip.wordReady]
  split <;> simp only [Chip.hide_upHost, Chip.hide_fetchAll, Chip.hide_ite, h, ite_self]

theorem Chip.hide_transmit (c0 : Chip) (nb : Nat) (h : .host ∈ ps) : (c0.transmit nb).hide ps = c0.hide ps := by
  simp only [Chip.transmit]
  split <;> simp only [Chip.hide_upHost, Chip.hide_fetchAll, h]

theorem Chip.hide_rejectFrame (c : Chip) (status : Nat) (alive : Nat) (h : .host ∈ ps) : (c.rejectFrame status alive).hide ps = c.hide ps := by
  simp only [Chip.rejectFrame, Chip.hide_upHost, h]

theorem Chip.hide_hostNop (c : Chip) (alive : Nat) (h : .host ∈ ps) : (c.hostNop alive).hide ps = c.hide ps := by
  simp only [Chip.hostNop, Chip.hide_upHost, Chip.hide_rejectFrame, Chip.hide_ite, h, ite_self]

theorem Chip.hide_masterSwitch (c : Chip) (h : .run ∈ ps ∧ .girth ∈ ps ∧ .host ∈ ps) : c.masterSwitch.hide ps = c.hide ps := by
  simp only [Chip.masterSwitch]
  split <;> simp only [Chip.hide_upHost, Chip.hide_applyWords, Chip.hide_dropArmed, Chip.hide_ite, h, ite_self]

theorem Chip.hide_masterPush (c : Chip) (h : .host ∈ ps) : c.masterPush.hide ps = c.hide ps := by
  simp only [Chip.masterPush]
  repeat' split
  all_goals simp only [Chip.hide_upHost, h]

theorem Chip.hide_masterNop (c : Chip) (status : Nat) (echo : Nat) (crcOk : Bool) (h : .regs ∈ ps ∧ .rings ∈ ps ∧ .host ∈ ps) :
    (c.masterNop status echo crcOk).hide ps = c.hide ps := by
  simp only [Chip.masterNop]
  split <;> simp only [Chip.hide_consume, Chip.hide_setBits, Chip.hide_upHost, Chip.hide_settleClass, Chip.hide_ite, h, ite_self]

theorem Chip.hide_systemCommand (c : Chip) (h : .rings ∈ ps) : c.systemCommand.hide ps = c.hide ps := by
  simp only [Chip.systemCommand]
  repeat' split
  all_goals simp only [Chip.hide_consume, Chip.hide_produce, Chip.hide_post2, Chip.hide_settleClass, h]

end Sys2Proof.Machine
end

section
/-! SUPPORT. The sparse memories stay canonical. MRAM is written by commits and records, the NOR and the buffer by the memory port; every other
operation leaves them alone (its frame), and what writes them writes runs of bytes. -/

namespace Sys2Proof.Machine

/-- The parts that hold none of the memories. -/
def nonMem : List Part :=
  [.regs, .run, .girth, .lands, .power, .modes, .tb, .keeper, .start, .rings, .rules, .seqs, .runSig, .fin, .chains, .burnish, .exc, .mon, .acq,
    .track,
   .radio, .yard, .host, .upd, .therm]

theorem nonMem_all : .regs ∈ nonMem ∧ .run ∈ nonMem ∧ .girth ∈ nonMem ∧ .lands ∈ nonMem ∧ .power ∈ nonMem ∧ .modes ∈ nonMem ∧ .tb ∈ nonMem ∧
    .keeper ∈ nonMem ∧ .start ∈ nonMem ∧ .rings ∈ nonMem ∧ .rules ∈ nonMem ∧ .seqs ∈ nonMem ∧ .runSig ∈ nonMem ∧ .fin ∈ nonMem ∧
    .chains ∈ nonMem ∧ .burnish ∈ nonMem ∧ .exc ∈ nonMem ∧ .mon ∈ nonMem ∧ .acq ∈ nonMem ∧ .track ∈ nonMem ∧ .radio ∈ nonMem ∧
    .yard ∈ nonMem ∧ .host ∈ nonMem ∧ .upd ∈ nonMem ∧ .therm ∈ nonMem := by decide

/-- The memories of a block are in canonical form, said of the block with every other part forgotten: an operation on other parts rewrites away. -/
abbrev Chip.MemsOk (c : Chip) : Prop := (c.hide nonMem).memsWf

theorem Chip.memsOk_iff (c : Chip) : c.MemsOk ↔ c.memsWf := Iff.rfl

/-- What a block looks like without the parts that hold no memory decides whether its memories are canonical. -/
theorem Chip.memsOk_eq {c d : Chip} (hd : d.hide nonMem = c.hide nonMem) (h : c.MemsOk) : d.MemsOk := by
  rw [Chip.MemsOk, hd]
  exact h

/-- The NOR and the buffer of a memory port are in canonical form. -/
def MemPort.wf (m : MemPort) : Prop := Memory.wf 0xFF m.nor = true ∧ Memory.wf 0 m.buf = true

/-- A change of the memory port that keeps the canonical form. -/
def PortKept (f : MemPort → MemPort) : Prop := ∀ m, m.wf → (f m).wf

/-! ### Shared operations -/

theorem Chip.memsOk_upMem {c : Chip} {f : MemPort → MemPort} (hf : PortKept f) (h : c.MemsOk) : (c.upMem f).MemsOk := by
  obtain ⟨hmram, hport⟩ := c.memsOk_iff.mp h
  exact (Chip.memsOk_iff _).mpr ⟨hmram, hf _ hport⟩

theorem Chip.memsOk_upMram {c : Chip} {f : Mram → Mram} (hf : ∀ m, Memory.wf 0 m.bytes = true → Memory.wf 0 (f m).bytes = true) (h : c.MemsOk) :
    (c.upMram f).MemsOk := by
  obtain ⟨hmram, hport⟩ := c.memsOk_iff.mp h
  exact (Chip.memsOk_iff _).mpr ⟨hf _ hmram, hport⟩

theorem Chip.memsOk_foldl {α : Type} {f : Chip → α → Chip} (hf : ∀ c x, c.MemsOk → (f c x).MemsOk) {xs : List α} {c : Chip} (h : c.MemsOk) :
    (xs.foldl f c).MemsOk := by
  induction xs generalizing c with
  | nil => exact h
  | cons x xs ih => exact ih (hf c x h)

/-- A change of the memory port away from the NOR and the buffer. -/
theorem Chip.memsOk_port {c : Chip} {f : MemPort → MemPort} (hnor : ∀ m, (f m).nor = m.nor) (hbuf : ∀ m, (f m).buf = m.buf) (h : c.MemsOk) :
    (c.upMem f).MemsOk :=
  Chip.memsOk_upMem (fun m hm => by rw [MemPort.wf, hnor, hbuf]; exact hm) h

/-- A change of the MRAM away from its bytes. -/
theorem Chip.memsOk_mram {c : Chip} {f : Mram → Mram} (hbytes : ∀ m, (f m).bytes = m.bytes) (h : c.MemsOk) : (c.upMram f).MemsOk :=
  Chip.memsOk_upMram (fun m hm => by rw [hbytes]; exact hm) h

theorem Chip.memsWf_ite {P : Prop} [Decidable P] {a b : Chip} : (if P then a else b).memsWf ↔ if P then a.memsWf else b.memsWf := by
  split <;> exact Iff.rfl

/-- A change of the memory port that writes bytes into the NOR and leaves the buffer alone. -/
theorem Chip.memsOk_nor {c : Chip} {f : MemPort → MemPort} {a : MemPort → Nat} {bs : MemPort → List Byte}
    (hnor : ∀ m, (f m).nor = memWrite 0xFF m.nor (a m) (bs m)) (hbuf : ∀ m, (f m).buf = m.buf) (h : c.MemsOk) : (c.upMem f).MemsOk :=
  Chip.memsOk_upMem (fun m hm => ⟨by rw [hnor]; exact memWrite_wf _ _ _ _ hm.1, by rw [hbuf]; exact hm.2⟩) h

/-- A change of the memory port that writes bytes into the buffer and leaves the NOR alone. -/
theorem Chip.memsOk_buf {c : Chip} {f : MemPort → MemPort} {a : MemPort → Nat} {bs : MemPort → List Byte}
    (hnor : ∀ m, (f m).nor = m.nor) (hbuf : ∀ m, (f m).buf = memWrite 0 m.buf (a m) (bs m)) (h : c.MemsOk) : (c.upMem f).MemsOk :=
  Chip.memsOk_upMem (fun m hm => ⟨by rw [hnor]; exact hm.1, by rw [hbuf]; exact memWrite_wf _ _ _ _ hm.2⟩) h

/-- A block that differs in its MRAM alone, with canonical bytes. -/
theorem Chip.memsOk_with_mram {c : Chip} {m : Mram} (hm : Memory.wf 0 m.bytes = true) (h : c.MemsOk) : Chip.MemsOk { c with mram := m } :=
  (Chip.memsOk_iff _).mpr ⟨hm, (c.memsOk_iff.mp h).2⟩

theorem Chip.mramOk {c : Chip} (h : c.MemsOk) : Memory.wf 0 c.mram.bytes = true := (c.memsOk_iff.mp h).1

theorem Mram.wf_commit {m : Mram} (struct fmt : Nat) (body : List Byte) (h : Memory.wf 0 m.bytes = true) :
    Memory.wf 0 (m.commit struct fmt body).bytes = true := memWrite_wf _ _ _ _ h

theorem Mram.wf_putRecord {m : Mram} (w0 w1 w2 : Nat) (h : Memory.wf 0 m.bytes = true) : Memory.wf 0 (m.putRecord w0 w1 w2).bytes = true :=
  memWrite_wf _ _ _ _ h

theorem Mram.wf_carry (n : Nat) {m : Mram} (h : Memory.wf 0 m.bytes = true) : Memory.wf 0 (Mram.carry n m).bytes = true := by
  induction n generalizing m with
  | zero => exact h
  | succ n ih =>
    unfold Mram.carry
    split
    · exact ih (Mram.wf_putRecord _ _ _ h)
    · exact h

theorem Mram.wf_record {m : Mram} (w0 w1 w2 : Nat) (h : Memory.wf 0 m.bytes = true) : Memory.wf 0 (m.record w0 w1 w2).bytes = true :=
  Mram.wf_putRecord _ _ _ (Mram.wf_carry 16 h)

theorem Mram.wf_clearCommitWord {m : Mram} (struct : Nat) (b : Bool) (h : Memory.wf 0 m.bytes = true) :
    Memory.wf 0 (m.clearCommitWord struct b).bytes = true := memWrite_wf _ _ _ _ h

theorem Chip.memsOk_if {P : Prop} [Decidable P] {a b : Chip} (ha : a.MemsOk) (hb : b.MemsOk) : (if P then a else b).MemsOk := by
  split
  · exact ha
  · exact hb

theorem Chip.exists_yardSend : ∃ send, send = Chip.yardSend := ⟨_, rfl⟩

/-! ### Yard frames -/

theorem Chip.memsOk_yardSend {c d : Chip} {ring src units us limit : Nat} {f : YardFrame} {r : RadioSetting}
    (hd : c.yardSend ring src f r units us limit = some d) (h : c.MemsOk) : d.MemsOk :=
  Chip.memsOk_eq (Chip.hide_yardSend hd (by decide)) h

theorem Chip.memsOk_getD {o : Option Chip} {c : Chip} (ho : ∀ d, o = some d → d.MemsOk) (h : c.MemsOk) : (o.getD c).MemsOk := by
  cases o with
  | none => exact h
  | some d => exact ho d rfl

/-! ### The MRAM -/

theorem Chip.memsOk_commitNow (c : Chip) (struct fmt : Nat) (body : List Byte) (h : c.MemsOk) : (c.commitNow struct fmt body).MemsOk :=
  Chip.memsOk_with_mram (Mram.wf_commit struct fmt body (Chip.mramOk h)) h

theorem Chip.memsOk_requestCommit (c : Chip) (struct fmt : Nat) (body : List Byte) (h : c.MemsOk) : (c.requestCommit struct fmt body).MemsOk := by
  unfold Chip.requestCommit
  split
  · exact h
  · exact Chip.memsOk_with_mram (Chip.mramOk h) h

theorem Chip.memsOk_record (c : Chip) (w0 w1 w2 : Nat) (h : c.MemsOk) : (c.record w0 w1 w2).MemsOk :=
  Chip.memsOk_with_mram (Mram.wf_record w0 w1 w2 (Chip.mramOk h)) h

theorem Chip.memsOk_norSpoil (c : Chip) (a n : Nat) (h : c.MemsOk) : (c.norSpoil a n).MemsOk :=
  Chip.memsOk_nor (fun _ => rfl) (fun _ => rfl) h

theorem Chip.memsOk_norCut (c : Chip) (h : c.MemsOk) : c.norCut.MemsOk := by
  simp only [Chip.norCut]
  repeat' split
  all_goals simp only [Chip.MemsOk, Chip.memsOk_norSpoil, h]

theorem Chip.memsOk_commitStart (c : Chip) (r : StartRec) (h : c.MemsOk) : (c.commitStart r).MemsOk := by
  simp only [Chip.commitStart, Chip.MemsOk, Chip.memsOk_commitNow, Chip.hide_with_start, h, nonMem_all]

theorem Chip.memsOk_recordCause (c : Chip) (cause : Nat) (counted : Bool) (h : c.MemsOk) : (c.recordCause cause counted).MemsOk := by
  simp only [Chip.recordCause, Chip.MemsOk, Chip.memsOk_commitStart, Chip.hide_with_start, Chip.hide_ite, h, nonMem_all,
    ite_self]

/-! ### The update-state record -/

theorem Chip.memsOk_commitUpdNow (c : Chip) (r : UpdRec) (h : c.MemsOk) : (c.commitUpdNow r).MemsOk :=
  Chip.memsOk_commitNow _ 2 1 r.body (Chip.memsOk_mram (fun _ => rfl) h)

theorem Chip.memsOk_commitUpd (c : Chip) (r : UpdRec) (h : c.MemsOk) : (c.commitUpd r).MemsOk := by
  simp only [Chip.commitUpd, Chip.MemsOk, Chip.hide_upUpd, Chip.memsOk_requestCommit, Chip.memsOk_commitUpdNow, Chip.hide_ite, Chip.memsWf_ite, h,
    nonMem_all, ite_self]

/-! ### The keeper domain -/

theorem Chip.memsOk_recordWords (c : Chip) (e : List Word) (h : c.MemsOk) : (c.recordWords e).MemsOk := by
  simp only [Chip.recordWords, Chip.MemsOk, Chip.memsOk_record, h]

theorem Chip.memsOk_journalWrite (c : Chip) (h : c.MemsOk) : c.journalWrite.MemsOk := by
  simp only [Chip.journalWrite, Chip.MemsOk, Chip.hide_upRing, Chip.hide_deferRecord, Chip.hide_theftNote, Chip.memsOk_recordWords,
    Chip.hide_deferHour, Chip.hide_with_rings, Chip.hide_ite, Chip.memsWf_ite, h, nonMem_all, and_self, ite_self]

theorem Chip.memsOk_journalEvent (c : Chip) (h : c.MemsOk) : c.journalEvent.MemsOk := by
  simp only [Chip.journalEvent]
  repeat' split
  all_goals simp only [Chip.MemsOk, Chip.memsOk_recordWords, Chip.hide_deferRecord, Chip.hide_theftNote, Chip.hide_with_rings, h, nonMem_all,
    and_self]

/-! ### GNSS acquisition -/

theorem Chip.memsOk_keepCommit (c : Chip) (h : c.MemsOk) : c.keepCommit.MemsOk := by
  simp only [Chip.keepCommit, Chip.MemsOk, Chip.memsOk_requestCommit, Chip.hide_with_acq, h, nonMem_all]

theorem Chip.memsOk_snapshotSolution (c : Chip) (sol : Solution) (h : c.MemsOk) : (c.snapshotSolution sol).MemsOk := by
  simp only [Chip.snapshotSolution, Chip.MemsOk, Chip.hide_endFix, Chip.memsOk_keepCommit, Chip.hide_tooFew, Chip.hide_solution, Chip.hide_ite,
    Chip.memsWf_ite, h, nonMem_all, and_self, ite_self]

theorem Chip.memsOk_burstEnd (c : Chip) (h : c.MemsOk) : c.burstEnd.MemsOk := by
  simp only [Chip.burstEnd, Chip.MemsOk, Chip.hide_releaseAll, Chip.hide_tpHold, Chip.hide_endFix, Chip.memsOk_keepCommit, Chip.hide_ite,
    Chip.memsWf_ite, h, nonMem_all, and_self, ite_self]

theorem Chip.memsOk_keepClear (c : Chip) (h : c.MemsOk) : c.keepClear.MemsOk :=
  (Chip.memsOk_iff _).mpr ⟨memWrite_wf _ _ _ _ (memWrite_wf _ _ _ _ (Chip.mramOk h)), (c.memsOk_iff.mp h).2⟩

/-! ### The mode controller -/

theorem Chip.memsOk_trialCommit (c : Chip) (h : c.MemsOk) : c.trialCommit.MemsOk := by
  simp only [Chip.trialCommit, Chip.MemsOk, Chip.hide_upUpd, Chip.memsOk_commitUpd, Chip.hide_ite, Chip.memsWf_ite, h, nonMem_all, ite_self]

theorem Chip.memsOk_shipCommits (c : Chip) (h : c.MemsOk) : c.shipCommits.MemsOk := by
  refine Chip.memsOk_foldl (fun c m hc => ?_) h
  dsimp only
  split
  · rw [Chip.MemsOk, Chip.hide_upMeter _ _ _ (by decide)]
    exact Chip.memsOk_record _ _ _ _ hc
  · exact hc

theorem Chip.memsOk_completeMode (c : Chip) (m : Nat) (r : Reason) (h : c.MemsOk) : (c.completeMode m r).MemsOk := by
  simp only [Chip.completeMode, Chip.MemsOk, Chip.hide_postMode, Chip.hide_domains, Chip.hide_postSignal, Chip.hide_upModes, Chip.hide_fixEntered,
    Chip.memsOk_shipCommits, Chip.memsOk_trialCommit, Chip.hide_ite, Chip.memsWf_ite, h, nonMem_all, and_self, ite_self]

theorem Chip.memsOk_modeChanged (c : Chip) (h : c.MemsOk) : c.modeChanged.MemsOk := by
  simp only [Chip.modeChanged]
  repeat' split
  all_goals simp only [Chip.MemsOk, Chip.hide_beginTransition, Chip.hide_upModes, Chip.memsOk_completeMode, Chip.hide_settle, h, nonMem_all, and_self]

/-! ### Yard frames -/

theorem Chip.memsOk_commitYard (c : Chip) (r : YardRecord) (h : c.MemsOk) : (c.commitYard r).MemsOk :=
  Chip.memsOk_with_mram (Chip.mramOk h) h

theorem Chip.memsOk_nextEra (c : Chip) (h : c.MemsOk) : c.nextEra.MemsOk := by
  simp only [Chip.nextEra, Chip.MemsOk, Chip.memsOk_commitYard, Chip.hide_upYard, h, nonMem_all]

theorem Chip.memsOk_nextSeq {c : Chip} {dst : Nat} {p : Chip × Nat} (hp : c.nextSeq dst = some p) (h : c.MemsOk) : p.1.MemsOk := by
  unfold Chip.nextSeq at hp
  simp only [Option.ite_none_left_eq_some, Option.some.injEq] at hp
  obtain ⟨-, -, rfl⟩ := hp
  refine Chip.memsOk_eq (Chip.hide_upYard _ _ (by decide)) ?_
  split
  · exact Chip.memsOk_nextEra _ h
  · exact h

/-! ### The yard, sending -/

theorem Chip.memsOk_sendAlarm {c : Chip} {own : Nat} {a : Alarm} {p : Chip × Alarm} (hp : c.sendAlarm own a = some p) (h : c.MemsOk) :
    p.1.MemsOk := by
  unfold Chip.sendAlarm at hp
  split at hp
  · cases hp
  case h_2 c1 seq hseq =>
    obtain ⟨d, hd, rfl⟩ := Option.map_eq_some_iff.mp hp
    refine Chip.memsOk_yardSend hd ?_
    split at hseq
    · exact Chip.memsOk_nextSeq hseq h
    · cases hseq
      exact h

theorem Chip.memsOk_miniOwn (c : Chip) (s own : Nat) (h : c.MemsOk) : (c.miniOwn s own).MemsOk := by
  unfold Chip.miniOwn
  repeat' split
  all_goals first | exact h | exact Chip.memsOk_eq (Chip.hide_upYard _ _ (by decide)) (Chip.memsOk_sendAlarm (by assumption) h)

theorem Chip.memsOk_miniAck (c : Chip) (h : c.MemsOk) : c.miniAck.MemsOk := by
  unfold Chip.miniAck
  split
  case h_1 => exact h
  case h_2 =>
    split
    case h_1 => exact h
    case h_2 c1 seq hseq =>
      refine Chip.memsOk_eq (Chip.hide_upYard _ _ (by decide)) ?_
      exact Chip.memsOk_eq (Chip.hide_getD fun _ hd => Chip.hide_yardSend hd (by decide)) (Chip.memsOk_nextSeq hseq h)

theorem Chip.memsOk_minislot (c : Chip) (s : Nat) (h : c.MemsOk) : (c.minislot s).MemsOk := by
  have hwait : c.miniWait.MemsOk := Chip.memsOk_eq (Chip.hide_miniWait _ (by decide)) h
  unfold Chip.minislot
  dsimp only
  split
  case h_1 => exact hwait
  case h_2 =>
    refine Chip.memsOk_eq (Chip.hide_miniListen _ (by decide)) (Chip.memsOk_miniOwn _ _ _ ?_)
    split
    · exact Chip.memsOk_miniAck _ hwait
    · exact hwait

theorem Chip.memsOk_sendBeacon (c : Chip) (h : c.MemsOk) : c.sendBeacon.MemsOk := by
  unfold Chip.sendBeacon
  generalize 224000 = limit
  split
  · exact h
  · refine Chip.memsOk_getD (fun d hd => ?_) h
    obtain ⟨e, he, rfl⟩ := Option.map_eq_some_iff.mp hd
    obtain ⟨p, hseq, hsend⟩ := Option.bind_eq_some_iff.mp he
    exact Chip.memsOk_eq (Chip.hide_upYard _ _ (by decide)) (Chip.memsOk_yardSend hsend
      (Chip.memsOk_nextSeq hseq (Chip.memsOk_eq (Chip.hide_upYard _ _ (by decide)) h)))

theorem Chip.memsOk_withSeq {c : Chip} {f : YardFrame} {p : Chip × YardFrame} (hp : c.withSeq f = some p) (h : c.MemsOk) : p.1.MemsOk := by
  unfold Chip.withSeq at hp
  split at hp
  · cases hp
  · split at hp
    · cases hp
      exact h
    · obtain ⟨q, hq, rfl⟩ := Option.map_eq_some_iff.mp hp
      exact Chip.memsOk_nextSeq hq h

theorem Chip.memsOk_slotFrame {c : Chip} {src : Nat} {f : YardFrame} {p : Chip × YardFrame} (hp : c.slotFrame src f = some p) (h : c.MemsOk) :
    p.1.MemsOk := by
  unfold Chip.slotFrame at hp
  dsimp only at hp
  split at hp
  case h_1 => cases hp
  case h_2 c1 g hseq =>
    obtain ⟨d, hd, rfl⟩ := Option.map_eq_some_iff.mp hp
    refine Chip.memsOk_eq (Chip.hide_upYard _ _ (by decide)) ?_
    have hsent := Chip.memsOk_yardSend hd (Chip.memsOk_withSeq hseq h)
    split
    · exact Chip.memsOk_eq (Chip.hide_upYard _ _ (by decide)) hsent
    · exact hsent

theorem Chip.memsOk_dropSpent (c : Chip) (h : c.MemsOk) : c.dropSpent.MemsOk := by
  simp only [Chip.dropSpent, Chip.MemsOk, Chip.memsOk_commitYard, Chip.hide_upYard, Chip.hide_reportEvent, Chip.hide_ite, Chip.memsWf_ite, h,
    nonMem_all, and_self, ite_self]

theorem Chip.memsOk_ownSlot (c : Chip) (own : Nat) (h : c.MemsOk) : (c.ownSlot own).MemsOk := by
  have hspent : (c.dropSpent.upYard (fun y => { y with lastSent := 0 })).MemsOk :=
    Chip.memsOk_eq (Chip.hide_upYard _ _ (by decide)) (Chip.memsOk_dropSpent _ h)
  unfold Chip.ownSlot
  dsimp only
  split
  · exact hspent
  · split
    case h_1 => exact hspent
    case h_2 =>
      split
      case h_1 => exact hspent
      case h_2 hsent => exact Chip.memsOk_eq (Chip.hide_keepSent _ _ _ (by decide)) (Chip.memsOk_slotFrame hsent hspent)

theorem Chip.memsOk_leadSlot (c : Chip) (s : Nat) (h : c.MemsOk) : (c.leadSlot s).MemsOk := by
  obtain ⟨send, hsender⟩ := Chip.exists_yardSend
  unfold Chip.leadSlot
  rw [← hsender]
  split
  case h_1 => exact h
  case h_2 =>
    split
    case h_1 => exact h
    case h_2 hseq =>
      split
      case h_1 => exact h
      case h_2 hsend =>
        rw [hsender] at hsend
        exact Chip.memsOk_eq (Chip.hide_upYard _ _ (by decide)) (Chip.memsOk_yardSend hsend (Chip.memsOk_withSeq hseq h))

theorem Chip.memsOk_offerSlot {c d : Chip} {s : Nat} (hd : c.offerSlot s = some d) (h : c.MemsOk) : d.MemsOk := by
  unfold Chip.offerSlot at hd
  split at hd
  case h_2 => cases hd
  case h_1 =>
    split at hd
    · cases hd
    · split at hd
      case h_1 => cases hd
      case h_2 hseq =>
        obtain ⟨e, he, rfl⟩ := Option.map_eq_some_iff.mp hd
        exact Chip.memsOk_eq (Chip.hide_upYard _ _ (by decide)) (Chip.memsOk_yardSend he (Chip.memsOk_withSeq hseq h))

theorem Chip.memsOk_slotRest (c : Chip) (s : Nat) (h : c.MemsOk) : (c.slotRest s).MemsOk := by
  have hlisten : ∀ r units us ms, (c.yardListen r units us ms).MemsOk :=
    fun r units us ms => Chip.memsOk_eq (Chip.hide_yardListen _ _ _ _ _ (by decide)) h
  unfold Chip.slotRest
  split
  · split
    · exact Chip.memsOk_sendBeacon _ h
    · split
      case h_1 hoffer => exact Chip.memsOk_offerSlot hoffer h
      case h_2 =>
        split
        · exact Chip.memsOk_leadSlot _ _ h
        · exact hlisten _ _ _ _
  · split
    case h_1 =>
      split
      · exact Chip.memsOk_eq (Chip.hide_beaconWindow _ (by decide)) h
      · exact Chip.memsOk_eq (Chip.hide_joinSlot _ _ (by decide)) h
    case h_2 own _ =>
      dsimp only
      have hslot : (if s = own then c.ownSlot own
          else if s ≠ 0 ∧ s = c.yard.downSlot then c.yardListen c.yard.sec.slot c.keeper.units 20000 228 else c).MemsOk := by
        split
        · exact Chip.memsOk_ownSlot _ _ h
        · split
          · exact hlisten _ _ _ _
          · exact h
      split
      · exact Chip.memsOk_eq (Chip.hide_beaconWindow _ (by decide)) hslot
      · exact hslot

theorem Chip.memsOk_yardSlot (c : Chip) (s : Nat) (h : c.MemsOk) : (c.yardSlot s).MemsOk := by
  unfold Chip.yardSlot
  split
  · exact h
  · exact Chip.memsOk_slotRest _ _ (Chip.memsOk_minislot _ _ (Chip.memsOk_eq (Chip.hide_upYard _ _ (by decide)) h))

/-! ### The yard, receiving -/

theorem Chip.memsOk_acked (c : Chip) (h : c.MemsOk) : c.acked.MemsOk := by
  simp only [Chip.acked, Chip.MemsOk, Chip.hide_yardEvent, Chip.memsOk_commitYard, Chip.hide_upYard, Chip.hide_reportEvent, Chip.hide_ite,
    Chip.memsWf_ite, h, nonMem_all, and_self, ite_self]

theorem Chip.memsOk_beaconRow (c : Chip) (f : RxYard) (body : List Byte) (dup : Bool) (h : c.MemsOk) : (c.beaconRow f body dup).MemsOk := by
  simp only [Chip.beaconRow]
  repeat' split
  all_goals simp only [Chip.MemsOk, Chip.hide_dropHead, Chip.hide_dupHead, Chip.memsOk_acked, Chip.hide_takeTime, Chip.hide_upYard,
    Chip.hide_yardAccept, h, nonMem_all, and_self]

theorem Chip.memsOk_offerRow (c : Chip) (f : RxYard) (body : List Byte) (_dup : Bool) (h : c.MemsOk) : (c.offerRow f body _dup).MemsOk := by
  simp only [Chip.offerRow, Chip.MemsOk, Chip.hide_dropHead, Chip.memsOk_commitYard, Chip.hide_upYard, Chip.hide_ite, Chip.memsWf_ite, h,
    nonMem_all, ite_self]

theorem Chip.memsOk_yardLoad (c : Chip) (h : c.MemsOk) : c.yardLoad.MemsOk := by
  simp only [Chip.yardLoad, Chip.MemsOk, Chip.hide_setFld, Chip.memsOk_commitYard, Chip.hide_upYard, Chip.hide_unbuckle, Chip.hide_draw,
    Chip.hide_ite, Chip.memsWf_ite, h, nonMem_all, and_self, ite_self]

/-! ### The front end -/

theorem Chip.memsOk_modeReached (c : Chip) (h : c.MemsOk) : c.modeReached.MemsOk := by
  simp only [Chip.modeReached]
  repeat' split
  all_goals simp only [Chip.MemsOk, Chip.hide_frontFollow, Chip.hide_flushFor, Chip.memsOk_modeChanged, h, nonMem_all, and_self]

/-! ### Burnish -/

theorem Chip.memsOk_burnishCommit (c : Chip) (h : c.MemsOk) : c.burnishCommit.MemsOk := by
  simp only [Chip.burnishCommit, Chip.MemsOk, Chip.hide_upBurnish, Chip.memsOk_requestCommit, Chip.hide_burnishEnd, Chip.hide_upTherm,
    Chip.hide_ite, Chip.memsWf_ite, h, nonMem_all, and_self, ite_self]

theorem Chip.memsOk_afterStep (c : Chip) (m : Nat) (exc : Bool) (h : c.MemsOk) : (c.afterStep m exc).MemsOk := by
  simp only [Chip.afterStep, Chip.MemsOk, Chip.hide_useExc, Chip.memsOk_burnishCommit, Chip.hide_burnishSwap, Chip.hide_burnishEnd, Chip.hide_ite,
    Chip.memsWf_ite, h, nonMem_all, and_self, ite_self]

theorem Chip.memsOk_stepEnd (c0 : Chip) (m : Nat) (value : Int) (mon : Int) (temp : Int) (h : c0.MemsOk) : (c0.stepEnd m value mon temp).MemsOk := by
  simp only [Chip.stepEnd]
  repeat' split
  all_goals simp only [Chip.MemsOk, Chip.hide_upBurnish, Chip.memsOk_afterStep, Chip.hide_goOn, Chip.hide_stealEntry, Chip.hide_upSeq,
    Chip.hide_frontSettle, Chip.hide_burnishBegin, h, nonMem_all, and_self]

/-! ### Starts -/

theorem Chip.memsOk_afresh (c : Chip) (trigger : Nat) (h : c.MemsOk) : (c.afresh trigger).MemsOk := by
  have hheld : ∀ (d : Chip) (g : Girth), d.MemsOk → Chip.MemsOk { d.heldBits with girth := g } := fun d g hd =>
    Chip.memsOk_eq ((Chip.hide_with_girth _ _ (by decide)).trans (Chip.hide_heldBits _ (by decide))) hd
  exact hheld _ _ ((Chip.memsOk_iff _).mpr ⟨Chip.mramOk (c := c) h, (c.memsOk_iff.mp h).2.1, rfl⟩)

theorem Chip.memsOk_lapseFound (c : Chip) (h : c.MemsOk) : c.lapseFound.MemsOk := by
  simp only [Chip.lapseFound, Chip.MemsOk, Chip.memsOk_nextEra, Chip.hide_journal, Chip.hide_upStart, Chip.hide_ite,
    Chip.memsWf_ite, h, nonMem_all, ite_self]

theorem Chip.memsOk_countStart (c : Chip) (h : c.MemsOk) : c.countStart.MemsOk := by
  simp only [Chip.countStart, Chip.MemsOk, Chip.hide_upStart, Chip.memsOk_commitStart, Chip.hide_ite, Chip.memsWf_ite, h, nonMem_all,
    ite_self]

theorem Chip.memsOk_beginStart (c : Chip) (trigger : Nat) (h : c.MemsOk) : (c.beginStart trigger).MemsOk := by
  have hread : (((c.norCut).afresh trigger).readUpd).readRecord.MemsOk :=
    Chip.memsOk_eq (Chip.hide_readRecord _ (by decide)) (Chip.memsOk_eq (Chip.hide_readUpd _ (by decide))
      (Chip.memsOk_afresh _ _ (Chip.memsOk_norCut _ h)))
  unfold Chip.beginStart
  refine Chip.memsOk_countStart _ (Chip.memsOk_eq (Chip.hide_burnishFound _ (by decide)) ?_)
  split
  · exact Chip.memsOk_lapseFound _ hread
  · exact hread

theorem Chip.memsOk_startFail (c : Chip) (cause : Nat) (h : c.MemsOk) : (c.startFail cause).MemsOk := by
  simp only [Chip.startFail, Chip.MemsOk, Chip.hide_setLanes, Chip.hide_upModes, Chip.hide_upStart, Chip.memsOk_recordCause, h, nonMem_all]

theorem Chip.memsOk_startCause (c : Chip) (cause : Nat) (h : c.MemsOk) : (c.startCause cause).MemsOk := by
  simp only [Chip.startCause, Chip.MemsOk, Chip.memsOk_startFail, Chip.memsOk_recordCause, Chip.hide_ite, Chip.memsWf_ite, h,
    ite_self]

theorem Chip.memsOk_startCmd (c : Chip) (key : Word) (h : c.MemsOk) : (c.startCmd key).MemsOk := by
  simp only [Chip.startCmd, Chip.MemsOk, Chip.memsOk_beginStart, Chip.hide_ite, Chip.memsWf_ite, h, ite_self]

theorem Chip.memsOk_enterStirrup (c : Chip) (h : c.MemsOk) : c.enterStirrup.MemsOk := by
  simp only [Chip.enterStirrup, Chip.MemsOk, Chip.hide_setBits, Chip.hide_postMode, Chip.hide_upModes, Chip.hide_draw, Chip.hide_upStart,
    Chip.memsOk_commitStart, h, nonMem_all]

theorem Chip.memsOk_recoveryAct (c : Chip) (op arg : Nat) (h : c.MemsOk) : (c.recoveryAct op arg).MemsOk := by
  have hcommit : (c.commitStart { c.start.record with unfinished := 0, state := 0, stirrupCause := 0 }).MemsOk := Chip.memsOk_commitStart _ _ h
  unfold Chip.recoveryAct
  refine Chip.memsOk_beginStart _ _ (Chip.memsOk_eq (Chip.hide_upStart _ _ (by decide)) ?_)
  split
  · exact Chip.memsOk_commitUpdNow _ _ hcommit
  · exact hcommit

/-- Bytes written one run after another. -/
theorem memWrites_wf (d : Byte) (ws : List (Nat × List Byte)) (m : List Host.Cell) (h : Memory.wf d m = true) :
    Memory.wf d (ws.foldl (fun n b => memWrite d n b.1 b.2) m) = true := by
  induction ws generalizing m with
  | nil => exact h
  | cons w ws ih => exact ih _ (memWrite_wf _ _ _ _ h)

theorem Chip.memsOk_recoveryCheck (c : Chip) (cmd : List Byte) (h : c.MemsOk) : (c.recoveryCheck cmd).MemsOk := by
  simp only [Chip.recoveryCheck, Chip.MemsOk, Chip.hide_setFld, Chip.memsOk_recoveryAct, Chip.hide_draw, Chip.hide_upStart, Chip.hide_ite,
    Chip.memsWf_ite, h, nonMem_all, ite_self]

theorem Chip.memsOk_recovery (c : Chip) (frame : Option (List Byte)) (h : c.MemsOk) : (c.recovery frame).MemsOk := by
  simp only [Chip.recovery, Chip.MemsOk, Chip.memsOk_recoveryCheck, Chip.hide_setFld, Chip.hide_upStart, Chip.hide_ite, Chip.memsWf_ite, h,
    nonMem_all, ite_self]

theorem Chip.memsOk_stirrupFrame (c : Chip) (payload : List Byte) (crc : Word) (h : c.MemsOk) : (c.stirrupFrame payload crc).MemsOk := by
  simp only [Chip.stirrupFrame]
  repeat' split
  all_goals simp only [Chip.MemsOk, Chip.memsOk_recoveryCheck, Chip.hide_upRadio, Chip.hide_rxOver, h, nonMem_all, and_self]

/-! ### Lanes -/

theorem Chip.memsOk_causeNow (c : Chip) (cause : Nat) (h : c.MemsOk) : (c.causeNow cause).MemsOk := by
  simp only [Chip.causeNow, Chip.MemsOk, Chip.memsOk_startCause, Chip.memsOk_recordCause, Chip.hide_ite, Chip.memsWf_ite, h,
    ite_self]

theorem Chip.memsOk_laneGone (c : Chip) (l : Nat) (h : c.MemsOk) : (c.laneGone l).MemsOk := by
  simp only [Chip.laneGone, Chip.MemsOk, Chip.hide_fieldGone, Chip.hide_radioGone, Chip.memsOk_causeNow, Chip.hide_converterGone, Chip.hide_ite,
    h, nonMem_all, and_self, ite_self]

/-! ### Timebases -/

theorem Chip.memsOk_tbkFail (c : Chip) (cause : Nat) (err : Int) (h : c.MemsOk) : (c.tbkFail cause err).MemsOk := by
  simp only [Chip.tbkFail, Chip.MemsOk, Chip.hide_setBits, Chip.hide_forceSwitch, Chip.hide_tbEvent, Chip.memsOk_causeNow, Chip.hide_upTb,
    Chip.hide_ite, Chip.memsWf_ite, h, nonMem_all, and_self, ite_self]

theorem Chip.memsOk_tbmFail (c : Chip) (cause : Nat) (err : Int) (h : c.MemsOk) : (c.tbmFail cause err).MemsOk := by
  simp only [Chip.tbmFail, Chip.MemsOk, Chip.hide_setBits, Chip.hide_radioGone, Chip.hide_forceSwitch, Chip.hide_tbEvent, Chip.hide_mlgLost,
    Chip.memsOk_causeNow, Chip.hide_upTb, Chip.hide_ite, Chip.memsWf_ite, h, nonMem_all, and_self, ite_self]

/-! ### The girth -/

theorem Chip.memsOk_goSilent (c : Chip) (l : Nat) (h : c.MemsOk) : (c.goSilent l).MemsOk := by
  simp only [Chip.goSilent, Chip.MemsOk, Chip.hide_sendHeld, Chip.hide_upGirth, Chip.hide_setBits, Chip.hide_setLane, Chip.hide_girthEvent,
    Chip.hide_dropHeld, Chip.hide_frontSettle, Chip.memsOk_laneGone, h, nonMem_all, and_self]

theorem Chip.memsOk_handledAs (c : Chip) (l : Nat) (h : c.MemsOk) : (c.handledAs l).MemsOk := by
  simp only [Chip.handledAs, Chip.MemsOk, Chip.hide_frontSettle, Chip.memsOk_laneGone, h, nonMem_all, and_self]

/-! ### The memory port -/

theorem Chip.memsOk_discover (c : Chip) (part : NorPart) (h : c.MemsOk) : (c.discover part).1.MemsOk := by
  obtain ⟨hmram, hnor, hbuf⟩ := c.memsOk_iff.mp h
  have hpart : (c.upMem (fun m => { m with
      part := part, nor := part.programmed.foldl (fun n b => memWrite 0xFF n b.1 b.2) m.nor, retries := BitVec.ofNat 16 part.retries,
      lines := [], omitCmd := false, resetOwed := false })).MemsOk := (Chip.memsOk_iff _).mpr ⟨hmram, memWrites_wf _ _ _ hnor, hbuf⟩
  unfold Chip.discover
  dsimp only
  split
  · exact Chip.memsOk_port (fun _ => rfl) (fun _ => rfl) (Chip.memsOk_eq (Chip.hide_quadEnable _ _ _ (by decide)) hpart)
  · exact Chip.memsOk_port (fun _ => rfl) (fun _ => rfl) hpart

theorem Chip.memsOk_serveRead (c : Chip) (a : Nat) (n : Nat) (h : c.MemsOk) : (c.serveRead a n).MemsOk := by
  simp only [Chip.serveRead, Chip.MemsOk, Chip.memsOk_port, h, implies_true]

theorem Chip.memsOk_norAnswer (c : Chip) (a : Nat) (h : c.MemsOk) : (c.norAnswer a).MemsOk := by
  simp only [Chip.norAnswer, Chip.MemsOk, Chip.memsOk_port, h, implies_true]

theorem Chip.memsOk_tryRead (c : Chip) (a : Nat) (n : Nat) (h : c.MemsOk) : (c.tryRead a n).MemsOk := by
  simp only [Chip.tryRead, Chip.MemsOk, Chip.memsOk_serveRead, Chip.memsOk_port, Chip.hide_ite, Chip.memsWf_ite, h, ite_self,
    implies_true]

theorem Chip.memsOk_mappedRead (c : Chip) (a : Nat) (n : Nat) (h : c.MemsOk) : (c.mappedRead a n).MemsOk := by
  simp only [Chip.mappedRead]
  repeat' split
  all_goals simp only [Chip.MemsOk, Chip.memsOk_tryRead, Chip.memsOk_norAnswer, h]

theorem Chip.memsOk_sendProgram (c : Chip) (p : Program) (h : c.MemsOk) : (c.sendProgram p).MemsOk := by
  simp only [Chip.sendProgram, Chip.MemsOk, Chip.memsOk_port, h, implies_true]

theorem Chip.memsOk_pageProgram (c : Chip) (a : Nat) (bs : List Byte) (h : c.MemsOk) : (c.pageProgram a bs).MemsOk := by
  simp only [Chip.pageProgram]
  repeat' split
  all_goals simp only [Chip.MemsOk, Chip.memsOk_sendProgram, Chip.memsOk_port, Chip.memsOk_norAnswer, h, implies_true]

theorem Chip.memsOk_sectorErase (c : Chip) (a : Nat) (h : c.MemsOk) : (c.sectorErase a).MemsOk := by
  simp only [Chip.sectorErase]
  repeat' split
  all_goals simp only [Chip.MemsOk, Chip.memsOk_port, Chip.memsOk_norAnswer, h, implies_true]

theorem Chip.memsOk_startXfer (c : Chip) (x : Transfer2) (h : c.MemsOk) : (c.startXfer x).MemsOk := by
  simp only [Chip.startXfer, Chip.MemsOk, Chip.memsOk_port, h, implies_true]

theorem Chip.memsOk_xferGo (c : Chip) (h : c.MemsOk) : c.xferGo.MemsOk := by
  simp only [Chip.xferGo, Chip.MemsOk, Chip.hide_setBits, Chip.memsOk_startXfer, Chip.memsOk_port, Chip.hide_ite, Chip.memsWf_ite, h, nonMem_all,
    ite_self, implies_true]

theorem Chip.memsOk_nextInit (c : Chip) (h : c.MemsOk) : c.nextInit.MemsOk := by
  simp only [Chip.nextInit]
  repeat' split
  all_goals simp only [Chip.MemsOk, Chip.memsOk_startXfer, Chip.memsOk_port, h, implies_true]

theorem Chip.memsOk_busFree (c : Chip) (h : c.MemsOk) : c.busFree.MemsOk := by
  unfold Chip.busFree
  extract_lets c1 c2 c3
  have hwaited : c1.MemsOk := Chip.memsOk_eq (Chip.hide_memWaited _ (by decide)) h
  have hprogram : c2.MemsOk := by
    unfold c2
    split
    · exact Chip.memsOk_if (Chip.memsOk_sendProgram _ _ hwaited) hwaited
    · exact hwaited
  have hread : c3.MemsOk := by
    unfold c3
    split
    · exact Chip.memsOk_tryRead _ _ _ hprogram
    · exact hprogram
  exact Chip.memsOk_nextInit _ hread

theorem Chip.memsOk_endXfer (c : Chip) (x : Transfer2) (res : Nat) (h : c.MemsOk) : (c.endXfer x res).MemsOk := by
  simp only [Chip.endXfer, Chip.MemsOk, Chip.memsOk_busFree, Chip.hide_xferEvent, Chip.memsOk_port, h, nonMem_all,
    implies_true]

theorem Chip.memsOk_xferDone (c : Chip) (data : List Byte) (h : c.MemsOk) : (c.xferDone data).MemsOk := by
  unfold Chip.xferDone
  split
  · exact h
  · split
    · exact h
    · refine Chip.memsOk_endXfer _ _ _ ?_
      split
      · exact Chip.memsOk_buf (fun _ => rfl) (fun _ => rfl) h
      · exact h

theorem Chip.memsOk_chainEnd (c : Chip) (h : c.MemsOk) : c.chainEnd.MemsOk := by
  simp only [Chip.chainEnd]
  repeat' split
  all_goals simp only [Chip.MemsOk, Chip.memsOk_busFree, Chip.memsOk_port, h, implies_true]

theorem Chip.memsOk_eraseReadTimeout (c : Chip) (h : c.MemsOk) : c.eraseReadTimeout.MemsOk := by
  simp only [Chip.eraseReadTimeout]
  repeat' split
  all_goals simp only [Chip.MemsOk, Chip.memsOk_endXfer, Chip.memsOk_port, h, implies_true]

theorem Chip.memsOk_eraseDone (c : Chip) (h : c.MemsOk) : c.eraseDone.MemsOk := by
  unfold Chip.eraseDone
  split
  · split
    · exact Chip.memsOk_busFree _ (Chip.memsOk_nor (fun _ => rfl) (fun _ => rfl) h)
    · exact h
  · exact h

theorem Chip.memsOk_statusPoll (c : Chip) (wip intact : Bool) (h : c.MemsOk) : (c.statusPoll wip intact).MemsOk := by
  unfold Chip.statusPoll
  split
  · exact h
  · split
    case h_2 => exact Chip.memsOk_eraseDone _ h
    case h_1 p _ =>
      split
      · have hended : (c.upMem (fun m => { m with program := none, tripGrace := false })).MemsOk :=
          Chip.memsOk_port (fun _ => rfl) (fun _ => rfl) h
        refine Chip.memsOk_busFree _ ?_
        split
        · exact Chip.memsOk_nor (fun _ => rfl) (fun _ => rfl) hended
        · exact Chip.memsOk_norAnswer _ _ (Chip.memsOk_eq (Chip.hide_setBits _ _ _ (by decide)) (Chip.memsOk_norSpoil _ _ _ hended))
      · exact Chip.memsOk_eraseDone _ h

theorem Chip.memsOk_memInitArm (c : Chip) (h : c.MemsOk) : c.memInitArm.MemsOk := by
  unfold Chip.memInitArm
  extract_lets res c1
  have hshown : c1.MemsOk := Chip.memsOk_eq (Chip.hide_setFld _ _ _ _ _ (by decide)) (Chip.memsOk_eq (Chip.hide_armLast _ _ _ (by decide)) h)
  split
  · exact Chip.memsOk_nextInit _ (Chip.memsOk_port (fun _ => rfl) (fun _ => rfl) (Chip.memsOk_eq (Chip.hide_applyWords _ _ (by decide)) hshown))
  · exact hshown

theorem Chip.memsOk_norDirty (c : Chip) (cause a : Nat) (h : c.MemsOk) : (c.norDirty cause a).MemsOk :=
  Chip.memsOk_eq ((Chip.hide_journal _ _ _ _ _ _ (by decide)).trans (Chip.hide_setBits _ _ _ (by decide))) (Chip.memsOk_port (fun _ => rfl)
    (fun _ => rfl) h)

/-- A program that is cut off leaves unknown bytes, and its address as not reliable. -/
theorem Chip.memsOk_spoilt {c : Chip} (f : MemPort → MemPort) (a n cause : Nat) (hnor : ∀ m, (f m).nor = m.nor) (hbuf : ∀ m, (f m).buf = m.buf)
    (h : c.MemsOk) : (((c.norSpoil a n).upMem f).norDirty cause a).MemsOk :=
  Chip.memsOk_norDirty _ _ _ (Chip.memsOk_port hnor hbuf (Chip.memsOk_norSpoil _ _ _ h))

theorem Chip.memsOk_norAbandon (c : Chip) (cause : Nat) (h : c.MemsOk) : (c.norAbandon cause).MemsOk := by
  unfold Chip.norAbandon
  extract_lets c1
  have hprogram : c1.MemsOk := by
    unfold c1
    split
    · exact Chip.memsOk_if (Chip.memsOk_spoilt _ _ _ _ (fun _ => rfl) (fun _ => rfl) h) (Chip.memsOk_port (fun _ => rfl) (fun _ => rfl) h)
    · exact h
  split
  · exact Chip.memsOk_spoilt _ _ _ _ (fun _ => rfl) (fun _ => rfl) hprogram
  · exact hprogram

theorem Chip.memsOk_norSilent (c : Chip) (h : c.MemsOk) : c.norSilent.MemsOk := by
  unfold Chip.norSilent
  split
  · split
    · exact h
    · exact Chip.memsOk_startFail _ _ (Chip.memsOk_port (fun _ => rfl) (fun _ => rfl) h)
  · split
    · exact h
    · refine Chip.memsOk_recordCause _ _ _ (Chip.memsOk_eq (Chip.hide_protect _ _ _ _ _ _ _ (by decide))
        (Chip.memsOk_eq (Chip.hide_setBits _ _ _ (by decide)) ?_))
      exact Chip.memsOk_port (fun _ => rfl) (fun _ => rfl) (Chip.memsOk_norCut _ h)

theorem Chip.memsOk_memTrip (c : Chip) (h : c.MemsOk) : c.memTrip.MemsOk := by
  unfold Chip.memTrip
  extract_lets c1
  have hcut : c1.MemsOk := Chip.memsOk_port (fun _ => rfl) (fun _ => rfl) h
  split
  · refine Chip.memsOk_if (Chip.memsOk_if ?_ ?_) hcut
    · exact Chip.memsOk_norDirty _ _ _ (Chip.memsOk_port (fun _ => rfl) (fun _ => rfl) hcut)
    · exact Chip.memsOk_spoilt _ _ _ _ (fun _ => rfl) (fun _ => rfl) hcut
  · exact hcut

theorem Chip.memsOk_memGraceOver (c : Chip) (h : c.MemsOk) : c.memGraceOver.MemsOk := by
  unfold Chip.memGraceOver
  split
  · split
    · exact Chip.memsOk_spoilt _ _ _ _ (fun _ => rfl) (fun _ => rfl) h
    · exact Chip.memsOk_port (fun _ => rfl) (fun _ => rfl) h
  · exact h

theorem Chip.memsOk_memResume (c : Chip) (h : c.MemsOk) : c.memResume.MemsOk := by
  simp only [Chip.memResume, Chip.MemsOk, Chip.memsOk_port, Chip.hide_ite, Chip.memsWf_ite, h, ite_self, implies_true]

theorem Chip.memsOk_memVioLost (c : Chip) (h : c.MemsOk) : c.memVioLost.MemsOk := by
  unfold Chip.memVioLost
  extract_lets c1 c2
  have hlost : c1.MemsOk := Chip.memsOk_port (fun _ => rfl) (fun _ => rfl) h
  have hended : c2.MemsOk := by
    unfold c2
    split
    · exact Chip.memsOk_eq (Chip.hide_xferEvent _ _ (by decide)) (Chip.memsOk_port (fun _ => rfl) (fun _ => rfl) hlost)
    · exact hlost
  exact Chip.memsOk_eq (Chip.hide_setBits _ _ _ (by decide)) (Chip.memsOk_norAbandon _ _ hended)

/-! ### Temperatures -/

theorem Chip.memsOk_writeHour (c : Chip) (m : Nat) (h : c.MemsOk) : (c.writeHour m).MemsOk := by
  simp only [Chip.writeHour, Chip.MemsOk, Chip.hide_upMeter, Chip.memsOk_record, h, nonMem_all]

theorem Chip.memsOk_flushDeferred (c : Chip) (h : c.MemsOk) : c.flushDeferred.MemsOk := by
  unfold Chip.flushDeferred
  extract_lets hours c1 recs c2 c3 hs c4
  have hhours : c1.MemsOk := Chip.memsOk_eq (Chip.hide_upKeeper _ _ (by decide)) (Chip.memsOk_foldl (fun c m hc => Chip.memsOk_writeHour c m hc) h)
  have hrecords : c2.MemsOk := Chip.memsOk_foldl
    (fun c e hc => Chip.memsOk_eq (Chip.hide_theftNote _ _ (by decide)) (Chip.memsOk_recordWords _ _ hc))
    (Chip.memsOk_eq (Chip.hide_upTherm _ _ (by decide)) hhours)
  have hcommits : c4.MemsOk := Chip.memsOk_mram (fun _ => rfl)
    (Chip.memsOk_eq ((Chip.hide_upTherm _ _ (by decide)).trans (Chip.hide_heldCal _ (by decide))) hrecords)
  exact Chip.memsOk_eq (Chip.hide_with_acq _ _ (by decide)) hcommits

theorem Chip.memsOk_tripCommits (c : Chip) (h : c.MemsOk) : c.tripCommits.MemsOk := by
  simp only [Chip.tripCommits, Chip.MemsOk, Chip.hide_burnishInterrupt, Chip.memsOk_mram, Chip.hide_upTherm, Chip.hide_ite, h,
    nonMem_all, and_self, ite_self, implies_true]

theorem Chip.memsOk_tripBegins (c : Chip) (die : Nat) (reading : Int) (h : c.MemsOk) : (c.tripBegins die reading).MemsOk := by
  unfold Chip.tripBegins
  extract_lets e c1 c2 c3
  have hevent : c1.MemsOk :=
    Chip.memsOk_eq ((Chip.hide_thermEvent _ _ _ _ (by decide)).trans (Chip.hide_setBits _ _ _ (by decide))) h
  have hrecord : c2.MemsOk := Chip.memsOk_recordCause _ _ _ (Chip.memsOk_recordWords _ _ hevent)
  have hstopped : c3.MemsOk := Chip.memsOk_eq ((Chip.hide_tripFix _ (by decide)).trans (Chip.hide_abortRadio _ _ (by decide)))
    (Chip.memsOk_tripCommits _ (Chip.memsOk_memTrip _ hrecord))
  exact Chip.memsOk_if (Chip.memsOk_eq (Chip.hide_upStart _ _ (by decide)) hstopped) hstopped

theorem Chip.memsOk_tripEnds (c : Chip) (h : c.MemsOk) : c.tripEnds.MemsOk := by
  simp only [Chip.tripEnds, Chip.MemsOk, Chip.memsOk_memResume, Chip.hide_thermEvent, Chip.hide_upTherm, Chip.hide_warningEnds, Chip.hide_upStart,
    Chip.hide_leaveHold, Chip.hide_ite, h, nonMem_all, and_self, ite_self]

theorem Chip.memsOk_thermalSample (c : Chip) (ts : List Int) (h : c.MemsOk) : (c.thermalSample ts).MemsOk := by
  unfold Chip.thermalSample
  extract_lets c1 hottest c2 hot c3 c4 c5
  have hread : c1.MemsOk := Chip.memsOk_eq ((Chip.hide_countBelow _ (by decide)).trans (Chip.hide_newTemps _ _ (by decide))) h
  have hwarned : c2.MemsOk := Chip.memsOk_if (Chip.memsOk_eq (Chip.hide_warningBegins _ (by decide)) hread) hread
  have hdies : c3.MemsOk := Chip.memsOk_eq (Chip.hide_upTherm _ _ (by decide)) hwarned
  have htrip : c4.MemsOk := Chip.memsOk_if hdies (Chip.memsOk_tripBegins _ _ _ hdies)
  have hended : c5.MemsOk := Chip.memsOk_if (Chip.memsOk_tripEnds _ htrip)
    (Chip.memsOk_if (Chip.memsOk_eq (Chip.hide_warningEnds _ (by decide)) htrip) htrip)
  exact Chip.memsOk_if (Chip.memsOk_flushDeferred _ hended) hended

/-! ### Updates -/

theorem Chip.memsOk_upRec (c : Chip) (f : UpdRec → UpdRec) (h : c.MemsOk) : (c.upRec f).MemsOk := by
  simp only [Chip.upRec, Chip.MemsOk, Chip.memsOk_commitUpd, h]

theorem Chip.memsOk_updErr (c : Chip) (e : Nat) (h : c.MemsOk) : (c.updErr e).MemsOk := by
  simp only [Chip.updErr, Chip.MemsOk, Chip.hide_upUpd, Chip.memsOk_upRec, Chip.hide_ite, Chip.memsWf_ite, h, nonMem_all, ite_self]

theorem Chip.memsOk_startAfter (c : Chip) (h : c.MemsOk) : c.startAfter.MemsOk := by
  simp only [Chip.startAfter, Chip.MemsOk, Chip.hide_upUpd, Chip.memsOk_beginStart, Chip.hide_ite, Chip.memsWf_ite, h, nonMem_all, ite_self]

theorem Chip.memsOk_updBegin (c : Chip) (e : Entry) (h : c.MemsOk) : (c.updBegin e).MemsOk := by
  simp only [Chip.updBegin, Chip.MemsOk, Chip.hide_upUpd, Chip.memsOk_upRec, Chip.memsOk_updErr, Chip.hide_ite, Chip.memsWf_ite, h, nonMem_all,
    ite_self]

theorem Chip.memsOk_updDataEntry (c : Chip) (e : Entry) (h : c.MemsOk) : (c.updDataEntry e).MemsOk := by
  simp only [Chip.updDataEntry, Chip.MemsOk, Chip.hide_upUpd, Chip.memsOk_updErr, Chip.hide_ite, Chip.memsWf_ite, h, nonMem_all, ite_self]

theorem Chip.memsOk_updActivate (c : Chip) (e : Entry) (h : c.MemsOk) : (c.updActivate e).MemsOk := by
  simp only [Chip.updActivate, Chip.MemsOk, Chip.memsOk_upRec, Chip.hide_updEvent, Chip.memsOk_updErr, Chip.memsOk_startAfter, Chip.hide_ite,
    Chip.memsWf_ite, h, nonMem_all, ite_self]

theorem Chip.memsOk_updAbort (c : Chip) (_e : Entry) (h : c.MemsOk) : (c.updAbort _e).MemsOk := by
  simp only [Chip.updAbort, Chip.MemsOk, Chip.hide_upUpd, Chip.memsOk_upRec, Chip.memsOk_updErr, Chip.hide_ite, Chip.memsWf_ite, h, nonMem_all,
    ite_self]

theorem Chip.memsOk_updRevert (c : Chip) (_e : Entry) (h : c.MemsOk) : (c.updRevert _e).MemsOk := by
  simp only [Chip.updRevert, Chip.MemsOk, Chip.memsOk_upRec, Chip.memsOk_updErr, Chip.memsOk_startAfter, Chip.hide_ite, Chip.memsWf_ite, h,
    ite_self]

theorem Chip.memsOk_chunkFails (c : Chip) (b : Staging) (e : Nat) (h : c.MemsOk) : (c.chunkFails b e).MemsOk := by
  simp only [Chip.chunkFails, Chip.MemsOk, Chip.hide_upUpd, Chip.memsOk_updErr, h, nonMem_all]

theorem Chip.memsOk_chunkWrite (c : Chip) (intact : Bool) (h : c.MemsOk) : (c.chunkWrite intact).MemsOk := by
  unfold Chip.chunkWrite
  extract_lets total
  refine Chip.memsOk_if h ?_
  split
  · exact h
  · extract_lets a
    have hspoilt : ∀ b e, ((c.norSpoil a 4096).chunkFails b e).MemsOk := fun b e => Chip.memsOk_chunkFails _ _ _ (Chip.memsOk_norSpoil _ _ _ h)
    refine Chip.memsOk_if (Chip.memsOk_chunkFails _ _ _ h) (Chip.memsOk_if (Chip.memsOk_if h (hspoilt _ _)) (Chip.memsOk_if (hspoilt _ _) ?_))
    exact Chip.memsOk_eq (Chip.hide_upUpd _ _ (by decide)) (Chip.memsOk_nor (fun _ => rfl) (fun _ => rfl) h)

theorem Chip.memsOk_chunkCommit (c : Chip) (h : c.MemsOk) : c.chunkCommit.MemsOk := by
  simp only [Chip.chunkCommit]
  repeat' split
  all_goals simp only [Chip.MemsOk, Chip.hide_upUpd, Chip.memsOk_upRec, Chip.hide_updEvent, h, nonMem_all]

theorem Chip.memsOk_verify (c : Chip) (h : c.MemsOk) : c.verify.MemsOk := by
  simp only [Chip.verify]
  repeat' split
  all_goals simp only [Chip.MemsOk, Chip.memsOk_upRec, Chip.hide_updEvent, Chip.memsOk_updErr, h, nonMem_all]

theorem Chip.memsOk_keyRoll (c : Chip) (h : c.MemsOk) : c.keyRoll.MemsOk := by
  simp only [Chip.keyRoll, Chip.MemsOk, Chip.hide_upUpd, Chip.memsOk_upRec, Chip.hide_draw, Chip.hide_ite, Chip.memsWf_ite, h, nonMem_all,
    ite_self]

/-! ### Settings -/

theorem Chip.memsOk_saveNow (c : Chip) (h : c.MemsOk) : c.saveNow.MemsOk := by
  simp only [Chip.saveNow, Chip.MemsOk, Chip.hide_saveRes, Chip.memsOk_requestCommit, Chip.hide_ite, Chip.memsWf_ite, h, nonMem_all,
    ite_self]

theorem Chip.memsOk_settingsSave (c : Chip) (h : c.MemsOk) : c.settingsSave.MemsOk := by
  simp only [Chip.settingsSave, Chip.MemsOk, Chip.hide_saveRes, Chip.hide_upUpd, Chip.memsOk_saveNow, Chip.hide_ite, Chip.memsWf_ite, h,
    nonMem_all, ite_self]

theorem Chip.memsOk_cleared (c : Chip) (f : Mram → Mram) (struct : Nat) (hf : ∀ m, (f m).bytes = m.bytes) (h : c.MemsOk) :
    (c.upMram (fun m => ((f m).clearCommitWord struct false).clearCommitWord struct true)).MemsOk :=
  Chip.memsOk_upMram (fun m hm => Mram.wf_clearCommitWord _ _ (Mram.wf_clearCommitWord _ _ (by rw [hf]; exact hm))) h

theorem Chip.memsOk_settingsClear (c : Chip) (h : c.MemsOk) : c.settingsClear.MemsOk := by
  have hres : ∀ (d : Chip) (r : Nat), d.MemsOk → (d.saveRes r).MemsOk := fun d r hd => Chip.memsOk_eq (Chip.hide_saveRes _ _ (by decide)) hd
  unfold Chip.settingsClear
  exact Chip.memsOk_if (hres _ _ h) (Chip.memsOk_if (hres _ _ (Chip.memsOk_requestCommit _ _ _ _ h))
    (hres _ _ (Chip.memsOk_cleared c (fun m => { m with commits := m.commits.filter (fun q => q.1 != 3) }) 3 (fun _ => rfl) h)))

theorem Chip.memsOk_settingsCtl (c : Chip) (key : Word) (h : c.MemsOk) : (c.settingsCtl key).MemsOk := by
  simp only [Chip.settingsCtl, Chip.MemsOk, Chip.memsOk_settingsSave, Chip.hide_saveRes, Chip.memsOk_settingsClear, Chip.hide_ite, Chip.memsWf_ite,
    h, nonMem_all, ite_self]

theorem Chip.memsOk_bootWrite (c : Chip) (slot : Nat) (h : c.MemsOk) : (c.bootWrite slot).MemsOk := by
  unfold Chip.bootWrite
  exact Chip.memsOk_if (Chip.memsOk_eq (Chip.hide_setBits _ _ _ (by decide)) h) (Chip.memsOk_nor (fun _ => rfl) (fun _ => rfl) h)

theorem Chip.memsOk_keyChange (c : Chip) (h : c.MemsOk) : c.keyChange.MemsOk := by
  simp only [Chip.keyChange, Chip.MemsOk, Chip.memsOk_upRec, Chip.memsOk_mram, Chip.hide_ite, Chip.memsWf_ite, h, ite_self,
    implies_true]

theorem Chip.memsOk_confirmed (c : Chip) (h : c.MemsOk) : c.confirmed.MemsOk := by
  unfold Chip.confirmed
  exact Chip.memsOk_keyChange _ (Chip.memsOk_bootWrite _ _
    (Chip.memsOk_if (Chip.memsOk_saveNow _ (Chip.memsOk_eq (Chip.hide_upUpd _ _ (by decide)) h)) h))

theorem Chip.memsOk_confirm (c : Chip) (h : c.MemsOk) : c.confirm.MemsOk := by
  simp only [Chip.confirm, Chip.MemsOk, Chip.hide_upUpd, Chip.memsOk_upRec, Chip.hide_updEvent, Chip.memsOk_confirmed, Chip.hide_ite,
    Chip.memsWf_ite, h, nonMem_all, ite_self]

theorem Chip.memsOk_trialCheck (c : Chip) (check : Nat) (h : c.MemsOk) : (c.trialCheck check).MemsOk := by
  simp only [Chip.trialCheck, Chip.MemsOk, Chip.memsOk_upRec, Chip.memsOk_confirm, Chip.hide_ite, Chip.memsWf_ite, h, ite_self]

theorem Chip.memsOk_checkFailed (c : Chip) (check : Nat) (h : c.MemsOk) : (c.checkFailed check).MemsOk := by
  simp only [Chip.checkFailed, Chip.MemsOk, Chip.hide_upUpd, Chip.memsOk_upRec, Chip.hide_failedCheckWait, Chip.hide_ite, Chip.memsWf_ite, h,
    nonMem_all, and_self, ite_self]

theorem Chip.memsOk_afterRecord (c : Chip) (h : c.MemsOk) : c.afterRecord.MemsOk := by
  simp only [Chip.afterRecord]
  repeat' split
  all_goals simp only [Chip.MemsOk, Chip.hide_upUpd, Chip.memsOk_beginStart, Chip.hide_failedCheckWait, Chip.memsOk_confirmed, h, nonMem_all,
    and_self]

theorem Chip.memsOk_committed (c : Chip) (struct : Nat) (h : c.MemsOk) : (c.committed struct).MemsOk := by
  simp only [Chip.committed, Chip.MemsOk, Chip.hide_saveRes, Chip.hide_upAcq, Chip.memsOk_afterRecord, Chip.hide_burnishCommitted, Chip.hide_ite,
    Chip.memsWf_ite, h, nonMem_all, and_self, ite_self]

theorem Chip.memsOk_bankCommit (c : Chip) (h : c.MemsOk) : c.bankCommit.MemsOk := by
  unfold Chip.bankCommit
  split
  · exact h
  · extract_lets c1
    have hrest : c1.MemsOk := Chip.memsOk_mram (fun _ => rfl) h
    exact Chip.memsOk_if (Chip.memsOk_committed _ _ (Chip.memsOk_cleared _ id _ (fun _ => rfl) hrest))
      (Chip.memsOk_committed _ _ (Chip.memsOk_commitNow _ _ _ _ hrest))

/-! ### Registers -/

theorem Chip.memsOk_armUnit (c : Chip) (a : Nat) (h : c.MemsOk) : (c.armUnit a).MemsOk := by
  simp only [Chip.armUnit]
  repeat' split
  all_goals simp only [Chip.MemsOk, Chip.hide_fldPinArm, Chip.hide_ruleWatchArm, Chip.hide_tbCkoArm, Chip.hide_ruleMeterArm, Chip.hide_fldFoutArm,
    Chip.memsOk_memInitArm, Chip.hide_finCfgArm, Chip.hide_gateArm, Chip.hide_seqArm, Chip.hide_fldChgArm, Chip.hide_ringCfgArm,
    Chip.hide_ruleTheftCfgArm, Chip.hide_awlCtlArm, Chip.hide_runCfgArm, Chip.hide_yardCfgArm, Chip.hide_keepLoopArm, Chip.hide_fltCtlArm,
    Chip.hide_ruleFenceArm, Chip.hide_memCtlArm, Chip.hide_gacqPlanArm, Chip.hide_tbSrcArm, Chip.hide_gacqRfArm, Chip.hide_monCtlArm,
    Chip.hide_hostCtlArm, Chip.hide_ruleEnArm, Chip.hide_tpCfgArm, Chip.hide_excCfgArm, Chip.hide_gtrkCfgArm, Chip.hide_ruleEditArm,
    Chip.hide_modePolicyArm, Chip.hide_keepDiscArm, Chip.hide_ioDriveArm, Chip.hide_radioArm, Chip.hide_calendarArm, Chip.hide_gpCfgArm,
    Chip.hide_fldGbiasArm, Chip.hide_gtrkTrustArm, h, nonMem_all, and_self]

theorem Chip.memsOk_keepCtl (c : Chip) (w : Word) (h : c.MemsOk) : (c.keepCtl w).MemsOk := by
  simp only [Chip.keepCtl, Chip.MemsOk, Chip.memsOk_keepCommit, Chip.memsOk_keepClear, Chip.hide_ite, Chip.memsWf_ite, h,
    ite_self]

theorem Chip.memsOk_trigger (c : Chip) (a : Nat) (w : Word) (h : c.MemsOk) : (c.trigger a w).MemsOk := by
  simp only [Chip.trigger]
  repeat' split
  all_goals simp only [Chip.MemsOk, Chip.hide_theftClear, Chip.hide_hostPublish, Chip.hide_event, Chip.hide_burnishReq, Chip.hide_txAbort,
    Chip.memsOk_yardLoad, Chip.memsOk_recovery, Chip.memsOk_startCmd, Chip.hide_theftCmd, Chip.hide_bankData, Chip.memsOk_keyRoll,
    Chip.hide_excWrite, Chip.hide_hostConsume, Chip.memsOk_xferGo, Chip.memsOk_keepCtl, Chip.memsOk_settingsCtl, Chip.hide_hostMode,
    Chip.hide_fltSwap, Chip.hide_obsAck, h, nonMem_all, and_self]

theorem Chip.memsOk_bufWrite (c : Chip) (w : Nat) (x : Word) (h : c.MemsOk) : (c.bufWrite w x).MemsOk := by
  unfold Chip.bufWrite
  exact Chip.memsOk_if (Chip.memsOk_eq (Chip.hide_setBits _ _ _ (by decide)) h) (Chip.memsOk_buf (fun _ => rfl) (fun _ => rfl) h)

theorem Chip.memsOk_storeOwn (c : Chip) (r : RegRow) (a : Nat) (w : Word) (h : c.MemsOk) : (c.storeOwn r a w).MemsOk := by
  simp only [Chip.storeOwn, Chip.MemsOk, Chip.hide_clrBits, Chip.memsOk_trigger, Chip.hide_upRing, Chip.hide_setReg, Chip.memsOk_bufWrite,
    Chip.hide_ite, Chip.memsWf_ite, h, nonMem_all, ite_self]

theorem Chip.memsOk_storeArm (c : Chip) (r : RegRow) (a : Nat) (w : Word) (h : c.MemsOk) : (c.storeArm r a w).1.MemsOk := by
  simp only [Chip.storeArm]
  repeat' split
  all_goals simp only [Chip.MemsOk, Chip.memsOk_armUnit, h]

theorem Chip.memsOk_storeWord (c : Chip) (r : RegRow) (a : Nat) (w : Word) (h : c.MemsOk) : (c.storeWord r a w).1.MemsOk := by
  unfold Chip.storeWord
  extract_lets c1 reach p q
  have hshadow : c1.MemsOk := Chip.memsOk_if h (Chip.memsOk_eq (Chip.hide_setReg _ _ _ (by decide)) h)
  have hown : p.1.MemsOk := by
    unfold p
    split
    · exact Chip.memsOk_storeOwn _ _ _ _ hshadow
    · split <;> exact hshadow
  exact Chip.memsOk_storeArm _ _ _ _ hown

theorem Chip.memsOk_writeWord (c : Chip) (a : Nat) (w : Word) (h : c.MemsOk) : (c.writeWord a w).1.MemsOk := by
  simp only [Chip.writeWord]
  repeat' split
  all_goals simp only [Chip.MemsOk, Chip.memsOk_storeWord, Chip.hide_stageWindow, h, nonMem_all]

theorem Chip.memsOk_hostWrite (c : Chip) (a : Nat) (w : Word) (h : c.MemsOk) : (c.hostWrite a w).1.MemsOk := by
  simp only [Chip.hostWrite]
  repeat' split
  all_goals simp only [Chip.MemsOk, Chip.memsOk_writeWord, h]

theorem Loading.memsOk_write (l : Loading) (e : Nat × Word) (h : l.chip.MemsOk) : (l.write e).chip.MemsOk := by
  unfold Loading.write
  split
  · exact h
  · dsimp only
    split <;> exact Chip.memsOk_writeWord _ _ _ h

theorem Loading.memsOk_writes (l : Loading) (es : List (Nat × Word)) (h : l.chip.MemsOk) : (l.writes es).chip.MemsOk := by
  unfold Loading.writes
  induction es generalizing l with
  | nil => exact h
  | cons e es ih => exact ih _ (Loading.memsOk_write l e h)

theorem Loading.memsOk_armed (us : List Nat) (l : Loading) (h : l.chip.MemsOk) :
    (us.foldl (fun l u => let c := l.chip.armUnit u; { chip := c, refused := l.refused || c.lastRefused }) l : Loading).chip.MemsOk := by
  induction us generalizing l with
  | nil => exact h
  | cons u us ih => exact ih _ (Chip.memsOk_armUnit _ _ h)

theorem Loading.memsOk_arms (l : Loading) (h : l.chip.MemsOk) : l.arms.chip.MemsOk := Loading.memsOk_armed _ { l with dirty := [] } h

/-! ### The load of a start -/

theorem Chip.memsOk_revert (c : Chip) (h : c.MemsOk) : c.revert.MemsOk := by
  unfold Chip.revert
  extract_lets r c1 c2
  have hcleared : c1.MemsOk := Chip.memsOk_if (Chip.memsOk_upMram (fun _ hm => Mram.wf_clearCommitWord _ _ hm) h) h
  have hchosen : c2.MemsOk := Chip.memsOk_eq (Chip.hide_choose _ _ _ (by decide)) (Chip.memsOk_commitUpdNow _ _ hcleared)
  exact Chip.memsOk_eq (Chip.hide_updEvent _ _ _ (by decide)) (Chip.memsOk_recordCause _ _ _ hchosen)

theorem Chip.memsOk_chooseSlot (c : Chip) (h : c.MemsOk) : c.chooseSlot.MemsOk := by
  simp only [Chip.chooseSlot, Chip.MemsOk, Chip.memsOk_commitUpdNow, Chip.memsOk_commitUpd, Chip.memsOk_revert, Chip.hide_choose, Chip.hide_ite,
    Chip.memsWf_ite, h, nonMem_all, ite_self]

theorem Chip.memsOk_provision (c : Chip) (h : c.MemsOk) : c.provision.MemsOk := by
  simp only [Chip.provision, Chip.MemsOk, Chip.memsOk_mram, Chip.hide_upStart, Chip.hide_ite, Chip.memsWf_ite, h, nonMem_all, ite_self,
    implies_true]

theorem Chip.memsOk_checkImage (c : Chip) (h : c.MemsOk) : c.checkImage.1.MemsOk := by
  simp only [Chip.checkImage]
  repeat' split
  all_goals simp only [Chip.MemsOk, Chip.memsOk_provision, Chip.hide_upUpd, h, nonMem_all]

theorem Chip.memsOk_commitSettings (c : Chip) (es : List (Nat × Word)) (h : c.MemsOk) : (c.commitSettings es).MemsOk := by
  simp only [Chip.commitSettings, Chip.MemsOk, Chip.memsOk_commitNow, Chip.memsOk_requestCommit, Chip.hide_ite, Chip.memsWf_ite, h,
    ite_self]

theorem Loading.memsOk_defaults (l : Loading) (u : Bool) (h : l.chip.MemsOk) : (l.defaults u).chip.MemsOk :=
  Chip.memsOk_eq ((Chip.hide_upUpd _ _ (by decide)).trans (Chip.hide_upStart _ _ (by decide))) h

theorem Loading.memsOk_unreadable (l : Loading) (dfl : List (Nat × Word)) (written : Bool) (h : l.chip.MemsOk) :
    (l.unreadable dfl written).1.chip.MemsOk := by
  unfold Loading.unreadable
  extract_lets hdr l1
  have hdefaults : l1.chip.MemsOk := by
    refine Loading.memsOk_defaults _ _ ?_
    split
    · exact h
    · exact Loading.memsOk_writes _ _ h
  split
  · exact h
  · exact Chip.memsOk_recordCause _ _ _ hdefaults

theorem Loading.memsOk_migrate (l : Loading) (dfl old : List (Nat × Word)) (mig : List (Nat × Nat × Word)) (bank : Bool) (h : l.chip.MemsOk) :
    (l.migrate dfl old mig bank).1.chip.MemsOk := by
  unfold Loading.migrate
  extract_lets vals l1
  have hwritten : l1.chip.MemsOk := Loading.memsOk_arms _ (Loading.memsOk_writes _ _ h)
  split
  · exact Loading.memsOk_unreadable _ _ _ (Loading.memsOk_arms _ (Loading.memsOk_writes _ _ hwritten))
  · exact Chip.memsOk_commitSettings _ _ (Chip.memsOk_commitUpd _ _ hwritten)

theorem Loading.memsOk_bank (l : Loading) (dfl : List (Nat × Word)) (mig : Option (List (Nat × Nat × Word))) (h : l.chip.MemsOk) :
    (l.bank dfl mig).1.chip.MemsOk := by
  have hdefaults : ((l.writes dfl).defaults false).chip.MemsOk := Loading.memsOk_defaults _ _ (Loading.memsOk_writes _ _ h)
  have hunreadable := Loading.memsOk_unreadable l dfl false h
  unfold Loading.bank
  extract_lets c
  split
  · exact hdefaults
  · split
    · split
      · exact Chip.memsOk_commitSettings _ _ hdefaults
      · exact hunreadable
    · split
      · exact hunreadable
      · split
        · exact Loading.memsOk_writes _ _ h
        · split
          · split
            · exact Loading.memsOk_migrate _ _ _ _ _ h
            · exact hunreadable
          · exact hunreadable

theorem Loading.memsOk_settings (l : Loading) (h : l.chip.MemsOk) : l.settings.1.chip.MemsOk := by
  have hlist : ∀ f, (l.chip.upUpd f).MemsOk := fun f => Chip.memsOk_eq (Chip.hide_upUpd _ _ (by decide)) h
  unfold Loading.settings
  split
  · exact h
  · extract_lets l1
    split
    · exact Loading.memsOk_bank _ _ _ (hlist _)
    · split
      · exact hlist _
      · exact Loading.memsOk_bank _ _ _ (hlist _)

theorem Loading.memsOk_calibration (l : Loading) (h : l.chip.MemsOk) : l.calibration.1.chip.MemsOk := by
  have htaken : ∀ cal dflt, (l.chip.takeCal cal dflt).MemsOk := fun cal dflt => Chip.memsOk_eq (Chip.hide_takeCal _ _ _ (by decide)) h
  unfold Loading.calibration
  extract_lets sec
  split
  · exact h
  case isFalse taken _ =>
    change taken.MemsOk
    unfold taken
    split <;> exact htaken _ _

theorem Loading.memsOk_preload (l : Loading) (h : l.chip.MemsOk) : l.preload.1.chip.MemsOk := by
  unfold Loading.preload
  split
  · exact h
  · extract_lets l1
    have hwritten : l1.chip.MemsOk := Loading.memsOk_arms _ (Loading.memsOk_writes _ _ h)
    split <;> exact hwritten

theorem Loading.memsOk_rules (l : Loading) (h : l.chip.MemsOk) : l.rules.1.chip.MemsOk := by
  unfold Loading.rules
  extract_lets bs mods
  split
  · exact h
  · split
    · exact h
    · exact h
    · exact Chip.memsOk_eq ((Chip.hide_upKeeper _ _ (by decide)).trans (Chip.hide_loadTable _ _ (by decide))) h

theorem Loading.memsOk_keys (l : Loading) (h : l.chip.MemsOk) : l.keys.1.chip.MemsOk := by
  unfold Loading.keys
  dsimp only
  split
  · exact h
  · exact Chip.memsOk_keyChange _ h

theorem Loading.memsOk_andThen {p : Loading × Option Nat} {f : Loading → Loading × Option Nat}
    (hf : ∀ l : Loading, l.chip.MemsOk → (f l).1.chip.MemsOk) (h : p.1.chip.MemsOk) : (Loading.andThen p f).1.chip.MemsOk := by
  unfold Loading.andThen
  split
  · exact h
  · exact hf _ h

theorem Loading.memsOk_load (c : Chip) (o : Option Nat) (h : c.MemsOk) :
    (Loading.andThen (Loading.andThen (Loading.andThen (Loading.andThen (Loading.andThen ({ chip := c }, o) Loading.settings) Loading.calibration)
      Loading.preload) Loading.keys) Loading.rules).1.chip.MemsOk :=
  Loading.memsOk_andThen Loading.memsOk_rules (Loading.memsOk_andThen Loading.memsOk_keys (Loading.memsOk_andThen Loading.memsOk_preload
    (Loading.memsOk_andThen Loading.memsOk_calibration (Loading.memsOk_andThen Loading.memsOk_settings h))))

theorem Chip.loadImage_fst (c : Chip) : c.loadImage.1 = (Loading.andThen (Loading.andThen (Loading.andThen (Loading.andThen (Loading.andThen
    ({ chip := c.checkImage.1.yardFirst }, c.checkImage.2) Loading.settings) Loading.calibration) Loading.preload) Loading.keys) Loading.rules).1.chip := rfl

theorem Chip.memsOk_loadImage (c : Chip) (h : c.MemsOk) : c.loadImage.1.MemsOk := by
  have hfirst : c.checkImage.1.yardFirst.MemsOk := Chip.memsOk_eq (Chip.hide_yardFirst _ (by decide)) (Chip.memsOk_checkImage _ h)
  rw [Chip.loadImage_fst]
  exact Loading.memsOk_load _ _ hfirst

theorem Chip.memsOk_enterFirst (c : Chip) (h : c.MemsOk) : c.enterFirst.MemsOk := by
  simp only [Chip.enterFirst, Chip.MemsOk, Chip.hide_upUpd, Chip.hide_setBits, Chip.hide_event, Chip.hide_draw, Chip.hide_sendHeld,
    Chip.memsOk_completeMode, Chip.hide_upBurnish, Chip.hide_upYard, Chip.hide_upStart, Chip.hide_settle, Chip.memsOk_commitStart,
    Chip.hide_frontFollow, Chip.hide_ite, h, nonMem_all, and_self, ite_self]

theorem Chip.memsOk_startLoad (c : Chip) (part : NorPart) (h : c.MemsOk) : (c.startLoad part).MemsOk := by
  have hfound := Chip.memsOk_discover c part h
  have hloaded := Chip.memsOk_loadImage _ (Chip.memsOk_chooseSlot _ hfound)
  unfold Chip.startLoad
  extract_lets p
  refine Chip.memsOk_if (Chip.memsOk_startFail _ _ hfound) ?_
  extract_lets q
  split
  · exact Chip.memsOk_startFail _ _ hloaded
  · exact Chip.memsOk_enterFirst _ hloaded

/-! ### The host port -/

theorem Chip.memsOk_storeWords (n : Nat) (c : Chip) (h : c.MemsOk) : (Chip.storeWords n c).MemsOk := by
  have hhost : ∀ (d : Chip) f, d.MemsOk → (d.upHost f).MemsOk := fun d f hd => Chip.memsOk_eq (Chip.hide_upHost _ _ (by decide)) hd
  induction n generalizing c with
  | zero => exact h
  | succ n ih =>
    unfold Chip.storeWords
    split
    · refine Chip.memsOk_if h (ih _ ?_)
      have hwritten := fun a w f => Chip.memsOk_hostWrite (c.upHost f) a w (hhost _ _ h)
      exact Chip.memsOk_if (hwritten _ _ _) (hhost _ _ (hwritten _ _ _))
    · exact h

theorem Chip.memsOk_acceptFrame (c : Chip) (q : Request) (words : List Word) (gap : Bool) (h : c.MemsOk) : (c.acceptFrame q words gap).MemsOk := by
  simp only [Chip.acceptFrame, Chip.MemsOk, Chip.hide_upHost, Chip.hide_fetchAll, Chip.memsOk_storeWords, Chip.hide_ite, Chip.memsWf_ite, h,
    nonMem_all, ite_self]

theorem Chip.memsOk_examine (c : Chip) (q : Request) (words : List Word) (h : c.MemsOk) : (c.examine q words).MemsOk := by
  simp only [Chip.examine]
  repeat' split
  all_goals simp only [Chip.MemsOk, Chip.hide_rejectFrame, Chip.hide_hostNop, Chip.hide_upHost, Chip.memsOk_acceptFrame, h, nonMem_all]

theorem Chip.memsOk_frame (c : Chip) (cmd : Nat) (alive : Nat) (addr : Nat) (count : Nat) (words : List Word) (fill : Nat) (h : c.MemsOk) :
    (c.frame cmd alive addr count words fill).MemsOk := by
  simp only [Chip.frame, Chip.MemsOk, Chip.memsOk_examine, Chip.hide_transmit, Chip.hide_ite, Chip.memsWf_ite, h, nonMem_all, ite_self]

theorem Chip.memsOk_rawFrame (c : Chip) (bs : List Byte) (extra : Nat) (h : c.MemsOk) : (c.rawFrame bs extra).MemsOk := by
  simp only [Chip.rawFrame, Chip.MemsOk, Chip.hide_rejectFrame, Chip.hide_upHost, Chip.memsOk_examine, Chip.hide_transmit, Chip.hide_ite,
    Chip.memsWf_ite, h, nonMem_all, ite_self]

theorem Chip.memsOk_writeAck (c : Chip) (h : c.MemsOk) : c.writeAck.MemsOk := by
  have hhost : ∀ (d : Chip) f, d.MemsOk → (d.upHost f).MemsOk := fun d f hd => Chip.memsOk_eq (Chip.hide_upHost _ _ (by decide)) hd
  unfold Chip.writeAck
  split
  · exact Chip.memsOk_if (Chip.memsOk_storeWords _ _ (hhost _ _ (Chip.memsOk_hostWrite _ _ _ (hhost _ _ h)))) h
  · exact h

theorem Chip.memsOk_writeDone (c0 : Chip) (h : c0.MemsOk) : c0.writeDone.MemsOk := by
  simp only [Chip.writeDone]
  repeat' split
  all_goals simp only [Chip.MemsOk, Chip.hide_setBits, Chip.hide_upHost, Chip.memsOk_storeWords, h, nonMem_all]

theorem Chip.memsOk_vioLost (c : Chip) (frame : Option Nat) (h : c.MemsOk) : (c.vioLost frame).MemsOk := by
  simp only [Chip.vioLost]
  repeat' split
  all_goals simp only [Chip.MemsOk, Chip.memsOk_memVioLost, Chip.hide_setBits, Chip.hide_upHost, Chip.hide_upLands, Chip.hide_protect, h,
    nonMem_all]

theorem Chip.memsOk_vioBack (c : Chip) (h : c.MemsOk) : c.vioBack.MemsOk := by
  simp only [Chip.vioBack]
  repeat' split
  all_goals simp only [Chip.MemsOk, Chip.hide_rejectFrame, Chip.hide_upHost, Chip.hide_upLands, Chip.memsOk_busFree, h, nonMem_all]

end Sys2Proof.Machine
end

section
/-! SUPPORT. The sparse memories over a step: each command, and the idle cycle, keeps them canonical. -/

namespace Sys2Proof.Machine

/-- What a command answers has canonical memories. -/
def AnswerOk (o : Host.Outcome State Fault Refusal) : Prop := ∀ t, o = .next t → t.chip.MemsOk

theorem Chip.memsOk_follow (c was : Chip) (h : c.MemsOk) : (c.follow was).MemsOk := h

theorem State.answerOk_runPower {s : State} {f : Chip → Chip} (hf : ∀ c, c.MemsOk → (f c).MemsOk) (h : s.chip.MemsOk) : AnswerOk (s.runPower f) := by
  intro t ht
  cases ht
  exact Chip.memsOk_follow _ _ (hf _ h)

theorem State.answerOk_run {s : State} {f : Chip → Chip} (hf : ∀ c, c.MemsOk → (f c).MemsOk) (h : s.chip.MemsOk) : AnswerOk (s.run f) :=
  State.answerOk_runPower (fun c hc => Chip.memsOk_if (hf c hc) hc) h

theorem State.answerOk_runHost {s : State} {f : Chip → Chip} (hf : ∀ c, c.MemsOk → (f c).MemsOk) (h : s.chip.MemsOk) : AnswerOk (s.runHost f) :=
  State.answerOk_run (fun c hc => Chip.memsOk_if (hf c hc) hc) h

theorem answerOk_execLeapInsert (s : State) (h : s.chip.MemsOk) : AnswerOk (execLeapInsert s) := by
  refine State.answerOk_run (fun c hc => ?_) h
  simp only [Chip.MemsOk, Chip.hide_with_keeper, Chip.hide_ite, hc, nonMem_all, ite_self]

theorem answerOk_execLeapDelete (s : State) (h : s.chip.MemsOk) : AnswerOk (execLeapDelete s) := by
  refine State.answerOk_run (fun c hc => ?_) h
  simp only [Chip.MemsOk, Chip.hide_with_keeper, Chip.hide_ite, hc, nonMem_all, ite_self]

theorem answerOk_execCalendarApply (s : State) (h : s.chip.MemsOk) : AnswerOk (execCalendarApply s) := by
  refine State.answerOk_run (fun c hc => ?_) h
  dsimp only
  repeat' split
  all_goals simp only [Chip.MemsOk, Chip.hide_setTime, Chip.hide_with_keeper, hc, nonMem_all, and_self]

theorem answerOk_execHourCommit (meter : Nat) (s : State) (h : s.chip.MemsOk) : AnswerOk (execHourCommit meter s) := by
  refine State.answerOk_run (fun c hc => ?_) h
  simp only [Chip.MemsOk, Chip.hide_commitHour, Chip.hide_ite, hc, nonMem_all, and_self, ite_self]

theorem answerOk_execMeterMark (meter : Nat) (s : State) (h : s.chip.MemsOk) : AnswerOk (execMeterMark meter s) := by
  refine State.answerOk_run (fun c hc => ?_) h
  simp only [Chip.MemsOk, Chip.hide_upMeter, Chip.hide_keeperEvent, Chip.hide_ite, hc, nonMem_all, and_self, ite_self]

theorem answerOk_execMeterCeiling (meter : Nat) (s : State) (h : s.chip.MemsOk) : AnswerOk (execMeterCeiling meter s) := by
  refine State.answerOk_run (fun c hc => ?_) h
  simp only [Chip.MemsOk, Chip.hide_upMeter, Chip.hide_commitHour, Chip.hide_keeperEvent, Chip.hide_ite, hc, nonMem_all, and_self,
    ite_self]

theorem answerOk_execRetentionLost (s : State) (h : s.chip.MemsOk) : AnswerOk (execRetentionLost s) := by
  refine State.answerOk_runPower (fun c hc => ?_) h
  simp only [Chip.MemsOk, Chip.hide_upKeeper, Chip.hide_upPower, Chip.hide_ite, hc, nonMem_all, ite_self]

theorem answerOk_execCalendarHourChange (day : Bool) (s : State) (h : s.chip.MemsOk) : AnswerOk (execCalendarHourChange day s) := by
  refine State.answerOk_run (fun c hc => ?_) h
  simp only [Chip.MemsOk, Chip.hide_postSignal, Chip.hide_ite, hc, nonMem_all, and_self, ite_self]

theorem answerOk_execCodeLockTimeout (ch : Nat) (s : State) (h : s.chip.MemsOk) : AnswerOk (execCodeLockTimeout ch s) := by
  refine State.answerOk_run (fun c hc => ?_) h
  simp only [Chip.MemsOk, Chip.hide_release, Chip.hide_ite, hc, nonMem_all, ite_self]

theorem answerOk_execChannelLoss (ch : Nat) (s : State) (h : s.chip.MemsOk) : AnswerOk (execChannelLoss ch s) := by
  refine State.answerOk_run (fun c hc => ?_) h
  simp only [Chip.MemsOk, Chip.hide_release, Chip.hide_with_acq, Chip.hide_ite, hc, nonMem_all, ite_self]

theorem answerOk_execTimeMessage (sec : Nat) (ms : Nat) (epochMlg : Word) (idealPs : Nat) (tErr : Nat) (leap : Int) (s : State) (h :
    s.chip.MemsOk) : AnswerOk (execTimeMessage sec ms epochMlg idealPs tErr leap s) := by
  refine State.answerOk_run (fun c hc => ?_) h
  simp only [Chip.MemsOk, Chip.hide_produce, Chip.hide_with_track, Chip.hide_ite, hc, nonMem_all, ite_self]

theorem answerOk_execTimePulse (s : State) (h : s.chip.MemsOk) : AnswerOk (execTimePulse s) := by
  refine State.answerOk_run (fun c hc => ?_) h
  simp only [Chip.MemsOk, Chip.hide_tpSettle, Chip.hide_with_track, Chip.hide_ite, hc, nonMem_all, ite_self]

theorem answerOk_execPulseSkipped (sec : Nat) (ms : Nat) (leap : Int) (s : State) (h : s.chip.MemsOk) :
    AnswerOk (execPulseSkipped sec ms leap s) := by
  refine State.answerOk_run (fun c hc => ?_) h
  simp only [Chip.MemsOk, Chip.hide_produce, Chip.hide_tpSettle, Chip.hide_with_track, Chip.hide_ite, hc, nonMem_all,
    ite_self]

theorem answerOk_execTpStopped (s : State) (h : s.chip.MemsOk) : AnswerOk (execTpStopped s) := by
  refine State.answerOk_run (fun c hc => ?_) h
  simp only [Chip.MemsOk, Chip.hide_tpStop, Chip.hide_ite, hc, nonMem_all, and_self, ite_self]

theorem answerOk_execMeasurementEpoch (mlg : Word) (scount : Word) (meas : List Meas) (s : State) (h : s.chip.MemsOk) :
    AnswerOk (execMeasurementEpoch mlg scount meas s) :=
  State.answerOk_run (fun _ hc => Chip.memsOk_eq (Chip.hide_epoch _ _ _ _ (by decide)) hc) h

theorem answerOk_execNavUnit (ch : Nat) (txMs : Nat) (nbits : Nat) (bits : List Word) (content : NavContent) (s : State) (h : s.chip.MemsOk) :
    AnswerOk (execNavUnit ch txMs nbits bits content s) := by
  refine State.answerOk_run (fun c hc => ?_) h
  simp only [Chip.MemsOk, Chip.hide_navContent, Chip.hide_produce, Chip.hide_upChan, Chip.hide_foldl, Chip.hide_ite, hc,
    nonMem_all, and_self, ite_self, implies_true]

theorem answerOk_execNavSolution (sol : Solution) (s : State) (h : s.chip.MemsOk) : AnswerOk (execNavSolution sol s) := by
  refine State.answerOk_run (fun c hc => ?_) h
  simp only [Chip.MemsOk, Chip.hide_tpSolution, Chip.hide_solution, Chip.hide_with_acq, Chip.hide_ite, hc, nonMem_all, and_self,
    ite_self]

theorem answerOk_execSnapshotCaptureStart (scount : Word) (s : State) (h : s.chip.MemsOk) : AnswerOk (execSnapshotCaptureStart scount s) := by
  refine State.answerOk_run (fun c hc => ?_) h
  simp only [Chip.MemsOk, Chip.hide_with_acq, Chip.hide_ite, hc, nonMem_all, ite_self]

theorem answerOk_execLiveBlockComplete (samples : List Byte) (s : State) (h : s.chip.MemsOk) : AnswerOk (execLiveBlockComplete samples s) := by
  refine State.answerOk_run (fun c hc => ?_) h
  simp only [Chip.MemsOk, Chip.hide_grant, Chip.hide_with_acq, Chip.hide_ite, hc, nonMem_all, ite_self]

theorem answerOk_execBurstRequest (ring : Nat) (s : State) (h : s.chip.MemsOk) : AnswerOk (execBurstRequest ring s) := by
  refine State.answerOk_run (fun c hc => Chip.memsOk_if hc ?_) h
  split
  · exact hc
  · refine Chip.memsOk_if hc ?_
    split
    · exact Chip.memsOk_eq (Chip.hide_refuseItem _ _ _ _ (by decide)) hc
    · exact Chip.memsOk_eq (Chip.hide_wantBurst _ _ (by decide)) hc

theorem answerOk_execFrameLaunch (ring : Nat) (lateMs : Nat) (s : State) (h : s.chip.MemsOk) : AnswerOk (execFrameLaunch ring lateMs s) := by
  refine State.answerOk_run (fun c hc => ?_) h
  simp only [Chip.MemsOk, Chip.hide_frameLaunch, Chip.hide_ite, hc, nonMem_all, and_self, ite_self]

theorem answerOk_execTxQueueEmpty (s : State) (h : s.chip.MemsOk) : AnswerOk (execTxQueueEmpty s) := by
  refine State.answerOk_run (fun c hc => ?_) h
  simp only [Chip.MemsOk, Chip.hide_abortTx, Chip.hide_burstOver, Chip.hide_ite, hc, nonMem_all, and_self, ite_self]

theorem answerOk_execListenWindowStart (ring : Nat) (s : State) (h : s.chip.MemsOk) : AnswerOk (execListenWindowStart ring s) := by
  refine State.answerOk_run (fun c hc => Chip.memsOk_if hc ?_) h
  split
  · exact hc
  · refine Chip.memsOk_if hc ?_
    split
    · exact Chip.memsOk_eq (Chip.hide_refuseItem _ _ _ _ (by decide)) hc
    · exact Chip.memsOk_if (Chip.memsOk_eq ((Chip.hide_upRadio _ _ (by decide)).trans (Chip.hide_consume _ _ _ (by decide))) hc) hc

theorem answerOk_execRingProduce (agent ring : Nat) (entry : List Word) (s : State) (h : s.chip.MemsOk) :
    AnswerOk (execRingProduce agent ring entry s) :=
  State.answerOk_run (fun _ hc => Chip.memsOk_if (Chip.memsOk_eq (Chip.hide_produce _ _ _ _ (by decide)) hc) hc) h

theorem answerOk_execRingProduceResume (ring : Nat) (s : State) (h : s.chip.MemsOk) : AnswerOk (execRingProduceResume ring s) := by
  refine State.answerOk_run (fun c0 hc0 => ?_) h
  have hc : (c0.endCopy ring).MemsOk := Chip.memsOk_eq (Chip.hide_endCopy _ _ (by decide)) hc0
  have hring : ∀ f, ((c0.endCopy ring).upRing ring f).MemsOk := fun f => Chip.memsOk_eq (Chip.hide_upRing _ _ _ (by decide)) hc
  dsimp only
  split
  · exact hc
  · refine Chip.memsOk_if (Chip.memsOk_if hc ?_) (Chip.memsOk_eq (Chip.hide_produce _ _ _ _ (by decide)) (hring _))
    exact Chip.memsOk_eq ((Chip.hide_answer _ _ (by decide)).trans ((Chip.hide_observe _ (by decide)).trans (Chip.hide_pushEntry _ _ _
      (by decide)))) (hring _)

theorem answerOk_execHoldingBufferDrain (ring : Nat) (s : State) (h : s.chip.MemsOk) : AnswerOk (execHoldingBufferDrain ring s) := by
  refine State.answerOk_run (fun c hc => ?_) h
  simp only [Chip.MemsOk, Chip.hide_endCopy, Chip.hide_drain, Chip.hide_drainEpoch, Chip.hide_ite, hc, nonMem_all, and_self,
    ite_self]

theorem answerOk_execLossyConversion (ring : Nat) (s : State) (h : s.chip.MemsOk) : AnswerOk (execLossyConversion ring s) :=
  State.answerOk_run (fun _ hc => Chip.memsOk_if (Chip.memsOk_eq (Chip.hide_convert _ _ (by decide)) hc) hc) h

theorem answerOk_execRingConsume (ring : Nat) (w : Word) (s : State) (h : s.chip.MemsOk) : AnswerOk (execRingConsume ring w s) := by
  refine State.answerOk_runHost (fun c hc => ?_) h
  simp only [Chip.MemsOk, Chip.hide_hostConsume, Chip.hide_ite, hc, nonMem_all, ite_self]

theorem answerOk_execRingProducePublish (ring : Nat) (w : Word) (s : State) (h : s.chip.MemsOk) : AnswerOk (execRingProducePublish ring w s) := by
  refine State.answerOk_runHost (fun c hc => ?_) h
  simp only [Chip.MemsOk, Chip.hide_hostPublish, Chip.hide_ite, hc, nonMem_all, ite_self]

theorem answerOk_execRingWindowStage (ring : Nat) (index : Nat) (w : Word) (s : State) (h : s.chip.MemsOk) :
    AnswerOk (execRingWindowStage ring index w s) := by
  refine State.answerOk_runHost (fun c hc => ?_) h
  simp only [Chip.MemsOk, Chip.hide_stageWindow, Chip.hide_ite, hc, nonMem_all, ite_self]

theorem answerOk_execRingWindowRead (ring : Nat) (first : Nat) (count : Nat) (s : State) (h : s.chip.MemsOk) :
    AnswerOk (execRingWindowRead ring first count s) := by
  refine State.answerOk_run (fun c hc => ?_) h
  simp only [Chip.MemsOk, Chip.hide_upRing, Chip.hide_with_rings, Chip.hide_ite, hc, nonMem_all, ite_self]

theorem answerOk_execRingCfgArm (ring : Nat) (s : State) (h : s.chip.MemsOk) : AnswerOk (execRingCfgArm ring s) := by
  refine State.answerOk_runHost (fun c hc => ?_) h
  simp only [Chip.MemsOk, Chip.hide_ringCfgArm, Chip.hide_ite, hc, nonMem_all, and_self, ite_self]

theorem answerOk_execTestHarnessForward (ring : Nat) (s : State) (h : s.chip.MemsOk) : AnswerOk (execTestHarnessForward ring s) := by
  refine State.answerOk_run (fun c hc => ?_) h
  simp only [Chip.MemsOk, Chip.hide_consume, Chip.hide_pushEntry, Chip.hide_ite, hc, nonMem_all, ite_self]

theorem answerOk_execModeReqInvalid (mode : Nat) (s : State) (h : s.chip.MemsOk) : AnswerOk (execModeReqInvalid mode s) := by
  refine State.answerOk_runHost (fun c hc => ?_) h
  simp only [Chip.MemsOk, Chip.hide_hostMode, Chip.hide_ite, hc, nonMem_all, and_self, ite_self]

theorem answerOk_execTheftWindowExpired (s : State) (h : s.chip.MemsOk) : AnswerOk (execTheftWindowExpired s) := by
  refine State.answerOk_run (fun c hc => ?_) h
  simp only [Chip.MemsOk, Chip.hide_theftChange, Chip.hide_theftEvent, Chip.hide_ite, hc, nonMem_all, and_self, ite_self]

theorem answerOk_execTheftClearDisarm (frame : Option (List Byte)) (s : State) (h : s.chip.MemsOk) : AnswerOk (execTheftClearDisarm frame s) := by
  refine State.answerOk_run (fun c hc => ?_) h
  simp only [Chip.MemsOk, Chip.hide_theftClear, Chip.hide_ite, hc, nonMem_all, and_self, ite_self]

theorem answerOk_execTheftClearArm (frame : Option (List Byte)) (s : State) (h : s.chip.MemsOk) : AnswerOk (execTheftClearArm frame s) := by
  refine State.answerOk_run (fun c hc => ?_) h
  simp only [Chip.MemsOk, Chip.hide_theftClear, Chip.hide_ite, hc, nonMem_all, and_self, ite_self]

theorem answerOk_execYardRoundStart (s : State) (h : s.chip.MemsOk) : AnswerOk (execYardRoundStart s) := by
  refine State.answerOk_run (fun c hc => ?_) h
  simp only [Chip.MemsOk, Chip.hide_yardRound, Chip.hide_ite, hc, nonMem_all, and_self, ite_self]

theorem answerOk_execYardSlotStart (slot : Nat) (s : State) (h : s.chip.MemsOk) : AnswerOk (execYardSlotStart slot s) :=
  State.answerOk_run (fun _ hc => Chip.memsOk_yardSlot _ _ (Chip.memsOk_eq (Chip.hide_yardDrain _ (by decide)) hc)) h

theorem answerOk_execBuckleListenTimeout (s : State) (h : s.chip.MemsOk) : AnswerOk (execBuckleListenTimeout s) := by
  refine State.answerOk_run (fun c hc => ?_) h
  simp only [Chip.MemsOk, Chip.hide_upYard, Chip.hide_ite, hc, nonMem_all, ite_self]

theorem Chip.memsOk_yardRow {act : Chip → RxYard → List Byte → Bool → Chip} (hact : ∀ c f body dup, c.MemsOk → (act c f body dup).MemsOk)
    (c : Chip) (ptype : Nat) (h : c.MemsOk) : (c.yardRow ptype act).MemsOk := by
  have hsift : ∀ d : Chip, d.MemsOk → d.yardSift.MemsOk := fun d hd => Chip.memsOk_eq (Chip.hide_yardSift _ (by decide)) hd
  unfold Chip.yardRow
  refine Chip.memsOk_if h ?_
  extract_lets c0
  have hc0 : c0.MemsOk := hsift _ h
  split
  · exact hc0
  · split
    · split
      · exact hsift _ (hact _ _ _ _ hc0)
      · exact hsift _ (hact _ _ _ _ hc0)
      · exact hc0
    · exact hc0

theorem answerOk_execBeacon (s : State) (h : s.chip.MemsOk) : AnswerOk (execBeacon s) :=
  State.answerOk_run (fun c hc => Chip.memsOk_yardRow Chip.memsOk_beaconRow c 1 hc) h

theorem answerOk_execBeaconMissed (s : State) (h : s.chip.MemsOk) : AnswerOk (execBeaconMissed s) := by
  refine State.answerOk_run (fun c hc => ?_) h
  split
  · exact Chip.memsOk_if (Chip.memsOk_eq (Chip.hide_yardEvent _ _ _ (by decide)) hc) hc
  · exact hc

theorem answerOk_execTheftClear (s : State) (h : s.chip.MemsOk) : AnswerOk (execTheftClear s) := by
  refine State.answerOk_run (fun c hc => ?_) h
  simp only [Chip.MemsOk, Chip.hide_doTheftClear, Chip.hide_commandRow, hc, nonMem_all, and_self,
    implies_true]

theorem answerOk_execUpdateData (s : State) (h : s.chip.MemsOk) : AnswerOk (execUpdateData s) := by
  refine State.answerOk_run (fun c hc => ?_) h
  simp only [Chip.MemsOk, Chip.hide_commandRow, Chip.hide_doUpdateData, hc, nonMem_all, and_self,
    implies_true]

theorem answerOk_execYardHostEvent (s : State) (h : s.chip.MemsOk) : AnswerOk (execYardHostEvent s) := by
  refine State.answerOk_run (fun c hc => ?_) h
  simp only [Chip.MemsOk, Chip.hide_doHostEvent, Chip.hide_commandRow, hc, nonMem_all, and_self,
    implies_true]

theorem answerOk_execRequestReport (s : State) (h : s.chip.MemsOk) : AnswerOk (execRequestReport s) := by
  refine State.answerOk_run (fun c hc => ?_) h
  simp only [Chip.MemsOk, Chip.hide_doRequestReport, Chip.hide_commandRow, hc, nonMem_all, and_self,
    implies_true]

theorem answerOk_execRebuckle (s : State) (h : s.chip.MemsOk) : AnswerOk (execRebuckle s) := by
  refine State.answerOk_run (fun c hc => ?_) h
  simp only [Chip.MemsOk, Chip.hide_doRebuckle, Chip.hide_commandRow, hc, nonMem_all, and_self,
    implies_true]

theorem answerOk_execAlarm (s : State) (h : s.chip.MemsOk) : AnswerOk (execAlarm s) := by
  refine State.answerOk_run (fun c hc => ?_) h
  simp only [Chip.MemsOk, Chip.hide_alarmRow, Chip.hide_yardRow, hc, nonMem_all, and_self, implies_true]

theorem answerOk_execAlarmAck (s : State) (h : s.chip.MemsOk) : AnswerOk (execAlarmAck s) := by
  refine State.answerOk_run (fun c hc => ?_) h
  simp only [Chip.MemsOk, Chip.hide_alarmAckRow, Chip.hide_yardRow, hc, nonMem_all, and_self, implies_true]

theorem answerOk_execBuckleOffer (s : State) (h : s.chip.MemsOk) : AnswerOk (execBuckleOffer s) :=
  State.answerOk_run (fun c hc => Chip.memsOk_yardRow Chip.memsOk_offerRow c 8 hc) h

theorem answerOk_execReport (baseline : Option Baseline) (s : State) (h : s.chip.MemsOk) : AnswerOk (execReport baseline s) := by
  refine State.answerOk_run (fun c hc => ?_) h
  simp only [Chip.MemsOk, Chip.hide_yardRow, Chip.hide_reportRow, hc, nonMem_all, and_self, implies_true]

theorem answerOk_execReply (s : State) (h : s.chip.MemsOk) : AnswerOk (execReply s) := by
  refine State.answerOk_run (fun c hc => ?_) h
  simp only [Chip.MemsOk, Chip.hide_replyRow, Chip.hide_yardRow, hc, nonMem_all, and_self, implies_true]

theorem answerOk_execBuckleReq (s : State) (h : s.chip.MemsOk) : AnswerOk (execBuckleReq s) := by
  refine State.answerOk_run (fun c hc => ?_) h
  simp only [Chip.MemsOk, Chip.hide_yardRow, Chip.hide_buckleReqRow, hc, nonMem_all, and_self, implies_true]

theorem answerOk_execBuckleConfirm (s : State) (h : s.chip.MemsOk) : AnswerOk (execBuckleConfirm s) := by
  refine State.answerOk_run (fun c hc => ?_) h
  simp only [Chip.MemsOk, Chip.hide_yardRow, Chip.hide_confirmRow, hc, nonMem_all, and_self, implies_true]

theorem answerOk_execChgStateChange (vbat : Nat) (current : Nat) (s : State) (h : s.chip.MemsOk) : AnswerOk (execChgStateChange vbat current s) :=
  State.answerOk_runPower (fun _ hc => hc) h

theorem answerOk_execChgTimer (s : State) (h : s.chip.MemsOk) : AnswerOk (execChgTimer s) := by
  refine State.answerOk_runPower (fun c hc => ?_) h
  simp only [Chip.MemsOk, Chip.hide_fieldFault, Chip.hide_upPower, Chip.hide_ite, hc, nonMem_all, and_self, ite_self]

theorem answerOk_execNtcOpen (s : State) (h : s.chip.MemsOk) : AnswerOk (execNtcOpen s) := by
  refine State.answerOk_runPower (fun c hc => ?_) h
  simp only [Chip.MemsOk, Chip.hide_fieldProtect, Chip.hide_upPower, Chip.hide_chargeEval, Chip.hide_ite, hc, nonMem_all,
    and_self, ite_self]

theorem answerOk_execChargeWindow (inside : Bool) (s : State) (h : s.chip.MemsOk) : AnswerOk (execChargeWindow inside s) := by
  refine State.answerOk_runPower (fun c hc => ?_) h
  simp only [Chip.MemsOk, Chip.hide_upPower, Chip.hide_chargeEval, Chip.hide_ite, hc, nonMem_all, ite_self]

theorem answerOk_execFoutLimit (out : Nat) (s : State) (h : s.chip.MemsOk) : AnswerOk (execFoutLimit out s) :=
  State.answerOk_run (fun _ hc => Chip.memsOk_eq (Chip.hide_foutCut _ _ _ (by decide)) hc) h

theorem answerOk_execFoutTherm (out : Nat) (s : State) (h : s.chip.MemsOk) : AnswerOk (execFoutTherm out s) :=
  State.answerOk_run (fun _ hc => Chip.memsOk_eq (Chip.hide_foutCut _ _ _ (by decide)) hc) h

theorem answerOk_execFoutOpen (out : Nat) (s : State) (h : s.chip.MemsOk) : AnswerOk (execFoutOpen out s) := by
  refine State.answerOk_run (fun c hc => ?_) h
  simp only [Chip.MemsOk, Chip.hide_fieldFault, Chip.hide_ite, hc, nonMem_all, and_self, ite_self]

theorem answerOk_execGbiasShort (s : State) (h : s.chip.MemsOk) : AnswerOk (execGbiasShort s) := by
  refine State.answerOk_run (fun c hc => ?_) h
  simp only [Chip.MemsOk, Chip.hide_fieldFault, Chip.hide_upPower, Chip.hide_ite, hc, nonMem_all, and_self, ite_self]

theorem answerOk_execGbiasOpen (s : State) (h : s.chip.MemsOk) : AnswerOk (execGbiasOpen s) := by
  refine State.answerOk_run (fun c hc => ?_) h
  simp only [Chip.MemsOk, Chip.hide_fieldFault, Chip.hide_ite, hc, nonMem_all, and_self, ite_self]

theorem answerOk_execFvinRelease (s : State) (h : s.chip.MemsOk) : AnswerOk (execFvinRelease s) := by
  refine State.answerOk_runPower (fun c hc => ?_) h
  simp only [Chip.MemsOk, Chip.hide_fvinDrop, Chip.hide_upPower, hc, nonMem_all, and_self]

theorem answerOk_execFvinOv (vbat : Int) (fvin : Int) (s : State) (h : s.chip.MemsOk) : AnswerOk (execFvinOv vbat fvin s) := by
  refine State.answerOk_runPower (fun c hc => ?_) h
  simp only [Chip.MemsOk, Chip.hide_fvinDrop, Chip.hide_fieldFault, Chip.hide_upPower, hc, nonMem_all, and_self]

theorem answerOk_execCellReversed (vbat : Int) (fvin : Int) (s : State) (h : s.chip.MemsOk) : AnswerOk (execCellReversed vbat fvin s) := by
  refine State.answerOk_runPower (fun c hc => ?_) h
  simp only [Chip.MemsOk, Chip.hide_fieldFault, Chip.hide_upPower, Chip.hide_chargeEval, hc, nonMem_all, and_self]

theorem answerOk_execBuckSag (s : State) (h : s.chip.MemsOk) : AnswerOk (execBuckSag s) := by
  refine State.answerOk_runPower (fun c hc => ?_) h
  simp only [Chip.MemsOk, Chip.hide_fieldFault, Chip.hide_fvinDrop, Chip.hide_ite, hc, nonMem_all, and_self, ite_self]

theorem answerOk_execExcCodeWrite (ch : Nat) (code : Nat) (s : State) (h : s.chip.MemsOk) : AnswerOk (execExcCodeWrite ch code s) := by
  refine State.answerOk_runHost (fun c hc => ?_) h
  simp only [Chip.MemsOk, Chip.hide_excWrite, Chip.hide_ite, hc, nonMem_all, and_self, ite_self]

theorem answerOk_execExcCfgArm (ch : Nat) (s : State) (h : s.chip.MemsOk) : AnswerOk (execExcCfgArm ch s) := by
  refine State.answerOk_runHost (fun c hc => ?_) h
  simp only [Chip.MemsOk, Chip.hide_excCfgArm, Chip.hide_ite, hc, nonMem_all, and_self, ite_self]

theorem answerOk_execDeglitchEnd (ch : Nat) (s : State) (h : s.chip.MemsOk) : AnswerOk (execDeglitchEnd ch s) :=
  State.answerOk_run (fun _ hc => Chip.memsOk_eq (Chip.hide_deglitchEnd _ _ (by decide)) hc) h

theorem answerOk_execExcCut (ch : Nat) (mv : Nat) (s : State) (h : s.chip.MemsOk) : AnswerOk (execExcCut ch mv s) := by
  refine State.answerOk_run (fun c hc => ?_) h
  simp only [Chip.MemsOk, Chip.hide_excCut, Chip.hide_ite, hc, nonMem_all, and_self, ite_self]

theorem answerOk_execMonScan (codes : List Nat) (mvs : List Nat) (excluded : Nat) (s : State) (h : s.chip.MemsOk) :
    AnswerOk (execMonScan codes mvs excluded s) :=
  State.answerOk_run (fun _ hc => Chip.memsOk_eq (Chip.hide_monScan _ _ _ _ (by decide)) hc) h

theorem answerOk_execFignOpenCheck (mv : Int) (s : State) (h : s.chip.MemsOk) : AnswerOk (execFignOpenCheck mv s) := by
  refine State.answerOk_run (fun c hc => ?_) h
  simp only [Chip.MemsOk, Chip.hide_fieldFault, Chip.hide_ite, hc, nonMem_all, and_self, ite_self]

theorem answerOk_execFignSuspect (s : State) (h : s.chip.MemsOk) : AnswerOk (execFignSuspect s) := by
  refine State.answerOk_run (fun c hc => ?_) h
  simp only [Chip.MemsOk, Chip.hide_fieldFault, Chip.hide_ite, hc, nonMem_all, and_self, ite_self]

theorem answerOk_execSeqRoundStart (m : Nat) (s : State) (h : s.chip.MemsOk) : AnswerOk (execSeqRoundStart m s) := by
  refine State.answerOk_run (fun c hc => ?_) h
  simp only [Chip.MemsOk, Chip.hide_roundStart, Chip.hide_ite, hc, nonMem_all, and_self, ite_self]

theorem answerOk_execSeqArm (m : Nat) (s : State) (h : s.chip.MemsOk) : AnswerOk (execSeqArm m s) := by
  refine State.answerOk_runHost (fun c hc => ?_) h
  simp only [Chip.MemsOk, Chip.hide_seqArm, Chip.hide_ite, hc, nonMem_all, and_self, ite_self]

theorem answerOk_execFastPathValue (m : Nat) (x : Int) (s : State) (h : s.chip.MemsOk) : AnswerOk (execFastPathValue m x s) := by
  refine State.answerOk_run (fun c hc => ?_) h
  simp only [Chip.MemsOk, Chip.hide_fastValue, Chip.hide_ite, hc, nonMem_all, and_self, ite_self]

theorem answerOk_execModOverload (m : Nat) (s : State) (h : s.chip.MemsOk) : AnswerOk (execModOverload m s) := by
  refine State.answerOk_run (fun c hc => ?_) h
  simp only [Chip.MemsOk, Chip.hide_overload, Chip.hide_ite, hc, nonMem_all, and_self, ite_self]

theorem answerOk_execAwlTestEnd (m : Nat) (v0 : Int) (v1 : Int) (v2 : Int) (s : State) (h : s.chip.MemsOk) :
    AnswerOk (execAwlTestEnd m v0 v1 v2 s) := by
  refine State.answerOk_run (fun c hc => ?_) h
  simp only [Chip.MemsOk, Chip.hide_awlEnd, Chip.hide_ite, hc, nonMem_all, and_self, ite_self]

theorem answerOk_execFltCtlArm (m : Nat) (s : State) (h : s.chip.MemsOk) : AnswerOk (execFltCtlArm m s) := by
  refine State.answerOk_runHost (fun c hc => ?_) h
  simp only [Chip.MemsOk, Chip.hide_fltCtlArm, Chip.hide_ite, hc, nonMem_all, and_self, ite_self]

theorem answerOk_execFltSwap (mask : Nat) (s : State) (h : s.chip.MemsOk) : AnswerOk (execFltSwap mask s) := by
  refine State.answerOk_runHost (fun c hc => ?_) h
  simp only [Chip.MemsOk, Chip.hide_fltSwap, Chip.hide_ite, hc, nonMem_all, and_self, ite_self]

theorem answerOk_execBankSwap (m : Nat) (s : State) (h : s.chip.MemsOk) : AnswerOk (execBankSwap m s) := by
  refine State.answerOk_run (fun c hc => ?_) h
  simp only [Chip.MemsOk, Chip.hide_swapBank, Chip.hide_ite, hc, nonMem_all, and_self, ite_self]

theorem answerOk_execFltBankData (w : Word) (s : State) (h : s.chip.MemsOk) : AnswerOk (execFltBankData w s) := by
  refine State.answerOk_runHost (fun c hc => ?_) h
  simp only [Chip.MemsOk, Chip.hide_bankData, Chip.hide_ite, hc, nonMem_all, and_self, ite_self]

theorem answerOk_execBurnishStepEnd (m : Nat) (value : Int) (mon : Int) (temp : Int) (s : State) (h : s.chip.MemsOk) :
    AnswerOk (execBurnishStepEnd m value mon temp s) := by
  refine State.answerOk_run (fun c hc => ?_) h
  simp only [Chip.MemsOk, Chip.memsOk_stepEnd, Chip.hide_ite, Chip.memsWf_ite, hc, ite_self]

theorem answerOk_execRuleFire (s : State) (h : s.chip.MemsOk) : AnswerOk (execRuleFire s) := by
  refine State.answerOk_run (fun c hc => ?_) h
  simp only [Chip.MemsOk, Chip.hide_sweepHead, Chip.hide_ite, hc, nonMem_all, and_self, ite_self]

theorem answerOk_execTheftClearApply (s : State) (h : s.chip.MemsOk) : AnswerOk (execTheftClearApply s) := by
  refine State.answerOk_run (fun c hc => ?_) h
  simp only [Chip.MemsOk, Chip.hide_sweepHead, Chip.hide_ite, hc, nonMem_all, and_self, ite_self]

theorem answerOk_execHoldTimerExpired (timer : Nat) (s : State) (h : s.chip.MemsOk) : AnswerOk (execHoldTimerExpired timer s) := by
  refine State.answerOk_run (fun c hc => ?_) h
  simp only [Chip.MemsOk, Chip.hide_timerExpired, Chip.hide_ite, hc, nonMem_all, and_self, ite_self]

theorem answerOk_execRuleHostEvt (index : Nat) (s : State) (h : s.chip.MemsOk) : AnswerOk (execRuleHostEvt index s) :=
  State.answerOk_runHost (fun _ hc => Chip.memsOk_eq (Chip.hide_event _ _ _ _ _ (by decide)) hc) h

theorem answerOk_execCorePowerOn (s : State) (h : s.chip.MemsOk) : AnswerOk (execCorePowerOn s) := by
  refine State.answerOk_runPower (fun c hc => ?_) h
  simp only [Chip.MemsOk, Chip.memsOk_beginStart, Chip.hide_ite, Chip.memsWf_ite, hc, ite_self]

theorem answerOk_execShipExit (fvin : Bool) (s : State) (h : s.chip.MemsOk) : AnswerOk (execShipExit fvin s) := by
  refine State.answerOk_runPower (fun c hc => ?_) h
  simp only [Chip.MemsOk, Chip.memsOk_beginStart, Chip.hide_fvinTake, Chip.hide_ite, Chip.memsWf_ite, hc, nonMem_all, and_self, ite_self]

theorem answerOk_execSysStartCmd (key : Word) (s : State) (h : s.chip.MemsOk) : AnswerOk (execSysStartCmd key s) :=
  State.answerOk_run (fun _ hc => Chip.memsOk_startCmd _ _ hc) h

theorem answerOk_execStartRetry (s : State) (h : s.chip.MemsOk) : AnswerOk (execStartRetry s) := by
  refine State.answerOk_run (fun c hc => ?_) h
  simp only [Chip.MemsOk, Chip.memsOk_beginStart, Chip.hide_ite, Chip.memsWf_ite, hc, ite_self]

theorem answerOk_execStartTimeout (s : State) (h : s.chip.MemsOk) : AnswerOk (execStartTimeout s) :=
  State.answerOk_run (fun _ hc => Chip.memsOk_if (Chip.memsOk_startFail _ _ hc) hc) h

theorem answerOk_execSupplyCycle (s : State) (h : s.chip.MemsOk) : AnswerOk (execSupplyCycle s) := by
  refine State.answerOk_runPower (fun c hc => ?_) h
  simp only [Chip.MemsOk, Chip.hide_upStart, Chip.hide_ite, hc, nonMem_all, ite_self]

theorem answerOk_execStirrupBeacon (s : State) (h : s.chip.MemsOk) : AnswerOk (execStirrupBeacon s) := by
  refine State.answerOk_run (fun c hc => ?_) h
  simp only [Chip.MemsOk, Chip.hide_upStart, Chip.hide_draw, Chip.hide_ite, hc, nonMem_all, ite_self]

theorem answerOk_execFrameReceived (payload : List Byte) (crc : Word) (rx : RxMeta) (s : State) (h : s.chip.MemsOk) :
    AnswerOk (execFrameReceived payload crc rx s) := by
  refine State.answerOk_run (fun c hc => ?_) h
  simp only [Chip.MemsOk, Chip.hide_yardSift, Chip.hide_frameReceived, Chip.memsOk_stirrupFrame, Chip.hide_ite, Chip.memsWf_ite, hc, nonMem_all,
    and_self, ite_self]

theorem answerOk_execDomainSwitchRequest (dom : Nat) (target : Nat) (s : State) (h : s.chip.MemsOk) :
    AnswerOk (execDomainSwitchRequest dom target s) := by
  refine State.answerOk_run (fun c hc => ?_) h
  simp only [Chip.MemsOk, Chip.hide_requestSwitch, Chip.hide_ite, hc, nonMem_all, ite_self]

theorem answerOk_execStopAcknowledged (dom : Nat) (s : State) (h : s.chip.MemsOk) : AnswerOk (execStopAcknowledged dom s) := by
  refine State.answerOk_run (fun c hc => ?_) h
  simp only [Chip.MemsOk, Chip.hide_stopDomain, Chip.hide_ite, hc, nonMem_all, and_self, ite_self]

theorem answerOk_execSourceSwitch (dom : Nat) (s : State) (h : s.chip.MemsOk) : AnswerOk (execSourceSwitch dom s) := by
  refine State.answerOk_run (fun c hc => ?_) h
  simp only [Chip.MemsOk, Chip.hide_upDomain, Chip.hide_ite, hc, nonMem_all, ite_self]

theorem answerOk_execDomainRelease (dom : Nat) (s : State) (h : s.chip.MemsOk) : AnswerOk (execDomainRelease dom s) := by
  refine State.answerOk_run (fun c hc => ?_) h
  simp only [Chip.MemsOk, Chip.hide_releaseDomain, Chip.hide_ite, hc, nonMem_all, and_self, ite_self]

theorem answerOk_execTbkProven (s : State) (h : s.chip.MemsOk) : AnswerOk (execTbkProven s) := by
  refine State.answerOk_run (fun c hc => ?_) h
  simp only [Chip.MemsOk, Chip.hide_upTb, Chip.hide_ite, hc, nonMem_all, ite_self]

theorem answerOk_execTbmProven (s : State) (h : s.chip.MemsOk) : AnswerOk (execTbmProven s) := by
  refine State.answerOk_run (fun c hc => ?_) h
  simp only [Chip.MemsOk, Chip.hide_upTb, Chip.hide_ite, hc, nonMem_all, ite_self]

theorem answerOk_execTbkFail (cause : Nat) (err : Int) (s : State) (h : s.chip.MemsOk) : AnswerOk (execTbkFail cause err s) :=
  State.answerOk_run (fun _ hc => Chip.memsOk_tbkFail _ _ _ hc) h

theorem answerOk_execTbmFail (cause : Nat) (err : Int) (s : State) (h : s.chip.MemsOk) : AnswerOk (execTbmFail cause err s) :=
  State.answerOk_run (fun _ hc => Chip.memsOk_tbmFail _ _ _ hc) h

theorem answerOk_execTimebaseProofDeadline (tbm : Bool) (s : State) (h : s.chip.MemsOk) : AnswerOk (execTimebaseProofDeadline tbm s) := by
  refine State.answerOk_run (fun c hc => ?_) h
  simp only [Chip.MemsOk, Chip.hide_upTb, Chip.memsOk_causeNow, Chip.hide_upGirth, Chip.hide_ite, Chip.memsWf_ite, hc, nonMem_all, ite_self]

theorem answerOk_execLoopLocked (loop : Nat) (s : State) (h : s.chip.MemsOk) : AnswerOk (execLoopLocked loop s) :=
  State.answerOk_run (fun _ hc => Chip.memsOk_eq (Chip.hide_loopLock _ _ (by decide)) hc) h

theorem answerOk_execMlUnlock (loop : Nat) (s : State) (h : s.chip.MemsOk) : AnswerOk (execMlUnlock loop s) :=
  State.answerOk_run (fun _ hc => Chip.memsOk_eq (Chip.hide_mlUnlock _ _ (by decide)) hc) h

theorem answerOk_execMlgUnlock (s : State) (h : s.chip.MemsOk) : AnswerOk (execMlgUnlock s) := by
  refine State.answerOk_run (fun c hc => ?_) h
  simp only [Chip.MemsOk, Chip.hide_setBits, Chip.hide_upTb, Chip.hide_mlgLost, Chip.hide_ite, hc, nonMem_all, and_self, ite_self]

theorem answerOk_execLoopLockRetry (loop : Nat) (locks : Bool) (s : State) (h : s.chip.MemsOk) : AnswerOk (execLoopLockRetry loop locks s) := by
  refine State.answerOk_run (fun c hc => ?_) h
  simp only [Chip.MemsOk, Chip.hide_loopLock, Chip.hide_ite, hc, nonMem_all, ite_self]

theorem answerOk_execTbSpeedUpdate (speed : Nat) (s : State) (h : s.chip.MemsOk) : AnswerOk (execTbSpeedUpdate speed s) := by
  refine State.answerOk_run (fun c hc => ?_) h
  simp only [Chip.MemsOk, Chip.hide_setFld, Chip.hide_ite, hc, nonMem_all, ite_self]

theorem answerOk_execCaptureComplete (port : Nat) (value : Word) (s : State) (h : s.chip.MemsOk) : AnswerOk (execCaptureComplete port value s) := by
  refine State.answerOk_run (fun c hc => ?_) h
  simp only [Chip.MemsOk, Chip.hide_upPort, Chip.hide_ite, hc, nonMem_all, ite_self]

theorem answerOk_execCaptureStale (port : Nat) (s : State) (h : s.chip.MemsOk) : AnswerOk (execCaptureStale port s) := by
  refine State.answerOk_run (fun c hc => ?_) h
  simp only [Chip.MemsOk, Chip.hide_setBits, Chip.hide_upPort, Chip.hide_ite, hc, nonMem_all, ite_self]

theorem answerOk_execGpWatchRearm (pin : Nat) (level : Bool) (s : State) (h : s.chip.MemsOk) : AnswerOk (execGpWatchRearm pin level s) := by
  refine State.answerOk_run (fun c hc => ?_) h
  simp only [Chip.MemsOk, Chip.hide_upLands, Chip.hide_ite, hc, nonMem_all, ite_self]

theorem answerOk_execGpEdge (pin : Nat) (level : Bool) (s : State) (h : s.chip.MemsOk) : AnswerOk (execGpEdge pin level s) := by
  refine State.answerOk_run (fun c hc => ?_) h
  simp only [Chip.MemsOk, Chip.hide_gpEdge, Chip.hide_ite, hc, nonMem_all, and_self, ite_self]

theorem answerOk_execGirthTransfer (lane : Nat) (groups : List Nat) (kind : Nat) (s : State) (h : s.chip.MemsOk) :
    AnswerOk (execGirthTransfer lane groups kind s) :=
  State.answerOk_run (fun _ hc => Chip.memsOk_eq (Chip.hide_girthTransfer _ _ _ _ (by decide)) hc) h

theorem answerOk_execLaneProbe (lane : Nat) (s : State) (h : s.chip.MemsOk) : AnswerOk (execLaneProbe lane s) := by
  refine State.answerOk_run (fun c hc => ?_) h
  simp only [Chip.MemsOk, Chip.hide_upGirth, Chip.hide_ite, hc, nonMem_all, ite_self]

theorem answerOk_execFieldTransferWake (prot : Bool) (s : State) (h : s.chip.MemsOk) : AnswerOk (execFieldTransferWake prot s) := by
  refine State.answerOk_run (fun c hc => ?_) h
  simp only [Chip.MemsOk, Chip.hide_upTb, Chip.hide_upGirth, Chip.hide_ite, hc, nonMem_all, ite_self]

theorem answerOk_execLaneSilent (lane : Nat) (s : State) (h : s.chip.MemsOk) : AnswerOk (execLaneSilent lane s) :=
  State.answerOk_run (fun _ hc => Chip.memsOk_if (Chip.memsOk_goSilent _ _ hc) hc) h

theorem answerOk_execLaneWakeTimeout (lane : Nat) (s : State) (h : s.chip.MemsOk) : AnswerOk (execLaneWakeTimeout lane s) :=
  State.answerOk_run (fun _ hc => Chip.memsOk_if (Chip.memsOk_goSilent _ _ hc) hc) h

theorem answerOk_execLaneWakeHandshake (lane : Nat) (s : State) (h : s.chip.MemsOk) : AnswerOk (execLaneWakeHandshake lane s) := by
  refine State.answerOk_run (fun c hc => ?_) h
  simp only [Chip.MemsOk, Chip.hide_sendHeld, Chip.hide_setLane, Chip.hide_ite, hc, nonMem_all, and_self, ite_self]

theorem answerOk_execFieldLaneTimeout (s : State) (h : s.chip.MemsOk) : AnswerOk (execFieldLaneTimeout s) := by
  refine State.answerOk_run (fun c hc => ?_) h
  simp only [Chip.MemsOk, Chip.hide_fieldCutOff, Chip.hide_ite, hc, nonMem_all, and_self, ite_self]

theorem answerOk_execProtectionLaneTimeout (code : Nat) (arg0 : Nat) (arg1 : Nat) (s : State) (h : s.chip.MemsOk) :
    AnswerOk (execProtectionLaneTimeout code arg0 arg1 s) := by
  refine State.answerOk_run (fun c hc => ?_) h
  simp only [Chip.MemsOk, Chip.hide_reroute, Chip.hide_ite, hc, nonMem_all, and_self, ite_self]

theorem answerOk_execConverterLaneTimeout (s : State) (h : s.chip.MemsOk) : AnswerOk (execConverterLaneTimeout s) := by
  refine State.answerOk_run (fun c hc => ?_) h
  simp only [Chip.MemsOk, Chip.hide_converterCutOff, Chip.hide_ite, hc, nonMem_all, and_self, ite_self]

theorem answerOk_execFirstStrobe (lane : Nat) (s : State) (h : s.chip.MemsOk) : AnswerOk (execFirstStrobe lane s) := by
  refine State.answerOk_run (fun c hc => ?_) h
  simp only [Chip.MemsOk, Chip.hide_setSamp, Chip.hide_ite, hc, nonMem_all, ite_self]

theorem answerOk_execSampleLaneFail (lane : Nat) (s : State) (h : s.chip.MemsOk) : AnswerOk (execSampleLaneFail lane s) := by
  refine State.answerOk_run (fun c hc => ?_) h
  simp only [Chip.MemsOk, Chip.hide_setBits, Chip.hide_girthEvent, Chip.hide_setSamp, Chip.memsOk_handledAs, Chip.hide_ite, Chip.memsWf_ite, hc,
    nonMem_all, ite_self]

theorem answerOk_execTimebaseLineFail (line : Nat) (s : State) (h : s.chip.MemsOk) : AnswerOk (execTimebaseLineFail line s) := by
  refine State.answerOk_run (fun c hc => ?_) h
  simp only [Chip.MemsOk, Chip.hide_setBits, Chip.hide_girthEvent, Chip.memsOk_handledAs, Chip.hide_ite, Chip.memsWf_ite, hc, nonMem_all,
    ite_self]

theorem answerOk_execRemoteSetApply (arm : Nat) (s : State) (h : s.chip.MemsOk) : AnswerOk (execRemoteSetApply arm s) := by
  refine State.answerOk_run (fun c hc => ?_) h
  repeat' split
  all_goals simp only [Chip.MemsOk, Chip.hide_applyUnit, hc, nonMem_all, and_self]

theorem answerOk_execThermTrip (die : Nat) (reading : Int) (s : State) (h : s.chip.MemsOk) : AnswerOk (execThermTrip die reading s) := by
  refine State.answerOk_run (fun c hc => ?_) h
  simp only [Chip.MemsOk, Chip.hide_upTherm, Chip.memsOk_tripBegins, Chip.hide_ite, Chip.memsWf_ite, hc, nonMem_all, ite_self]

theorem answerOk_execThermalHoldEnter (s : State) (h : s.chip.MemsOk) : AnswerOk (execThermalHoldEnter s) := by
  refine State.answerOk_run (fun c hc => ?_) h
  simp only [Chip.MemsOk, Chip.hide_enterHold, Chip.memsOk_memGraceOver, Chip.hide_ite, Chip.memsWf_ite, hc, nonMem_all, and_self, ite_self]

theorem Chip.memsOk_updRow {act : Chip → Entry → Chip} (hact : ∀ c e, c.MemsOk → (act c e).MemsOk) (c : Chip) (kind : Option Nat) (h : c.MemsOk) :
    (c.updRow kind act).MemsOk := by
  unfold Chip.updRow
  split
  · exact Chip.memsOk_if (hact _ _ (Chip.memsOk_eq (Chip.hide_consume _ _ _ (by decide)) h)) h
  · exact h

theorem answerOk_execBegin (s : State) (h : s.chip.MemsOk) : AnswerOk (execBegin s) :=
  State.answerOk_run (fun c hc => Chip.memsOk_updRow Chip.memsOk_updBegin c _ hc) h

theorem answerOk_execData (s : State) (h : s.chip.MemsOk) : AnswerOk (execData s) :=
  State.answerOk_run (fun c hc => Chip.memsOk_updRow Chip.memsOk_updDataEntry c _ hc) h

theorem answerOk_execActivate (s : State) (h : s.chip.MemsOk) : AnswerOk (execActivate s) :=
  State.answerOk_run (fun c hc => Chip.memsOk_updRow Chip.memsOk_updActivate c _ hc) h

theorem answerOk_execAbort (s : State) (h : s.chip.MemsOk) : AnswerOk (execAbort s) :=
  State.answerOk_run (fun c hc => Chip.memsOk_updRow Chip.memsOk_updAbort c _ hc) h

theorem answerOk_execRevert (s : State) (h : s.chip.MemsOk) : AnswerOk (execRevert s) :=
  State.answerOk_run (fun c hc => Chip.memsOk_updRow Chip.memsOk_updRevert c _ hc) h

theorem answerOk_execUpdateEntryInvalid (s : State) (h : s.chip.MemsOk) : AnswerOk (execUpdateEntryInvalid s) :=
  State.answerOk_run (fun c hc => Chip.memsOk_updRow (fun c _ hc => Chip.memsOk_updErr c 1 hc) c none hc) h

theorem answerOk_execTrialCheck (check : Nat) (s : State) (h : s.chip.MemsOk) : AnswerOk (execTrialCheck check s) :=
  State.answerOk_run (fun _ hc => Chip.memsOk_trialCheck _ _ hc) h

theorem answerOk_execCheckFailed (check : Nat) (s : State) (h : s.chip.MemsOk) : AnswerOk (execCheckFailed check s) :=
  State.answerOk_run (fun _ hc => Chip.memsOk_checkFailed _ _ hc) h

theorem answerOk_execTrialSecCommit (s : State) (h : s.chip.MemsOk) : AnswerOk (execTrialSecCommit s) := by
  refine State.answerOk_run (fun c hc => ?_) h
  simp only [Chip.MemsOk, Chip.memsOk_trialCommit, Chip.hide_ite, Chip.memsWf_ite, hc, ite_self]

theorem answerOk_execStartLoad (part : NorPart) (s : State) (h : s.chip.MemsOk) : AnswerOk (execStartLoad part s) := by
  refine State.answerOk_run (fun c hc => ?_) h
  simp only [Chip.MemsOk, Chip.memsOk_startLoad, Chip.memsOk_enterStirrup, Chip.hide_ite, Chip.memsWf_ite, hc, ite_self]

theorem answerOk_execNop (alive : Nat) (fill : Nat) (s : State) (h : s.chip.MemsOk) : AnswerOk (execNop alive fill s) :=
  State.answerOk_run (fun _ hc => Chip.memsOk_frame _ _ _ _ _ _ _ hc) h

theorem answerOk_execRead (alive : Nat) (addr : Nat) (count : Nat) (fill : Nat) (s : State) (h : s.chip.MemsOk) :
    AnswerOk (execRead alive addr count fill s) :=
  State.answerOk_run (fun _ hc => Chip.memsOk_frame _ _ _ _ _ _ _ hc) h

theorem answerOk_execWrite (alive : Nat) (addr : Nat) (words : List Word) (fill : Nat) (s : State) (h : s.chip.MemsOk) :
    AnswerOk (execWrite alive addr words fill s) :=
  State.answerOk_run (fun _ hc => Chip.memsOk_frame _ _ _ _ _ _ _ hc) h

theorem answerOk_execPush (alive : Nat) (addr : Nat) (words : List Word) (fill : Nat) (s : State) (h : s.chip.MemsOk) :
    AnswerOk (execPush alive addr words fill s) :=
  State.answerOk_run (fun _ hc => Chip.memsOk_frame _ _ _ _ _ _ _ hc) h

theorem answerOk_execRejectedFrame (bytes : List Byte) (extraBits : Nat) (s : State) (h : s.chip.MemsOk) :
    AnswerOk (execRejectedFrame bytes extraBits s) :=
  State.answerOk_run (fun _ hc => Chip.memsOk_rawFrame _ _ _ hc) h

theorem answerOk_execVioLost (frame : Option Nat) (s : State) (h : s.chip.MemsOk) : AnswerOk (execVioLost frame s) := by
  refine State.answerOk_runPower (fun c hc => ?_) h
  simp only [Chip.MemsOk, Chip.memsOk_vioLost, Chip.hide_upLands, Chip.hide_ite, Chip.memsWf_ite, hc, nonMem_all, ite_self]

theorem answerOk_execVioGood (s : State) (h : s.chip.MemsOk) : AnswerOk (execVioGood s) := by
  refine State.answerOk_runPower (fun c hc => ?_) h
  simp only [Chip.MemsOk, Chip.hide_upLands, Chip.memsOk_vioBack, Chip.hide_ite, Chip.memsWf_ite, hc, nonMem_all, ite_self]

theorem exec_answerOk (i : Instr) (s : State) (h : s.chip.MemsOk) : AnswerOk (exec i s) := by
  cases i with
  | leapInsert => exact answerOk_execLeapInsert _ h
  | leapDelete => exact answerOk_execLeapDelete _ h
  | calendarArm => exact State.answerOk_runHost (fun _ hc => Chip.memsOk_eq (Chip.hide_calendarArm _ (by decide)) hc) h
  | calendarApply => exact answerOk_execCalendarApply _ h
  | keepDiscArm => exact State.answerOk_runHost (fun _ hc => Chip.memsOk_eq (Chip.hide_keepDiscArm _ (by decide)) hc) h
  | keepLoopArm => exact State.answerOk_runHost (fun _ hc => Chip.memsOk_eq (Chip.hide_keepLoopArm _ (by decide)) hc) h
  | loopSample _ _ => exact State.answerOk_run (fun _ hc => Chip.memsOk_eq (Chip.hide_loopSample _ _ _ (by decide)) hc) h
  | wakeRose _ => exact State.answerOk_run (fun _ hc => Chip.memsOk_eq (Chip.hide_wakeRose _ _ (by decide)) hc) h
  | journalRecordWrite => exact State.answerOk_run (fun _ hc => Chip.memsOk_journalWrite _ hc) h
  | journalEventRecord => exact State.answerOk_run (fun _ hc => Chip.memsOk_journalEvent _ hc) h
  | hourCommit _ => exact answerOk_execHourCommit _ _ h
  | meterMark _ => exact answerOk_execMeterMark _ _ h
  | meterCeiling _ => exact answerOk_execMeterCeiling _ _ h
  | retentionLost => exact answerOk_execRetentionLost _ h
  | calendarHourChange _ => exact answerOk_execCalendarHourChange _ _ h
  | codeLock _ => exact State.answerOk_run (fun _ hc => Chip.memsOk_eq (Chip.hide_upChan _ _ _ (by decide)) hc) h
  | carrierLock _ _ => exact State.answerOk_run (fun _ hc => Chip.memsOk_eq (Chip.hide_upChan _ _ _ (by decide)) hc) h
  | codeLockTimeout _ => exact answerOk_execCodeLockTimeout _ _ h
  | cycleSlip _ => exact State.answerOk_run (fun _ hc => Chip.memsOk_eq (Chip.hide_upChan _ _ _ (by decide)) hc) h
  | navSyncLost _ => exact State.answerOk_run (fun _ hc => Chip.memsOk_eq (Chip.hide_upChan _ _ _ (by decide)) hc) h
  | channelLoss _ => exact answerOk_execChannelLoss _ _ h
  | timeMessage _ _ _ _ _ _ => exact answerOk_execTimeMessage _ _ _ _ _ _ _ h
  | timePulse => exact answerOk_execTimePulse _ h
  | pulseEnd => exact State.answerOk_run (fun _ hc => Chip.memsOk_eq (Chip.hide_with_track _ _ (by decide)) hc) h
  | pulseSkipped _ _ _ => exact answerOk_execPulseSkipped _ _ _ _ h
  | tpStopped => exact answerOk_execTpStopped _ h
  | tpCfgArm => exact State.answerOk_runHost (fun _ hc => Chip.memsOk_eq (Chip.hide_tpCfgArm _ (by decide)) hc) h
  | gtrkCfgArm => exact State.answerOk_runHost (fun _ hc => Chip.memsOk_eq (Chip.hide_gtrkCfgArm _ (by decide)) hc) h
  | gtrkTrustArm => exact State.answerOk_runHost (fun _ hc => Chip.memsOk_eq (Chip.hide_gtrkTrustArm _ (by decide)) hc) h
  | measurementEpoch _ _ _ => exact answerOk_execMeasurementEpoch _ _ _ _ h
  | navUnit _ _ _ _ _ => exact answerOk_execNavUnit _ _ _ _ _ _ h
  | navSolution _ => exact answerOk_execNavSolution _ _ h
  | snapshotCaptureStart _ => exact answerOk_execSnapshotCaptureStart _ _ h
  | snapshotCaptureEnd _ _ _ _ => exact State.answerOk_run (fun _ hc => Chip.memsOk_eq (Chip.hide_captureEnd _ _ _ _ _ (by decide)) hc) h
  | liveBlockComplete _ => exact answerOk_execLiveBlockComplete _ _ h
  | acqPassEnd _ _ _ _ _ => exact State.answerOk_run (fun _ hc => Chip.memsOk_eq (Chip.hide_passEnd _ _ _ _ _ _ (by decide)) hc) h
  | snapshotSolution _ => exact State.answerOk_run (fun _ hc => Chip.memsOk_snapshotSolution _ _ hc) h
  | trackingBurstEnd => exact State.answerOk_run (fun _ hc => Chip.memsOk_burstEnd _ hc) h
  | gacqKeepCommit => exact State.answerOk_runHost (fun _ hc => Chip.memsOk_keepCommit _ hc) h
  | gacqKeepClear => exact State.answerOk_runHost (fun _ hc => Chip.memsOk_keepClear _ hc) h
  | gacqRfArm => exact State.answerOk_runHost (fun _ hc => Chip.memsOk_eq (Chip.hide_gacqRfArm _ (by decide)) hc) h
  | gacqPlanArm => exact State.answerOk_runHost (fun _ hc => Chip.memsOk_eq (Chip.hide_gacqPlanArm _ (by decide)) hc) h
  | wrfRxArm => exact State.answerOk_runHost (fun _ hc => Chip.memsOk_eq (Chip.hide_radioArm _ _ (by decide)) hc) h
  | wrfTxArm => exact State.answerOk_runHost (fun _ hc => Chip.memsOk_eq (Chip.hide_radioArm _ _ (by decide)) hc) h
  | wrfRfArm => exact State.answerOk_runHost (fun _ hc => Chip.memsOk_eq (Chip.hide_radioArm _ _ (by decide)) hc) h
  | wrfDutyArm => exact State.answerOk_runHost (fun _ hc => Chip.memsOk_eq (Chip.hide_radioArm _ _ (by decide)) hc) h
  | wrfHopArm => exact State.answerOk_runHost (fun _ hc => Chip.memsOk_eq (Chip.hide_radioArm _ _ (by decide)) hc) h
  | burstRequest _ => exact answerOk_execBurstRequest _ _ h
  | frameLaunch _ _ => exact answerOk_execFrameLaunch _ _ _ h
  | txQueueEmpty => exact answerOk_execTxQueueEmpty _ h
  | txAbort => exact State.answerOk_runHost (fun _ hc => Chip.memsOk_eq (Chip.hide_txAbort _ (by decide)) hc) h
  | reflectCheck _ => exact State.answerOk_run (fun _ hc => Chip.memsOk_eq (Chip.hide_reflect _ _ (by decide)) hc) h
  | synthUnlock => exact State.answerOk_run (fun _ hc => Chip.memsOk_eq (Chip.hide_setBits _ _ _ (by decide)) hc) h
  | listenWindowStart _ => exact answerOk_execListenWindowStart _ _ h
  | windowEnd => exact State.answerOk_run (fun _ hc => Chip.memsOk_eq (Chip.hide_windowEnd _ (by decide)) hc) h
  | syncDetect _ _ _ _ _ => exact State.answerOk_run (fun _ hc => Chip.memsOk_eq (Chip.hide_syncDetect _ _ _ _ _ _ (by decide)) hc) h
  | headerDecode _ _ => exact State.answerOk_run (fun _ hc => Chip.memsOk_eq (Chip.hide_headerDecode _ _ _ (by decide)) hc) h
  | ringProduce _ _ _ => exact answerOk_execRingProduce _ _ _ _ h
  | ringProduceResume _ => exact answerOk_execRingProduceResume _ _ h
  | holdingBufferDrain _ => exact answerOk_execHoldingBufferDrain _ _ h
  | lossyConversion _ => exact answerOk_execLossyConversion _ _ h
  | ringConsume _ _ => exact answerOk_execRingConsume _ _ _ h
  | ringProducePublish _ _ => exact answerOk_execRingProducePublish _ _ _ h
  | ringObsAck _ => exact State.answerOk_runHost (fun _ hc => Chip.memsOk_eq (Chip.hide_obsAck _ _ (by decide)) hc) h
  | ringWindowStage _ _ _ => exact answerOk_execRingWindowStage _ _ _ _ h
  | ringWindowRead _ _ _ => exact answerOk_execRingWindowRead _ _ _ _ h
  | ringCfgArm _ => exact answerOk_execRingCfgArm _ _ h
  | ringCfgApply _ => exact State.answerOk_run (fun _ hc => Chip.memsOk_eq (Chip.hide_upRing _ _ _ (by decide)) hc) h
  | arbiterGrant _ => exact State.answerOk_run (fun _ hc => Chip.memsOk_eq (Chip.hide_arbGrant _ _ (by decide)) hc) h
  | testHarnessForward _ => exact answerOk_execTestHarnessForward _ _ h
  | modeReqShip => exact State.answerOk_runHost (fun _ hc => Chip.memsOk_eq (Chip.hide_hostMode _ _ (by decide)) hc) h
  | modeReqKeeperWatch _ => exact State.answerOk_runHost (fun _ hc => Chip.memsOk_eq (Chip.hide_hostMode _ _ (by decide)) hc) h
  | modeReqFix => exact State.answerOk_runHost (fun _ hc => Chip.memsOk_eq (Chip.hide_hostMode _ _ (by decide)) hc) h
  | modeReqBurst => exact State.answerOk_runHost (fun _ hc => Chip.memsOk_eq (Chip.hide_hostMode _ _ (by decide)) hc) h
  | modeReqDuty => exact State.answerOk_runHost (fun _ hc => Chip.memsOk_eq (Chip.hide_hostMode _ _ (by decide)) hc) h
  | modeReqInvalid _ => exact answerOk_execModeReqInvalid _ _ h
  | modePolicyArm => exact State.answerOk_runHost (fun _ hc => Chip.memsOk_eq (Chip.hide_modePolicyArm _ (by decide)) hc) h
  | ring0Consume => exact State.answerOk_run (fun _ hc => Chip.memsOk_eq (Chip.hide_ring0Consume _ (by decide)) hc) h
  | theftCmdArm => exact State.answerOk_runHost (fun _ hc => Chip.memsOk_eq (Chip.hide_theftCmd _ _ _ (by decide)) hc) h
  | theftCmdDisarm => exact State.answerOk_runHost (fun _ hc => Chip.memsOk_eq (Chip.hide_theftCmd _ _ _ (by decide)) hc) h
  | theftCmdSuspect _ => exact State.answerOk_runHost (fun _ hc => Chip.memsOk_eq (Chip.hide_theftCmd _ _ _ (by decide)) hc) h
  | theftCmdDeclare => exact State.answerOk_runHost (fun _ hc => Chip.memsOk_eq (Chip.hide_theftCmd _ _ _ (by decide)) hc) h
  | theftWindowExpired => exact answerOk_execTheftWindowExpired _ h
  | theftClearDisarm _ => exact answerOk_execTheftClearDisarm _ _ h
  | theftClearArm _ => exact answerOk_execTheftClearArm _ _ h
  | reportReq => exact State.answerOk_run (fun _ hc => Chip.memsOk_eq (Chip.hide_reportReq _ (by decide)) hc) h
  | yardRoundStart => exact answerOk_execYardRoundStart _ h
  | yardSlotStart _ => exact answerOk_execYardSlotStart _ _ h
  | alarmRetry => exact State.answerOk_run (fun _ hc => Chip.memsOk_eq (Chip.hide_alarmRetry _ (by decide)) hc) h
  | buckleRetry => exact State.answerOk_run (fun _ hc => Chip.memsOk_eq (Chip.hide_buckleRetry _ (by decide)) hc) h
  | buckleListenTimeout => exact answerOk_execBuckleListenTimeout _ h
  | beacon => exact answerOk_execBeacon _ h
  | beaconMissed => exact answerOk_execBeaconMissed _ h
  | theftClear => exact answerOk_execTheftClear _ h
  | updateData => exact answerOk_execUpdateData _ h
  | yardHostEvent => exact answerOk_execYardHostEvent _ h
  | requestReport => exact answerOk_execRequestReport _ h
  | rebuckle => exact answerOk_execRebuckle _ h
  | alarm => exact answerOk_execAlarm _ h
  | alarmAck => exact answerOk_execAlarmAck _ h
  | buckleOffer => exact answerOk_execBuckleOffer _ h
  | report _ => exact answerOk_execReport _ _ h
  | reply => exact answerOk_execReply _ h
  | buckleReq => exact answerOk_execBuckleReq _ h
  | buckleConfirm => exact answerOk_execBuckleConfirm _ h
  | yardCommandQueued => exact State.answerOk_run (fun _ hc => Chip.memsOk_eq (Chip.hide_commandQueued _ (by decide)) hc) h
  | yardKeyLoad => exact State.answerOk_runHost (fun _ hc => Chip.memsOk_yardLoad _ hc) h
  | yardKeyErase => exact State.answerOk_runHost (fun _ hc => Chip.memsOk_yardLoad _ hc) h
  | yardCfgArm => exact State.answerOk_runHost (fun _ hc => Chip.memsOk_eq (Chip.hide_yardCfgArm _ (by decide)) hc) h
  | frameSent => exact State.answerOk_run (fun _ hc => Chip.memsOk_eq (Chip.hide_frameSentYard _ (by decide)) hc) h
  | chgStateChange _ _ => exact answerOk_execChgStateChange _ _ _ h
  | chgTimer => exact answerOk_execChgTimer _ h
  | ntcOpen => exact answerOk_execNtcOpen _ h
  | chargeWindow _ => exact answerOk_execChargeWindow _ _ h
  | foutLimit _ => exact answerOk_execFoutLimit _ _ h
  | foutTherm _ => exact answerOk_execFoutTherm _ _ h
  | foutOpen _ => exact answerOk_execFoutOpen _ _ h
  | gbiasShort => exact answerOk_execGbiasShort _ h
  | gbiasOpen => exact answerOk_execGbiasOpen _ h
  | fldChgArm => exact State.answerOk_runHost (fun _ hc => Chip.memsOk_eq (Chip.hide_fldChgArm _ (by decide)) hc) h
  | fldFoutArm => exact State.answerOk_runHost (fun _ hc => Chip.memsOk_eq (Chip.hide_fldFoutArm _ (by decide)) hc) h
  | fldGbiasArm => exact State.answerOk_runHost (fun _ hc => Chip.memsOk_eq (Chip.hide_fldGbiasArm _ (by decide)) hc) h
  | fvinTaken => exact State.answerOk_runPower (fun _ hc => Chip.memsOk_eq (Chip.hide_fvinTake _ (by decide)) hc) h
  | fvinRelease => exact answerOk_execFvinRelease _ h
  | fvinOv _ _ => exact answerOk_execFvinOv _ _ _ h
  | cellCut _ _ => exact State.answerOk_runPower (fun _ hc => Chip.memsOk_eq (Chip.hide_cellCut _ _ _ (by decide)) hc) h
  | cellReconnect => exact State.answerOk_runPower (fun _ hc => Chip.memsOk_eq (Chip.hide_cellReconnect _ (by decide)) hc) h
  | cellReversed _ _ => exact answerOk_execCellReversed _ _ _ h
  | batHold _ _ => exact State.answerOk_run (fun _ hc => Chip.memsOk_eq (Chip.hide_batHold _ _ _ (by decide)) hc) h
  | batHoldEnd => exact State.answerOk_run (fun _ hc => Chip.memsOk_eq (Chip.hide_endBatHold _ (by decide)) hc) h
  | buckSag => exact answerOk_execBuckSag _ h
  | supplyOut _ _ => exact State.answerOk_run (fun _ hc => Chip.memsOk_eq (Chip.hide_upTherm _ _ (by decide)) hc) h
  | coreRailScaling _ => exact State.answerOk_run (fun _ hc => Chip.memsOk_eq (Chip.hide_upTb _ _ (by decide)) hc) h
  | excCodeWrite _ _ => exact answerOk_execExcCodeWrite _ _ _ h
  | excCfgArm _ => exact answerOk_execExcCfgArm _ _ h
  | deglitchEnd _ => exact answerOk_execDeglitchEnd _ _ h
  | excCut _ _ => exact answerOk_execExcCut _ _ _ h
  | monScan _ _ _ => exact answerOk_execMonScan _ _ _ _ h
  | monCtlArm => exact State.answerOk_runHost (fun _ hc => Chip.memsOk_eq (Chip.hide_monCtlArm _ (by decide)) hc) h
  | awlCtlArm => exact State.answerOk_runHost (fun _ hc => Chip.memsOk_eq (Chip.hide_awlCtlArm _ (by decide)) hc) h
  | fldPinArm => exact State.answerOk_runHost (fun _ hc => Chip.memsOk_eq (Chip.hide_fldPinArm _ (by decide)) hc) h
  | fignOpenCheck _ => exact answerOk_execFignOpenCheck _ _ h
  | fignSuspect => exact answerOk_execFignSuspect _ h
  | seqRoundStart _ => exact answerOk_execSeqRoundStart _ _ h
  | seqArm _ => exact answerOk_execSeqArm _ _ h
  | finCfgArm => exact State.answerOk_runHost (fun _ hc => Chip.memsOk_eq (Chip.hide_finCfgArm _ (by decide)) hc) h
  | finSample _ _ => exact State.answerOk_run (fun _ hc => Chip.memsOk_eq (Chip.hide_finSample _ _ _ (by decide)) hc) h
  | fignSample _ => exact State.answerOk_run (fun _ hc => Chip.memsOk_eq (Chip.hide_fignSample _ _ (by decide)) hc) h
  | chainSample _ _ _ => exact State.answerOk_run (fun _ hc => Chip.memsOk_eq (Chip.hide_chainSample _ _ _ _ (by decide)) hc) h
  | fastPathValue _ _ => exact answerOk_execFastPathValue _ _ _ h
  | modOverload _ => exact answerOk_execModOverload _ _ h
  | awlTestEnd _ _ _ _ => exact answerOk_execAwlTestEnd _ _ _ _ _ h
  | runListenWindow => exact State.answerOk_run (fun _ hc => Chip.memsOk_eq (Chip.hide_listenDue _ (by decide)) hc) h
  | runWindowEnd _ _ _ => exact State.answerOk_run (fun _ hc => Chip.memsOk_eq (Chip.hide_windowDone _ _ _ _ (by decide)) hc) h
  | runCfgArm => exact State.answerOk_runHost (fun _ hc => Chip.memsOk_eq (Chip.hide_runCfgArm _ (by decide)) hc) h
  | fltCtlArm _ => exact answerOk_execFltCtlArm _ _ h
  | fltSwap _ => exact answerOk_execFltSwap _ _ h
  | bankSwap _ => exact answerOk_execBankSwap _ _ h
  | fltBankData _ => exact answerOk_execFltBankData _ _ h
  | modeChanged => exact State.answerOk_run (fun _ hc => Chip.memsOk_modeReached _ hc) h
  | burnishStepEnd _ _ _ _ => exact answerOk_execBurnishStepEnd _ _ _ _ _ h
  | burnishRequest _ _ => exact State.answerOk_runHost (fun _ hc => Chip.memsOk_eq (Chip.hide_burnishReq _ _ _ (by decide)) hc) h
  | ruleSweep => exact State.answerOk_run (fun _ hc => Chip.memsOk_eq (Chip.hide_ruleSweep _ (by decide)) hc) h
  | ruleFire => exact answerOk_execRuleFire _ h
  | theftClearApply => exact answerOk_execTheftClearApply _ h
  | ruleSetApply => exact State.answerOk_run (fun _ hc => Chip.memsOk_eq (Chip.hide_applySets _ (by decide)) hc) h
  | ruleTimerExpired _ => exact State.answerOk_run (fun _ hc => Chip.memsOk_eq (Chip.hide_timerExpired _ _ (by decide)) hc) h
  | holdTimerExpired _ => exact answerOk_execHoldTimerExpired _ _ h
  | keeperEventPost => exact State.answerOk_run (fun _ hc => Chip.memsOk_eq (Chip.hide_postKeeper _ (by decide)) hc) h
  | ruleHostEvt _ => exact answerOk_execRuleHostEvt _ _ h
  | ruleEditArm => exact State.answerOk_runHost (fun _ hc => Chip.memsOk_eq (Chip.hide_ruleEditArm _ (by decide)) hc) h
  | ruleEnArm => exact State.answerOk_runHost (fun _ hc => Chip.memsOk_eq (Chip.hide_ruleEnArm _ (by decide)) hc) h
  | ruleMeterArm => exact State.answerOk_runHost (fun _ hc => Chip.memsOk_eq (Chip.hide_ruleMeterArm _ (by decide)) hc) h
  | meterSetApply => exact State.answerOk_run (fun _ hc => Chip.memsOk_eq (Chip.hide_meterSetApply _ (by decide)) hc) h
  | ruleFenceArm => exact State.answerOk_runHost (fun _ hc => Chip.memsOk_eq (Chip.hide_ruleFenceArm _ (by decide)) hc) h
  | ruleWatchArm => exact State.answerOk_runHost (fun _ hc => Chip.memsOk_eq (Chip.hide_ruleWatchArm _ (by decide)) hc) h
  | ruleTheftCfgArm => exact State.answerOk_runHost (fun _ hc => Chip.memsOk_eq (Chip.hide_ruleTheftCfgArm _ (by decide)) hc) h
  | corePowerOn => exact answerOk_execCorePowerOn _ h
  | shipExit _ => exact answerOk_execShipExit _ _ h
  | nrstReset => exact State.answerOk_run (fun _ hc => Chip.memsOk_beginStart _ _ hc) h
  | sysStartCmd _ => exact answerOk_execSysStartCmd _ _ h
  | startRetry => exact answerOk_execStartRetry _ h
  | startTimeout => exact answerOk_execStartTimeout _ h
  | supplyCycle => exact answerOk_execSupplyCycle _ h
  | stirrupBeacon => exact answerOk_execStirrupBeacon _ h
  | stirrupListenEnd => exact State.answerOk_run (fun _ hc => Chip.memsOk_eq (Chip.hide_upStart _ _ (by decide)) hc) h
  | restart _ => exact State.answerOk_run (fun _ hc => Chip.memsOk_recovery _ _ hc) h
  | restartSlot _ => exact State.answerOk_run (fun _ hc => Chip.memsOk_recovery _ _ hc) h
  | restartDefaults _ => exact State.answerOk_run (fun _ hc => Chip.memsOk_recovery _ _ hc) h
  | restartCalDefaults _ => exact State.answerOk_run (fun _ hc => Chip.memsOk_recovery _ _ hc) h
  | frameReceived _ _ _ => exact answerOk_execFrameReceived _ _ _ _ h
  | gateArm => exact State.answerOk_runHost (fun _ hc => Chip.memsOk_eq (Chip.hide_gateArm _ (by decide)) hc) h
  | powerStateChange _ => exact State.answerOk_run (fun _ hc => Chip.memsOk_eq (Chip.hide_upTb _ _ (by decide)) hc) h
  | domainSwitchRequest _ _ => exact answerOk_execDomainSwitchRequest _ _ _ h
  | stopAcknowledged _ => exact answerOk_execStopAcknowledged _ _ h
  | sourceSwitch _ => exact answerOk_execSourceSwitch _ _ h
  | domainRelease _ => exact answerOk_execDomainRelease _ _ h
  | tbkProven => exact answerOk_execTbkProven _ h
  | tbmProven => exact answerOk_execTbmProven _ h
  | tbkFail _ _ => exact answerOk_execTbkFail _ _ _ h
  | tbmFail _ _ => exact answerOk_execTbmFail _ _ _ h
  | timebaseProofDeadline _ => exact answerOk_execTimebaseProofDeadline _ _ h
  | loopLocked _ => exact answerOk_execLoopLocked _ _ h
  | mlUnlock _ => exact answerOk_execMlUnlock _ _ h
  | mlgUnlock => exact answerOk_execMlgUnlock _ h
  | loopLockRetry _ _ => exact answerOk_execLoopLockRetry _ _ _ h
  | tbSrcArm => exact State.answerOk_runHost (fun _ hc => Chip.memsOk_eq (Chip.hide_tbSrcArm _ (by decide)) hc) h
  | tbCkoArm => exact State.answerOk_runHost (fun _ hc => Chip.memsOk_eq (Chip.hide_tbCkoArm _ (by decide)) hc) h
  | ckoDivApply => exact State.answerOk_run (fun _ hc => Chip.memsOk_eq (Chip.hide_upTb _ _ (by decide)) hc) h
  | tbSpeedUpdate _ => exact answerOk_execTbSpeedUpdate _ _ h
  | captureComplete _ _ => exact answerOk_execCaptureComplete _ _ _ h
  | captureStale _ => exact answerOk_execCaptureStale _ _ h
  | ioDriveArm => exact State.answerOk_runHost (fun _ hc => Chip.memsOk_eq (Chip.hide_ioDriveArm _ (by decide)) hc) h
  | ioDriveApply _ => exact State.answerOk_run (fun _ hc => Chip.memsOk_eq (Chip.hide_ioDriveApply _ _ (by decide)) hc) h
  | gpCfgArm => exact State.answerOk_runHost (fun _ hc => Chip.memsOk_eq (Chip.hide_gpCfgArm _ (by decide)) hc) h
  | gpWatchRearm _ _ => exact answerOk_execGpWatchRearm _ _ _ h
  | gpEdge _ _ => exact answerOk_execGpEdge _ _ _ h
  | girthTransfer _ _ _ => exact answerOk_execGirthTransfer _ _ _ _ h
  | laneProbe _ => exact answerOk_execLaneProbe _ _ h
  | fieldTransferWake _ => exact answerOk_execFieldTransferWake _ _ h
  | laneSilent _ => exact answerOk_execLaneSilent _ _ h
  | laneWakeTimeout _ => exact answerOk_execLaneWakeTimeout _ _ h
  | laneWakeHandshake _ => exact answerOk_execLaneWakeHandshake _ _ h
  | fieldLaneTimeout => exact answerOk_execFieldLaneTimeout _ h
  | protectionLaneTimeout _ _ _ => exact answerOk_execProtectionLaneTimeout _ _ _ _ h
  | converterLaneTimeout => exact answerOk_execConverterLaneTimeout _ h
  | firstStrobe _ => exact answerOk_execFirstStrobe _ _ h
  | sampleLaneFail _ => exact answerOk_execSampleLaneFail _ _ h
  | timebaseLineFail _ => exact answerOk_execTimebaseLineFail _ _ h
  | remoteSetApply _ => exact answerOk_execRemoteSetApply _ _ h
  | mappedRead _ _ => exact State.answerOk_run (fun _ hc => Chip.memsOk_mappedRead _ _ _ hc) h
  | pageProgram _ _ => exact State.answerOk_run (fun _ hc => Chip.memsOk_pageProgram _ _ _ hc) h
  | sectorErase _ => exact State.answerOk_run (fun _ hc => Chip.memsOk_sectorErase _ _ hc) h
  | xferDone _ => exact State.answerOk_run (fun _ hc => Chip.memsOk_xferDone _ _ hc) h
  | keepChainTimeout => exact State.answerOk_run (fun _ hc => Chip.memsOk_chainEnd _ hc) h
  | eraseReadTimeout => exact State.answerOk_run (fun _ hc => Chip.memsOk_eraseReadTimeout _ hc) h
  | statusPoll _ _ => exact State.answerOk_run (fun _ hc => Chip.memsOk_statusPoll _ _ _ hc) h
  | memXferGo => exact State.answerOk_runHost (fun _ hc => Chip.memsOk_xferGo _ hc) h
  | memCtlArm => exact State.answerOk_runHost (fun _ hc => Chip.memsOk_eq (Chip.hide_memCtlArm _ (by decide)) hc) h
  | memInitArm => exact State.answerOk_runHost (fun _ hc => Chip.memsOk_memInitArm _ hc) h
  | nvmSilent => exact State.answerOk_run (fun _ hc => Chip.memsOk_norSilent _ hc) h
  | thermalSample _ _ _ _ => exact State.answerOk_run (fun _ hc => Chip.memsOk_thermalSample _ _ hc) h
  | thermTrip _ _ => exact answerOk_execThermTrip _ _ _ h
  | thermalHoldEnter => exact answerOk_execThermalHoldEnter _ h
  | begin => exact answerOk_execBegin _ h
  | data => exact answerOk_execData _ h
  | activate => exact answerOk_execActivate _ h
  | abort => exact answerOk_execAbort _ h
  | revert => exact answerOk_execRevert _ h
  | updateEntryInvalid => exact answerOk_execUpdateEntryInvalid _ h
  | chunkWrite _ => exact State.answerOk_run (fun _ hc => Chip.memsOk_chunkWrite _ _ hc) h
  | chunkCommit => exact State.answerOk_run (fun _ hc => Chip.memsOk_chunkCommit _ hc) h
  | verification => exact State.answerOk_run (fun _ hc => Chip.memsOk_verify _ hc) h
  | setNext => exact State.answerOk_runHost (fun _ hc => Chip.memsOk_keyRoll _ hc) h
  | clearNext => exact State.answerOk_runHost (fun _ hc => Chip.memsOk_keyRoll _ hc) h
  | trialCheck _ => exact answerOk_execTrialCheck _ _ h
  | checkFailed _ => exact answerOk_execCheckFailed _ _ h
  | trialSecCommit => exact answerOk_execTrialSecCommit _ h
  | twoBankCommit => exact State.answerOk_run (fun _ hc => Chip.memsOk_bankCommit _ hc) h
  | hostCtlArm => exact State.answerOk_runHost (fun _ hc => Chip.memsOk_eq (Chip.hide_hostCtlArm _ (by decide)) hc) h
  | registerWrite _ _ => exact State.answerOk_run (fun _ hc => Chip.memsOk_hostWrite _ _ _ hc) h
  | settingsSave => exact State.answerOk_runHost (fun _ hc => Chip.memsOk_settingsSave _ hc) h
  | settingsClear => exact State.answerOk_runHost (fun _ hc => Chip.memsOk_settingsClear _ hc) h
  | startLoad _ => exact answerOk_execStartLoad _ _ h
  | remoteWordReady _ => exact State.answerOk_run (fun _ hc => Chip.memsOk_eq (Chip.hide_wordReady _ _ (by decide)) hc) h
  | nop _ _ => exact answerOk_execNop _ _ _ h
  | read _ _ _ _ => exact answerOk_execRead _ _ _ _ _ h
  | write _ _ _ _ => exact answerOk_execWrite _ _ _ _ _ h
  | push _ _ _ _ => exact answerOk_execPush _ _ _ _ _ h
  | rejectedFrame _ _ => exact answerOk_execRejectedFrame _ _ _ h
  | remoteWriteAck => exact State.answerOk_run (fun _ hc => Chip.memsOk_writeAck _ hc) h
  | writeDone => exact State.answerOk_run (fun _ hc => Chip.memsOk_writeDone _ hc) h
  | masterSwitch => exact State.answerOk_run (fun _ hc => Chip.memsOk_eq (Chip.hide_masterSwitch _ (by decide)) hc) h
  | masterPush => exact State.answerOk_run (fun _ hc => Chip.memsOk_eq (Chip.hide_masterPush _ (by decide)) hc) h
  | masterNop _ _ _ => exact State.answerOk_run (fun _ hc => Chip.memsOk_eq (Chip.hide_masterNop _ _ _ _ (by decide)) hc) h
  | vioLost _ => exact answerOk_execVioLost _ _ h
  | vioGood => exact answerOk_execVioGood _ h
  | systemCommand => exact State.answerOk_run (fun _ hc => Chip.memsOk_eq (Chip.hide_systemCommand _ (by decide)) hc) h

theorem Chip.memsOk_keeperTick (c : Chip) (h : c.MemsOk) : c.keeperTick.MemsOk := by
  unfold Chip.keeperTick
  extract_lets stopped
  refine Chip.memsOk_if h ?_
  exact h

theorem Chip.memsOk_growUnc (c : Chip) (h : c.MemsOk) : c.growUnc.MemsOk := by
  unfold Chip.growUnc
  exact Chip.memsOk_if (Chip.memsOk_eq (Chip.hide_upAcq _ _ (by decide)) h) h

theorem Chip.memsOk_idle (c : Chip) (h : c.MemsOk) : c.idle.MemsOk := by
  unfold Chip.idle
  extract_lets c1 c2
  have htick : c1.MemsOk := Chip.memsOk_keeperTick c h
  have hgrown : c2.MemsOk := Chip.memsOk_if (Chip.memsOk_growUnc _ htick) htick
  exact Chip.memsOk_if h (Chip.memsOk_if (Chip.memsOk_eq (Chip.hide_settle _ (by decide)) hgrown) hgrown)

/-- Settles O58: by the command at the front of the queue, or by the idle cycle. -/
theorem everyStepKeepsTheMemoriesCanonical : Obligations.EveryStepKeepsTheMemoriesCanonical := by
  intro s t h hstep
  match hqueue : s.pending with
  | [] => exact State.answerOk_runPower (fun c hc => Chip.memsOk_idle c hc) h t ((step_idle hqueue).symm.trans hstep)
  | i :: rest => exact exec_answerOk i { s with pending := rest } h t ((step_command hqueue).symm.trans hstep)

end Sys2Proof.Machine
end

section
/-! SUPPORT. The frame of each operation that may change MRAM or the memory port. -/

namespace Sys2Proof.Machine

variable {ps : List Part}

/-! ### Shared operations -/

theorem Chip.hide_upMram (c : Chip) (f : Mram → Mram) (h : .mram ∈ ps) : (c.upMram f).hide ps = c.hide ps := by
  simp only [Chip.upMram, Chip.hide_with_mram, h]

theorem Chip.hide_upMem (c : Chip) (f : MemPort → MemPort) (h : .mem ∈ ps) : (c.upMem f).hide ps = c.hide ps := by
  simp only [Chip.upMem, Chip.hide_with_mem, h]

/-! ### The MRAM -/

theorem Chip.hide_commitNow (c : Chip) (struct : Nat) (fmt : Nat) (body : List Byte) (h : .mram ∈ ps) :
    (c.commitNow struct fmt body).hide ps = c.hide ps := by
  simp only [Chip.commitNow, Chip.hide_with_mram, h]

theorem Chip.hide_requestCommit (c : Chip) (struct : Nat) (fmt : Nat) (body : List Byte) (h : .mram ∈ ps ∧ .therm ∈ ps) :
    (c.requestCommit struct fmt body).hide ps = c.hide ps := by
  simp only [Chip.requestCommit, Chip.hide_with_mram, Chip.hide_with_therm, Chip.hide_ite, h, ite_self]

theorem Chip.hide_record (c : Chip) (w0 : Nat) (w1 : Nat) (w2 : Nat) (h : .mram ∈ ps) : (c.record w0 w1 w2).hide ps = c.hide ps := by
  simp only [Chip.record, Chip.hide_with_mram, h]

theorem Chip.hide_norSpoil (c : Chip) (a : Nat) (n : Nat) (h : .start ∈ ps ∧ .mem ∈ ps) : (c.norSpoil a n).hide ps = c.hide ps := by
  simp only [Chip.norSpoil, Chip.hide_upMem, Chip.hide_upStart, h]

theorem Chip.hide_commitStart (c : Chip) (r : StartRec) (h : .mram ∈ ps ∧ .start ∈ ps) : (c.commitStart r).hide ps = c.hide ps := by
  simp only [Chip.commitStart, Chip.hide_commitNow, Chip.hide_with_start, h]

theorem Chip.hide_recordCause (c : Chip) (cause : Nat) (counted : Bool) (h : .mram ∈ ps ∧ .start ∈ ps) :
    (c.recordCause cause counted).hide ps = c.hide ps := by
  simp only [Chip.recordCause, Chip.hide_commitStart, Chip.hide_with_start, Chip.hide_ite, h, and_self, ite_self]

/-! ### The update-state record -/

theorem Chip.hide_commitUpdNow (c : Chip) (r : UpdRec) (h : .mram ∈ ps ∧ .upd ∈ ps ∧ .therm ∈ ps) : (c.commitUpdNow r).hide ps = c.hide ps := by
  simp only [Chip.commitUpdNow, Chip.hide_upTherm, Chip.hide_commitNow, Chip.hide_upUpd, Chip.hide_upMram, h]

theorem Chip.hide_commitUpd (c : Chip) (r : UpdRec) (h : .mram ∈ ps ∧ .upd ∈ ps ∧ .therm ∈ ps) : (c.commitUpd r).hide ps = c.hide ps := by
  simp only [Chip.commitUpd, Chip.hide_upUpd, Chip.hide_requestCommit, Chip.hide_commitUpdNow, Chip.hide_ite, h, and_self, ite_self]

/-! ### The keeper domain -/

theorem Chip.hide_recordWords (c : Chip) (e : List Word) (h : .mram ∈ ps) : (c.recordWords e).hide ps = c.hide ps := by
  simp only [Chip.recordWords, Chip.hide_record, h]

/-! ### GNSS acquisition -/

theorem Chip.hide_keepCommit (c : Chip) (h : .mram ∈ ps ∧ .acq ∈ ps ∧ .therm ∈ ps) : c.keepCommit.hide ps = c.hide ps := by
  simp only [Chip.keepCommit, Chip.hide_requestCommit, Chip.hide_with_acq, h, and_self]

/-! ### The mode controller -/

/-! ### Yard frames -/

theorem Chip.hide_commitYard (c : Chip) (r : YardRecord) (h : .mram ∈ ps) : (c.commitYard r).hide ps = c.hide ps := by
  simp only [Chip.commitYard, Chip.hide_with_mram, h]

/-! ### The yard, sending -/

/-! ### The yard, receiving -/

theorem Chip.hide_acked (c : Chip) (h : .mram ∈ ps ∧ .rings ∈ ps ∧ .yard ∈ ps ∧ .upd ∈ ps) : c.acked.hide ps = c.hide ps := by
  simp only [Chip.acked, Chip.hide_commitYard, Chip.hide_upYard, Chip.hide_reportEvent, Chip.hide_yardEvent, Chip.hide_ite, h, and_self, ite_self]

/-! ### The front end -/

/-! ### Burnish -/

/-! ### Starts -/

theorem Chip.hide_startFail (c : Chip) (cause : Nat) (h : .girth ∈ ps ∧ .modes ∈ ps ∧ .mram ∈ ps ∧ .start ∈ ps) :
    (c.startFail cause).hide ps = c.hide ps := by
  simp only [Chip.startFail, Chip.hide_upModes, Chip.hide_recordCause, Chip.hide_upStart, Chip.hide_setLanes, h, and_self]

theorem Chip.hide_startCause (c : Chip) (cause : Nat) (h : .girth ∈ ps ∧ .modes ∈ ps ∧ .mram ∈ ps ∧ .start ∈ ps) :
    (c.startCause cause).hide ps = c.hide ps := by
  simp only [Chip.startCause, Chip.hide_recordCause, Chip.hide_startFail, Chip.hide_ite, h, and_self, ite_self]

/-! ### Lanes -/

theorem Chip.hide_causeNow (c : Chip) (cause : Nat) (h : .girth ∈ ps ∧ .modes ∈ ps ∧ .mram ∈ ps ∧ .start ∈ ps) :
    (c.causeNow cause).hide ps = c.hide ps := by
  simp only [Chip.causeNow, Chip.hide_startCause, Chip.hide_recordCause, Chip.hide_ite, h, and_self, ite_self]

/-! ### Timebases -/

/-! ### The girth -/

/-! ### The memory port -/

theorem Chip.hide_serveRead (c : Chip) (a : Nat) (n : Nat) (h : .mem ∈ ps) : (c.serveRead a n).hide ps = c.hide ps := by
  simp only [Chip.serveRead, Chip.hide_upMem, h]

theorem Chip.hide_tryRead (c : Chip) (a : Nat) (n : Nat) (h : .mem ∈ ps) : (c.tryRead a n).hide ps = c.hide ps := by
  simp only [Chip.tryRead, Chip.hide_upMem, Chip.hide_serveRead, Chip.hide_ite, h, ite_self]

theorem Chip.hide_sendProgram (c : Chip) (p : Program) (h : .mem ∈ ps) : (c.sendProgram p).hide ps = c.hide ps := by
  simp only [Chip.sendProgram, Chip.hide_upMem, h]

theorem Chip.hide_startXfer (c : Chip) (x : Transfer2) (h : .mem ∈ ps) : (c.startXfer x).hide ps = c.hide ps := by
  simp only [Chip.startXfer, Chip.hide_upMem, h]

theorem Chip.hide_nextInit (c : Chip) (h : .mem ∈ ps) : c.nextInit.hide ps = c.hide ps := by
  simp only [Chip.nextInit]
  repeat' split
  all_goals simp only [Chip.hide_startXfer, Chip.hide_upMem, h]

theorem Chip.hide_busFree (c : Chip) (h : .run ∈ ps ∧ .girth ∈ ps ∧ .mem ∈ ps) : c.busFree.hide ps = c.hide ps := by
  simp only [Chip.busFree]
  repeat' split
  all_goals simp only [Chip.hide_memWaited, Chip.hide_tryRead, Chip.hide_sendProgram, Chip.hide_nextInit, h, and_self]

theorem Chip.hide_norDirty (c : Chip) (cause : Nat) (a : Nat) (h : .regs ∈ ps ∧ .rings ∈ ps ∧ .mem ∈ ps) :
    (c.norDirty cause a).hide ps = c.hide ps := by
  simp only [Chip.norDirty, Chip.hide_upMem, Chip.hide_journal, Chip.hide_setBits, h]

theorem Chip.hide_norAbandon (c : Chip) (cause : Nat) (h : .regs ∈ ps ∧ .start ∈ ps ∧ .rings ∈ ps ∧ .mem ∈ ps) :
    (c.norAbandon cause).hide ps = c.hide ps := by
  simp only [Chip.norAbandon]
  repeat' split
  all_goals simp only [Chip.hide_norSpoil, Chip.hide_upMem, Chip.hide_norDirty, h, and_self]

theorem Chip.hide_memTrip (c : Chip) (h : .regs ∈ ps ∧ .start ∈ ps ∧ .rings ∈ ps ∧ .mem ∈ ps) : c.memTrip.hide ps = c.hide ps := by
  simp only [Chip.memTrip]
  split <;> simp only [Chip.hide_norSpoil, Chip.hide_upMem, Chip.hide_norDirty, Chip.hide_ite, h, and_self, ite_self]

theorem Chip.hide_memGraceOver (c : Chip) (h : .regs ∈ ps ∧ .start ∈ ps ∧ .rings ∈ ps ∧ .mem ∈ ps) : c.memGraceOver.hide ps = c.hide ps := by
  simp only [Chip.memGraceOver]
  repeat' split
  all_goals simp only [Chip.hide_norSpoil, Chip.hide_upMem, Chip.hide_norDirty, h, and_self]

theorem Chip.hide_memResume (c : Chip) (h : .mem ∈ ps) : c.memResume.hide ps = c.hide ps := by
  simp only [Chip.memResume, Chip.hide_upMem, Chip.hide_ite, h, ite_self]

theorem Chip.hide_memVioLost (c : Chip) (h : .regs ∈ ps ∧ .start ∈ ps ∧ .rings ∈ ps ∧ .mem ∈ ps) : c.memVioLost.hide ps = c.hide ps := by
  simp only [Chip.memVioLost]
  split <;> simp only [Chip.hide_norAbandon, Chip.hide_upMem, Chip.hide_xferEvent, Chip.hide_setBits, h, and_self]

/-! ### Temperatures -/

theorem Chip.hide_writeHour (c : Chip) (m : Nat) (h : .keeper ∈ ps ∧ .mram ∈ ps) : (c.writeHour m).hide ps = c.hide ps := by
  simp only [Chip.writeHour, Chip.hide_record, Chip.hide_upMeter, h]

theorem Chip.hide_flushDeferred (c : Chip) (h : .keeper ∈ ps ∧ .mram ∈ ps ∧ .rings ∈ ps ∧ .seqs ∈ ps ∧ .chains ∈ ps ∧ .burnish ∈ ps ∧ .exc ∈ ps ∧
    .acq ∈ ps ∧ .therm ∈ ps) : c.flushDeferred.hide ps = c.hide ps := by
  simp only [Chip.flushDeferred, Chip.hide_heldCal, Chip.hide_upTherm, Chip.hide_recordWords, Chip.hide_upMram, Chip.hide_upKeeper,
    Chip.hide_writeHour, Chip.hide_theftNote, Chip.hide_with_acq, Chip.hide_foldl, h, and_self, implies_true]

theorem Chip.hide_tripCommits (c : Chip) (h : .mram ∈ ps ∧ .rings ∈ ps ∧ .seqs ∈ ps ∧ .chains ∈ ps ∧ .burnish ∈ ps ∧ .exc ∈ ps ∧ .therm ∈ ps) :
    c.tripCommits.hide ps = c.hide ps := by
  simp only [Chip.tripCommits, Chip.hide_upTherm, Chip.hide_burnishInterrupt, Chip.hide_upMram, Chip.hide_ite, h, and_self, ite_self]

/-! ### Updates -/

theorem Chip.hide_upRec (c : Chip) (f : UpdRec → UpdRec) (h : .mram ∈ ps ∧ .upd ∈ ps ∧ .therm ∈ ps) : (c.upRec f).hide ps = c.hide ps := by
  simp only [Chip.upRec, Chip.hide_commitUpd, h, and_self]

/-! ### Settings -/

theorem Chip.hide_bootWrite (c : Chip) (slot : Nat) (h : .regs ∈ ps ∧ .mem ∈ ps) : (c.bootWrite slot).hide ps = c.hide ps := by
  simp only [Chip.bootWrite, Chip.hide_upMem, Chip.hide_setBits, Chip.hide_ite, h, ite_self]

theorem Chip.hide_keyChange (c : Chip) (h : .mram ∈ ps ∧ .upd ∈ ps ∧ .therm ∈ ps) : c.keyChange.hide ps = c.hide ps := by
  simp only [Chip.keyChange, Chip.hide_upRec, Chip.hide_upMram, Chip.hide_ite, h, and_self, ite_self]

/-! ### Registers -/

/-! ### The load of a start -/

/-! ### The host port -/

end Sys2Proof.Machine
end

section
/-! SUPPORT. The girth: transfers, wakes, SILENT lanes and the dies' own waits (01 R24-R49). -/

namespace Sys2Proof.Machine

/-- Settles O1: by the branches of a transfer, a probe and a wake. -/
theorem girthTransfersAreCounted : Obligations.GirthTransfersAreCounted := by
  refine ⟨fun s lane kind v groups hawake hlive hlength hv => ?transfer, fun s lane kind groups hawake hbad => ?bad,
    fun s lane hawake hlive hp => ?probe, fun s prot hawake hlive hp => ?wake⟩
  case transfer =>
    refine Gives.run rfl hawake ?_
    simp [Chip.live, hlive, hlength, hv, Girth.count]
  case bad =>
    refine Gives.run (f := fun c => c.girthTransfer lane groups kind) rfl hawake ?_
    unfold Chip.girthTransfer
    rcases hbad with hlength | hnone
    · simp [hlength]
    · simp [hnone]
  case probe =>
    refine Gives.run rfl hawake ?_
    simp [Chip.live, hlive, hp, Girth.count]
  case wake =>
    refine Gives.run rfl hawake ?_
    simp [Chip.live, hlive, hp, Girth.count]

/-- Protection events that waited travel, and are no longer held: nothing else of the girth changes. -/
theorem Chip.sendHeld_girth (c : Chip) (b : Bool) : ∃ held, (c.sendHeld b).girth = { c.girth with heldProt := held } := by
  unfold Chip.sendHeld
  split
  · exact ⟨c.girth.heldProt, rfl⟩
  · extract_lets go c1
    exact ⟨c1.girth.heldProt, Chip.girth_of_hide (ps := [.rings]) (c := List.foldl _ c1 _) (d := c1)
      (Chip.hide_foldl (fun d h => Chip.hide_protect _ _ _ _ _ _ _ (by decide)) _ _) (by decide)⟩

theorem Chip.sendHeld_lane (c : Chip) (b : Bool) (l : Nat) : (c.sendHeld b).lane l = c.lane l := by
  obtain ⟨held, hgirth⟩ := c.sendHeld_girth b
  simp only [Chip.lane, hgirth]

theorem Chip.lane_setLane (c : Chip) (l k : Nat) (x : LaneState) (h : l < c.girth.lanes.length) :
    (c.setLane l x).lane k = if k = l then x else c.lane k := by
  simp only [Chip.lane, Chip.setLane, List.getD_eq_getElem?_getD, List.getElem?_set, h, if_true]
  by_cases hk : k = l
  · simp [hk]
  · simp [hk, Ne.symm hk]

/-- A lane in another state than PARKED is one of the girth's lanes. -/
theorem Chip.lane_lt {c : Chip} {l : Nat} (h : c.lane l ≠ .parked) : l < c.girth.lanes.length := by
  by_contra hl
  exact h (by simp [Chip.lane, List.getD_eq_getElem?_getD, List.getElem?_eq_none (Nat.not_lt.mp hl)])

/-- Settles O2: a handshake touches its lane alone, and the gates a running sample lane follows are those before the strobe. -/
theorem lanesComeAlive : Obligations.LanesComeAlive := by
  refine ⟨fun s lane hawake hwaking => ?handshake, fun s hawake hstarting hgate hlive => ?gnss, fun s hawake hstarting hgate hlive => ?radio⟩
  case handshake =>
    have hlt : lane < s.chip.girth.lanes.length := Chip.lane_lt (by rw [hwaking]; decide)
    refine Gives.run rfl hawake ?_
    rw [if_pos hwaking]
    simp only [Chip.follow_lane, Chip.sendHeld_lane, Chip.lane_setLane _ _ _ _ hlt, if_pos, true_and]
    exact fun l hl => if_neg hl
  case gnss =>
    refine Gives.run rfl hawake ?_
    rw [if_pos (by exact hstarting), Chip.follow_gsamp]
    change SampleState.follow .running (s.chip.gnssGate && s.chip.live 1) = .running
    rw [hgate, hlive]
    rfl
  case radio =>
    refine Gives.run rfl hawake ?_
    rw [if_pos (by exact hstarting), Chip.follow_rsamp]
    change SampleState.follow .running (s.chip.radioGate && s.chip.live 1) = .running
    rw [hgate, hlive]
    rfl

/-! ### Silent lanes and failed lines (01 R32-R49) -/

/-- The functions of the die behind a lane are refused until the next start; nothing is behind the protection lane. -/
def Chip.refuseDie (c : Chip) (l : Nat) : Chip :=
  if l = 0 then c.upGirth (fun g => { g with convRefused := true })
  else if l = 1 then c.upGirth (fun g => { g with radioRefused := true, beaconRefused := g.beaconRefused || !c.started })
  else if l = 2 then c.upGirth (fun g => { g with fieldRefused := true, beaconRefused := g.beaconRefused || !c.started })
  else c

theorem Chip.refuseDie_kept (c : Chip) (l : Nat) : (c.refuseDie l).girth.gsamp = c.girth.gsamp ∧ (c.refuseDie l).girth.rsamp = c.girth.rsamp ∧
    ∀ k, (c.refuseDie l).lane k = c.lane k := by
  unfold Chip.refuseDie
  repeat' split
  all_goals exact ⟨rfl, rfl, fun _ => rfl⟩

theorem Chip.refuseDie_flags (c : Chip) (l : Nat) : (l = 0 → (c.refuseDie l).girth.convRefused = true) ∧
    (l = 1 → (c.refuseDie l).girth.radioRefused = true) ∧ (l = 2 → (c.refuseDie l).girth.fieldRefused = true) := by
  refine ⟨?_, ?_, ?_⟩ <;> rintro rfl <;> rfl

theorem Chip.converterGone_kept (c : Chip) : Kept (c.refuseDie 0) c.converterGone :=
  (Kept.of_eq (by rw [Chip.frontSettle_girth]; exact Chip.girth_of_hide (Chip.hide_burnishInterrupt _ 2
    (ps := [.rings, .seqs, .chains, .burnish, .exc]) (by decide)) (by decide))).trans (kept_settleOver _)

theorem Chip.radioGone_kept (c : Chip) (fix frame : Nat) : Kept (c.refuseDie 1) (c.radioGone fix frame) :=
  (Kept.of_eq (by rw [loseTracking_girth, abortRadio_girth]; rfl)).trans ((kept_loseFix _ _).trans (kept_settleOver _))

theorem Chip.fieldGone_kept (c : Chip) : Kept (c.refuseDie 2) c.fieldGone := kept_settleOver _

/-- After the start a lane that is gone is recorded, and the functions of its die are refused. -/
theorem Chip.laneGone_kept {c : Chip} (h : c.afterStart = true) (l : Nat) : Kept (c.refuseDie l) (c.laneGone l) := by
  have hcause : c.causeNow (laneCause l) = c.recordCause (laneCause l) false := if_pos h
  have hphase : (c.recordCause (laneCause l) false).start.phase ≠ .failed := by
    rw [recordCause_start_phase]
    intro hfailed
    simp [Chip.afterStart, Chip.started, hfailed] at h
  have hrefuse : ∀ k, Kept (c.refuseDie k) ((c.recordCause (laneCause l) false).refuseDie k) := by
    intro k
    unfold Chip.refuseDie Kept Chip.lane
    repeat' split
    all_goals simp only [Chip.upGirth_girth, recordCause_girth, imp_self, implies_true, and_self]
  unfold Chip.laneGone
  rw [hcause]
  simp only [if_neg hphase]
  by_cases h0 : l = 0
  · subst h0
    exact (hrefuse 0).trans (Chip.converterGone_kept _)
  by_cases h1 : l = 1
  · subst h1
    exact (hrefuse 1).trans (Chip.radioGone_kept _ 2 7)
  by_cases h2 : l = 2
  · subst h2
    exact (hrefuse 2).trans (Chip.fieldGone_kept _)
  simp only [h0, h1, h2, if_false]
  have hnone : c.refuseDie l = c := by simp [Chip.refuseDie, h0, h1, h2]
  rw [hnone]
  exact Kept.of_eq (recordCause_girth _ _ _)

theorem Chip.handledAs_kept {c : Chip} (h : c.afterStart = true) (l : Nat) : Kept (c.refuseDie l) (c.handledAs l) :=
  (Chip.laneGone_kept h l).trans (Kept.of_eq (Chip.frontSettle_girth _))

/-- What a die's refusal flag says, of a block that kept the refusal. -/
theorem Kept.flags {c d : Chip} {l : Nat} (h : Kept (c.refuseDie l) d) : (l = 0 → d.girth.convRefused = true) ∧
    (l = 1 → d.girth.radioRefused = true) ∧ (l = 2 → d.girth.fieldRefused = true) := by
  obtain ⟨-, hconv, hradio, hfield, -, -⟩ := h
  rw [hconv, hradio, hfield]
  exact c.refuseDie_flags l

theorem Chip.afterStart_of_start {c d : Chip} (h : c.start = d.start) : c.afterStart = d.afterStart := by
  unfold Chip.afterStart Chip.started
  rw [h]

theorem Chip.girthEvent_hide (c : Chip) (code a0 mode : Nat) : (c.girthEvent code a0 mode).hide [.rings] = c.hide [.rings] :=
  Chip.hide_girthEvent _ _ _ _ (by decide)

theorem Chip.goSilent_lane {c : Chip} {l : Nat} (h : c.afterStart = true) (hl : l < 4) (hlt : l < c.girth.lanes.length) :
    (c.goSilent l).lane l = .silent ∧ (l = 0 → (c.goSilent l).girth.convRefused = true) ∧
      (l = 1 → (c.goSilent l).girth.radioRefused = true) ∧ (l = 2 → (c.goSilent l).girth.fieldRefused = true) := by
  unfold Chip.goSilent
  extract_lets mode c1 c2
  have hsilent : (c2.girthEvent 0x0901 l mode).lane l = .silent := by
    have hevent : (c2.girthEvent 0x0901 l mode).girth = c2.girth := Chip.girth_of_hide (c2.girthEvent_hide _ _ _) (by decide)
    have hlane : c2.lane l = (c.setLane l .silent).lane l := rfl
    rw [Chip.lane, hevent]
    exact hlane.trans ((Chip.lane_setLane _ _ _ _ hlt).trans (if_pos rfl))
  have hstart : (c2.girthEvent 0x0901 l mode).afterStart = true := by
    have hevent : (c2.girthEvent 0x0901 l mode).start = c2.start := Chip.start_of_hide (c2.girthEvent_hide _ _ _) (by decide)
    exact (Chip.afterStart_of_start (hevent.trans rfl)).trans h
  have hkept := (Chip.laneGone_kept hstart l).trans (Kept.of_eq (Chip.frontSettle_girth _))
  obtain ⟨held, hgirth⟩ := Chip.sendHeld_girth ((c2.girthEvent 0x0901 l mode).laneGone l).frontSettle false
  rw [Chip.sendHeld_lane, hgirth]
  have hrefused : ((c2.girthEvent 0x0901 l mode).refuseDie l).lane l = .silent := ((Chip.refuseDie_kept _ l).2.2 l).trans hsilent
  have hflags := hkept.flags
  dsimp only
  exact ⟨hkept.1 l hl hrefused, hflags⟩

/-- A sample lane that has failed stays failed, and the radio die's functions are refused. -/
theorem Chip.sampleLane_failed {c d : Chip} {l : Nat} (hl : l < 2) (hsamp : c.samp l = .failed) (h : Kept (c.refuseDie 1) d) (was : Chip) :
    (d.follow was).samp l = .failed ∧ (d.follow was).girth.radioRefused = true := by
  obtain ⟨hgsamp, hrsamp, -⟩ := c.refuseDie_kept 1
  obtain ⟨-, hradio, -⟩ := h.flags
  obtain ⟨-, -, -, -, hg, hr⟩ := h
  refine ⟨?_, hradio rfl⟩
  obtain rfl | rfl : l = 0 ∨ l = 1 := by omega
  · have hd : d.girth.gsamp = .failed := (hg.trans hgsamp).trans hsamp
    change (d.follow was).girth.gsamp = .failed
    rw [Chip.follow_gsamp, hd]
    rfl
  · have hd : d.girth.rsamp = .failed := (hr.trans hrsamp).trans hsamp
    change (d.follow was).girth.rsamp = .failed
    rw [Chip.follow_rsamp, hd]
    rfl

theorem exec_laneSilent (lane : Nat) (s : State) : exec (.laneSilent lane) s = execLaneSilent lane s := rfl
theorem exec_laneWakeTimeout (lane : Nat) (s : State) : exec (.laneWakeTimeout lane) s = execLaneWakeTimeout lane s := rfl
theorem exec_sampleLaneFail (lane : Nat) (s : State) : exec (.sampleLaneFail lane) s = execSampleLaneFail lane s := rfl
theorem exec_timebaseLineFail (line : Nat) (s : State) : exec (.timebaseLineFail line) s = execTimebaseLineFail line s := rfl

/-- Settles O3: what a declaration does about the die behind the lane is kept by everything that follows it. -/
theorem silentLanesRefuseTheirFunctions : Obligations.SilentLanesRefuseTheirFunctions := by
  refine ⟨fun s lane hawake hl hlane hstart => ?silent, fun s lane hawake hl hlane hstart => ?wakeTimeout,
    fun s lane hawake hl hsamp hstart => ?sample, fun s line hawake hl hgate hlive hstart => ?timebase⟩
  case silent =>
    refine Gives.run (exec_laneSilent lane s) hawake ?_
    rw [if_pos hlane]
    simp only [Chip.follow_lane, Chip.follow_girth_convRefused, Chip.follow_girth_radioRefused, Chip.follow_girth_fieldRefused]
    exact Chip.goSilent_lane hstart hl (Chip.lane_lt (by rcases hlane with h | h <;> rw [h] <;> decide))
  case wakeTimeout =>
    refine Gives.run (exec_laneWakeTimeout lane s) hawake ?_
    rw [if_pos hlane]
    simp only [Chip.follow_lane, Chip.follow_girth_convRefused, Chip.follow_girth_radioRefused, Chip.follow_girth_fieldRefused]
    exact Chip.goSilent_lane hstart hl (Chip.lane_lt (by rw [hlane]; decide))
  case sample =>
    refine Gives.run (exec_sampleLaneFail lane s) hawake ?_
    rw [if_pos hsamp]
    generalize hfailed : ((s.chip.setSamp lane .failed).setBits 0x0009 (2 ^ (4 + lane))) = c1
    have hstart1 : (c1.girthEvent 0x0902 lane s.chip.mode).start = s.chip.start := by
      rw [Chip.start_of_hide (c1.girthEvent_hide _ _ _) (by decide), ← hfailed]
      rfl
    have hsamp1 : (c1.girthEvent 0x0902 lane s.chip.mode).samp lane = .failed := by
      unfold Chip.samp
      rw [Chip.girth_of_hide (c1.girthEvent_hide _ _ _) (by decide), ← hfailed]
      obtain rfl | rfl : lane = 0 ∨ lane = 1 := by omega
      · rfl
      · rfl
    exact Chip.sampleLane_failed hl hsamp1 (Chip.handledAs_kept ((Chip.afterStart_of_start hstart1).trans hstart) 1) _
  case timebase =>
    refine Gives.run (exec_timebaseLineFail line s) hawake ?_
    simp only [hl, hgate, hlive, decide_true, Bool.and_self, if_true, Chip.follow_girth_convRefused, Chip.follow_girth_radioRefused]
    generalize hfailed : s.chip.setBits 0x0009 (2 ^ (6 + line)) = c1
    have hstart1 : (c1.girthEvent 0x0903 line s.chip.mode).start = s.chip.start := by
      rw [Chip.start_of_hide (c1.girthEvent_hide _ _ _) (by decide), ← hfailed]
      rfl
    have hflags := (Chip.handledAs_kept ((Chip.afterStart_of_start hstart1).trans hstart) (lineGate line).2).flags
    refine ⟨fun h => hflags.1 ?_, fun h => hflags.2.1 ?_⟩
    · obtain rfl | rfl : line = 0 ∨ line = 1 := by omega
      · rfl
      · rfl
    · obtain rfl | rfl : line = 2 ∨ line = 3 := by omega
      · rfl
      · rfl

/-! ### The dies' own waits (01 R39, R40, 11 R529) -/

/-- A converter die that has cut off drives no channel. -/
theorem Chip.excUpdate_of_cut {c : Chip} (h : c.girth.converterCut = true) (ch : Nat) :
    c.excUpdate ch = c.upExc ch (fun x => { x with driven := false, hold := false }) := by
  have hwanted : c.excWanted ch = false := by simp [Chip.excWanted, h]
  unfold Chip.excUpdate
  simp [hwanted]

theorem Chip.excAll_of_cut {c : Chip} (h : c.girth.converterCut = true) : ∀ x ∈ c.excAll.exc.take 4, x.driven = false := by
  have hexc : c.excAll.exc = (List.range 4).foldl (fun xs ch => xs.modify ch (fun x => { x with driven := false, hold := false })) c.exc := by
    unfold Chip.excAll
    generalize List.range 4 = chs
    induction chs generalizing c with
    | nil => rfl
    | cons ch chs ih =>
      rw [List.foldl_cons, List.foldl_cons, Chip.excUpdate_of_cut h]
      exact ih h
  rw [hexc]
  rcases c.exc with _ | ⟨a, _ | ⟨b, _ | ⟨d, _ | ⟨e, rest⟩⟩⟩⟩ <;> simp [List.range_succ]

theorem exec_fieldLaneTimeout (s : State) : exec .fieldLaneTimeout s = execFieldLaneTimeout s := rfl
theorem exec_protectionLaneTimeout (code a0 a1 : Nat) (s : State) :
    exec (.protectionLaneTimeout code a0 a1) s = execProtectionLaneTimeout code a0 a1 s := rfl
theorem exec_converterLaneTimeout (s : State) : exec .converterLaneTimeout s = execConverterLaneTimeout s := rfl

/-- Settles O4: by the die whose wait it is. -/
theorem diesCutOffOnTheirOwnWait : Obligations.DiesCutOffOnTheirOwnWait := by
  refine ⟨fun s hawake hlane => ?field, fun s code a0 a1 hawake hlane hrouted => ?protection, fun s hawake hlane => ?converter⟩
  case field =>
    refine Gives.run (exec_fieldLaneTimeout s) hawake ?_
    rw [if_neg hlane]
    simp [Chip.fieldCutOff]
  case protection =>
    refine Gives.run (exec_protectionLaneTimeout code a0 a1 s) hawake ?_
    rw [if_neg (by simp [hlane, hrouted])]
    unfold Chip.reroute
    extract_lets c1
    have hlive : c1.live 2 = s.chip.live 2 := rfl
    rw [hlive]
    by_cases h2 : s.chip.live 2 = true
    · have hgirth : (c1.protect 0x06 code a0 a1 0 0).girth = c1.girth :=
        Chip.girth_of_hide (Chip.hide_protect _ _ _ _ _ _ _ (ps := [.rings]) (by decide)) (by decide)
      simp [h2, hgirth, c1]
    · simp [h2, c1]
  case converter =>
    refine Gives.run (exec_converterLaneTimeout s) hawake ?_
    rw [if_neg hlane]
    unfold Chip.converterCutOff
    extract_lets c1
    have hseqs := Chip.seqs_of_hide (Chip.hide_excAll { c1 with seqs := c1.seqs.map (fun (q : Sequencer) => { q with awl := false }) }
      (ps := [.exc]) (by decide)) (by decide)
    refine ⟨?_, ?_, Chip.excAll_of_cut rfl⟩
    · simp [c1]
    · simp only [Chip.follow_seqs, hseqs]
      simp

end Sys2Proof.Machine
end

section
/-! SUPPORT. The lands and the supply comparisons (02 R92-R99, 03 R146, 19 R858). -/

namespace Sys2Proof.Machine

/-! ### One part kept -/

/-- Every part but one. -/
def others (p : Part) : List Part := (storeParts ++ unitParts).filter (fun q => decide (q ≠ p))

theorem mem_others {p q : Part} : q ∈ others p ↔ q ≠ p := by
  cases p <;> cases q <;> decide

/-! ### Drive groups and pins -/

/-- Settles O5: what is armed is what the register word holds, and each group applies its own bits. -/
theorem driveGroupsApplyAtTheirMoments : Obligations.DriveGroupsApplyAtTheirMoments := by
  refine ⟨fun s hawake hopen => ?arm, fun s v hawake hv hhigh => ?mem, fun s v hawake hv => ?host⟩
  case arm => exact Gives.host (f := Chip.ioDriveArm) rfl hawake hopen ⟨rfl, rfl, rfl⟩
  case mem =>
    refine Gives.run (f := fun c => c.ioDriveApply true) rfl hawake ?_
    simp [Chip.ioDriveApply, hv, hhigh]
  case host =>
    refine Gives.run (f := fun c => c.ioDriveApply false) rfl hawake ?_
    simp [Chip.ioDriveApply, hv]

/-- The words of SYS_GP_CTL are not among those that its ARM shows a result in. -/
theorem Chip.shadow_gpArmed (c : Chip) (res : Nat) : ((c.armLast 0x0088 res).setFld 0x0088 3 0 res).shadow 0x0080 8 = c.shadow 0x0080 8 := by
  refine shadow_of_reg (fun i hi => ?_)
  rw [Chip.reg_setFld, if_neg (by omega), Chip.reg_armLast, if_neg (by omega)]

theorem setPin_self (m : BitVec 8) (pin : Nat) (b : Bool) (h : pin < 8) : (setPin m pin b).getLsbD pin = b := by
  have hbit : (BitVec.ofNat 8 (2 ^ pin)).getLsbD pin = true := by
    rw [BitVec.getLsbD_ofNat, Nat.testBit_two_pow_self, decide_eq_true h, Bool.and_self]
  cases b with
  | false => rw [setPin, if_neg Bool.false_ne_true, BitVec.getLsbD_and, BitVec.getLsbD_not, hbit, Bool.not_true, Bool.and_false, Bool.and_false]
  | true => rw [setPin, if_pos rfl, BitVec.getLsbD_or, hbit, Bool.or_true]

/-- Settles O6: by the check of the ARM, and by whether the pin is watched. -/
theorem generalPurposePinsWatchTheirEdges : Obligations.GeneralPurposePinsWatchTheirEdges := by
  refine ⟨fun s hawake hopen hpull => ?accepted, fun s i hawake hopen hi hpull => ?refused, fun s pin level hawake hpin => ?rearm,
    fun s pin level hawake hpin hwatched href hwakes => ?edge⟩
  case accepted =>
    refine Gives.host (f := Chip.gpCfgArm) rfl hawake hopen ?_
    have hgood : (List.range 8).any (fun i => decide (s.chip.rf (0x0080 + i) 5 4 = 3)) = false := by
      simpa [List.any_eq_false] using hpull
    unfold Chip.gpCfgArm
    simp only [hgood, if_true, Bool.false_eq_true, if_false, Chip.shadow_gpArmed]
    exact ⟨applyWords_run _ _ _ rfl, rfl⟩
  case refused =>
    refine Gives.host (f := Chip.gpCfgArm) rfl hawake hopen ?_
    have hbad : (List.range 8).any (fun i => decide (s.chip.rf (0x0080 + i) 5 4 = 3)) = true :=
      List.any_eq_true.mpr ⟨i, List.mem_range.mpr hi, decide_eq_true hpull⟩
    unfold Chip.gpCfgArm
    simp [hbad]
  case rearm =>
    refine Gives.run rfl hawake ?_
    rw [if_pos hpin]
    exact ⟨setPin_self _ _ _ hpin, setPin_self _ _ _ hpin⟩
  case edge =>
    refine Gives.run (f := fun c => if pin < 8 then c.gpEdge pin level else c) rfl hawake ?_
    rw [if_pos hpin]
    unfold Chip.gpEdge
    simp only [hwatched, href, hwakes, ne_eq, not_false_eq_true, decide_true, Bool.and_self, if_true]
    refine ⟨?_, keeperEvent_any _ _ _ _ _⟩
    rw [follow_reg, reg_of_regs (keeperEvent_regs _ _ _ _ _), Chip.reg_setBits, if_pos rfl]
    rfl

/-! ### The supplies -/

theorem exec_vioLost (frame : Option Nat) (s : State) : exec (.vioLost frame) s = execVioLost frame s := rfl
theorem exec_supplyOut (which : Nat) (outside : Bool) (s : State) : exec (.supplyOut which outside) s = execSupplyOut which outside s := rfl
theorem exec_coreRailScaling (mv : Nat) (s : State) : exec (.coreRailScaling mv) s = execCoreRailScaling mv s := rfl
theorem exec_vioGood (s : State) : exec .vioGood s = execVioGood s := rfl

theorem Chip.vioLost_lands (c : Chip) (frame : Option Nat) : (c.vioLost frame).lands.vioGood = false := by
  unfold Chip.vioLost
  extract_lets c1 c2
  have hevent : c2.hide (others .lands) = c1.hide (others .lands) := by
    unfold c2
    split
    · exact Chip.hide_protect _ _ _ _ _ _ _ (by decide)
    · rfl
  have hmem : c2.memVioLost.lands = c1.lands := Chip.lands_of_hide ((Chip.hide_memVioLost _ (by decide)).trans hevent) (by decide)
  have hlost : c1.lands.vioGood = false := rfl
  split
  · split
    · rw [Chip.upHost_lands, Chip.setBits_lands, hmem, hlost]
    · rw [hmem, hlost]
  · rw [hmem, hlost]

theorem Chip.vioBack_lands (c : Chip) : c.vioBack.lands.vioGood = true := by
  unfold Chip.vioBack
  extract_lets c1 c2
  have hframe : c2.lands = c1.lands := by
    unfold c2
    split <;> rfl
  rw [Chip.lands_of_hide (Chip.hide_busFree c2 (ps := others .lands) (by decide)) (by decide), hframe]
  rfl

/-- Settles O7: a loss and a return of VIO change the lands' note of it, whatever they do to the ports. -/
theorem supplyComparisonsFollowTheirSupplies : Obligations.SupplyComparisonsFollowTheirSupplies := by
  refine ⟨fun s frame hgood => ?lost, fun s hbad => ?back, fun s outside hawake => ?out, fun s mv hawake => ?rail⟩
  case lost =>
    refine Gives.power (exec_vioLost frame s) ?_
    simp only [hgood, Bool.not_true, Bool.false_eq_true, if_false, Chip.follow_lands]
    split
    · exact Chip.vioLost_lands _ _
    · rfl
  case back =>
    refine Gives.power (exec_vioGood s) ?_
    simp only [hbad, Bool.false_eq_true, if_false, Chip.follow_lands]
    split
    · exact Chip.vioBack_lands _
    · rfl
  case out =>
    refine ⟨?_, ?_, ?_, ?_⟩
    · exact Gives.run (exec_supplyOut 0 outside s) hawake rfl
    · exact Gives.run (exec_supplyOut 1 outside s) hawake rfl
    · exact Gives.run (exec_supplyOut 2 outside s) hawake rfl
    · exact Gives.run (exec_supplyOut 3 outside s) hawake rfl
  case rail =>
    refine Gives.run (exec_coreRailScaling mv s) hawake ⟨fun h => if_pos h, fun h => ?_, fun h1 h2 => ?_⟩
    · exact (if_neg (by omega)).trans (if_pos h)
    · exact (if_neg (by omega)).trans (if_neg (by omega))

end Sys2Proof.Machine
end

section
/-! SUPPORT. The power path, the charger and the field outputs (03 R100-R118, 11 R524, 19 R859). -/

namespace Sys2Proof.Machine

/-! ### What a supply event leaves of the supplies -/

theorem Chip.fieldFault_power (c : Chip) (code idx a0 a1 a2 : Nat) : (c.fieldFault code idx a0 a1 a2).power = c.power :=
  Chip.power_of_hide (Chip.hide_fieldFault _ _ _ _ _ _ (ps := others .power) (by decide)) (by decide)

theorem Chip.fieldProtect_power (c : Chip) (bit code a0 a1 a2 : Nat) : (c.fieldProtect bit code a0 a1 a2).power = c.power :=
  Chip.power_of_hide (Chip.hide_fieldProtect _ _ _ _ _ _ (ps := others .power) (by decide)) (by decide)

theorem Chip.postSignal_power (c : Chip) (origin sig : Nat) : (c.postSignal origin sig).power = c.power :=
  Chip.power_of_hide (Chip.hide_postSignal _ _ _ (ps := others .power) (by decide)) (by decide)

theorem Chip.endBatHold_power (c : Chip) : c.endBatHold.power = c.power :=
  Chip.power_of_hide (Chip.hide_endBatHold _ (ps := others .power) (by decide)) (by decide)

theorem Chip.fvinSettle_power (c : Chip) : c.fvinSettle.power = c.power :=
  Chip.power_of_hide (Chip.hide_fvinSettle _ (ps := others .power) (by decide)) (by decide)

/-- Evaluating the charger changes its step alone. -/
theorem Chip.chargeEval_power (c : Chip) : ∃ x, c.chargeEval.power = { c.power with chg := x } := ⟨_, rfl⟩

/-- FVIN taken, in the supplies. -/
theorem Chip.fvinTake_power {c : Chip} (h : c.power.fvinTaken = false) :
    ∃ x, c.fvinTake.power = { c.power with fvinTaken := true, fvinPresent := true, fvinOv := false, vcapGood := true, chg := x } := by
  obtain ⟨x, hx⟩ := Chip.chargeEval_power (c.upPower (fun p => { p with fvinTaken := true, fvinPresent := true, fvinOv := false, vcapGood := true }))
  refine ⟨x, ?_⟩
  unfold Chip.fvinTake
  rw [h, if_neg Bool.false_ne_true]
  dsimp only
  split
  · rw [Chip.fvinSettle_power, Chip.endBatHold_power, Chip.postSignal_power, hx]
    rfl
  · rw [hx]
    rfl

/-- The supplies once neither FVIN nor the cell may supply the core. -/
def Power.checked (p : Power) : Power := if p.fvinTaken || p.cellConnected then p else { p with coreSupplied := false, onVcapSeen := true }

theorem Chip.supplyCheck_power (c : Chip) : c.supplyCheck.power = c.power.checked := by
  unfold Chip.supplyCheck Power.checked
  split <;> rfl

/-- FVIN released, in the supplies. -/
theorem Chip.fvinDrop_power {c : Chip} (h : c.power.fvinTaken = true) :
    ∃ x, c.fvinDrop.power = Power.checked { c.power with fvinTaken := false, chgTimedOut := false, chg := x } := by
  obtain ⟨x, hx⟩ := Chip.chargeEval_power (c.upPower (fun p => { p with fvinTaken := false, chgTimedOut := false }))
  refine ⟨x, ?_⟩
  unfold Chip.fvinDrop
  rw [h, Bool.not_true, if_neg Bool.false_ne_true]
  dsimp only
  split
  · rw [Chip.fvinSettle_power, Chip.postSignal_power, Chip.supplyCheck_power, hx]
    rfl
  · rw [Chip.supplyCheck_power, hx]
    rfl

theorem Power.checked_fvinTaken (p : Power) : p.checked.fvinTaken = p.fvinTaken := by unfold Power.checked; split <;> rfl
theorem Power.checked_fvinPresent (p : Power) : p.checked.fvinPresent = p.fvinPresent := by unfold Power.checked; split <;> rfl
theorem Power.checked_fvinOv (p : Power) : p.checked.fvinOv = p.fvinOv := by unfold Power.checked; split <;> rfl
theorem Power.checked_cellConnected (p : Power) : p.checked.cellConnected = p.cellConnected := by unfold Power.checked; split <;> rfl
theorem Power.checked_vbat (p : Power) : p.checked.vbat = p.vbat := by unfold Power.checked; split <;> rfl
theorem Power.checked_unsupplied {p : Power} (hf : p.fvinTaken = false) (hc : p.cellConnected = false) :
    p.checked.coreSupplied = false ∧ p.checked.onVcapSeen = true := by
  unfold Power.checked
  rw [hf, hc]
  exact ⟨rfl, rfl⟩
theorem Power.checked_coreSupplied {p : Power} (hf : p.fvinTaken = true) : p.checked.coreSupplied = p.coreSupplied := by
  unfold Power.checked
  rw [hf]
  rfl

theorem Chip.cellCut_power {c : Chip} (vbat fvin : Int) (h : c.power.cellConnected = true) :
    (c.cellCut vbat fvin).power = Power.checked { c.power with cellConnected := false, vbat := vbat.toNat } := by
  unfold Chip.cellCut
  rw [h, Bool.not_true, if_neg Bool.false_ne_true]
  dsimp only
  split
  · rw [Chip.postSignal_power, Chip.fieldFault_power, Chip.supplyCheck_power]
    rfl
  · rw [Chip.fieldFault_power, Chip.supplyCheck_power]
    rfl

theorem Chip.cellReconnect_power {c : Chip} (h : c.power.cellConnected = false) :
    c.cellReconnect.power.cellConnected = true ∧ c.cellReconnect.power.cellReversed = false := by
  unfold Chip.cellReconnect
  rw [h, if_neg Bool.false_ne_true]
  dsimp only
  split
  · rw [Chip.postSignal_power]
    exact ⟨rfl, rfl⟩
  · exact ⟨rfl, rfl⟩

theorem exec_fvinTaken (s : State) : exec .fvinTaken s = execFvinTaken s := rfl
theorem exec_fvinRelease (s : State) : exec .fvinRelease s = execFvinRelease s := rfl
theorem exec_fvinOv (vbat fvin : Int) (s : State) : exec (.fvinOv vbat fvin) s = execFvinOv vbat fvin s := rfl
theorem exec_buckSag (s : State) : exec .buckSag s = execBuckSag s := rfl
theorem exec_cellCut (vbat fvin : Int) (s : State) : exec (.cellCut vbat fvin) s = execCellCut vbat fvin s := rfl
theorem exec_cellReconnect (s : State) : exec .cellReconnect s = execCellReconnect s := rfl
theorem exec_cellReversed (vbat fvin : Int) (s : State) : exec (.cellReversed vbat fvin) s = execCellReversed vbat fvin s := rfl

/-- Settles O8: each supply event by what it leaves of the supplies. -/
theorem powerPathTakesAndReleases : Obligations.PowerPathTakesAndReleases := by
  refine ⟨fun s h => ?taken, fun s h => ?released, fun s vbat fvin h => ?overvoltage, fun s h => ?sag, fun s vbat fvin h => ?cut,
    fun s h => ?reconnected, fun s vbat fvin => ?reversed⟩
  case taken =>
    refine Gives.power (exec_fvinTaken s) ?_
    obtain ⟨x, hx⟩ := Chip.fvinTake_power h
    simp only [Chip.follow_power, hx, and_self]
  case released =>
    refine Gives.power (exec_fvinRelease s) ?_
    obtain ⟨x, hx⟩ := Chip.fvinDrop_power (c := s.chip.upPower (fun p => { p with fvinPresent := false })) h
    simp only [Chip.follow_power, hx, Power.checked_fvinTaken, Power.checked_fvinPresent, Chip.upPower_power, true_and]
    exact fun hcell => Power.checked_unsupplied rfl hcell
  case overvoltage =>
    refine Gives.power (exec_fvinOv vbat fvin s) ?_
    obtain ⟨x, hx⟩ := Chip.fvinDrop_power (c := (s.chip.upPower (fun p => { p with fvinOv := true, fvinPresent := true })).fieldFault
      0x0307 0 (ux 32 vbat) (ux 32 fvin) 0) (by rw [Chip.fieldFault_power]; exact h)
    simp only [Chip.follow_power, hx, Power.checked_fvinTaken, Power.checked_fvinOv, Chip.fieldFault_power, Chip.upPower_power, and_self]
  case sag =>
    refine Gives.power (exec_buckSag s) ?_
    obtain ⟨x, hx⟩ := Chip.fvinDrop_power (c := s.chip.fieldFault 0x030E 0 0 0 0) (by rw [Chip.fieldFault_power]; exact h)
    simp only [h, if_true, Chip.follow_power, hx, Power.checked_fvinTaken]
  case cut =>
    refine Gives.power (exec_cellCut vbat fvin s) ?_
    simp only [Chip.follow_power, Chip.cellCut_power vbat fvin h, Power.checked_cellConnected, Power.checked_vbat, true_and]
    exact ⟨fun hfvin => Power.checked_unsupplied hfvin rfl, fun hfvin => Power.checked_coreSupplied hfvin⟩
  case reconnected =>
    refine Gives.power (exec_cellReconnect s) ?_
    exact Chip.cellReconnect_power h
  case reversed =>
    refine Gives.power (exec_cellReversed vbat fvin s) ?_
    simp only [Chip.follow_power, Chip.fieldFault_power]
    rfl

/-! ### The charger (R110-R113) -/

/-- Charging that may run keeps the step it is in. -/
theorem Chip.chargeEval_chg {c : Chip} (h : c.mayCharge = true) (hstep : c.power.chg.charging = true ∨ c.power.chg = .done ∨ c.power.chg = .paused) :
    c.chargeEval.power.chg = c.power.chg := by
  have hkeep : (c.power.chg.charging || decide (c.power.chg = .done) || decide (c.power.chg = .paused)) = true := by
    rcases hstep with h | h | h <;> simp [h]
  have hfields := h
  simp only [Chip.mayCharge, Bool.and_eq_true, decide_eq_true_eq, Bool.not_eq_true'] at hfields
  obtain ⟨⟨⟨⟨hcell, -⟩, -⟩, -⟩, htimer⟩ := hfields
  simp only [Chip.chargeEval, Chip.upPower_power, hcell, if_false, htimer, Bool.false_eq_true, h, if_true, hkeep]

/-- An open NTC, with no timer run out, stops the charge. -/
theorem Chip.chargeEval_off {c : Chip} (hcell : c.cellType ≠ 0) (htimer : c.power.chgTimedOut = false) (hopen : c.power.ntcOpen = true) :
    c.chargeEval.power.chg = .off := by
  have hcharge : c.mayCharge = false := by simp [Chip.mayCharge, hopen]
  simp [Chip.chargeEval, hcell, htimer, hcharge]

theorem exec_chgStateChange (v i : Nat) (s : State) : exec (.chgStateChange v i) s = execChgStateChange v i s := rfl
theorem exec_chgTimer (s : State) : exec .chgTimer s = execChgTimer s := rfl
theorem exec_ntcOpen (s : State) : exec .ntcOpen s = execNtcOpen s := rfl
theorem exec_chargeWindow (inside : Bool) (s : State) : exec (.chargeWindow inside) s = execChargeWindow inside s := rfl

/-- A charge that may run takes the step that the cell voltage and the current ask of the step it is in. -/
theorem gives_chargeStep {s : State} {v i : Nat} {x : ChgState} (h : s.chip.mayCharge = true) (hx : s.chip.power.chg = x)
    (hstep : x.charging = true ∨ x = .done) {P : Chip → Prop}
    (hP : ∀ c, c.power.vbat = v → c.power.chg = (s.chip.upPower (fun p => { p with vbat := v })).chargeStep i x → P c) :
    Gives (.chgStateChange v i) s P := by
  refine Gives.power (exec_chgStateChange v i s) (hP _ rfl ?_)
  have hchg : (s.chip.upPower (fun p => { p with vbat := v })).chargeEval.power.chg = x :=
    (Chip.chargeEval_chg (c := s.chip.upPower (fun p => { p with vbat := v })) h
      (by rcases hstep with h | h <;> simp [hx, h])).trans hx
  simp only [Chip.follow_power, Chip.upPower_power, hchg]
  rfl

/-- Settles O9: by the step the charger is in. -/
theorem chargerFollowsItsThresholds : Obligations.ChargerFollowsItsThresholds := by
  refine ⟨fun s v i h hx hv => ?precharge, fun s v i h hx hv => ?constCurrent, fun s v i h hx hi => ?constVoltage, fun s v i h hx hv => ?done,
    fun s h => ?timer, fun s hcell hfitted hopen htimer => ?ntc, fun s h => ?paused, fun s h hx => ?resumed⟩
  case precharge =>
    exact gives_chargeStep h hx (.inl rfl) (fun c hvbat hchg => ⟨hchg.trans (if_pos hv), hvbat⟩)
  case constCurrent =>
    have hfloat : 4100 ≤ s.chip.floatMv := by
      unfold Chip.floatMv
      split <;> omega
    exact gives_chargeStep h hx (.inl rfl) (fun c _ hchg => hchg.trans ((if_neg (Nat.not_lt.mpr (by change 3000 ≤ v; omega))).trans (if_pos hv)))
  case constVoltage =>
    exact gives_chargeStep h hx (.inl rfl) (fun c _ hchg => hchg.trans (if_pos hi))
  case done =>
    exact gives_chargeStep h hx (.inr rfl) (fun c _ hchg => hchg.trans (if_pos hv))
  case timer =>
    refine Gives.power (exec_chgTimer s) ?_
    simp only [h, if_true, Chip.follow_power, Chip.fieldFault_power, Chip.upPower_power, and_self]
  case ntc =>
    refine Gives.power (exec_ntcOpen s) ?_
    have hoff := Chip.chargeEval_off (c := s.chip.upPower (fun p => { p with ntcOpen := true })) hcell htimer rfl
    obtain ⟨x, hx⟩ := Chip.chargeEval_power (s.chip.upPower (fun p => { p with ntcOpen := true }))
    simp only [hcell, ne_eq, not_false_eq_true, decide_true, hfitted, hopen, Bool.not_false, Bool.and_self, if_true, Chip.follow_power,
      Chip.fieldProtect_power, hoff, and_true]
    rw [hx]
    rfl
  case paused =>
    refine Gives.power (exec_chargeWindow false s) ?_
    simp [h]
  case resumed =>
    refine Gives.power (exec_chargeWindow true s) ?_
    have hopen : s.chip.power.ntcOpen = false := by
      simp only [Chip.mayCharge, Bool.and_eq_true, Bool.not_eq_true'] at h
      exact h.1.2
    have hmay : (s.chip.upPower (fun p => { p with ntcOpen := false })).mayCharge = true := by
      change (decide (s.chip.cellType ≠ 0) && s.chip.power.fvinTaken && !s.chip.power.cellReversed && !false && !s.chip.power.chgTimedOut) = true
      rw [← hopen]
      exact h
    have hchg := (Chip.chargeEval_chg hmay (.inr (.inr hx))).trans hx
    simp only [if_true, Chip.follow_power, Chip.upPower_power, hchg]
    rfl

/-! ### FOUT and GBIAS (R116, R118, R524) -/

theorem Chip.fieldFault_sets {c : Chip} {code idx r b : Nat} (hcode : faultBit code idx = some (r, b)) (h : c.rf r b b = 0) (a0 a1 a2 : Nat) :
    (c.fieldFault code idx a0 a1 a2).reg r = c.reg r ||| wd (2 ^ b) := by
  unfold Chip.fieldFault
  rw [hcode]
  dsimp only
  rw [if_neg (by omega), reg_of_regs (Chip.regs_of_hide (Chip.hide_fieldProtect _ _ _ _ _ _ (ps := others .regs) (by decide)) (by decide)),
    Chip.reg_setBits, if_pos rfl]

/-- A FOUT that is on is switched off and latched. -/
theorem Chip.foutCut_power {c : Chip} {n : Nat} (hn : n < 2) (h : c.foutOn n = true) (code : Nat) :
    (c.foutCut code n).foutOn n = false ∧ (n = 0 → (c.foutCut code n).power.cut0 = true) ∧ (n = 1 → (c.foutCut code n).power.cut1 = true) := by
  unfold Chip.foutCut
  rw [if_pos ⟨hn, h⟩, Chip.foutOn, Chip.fieldFault_power]
  obtain rfl | rfl : n = 0 ∨ n = 1 := by omega
  · simp
  · simp

theorem exec_foutLimit (n : Nat) (s : State) : exec (.foutLimit n) s = execFoutLimit n s := rfl
theorem exec_foutTherm (n : Nat) (s : State) : exec (.foutTherm n) s = execFoutTherm n s := rfl
theorem exec_foutOpen (n : Nat) (s : State) : exec (.foutOpen n) s = execFoutOpen n s := rfl
theorem exec_gbiasShort (s : State) : exec .gbiasShort s = execGbiasShort s := rfl
theorem exec_gbiasOpen (s : State) : exec .gbiasOpen s = execGbiasOpen s := rfl

/-- Settles O10: a cut changes the output, and its report sets the bit of its code. -/
theorem fieldOutputsAreCut : Obligations.FieldOutputsAreCut := by
  refine ⟨fun s n hawake hn hon => ⟨?limit, ?therm⟩, fun s n hawake hn hon hcfg hbit => ?openFout, fun s hawake hon => ?short,
    fun s hawake hon hbit => ?openGbias⟩
  case limit => exact Gives.run (exec_foutLimit n s) hawake (Chip.foutCut_power hn hon _)
  case therm => exact Gives.run (exec_foutTherm n s) hawake (Chip.foutCut_power hn hon _)
  case openFout =>
    refine Gives.run (exec_foutOpen n s) hawake ?_
    simp only [hn, hon, hcfg, decide_true, Bool.and_self, if_true, follow_reg]
    exact Chip.fieldFault_sets rfl hbit _ _ _
  case short =>
    refine Gives.run (exec_gbiasShort s) hawake ?_
    simp only [hon, if_true, Chip.follow_power, Chip.fieldFault_power, Chip.upPower_power, and_self]
  case openGbias =>
    refine Gives.run (exec_gbiasOpen s) hawake ?_
    simp only [hon, if_true, follow_reg]
    exact Chip.fieldFault_sets rfl hbit _ _ _

/-! ### Sets of the field die (01 R60, 03 R144) -/

theorem Chip.foutFor_run (c : Chip) (m : Nat) : (c.foutFor m).run = c.run :=
  Chip.run_of_hide (Chip.hide_foutFor _ _ (ps := others .run) (by decide)) (by decide)

theorem Chip.foutFor_girth (c : Chip) (m : Nat) : (c.foutFor m).girth = c.girth :=
  Chip.girth_of_hide (Chip.hide_foutFor _ _ (ps := others .girth) (by decide)) (by decide)

/-- A set of the field die's units changes the running words by its own words. -/
theorem Chip.foutApply_run (c : Chip) (ws : List (Nat × Word)) : (c.foutApply ws).run = (c.applyWords ws).run := Chip.foutFor_run _ _
theorem Chip.gbiasApply_run (c : Chip) (ws : List (Nat × Word)) : (c.gbiasApply ws).run = (c.applyWords ws).run := rfl
theorem Chip.chgApply_run (c : Chip) (ws : List (Nat × Word)) : (c.chgApply ws).run = (c.applyWords ws).run := rfl

theorem Chip.applyWords_girth (c : Chip) (ws : List (Nat × Word)) : (c.applyWords ws).girth = c.girth :=
  Chip.girth_of_hide (Chip.hide_applyWords _ _ (ps := others .girth) (by decide)) (by decide)

theorem Chip.foutApply_girth (c : Chip) (ws : List (Nat × Word)) : (c.foutApply ws).girth = c.girth := by
  unfold Chip.foutApply
  rw [Chip.foutFor_girth]
  exact Chip.applyWords_girth c ws
theorem Chip.gbiasApply_girth (c : Chip) (ws : List (Nat × Word)) : (c.gbiasApply ws).girth = c.girth := Chip.applyWords_girth c ws
theorem Chip.chgApply_girth (c : Chip) (ws : List (Nat × Word)) : (c.chgApply ws).girth = c.girth := Chip.applyWords_girth c ws

/-- An ARM of a field-die unit whose lane is LIVE runs by its words at once. -/
theorem Chip.remoteArm_live {c : Chip} {l arm : Nat} (h : c.lane l = .live) {ws : List (Nat × Word)} {apply : Chip → List (Nat × Word) → Chip}
    (happly : ∀ d, (apply d ws).run = (d.applyWords ws).run) : (c.remoteArm l arm 0 ws apply).run = (c.applyWords ws).run := by
  have hlive : c.live l = true := decide_eq_true h
  have harmed : (c.armLast arm 0).live l = true := hlive
  unfold Chip.remoteArm
  rw [if_neg (by simp [not_silent hlive])]
  dsimp only
  rw [if_neg (by decide), if_pos harmed, happly]
  exact applyWords_run _ _ _ rfl

/-- An ARM of a field-die unit whose lane is PARKED waits. -/
theorem Chip.remoteArm_parked {c : Chip} {l arm : Nat} (h : c.lane l = .parked) {ws : List (Nat × Word)} {apply : Chip → List (Nat × Word) → Chip} :
    c.remoteArm l arm 0 ws apply = (c.armLast arm 0).holdSet arm ws := by
  have hsilent : c.silent l = false := by simp [Chip.silent, h]
  have hlive : (c.armLast arm 0).live l = false := by
    change decide (c.lane l = .live) = false
    simp [h]
  unfold Chip.remoteArm
  rw [if_neg (by simp [hsilent])]
  dsimp only
  rw [if_neg (by decide), if_neg (by simp [hlive])]

theorem Chip.mem_holdSet (c : Chip) (arm : Nat) (ws : List (Nat × Word)) : { arm := arm, words := ws } ∈ (c.holdSet arm ws).girth.armed :=
  List.mem_append_right _ (List.mem_singleton.mpr rfl)

theorem Chip.armedSet_dropArmed (c : Chip) (arm : Nat) : (c.dropArmed arm).armedSet arm = none := by
  unfold Chip.armedSet Chip.dropArmed
  rw [List.find?_eq_none]
  intro a ha
  obtain ⟨-, harm⟩ := List.mem_filter.mp ha
  simpa using harm

/-- A held set of a field-die or converter-die unit that has no boundary of its own runs by its words, and is held no more. -/
theorem Chip.applyUnit_run {arm : Nat} (harm : arm = 0x1C04 ∨ arm = 0x1C06 ∨ arm = 0x1C07 ∨ arm = 0x1C20 ∨ arm = 0x1900 ∨ arm = 0x130A) (c : Chip)
    (ws : List (Nat × Word)) : (c.applyUnit arm ws).run = (c.applyWords ws).run ∧ (c.applyUnit arm ws).girth = (c.dropArmed arm).girth := by
  rcases harm with rfl | rfl | rfl | rfl | rfl | rfl
  · exact ⟨applyWords_run _ _ _ rfl, Chip.chgApply_girth _ _⟩
  · exact ⟨(Chip.foutApply_run _ _).trans (applyWords_run _ _ _ rfl), Chip.foutApply_girth _ _⟩
  · exact ⟨applyWords_run _ _ _ rfl, Chip.gbiasApply_girth _ _⟩
  · exact ⟨applyWords_run _ _ _ rfl, Chip.applyWords_girth _ _⟩
  · exact ⟨applyWords_run _ _ _ rfl, Chip.applyWords_girth _ _⟩
  · exact ⟨applyWords_run _ _ _ rfl, Chip.applyWords_girth _ _⟩

theorem exec_fldFoutArm (s : State) : exec .fldFoutArm s = execFldFoutArm s := rfl
theorem exec_fldGbiasArm (s : State) : exec .fldGbiasArm s = execFldGbiasArm s := rfl
theorem exec_fldChgArm (s : State) : exec .fldChgArm s = execFldChgArm s := rfl
theorem exec_remoteSetApply (arm : Nat) (s : State) : exec (.remoteSetApply arm) s = execRemoteSetApply arm s := rfl

/-- Settles O11: by the state of the field lane. -/
theorem fieldDieSetsApply : Obligations.FieldDieSetsApply := by
  refine ⟨fun s hawake hopen hlive => ⟨?fout, ?gbias, fun h1 h2 h3 => ?charger⟩, fun s hawake hopen hparked => ⟨?foutWaits, ?gbiasWaits⟩,
    fun s arm a hawake harm ha hlive => ?applied⟩
  case fout => exact Gives.host (exec_fldFoutArm s) hawake hopen (Chip.remoteArm_live hlive (fun d => Chip.foutApply_run d _))
  case gbias => exact Gives.host (exec_fldGbiasArm s) hawake hopen (Chip.remoteArm_live hlive (fun d => Chip.gbiasApply_run d _))
  case charger =>
    refine Gives.host (exec_fldChgArm s) hawake hopen ?_
    have hgood : ¬ (fld (s.chip.reg 0x1C04) 7 4 = 0 ∨ 10 < fld (s.chip.reg 0x1C04) 7 4 ∨ fld (s.chip.reg 0x1C04) 3 2 = 3) := by
      rintro (h | h | h)
      · exact h1 h
      · exact absurd h (Nat.not_lt.mpr h2)
      · exact h3 h
    simp only [Chip.fldChgArm, if_neg hgood]
    exact Chip.remoteArm_live hlive (fun d => Chip.chgApply_run d _)
  case foutWaits =>
    refine Gives.host (exec_fldFoutArm s) hawake hopen ?_
    rw [Chip.fldFoutArm, Chip.remoteArm_parked hparked]
    exact ⟨rfl, Chip.mem_holdSet _ _ _⟩
  case gbiasWaits =>
    refine Gives.host (exec_fldGbiasArm s) hawake hopen ?_
    rw [Chip.fldGbiasArm, Chip.remoteArm_parked hparked]
    exact ⟨rfl, Chip.mem_holdSet _ _ _⟩
  case applied =>
    refine Gives.run (exec_remoteSetApply arm s) hawake ?_
    have hunit : s.chip.live (armLane arm) = true := decide_eq_true hlive
    obtain ⟨hrun, hgirth⟩ := Chip.applyUnit_run harm s.chip a.words
    simp only [ha, hunit, if_true, Chip.follow_run, hrun, true_and]
    have hnone := s.chip.armedSet_dropArmed arm
    unfold Chip.armedSet at hnone ⊢
    rw [Chip.follow_girth_armed, hgirth]
    exact hnone

/-! ### Battery hold (R106, R142) -/

/-- Entering a hold notes it, and leaves the other hold as it is. -/
theorem Chip.enterHold_modes {c : Chip} (h0 : c.mode ≠ 0) (h7 : c.mode ≠ 7) (hnot : c.modes.batHold = false) :
    (c.enterHold false).modes.batHold = true ∧ (c.enterHold false).modes.thermalHold = c.modes.thermalHold := by
  unfold Chip.enterHold
  rw [if_neg (by simp [h0, h7, hnot])]
  dsimp only
  split <;> simp [Chip.beginTransition, Chip.upModes]

theorem Chip.abortRadio_modes (c : Chip) (reason : Nat) : (c.abortRadio reason).modes = c.modes :=
  Chip.modes_of_hide (Chip.hide_abortRadio _ _ (ps := others .modes) (by decide)) (by decide)

theorem Chip.fieldFault_modes (c : Chip) (code idx a0 a1 a2 : Nat) : (c.fieldFault code idx a0 a1 a2).modes = c.modes :=
  Chip.modes_of_hide (Chip.hide_fieldFault _ _ _ _ _ _ (ps := others .modes) (by decide)) (by decide)

theorem exec_batHold (vbat fvin : Int) (s : State) : exec (.batHold vbat fvin) s = execBatHold vbat fvin s := rfl
theorem exec_batHoldEnd (s : State) : exec .batHoldEnd s = execBatHoldEnd s := rfl

/-- Settles O12: by the holds that entering and leaving it change. -/
theorem batteryHoldBeginsAndEnds : Obligations.BatteryHoldBeginsAndEnds := by
  refine ⟨fun s vbat fvin hawake hfvin hhold hmode => ?begins, fun s hawake hhold => ?ends⟩
  case begins =>
    refine Gives.run (exec_batHold vbat fvin s) hawake ?_
    have h0 : s.chip.mode ≠ 0 := by
      simp only [Chip.awake, Bool.and_eq_true, decide_eq_true_eq] at hawake
      exact hawake.2
    unfold Chip.batHold
    rw [hfvin, hhold, decide_eq_false hmode, if_neg (by decide)]
    extract_lets c1
    have hmodes : (c1.abortRadio 8).modes = s.chip.modes := by
      rw [Chip.abortRadio_modes, Chip.fieldFault_modes]
      rfl
    rw [Chip.follow_modes, ← hmodes]
    exact Chip.enterHold_modes (c := c1.abortRadio 8) (by rw [Chip.mode, hmodes]; exact h0) (by rw [Chip.mode, hmodes]; exact hmode)
      (by rw [hmodes]; exact hhold)
  case ends =>
    refine Gives.run (exec_batHoldEnd s) hawake ?_
    obtain ⟨hbat, htherm⟩ := leaveHold_modes s.chip false
    rw [Chip.follow_modes, Chip.endBatHold, if_pos hhold, hbat, htherm]
    exact ⟨Bool.and_false _, Bool.and_true _⟩

end Sys2Proof.Machine
end

section
/-! SUPPORT. Recovery commands, failed starts and the stirrup beacon (06 R254-R288, 04 R158). -/

namespace Sys2Proof.Machine

theorem Chip.follow_mode (c w : Chip) : (c.follow w).mode = c.mode := rfl

/-! ### The one-start defaults over the beginning of a start (06 R250, R288) -/

/-- The one-start effects a start carries: the default settings and the default calibration. -/
def Chip.oneStart (c : Chip) : Bool × Bool := (c.start.useDefaults, c.start.useCalDefaults)

theorem Chip.oneStart_of_start {c d : Chip} (h : c.start = d.start) : c.oneStart = d.oneStart := by
  unfold Chip.oneStart
  rw [h]

theorem Chip.oneStart_journal (c : Chip) (agent type w1 w2 : Nat) (prot : Bool) : (c.journal agent type w1 w2 prot).oneStart = c.oneStart :=
  Chip.oneStart_of_start (Chip.start_of_hide (Chip.hide_journal _ _ _ _ _ _ (ps := others .start) (by decide)) (by decide))

theorem Chip.oneStart_upStart_cause (c : Chip) (k : Nat) (r : StartCtl → StartRec) :
    (c.upStart (fun s => { s with cause := k, record := r s })).oneStart = c.oneStart := rfl
theorem Chip.oneStart_upBurnish (c : Chip) (f : Burnish → Burnish) : (c.upBurnish f).oneStart = c.oneStart := rfl
theorem Chip.oneStart_readRecord (c : Chip) : c.readRecord.oneStart = c.oneStart := rfl
theorem Chip.oneStart_nextEra (c : Chip) : c.nextEra.oneStart = c.oneStart := rfl

theorem Chip.oneStart_readUpd (c : Chip) : c.readUpd.oneStart = c.oneStart :=
  Chip.oneStart_of_start (Chip.start_of_hide (Chip.hide_readUpd _ (ps := others .start) (by decide)) (by decide))

theorem Chip.oneStart_lapseFound (c : Chip) : c.lapseFound.oneStart = c.oneStart := by
  unfold Chip.lapseFound
  dsimp only
  split
  · rw [Chip.oneStart_nextEra, Chip.oneStart_upStart_cause, Chip.oneStart_journal]
  · rw [Chip.oneStart_upStart_cause, Chip.oneStart_journal]

theorem Chip.oneStart_burnishFound (c : Chip) : c.burnishFound.oneStart = c.oneStart := by
  unfold Chip.burnishFound
  dsimp only
  split
  · rw [Chip.oneStart_upStart_cause, Chip.oneStart_journal, Chip.oneStart_upBurnish]
  · rfl

theorem Chip.oneStart_countStart (c : Chip) : c.countStart.oneStart = c.oneStart := by
  unfold Chip.countStart
  dsimp only
  split <;> rfl

theorem Chip.oneStart_norCut (c : Chip) : c.norCut.oneStart = c.oneStart := by
  unfold Chip.norCut
  extract_lets c1
  have h1 : c1.oneStart = c.oneStart := by
    unfold c1
    split
    · split <;> rfl
    · rfl
  split
  · exact h1
  · exact h1

theorem Chip.oneStart_heldBits (c : Chip) (g : Girth) : ({ c.heldBits with girth := g } : Chip).oneStart = c.oneStart := by
  have hheld : c.heldBits.start = c.start := by
    unfold Chip.heldBits
    generalize c.girth.heldProt.filter (fun h => h.afterStart) = held
    induction held generalizing c with
    | nil => rfl
    | cons h held ih =>
      rw [List.foldl_cons, ih]
      split <;> rfl
  exact Chip.oneStart_of_start (c := { c.heldBits with girth := g }) hheld

theorem Chip.oneStart_afresh (c : Chip) (trigger : Nat) : (c.afresh trigger).oneStart = c.oneStart := by
  unfold Chip.afresh
  exact Chip.oneStart_heldBits _ _

/-- A start keeps the one-start effects it was asked for. -/
theorem Chip.oneStart_beginStart (c : Chip) (trigger : Nat) : (c.beginStart trigger).oneStart = c.oneStart := by
  unfold Chip.beginStart
  dsimp only
  rw [Chip.oneStart_countStart, Chip.oneStart_burnishFound]
  split
  · rw [Chip.oneStart_lapseFound, Chip.oneStart_readRecord, Chip.oneStart_readUpd, Chip.oneStart_afresh, Chip.oneStart_norCut]
  · rw [Chip.oneStart_readRecord, Chip.oneStart_readUpd, Chip.oneStart_afresh, Chip.oneStart_norCut]

/-! ### Recovery commands (06 R283-R288) -/

/-- An accepted recovery command begins a start of trigger RECOVERY with the one-start effects of its OPCODE. -/
theorem Chip.recoveryAct_begins (c : Chip) (op arg : Nat) :
    StartBegun 5 (c.recoveryAct op arg) ∧ (c.recoveryAct op arg).oneStart = (decide (op = 3), decide (op = 4)) := by
  unfold Chip.recoveryAct
  exact ⟨startBegun_beginStart _ _, Chip.oneStart_beginStart _ _⟩

theorem Chip.recovery_accepted {c : Chip} {b : List Byte} (hmode : c.mode = 7) (hlisten : c.start.listening = true) (hres : c.recoveryResult b = 1) :
    StartBegun 5 (c.recovery (some b)) ∧ (c.recovery (some b)).oneStart = (decide (leAt b 2 1 = 3), decide (leAt b 2 1 = 4)) := by
  have hcheck : c.recovery (some b) = c.recoveryCheck b := by simp [Chip.recovery, hmode, hlisten]
  rw [hcheck, Chip.recoveryCheck, if_pos hres]
  exact Chip.recoveryAct_begins _ _ _

theorem exec_restart (frame : Option (List Byte)) (s : State) : exec (.restart frame) s = s.run (fun c => c.recovery frame) := rfl
theorem exec_restartSlot (frame : Option (List Byte)) (s : State) : exec (.restartSlot frame) s = s.run (fun c => c.recovery frame) := rfl
theorem exec_restartDefaults (frame : Option (List Byte)) (s : State) : exec (.restartDefaults frame) s = s.run (fun c => c.recovery frame) := rfl
theorem exec_restartCalDefaults (frame : Option (List Byte)) (s : State) :
    exec (.restartCalDefaults frame) s = s.run (fun c => c.recovery frame) := rfl

/-- Settles O14: an accepted command is `Chip.recoveryAct` of its OPCODE, whichever of the four names it comes under. -/
theorem recoveryCommandsBeginAStart : Obligations.RecoveryCommandsBeginAStart := by
  refine ⟨fun s b hawake hmode hlisten hres => ?accepted, fun s hawake hmode hstarted => ?outside⟩
  case accepted =>
    obtain ⟨hbegun, hone⟩ := Chip.recovery_accepted hmode hlisten hres
    obtain ⟨hdef, hcal⟩ := Prod.mk.inj hone
    refine ⟨fun hop => ?_, fun hop => ?_, fun hop => ?_, fun hop => ?_⟩
    · exact Gives.run (exec_restart _ s) hawake ⟨hbegun, by simpa [hop] using hdef, by simpa [hop] using hcal⟩
    · exact Gives.run (exec_restartSlot _ s) hawake ⟨hbegun, by simpa [hop] using hdef, by simpa [hop] using hcal⟩
    · exact Gives.run (exec_restartDefaults _ s) hawake ⟨hbegun, by simpa [hop] using hdef⟩
    · exact Gives.run (exec_restartCalDefaults _ s) hawake ⟨hbegun, by simpa [hop] using hcal⟩
  case outside =>
    refine Gives.run (exec_restart none s) hawake ?_
    simp [Chip.recovery, hmode, hstarted]

/-! ### Failed starts, the beacon and the proof deadlines (06 R254-R284, 04 R158) -/

/-- What the free counter draws is never 0 (R283). -/
theorem Chip.draw_ne_zero (c : Chip) : c.draw.2 ≠ 0 := by
  obtain ⟨v, hv⟩ := Config.challenge c.start.freeCtr
  unfold Chip.draw
  intro h
  have := congrArg BitVec.toNat h
  simp [wd] at this
  omega

theorem Chip.startFail_failed (c : Chip) (cause : Nat) :
    (c.startFail cause).start.phase = .failed ∧ (c.startFail cause).mode = 1 ∧ (c.startFail cause).start.countedWritten = true := by
  unfold Chip.startFail
  extract_lets c1
  have hkeep := Chip.hide_setLanes (c1.upModes (fun m => { m with mode := 1 })) (List.replicate 4 .parked) (ps := [.girth]) (by decide)
  rw [Chip.mode, Chip.start_of_hide hkeep (by decide), Chip.modes_of_hide hkeep (by decide)]
  exact ⟨rfl, rfl, rfl⟩

theorem Chip.enterStirrup_entered (c : Chip) : c.enterStirrup.mode = 7 ∧ c.enterStirrup.start.phase = .stirrup ∧
    c.enterStirrup.start.record.state = 2 ∧ c.enterStirrup.start.beacons = 0 := by
  unfold Chip.enterStirrup
  extract_lets r cause c1 p c2
  have hkeep : (c2.upModes (fun m => { m with mode := 7, prev := 0xF, reason := .start })).postMode.hide [.rings] =
      (c2.upModes (fun m => { m with mode := 7, prev := 0xF, reason := .start })).hide [.rings] :=
    Chip.hide_post0 _ _ _ _ _ _ _ _ _ (by decide)
  rw [Chip.mode, Chip.modes_of_hide hkeep (by decide), Chip.start_of_hide hkeep (by decide)]
  exact ⟨rfl, rfl, rfl, rfl⟩

theorem exec_startTimeout (s : State) : exec .startTimeout s = execStartTimeout s := rfl
theorem exec_supplyCycle (s : State) : exec .supplyCycle s = execSupplyCycle s := rfl
theorem exec_stirrupBeacon (s : State) : exec .stirrupBeacon s = execStirrupBeacon s := rfl
theorem exec_stirrupListenEnd (s : State) : exec .stirrupListenEnd s = execStirrupListenEnd s := rfl
theorem exec_startLoad (part : NorPart) (s : State) : exec (.startLoad part) s = execStartLoad part s := rfl
theorem exec_timebaseProofDeadline (tbm : Bool) (s : State) : exec (.timebaseProofDeadline tbm) s = execTimebaseProofDeadline tbm s := rfl

/-- Settles O15: by the definitions of a failed start, of the beacon and of the deadline. -/
theorem startsFailAndBeaconsListen : Obligations.StartsFailAndBeaconsListen := by
  refine ⟨fun s hawake hstarting hnormal => ?timeout, fun s hfvin => ?cycle, fun s hawake hmay => ?beacon, fun s hawake => ?listenEnd,
    fun s part hawake hstarting hheld hstirrup hdone => ?stirrup, fun s hawake hstarting hproven => ?tbm, fun s hawake hstarting hproven => ?tbk⟩
  case timeout =>
    refine Gives.run (exec_startTimeout s) hawake ?_
    simp only [hstarting, hnormal, Bool.not_false, Bool.and_self, if_true, Chip.follow_start, Chip.follow_mode]
    exact s.chip.startFail_failed 0x0D
  case cycle =>
    refine Gives.power (exec_supplyCycle s) ?_
    simp [hfvin]
  case beacon =>
    refine Gives.run (exec_stirrupBeacon s) hawake ?_
    simp only [hmay, if_true]
    exact ⟨rfl, rfl, s.chip.draw_ne_zero⟩
  case listenEnd => exact Gives.run (exec_stirrupListenEnd s) hawake rfl
  case stirrup =>
    refine Gives.run (exec_startLoad part s) hawake ?_
    simp only [hstarting, hheld, hstirrup, hdone, Bool.not_true, Bool.or_self, Bool.false_eq_true, if_false, if_true,
      Chip.follow_start, Chip.follow_mode]
    exact s.chip.enterStirrup_entered
  case tbm =>
    refine Gives.run (exec_timebaseProofDeadline true s) hawake ?_
    simp only [hstarting, hproven, Bool.not_true, Bool.false_eq_true, if_false, if_true]
    exact ⟨rfl, rfl⟩
  case tbk =>
    refine Gives.run (exec_timebaseProofDeadline false s) hawake ?_
    simp only [hstarting, hproven, Bool.not_true, Bool.false_eq_true, if_false]
    rfl

end Sys2Proof.Machine
end

section
/-! SUPPORT. Mode requests, transitions and the mode policy (03 R129-R144, R901). -/

namespace Sys2Proof.Machine

/-! ### What the host's request decides (03 R129-R136) -/

/-- From a settled mode a transition begins to the mode asked for, unless it leads through WATCH. -/
theorem Chip.goTo_begins {c : Chip} {target : Nat} (htrans : c.modes.transition = none) (hnew : c.mode ≠ target)
    (hdirect : ¬ (c.mode = 1 ∧ (target = 3 ∨ target = 4))) (r : Reason) : c.goTo target r = c.beginTransition target r := by
  simp only [Chip.goTo, htrans, if_neg hnew, if_neg hdirect]

/-- The block with the mode asked for noted: nothing that a decision looks at. -/
def Chip.asked (c : Chip) (req : Nat) : Chip := c.upModes (fun m => { m with reqMode := req })

theorem Chip.asked_modes (c : Chip) (req : Nat) : (c.asked req).modes = { c.modes with reqMode := req } := rfl
theorem Chip.asked_mode (c : Chip) (req : Nat) : (c.asked req).mode = c.mode := rfl
theorem Chip.asked_started (c : Chip) (req : Nat) : (c.asked req).started = c.started := rfl
theorem Chip.asked_held (c : Chip) (req : Nat) : (c.asked req).held = c.held := rfl
theorem Chip.asked_power (c : Chip) (req : Nat) : (c.asked req).power = c.power := rfl
theorem Chip.asked_keeper (c : Chip) (req : Nat) : (c.asked req).keeper = c.keeper := rfl
theorem Chip.asked_girth (c : Chip) (req : Nat) : (c.asked req).girth = c.girth := rfl
theorem Chip.asked_burstDue (c : Chip) (req : Nat) : (c.asked req).burstDue = c.burstDue := rfl
theorem Chip.asked_silent (c : Chip) (req l : Nat) : (c.asked req).silent l = c.silent l := rfl
theorem Chip.asked_fallback (c : Chip) (req m : Nat) : (c.asked req).fallback m = c.fallback m := rfl
theorem Chip.asked_runB (c : Chip) (req a i : Nat) : (c.asked req).runB a i = c.runB a i := rfl

/-- What a request of a mode the host may ask for shows, in a machine that has started and settled. -/
theorem Chip.hostMode_decided {c : Chip} {req : Nat} (h0 : c.mode ≠ 0) (h7 : c.mode ≠ 7) (hstarted : c.started = true)
    (hreq : req < 6) (htrans : c.modes.transition = none) {d : Chip} {res : Nat} (hdecide : (c.asked req).decideMode req .host = (d, res)) :
    c.hostMode req = d.hostResult req res := by
  have hreq6 : ¬ 6 ≤ req := by omega
  have hshape : c.hostMode req = if (c.asked req).mode = 0 ∨ ((c.asked req).started = false ∧ (c.asked req).mode ≠ 7) then c
    else if (c.asked req).mode = 7 then (c.asked req).hostResult req 4
    else if 6 ≤ req then (c.asked req).hostResult req 7
    else if (c.asked req).modes.transition.isSome then (c.asked req).hostResult req 8
    else ((c.asked req).decideMode req .host).1.hostResult req ((c.asked req).decideMode req .host).2 := rfl
  rw [hshape, hdecide]
  simp [Chip.asked_mode, Chip.asked_started, Chip.asked_modes, h0, h7, hstarted, hreq6, htrans]

theorem Chip.awake_mode {c : Chip} (h : c.awake = true) : c.mode ≠ 0 := by
  simp only [Chip.awake, Bool.and_eq_true, decide_eq_true_eq] at h
  exact h.2

theorem Chip.hostOpen_of_started {c : Chip} (h : c.started = true) : c.hostOpen = true := by simp [Chip.hostOpen, h]

theorem exec_modeReqKeeperWatch (watch : Bool) (s : State) : exec (.modeReqKeeperWatch watch) s = s.runHost (fun c => c.hostMode (if watch then 2 else 1)) := rfl
theorem exec_modeReqShip (s : State) : exec .modeReqShip s = s.runHost (fun c => c.hostMode 0) := rfl
theorem exec_modeReqDuty (s : State) : exec .modeReqDuty s = s.runHost (fun c => c.hostMode 5) := rfl
theorem exec_modeReqFix (s : State) : exec .modeReqFix s = s.runHost (fun c => c.hostMode 3) := rfl
theorem exec_modeReqBurst (s : State) : exec .modeReqBurst s = s.runHost (fun c => c.hostMode 4) := rfl
theorem exec_modeReqInvalid (mode : Nat) (s : State) : exec (.modeReqInvalid mode) s =
    s.runHost (fun c => if 6 ≤ mode then c.hostMode (mode % 16) else c) := rfl

/-- A mode that no fix and no link comes into is decided by its refusal: without one its transition begins. -/
theorem Chip.decideMode_plain {c : Chip} {req : Nat} (h3 : req ≠ 3) (h4 : req ≠ 4) (hnone : c.modeRefusal req = none) (hship : req = 0 → c.shipBusy = false)
    (hstay : ¬ ((req = 1 ∨ req = 2) ∧ (c.mode = 3 ∨ c.mode = 4))) (r : Reason) : c.decideMode req r = (c.goTo req r, 0) := by
  by_cases h0 : req = 0
  · subst h0
    simp [Chip.decideMode, hnone, hship rfl]
  · simp [Chip.decideMode, h3, h4, h0, hnone, hstay]

/-- A request that finds no refusal in the settled KEEPER or WATCH begins its transition and shows the result 0. -/
theorem Chip.hostMode_begins {c : Chip} {req : Nat} (hstarted : c.started = true) (hreq : req < 6) (htrans : c.modes.transition = none)
    (hplain : c.mode = 1 ∨ c.mode = 2) (h3 : req ≠ 3) (h4 : req ≠ 4) (hnew : c.mode ≠ req) (hnone : (c.asked req).modeRefusal req = none)
    (hship : req = 0 → c.shipBusy = false) :
    (c.hostMode req).modes = { c.modes with reqMode := req, reqResult := 0, queuedHost := none, transition := some (req, .host) } := by
  have hstay : ¬ ((req = 1 ∨ req = 2) ∧ ((c.asked req).mode = 3 ∨ (c.asked req).mode = 4)) := by
    rw [Chip.asked_mode]
    omega
  rw [Chip.hostMode_decided (by omega) (by omega) hstarted hreq htrans (Chip.decideMode_plain h3 h4 hnone hship hstay .host),
    Chip.goTo_begins (c := c.asked req) htrans hnew (by omega)]
  rfl

/-- A fix asked for in WATCH waits for its mode, to which a transition begins. -/
theorem Chip.requestFix_watch {c : Chip} (hmode : c.mode = 2) (htrans : c.modes.transition = none) (hheld : c.held = false)
    (hready : c.acqReady = true) (hsilent : c.silent 1 = false) (hrefused : c.girth.radioRefused = false) (hidle : c.acq.state = .idle)
    (target value : Nat) (r : Reason) :
    ∃ a : Acq, a.state = .waiting ∧ c.requestFix target value r = (({ c with acq := a } : Chip).beginTransition 3 r, none) := by
  let a : Acq := { c.acq with
      state := .waiting, cls := c.fixClass, wantBurst := decide (target = 1) || decide (c.fixClass ≠ 0), found := 0, phase := 0,
      fellBack := false, retaken := false,
      burstLen := if decide (target = 1) || decide (c.fixClass ≠ 0) then (if value = 0 then c.runF 0x2001 27 20 else value) else 0 }
  have hstart : c.requestFix target value r = (({ c with acq := a } : Chip).fixInMode r, none) := by
    simp [Chip.requestFix, hmode, hready, hsilent, hrefused, hheld, hidle, a]
  have hmode' : ({ c with acq := a } : Chip).mode = 2 := hmode
  refine ⟨a, rfl, ?_⟩
  rw [hstart, Chip.fixInMode, if_neg (by omega), if_pos (by omega), Chip.goTo_begins (c := { c with acq := a }) htrans (by omega) (by omega)]

/-- Settles O16: by the decision of each request. -/
theorem hostModeRequestsAreDecided : Obligations.HostModeRequestsAreDecided := by
  refine ⟨fun s watch hawake hstarted hmode htrans hheld hfall => ?watch, fun s hawake hstarted hmode htrans hheld htheft hfvin hallowed hfree => ?ship,
    fun s hawake hstarted hmode htrans hheld hfvin hfall => ?duty,
    fun s hawake hstarted hmode htrans hheld hready hsilent hrefused hidle => ?fix,
    fun s hawake hstarted hmode htrans hheld hdue hsilent hrefused => ?burst,
    fun s mode hawake hstarted hlow hhigh => ?invalid, fun s watch hawake hstarted hmode htrans => ?queued⟩
  case watch =>
    refine Gives.host (exec_modeReqKeeperWatch watch s) hawake (Chip.hostOpen_of_started hstarted) ?_
    have hnone : (s.chip.asked (if watch then 2 else 1)).modeRefusal (if watch then 2 else 1) = none := by
      cases watch <;> simp_all [Chip.modeRefusal, Chip.asked_mode, Chip.asked_held, Chip.asked_fallback]
    rw [Chip.follow_modes, Chip.hostMode_begins hstarted (by cases watch <;> decide) htrans (by cases watch <;> simp_all) (by cases watch <;> decide)
      (by cases watch <;> decide) (by cases watch <;> simp_all) hnone (by cases watch <;> simp)]
    exact ⟨rfl, rfl, rfl⟩
  case ship =>
    refine Gives.host (exec_modeReqShip s) hawake (Chip.hostOpen_of_started hstarted) ?_
    have hnone : (s.chip.asked 0).modeRefusal 0 = none := by
      rcases hmode with hm | hm <;>
        simp [Chip.modeRefusal, Chip.asked_mode, Chip.asked_held, Chip.asked_keeper, Chip.asked_power, Chip.asked_runB, hm, hheld, htheft, hfvin,
          hallowed, theftCode]
    rw [Chip.follow_modes, Chip.hostMode_begins hstarted (by decide) htrans hmode (by decide) (by decide) (by omega) hnone (fun _ => hfree)]
    exact ⟨rfl, rfl⟩
  case duty =>
    refine Gives.host (exec_modeReqDuty s) hawake (Chip.hostOpen_of_started hstarted) ?_
    have hnone : (s.chip.asked 5).modeRefusal 5 = none := by
      rcases hmode with hm | hm <;>
        simp [Chip.modeRefusal, Chip.asked_mode, Chip.asked_held, Chip.asked_power, Chip.asked_fallback, hm, hheld, hfvin, hfall]
    rw [Chip.follow_modes, Chip.hostMode_begins hstarted (by decide) htrans hmode (by decide) (by decide) (by omega) hnone (by simp)]
    exact ⟨rfl, rfl⟩
  case fix =>
    refine Gives.host (exec_modeReqFix s) hawake (Chip.hostOpen_of_started hstarted) ?_
    obtain ⟨a, ha, hfix⟩ := Chip.requestFix_watch (c := s.chip.asked 3) hmode htrans hheld hready hsilent hrefused hidle 0 0 .host
    have hdecide : (s.chip.asked 3).decideMode 3 .host = (({ s.chip.asked 3 with acq := a } : Chip).beginTransition 3 .host, 0) := by
      simp [Chip.decideMode, Chip.asked_mode, hmode, hfix]
    rw [Chip.hostMode_decided (by omega) (by omega) hstarted (by decide) htrans hdecide]
    exact ⟨rfl, ha, rfl⟩
  case burst =>
    refine Gives.host (exec_modeReqBurst s) hawake (Chip.hostOpen_of_started hstarted) ?_
    have hgo : (s.chip.asked 4).wantBurst .host = ((s.chip.asked 4).upRadio (fun x => { x with burstWanted := true })).beginTransition 4 .host := by
      have hm : ((s.chip.asked 4).upRadio (fun x => { x with burstWanted := true })).mode = 2 := hmode
      rw [Chip.wantBurst, if_pos (Or.inr hm), Chip.goTo_begins (c := (s.chip.asked 4).upRadio _) htrans (by omega) (by omega)]
    have hdecide : (s.chip.asked 4).decideMode 4 .host =
        (((s.chip.asked 4).upRadio (fun x => { x with burstWanted := true })).beginTransition 4 .host, 0) := by
      simp [Chip.decideMode, Chip.asked_mode, Chip.asked_held, Chip.asked_burstDue, Chip.asked_silent, Chip.asked_girth, hmode, hheld, hdue, hsilent,
        hrefused, hgo]
    rw [Chip.hostMode_decided (by omega) (by omega) hstarted (by decide) htrans hdecide]
    exact ⟨rfl, rfl, rfl⟩
  case invalid =>
    refine Gives.host (exec_modeReqInvalid mode s) hawake (Chip.hostOpen_of_started hstarted) ?_
    have hmod : mode % 16 = mode := Nat.mod_eq_of_lt hhigh
    have h0 := Chip.awake_mode hawake
    have hmode : (s.chip.upModes (fun m => { m with reqMode := mode })).mode = s.chip.mode := rfl
    have hstart : (s.chip.upModes (fun m => { m with reqMode := mode })).started = true := hstarted
    by_cases h7 : s.chip.mode = 7
    · simp [hlow, hmod, Chip.hostMode, hmode, h7, Chip.hostResult]
    · simp [hlow, hmod, Chip.hostMode, hmode, hstart, h0, h7, Chip.hostResult]
  case queued =>
    refine Gives.host (exec_modeReqKeeperWatch watch s) hawake (Chip.hostOpen_of_started hstarted) ?_
    have h0 := Chip.awake_mode hawake
    have hsome : s.chip.modes.transition.isSome = true := Option.isSome_iff_ne_none.mpr htrans
    have hkeep (req : Nat) : (s.chip.upModes (fun m => { m with reqMode := req })).mode = s.chip.mode := rfl
    have hstart (req : Nat) : (s.chip.upModes (fun m => { m with reqMode := req })).started = true := hstarted
    cases watch <;> simp [Chip.hostMode, hkeep, hstart, h0, hmode, hsome, Chip.hostResult]

/-! ### A transition completes (03 R132, R901) -/

/-- The mode, the mode before it and why the machine is in it: what SYS_MODE shows apart from requests. -/
def Chip.standing (c : Chip) : Nat × Nat × Reason := (c.modes.mode, c.modes.prev, c.modes.reason)

theorem Chip.standing_of_modes {c d : Chip} (h : c.modes = d.modes) : c.standing = d.standing := by
  unfold Chip.standing
  rw [h]

theorem Chip.standing_goTo (c : Chip) (m : Nat) (r : Reason) : (c.goTo m r).standing = c.standing := by
  simp only [Chip.standing, Chip.goTo_modes_mode, Chip.goTo_modes_prev, Chip.goTo_modes_reason]

theorem Chip.standing_settle (c : Chip) : c.settle.standing = c.standing := by
  simp only [Chip.standing, Chip.settle_modes_mode, Chip.settle_modes_prev, Chip.settle_modes_reason]

theorem Chip.standing_leaveFix (c : Chip) : c.leaveFix.standing = c.standing := by
  unfold Chip.leaveFix Chip.idleCheck
  split
  · split
    · exact Chip.standing_goTo _ _ _
    · split <;> exact Chip.standing_goTo _ _ _
  · split
    · exact Chip.standing_goTo _ _ _
    · rfl

theorem Chip.standing_endFix (c : Chip) (reason : Nat) : (c.endFix reason).standing = c.standing := by
  unfold Chip.endFix
  extract_lets c1 c2 acq c3 c4 c5
  have h5 : c5.hide (others .modes) = c.hide (others .modes) := by
    simp only [c5, c4, c3, c2, c1, Chip.hide_elim, Chip.hide_dropArmed, Chip.hide_applyWords, Chip.hide_with_acq, Chip.hide_event,
      Chip.hide_produce, mem_others, ne_eq, reduceCtorEq, not_false_eq_true, implies_true]
  rw [Chip.standing_leaveFix, Chip.standing_of_modes (Chip.modes_of_hide h5 (by decide))]

theorem Chip.standing_failFix (c : Chip) (reason : Nat) : (c.failFix reason).standing = c.standing := by
  unfold Chip.failFix
  split
  · rfl
  · extract_lets burst c1
    have h1 : c1.hide (others .modes) = c.hide (others .modes) := by
      simp only [c1, Chip.hide_ite, Chip.hide_tpHold, Chip.hide_releaseAll, mem_others, ne_eq, reduceCtorEq, not_false_eq_true, ite_self]
    rw [Chip.standing_endFix, Chip.standing_of_modes (Chip.modes_of_hide h1 (by decide))]

theorem Chip.standing_endWork (c : Chip) (m : Nat) (r : Reason) : (c.endWork m r).standing = c.standing := by
  unfold Chip.endWork
  extract_lets why c1 c2
  have h1 : c1.standing = c.standing := by
    refine Chip.standing_of_modes (Chip.modes_of_hide (ps := others .modes) ?_ (by decide))
    simp only [c1, Chip.hide_ite, Chip.hide_upRadio, Chip.hide_abortRadio, mem_others, ne_eq, reduceCtorEq, not_false_eq_true, and_self, ite_self]
  split
  · exact h1
  · have h2 : c2.standing = c.standing := by
      unfold c2
      split
      · rw [Chip.standing_failFix, h1]
      · exact h1
    split
    · rw [← h2]
      exact Chip.standing_of_modes (Chip.modes_of_hide (Chip.hide_tpHold _ (ps := others .modes) (by decide)) (by decide))
    · exact h2

theorem Chip.standing_domains (c : Chip) (m : Nat) (r : Reason) : (c.domains m r).standing = c.standing := by
  unfold Chip.domains
  extract_lets c1 c2 c3
  have h1 : c1.standing = c.standing := Chip.standing_endWork c m r
  rw [← h1]
  refine Chip.standing_of_modes (Chip.modes_of_hide (ps := others .modes) ?_ (by decide))
  simp only [c3, c2, Chip.hide_gbiasFor, Chip.hide_foutFor, Chip.hide_with_seqs, Chip.hide_setLanes, mem_others, ne_eq, reduceCtorEq,
    not_false_eq_true]

/-- A transition that is completed shows its target, the mode left and its source. -/
theorem Chip.standing_completeMode (c : Chip) (m : Nat) (r : Reason) : (c.completeMode m r).standing = (m, c.modes.mode, r) := by
  unfold Chip.completeMode
  extract_lets c0 c1 c2
  have h1 : c1.standing = (m, c.modes.mode, r) := rfl
  have h2 : c2.standing = (m, c.modes.mode, r) := by
    rw [← h1, ← Chip.standing_domains c1 m r]
    refine Chip.standing_of_modes (Chip.modes_of_hide (ps := others .modes) ?_ (by decide))
    simp only [c2, Chip.hide_postSignal, Chip.hide_postMode, mem_others, ne_eq, reduceCtorEq, not_false_eq_true, and_self]
  split
  · rw [← h2]
    exact Chip.standing_of_modes (Chip.modes_of_hide (Chip.hide_fixEntered _ (ps := others .modes) (by decide)) (by decide))
  · exact h2

/-- What follows a completed transition, another one or none, leaves what it shows. -/
theorem Chip.standing_modeChanged {c : Chip} {m : Nat} {r : Reason} (htrans : c.modes.transition = some (m, r)) (hready : c.lanesReady m = true) :
    c.modeChanged.standing = (m, c.modes.mode, r) := by
  rw [← Chip.standing_completeMode c m r, Chip.modeChanged, htrans]
  simp only [hready, if_true]
  split
  · split
    · exact Chip.standing_settle _
    · rfl
  · exact Chip.standing_settle _

theorem Chip.flushFor_hide (c : Chip) : c.flushFor.hide [.rings, .seqs] = c.hide [.rings, .seqs] := Chip.hide_flushFor c (by decide)

/-- A transition whose lanes have woken is completed: nothing before or after it changes what SYS_MODE shows. -/
theorem Chip.standing_modeReached {c : Chip} {m : Nat} {r : Reason} (htrans : c.modes.transition = some (m, r)) (hready : c.lanesReady m = true) :
    c.modeReached.standing = (m, c.modes.mode, r) := by
  have hmodes : c.flushFor.modes = c.modes := Chip.modes_of_hide c.flushFor_hide (by decide)
  have hgirth : c.flushFor.girth = c.girth := Chip.girth_of_hide c.flushFor_hide (by decide)
  have hready' : c.flushFor.lanesReady m = true := by
    rw [← hready]
    simp only [Chip.lanesReady, Chip.lane, hgirth]
    rfl
  rw [Chip.modeReached, htrans]
  simp only [hready, if_true]
  rw [Chip.standing_of_modes (Chip.modes_of_hide (Chip.hide_frontFollow _ (ps := others .modes) (by decide)) (by decide)),
    Chip.standing_modeChanged (hmodes ▸ htrans) hready', hmodes]

theorem exec_modeChanged (s : State) : exec .modeChanged s = s.run Chip.modeReached := rfl
theorem exec_modePolicyArm (s : State) : exec .modePolicyArm s = s.runHost Chip.modePolicyArm := rfl

/-- Settles O17: by what a completed transition shows and by the check of the policy. -/
theorem transitionsComplete : Obligations.TransitionsComplete := by
  refine ⟨fun s m r hawake htrans hready => ?completes, fun s hawake hopen hok => ?accepted, fun s hawake hopen hbad => ?refused⟩
  case completes =>
    refine Gives.run (exec_modeChanged s) hawake ?_
    have h := Chip.standing_modeReached htrans hready
    simp only [Chip.standing, Prod.mk.injEq] at h
    simpa only [Chip.follow_modes] using h
  case accepted =>
    refine Gives.host (exec_modePolicyArm s) hawake hopen ?_
    rw [Chip.follow_run, Chip.modePolicyArm]
    rw [if_pos hok, Chip.settle_run]
    rfl
  case refused =>
    refine Gives.host (exec_modePolicyArm s) hawake hopen ?_
    rw [Chip.follow_run, Chip.follow_modes, Chip.modePolicyArm]
    rw [if_neg hbad]
    exact ⟨rfl, rfl⟩

end Sys2Proof.Machine
end

section
/-! SUPPORT. Domain switches, crystals and loops (04 R153-R197). -/

namespace Sys2Proof.Machine

/-! ### Timebase domains (04 R175-R191) -/

/-- A timebase domain: its source, its switch and the request that waits behind it. -/
def Chip.dom (c : Chip) (d : Nat) : Domain := c.tb.domains.getD d {}

theorem Chip.switchStage_dom (c : Chip) (d : Nat) : c.switchStage d = (c.dom d).switch.map (fun w => w.stage) := rfl
theorem Chip.domSource_dom (c : Chip) (d : Nat) : c.domSource d = (c.dom d).source := rfl
theorem Chip.dom_follow (c w : Chip) (d : Nat) : (c.follow w).dom d = c.dom d := rfl

theorem Chip.dom_of_tb {c e : Chip} (h : c.tb = e.tb) (d : Nat) : c.dom d = e.dom d := by
  unfold Chip.dom
  rw [h]

theorem Chip.dom_upDomain_self {c : Chip} {d : Nat} (h : d < c.tb.domains.length) (f : Domain → Domain) : (c.upDomain d f).dom d = f (c.dom d) := by
  simp [Chip.dom, Chip.upDomain, List.getD_eq_getElem?_getD, h]

theorem Chip.dom_upDomain_other {c : Chip} {d k : Nat} (h : k ≠ d) (f : Domain → Domain) : (c.upDomain d f).dom k = c.dom k := by
  simp [Chip.dom, Chip.upDomain, List.getD_eq_getElem?_getD, Ne.symm h]

theorem Chip.domains_length_upDomain (c : Chip) (d : Nat) (f : Domain → Domain) : (c.upDomain d f).tb.domains.length = c.tb.domains.length := by
  simp [Chip.upDomain]

theorem Chip.stopDomain_tb (c : Chip) (d : Nat) :
    (c.stopDomain d).tb = (c.upDomain d (fun x => { x with switch := x.switch.map (fun w => { w with stage := .acknowledged }) })).tb := by
  unfold Chip.stopDomain
  extract_lets c1
  split
  · exact Chip.tb_of_hide (Chip.hide_markGap c1 (ps := others .tb) (by decide)) (by decide)
  · rfl

/-- A domain stopped at its safe point: its switch is acknowledged, its source is the one it had. -/
theorem Chip.dom_stopDomain_self {c : Chip} {d : Nat} (h : d < c.tb.domains.length) :
    (c.stopDomain d).dom d = { c.dom d with switch := (c.dom d).switch.map (fun w => { w with stage := .acknowledged }) } := by
  rw [Chip.dom_of_tb (c.stopDomain_tb d), Chip.dom_upDomain_self h]

theorem Chip.dom_stopDomain_other {c : Chip} {d k : Nat} (h : k ≠ d) : (c.stopDomain d).dom k = c.dom k := by
  rw [Chip.dom_of_tb (c.stopDomain_tb d), Chip.dom_upDomain_other h]

theorem exec_domainSwitchRequest (d target : Nat) (s : State) : exec (.domainSwitchRequest d target) s = execDomainSwitchRequest d target s := rfl
theorem exec_stopAcknowledged (d : Nat) (s : State) : exec (.stopAcknowledged d) s = execStopAcknowledged d s := rfl
theorem exec_sourceSwitch (d : Nat) (s : State) : exec (.sourceSwitch d) s = execSourceSwitch d s := rfl
theorem exec_domainRelease (d : Nat) (s : State) : exec (.domainRelease d) s = execDomainRelease d s := rfl

/-- A release with no request waiting: the switch is over, and the domain keeps its new source. -/
theorem Chip.releaseDomain_unqueued {c : Chip} {d : Nat} (h : d < c.tb.domains.length) (hq : (c.dom d).queued = none) :
    (c.releaseDomain d).dom d = { c.dom d with switch := none, queued := none } ∧
      (d = 2 → (c.releaseDomain d).keeper.sub = c.keeper.sub + 6) ∧ (d = 3 → (c.releaseDomain d).tb.ckoDiv = c.runF 0x0403 15 0) := by
  have hq' : (c.tb.domains.getD d {}).queued = none := hq
  unfold Chip.releaseDomain
  extract_lets q c1 c2
  have h1 : c1.dom d = { c.dom d with switch := none, queued := none } := Chip.dom_upDomain_self h _
  unfold q
  rw [hq']
  dsimp only
  rw [← h1]
  refine ⟨?_, fun hd => ?_, fun hd => ?_⟩
  · unfold c2
    split
    · rfl
    · split <;> rfl
  · unfold c2
    rw [if_pos hd]
    rfl
  · unfold c2
    rw [if_neg (by omega), if_pos hd]
    rfl

/-- Settles O18: each stage changes the domain's own entry, by what it says of its switch. -/
theorem domainSwitchesGoThroughTheirStages : Obligations.DomainSwitchesGoThroughTheirStages := by
  refine ⟨fun s d target hawake hlt hd hpath hnone hnew => ?requested, fun s d target st hawake hlt hd hpath hsome => ?waits,
    fun s d hawake hlt hstage hsafe => ?stopped, fun s d w hawake hlt hw hstage => ?moved, fun s d hawake hlt hstage hq => ?released⟩
  case requested =>
    refine Gives.run (exec_domainSwitchRequest d target s) hawake ?_
    have hswitch : (s.chip.tb.domains.getD d {}).switch = none := by simpa [Chip.switchStage] using hnone
    rw [if_pos ⟨hd, hpath⟩, Chip.switchStage_dom, Chip.domSource_dom, Chip.dom_follow, Chip.requestSwitch, hswitch]
    dsimp only
    rw [if_neg hnew, Chip.dom_upDomain_self hlt]
    exact ⟨rfl, rfl⟩
  case waits =>
    refine Gives.run (exec_domainSwitchRequest d target s) hawake ?_
    obtain ⟨w, hswitch, -⟩ := Option.map_eq_some_iff.mp hsome
    rw [if_pos ⟨hd, hpath⟩, Chip.requestSwitch, hswitch]
    change ((Chip.follow _ _).dom d).queued = _ ∧ _
    rw [Chip.switchStage_dom, Chip.dom_follow, Chip.dom_upDomain_self hlt]
    exact ⟨rfl, hsome⟩
  case stopped =>
    refine Gives.run (exec_stopAcknowledged d s) hawake ?_
    obtain ⟨w, hswitch, -⟩ := Option.map_eq_some_iff.mp hstage
    have hswitch' : (s.chip.dom d).switch = some w := hswitch
    rw [if_pos ⟨hstage, hsafe⟩, Chip.switchStage_dom, Chip.domSource_dom, Chip.dom_follow, Chip.dom_stopDomain_self hlt, hswitch']
    exact ⟨rfl, rfl⟩
  case moved =>
    refine Gives.run (exec_sourceSwitch d s) hawake ?_
    have hw' : (s.chip.dom d).switch = some w := hw
    have hstage' : s.chip.switchStage d = some .acknowledged := by rw [Chip.switchStage_dom, hw', Option.map_some, hstage]
    rw [if_pos hstage', Chip.switchStage_dom, Chip.domSource_dom, Chip.dom_follow, Chip.dom_upDomain_self hlt, hw']
    exact ⟨rfl, rfl⟩
  case released =>
    refine Gives.run (exec_domainRelease d s) hawake ?_
    obtain ⟨hdom, hsub, hdiv⟩ := Chip.releaseDomain_unqueued hlt hq
    rw [if_pos hstage, Chip.switchStage_dom, Chip.domSource_dom, Chip.dom_follow, hdom]
    exact ⟨rfl, rfl, hsub, hdiv⟩

/-! ### Crystals and loops (04 R153-R197) -/

/-- A domain taken from its crystal by force: its switch to the other source is already acknowledged (R195). -/
theorem Chip.dom_forceSwitch_self {c : Chip} {d : Nat} (h : d < c.tb.domains.length) (hsrc : c.domSource d = 1) :
    ((c.forceSwitch d).dom d).switch = some { stage := .acknowledged, target := 0 } := by
  unfold Chip.forceSwitch
  rw [if_pos hsrc, Chip.dom_stopDomain_self (by rwa [Chip.domains_length_upDomain]), Chip.dom_upDomain_self h]
  rfl

theorem Chip.dom_forceSwitch_other {c : Chip} {d k : Nat} (h : k ≠ d) : (c.forceSwitch d).dom k = c.dom k := by
  unfold Chip.forceSwitch
  split
  · rw [Chip.dom_stopDomain_other h, Chip.dom_upDomain_other h]
  · rw [Chip.dom_upDomain_other h]

/-- A forced switch changes the domains alone of the timebases. -/
theorem Chip.forceSwitch_tb (c : Chip) (d : Nat) : ∃ ds, ds.length = c.tb.domains.length ∧ (c.forceSwitch d).tb = { c.tb with domains := ds } := by
  unfold Chip.forceSwitch
  split
  · rw [Chip.stopDomain_tb]
    exact ⟨_, by simp [Chip.upDomain], rfl⟩
  · exact ⟨_, by simp, rfl⟩

theorem Chip.tbEvent_tb (c : Chip) (code cause : Nat) (err : Int) : (c.tbEvent code cause err).tb = c.tb :=
  Chip.tb_of_hide (Chip.hide_tbEvent c code cause err (ps := others .tb) (by decide)) (by decide)
theorem Chip.tbEvent_regs (c : Chip) (code cause : Nat) (err : Int) : (c.tbEvent code cause err).regs = c.regs :=
  Chip.regs_of_hide (Chip.hide_tbEvent c code cause err (ps := others .regs) (by decide)) (by decide)
theorem Chip.causeNow_tb (c : Chip) (cause : Nat) : (c.causeNow cause).tb = c.tb :=
  Chip.tb_of_hide (Chip.hide_causeNow c cause (ps := others .tb) (by decide)) (by decide)
theorem Chip.causeNow_regs (c : Chip) (cause : Nat) : (c.causeNow cause).regs = c.regs :=
  Chip.regs_of_hide (Chip.hide_causeNow c cause (ps := others .regs) (by decide)) (by decide)

theorem Chip.reg_of_regs {c d : Chip} (h : c.regs = d.regs) (a : Nat) : c.reg a = d.reg a := by
  unfold Chip.reg
  rw [h]

theorem exec_tbkProven (s : State) : exec .tbkProven s = execTbkProven s := rfl
theorem exec_tbmProven (s : State) : exec .tbmProven s = execTbmProven s := rfl
theorem exec_tbkFail (cause : Nat) (err : Int) (s : State) : exec (.tbkFail cause err) s = s.run (fun c => c.tbkFail cause err) := rfl
theorem exec_tbmFail (cause : Nat) (err : Int) (s : State) : exec (.tbmFail cause err) s = s.run (fun c => c.tbmFail cause err) := rfl
theorem exec_loopLocked (l : Nat) (s : State) : exec (.loopLocked l) s = s.run (fun c => c.loopLock l) := rfl
theorem exec_mlUnlock (l : Nat) (s : State) : exec (.mlUnlock l) s = s.run (fun c => c.mlUnlock l) := rfl
theorem exec_mlgUnlock (s : State) : exec .mlgUnlock s = execMlgUnlock s := rfl
theorem exec_loopLockRetry (l : Nat) (locks : Bool) (s : State) : exec (.loopLockRetry l locks) s = execLoopLockRetry l locks s := rfl

theorem Chip.forceSwitch_regs (c : Chip) (d : Nat) : (c.forceSwitch d).regs = c.regs :=
  Chip.regs_of_hide (Chip.hide_forceSwitch c d (ps := others .regs) (by decide)) (by decide)

theorem Chip.mlgLost_tb (c : Chip) : c.mlgLost.tb = c.tb :=
  Chip.tb_of_hide (Chip.hide_mlgLost c (ps := others .tb) (by decide)) (by decide)

theorem Chip.radioGone_tb (c : Chip) (fix frame : Nat) : (c.radioGone fix frame).tb = c.tb :=
  Chip.tb_of_hide (Chip.hide_radioGone c fix frame (ps := others .tb) (by decide)) (by decide)

/-- What TBK's failure makes of the timebases and of the registers. -/
theorem Chip.tbkFail_tb {c : Chip} (hproven : c.tb.tbkProven = true) (hok : c.tb.tbkFailed = false) (cause : Nat) (err : Int) :
    (c.tbkFail cause err).tb = ((c.upTb (fun t => { t with tbkFailed := true, tbkProven := false })).forceSwitch 2).tb := by
  unfold Chip.tbkFail
  simp only [hproven, hok, Bool.not_false, Bool.and_self, if_true, Chip.causeNow_tb, Chip.tbEvent_tb, Chip.setBits_tb]

theorem Chip.tbkFail_reg {c : Chip} (hproven : c.tb.tbkProven = true) (hok : c.tb.tbkFailed = false) (cause : Nat) (err : Int) :
    (c.tbkFail cause err).reg 0x0401 = c.reg 0x0401 ||| wd 1 := by
  unfold Chip.tbkFail
  simp only [hproven, hok, Bool.not_false, Bool.and_self, if_true]
  rw [Chip.reg_of_regs (Chip.causeNow_regs _ _), Chip.reg_of_regs (Chip.tbEvent_regs _ _ _ _)]
  simp only [Chip.reg_setBits, if_true, Chip.reg_of_regs (Chip.forceSwitch_regs _ _), Chip.reg_of_regs (Chip.upTb_regs _ _)]

/-- TBK declared failed: the keeper domain leaves it, and its fault bit is set. -/
theorem Chip.tbkFail_failed {c : Chip} (hproven : c.tb.tbkProven = true) (hok : c.tb.tbkFailed = false) (hlt : 2 < c.tb.domains.length) (cause : Nat)
    (err : Int) : (c.tbkFail cause err).tb.tbkFailed = true ∧ (c.tbkFail cause err).tb.tbkProven = false ∧
      (c.tbkFail cause err).reg 0x0401 = c.reg 0x0401 ||| wd 1 ∧
      (c.domSource 2 = 1 → ((c.tbkFail cause err).dom 2).switch = some { stage := .acknowledged, target := 0 }) := by
  have htb := Chip.tbkFail_tb hproven hok cause err
  obtain ⟨ds, -, hds⟩ := (c.upTb (fun t => { t with tbkFailed := true, tbkProven := false })).forceSwitch_tb 2
  rw [Chip.dom_of_tb htb, htb, Chip.tbkFail_reg hproven hok]
  refine ⟨?_, ?_, rfl, fun hsrc => Chip.dom_forceSwitch_self hlt hsrc⟩
  · rw [hds]; rfl
  · rw [hds]; rfl

/-- What TBM's failure makes of the timebases before the two domains leave it. -/
def Timebases.withoutTbm (t : Timebases) : Timebases :=
  { t with tbmFailed := true, tbmProven := false, tbmTest := false, mlg := false, mlc := false, mls := false, retry := [false, false, false] }

theorem Chip.tbmFail_tb {c : Chip} (hproven : c.tb.tbmProven = true) (hruns : c.tbmRuns = true) (cause : Nat) (err : Int) :
    (c.tbmFail cause err).tb = (((c.upTb Timebases.withoutTbm).forceSwitch 0).forceSwitch 1).tb := by
  unfold Chip.tbmFail
  simp only [hproven, hruns, Bool.and_self, if_true]
  split
  · simp only [Chip.causeNow_tb, Chip.tbEvent_tb, Chip.setBits_tb]
    rfl
  · simp only [Chip.radioGone_tb, Chip.mlgLost_tb, Chip.causeNow_tb, Chip.tbEvent_tb, Chip.setBits_tb]
    rfl

/-- TBM declared failed: every loop is lost, and the converter and SPI domains leave it. -/
theorem Chip.tbmFail_failed {c : Chip} (hproven : c.tb.tbmProven = true) (hruns : c.tbmRuns = true) (hlt : 1 < c.tb.domains.length) (cause : Nat)
    (err : Int) : (c.tbmFail cause err).tb.tbmFailed = true ∧ (c.tbmFail cause err).tb.tbmProven = false ∧ (c.tbmFail cause err).tb.mlg = false ∧
      (c.tbmFail cause err).tb.mlc = false ∧ (c.tbmFail cause err).tb.mls = false ∧
      (c.domSource 0 = 1 → ((c.tbmFail cause err).dom 0).switch = some { stage := .acknowledged, target := 0 }) ∧
      (c.domSource 1 = 1 → ((c.tbmFail cause err).dom 1).switch = some { stage := .acknowledged, target := 0 }) := by
  have htb := Chip.tbmFail_tb hproven hruns cause err
  have hsource (d : Nat) : (c.upTb Timebases.withoutTbm).domSource d = c.domSource d := rfl
  have hlen : 1 < (c.upTb Timebases.withoutTbm).tb.domains.length := hlt
  have hflags : (c.upTb Timebases.withoutTbm).tb = c.tb.withoutTbm := rfl
  rw [Chip.dom_of_tb htb, Chip.dom_of_tb htb, htb, ← hsource, ← hsource]
  generalize c.upTb Timebases.withoutTbm = c0 at *
  obtain ⟨ds0, hlen0, hds0⟩ := c0.forceSwitch_tb 0
  obtain ⟨ds1, -, hds1⟩ := (c0.forceSwitch 0).forceSwitch_tb 1
  have hlen1 : 1 < (c0.forceSwitch 0).tb.domains.length := by
    rw [hds0]
    exact hlen0 ▸ hlen
  have hend : (((c0.forceSwitch 0).forceSwitch 1).tb) = { c.tb.withoutTbm with domains := ds1 } := by rw [hds1, hds0, hflags]
  refine ⟨by rw [hend]; rfl, by rw [hend]; rfl, by rw [hend]; rfl, by rw [hend]; rfl, by rw [hend]; rfl, fun hsrc => ?_, fun hsrc => ?_⟩
  · rw [Chip.dom_forceSwitch_other (by decide)]
    exact Chip.dom_forceSwitch_self (Nat.lt_of_succ_lt hlen) hsrc
  · refine Chip.dom_forceSwitch_self hlen1 ?_
    rwa [Chip.domSource_dom, Chip.dom_forceSwitch_other (by decide)]

/-- A loop that locks is locked; the others stay as they are. -/
theorem Chip.loopLock_locks {c : Chip} (hproven : c.tb.tbmProven = true) (hok : c.tb.tbmFailed = false) (l : Nat) :
    (c.loopLock l).tb = { c.tb with mlg := c.tb.mlg || decide (l = 0), mlc := c.tb.mlc || decide (l = 1), mls := c.tb.mls || decide (l = 2),
                                    retry := c.tb.retry.set l false } := by
  simp [Chip.loopLock, hproven, hok]

/-- A loop of a fabric domain that unlocks takes its domain with it, and sets its fault bit. -/
theorem Chip.mlUnlock_lost {c : Chip} {l : Nat} (h : (l = 1 ∧ c.tb.mlc = true) ∨ (l = 2 ∧ c.tb.mls = true)) :
    (c.mlUnlock l).tb.mlc = (c.tb.mlc && decide (l ≠ 1)) ∧ (c.mlUnlock l).tb.mls = (c.tb.mls && decide (l ≠ 2)) ∧
      (c.mlUnlock l).reg 0x0401 = c.reg 0x0401 ||| wd (if l = 1 then 8 else 16) := by
  unfold Chip.mlUnlock
  rw [if_pos h]
  extract_lets c1
  obtain ⟨ds, -, hds⟩ := c1.forceSwitch_tb (l - 1)
  refine ⟨?_, ?_, ?_⟩
  · rw [Chip.setBits_tb, hds]
    rfl
  · rw [Chip.setBits_tb, hds]
    rfl
  · simp only [Chip.reg_setBits, if_true, Chip.reg_of_regs (c1.forceSwitch_regs (l - 1))]
    rfl

/-- Settles O19: by what each event makes of the timebases. -/
theorem timebasesAreProvenAndFail : Obligations.TimebasesAreProvenAndFail := by
  refine ⟨fun s hawake hok => ?tbkProven, fun s hawake hruns => ?tbmProven, fun s cause err hawake hproven hok hlt => ?tbkFail,
    fun s cause err hawake hproven hruns hlt => ?tbmFail, fun s l hawake hproven hok => ?locked, fun s hawake => ⟨fun hmlc => ?mlc, fun hmls => ?mls⟩,
    fun s hawake hmlg => ?mlg, fun s l hawake hretry hproven hok => ?retry⟩
  case tbkProven =>
    refine Gives.run (exec_tbkProven s) hawake ?_
    simp [hok]
  case tbmProven =>
    refine Gives.run (exec_tbmProven s) hawake ?_
    simp [hruns]
  case tbkFail => exact Gives.run (exec_tbkFail cause err s) hawake (Chip.tbkFail_failed hproven hok hlt cause err)
  case tbmFail => exact Gives.run (exec_tbmFail cause err s) hawake (Chip.tbmFail_failed hproven hruns hlt cause err)
  case locked =>
    refine Gives.run (exec_loopLocked l s) hawake ?_
    simp only [Chip.follow_tb, Chip.loopLock_locks hproven hok, Bool.or_eq_true, decide_eq_true_eq]
    exact ⟨Or.inr, Or.inr, Or.inr, Or.inl, Or.inl, Or.inl⟩
  case mlc =>
    refine Gives.run (exec_mlUnlock 1 s) hawake ?_
    obtain ⟨h1, h2, h3⟩ := Chip.mlUnlock_lost (l := 1) (Or.inl ⟨rfl, hmlc⟩)
    exact ⟨by simpa using h1, by simpa using h2, h3⟩
  case mls =>
    refine Gives.run (exec_mlUnlock 2 s) hawake ?_
    obtain ⟨h1, h2, h3⟩ := Chip.mlUnlock_lost (l := 2) (Or.inr ⟨rfl, hmls⟩)
    exact ⟨by simpa using h2, by simpa using h1, h3⟩
  case mlg =>
    refine Gives.run (exec_mlgUnlock s) hawake ?_
    simp only [hmlg, if_true, Chip.follow_tb, Chip.mlgLost_tb]
    exact ⟨rfl, rfl, rfl⟩
  case retry =>
    refine ⟨Gives.run (exec_loopLockRetry l true s) hawake ?_, Gives.run (exec_loopLockRetry l false s) hawake ?_⟩
    · have hl : l < s.chip.tb.retry.length := by
        by_contra hle
        simp [List.getD_eq_getElem?_getD, List.getElem?_eq_none (Nat.not_lt.mp hle)] at hretry
      simp only [hretry, Bool.and_self, if_true, Chip.follow_tb, Chip.loopLock_locks hproven hok, Bool.or_eq_true, decide_eq_true_eq]
      exact ⟨Or.inr, Or.inr, Or.inr, by simp [List.getD_eq_getElem?_getD, hl]⟩
    · simp

end Sys2Proof.Machine
end

section
/-! SUPPORT. Gates, captures and CKO, keeper time, the tamper loop and WAKE (04 R150-R199, 05 R208-R225, 08 R353, R362). -/

namespace Sys2Proof.Machine

/-! ### Gates, captures and CKO (04) -/

/-- Shadow words depend on the registers at their addresses alone. -/
theorem Chip.shadow_congr {c d : Chip} {a n : Nat} (h : ∀ i < n, c.reg (a + i) = d.reg (a + i)) : c.shadow a n = d.shadow a n := by
  refine List.map_congr_left fun i hi => ?_
  rw [h i (List.mem_range.mp hi)]

theorem exec_gateArm (s : State) : exec .gateArm s = s.runHost Chip.gateArm := rfl
theorem exec_tbSrcArm (s : State) : exec .tbSrcArm s = s.runHost Chip.tbSrcArm := rfl
theorem exec_tbCkoArm (s : State) : exec .tbCkoArm s = s.runHost Chip.tbCkoArm := rfl
theorem exec_ckoDivApply (s : State) : exec .ckoDivApply s = execCkoDivApply s := rfl
theorem exec_powerStateChange (busy : Bool) (s : State) : exec (.powerStateChange busy) s = execPowerStateChange busy s := rfl
theorem exec_captureComplete (p : Nat) (v : Word) (s : State) : exec (.captureComplete p v) s = execCaptureComplete p v s := rfl
theorem exec_captureStale (p : Nat) (s : State) : exec (.captureStale p) s = execCaptureStale p s := rfl
theorem exec_tbSpeedUpdate (v : Nat) (s : State) : exec (.tbSpeedUpdate v) s = execTbSpeedUpdate v s := rfl

theorem Chip.gateArm_run {c : Chip} (h : c.gateCheck.1 = 0) : c.gateArm.run = (c.applyWords (c.shadow 0x0410 3)).run := by
  have hshadow : (((c.armLast 0x0413 c.gateCheck.1).setFld 0x0414 3 0 c.gateCheck.1).setFld 0x0414 12 8 c.gateCheck.2).shadow 0x0410 3 =
      c.shadow 0x0410 3 := by
    refine Chip.shadow_congr fun i hi => ?_
    rw [Chip.reg_setFld, if_neg (by omega), Chip.reg_setFld, if_neg (by omega), Chip.reg_armLast, if_neg (by omega)]
  unfold Chip.gateArm
  rw [if_pos h, hshadow]
  rfl

theorem Chip.gateArm_refused {c : Chip} (h : c.gateCheck.1 ≠ 0) :
    c.gateArm.run = c.run ∧ c.gateArm.reg 0x0414 = putFld (putFld (c.reg 0x0414) 3 0 c.gateCheck.1) 12 8 c.gateCheck.2 := by
  unfold Chip.gateArm
  rw [if_neg h]
  refine ⟨rfl, ?_⟩
  rw [Chip.reg_setFld, if_pos rfl, Chip.reg_setFld, if_pos rfl, Chip.reg_armLast, if_neg (by decide)]

/-- An ARM of TB_CKO whose checks pass: the set runs, EN is taken at once, and the divisor where CKO was off. -/
theorem Chip.tbCkoArm_accepted {c : Chip} (hsrc : c.rf 0x0403 18 16 ≠ 7)
    (hrate : ckoHz (c.rf 0x0403 18 16) ≤ 50000000 * ckoDivisor (c.rf 0x0403 15 0)) :
    c.tbCkoArm.tb.ckoEn = bit (c.reg 0x0403) 19 ∧ c.tbCkoArm.run = (c.applyWords (c.shadow 0x0403 1)).run ∧
      (c.tb.ckoEn = true → c.tbCkoArm.tb.ckoDiv = c.tb.ckoDiv) ∧ (c.tb.ckoEn = false → c.tbCkoArm.tb.ckoDiv = c.rf 0x0403 15 0) := by
  have hsrc' : fld (c.reg 0x0403) 18 16 ≠ 7 := hsrc
  have hrate' : ¬ 50000000 * ckoDivisor (fld (c.reg 0x0403) 15 0) < ckoHz (fld (c.reg 0x0403) 18 16) := Nat.not_lt.mpr hrate
  have hshadow : ((c.armLast 0x0403 0).setFld 0x0406 7 4 0).shadow 0x0403 1 = c.shadow 0x0403 1 := by
    refine Chip.shadow_congr fun i hi => ?_
    rw [Chip.reg_setFld, if_neg (by omega), Chip.reg_armLast, if_neg (by omega)]
  unfold Chip.tbCkoArm
  simp only [hsrc', if_false, hrate', ne_eq, not_true_eq_false, hshadow]
  cases hen : c.tb.ckoEn with
  | true =>
    rw [if_pos rfl]
    exact ⟨rfl, rfl, fun _ => rfl, fun hoff => by cases hoff⟩
  | false =>
    rw [if_neg Bool.false_ne_true]
    exact ⟨rfl, rfl, (fun hon => by cases hon), fun _ => rfl⟩

theorem Chip.ports_upPort (c : Chip) (p : Nat) (f : CapturePort → CapturePort) : (c.upPort p f).tb.ports[p]? = (c.tb.ports[p]?).map f := by
  simp [Chip.upPort]

/-- Settles O20: by the checks of the three ARMs and the change each event makes. -/
theorem gatesCapturesAndCkoFollowTheirRules : Obligations.GatesCapturesAndCkoFollowTheirRules := by
  refine ⟨fun s hawake hopen hok => ?gates, fun s hawake hopen hbad => ?gatesRefused, fun s hawake hopen => ?source,
    fun s hawake hopen hsrc hrate => ?cko, fun s hawake => ?divisor, fun s busy hawake => ?power, fun s p v hawake hp hlt => ?capture,
    fun s p hawake hp => ?stale, fun s v hawake hbusy => ?speed⟩
  case gates => exact Gives.host (exec_gateArm s) hawake hopen (Chip.gateArm_run hok)
  case gatesRefused => exact Gives.host (exec_gateArm s) hawake hopen (Chip.gateArm_refused hbad)
  case source => exact Gives.host (exec_tbSrcArm s) hawake hopen rfl
  case cko => exact Gives.host (exec_tbCkoArm s) hawake hopen (Chip.tbCkoArm_accepted hsrc hrate)
  case divisor => exact Gives.run (exec_ckoDivApply s) hawake rfl
  case power =>
    refine Gives.run (exec_powerStateChange busy s) hawake ?_
    simp only [Chip.follow_tb, Chip.upTb_tb]
    refine ⟨fun hb => ?_, fun hb hon => ?_, fun hb hoff => ?_⟩
    · rw [if_pos hb]
    · rw [if_neg (by simp [hb]), if_pos hon]
    · rw [if_neg (by simp [hb]), if_neg (by simp [hoff])]
  case capture =>
    refine Gives.run (exec_captureComplete p v s) hawake ?_
    refine ⟨fun hpass => ?_, fun hblocked => ?_⟩
    · rw [if_pos ⟨hp, hpass⟩, Chip.follow_tb, Chip.ports_upPort, List.getElem?_eq_getElem hlt, Option.map_some]
    · rw [if_neg (by simp [hblocked]), Chip.follow_tb, Chip.ports_upPort]
  case stale =>
    refine Gives.run (exec_captureStale p s) hawake ?_
    rw [if_pos hp, Chip.follow_tb, Chip.setBits_tb, Chip.ports_upPort]
    exact ⟨rfl, by rw [Chip.reg_of_regs (Chip.follow_regs _ _), Chip.reg_setBits, if_pos rfl]; rfl⟩
  case speed =>
    refine Gives.run (exec_tbSpeedUpdate v s) hawake ?_
    rw [if_pos hbusy, Chip.reg_of_regs (Chip.follow_regs _ _), Chip.reg_setFld, if_pos rfl]

/-! ### Keeper time (05 R208-R220, 08 R353) -/

theorem exec_leapInsert (s : State) : exec .leapInsert s = execLeapInsert s := rfl
theorem exec_leapDelete (s : State) : exec .leapDelete s = execLeapDelete s := rfl
theorem exec_calendarArm (s : State) : exec .calendarArm s = s.runHost Chip.calendarArm := rfl
theorem exec_calendarApply (s : State) : exec .calendarApply s = execCalendarApply s := rfl
theorem exec_keepDiscArm (s : State) : exec .keepDiscArm s = s.runHost Chip.keepDiscArm := rfl
theorem exec_calendarHourChange (day : Bool) (s : State) : exec (.calendarHourChange day) s = execCalendarHourChange day s := rfl

theorem Chip.postSignal_keeper (c : Chip) (origin sig : Nat) : (c.postSignal origin sig).keeper = c.keeper :=
  Chip.keeper_of_hide (Chip.hide_postSignal c origin sig (ps := others .keeper) (by decide)) (by decide)
theorem Chip.postSignal_regs (c : Chip) (origin sig : Nat) : (c.postSignal origin sig).regs = c.regs :=
  Chip.regs_of_hide (Chip.hide_postSignal c origin sig (ps := others .regs) (by decide)) (by decide)

/-- Setting the time steps the keeper domain; the record and the signal that go with it leave it alone. -/
theorem Chip.setTime_keeper (c : Chip) (sec sub src : Nat) : (c.setTime sec sub src).keeper = c.keeper.step sec sub src := by
  unfold Chip.setTime
  extract_lets old was c1
  have h1 : c1.keeper = c.keeper.step sec sub src :=
    Chip.keeper_of_hide (Chip.hide_timeSetRecord { c with keeper := c.keeper.step sec sub src } old src (ps := others .keeper) (by decide)) (by decide)
  split
  · exact h1
  · rw [Chip.postSignal_keeper, h1]

/-- What a step to a time leaves: the time, valid, from its source. -/
theorem Keeper.step_time (k : Keeper) (sec sub src : Nat) : (k.step sec sub src).calPending = k.calPending ∧
    (k.step sec sub src).sec = BitVec.ofNat 33 sec ∧ (k.step sec sub src).sub = BitVec.ofNat 15 sub ∧ (k.step sec sub src).valid = true ∧
    (k.step sec sub src).tsrc = src ∧ (k.step sec sub src).slew = 0 := by
  unfold Keeper.step
  extract_lets e k1
  have h1 : k1.calPending = k.calPending := by
    unfold k1
    split <;> rfl
  exact ⟨h1, rfl, rfl, rfl, rfl, rfl⟩

/-- The result code of an ARM that its check gives. -/
theorem Chip.rf_setFld_self (c : Chip) (a hi lo v : Nat) (h : lo ≤ hi) (hh : hi < 32) : (c.setFld a hi lo v).rf a hi lo = v % 2 ^ (hi - lo + 1) := by
  rw [Chip.rf, Chip.reg_setFld, if_pos rfl, fld_putFld _ _ _ _ h hh]

theorem Chip.calendarArm_accepted {c : Chip} (h : calendarBad (c.rf 0x4008 31 16) (c.rf 0x4008 15 8) (c.rf 0x4008 7 0) (c.rf 0x4009 23 16)
    (c.rf 0x4009 15 8) (c.rf 0x4009 7 0) c.keeper.leap = false) :
    c.calendarArm = ((c.armLast 0x400A 0).setFld 0x400A 3 0 0).upKeeper (fun k => { k with calPending := some (civilSec (c.rf 0x4008 31 16)
      (c.rf 0x4008 15 8) (c.rf 0x4008 7 0) (c.rf 0x4009 23 16) (c.rf 0x4009 15 8) (c.rf 0x4009 7 0)) }) :=
  if_neg (by rw [Bool.not_eq_true]; exact h)

theorem Chip.calendarArm_refused {c : Chip} (h : calendarBad (c.rf 0x4008 31 16) (c.rf 0x4008 15 8) (c.rf 0x4008 7 0) (c.rf 0x4009 23 16)
    (c.rf 0x4009 15 8) (c.rf 0x4009 7 0) c.keeper.leap = true) :
    c.calendarArm = ((c.armLast 0x400A 2).setFld 0x400A 3 0 2).setBits 0x4000 16 := if_pos h

/-- Settles O21: by the step of the keeper domain, the check of the calendar set and what the discipline's ARM holds. -/
theorem keeperTimeFollowsItsRules : Obligations.KeeperTimeFollowsItsRules := by
  refine ⟨fun s hawake hpending hinsert hdue => ?insert, fun s hawake hpending hdelete hdue => ?delete,
    fun s y mo d h mi sec hawake hopen hy hmo hd hh hmi hsec => ?calendar, fun s u hawake hpending => ?applied, fun s hawake hopen => ?disc,
    fun s day hawake hvalid => ?hour⟩
  case insert =>
    refine Gives.run (exec_leapInsert s) hawake ?_
    simp [hpending, hinsert, hdue, Keeper.applyLeap]
  case delete =>
    refine Gives.run (exec_leapDelete s) hawake ?_
    simp [hpending, hdelete, hdue, Keeper.applyLeap]
  case calendar =>
    subst hy hmo hd hh hmi hsec
    refine ⟨fun hok => Gives.host (exec_calendarArm s) hawake hopen ?_, fun hbad => Gives.host (exec_calendarArm s) hawake hopen ?_⟩
    · rw [Chip.calendarArm_accepted hok]
      exact ⟨rfl, Chip.rf_setFld_self _ 0x400A 3 0 0 (by decide) (by decide)⟩
    · rw [Chip.calendarArm_refused hbad]
      refine ⟨rfl, ?_, ?_⟩
      · rw [Chip.rf, Chip.reg_of_regs (Chip.follow_regs _ _), Chip.reg_setBits, if_neg (by decide)]
        exact Chip.rf_setFld_self _ 0x400A 3 0 2 (by decide) (by decide)
      · rw [Chip.reg_of_regs (Chip.follow_regs _ _), Chip.reg_setBits, if_pos rfl, Chip.reg_setFld, if_neg (by decide), Chip.reg_armLast,
          if_neg (by decide)]
  case applied =>
    refine Gives.run (exec_calendarApply s) hawake ?_
    rw [hpending]
    dsimp only
    rw [Chip.follow_keeper, Chip.setTime_keeper]
    obtain ⟨hcal, hsec, hsub, hvalid, hsrc, hslew⟩ := Keeper.step_time { s.chip.keeper with calPending := none } ((u : Int) + s.chip.keeper.leap).toNat 0 1
    exact ⟨hcal, hsec, hsub, hvalid, hsrc, hslew⟩
  case disc =>
    refine Gives.host (exec_keepDiscArm s) hawake hopen ?_
    rw [Chip.follow_keeper]
    unfold Chip.keepDiscArm
    extract_lets w en c1 k
    refine ⟨?_, ?_, fun hoff => ?_⟩
    · dsimp only
      split <;> rfl
    · dsimp only
      split <;> rfl
    · have hen : en = false := hoff
      simp [hen]
  case hour =>
    refine Gives.run (exec_calendarHourChange day s) hawake ?_
    simp only [hvalid, if_true]
    cases day with
    | false => exact ⟨Chip.postSignal_keeper _ _ _, fun _ => rfl, fun hday => by cases hday⟩
    | true => exact ⟨by rw [Chip.follow_keeper, if_pos rfl, Chip.postSignal_keeper, Chip.postSignal_keeper], (fun hday => by cases hday), fun _ => rfl⟩

/-! ### The tamper loop, WAKE and keeper events (05 R221-R225, 08 R362) -/

theorem exec_keepLoopArm (s : State) : exec .keepLoopArm s = s.runHost Chip.keepLoopArm := rfl
theorem exec_loopSample (ohms : Nat) (mv : Int) (s : State) : exec (.loopSample ohms mv) s = s.run (fun c => c.loopSample ohms mv) := rfl
theorem exec_wakeRose (level : Bool) (s : State) : exec (.wakeRose level) s = s.run (fun c => c.wakeRose level) := rfl
theorem exec_retentionLost (s : State) : exec .retentionLost s = execRetentionLost s := rfl
theorem exec_keeperEventPost (s : State) : exec .keeperEventPost s = s.run Chip.postKeeper := rfl

theorem Chip.tamperRecord_keeper (c : Chip) (new old : Nat) : (c.tamperRecord new old).keeper = c.keeper :=
  Chip.keeper_of_hide (Chip.hide_tamperRecord c new old (ps := others .keeper) (by decide)) (by decide)
theorem Chip.tamperRecord_regs (c : Chip) (new old : Nat) : (c.tamperRecord new old).regs = c.regs :=
  Chip.regs_of_hide (Chip.hide_tamperRecord c new old (ps := others .regs) (by decide)) (by decide)
theorem Chip.keeperEvent_regs (c : Chip) (source origin code arg : Nat) : (c.keeperEvent source origin code arg).regs = c.regs :=
  Chip.regs_of_hide (Chip.hide_keeperEvent c source origin code arg (ps := others .regs) (by decide)) (by decide)

/-- An event of a source adds to the pending ones; nothing else of the keeper domain changes. -/
theorem Chip.keeperEvent_keeper (c : Chip) (source origin code arg : Nat) : ∃ ps : List KeeperPending,
    (c.keeperEvent source origin code arg).keeper = { c.keeper with pending := ps } ∧ ps.any (fun p => p.source == source) = true := by
  unfold Chip.keeperEvent
  split
  · next h => exact ⟨c.keeper.pending, rfl, h⟩
  · exact ⟨_, rfl, by simp⟩

/-- A loop class measured twice in a row becomes the loop's class. -/
theorem Chip.loopSample_changes {c : Chip} {ohms : Nat} {mv : Int} {cls : LoopClass} (hon : c.keeper.loopMode ≠ 0)
    (hcls : cls = loopClass (decide (c.keeper.loopMode = 2)) ohms mv) (hlast : c.keeper.loopLast = some cls) (hnew : c.keeper.loop ≠ some cls) :
    (c.loopSample ohms mv).keeper.loop = some cls ∧ (c.loopSample ohms mv).keeper.loopChanges = c.keeper.loopChanges + 1 ∧
      (c.loopSample ohms mv).reg 0x4001 = c.reg 0x4001 ||| wd 2 := by
  unfold Chip.loopSample
  rw [if_neg hon]
  extract_lets cls' prev old k c1 k1 c2 c3
  have hcls' : cls' = cls := hcls.symm
  obtain ⟨ps, hk, -⟩ := c3.keeperEvent_keeper 0x0700 0x02 (0x0700 + loopCode cls') 0
  rw [if_pos (by rw [hcls']; exact ⟨hlast, hnew⟩), Chip.postSignal_keeper, hk, Chip.tamperRecord_keeper]
  refine ⟨congrArg some hcls', rfl, ?_⟩
  rw [Chip.reg_of_regs (Chip.postSignal_regs _ _ _), Chip.reg_of_regs (Chip.keeperEvent_regs _ _ _ _ _),
    Chip.reg_of_regs (Chip.tamperRecord_regs _ _ _), Chip.reg_setBits, if_pos rfl]
  rfl

/-- WAKE takes the level of the comparator, sets its bit and raises its keeper event. -/
theorem Chip.wakeRose_seen (c : Chip) (level : Bool) : (c.wakeRose level).keeper.wake = level ∧
    (c.wakeRose level).reg 0x4001 = c.reg 0x4001 ||| wd 1 ∧ (c.wakeRose level).keeper.pending.any (fun p => p.source == 0x0800) = true := by
  unfold Chip.wakeRose
  extract_lets k c1 c2
  obtain ⟨ps, hk, hany⟩ := c1.keeperEvent_keeper 0x0800 0x02 0x0800 0
  have hwake : c2.keeper.wake = level := by rw [hk]; rfl
  have hpending : c2.keeper.pending.any (fun p => p.source == 0x0800) = true := by rw [hk]; exact hany
  have hreg : c2.reg 0x4001 = c.reg 0x4001 ||| wd 1 := by
    rw [Chip.reg_of_regs (Chip.keeperEvent_regs c1 _ _ _ _), Chip.reg_setBits, if_pos rfl]
    rfl
  split
  · exact ⟨hwake, hreg, hpending⟩
  · rw [Chip.postSignal_keeper, Chip.reg_of_regs (Chip.postSignal_regs _ _ _)]
    exact ⟨hwake, hreg, hpending⟩

/-- Settles O22: by the loop's ARM and samples, WAKE and the pending keeper events. -/
theorem tamperLoopAndWakeAreSeen : Obligations.TamperLoopAndWakeAreSeen := by
  refine ⟨fun s m hawake hopen hm => ⟨fun hok => ?armed, fun hbad => ?refused⟩,
    fun s ohms mv cls hawake hon hcls => ⟨fun hlast hnew => ?changes, fun hfirst => ?first⟩, fun s level hawake => ?wake,
    fun s hoff hpowered => ?retention, fun s p rest hawake hsweeping hpending => ?posted⟩
  case armed =>
    refine Gives.host (exec_keepLoopArm s) hawake hopen ?_
    have hm' : fld (s.chip.reg 0x4020) 1 0 = m := hm.symm
    unfold Chip.keepLoopArm
    extract_lets w m' old was c1 k1 c2 k2 c3
    have hm2 : m' = m := hm'
    rw [hm2, if_neg hok, Chip.follow_keeper]
    have h3 : c3.keeper = { c2.keeper with loop := none, loopLast := none } := Chip.tamperRecord_keeper _ _ _
    split
    · have hend : (if old.isSome then c3.postSignal 0x02 0x0A else c3).keeper = c3.keeper := by
        split
        · exact Chip.postSignal_keeper _ _ _
        · rfl
      rw [hend, h3]
      exact ⟨hm2, rfl, fun _ _ => rfl⟩
    · next h => exact ⟨hm2, rfl, fun h0 hwas => absurd ⟨h0, hwas⟩ h⟩
  case refused =>
    refine Gives.host (exec_keepLoopArm s) hawake hopen ?_
    have hm' : fld (s.chip.reg 0x4020) 1 0 = 3 := by rw [← hbad, hm]; rfl
    unfold Chip.keepLoopArm
    dsimp only
    rw [if_pos hm']
    rfl
  case changes => exact Gives.run (exec_loopSample ohms mv s) hawake (Chip.loopSample_changes hon hcls hlast hnew)
  case first =>
    refine Gives.run (exec_loopSample ohms mv s) hawake ?_
    simp [Chip.loopSample, hon, ← hcls, hfirst]
  case wake => exact Gives.run (exec_wakeRose level s) hawake (s.chip.wakeRose_seen level)
  case retention =>
    refine Gives.power (exec_retentionLost s) ?_
    simp [hoff, hpowered]
  case posted =>
    refine Gives.run (exec_keeperEventPost s) hawake ?_
    have hpost : s.chip.postKeeper = (s.chip.upKeeper (fun k => { k with pending := rest })).post2 p.origin 1 p.code p.arg.toNat := by
      rw [Chip.postKeeper, if_pos hsweeping, hpending]
    rw [hpost, Chip.follow_keeper, Chip.follow_rings]
    refine ⟨?_, rfl⟩
    rw [Chip.post2, Chip.noRings_keeper (Chip.noRings_produce _ _ _ _)]
    rfl

end Sys2Proof.Machine
end

section
/-! SUPPORT. Commits, journal records and hour meters (05 R232-R238, 07 R310, 08 R379). -/

namespace Sys2Proof.Machine

/-! ### Commits and records (05 R232-R238, 07 R310) -/

/-- What follows a commit leaves MRAM alone, but for the update-state record and the burnish. -/
theorem Chip.committed_mram (c : Chip) {st : Nat} (h2 : st ≠ 2) (h4 : st ≠ 4) : (c.committed st).mram = c.mram := by
  unfold Chip.committed
  rw [if_neg h2]
  split
  · split
    · exact Chip.mram_of_hide (Chip.hide_saveRes c 0 (ps := others .mram) (by decide)) (by decide)
    · rfl
  · split <;> rfl

theorem Chip.bankCommit_mram {c : Chip} {st fmt : Nat} {body : List Byte} {rest : List (Nat × Nat × List Byte)}
    (hnext : c.mram.commits = (st, fmt, body) :: rest) (hfmt : fmt ≠ clearFormat) (h2 : st ≠ 2) (h4 : st ≠ 4) :
    c.bankCommit.mram = Mram.commit { c.mram with commits := rest } st fmt body := by
  unfold Chip.bankCommit
  rw [hnext]
  dsimp only
  rw [if_neg hfmt, Chip.committed_mram _ h2 h4]
  rfl

/-- A record noted with no theft open changes at most the keeper domain. -/
theorem Chip.theftNote_disarmed {c : Chip} (h : c.keeper.theft = .disarmed) (type : Nat) :
    (c.theftNote type).mram = c.mram ∧ (c.theftNote type).rings = c.rings := by
  unfold Chip.theftNote
  extract_lets now noted
  split
  · exact ⟨rfl, rfl⟩
  · rw [if_neg (by simp [h])]
    exact ⟨rfl, rfl⟩

/-- The oldest ring-1 entry, where a record may be written, becomes one. -/
theorem Chip.journalWrite_written {c : Chip} (hfill : (c.ring 1).fill ≠ 0)
    (hmay : c.mayRecord (bit (ew (c.entryAt ((c.ring 1).slot (c.ring 1).tail)) 6) 0) = true) (htheft : c.keeper.theft = .disarmed) :
    c.journalWrite.mram = (c.recordWords (c.entryAt ((c.ring 1).slot (c.ring 1).tail))).mram ∧
      (c.journalWrite.ring 1).tail = (c.ring 1).tail + 1 ∧ c.journalWrite.rings.eventWritten = false := by
  have hlt : 1 < c.rings.rings.length := c.ring_lt 1 (fun h => hfill (by rw [h]; rfl))
  unfold Chip.journalWrite
  extract_lets r e c0 rs c1
  have hmay1 : c1.mayRecord (bit (ew e 6) 0) = true := hmay
  have htail : (c1.ring 1).tail = (c.ring 1).tail + 1 := by
    have h1 : c1.ring 1 = c0.ring 1 := rfl
    rw [h1, Chip.ring_upRing_self _ _ _ hlt]
  have hnote := Chip.theftNote_disarmed (c := c1.recordWords e) htheft (fld (ew e 1) 31 24)
  rw [if_neg hfill, if_pos hmay1, Chip.ring_of hnote.2, hnote.1, hnote.2]
  exact ⟨rfl, htail, rfl⟩

/-- The ring-0 entry next in the journal, where a record may be written, becomes one. -/
theorem Chip.journalEvent_written {c : Chip} {p : BitVec 16} (hturn : c.rings.eventWritten = false ∨ (c.ring 1).fill = 0)
    (hfrom : c.journalFrom 64 c.rings.obsMram.index = some p)
    (hmay : c.mayRecord (decide (entryClass (c.entryAt ((c.ring 0).slot p)) = 1)) = true) (htheft : c.keeper.theft = .disarmed) :
    c.journalEvent.mram = (c.recordWords (eventRecord (c.entryAt ((c.ring 0).slot p)))).mram ∧
      c.journalEvent.rings.obsMram.index = p + 1 ∧ c.journalEvent.rings.eventWritten = true := by
  have hgo : ¬ (c.rings.eventWritten && decide ((c.ring 1).fill ≠ 0)) = true := by
    rcases hturn with h | h <;> simp [h]
  unfold Chip.journalEvent
  rw [if_neg hgo]
  split
  · next hnone => cases hfrom.symm.trans hnone
  · next q hsome =>
    obtain rfl : p = q := Option.some.inj (hfrom.symm.trans hsome)
    extract_lets e rs c1
    have hmay1 : c1.mayRecord (decide (entryClass e = 1)) = true := hmay
    have hnote := Chip.theftNote_disarmed (c := c1.recordWords (eventRecord e)) htheft 5
    rw [if_pos hmay1, hnote.1, hnote.2]
    exact ⟨rfl, rfl, rfl⟩

theorem exec_twoBankCommit (s : State) : exec .twoBankCommit s = s.run Chip.bankCommit := rfl
theorem exec_journalRecordWrite (s : State) : exec .journalRecordWrite s = s.run Chip.journalWrite := rfl
theorem exec_journalEventRecord (s : State) : exec .journalEventRecord s = s.run Chip.journalEvent := rfl
theorem exec_hourCommit (m : Nat) (s : State) : exec (.hourCommit m) s = execHourCommit m s := rfl
theorem exec_meterMark (m : Nat) (s : State) : exec (.meterMark m) s = execMeterMark m s := rfl
theorem exec_meterCeiling (m : Nat) (s : State) : exec (.meterCeiling m) s = execMeterCeiling m s := rfl

/-! ### Hour meters (08 R379) -/

/-- A meter that is not as a cleared one is one of the keeper domain's. -/
theorem Chip.meter_lt {c : Chip} {m : Nat} (h : c.meter m ≠ {}) : m < c.keeper.meters.length := by
  by_contra hm
  exact h (by simp [Chip.meter, List.getD_eq_getElem?_getD, List.getElem?_eq_none (Nat.not_lt.mp hm)])

theorem Chip.meter_upMeter_self {c : Chip} {m : Nat} (h : m < c.keeper.meters.length) (f : Meter → Meter) : (c.upMeter m f).meter m = f (c.meter m) := by
  simp [Chip.meter, Chip.upMeter, List.getD_eq_getElem?_getD, h]

theorem Chip.meter_of_meters {c d : Chip} (h : c.keeper.meters = d.keeper.meters) (m : Nat) : c.meter m = d.meter m := by
  unfold Chip.meter
  rw [h]

/-- The commit of a meter notes the count committed; the record goes to the journal or waits. -/
theorem Chip.meter_commitHour {c : Chip} {m : Nat} (h : m < c.keeper.meters.length) :
    (c.commitHour m).meter m = { c.meter m with committed := (c.meter m).count, commitDue := false } := by
  unfold Chip.commitHour
  extract_lets x w1 c1
  rw [← Chip.meter_upMeter_self h (fun x => { x with committed := x.count, commitDue := false })]
  split
  · rfl
  · exact Chip.meter_of_meters (congrArg Keeper.meters
      (Chip.keeper_of_hide (Chip.hide_journal c1 0x02 0x01 w1 0 false (ps := others .keeper) (by decide)) (by decide))) m

/-- An event raised leaves the meters. -/
theorem Chip.meter_keeperEvent (c : Chip) (source origin code arg m : Nat) : (c.keeperEvent source origin code arg).meter m = c.meter m := by
  obtain ⟨ps, hk, -⟩ := c.keeperEvent_keeper source origin code arg
  exact Chip.meter_of_meters (by rw [hk]) m

theorem Chip.keeperEvent_pending (c : Chip) (source origin code arg : Nat) :
    (c.keeperEvent source origin code arg).keeper.pending.any (fun p => p.source == source) = true := by
  obtain ⟨ps, hk, hany⟩ := c.keeperEvent_keeper source origin code arg
  rw [hk]
  exact hany

theorem Chip.meter_follow (c w : Chip) (m : Nat) : (c.follow w).meter m = c.meter m := rfl

/-- Settles O23: by what each commit, record and meter event writes. -/
theorem commitsRecordsAndMetersAreWritten : Obligations.CommitsRecordsAndMetersAreWritten := by
  refine ⟨fun s st fmt body rest hawake hnext hfmt h2 h4 => ?commit, fun s hawake hfill hmay htheft => ?record,
    fun s p hawake hturn hfrom hmay htheft => ?event, fun s m hawake hm hdue => ?hour, fun s m hawake hm hmark hfirst hreached => ?mark,
    fun s m hawake hm hrunning hreached => ?ceiling⟩
  case commit => exact Gives.run (exec_twoBankCommit s) hawake (Chip.bankCommit_mram hnext hfmt h2 h4)
  case record => exact Gives.run (exec_journalRecordWrite s) hawake (Chip.journalWrite_written hfill hmay htheft)
  case event => exact Gives.run (exec_journalEventRecord s) hawake (Chip.journalEvent_written hturn hfrom hmay htheft)
  case hour =>
    have hlt : m < s.chip.keeper.meters.length := Chip.meter_lt (fun h => by simp [h] at hdue)
    refine Gives.run (exec_hourCommit m s) hawake ?_
    dsimp only
    rw [if_pos (by simpa [hm] using hdue)]
    rw [Chip.meter_follow, Chip.meter_commitHour hlt]
    exact ⟨rfl, rfl, rfl⟩
  case mark =>
    have hlt : m < s.chip.keeper.meters.length := Chip.meter_lt (fun h => by rw [h] at hreached; exact absurd hreached (by simp only [Nat.not_le]; omega))
    refine Gives.run (exec_meterMark m s) hawake ?_
    dsimp only
    rw [if_pos (by rw [decide_eq_true hm, decide_eq_true hmark, decide_eq_true hreached, hfirst]; rfl)]
    rw [Chip.meter_follow, Chip.follow_keeper, Chip.meter_keeperEvent, Chip.meter_upMeter_self hlt]
    exact ⟨rfl, rfl, Chip.keeperEvent_pending _ _ _ _ _⟩
  case ceiling =>
    have hlt : m < s.chip.keeper.meters.length := Chip.meter_lt (fun h => by simp [h] at hrunning)
    have hlt1 : m < (s.chip.upMeter m (fun x => { x with running := false, count := meterCeil })).keeper.meters.length := by
      simpa [Chip.upMeter] using hlt
    refine Gives.run (exec_meterCeiling m s) hawake ?_
    dsimp only
    rw [if_pos (by simp [hm, hrunning, hreached])]
    rw [Chip.meter_follow, Chip.follow_keeper, Chip.meter_keeperEvent, Chip.meter_commitHour hlt1, Chip.meter_upMeter_self hlt]
    exact ⟨rfl, rfl, rfl, Chip.keeperEvent_pending _ _ _ _ _⟩

end Sys2Proof.Machine
end

section
/-! SUPPORT. Rings: what waits and what is held, descriptors, the arbiter and the consumers of rings 0 and 4 (07, 03 R371). -/

namespace Sys2Proof.Machine

/-! ### What waits and what is held (07 R298, R299, R324-R327) -/

/-- An entry that waited and is now taken advances HEAD. -/
theorem Chip.ring_taken {c : Chip} {n : Nat} (hn : n ≠ 0) (hlt : n < c.rings.rings.length) (e : Entry) (a : Answer) :
    (((c.pushEntry n e).observe).answer a).ring n = (c.ring n).pushed := by
  rw [Chip.ring_answer, Chip.observe_ring _ _ hn, Chip.ring_pushEntry_self _ _ _ hlt]

theorem Ring.fullFor_plain {r : Ring} {n : Nat} (hn : n ≠ 0) (e : Entry) : r.fullFor n e = r.full := if_neg (fun h => hn h.1)

theorem exec_ringProduceResume (n : Nat) (s : State) : exec (.ringProduceResume n) s = execRingProduceResume n s := rfl
theorem exec_holdingBufferDrain (n : Nat) (s : State) : exec (.holdingBufferDrain n) s = execHoldingBufferDrain n s := rfl
theorem exec_lossyConversion (n : Nat) (s : State) : exec (.lossyConversion n) s = execLossyConversion n s := rfl

/-- The entry held longest for a LOSSLESS ring with room is taken. -/
theorem Chip.ring_drain {c : Chip} {n a : Nat} {e : Entry} {rest : List (Nat × Entry)} (hn : n ≠ 0) (hclass : (c.ring n).active = .lossless)
    (hroom : (c.ring n).full = false) (hheld : (c.ring n).held = (a, e) :: rest) :
    (c.drain n).ring n = ({ c.ring n with held := rest } : Ring).pushed := by
  have hlt : n < c.rings.rings.length := c.ring_lt n (fun h => by simp [h] at hheld)
  have hring : (c.upRing n (fun r => { r with held := rest })).ring n = { c.ring n with held := rest } := c.ring_upRing_self n _ hlt
  have hfull : ((c.upRing n (fun r => { r with held := rest })).ring n).fullFor n e = false := by
    rw [Ring.fullFor_plain hn, hring]
    exact hroom
  have hactive : ((c.upRing n (fun r => { r with held := rest })).ring n).active = .lossless := by rw [hring]; exact hclass
  unfold Chip.drain
  split
  · next hnone => simp [hheld] at hnone
  · next a' e' rest' hsome =>
    obtain ⟨⟨rfl, rfl⟩, rfl⟩ : (a = a' ∧ e = e') ∧ rest = rest' := by simpa using hheld.symm.trans hsome
    dsimp only
    rw [if_pos hactive, hfull, if_neg Bool.false_ne_true, Chip.ring_taken hn (by rwa [Chip.len_upRing]), hring]

/-- The entry that waited longest for a LOSSLESS ring with room is taken. -/
theorem ring_resumed {s : State} {n a : Nat} {e : Entry} {rest : List (Nat × Entry)} (hawake : s.chip.awake = true) (hn : n ≠ 0)
    (hclass : (s.chip.ring n).active = .lossless) (hroom : (s.chip.ring n).full = false) (hwaiting : (s.chip.ring n).waiting = (a, e) :: rest) :
    Gives (.ringProduceResume n) s (fun c => c.ring n = ({ s.chip.ring n with copying := false, waiting := rest } : Ring).pushed) := by
  have hlt : n < s.chip.rings.rings.length := s.chip.ring_lt n (fun h => by simp [h] at hwaiting)
  have hend := s.chip.ring_endCopy n hlt
  have hwaiting' : ((s.chip.endCopy n).ring n).waiting = (a, e) :: rest := by rw [hend]; exact hwaiting
  have hring : ((s.chip.endCopy n).upRing n (fun r => { r with waiting := rest })).ring n = { s.chip.ring n with copying := false, waiting := rest } := by
    rw [Chip.ring_upRing_self _ _ _ (by rwa [Chip.len_endCopy]), hend]
  have hfull : (((s.chip.endCopy n).upRing n (fun r => { r with waiting := rest })).ring n).fullFor n e = false := by
    rw [Ring.fullFor_plain hn, hring]
    exact hroom
  have hactive : (((s.chip.endCopy n).upRing n (fun r => { r with waiting := rest })).ring n).active = .lossless := by rw [hring]; exact hclass
  refine Gives.run (exec_ringProduceResume n s) hawake ?_
  dsimp only
  split
  · next hnone => simp [hwaiting'] at hnone
  · next a' e' rest' hsome =>
    obtain ⟨⟨rfl, rfl⟩, rfl⟩ : (a = a' ∧ e = e') ∧ rest = rest' := by simpa using hwaiting'.symm.trans hsome
    rw [if_pos hactive, hfull, if_neg Bool.false_ne_true, Chip.ring_follow, Chip.ring_taken hn (by rwa [Chip.len_upRing, Chip.len_endCopy]), hring]

/-- An epoch held for ring 18 that does not fit is discarded whole. -/
theorem Chip.drainEpoch_skips {c : Chip} {a : Nat} {e : Entry} {rest : List (Nat × Entry)} (hheld : (c.ring 18).held = (a, e) :: rest)
    (hroom : (c.ring 18).size < (c.ring 18).fill + ((c.ring 18).held.take (1 + fld (ew e 0) 7 0)).length) :
    c.drainEpoch.track.skip = c.track.skip + 1 ∧
      c.drainEpoch.ring 18 = ({ c.ring 18 with held := (c.ring 18).held.drop (1 + fld (ew e 0) 7 0) } : Ring).drops
        ((c.ring 18).held.take (1 + fld (ew e 0) 7 0)).length := by
  have hlt : 18 < c.rings.rings.length := c.ring_lt 18 (fun h => by simp [h] at hheld)
  unfold Chip.drainEpoch
  split
  · next hnone => simp [hheld] at hnone
  · next a' h rest' hsome =>
    obtain ⟨⟨-, rfl⟩, -⟩ : (a = a' ∧ e = h) ∧ rest = rest' := by simpa using hheld.symm.trans hsome
    extract_lets n es c1 c2
    have h1 : c1.ring 18 = { c.ring 18 with held := (c.ring 18).held.drop n } := c.ring_upRing_self 18 _ hlt
    have hlen : es.length = ((c.ring 18).held.take n).length := List.length_map _
    have hnot : ¬ (c1.ring 18).fill + es.length ≤ (c1.ring 18).size := by
      rw [h1, hlen]
      exact Nat.not_le.mpr hroom
    rw [if_neg hnot]
    refine ⟨rfl, ?_⟩
    change c2.ring 18 = _
    rw [← h1, ← hlen]
    exact c1.ring_upRing_self 18 _ (by rwa [Chip.len_upRing])

/-- A ring past its service time drops what waits and what is held, and becomes lossy. -/
theorem Chip.ring_convert {c : Chip} {n : Nat} (hn : n ≠ 0) (hlt : n < c.rings.rings.length) :
    (c.convert n).ring n = { (c.ring n).drops ((c.ring n).waiting.length + (c.ring n).held.length) with
      waiting := [], held := [], lossy := true, converted := true } := by
  unfold Chip.convert
  dsimp only
  rw [Chip.produce_ring_ne _ _ _ _ _ hn (Ne.symm hn), Chip.ring_upRing_self _ _ _ hlt]

theorem Ring.drops_drop {r : Ring} {k : Nat} (h : k ≠ 0) : (r.drops k).drop = r.drop + wd k := by rw [Ring.drops, if_neg h]

/-- Settles O25: each resumption, drain and conversion is one change of its ring. -/
theorem ringsResumeDrainAndConvert : Obligations.RingsResumeDrainAndConvert := by
  refine ⟨fun s n a e rest hawake hn hclass hroom => ⟨fun hwaiting => ?resume, fun hheld h18 => ?drain⟩,
    fun s a e rest hawake hheld hroom => ?epoch, fun s n hawake hn hclass hcons hsvc hsize hfull hkept => ?convert⟩
  case resume => exact (ring_resumed hawake hn hclass hroom hwaiting).mono fun c hc => by rw [hc]; exact ⟨rfl, rfl, rfl⟩
  case drain =>
    have hlt : n < s.chip.rings.rings.length := s.chip.ring_lt n (fun h => by simp [h] at hheld)
    have hend := s.chip.ring_endCopy n hlt
    refine Gives.run (exec_holdingBufferDrain n s) hawake ?_
    rw [if_neg h18, Chip.ring_follow, Chip.ring_drain hn (by rw [hend]; exact hclass) (by rw [hend]; exact hroom) (by rw [hend]; exact hheld), hend]
    exact ⟨rfl, rfl, rfl⟩
  case epoch =>
    have hlt : 18 < s.chip.rings.rings.length := s.chip.ring_lt 18 (fun h => by simp [h] at hheld)
    have hend := s.chip.ring_endCopy 18 hlt
    obtain ⟨hskip, hring⟩ := Chip.drainEpoch_skips (c := s.chip.endCopy 18) (a := a) (e := e) (rest := rest) (by rw [hend]; exact hheld)
      (by rw [hend]; exact hroom)
    refine Gives.run (exec_holdingBufferDrain 18 s) hawake ?_
    rw [if_pos rfl, Chip.ring_follow, Chip.follow_track_skip, hskip, hring, Ring.drops_held, Ring.drops_drop (by rw [hend, hheld]; simp), hend]
    exact ⟨rfl, rfl, rfl⟩
  case convert =>
    have hlt : n < s.chip.rings.rings.length := s.chip.ring_lt n (fun h => hsize (by rw [h]))
    have hsome : (!(s.chip.ring n).waiting.isEmpty || !(s.chip.ring n).held.isEmpty) = true := by
      rcases hkept with h | h <;> simp [h]
    have hcount : (s.chip.ring n).waiting.length + (s.chip.ring n).held.length ≠ 0 := by
      rcases hkept with h | h <;> have := List.length_pos_iff.mpr h <;> omega
    refine Gives.run (exec_lossyConversion n s) hawake ?_
    have hexternal : (s.chip.ring n).external = true := decide_eq_true hcons
    dsimp only
    rw [if_pos (by rw [decide_eq_true hclass, hexternal, decide_eq_true hsvc, decide_eq_true hsize, hfull, hsome]; rfl),
      Chip.ring_follow, Chip.ring_convert hn hlt]
    exact ⟨rfl, rfl, rfl, rfl, Ring.drops_drop hcount⟩

/-! ### Descriptors (07 R302, R308, R340) -/

theorem exec_ringCfgArm (n : Nat) (s : State) : exec (.ringCfgArm n) s = execRingCfgArm n s := rfl
theorem exec_ringCfgApply (n : Nat) (s : State) : exec (.ringCfgApply n) s = execRingCfgApply n s := rfl

/-- The block in which an ARM of the descriptor of ring `n` has shown its result. -/
def Chip.descriptorShown (c : Chip) (n : Nat) : Chip :=
  (c.armLast (0x0800 + 16 * n) (c.ringCheck n)).upRing n (fun r => { r with result := c.ringCheck n })

theorem Chip.ring_descriptorShown (c : Chip) {n : Nat} (hlt : n < c.rings.rings.length) :
    (c.descriptorShown n).ring n = { c.ring n with result := c.ringCheck n } := Chip.ring_upRing_self _ n _ hlt

theorem Chip.ring_descriptorShown_ne (c : Chip) {n k : Nat} (h : k ≠ n) : (c.descriptorShown n).ring k = c.ring k :=
  Chip.ring_upRing_ne _ n k _ (Ne.symm h)

theorem Chip.reg_descriptorShown (c : Chip) {n a : Nat} (h : a ≠ 0x0023) : (c.descriptorShown n).reg a = c.reg a := by
  rw [Chip.reg_of_regs (show (c.descriptorShown n).regs = (c.armLast (0x0800 + 16 * n) (c.ringCheck n)).regs from rfl), Chip.reg_armLast, if_neg h]

/-- A descriptor of the same size is taken whole, its agents only by an empty ring. -/
theorem Chip.ring_ringApply {c : Chip} {n : Nat} (hlt : n < c.rings.rings.length) (hsize : c.rf (0x0800 + 16 * n) 3 0 = (c.ring n).sizeLog2) :
    ((c.ringApply n).ring n).result = (c.ring n).result ∧ ((c.ringApply n).ring n).cls = ringClass (c.rf (0x0800 + 16 * n) 5 4) ∧
      ((c.ringApply n).ring n).svc = c.rf (0x0801 + 16 * n) 13 0 ∧
      ((c.ringApply n).ring n).producer = (if (c.ring n).fill = 0 then c.rf (0x0800 + 16 * n) 14 8 else (c.ring n).producer) ∧
      ((c.ringApply n).ring n).consumer = (if (c.ring n).fill = 0 then c.rf (0x0800 + 16 * n) 22 16 else (c.ring n).consumer) := by
  have hsame : decide (fld (c.reg (0x0800 + 16 * n)) 3 0 ≠ (c.ring n).sizeLog2) = false := by simpa [Chip.rf] using hsize
  unfold Chip.ringApply
  extract_lets w v r resized c0 c1 rs c2
  have hresized : resized = false := hsame
  have hc0 : c0 = c := by
    unfold c0
    rw [hresized, if_neg Bool.false_ne_true]
  have hc2 : c2 = c1 := by
    unfold c2
    rw [hresized, if_neg Bool.false_ne_true]
  obtain ⟨b, hring⟩ := c2.ring_settleClass n
  rw [hring, hc2, Chip.ring_upRing_self _ _ _ (by rwa [hc0]), hc0]
  exact ⟨rfl, rfl, rfl, rfl, rfl⟩

/-! ### The arbiter (07 R329-R331) -/

/-- Among the requests let in, one of the highest priority is granted. -/
theorem Chip.nextGrant_some {c : Chip} {qs : List ArbReq} (h : qs.any (fun q => !c.reqShut qs q) = true) :
    ∃ g ∈ qs, c.nextGrant qs = some g ∧ ∀ x ∈ qs, c.reqShut qs x = false → c.reqPrio g ≤ c.reqPrio x := by
  obtain ⟨q, hq, hopen⟩ := List.any_eq_true.mp h
  have hmem : q ∈ qs.filter (fun q => !c.reqShut qs q) := List.mem_filter.mpr ⟨hq, hopen⟩
  have hsome : (c.nextGrant qs).isSome = true := by
    cases hleast : List.argmin c.reqPrio (qs.filter (fun q => !c.reqShut qs q)) with
    | none => exact absurd (List.argmin_eq_none.mp hleast) (List.ne_nil_of_mem hmem)
    | some m => exact List.find?_isSome.mpr ⟨m, List.argmin_mem hleast,
        List.all_eq_true.mpr fun x hx => decide_eq_true (List.le_of_mem_argmin hx hleast)⟩
  obtain ⟨g, hg⟩ := Option.isSome_iff_exists.mp hsome
  refine ⟨g, (List.mem_filter.mp (List.mem_of_find?_eq_some hg)).1, hg, fun x hx hshut => ?_⟩
  have hall := List.find?_some hg
  exact of_decide_eq_true (List.all_eq_true.mp hall x (List.mem_filter.mpr ⟨hx, by simp [hshut]⟩))

/-- A grant takes its request off the list. -/
theorem Chip.arbGrant_granted {c : Chip} {posted : List (Nat × Bool)} {g : ArbReq}
    (hg : c.nextGrant (c.rings.arb ++ newReqs c.rings.arb posted) = some g) (hmem : g ∈ c.rings.arb ++ newReqs c.rings.arb posted) :
    (c.arbGrant posted).rings.granted = some (g.ring, g.consume) ∧
      (c.arbGrant posted).rings.arb.length < (c.rings.arb ++ newReqs c.rings.arb posted).length := by
  unfold Chip.arbGrant
  dsimp only
  rw [hg]
  refine ⟨rfl, ?_⟩
  dsimp only
  rw [List.length_map]
  exact List.length_filter_lt_length_iff_exists.mpr ⟨g, hmem, by simp⟩

theorem exec_arbiterGrant (posted : List (Nat × Bool)) (s : State) : exec (.arbiterGrant posted) s = s.run (fun c => c.arbGrant posted) := rfl

/-! ### The test harness, ring 0 and ring 4 (07 R346, R355, 03 R371) -/

theorem exec_testHarnessForward (n : Nat) (s : State) : exec (.testHarnessForward n) s = execTestHarnessForward n s := rfl
theorem exec_ring0Consume (s : State) : exec .ring0Consume s = s.run Chip.ring0Consume := rfl
theorem exec_systemCommand (s : State) : exec .systemCommand s = s.run Chip.systemCommand := rfl

theorem Chip.drainOwn_of_none {c : Chip} (h : (c.ring 0).held = []) (k : Nat) : c.drainOwn k = c := by
  cases k with
  | zero => rfl
  | succ k => simp [Chip.drainOwn, h]

theorem Chip.post2_ring_ne (c : Chip) (origin kind code arg : Nat) {k : Nat} (hk : k ≠ 0) (h2 : k ≠ 2) : (c.post2 origin kind code arg).ring k = c.ring k :=
  Chip.produce_ring_ne _ _ _ _ _ hk (Ne.symm h2)

/-- A system command taken advances ring 4's TAIL; what it gives goes to other rings. -/
theorem Chip.systemCommand_tail {c : Chip} (hstarted : c.started = true) (hfill : (c.ring 4).fill ≠ 0) :
    (c.systemCommand.ring 4).tail = (c.ring 4).tail + 1 := by
  have htail : (((c.consume 4 1).settleClass 4).ring 4).tail = (c.ring 4).tail + 1 := (Chip.ring_consume_settleClass 1 hfill).2
  unfold Chip.systemCommand
  rw [if_neg (by simp [hfill, hstarted])]
  extract_lets p c1 c2
  have h2 : c2.ring 4 = c1.ring 4 := by
    unfold c2
    split
    · exact Chip.post2_ring_ne _ _ _ _ _ (by decide) (by decide)
    · rfl
  split
  · rw [Chip.produce_ring_ne _ _ _ _ _ (by decide) (by decide), h2, htail]
  · rw [h2, htail]

/-- Settles O27: by the descriptor's check, the arbiter's order and what each consumer takes. -/
theorem descriptorsArbiterAndConsumers : Obligations.DescriptorsArbiterAndConsumers := by
  refine ⟨fun s n hawake hopen h64 hlt => ⟨fun hbad => ?refused, fun hok hsize => ?accepted⟩, fun s n p hawake hpend => ?agents,
    fun s posted qs hawake hqs hany => ?grant, fun s n next hawake hlow hhigh hnext hcons hfill hprod hsize hroom hcopy => ?harness,
    fun s hawake hfill hheld => ⟨fun hclass => ?plain, fun e he hclass hcode htrans => ?mode⟩, fun s hawake hstarted hfill => ?system⟩
  case refused =>
    refine Gives.host (exec_ringCfgArm n s) hawake hopen ?_
    have harm : s.chip.ringCfgArm n = s.chip.descriptorShown n := if_neg hbad
    rw [if_pos h64, harm, Chip.ring_follow, Chip.ring_descriptorShown _ hlt]
    exact ⟨rfl, fun k hk => Chip.ring_descriptorShown_ne _ hk⟩
  case accepted =>
    refine Gives.host (exec_ringCfgArm n s) hawake hopen ?_
    have harm : s.chip.ringCfgArm n = (s.chip.descriptorShown n).ringApply n := if_pos hok
    have hring := s.chip.ring_descriptorShown hlt
    have hr0 : (s.chip.descriptorShown n).reg (0x0800 + 16 * n) = s.chip.reg (0x0800 + 16 * n) := Chip.reg_descriptorShown _ (by omega)
    have hr1 : (s.chip.descriptorShown n).reg (0x0801 + 16 * n) = s.chip.reg (0x0801 + 16 * n) := Chip.reg_descriptorShown _ (by omega)
    obtain ⟨hres, hcls, hsvc, hprod, hcons⟩ := Chip.ring_ringApply (c := s.chip.descriptorShown n) (n := n)
      (by simpa [Chip.descriptorShown] using hlt) (by rw [Chip.rf, hr0, hring]; exact hsize)
    have hfill : ((s.chip.descriptorShown n).ring n).fill = (s.chip.ring n).fill := by rw [hring]; rfl
    rw [if_pos h64, harm, Chip.ring_follow, hres, hcls, hsvc, hprod, hcons, hfill, hring]
    simp only [Chip.rf, hr0, hr1]
    refine ⟨hok, trivial, trivial, fun h => ?_, fun h => ?_⟩
    · rw [if_pos h, if_pos h]
      exact ⟨rfl, rfl⟩
    · rw [if_neg h, if_neg h]
      exact ⟨rfl, rfl⟩
  case agents =>
    have hlt : n < s.chip.rings.rings.length := s.chip.ring_lt n (fun h => by simp [h] at hpend)
    refine ⟨fun hempty => Gives.run (exec_ringCfgApply n s) hawake ?_, fun hfull => Gives.run (exec_ringCfgApply n s) hawake ?_⟩
    · rw [Chip.ring_follow, Chip.ring_upRing_self _ _ _ hlt, hpend]
      dsimp only
      rw [if_pos hempty]
      exact ⟨rfl, rfl, rfl⟩
    · rw [Chip.ring_follow, Chip.ring_upRing_self _ _ _ hlt, hpend]
      dsimp only
      rw [if_neg hfull]
  case grant =>
    subst hqs
    obtain ⟨g, hmem, hg, hleast⟩ := Chip.nextGrant_some hany
    obtain ⟨hgranted, hlen⟩ := Chip.arbGrant_granted hg hmem
    exact Gives.run (exec_arbiterGrant posted s) hawake ⟨g, hmem, hgranted, hleast, hlen⟩
  case harness =>
    have hlt : n < s.chip.rings.rings.length := s.chip.ring_lt n (fun h => by simp [h] at hcons)
    have hltn : next < s.chip.rings.rings.length := s.chip.ring_lt next (fun h => by simp [h] at hprod)
    have hne : n ≠ next := by
      rw [hnext]
      split <;> omega
    refine Gives.run (exec_testHarnessForward n s) hawake ?_
    dsimp only
    rw [← hnext, if_pos ⟨hlow, hhigh, hcons, hfill, hprod, hsize, by simp [hroom], by simp [hcopy]⟩, Chip.ring_follow, Chip.ring_follow,
      Chip.ring_pushEntry_self _ _ _ (by rwa [Chip.len_consume]), Chip.ring_pushEntry, if_neg (fun h => hne h.1.symm), Chip.ring_consume _ _ _ hlt]
    refine ⟨rfl, ?_⟩
    have hkeep : (s.chip.consume n 1).ring next = s.chip.ring next := Chip.ring_upRing_ne _ _ _ _ hne
    rw [hkeep]
    rfl
  case plain =>
    have hlt : 0 < s.chip.rings.rings.length := s.chip.ring_lt 0 (fun h => hfill (by rw [h]; rfl))
    have hring := s.chip.ring_consume 0 1 hlt
    refine Gives.run (exec_ring0Consume s) hawake ?_
    unfold Chip.ring0Consume
    rw [if_neg hfill]
    dsimp only
    rw [if_neg (fun h => hclass h.1), Chip.drainOwn_of_none (by rw [hring]; exact hheld), Chip.ring_follow, hring]
    exact ⟨rfl, rfl, rfl⟩
  case mode =>
    subst he
    have hlt : 0 < s.chip.rings.rings.length := s.chip.ring_lt 0 (fun h => hfill (by rw [h]; rfl))
    have hring := s.chip.ring_consume 0 1 hlt
    refine Gives.run (exec_ring0Consume s) hawake ?_
    unfold Chip.ring0Consume
    rw [if_neg hfill]
    dsimp only
    rw [if_pos ⟨hclass, hcode⟩, Chip.drainOwn_of_none (by rw [hring]; exact hheld), Chip.ruleMode,
      if_pos (Option.isSome_iff_ne_none.mpr (show (s.chip.consume 0 1).modes.transition ≠ none from htrans))]
    exact ⟨congrArg Ring.tail hring, rfl⟩
  case system =>
    refine Gives.run (exec_systemCommand s) hawake ?_
    rw [Chip.ring_follow]
    exact Chip.systemCommand_tail hstarted hfill

end Sys2Proof.Machine
end

section
/-! SUPPORT. The theft state machine and its signed clears (08 R386-R394). -/

namespace Sys2Proof.Machine

/-! ### A change of the theft state (08 R386, R391) -/

theorem Chip.post3_keeper (c : Chip) (kind rule tag trigger arg : Nat) : (c.post3 kind rule tag trigger arg).keeper = c.keeper :=
  Chip.keeper_of_hide (Chip.hide_post3 c kind rule tag trigger arg (ps := others .keeper) (by decide)) (by decide)
theorem Chip.theftRecord_keeper (c : Chip) (rule old : Nat) : (c.theftRecord rule old).keeper = c.keeper :=
  Chip.keeper_of_hide (Chip.hide_theftRecord c rule old (ps := others .keeper) (by decide)) (by decide)
theorem Chip.theftEvent_keeper (c : Chip) (st : Option Nat) : (c.theftEvent st).keeper = c.keeper :=
  Chip.keeper_of_hide (Chip.hide_theftEvent c st (ps := others .keeper) (by decide)) (by decide)
theorem Chip.pursue_keeper (c : Chip) : c.pursue.keeper = c.keeper :=
  Chip.keeper_of_hide (Chip.hide_pursue c (ps := others .keeper) (by decide)) (by decide)

/-- The keeper domain at a change of the theft state, before the change is recorded. -/
def Keeper.theftTo (k : Keeper) (new : TheftState) (score window : Nat) (nonce : Word) : Keeper :=
  { k with theftNonce := if new = .declared then nonce else k.theftNonce, theft := new, score := score,
           window := if new = .suspect then window else 0 }

/-- A change of the theft state: the records and the mode that follow it leave the keeper domain alone. -/
theorem Chip.theftChange_keeper (c : Chip) (rule : Nat) (new : TheftState) (score trigger : Nat) :
    (c.theftChange rule new score trigger).keeper = c.keeper.theftTo new score c.rules.windowCfg c.draw.2 := by
  unfold Chip.theftChange
  extract_lets old p c1 c2 c3 c4
  have h2 : c2.keeper = c.keeper.theftTo new score c.rules.windowCfg c.draw.2 := by
    unfold c2 c1 Keeper.theftTo
    by_cases h : new = .declared
    · simp only [if_pos h]
      rfl
    · simp only [if_neg h]
      rfl
  have h4 : c4.keeper = c.keeper.theftTo new score c.rules.windowCfg c.draw.2 := by
    rw [Chip.postSignal_keeper, Chip.theftRecord_keeper, Chip.post3_keeper, h2]
  split
  · rw [Chip.pursue_keeper, h4]
  · rw [Chip.settle_keeper, h4]

/-- What a request gives is what the keeper domain becomes. -/
theorem Chip.theftCmd_keeper {c : Chip} {req w : Nat} (hstarted : c.started = true) (hw : req = 2 → w ≠ 0) :
    (c.theftCmd req w).keeper = (match c.theftStep req w with
      | .nothing => c.keeper
      | .refused => c.keeper
      | .goes next score => if next = c.keeper.theft then { c.keeper with score := score }
          else c.keeper.theftTo next score c.rules.windowCfg c.draw.2) := by
  have hgo : c.theftCmd req w = (let p := c.theftRequest 0xFF req w 0
      if p.2.1 then p.1.post3 2 0xFF (0x0E * 256 + 5) 0 0 else p.1.theftEvent p.2.2) := by
    unfold Chip.theftCmd
    rw [if_neg (by simp [hstarted]), if_neg (fun h => hw h.1 h.2)]
  rw [hgo, Chip.theftRequest]
  cases c.theftStep req w with
  | nothing => exact Chip.theftEvent_keeper c none
  | refused => exact Chip.post3_keeper c 2 0xFF (0x0E * 256 + 5) 0 0
  | goes next score =>
    by_cases h : next = c.keeper.theft
    · simp only [if_pos h]
      exact Chip.theftEvent_keeper _ none
    · simp only [if_neg h, Bool.false_eq_true, if_false, Chip.theftEvent_keeper, Chip.theftChange_keeper]

theorem exec_theftCmdArm (s : State) : exec .theftCmdArm s = s.runHost (fun c => c.theftCmd 0 0) := rfl
theorem exec_theftCmdDisarm (s : State) : exec .theftCmdDisarm s = s.runHost (fun c => c.theftCmd 1 0) := rfl
theorem exec_theftCmdSuspect (w : Nat) (s : State) : exec (.theftCmdSuspect w) s = s.runHost (fun c => c.theftCmd 2 w) := rfl
theorem exec_theftCmdDeclare (s : State) : exec .theftCmdDeclare s = s.runHost (fun c => c.theftCmd 3 0) := rfl
theorem exec_theftWindowExpired (s : State) : exec .theftWindowExpired s = execTheftWindowExpired s := rfl

section
variable {s : State} {P : Keeper → Prop} {i : Instr} {req w : Nat} (hexec : exec i s = s.runHost (fun c => c.theftCmd req w))
  (hawake : s.chip.awake = true) (hstarted : s.chip.started = true) (hw : req = 2 → w ≠ 0)
include hexec hawake hstarted hw

/-- A request that gives nothing or a refusal leaves the keeper domain. -/
theorem gives_theftKept (hstep : s.chip.theftStep req w = .nothing ∨ s.chip.theftStep req w = .refused) :
    Gives i s (fun c => c.keeper = s.chip.keeper) := by
  refine Gives.host hexec hawake (Chip.hostOpen_of_started hstarted) ?_
  rw [Chip.follow_keeper, Chip.theftCmd_keeper hstarted hw]
  rcases hstep with h | h <;> rw [h]

/-- A request that leads to another theft state goes to it. -/
theorem gives_theftTo {next : TheftState} {score : Nat} (hstep : s.chip.theftStep req w = .goes next score) (hnew : next ≠ s.chip.keeper.theft)
    (hP : P (s.chip.keeper.theftTo next score s.chip.rules.windowCfg s.chip.draw.2)) : Gives i s (fun c => P c.keeper) := by
  refine Gives.host hexec hawake (Chip.hostOpen_of_started hstarted) ?_
  rw [Chip.follow_keeper, Chip.theftCmd_keeper hstarted hw, hstep]
  dsimp only
  rw [if_neg hnew]
  exact hP

/-- A request that leads to the theft state it finds changes the score. -/
theorem gives_theftScored {next : TheftState} {score : Nat} (hstep : s.chip.theftStep req w = .goes next score) (hsame : next = s.chip.keeper.theft)
    (hP : P { s.chip.keeper with score := score }) : Gives i s (fun c => P c.keeper) := by
  refine Gives.host hexec hawake (Chip.hostOpen_of_started hstarted) ?_
  rw [Chip.follow_keeper, Chip.theftCmd_keeper hstarted hw, hstep]
  dsimp only
  rw [if_pos hsame]
  exact hP

end

/-- Settles O28: each request by its row of the table, the window by its change. -/
theorem theftStateFollowsItsTable : Obligations.TheftStateFollowsItsTable := by
  have h0 : (0 : Nat) = 2 → (0 : Nat) ≠ 0 := by decide
  have h1 : (1 : Nat) = 2 → (0 : Nat) ≠ 0 := by decide
  have h3 : (3 : Nat) = 2 → (0 : Nat) ≠ 0 := by decide
  refine ⟨fun s hawake hstarted => ⟨fun h => ?arm, fun h => ?armed⟩, fun s hawake hstarted => ⟨fun h => ?disarm, fun h => ?disarmKept⟩,
    fun s w hawake hstarted hw => ⟨fun h hlow => ?suspect, fun h hhigh => ?declared, fun h hlow => ?again, fun h hhigh => ?rises, fun h => ?suspectKept⟩,
    fun s hawake hstarted => ⟨fun h => ?declare, fun h => ?declareKept⟩, fun s hawake htheft hwindow => ?window⟩
  case arm =>
    exact gives_theftTo (exec_theftCmdArm s) hawake hstarted h0 (P := fun k => k.theft = .armed ∧ k.score = 0) (by simp [Chip.theftStep, h])
      (by simp [h]) ⟨rfl, rfl⟩
  case armed =>
    refine gives_theftKept (exec_theftCmdArm s) hawake hstarted h0 (Or.inl ?_)
    cases hk : s.chip.keeper.theft <;> simp_all [Chip.theftStep]
  case disarm =>
    refine gives_theftTo (exec_theftCmdDisarm s) hawake hstarted h1 (P := fun k => k.theft = .disarmed ∧ k.score = 0) (score := 0) (next := .disarmed) ?_ ?_
      ⟨rfl, rfl⟩
    · rcases h with h | h <;> simp [Chip.theftStep, h]
    · rcases h with h | h <;> simp [h]
  case disarmKept =>
    refine gives_theftKept (exec_theftCmdDisarm s) hawake hstarted h1 (Or.inr ?_)
    rcases h with h | h <;> simp [Chip.theftStep, h]
  case suspect =>
    exact gives_theftTo (exec_theftCmdSuspect w s) hawake hstarted (fun _ => hw)
      (P := fun k => k.theft = .suspect ∧ k.score = w ∧ k.window = s.chip.rules.windowCfg) (by simp [Chip.theftStep, h, Nat.not_le.mpr hlow])
      (by simp [h]) ⟨rfl, rfl, rfl⟩
  case declared =>
    exact gives_theftTo (exec_theftCmdSuspect w s) hawake hstarted (fun _ => hw)
      (P := fun k => k.theft = .declared ∧ k.score = w ∧ k.theftNonce ≠ 0) (by simp [Chip.theftStep, h, hhigh]) (by simp [h])
      ⟨rfl, rfl, s.chip.draw_ne_zero⟩
  case again =>
    exact gives_theftScored (exec_theftCmdSuspect w s) hawake hstarted (fun _ => hw) (score := s.chip.keeper.score + w)
      (P := fun k => k.theft = .suspect ∧ k.score = s.chip.keeper.score + w ∧ k.window = s.chip.keeper.window)
      (by simp [Chip.theftStep, h, Nat.not_le.mpr hlow]) h.symm ⟨h, rfl, rfl⟩
  case rises =>
    exact gives_theftTo (exec_theftCmdSuspect w s) hawake hstarted (fun _ => hw)
      (P := fun k => k.theft = .declared ∧ k.score = s.chip.keeper.score + w ∧ k.theftNonce ≠ 0) (by simp [Chip.theftStep, h, hhigh]) (by simp [h])
      ⟨rfl, rfl, s.chip.draw_ne_zero⟩
  case suspectKept =>
    refine gives_theftKept (exec_theftCmdSuspect w s) hawake hstarted (fun _ => hw) (Or.inr ?_)
    rcases h with h | h <;> simp [Chip.theftStep, h]
  case declare =>
    refine gives_theftTo (exec_theftCmdDeclare s) hawake hstarted h3 (next := .declared) (score := s.chip.keeper.score)
      (P := fun k => k.theft = .declared ∧ k.score = s.chip.keeper.score ∧ k.theftNonce ≠ 0) ?_ (Ne.symm h) ⟨rfl, rfl, s.chip.draw_ne_zero⟩
    cases hk : s.chip.keeper.theft <;> simp_all [Chip.theftStep]
  case declareKept => exact gives_theftKept (exec_theftCmdDeclare s) hawake hstarted h3 (Or.inl (by simp [Chip.theftStep, h]))
  case window =>
    refine Gives.run (exec_theftWindowExpired s) hawake ?_
    rw [if_pos ⟨htheft, hwindow⟩, Chip.follow_keeper, Chip.theftEvent_keeper, Chip.theftChange_keeper]
    exact ⟨rfl, rfl⟩

/-! ### Signed clears (08 R392-R394) -/

theorem exec_theftClearDisarm (frame : Option (List Byte)) (s : State) : exec (.theftClearDisarm frame) s = execTheftClearDisarm frame s := rfl
theorem exec_theftClearArm (frame : Option (List Byte)) (s : State) : exec (.theftClearArm frame) s = execTheftClearArm frame s := rfl
theorem exec_theftClearApply (s : State) : exec .theftClearApply s = execTheftClearApply s := rfl

/-- The block after a clear was checked: a new challenge drawn and the result shown. -/
def Chip.clearShown (c : Chip) (res : Nat) : Chip := ((c.draw.1).upKeeper (fun k => { k with theftNonce := c.draw.2 })).setFld 0x0CE8 3 0 res

/-- The block with a clear that waits for its entry. -/
def Chip.clearQueued (c : Chip) (st : TheftState) : Chip := { c with rules := { c.rules with clearTo := c.rules.clearTo ++ [st] } }

theorem Chip.rf_post2 (c : Chip) (origin kind code arg a hi lo : Nat) : (c.post2 origin kind code arg).rf a hi lo = c.rf a hi lo := by
  rw [Chip.rf, Chip.post2, Chip.reg_of_regs (Chip.noRings_regs (Chip.noRings_produce _ _ _ _)), Chip.rf]

/-- A clear whose check passes waits for its entry; the theft state stays. -/
theorem Chip.theftClear_accepted {c : Chip} {cmd : List Byte} (htheft : c.keeper.theft = .declared) (hzero : cmd.getD 3 0 = 0)
    (hcheck : c.commandCheck cmd 144 0x54 0x43 c.keeper.theftNonce 16 true = 1) {op : Nat} (hop : (cmd.getD 2 0).toNat = op) (h12 : op = 1 ∨ op = 2) :
    (c.theftClear cmd).rf 0x0CE8 3 0 = 1 ∧ (c.theftClear cmd).rules.clearTo = c.rules.clearTo ++ [if op = 1 then .disarmed else .armed] ∧
      (c.theftClear cmd).keeper.theft = .declared ∧ (c.theftClear cmd).keeper.theftNonce ≠ 0 := by
  have hok : (decide (op = 1 ∨ op = 2) && decide (cmd.getD 3 0 = 0)) = true := by rw [decide_eq_true h12, decide_eq_true hzero]; rfl
  have hgo : c.theftClear cmd = ((c.clearShown 1).clearQueued (if op = 1 then .disarmed else .armed)).post2 0x03 3 0x0002 (if op = 1 then 0 else 1) := by
    unfold Chip.theftClear
    dsimp only
    rw [hop, hok, if_neg (show ¬ c.keeper.theft ≠ .declared from not_not.mpr htheft), hcheck, if_pos rfl]
    rfl
  rw [hgo]
  generalize hq : (c.clearShown 1).clearQueued (if op = 1 then .disarmed else .armed) = c2
  have hrings := Chip.noRings_produce c2 0x03 2 [wd (3 * 2 ^ 24 + 0x03 * 2 ^ 16 + 0x0002), wd (if op = 1 then 0 else 1), 0, 0, 0, 0, 0, 0]
  rw [Chip.rf_post2, Chip.post2, Chip.noRings_rules hrings, Chip.noRings_keeper hrings, ← hq]
  exact ⟨Chip.rf_setFld_self _ _ _ _ _ (by decide) (by decide), rfl, htheft, c.draw_ne_zero⟩

/-- A clear with no theft declared is answered NOT_DECLARED. -/
theorem Chip.theftClear_undeclared {c : Chip} (htheft : c.keeper.theft ≠ .declared) (cmd : List Byte) :
    (c.theftClear cmd).rf 0x0CE8 3 0 = 0xA ∧ (c.theftClear cmd).rules.clearTo = c.rules.clearTo := by
  have h : c.theftClear cmd = c.clearShown 0xA := by
    unfold Chip.theftClear
    dsimp only
    rw [if_pos htheft]
    rfl
  rw [h]
  exact ⟨Chip.rf_setFld_self _ _ _ _ _ (by decide) (by decide), rfl⟩

theorem toNat_of_byte {b : Byte} {k : Nat} (h : b = BitVec.ofNat 8 k) (hk : k < 256) : b.toNat = k := by
  rw [h, BitVec.toNat_ofNat, Nat.mod_eq_of_lt hk]

theorem Chip.applySets_none {c : Chip} (h : c.rules.pendingSets = []) : c.applySets = c := by
  have hrules : ({ c.rules with pendingSets := [] } : RuleEngine) = c.rules := by rw [← h]
  unfold Chip.applySets
  rw [h, List.foldl_nil, Chip.upRules, hrules]

/-- A command at the head of ring 2 is an entry of it, of KIND 3 and of that code. -/
theorem Chip.headCommand_some {c : Chip} {k : Nat} (h : c.headCommand = some k) : (c.ring 2).fill ≠ 0 ∧
    fld (ew (c.entryAt ((c.ring 2).slot (c.ring 2).tail)) 0) 31 24 = 3 ∧ fld (ew (c.entryAt ((c.ring 2).slot (c.ring 2).tail)) 0) 15 0 = k := by
  unfold Chip.headCommand at h
  dsimp only at h
  split at h
  · next hcond => exact ⟨hcond.1, hcond.2, Option.some.inj h⟩
  · cases h

theorem Chip.applyClear_next {c : Chip} {st : TheftState} {rest : List TheftState} (hclear : c.rules.clearTo = st :: rest)
    (htheft : c.keeper.theft = .declared) (w0 : Word) :
    (c.applyClear w0).1 = (c.upRules (fun x => { x with clearTo := rest })).theftChange 0xFF st 0 w0.toNat := by
  have hkeep : (c.upRules (fun x => { x with clearTo := rest })).keeper.theft = .declared := htheft
  unfold Chip.applyClear
  split
  · next hnone => cases hclear.symm.trans hnone
  · next st' rest' hsome =>
    obtain ⟨rfl, rfl⟩ := List.cons.inj (hclear.symm.trans hsome)
    dsimp only
    rw [if_pos hkeep]

/-- A signal posted changes at most the second of its last posting. -/
theorem Chip.postSignal_rules (c : Chip) (origin sig : Nat) : ∃ x, (c.postSignal origin sig).rules = { c.rules with sigSecond := x } := by
  unfold Chip.postSignal
  split
  · split
    · extract_lets now r c1
      split
      · exact ⟨c.rules.sigSecond, rfl⟩
      · exact ⟨_, (Chip.noRings_rules (Chip.noRings_produce c1 _ _ _)).trans rfl⟩
    · exact ⟨c.rules.sigSecond, (Chip.noRings_rules (Chip.noRings_produce c _ _ _)).trans rfl⟩
  · exact ⟨c.rules.sigSecond, rfl⟩

/-- A change of the theft state leaves the rules, but for the second of its signal. -/
theorem Chip.theftChange_rules (c : Chip) (rule : Nat) (new : TheftState) (score trigger : Nat) :
    ∃ x, (c.theftChange rule new score trigger).rules = { c.rules with sigSecond := x } := by
  unfold Chip.theftChange
  extract_lets old p c1 c2 c3 c4
  have h3 : c3.rules = c.rules := by
    have h1 : c1.rules = c.rules := by
      unfold c1
      split <;> rfl
    have h32 : c3.rules = c2.rules := Chip.rules_of_hide (ps := others .rules) (by
      simp only [c3, Chip.hide_theftRecord, Chip.hide_post3, mem_others, ne_eq, reduceCtorEq, not_false_eq_true]) (by decide)
    exact h32.trans h1
  obtain ⟨x, h4⟩ := c3.postSignal_rules 0x03 0x10
  have hend : (if new = .declared then c4.pursue else c4.settle).rules = c4.rules := by
    split
    · exact Chip.rules_of_hide (Chip.hide_pursue c4 (ps := others .rules) (by decide)) (by decide)
    · exact Chip.settle_rules c4
  exact ⟨x, by rw [hend, h4, h3]⟩

/-- The trigger that the entry at the head of ring 2 is. -/
def Chip.headTrigger (c : Chip) : Trigger where
  w0 := ew (c.entryAt ((c.ring 2).slot (c.ring 2).tail)) 0
  arg := (ew (c.entryAt ((c.ring 2).slot (c.ring 2).tail)) 1).toNat
  mode := if c.held then 1 else c.mode

/-- The block in which a sweep evaluates the rules, and the signals it has seen. -/
def Chip.sweepStart (c : Chip) : Chip × List Nat :=
  if c.headTrigger.kind = 3 ∧ c.headTrigger.code = 2 then (c.consume 2 1).applyClear c.headTrigger.w0
  else (c.consume 2 1, if c.headTrigger.kind = 1 then [c.headTrigger.code] else [])

/-- A sweep with no set to apply takes the head entry and evaluates the rules in load order. -/
theorem Chip.sweepHead_eq {c : Chip} (hsets : c.rules.pendingSets = []) (hfill : (c.ring 2).fill ≠ 0) :
    c.sweepHead = (c.rules.order.foldl (Chip.sweepRule c.headTrigger) c.sweepStart).1 := by
  unfold Chip.sweepHead
  rw [Chip.applySets_none hsets]
  dsimp only
  rw [if_neg hfill]
  rfl

/-- The entry of a clear applies it: with no rules it is all its sweep does. -/
theorem Chip.sweepHead_clears {c : Chip} {st : TheftState} {rest : List TheftState} (hhead : c.headCommand = some 2)
    (hclear : c.rules.clearTo = st :: rest) (htheft : c.keeper.theft = .declared) (hsets : c.rules.pendingSets = []) (horder : c.rules.order = []) :
    c.sweepHead.keeper.theft = st ∧ c.sweepHead.keeper.score = 0 ∧ c.sweepHead.rules.clearTo = rest := by
  obtain ⟨hfill, hkind, hcode⟩ := Chip.headCommand_some hhead
  have hstart : c.sweepStart.1 = ((c.consume 2 1).upRules (fun x => { x with clearTo := rest })).theftChange 0xFF st 0 c.headTrigger.w0.toNat := by
    unfold Chip.sweepStart
    rw [if_pos ⟨hkind, hcode⟩, Chip.applyClear_next (c := c.consume 2 1) hclear htheft]
  obtain ⟨x, hrules⟩ := Chip.theftChange_rules ((c.consume 2 1).upRules (fun x => { x with clearTo := rest })) 0xFF st 0 c.headTrigger.w0.toNat
  rw [Chip.sweepHead_eq hsets hfill, horder, List.foldl_nil, hstart, hrules, Chip.theftChange_keeper]
  exact ⟨rfl, rfl, rfl⟩

/-- Settles O29: by the check of a clear and the sweep of its entry. -/
theorem signedClearsDisarmOrRearm : Obligations.SignedClearsDisarmOrRearm := by
  refine ⟨fun s cmd hawake htheft hzero hcheck => ⟨fun hop => ?disarm, fun hop => ?arm⟩, fun s cmd hawake htheft => ⟨?noDisarm, ?noArm⟩,
    fun s st rest hawake hsweeping hhead hclear htheft hsets horder => ?applied⟩
  case disarm =>
    exact Gives.run (exec_theftClearDisarm (some cmd) s) hawake
      (Chip.theftClear_accepted htheft hzero hcheck (toNat_of_byte hop (by decide)) (Or.inl rfl))
  case arm =>
    exact Gives.run (exec_theftClearArm (some cmd) s) hawake
      (Chip.theftClear_accepted htheft hzero hcheck (toNat_of_byte hop (by decide)) (Or.inr rfl))
  case noDisarm => exact Gives.run (exec_theftClearDisarm (some cmd) s) hawake (Chip.theftClear_undeclared htheft cmd)
  case noArm => exact Gives.run (exec_theftClearArm (some cmd) s) hawake (Chip.theftClear_undeclared htheft cmd)
  case applied =>
    refine Gives.run (exec_theftClearApply s) hawake ?_
    rw [if_pos (by rw [hsweeping, decide_eq_true hhead]; rfl)]
    exact Chip.sweepHead_clears hhead hclear htheft hsets horder

end Sys2Proof.Machine
end

section
/-! SUPPORT. Sweeps, timers and live changes of the rules (08 R355-R405). -/

namespace Sys2Proof.Machine

/-! ### A rule that sets a flag (08 R366) -/

/-- Setting a flag of the eight. -/
theorem setFlag_getLsbD {t : Nat} (h : t < 8) (f : BitVec 8) : (f ||| BitVec.ofNat 8 (2 ^ t)).getLsbD t = true := by
  rw [BitVec.getLsbD_or, BitVec.getLsbD_ofNat, Nat.testBit_two_pow_self]
  simp [h]

/-- The rules with a flag set. -/
def RuleEngine.flagged (x : RuleEngine) (t : Nat) : RuleEngine := { x with flags := x.flags ||| BitVec.ofNat 8 (2 ^ t) }

/-- A rule of one SET_FLAG that fires sets its flag: apart from that the rules change in the second of a signal at most. -/
theorem Chip.fire_flag {r : Rule} {t : Nat} (hr : FlagRule r t) (c : Chip) (derived : List Nat) (n : Nat) (w0 : Word) (ev : Nat) :
    ∃ x, (c.fire derived n r w0 ev).1.rules = { c.rules.flagged t with sigSecond := x } := by
  obtain ⟨-, hjournal, hacts⟩ := hr
  unfold Chip.fire
  rw [hjournal, hacts]
  change ∃ x, (Chip.runAct n r w0 ev (c, derived) (0, { code := 0x0F, target := t, value := 1 })).1.rules = _
  have hact : (c.act n r 0 { code := 0x0F, target := t, value := 1 } w0 ev) =
      { chip := if c.rules.flags.getLsbD t = true then c.upRules (fun x => x.flagged t) else (c.upRules (fun x => x.flagged t)).postSignal 0x03 (0x48 + t) } := by
    rfl
  unfold Chip.runAct
  rw [if_neg (show ¬ (0x0F : Nat) = 0 by decide), hact]
  dsimp only
  split
  · exact ⟨_, rfl⟩
  · obtain ⟨x, hx⟩ := (c.upRules (fun x => x.flagged t)).postSignal_rules 0x03 (0x48 + t)
    exact ⟨x, hx⟩

/-! ### A sweep of one rule (08 R355-R360) -/

theorem exec_ruleSweep (s : State) : exec .ruleSweep s = s.run Chip.ruleSweep := rfl
theorem exec_ruleTimerExpired (t : Nat) (s : State) : exec (.ruleTimerExpired t) s = s.run (fun c => c.timerExpired t) := rfl
theorem exec_holdTimerExpired (t : Nat) (s : State) : exec (.holdTimerExpired t) s = execHoldTimerExpired t s := rfl
theorem exec_ruleHostEvt (i : Nat) (s : State) : exec (.ruleHostEvt i) s = s.runHost (fun c => c.event 0x0B 0x11 (i % 256) 0) := rfl

/-- With no ring-0 entry unread and no set to apply, a sweep takes the head entry. -/
theorem Chip.ruleSweep_eq {c : Chip} (hsweeping : c.sweeping = true) (hread : c.behind c.rings.obsRule = 0) : c.ruleSweep = c.sweepHead := by
  have hobs : Chip.observeRule 64 c = c := by
    unfold Chip.observeRule
    rw [if_pos (Or.inl hread)]
  rw [Chip.ruleSweep, if_pos hsweeping, hobs]

theorem Chip.headTrigger_mode {c : Chip} (h : c.held = false) : c.headTrigger.mode = c.mode := by
  unfold Chip.headTrigger
  rw [h]
  rfl

/-- An entry that is not a clear starts its sweep as it is taken. -/
theorem Chip.sweepStart_plain {c : Chip} (h : ¬ (c.headTrigger.kind = 3 ∧ c.headTrigger.code = 2)) : c.sweepStart.1 = c.consume 2 1 := by
  unfold Chip.sweepStart
  rw [if_neg h]

/-- With no command at its head, the entry of ring 2 is of another KIND. -/
theorem Chip.headTrigger_noCommand {c : Chip} (hfill : (c.ring 2).fill ≠ 0) (h : c.headCommand = none) : c.headTrigger.kind ≠ 3 := by
  intro hkind
  unfold Chip.headCommand at h
  dsimp only at h
  rw [if_pos ⟨hfill, hkind⟩] at h
  cases h

theorem Chip.sweepRule_condition {t : Trigger} {st : Chip × List Nat} {n : Nat} {r : Rule} (hr : st.1.rules.rules.getD n {} = r) (hen : r.en = true)
    (hkind : t.kind ≠ 3) (hcond : r.condition = true) : Chip.sweepRule t st n = Chip.conditionRule t st n r := by
  unfold Chip.sweepRule
  dsimp only
  rw [hr, if_neg (by simp [hen]), if_neg (fun h => hkind h.1), if_pos hcond]

theorem Chip.sweepRule_fire {t : Trigger} {st : Chip × List Nat} {n : Nat} {r : Rule} (hr : st.1.rules.rules.getD n {} = r) (hen : r.en = true)
    (hfire : t.kind = 3 ∧ t.code = 1 ∧ t.arg = n) :
    Chip.sweepRule t st n = if r.guard.testBit t.mode then st.1.fire st.2 n r t.w0 t.code else st := by
  unfold Chip.sweepRule
  dsimp only
  rw [hr, if_neg (by simp [hen]), if_pos hfire]

section
variable {t : Trigger} {st : Chip × List Nat} {n : Nat} {r : Rule}

/-- A condition rule whose terms are false is armed again. -/
theorem Chip.conditionRule_false (hterm : st.1.termResult r = false) (hhold : r.hold = 0) :
    Chip.conditionRule t st n r = (st.1.setFired n false, st.2) := by
  unfold Chip.conditionRule
  dsimp only
  rw [if_pos (by rw [hterm]; rfl), if_neg (fun h => h hhold)]

/-- A condition rule whose terms are true fires once, where its guard allows it. -/
theorem Chip.conditionRule_fires (hterm : st.1.termResult r = true) (hfresh : st.1.rules.fired.getD n false = false) (hhold : r.hold = 0)
    (hguard : r.guard.testBit t.mode = true) : Chip.conditionRule t st n r = (st.1.setFired n true).fire st.2 n r t.w0 t.code := by
  unfold Chip.conditionRule
  dsimp only
  rw [if_neg (by rw [hterm]; decide), if_neg (by rw [hfresh]; decide), if_pos hhold, if_pos hguard]

/-- One that has fired, or is outside its guard, does nothing. -/
theorem Chip.conditionRule_still (hterm : st.1.termResult r = true)
    (hno : st.1.rules.fired.getD n false = true ∨ r.guard.testBit t.mode = false) (hhold : r.hold = 0) : Chip.conditionRule t st n r = st := by
  unfold Chip.conditionRule
  dsimp only
  rw [if_neg (by rw [hterm]; decide)]
  rcases hno with h | h
  · rw [if_pos h]
  · split
    · rfl
    · rw [h, if_neg Bool.false_ne_true]

end

theorem Chip.termResult_consume (c : Chip) (r : Rule) : (c.consume 2 1).termResult r = c.termResult r := rfl

/-- The block after a sweep of the one rule `n`, at whose entry is no command. -/
theorem Chip.ruleSweep_one {c : Chip} {n : Nat} {r : Rule} (hsweeping : c.sweeping = true) (hread : c.behind c.rings.obsRule = 0)
    (hsets : c.rules.pendingSets = []) (hfill : (c.ring 2).fill ≠ 0) (hhead : c.headCommand = none) (horder : c.rules.order = [n])
    (hrule : c.rules.rules.getD n {} = r) (hen : r.en = true) (hcond : r.condition = true) :
    c.sweepStart.1 = c.consume 2 1 ∧ c.ruleSweep = (Chip.conditionRule c.headTrigger c.sweepStart n r).1 := by
  have hkind := Chip.headTrigger_noCommand hfill hhead
  have hstart := Chip.sweepStart_plain (c := c) (fun h => hkind h.1)
  refine ⟨hstart, ?_⟩
  rw [Chip.ruleSweep_eq hsweeping hread, Chip.sweepHead_eq hsets hfill, horder, List.foldl_cons, List.foldl_nil,
    Chip.sweepRule_condition (by rw [hstart]; exact hrule) hen hkind hcond]

theorem getD_set_self {α : Type} {xs : List α} {n : Nat} (h : n < xs.length) (x d : α) : (xs.set n x).getD n d = x := by
  simp [List.getD_eq_getElem?_getD, h]

theorem Chip.ring2_consumed {c : Chip} (hfill : (c.ring 2).fill ≠ 0) : ((c.consume 2 1).ring 2).tail = (c.ring 2).tail + 1 := by
  rw [Chip.ring_consume _ _ _ (c.ring_lt 2 (fun h => hfill (by rw [h]; rfl)))]
  rfl

/-! ### Timers (08 R374) -/

/-- A counted timer stops and becomes pending. -/
theorem Chip.timerExpired_stops {c : Chip} {t : Nat} (ht : t < 64) (hrunning : (c.keeper.timers.getD t {}).running = true)
    (hdone : (c.keeper.timers.getD t {}).remain = 0) : ((c.timerExpired t).keeper.timers.getD t {}).running = false ∧
      (c.timerExpired t).keeper.pending.any (fun p => p.source == 0x0100 + t) = true := by
  have hlt : t < c.keeper.timers.length := by
    by_contra h
    simp [List.getD_eq_getElem?_getD, List.getElem?_eq_none (Nat.not_lt.mp h)] at hrunning
  unfold Chip.timerExpired
  dsimp only
  rw [if_pos (by rw [decide_eq_true ht, hrunning, decide_eq_true hdone]; rfl), Chip.postSignal_keeper]
  refine ⟨?_, Chip.keeperEvent_pending _ _ _ _ _⟩
  obtain ⟨ps, hk, -⟩ := (c.upTimer t (fun _ => {})).keeperEvent_keeper (0x0100 + t) 0x02 (0x0100 + t) 0
  rw [hk]
  simp [Chip.upTimer, List.getD_eq_getElem?_getD, hlt]

/-- Settles O30: a sweep by the rule it evaluates, an expiry by the timer it stops. -/
theorem rulesAreSweptAndTimed : Obligations.RulesAreSweptAndTimed := by
  refine ⟨fun s n t r hawake hsweeping hheld hread hsets hfill hhead horder hrule hfired hflag ht hcond hhold => ?sweep,
    fun s n t r hawake hsweeping hheld hsets hhead harg horder hrule hflag ht => ?fire, fun s t hawake ht hrunning hdone => ⟨?timer, fun hused => ?hold⟩,
    fun s i hawake hopen => ?host⟩
  case sweep =>
    obtain ⟨hstart, hsweep⟩ := Chip.ruleSweep_one hsweeping hread hsets hfill hhead horder hrule hflag.1 hcond
    have hmode := Chip.headTrigger_mode hheld
    refine ⟨fun hterm hfresh hguard => Gives.run (exec_ruleSweep s) hawake ?_, fun hterm hno => Gives.run (exec_ruleSweep s) hawake ?_,
      fun hterm => Gives.run (exec_ruleSweep s) hawake ?_⟩
    · rw [Chip.follow_rules, hsweep, Chip.conditionRule_fires (by rw [hstart, Chip.termResult_consume, hterm]) (by rw [hstart]; exact hfresh) hhold
        (by rw [hmode]; exact hguard)]
      obtain ⟨x, hx⟩ := Chip.fire_flag hflag (s.chip.sweepStart.1.setFired n true) s.chip.sweepStart.2 n s.chip.headTrigger.w0 s.chip.headTrigger.code
      rw [hx, hstart]
      exact ⟨getD_set_self hfired _ _, setFlag_getLsbD ht _⟩
    · rw [Chip.follow_rules, Chip.ring_follow, hsweep, Chip.conditionRule_still (by rw [hstart, Chip.termResult_consume, hterm])
        (by rw [hstart, hmode]; exact hno) hhold, hstart]
      exact ⟨rfl, Chip.ring2_consumed hfill⟩
    · rw [Chip.follow_rules, Chip.ring_follow, hsweep, Chip.conditionRule_false (by rw [hstart, Chip.termResult_consume, hterm]) hhold, hstart]
      exact ⟨getD_set_self hfired _ _, rfl, Chip.ring2_consumed hfill⟩
  case fire =>
    obtain ⟨hfill, hkind, hcode⟩ := Chip.headCommand_some hhead
    have hkind' : s.chip.headTrigger.kind = 3 := hkind
    have hcode' : s.chip.headTrigger.code = 1 := hcode
    have harg' : s.chip.headTrigger.arg = n := harg
    have hmode := Chip.headTrigger_mode hheld
    have hstart := Chip.sweepStart_plain (c := s.chip) (fun h => absurd (hcode'.symm.trans h.2) (by decide))
    have hgo : exec .ruleFire s = execRuleFire s := rfl
    have hsweep : s.chip.sweepHead = (if r.guard.testBit s.chip.mode then
        s.chip.sweepStart.1.fire s.chip.sweepStart.2 n r s.chip.headTrigger.w0 s.chip.headTrigger.code else s.chip.sweepStart).1 := by
      rw [Chip.sweepHead_eq hsets hfill, horder, List.foldl_cons, List.foldl_nil,
        Chip.sweepRule_fire (by rw [hstart]; exact hrule) hflag.1 ⟨hkind', hcode', harg'⟩, hmode]
    refine ⟨fun hguard => Gives.run hgo hawake ?_, fun hguard => Gives.run hgo hawake ?_⟩
    · rw [if_pos (by rw [hsweeping, decide_eq_true hhead]; rfl), Chip.follow_rules, hsweep, if_pos hguard]
      obtain ⟨x, hx⟩ := Chip.fire_flag hflag s.chip.sweepStart.1 s.chip.sweepStart.2 n s.chip.headTrigger.w0 s.chip.headTrigger.code
      rw [hx]
      exact setFlag_getLsbD ht _
    · rw [if_pos (by rw [hsweeping, decide_eq_true hhead]; rfl), Chip.follow_rules, hsweep, if_neg (by rw [hguard]; decide), hstart]
      rfl
  case timer => exact Gives.run (exec_ruleTimerExpired t s) hawake (Chip.timerExpired_stops ht hrunning hdone)
  case hold =>
    refine Gives.run (exec_holdTimerExpired t s) hawake ?_
    rw [if_pos hused]
    exact Chip.timerExpired_stops ht hrunning hdone
  case host => exact Gives.host (exec_ruleHostEvt i s) hawake hopen rfl

end Sys2Proof.Machine
end

section
/-! SUPPORT. Live changes of the rules, the meters and the theft settings (08 R380-R405). -/

namespace Sys2Proof.Machine

theorem exec_ruleEditArm (s : State) : exec .ruleEditArm s = s.runHost Chip.ruleEditArm := rfl
theorem exec_ruleEnArm (s : State) : exec .ruleEnArm s = s.runHost Chip.ruleEnArm := rfl
theorem exec_ruleMeterArm (s : State) : exec .ruleMeterArm s = s.runHost Chip.ruleMeterArm := rfl
theorem exec_meterSetApply (s : State) : exec .meterSetApply s = s.run Chip.meterSetApply := rfl
theorem exec_ruleFenceArm (s : State) : exec .ruleFenceArm s = s.runHost Chip.ruleFenceArm := rfl
theorem exec_ruleWatchArm (s : State) : exec .ruleWatchArm s = s.runHost Chip.ruleWatchArm := rfl
theorem exec_ruleTheftCfgArm (s : State) : exec .ruleTheftCfgArm s = s.runHost Chip.ruleTheftCfgArm := rfl
theorem exec_ruleSetApply (s : State) : exec .ruleSetApply s = s.run Chip.applySets := rfl

/-! ### A meter's set value (08 R380) -/

theorem Chip.meter_upMeter_ne (c : Chip) {m k : Nat} (h : k ≠ m) (f : Meter → Meter) : (c.upMeter k f).meter m = c.meter m := by
  simp [Chip.meter, Chip.upMeter, List.getD_eq_getElem?_getD, h]

theorem Chip.meter_commitHour_ne (c : Chip) {m k : Nat} (h : k ≠ m) : (c.commitHour k).meter m = c.meter m := by
  unfold Chip.commitHour
  extract_lets x w1 c1
  rw [← Chip.meter_upMeter_ne c h (fun x => { x with committed := x.count, commitDue := false })]
  split
  · rfl
  · exact Chip.meter_of_meters (congrArg Keeper.meters
      (Chip.keeper_of_hide (Chip.hide_journal c1 0x02 0x01 w1 0 false (ps := others .keeper) (by decide)) (by decide))) m

/-- One meter's part of applying the set values. -/
def Chip.meterSetStep (c : Chip) (m : Nat) : Chip := match (c.meter m).pendingSet with
  | none => c
  | some v => (c.upMeter m (fun x => { x with count := v, floor := min x.floor v, pendingSet := none })).commitHour m

theorem Chip.meterSetStep_ne (c : Chip) {m k : Nat} (h : k ≠ m) : (c.meterSetStep k).meter m = c.meter m := by
  unfold Chip.meterSetStep
  split
  · rfl
  · rw [Chip.meter_commitHour_ne _ h, Chip.meter_upMeter_ne _ h]

theorem Chip.meterSetSteps_ne {m : Nat} : ∀ {ks : List Nat}, m ∉ ks → ∀ c : Chip, (ks.foldl Chip.meterSetStep c).meter m = c.meter m
  | [], _, _ => rfl
  | k :: ks, h, c => by
    obtain ⟨hk, hks⟩ : m ≠ k ∧ m ∉ ks := by simpa using h
    rw [List.foldl_cons, Chip.meterSetSteps_ne hks, Chip.meterSetStep_ne _ (Ne.symm hk)]

theorem Chip.meterSetStep_self {c : Chip} {m v : Nat} (h : (c.meter m).pendingSet = some v) :
    ((c.meterSetStep m).meter m).count = v ∧ ((c.meterSetStep m).meter m).pendingSet = none ∧ ((c.meterSetStep m).meter m).committed = v := by
  have hlt : m < c.keeper.meters.length := Chip.meter_lt (fun hm => by simp [hm] at h)
  have hstep : c.meterSetStep m = (c.upMeter m (fun x => { x with count := v, floor := min x.floor v, pendingSet := none })).commitHour m := by
    unfold Chip.meterSetStep
    rw [h]
  rw [hstep, Chip.meter_commitHour (by simpa [Chip.upMeter] using hlt), Chip.meter_upMeter_self hlt]
  exact ⟨rfl, rfl, rfl⟩

/-- Applying the set values takes each meter's own, whatever the others have. -/
theorem Chip.meterSetApply_meter {c : Chip} {m v : Nat} (hm : m < 16) (h : (c.meter m).pendingSet = some v) :
    (c.meterSetApply.meter m).count = v ∧ (c.meterSetApply.meter m).pendingSet = none ∧ (c.meterSetApply.meter m).committed = v := by
  obtain ⟨before, after, hsplit⟩ := List.append_of_mem (List.mem_range.mpr hm)
  have hnodup : (before ++ m :: after).Nodup := hsplit ▸ List.nodup_range
  have happly : c.meterSetApply = (before ++ m :: after).foldl Chip.meterSetStep c := by
    rw [← hsplit]
    rfl
  have hbefore : m ∉ before := fun hmem => (List.nodup_append.mp hnodup).2.2 m hmem m List.mem_cons_self rfl
  have hafter : m ∉ after := (List.nodup_cons.mp (List.nodup_append.mp hnodup).2.1).1
  rw [happly, List.foldl_append, List.foldl_cons, Chip.meterSetSteps_ne hafter]
  exact Chip.meterSetStep_self (by rw [Chip.meterSetSteps_ne hbefore]; exact h)

/-- The block in which an ARM of a meter's value has shown its result. -/
def Chip.meterShown (c : Chip) (res : Nat) : Chip := (c.armLast 0x0C63 res).setFld 0x0C63 3 0 res

theorem Chip.ruleMeterArm_accepted {c : Chip} (h : (c.reg 0x0C62).toNat ≤ meterCeil) :
    c.ruleMeterArm = (c.meterShown 0).upMeter (c.rf 0x0C61 3 0) (fun x => { x with pendingSet := some (c.reg 0x0C62).toNat }) := by
  unfold Chip.ruleMeterArm
  dsimp only
  rw [if_neg (Nat.not_lt.mpr h), if_pos rfl]
  rfl

theorem Chip.ruleMeterArm_refused {c : Chip} (h : meterCeil < (c.reg 0x0C62).toNat) : c.ruleMeterArm = c.meterShown 5 := by
  unfold Chip.ruleMeterArm
  dsimp only
  rw [if_pos h]
  rfl

/-! ### Sets that wait for the end of the sweep (08 R382, R395-R397, R405) -/

theorem Chip.ruleArm_accepted {c : Chip} {res : Nat} (h : res = 0) (arm : Nat) (own : Bool) (set : RuleSet) :
    (c.ruleArm arm res own set).rules = { c.rules with pendingSets := c.rules.pendingSets ++ [set] } := by
  unfold Chip.ruleArm
  dsimp only
  rw [if_pos h]
  cases own <;> rfl

theorem Chip.ruleArm_refused {c : Chip} {res : Nat} (h : res ≠ 0) (arm : Nat) (own : Bool) (set : RuleSet) :
    (c.ruleArm arm res own set).rules = c.rules := by
  unfold Chip.ruleArm
  dsimp only
  rw [if_neg h]
  cases own <;> rfl

/-- A set with a result field of its own shows a refusal there. -/
theorem Chip.ruleArm_shown {c : Chip} {res : Nat} (h : res ≠ 0) (arm : Nat) (set : RuleSet) : (c.ruleArm arm res true set).rf arm 3 0 = res % 16 := by
  have hgo : c.ruleArm arm res true set = (c.armLast arm res).setFld arm 3 0 res := if_neg h
  rw [hgo]
  exact Chip.rf_setFld_self _ _ _ _ _ (by decide) (by decide)

/-- A set that waits alone is applied, and none waits. -/
theorem Chip.applySets_one {c : Chip} {set : RuleSet} (h : c.rules.pendingSets = [set]) :
    c.applySets = (c.upRules (fun x => { x with pendingSets := [] })).applySet set := by
  unfold Chip.applySets
  rw [h]
  rfl

theorem Chip.stopTimer_rules (c : Chip) (t : Nat) : ∃ x, (c.stopTimer t).rules = { c.rules with sigSecond := x } := by
  unfold Chip.stopTimer
  split
  · exact (c.upTimer t (fun _ => {})).postSignal_rules 0x03 (0x50 + t)
  · exact ⟨c.rules.sigSecond, rfl⟩

/-- An edit that is applied stands in the table, which is put in its load order again. -/
theorem Chip.applySet_edit (c : Chip) (n : Nat) (r : Rule) : (c.applySet (.edit n r)).rules.rules = c.rules.rules.set n r ∧
    (c.applySet (.edit n r)).rules.order = (loadOrder (watchMods c.rules.watchSrc) (c.rules.rules.set n r)).1 ∧
    (c.applySet (.edit n r)).rules.pendingSets = c.rules.pendingSets := by
  unfold Chip.applySet
  dsimp only
  split
  · next t _ =>
    obtain ⟨x, hx⟩ := c.stopTimer_rules t
    simp only [Chip.upRules_rules, hx, and_self]
  · exact ⟨rfl, rfl, rfl⟩

/-- Settles O31: each ARM by its check, each application by the set that waits. -/
theorem ruleTableIsEditedBetweenSweeps : Obligations.RuleTableIsEditedBetweenSweeps := by
  refine ⟨fun s n bs r hawake hopen hn hbs hr => ⟨fun hform hcheck => ?edit, fun hform => ?editRefused⟩,
    fun s en p hawake hopen hen hp => ?enables, fun s hawake hopen hlt => ⟨fun hlow => ?meter, fun hhigh => ?meterRefused⟩,
    fun s m v hawake hm hv => ?meterApplied, fun s hawake hopen => ⟨fun hok => ?fence, fun hbad => ?fenceRefused⟩,
    fun s src hawake hopen hsrc => ⟨fun hall horder => ?watch, fun hany => ?watchRefused⟩, fun s hawake hopen hlow hhigh hth => ?theft,
    fun s hawake => ⟨fun th w l hset => ?theftApplied, fun n r hset => ?editApplied⟩⟩
  case edit =>
    refine Gives.host (exec_ruleEditArm s) hawake hopen ?_
    unfold Chip.ruleEditArm
    dsimp only
    rw [← hn, ← hbs, ← hr, if_pos hform, hcheck, Chip.follow_rules, Chip.ruleArm_accepted rfl]
    exact ⟨rfl, rfl⟩
  case editRefused =>
    refine Gives.host (exec_ruleEditArm s) hawake hopen ?_
    unfold Chip.ruleEditArm
    dsimp only
    rw [← hn, ← hbs, if_neg (by rw [hform]; decide), Chip.follow_rules, Chip.ruleArm_refused (show (4 : Nat) ≠ 0 by decide)]
    exact ⟨rfl, rfl, rfl⟩
  case enables =>
    refine Gives.host (exec_ruleEnArm s) hawake hopen ?_
    unfold Chip.ruleEnArm
    dsimp only
    rw [← hen, ← hp, Chip.follow_rules]
    by_cases h : p.1 = 0
    · rw [Chip.ruleArm_accepted h]
      exact ⟨rfl, rfl, fun _ => rfl, fun hne => absurd h hne⟩
    · rw [Chip.ruleArm_refused h]
      exact ⟨rfl, rfl, fun he => absurd he h, fun _ => rfl⟩
  case meter =>
    refine Gives.host (exec_ruleMeterArm s) hawake hopen ?_
    rw [Chip.ruleMeterArm_accepted hlow, Chip.meter_follow, Chip.meter_upMeter_self (c := s.chip.meterShown 0) hlt]
    exact ⟨rfl, Chip.rf_setFld_self _ 0x0C63 3 0 0 (by decide) (by decide)⟩
  case meterRefused =>
    refine Gives.host (exec_ruleMeterArm s) hawake hopen ?_
    rw [Chip.ruleMeterArm_refused hhigh]
    exact ⟨rfl, Chip.rf_setFld_self _ 0x0C63 3 0 5 (by decide) (by decide)⟩
  case meterApplied =>
    refine Gives.run (exec_meterSetApply s) hawake ?_
    simp only [Chip.meter_follow]
    exact Chip.meterSetApply_meter hm hv
  case fence =>
    refine Gives.host (exec_ruleFenceArm s) hawake hopen ?_
    unfold Chip.ruleFenceArm
    dsimp only
    rw [Chip.follow_rules, hok, if_neg Bool.false_ne_true, Chip.ruleArm_accepted rfl]
  case fenceRefused =>
    refine Gives.host (exec_ruleFenceArm s) hawake hopen ?_
    unfold Chip.ruleFenceArm
    dsimp only
    rw [Chip.follow_rules, hbad, if_pos rfl, Chip.ruleArm_refused (show (4 : Nat) ≠ 0 by decide)]
    exact ⟨rfl, Chip.ruleArm_shown (show (4 : Nat) ≠ 0 by decide) _
      (.fence (s.chip.rf 0x0C80 3 0) (Fence.ofBytes (s.chip.bufBytes 0x0C81 35)))⟩
  case watch =>
    refine Gives.host (exec_ruleWatchArm s) hawake hopen ?_
    have hnone : ¬ src.any (fun w => decide (16 < fld w 12 8)) = true := by
      intro h
      obtain ⟨w, hw, hbad⟩ := List.any_eq_true.mp h
      exact absurd (of_decide_eq_true (List.all_eq_true.mp hall w hw)) (Nat.not_le.mpr (of_decide_eq_true hbad))
    unfold Chip.ruleWatchArm
    dsimp only
    rw [← hsrc, if_neg hnone, horder, Chip.follow_rules, Option.isSome_none, if_neg Bool.false_ne_true, Chip.ruleArm_accepted rfl]
  case watchRefused =>
    refine Gives.host (exec_ruleWatchArm s) hawake hopen ?_
    unfold Chip.ruleWatchArm
    dsimp only
    rw [← hsrc, if_pos hany, Chip.follow_rules, Chip.ruleArm_refused (by decide)]
  case theft =>
    refine Gives.host (exec_ruleTheftCfgArm s) hawake hopen ?_
    have hok : ¬ (fld (s.chip.reg 0x0CC1) 27 16 < 10 ∨ 3600 < fld (s.chip.reg 0x0CC1) 27 16 ∨ fld (s.chip.reg 0x0CC1) 3 0 = 0) :=
      not_or.mpr ⟨Nat.not_lt.mpr hlow, not_or.mpr ⟨Nat.not_lt.mpr hhigh, hth⟩⟩
    unfold Chip.ruleTheftCfgArm
    dsimp only
    rw [if_neg hok, Chip.follow_rules, Chip.ruleArm_accepted rfl]
    rfl
  case theftApplied =>
    refine Gives.run (exec_ruleSetApply s) hawake ?_
    rw [Chip.follow_rules, Chip.applySets_one hset]
    exact ⟨rfl, rfl, rfl, rfl⟩
  case editApplied =>
    refine Gives.run (exec_ruleSetApply s) hawake ?_
    rw [Chip.follow_rules, Chip.applySets_one hset]
    exact Chip.applySet_edit _ n r

end Sys2Proof.Machine
end

section
/-! SUPPORT. Sequencers: rounds, samples, overloads and sets (09 R410-R442, 10 R460-R468). -/

namespace Sys2Proof.Machine

/-! ### Sequencers one by one -/

theorem Chip.seq_of_seqs {c d : Chip} (h : c.seqs = d.seqs) (m : Nat) : c.seq m = d.seq m := by
  unfold Chip.seq
  rw [h]

theorem Chip.seq_upSeq_self {c : Chip} {m : Nat} (h : m < c.seqs.length) (f : Sequencer → Sequencer) : (c.upSeq m f).seq m = f (c.seq m) := by
  simp [Chip.seq, Chip.upSeq, List.getD_eq_getElem?_getD, h]

theorem Chip.seqs_length_upSeq (c : Chip) (m : Nat) (f : Sequencer → Sequencer) : (c.upSeq m f).seqs.length = c.seqs.length := by simp [Chip.upSeq]

theorem Chip.upSeq_regs (c : Chip) (m : Nat) (f : Sequencer → Sequencer) : (c.upSeq m f).regs = c.regs := rfl

theorem Chip.armedSet_follow (c w : Chip) (arm : Nat) : (c.follow w).armedSet arm = c.armedSet arm := rfl

theorem Chip.seq_follow (c w : Chip) (m : Nat) : (c.follow w).seq m = c.seq m := rfl

/-- A sequencer that is not as after reset is one of the machine's. -/
theorem Chip.seq_lt {c : Chip} {m : Nat} (h : c.seq m ≠ {}) : m < c.seqs.length := by
  by_contra hm
  exact h (by simp [Chip.seq, List.getD_eq_getElem?_getD, List.getElem?_eq_none (Nat.not_lt.mp hm)])

theorem Chip.frontSettle_seqs (c : Chip) : c.frontSettle.seqs = c.seqs :=
  Chip.seqs_of_hide (Chip.hide_frontSettle c (ps := others .seqs) (by decide)) (by decide)

theorem Chip.seq_frontSettle (c : Chip) (m : Nat) : c.frontSettle.seq m = c.seq m := Chip.seq_of_seqs c.frontSettle_seqs m

/-! ### Rounds (09 R423-R442) -/

/-- A sequencer whose round begins (with no burnish under way). -/
def Sequencer.begun (q : Sequencer) : Sequencer :=
  { q with round := true, gap := false, suspended := false, rounds := q.rounds + 1, slotIndex := 0, slot := q.first }

theorem Chip.seq_newRound {c : Chip} {m : Nat} (h : m < c.seqs.length) (hburnish : c.burnish.under = false) : (c.newRound m).seq m = (c.seq m).begun := by
  rw [Chip.newRound, Chip.seq_upSeq_self h, hburnish]
  rfl

theorem Chip.stealDue_calm {c : Chip} (h : c.burnish.under = false) (m : Nat) : c.stealDue m = false := by
  unfold Chip.stealDue
  rw [h]
  rfl

/-- A slot that nothing keeps from it runs where it is free, and waits elsewhere. -/
theorem Chip.enterSlot_plain {c : Chip} {m n : Nat} (hlisten : (c.seq m).listening = false) (hdue : (c.seq m).listenDue = false)
    (hburnish : c.burnish.under = false) (hskip : c.slotSkipped (c.slotWord m (c.seq m).slot) = false) :
    Chip.enterSlot (n + 1) c m = if c.slotFree m (c.slotWord m (c.seq m).slot) then c.runSlot m else c.upSeq m (fun q => { q with waiting := true }) := by
  unfold Chip.enterSlot
  dsimp only
  rw [hlisten, hdue, Chip.stealDue_calm hburnish, hskip]
  rfl

theorem Chip.runSlot_seq {c : Chip} {m : Nat} (h : m < c.seqs.length) (hset : c.armedSet (0x1200 + m) = none) :
    ((c.runSlot m).seq m).round = (c.seq m).round ∧ ((c.runSlot m).seq m).waiting = false ∧ ((c.runSlot m).seq m).slot = (c.seq m).slot ∧
      ((c.runSlot m).seq m).rounds = (c.seq m).rounds ∧ ((c.runSlot m).seq m).taken = 0 ∧ ((c.runSlot m).seq m).sinceRestart = 0 := by
  unfold Chip.runSlot
  rw [hset]
  dsimp only
  rw [Chip.seq_upSeq_self h]
  exact ⟨rfl, rfl, rfl, rfl, rfl, rfl⟩

theorem exec_seqRoundStart (m : Nat) (s : State) : exec (.seqRoundStart m) s = execSeqRoundStart m s := rfl
theorem exec_chainSample (m : Nat) (x : Int) (sat : Bool) (s : State) : exec (.chainSample m x sat) s = s.run (fun c => c.chainSample m x sat) := rfl
theorem exec_fastPathValue (m : Nat) (x : Int) (s : State) : exec (.fastPathValue m x) s = execFastPathValue m x s := rfl
theorem exec_modOverload (m : Nat) (s : State) : exec (.modOverload m) s = execModOverload m s := rfl
theorem exec_seqArm (m : Nat) (s : State) : exec (.seqArm m) s = execSeqArm m s := rfl

section
variable {c : Chip} {m : Nat} {w : Word} (hopened : (c.seq m).opened = true) (hsusp : (c.seq m).suspended = false) (hconv : c.converterOn = true)
include hopened hsusp hconv

/-- A round start that finds its round running is late. -/
theorem Chip.roundStart_late (hround : (c.seq m).round = true) :
    c.roundStart m = c.upSeq m (fun q => { q with late := satAdd 255 q.late 1, due := q.due + 1 }) := by
  unfold Chip.roundStart
  dsimp only
  rw [hopened, hsusp, hconv, hround]
  rfl

/-- One that finds none begins the round. -/
theorem Chip.roundStart_begins (hround : (c.seq m).round = false) : c.roundStart m = c.beginRound m := by
  unfold Chip.roundStart
  dsimp only
  rw [hopened, hsusp, hconv, hround]
  rfl

variable (hw : w = c.slotWord m (c.seq m).first) (hround : (c.seq m).round = false) (hlisten : (c.seq m).listening = false)
  (hdue : (c.seq m).listenDue = false) (hburnish : c.burnish.under = false) (hskip : c.slotSkipped w = false)
include hw hround hlisten hdue hburnish hskip

/-- A round begins at FIRST, whose slot runs where it is free, and waits elsewhere. -/
theorem Chip.seq_roundStart : (c.roundStart m).seq m =
    (if (c.newRound m).slotFree m w then (c.newRound m).runSlot m else (c.newRound m).upSeq m (fun q => { q with waiting := true })).seq m := by
  have hlt : m < c.seqs.length := Chip.seq_lt (fun h => by simp [h] at hopened)
  have hnew := Chip.seq_newRound hlt hburnish
  have hslot : (c.newRound m).slotWord m ((c.newRound m).seq m).slot = w := by
    rw [hnew, hw]
    rfl
  rw [Chip.roundStart_begins hopened hsusp hconv hround, Chip.beginRound, Chip.seq_frontSettle,
    Chip.enterSlot_plain (c := c.newRound m) (n := 64) (by rw [hnew]; exact hlisten) (by rw [hnew]; exact hdue) hburnish (by rw [hslot]; exact hskip), hslot]

end

/-! ### Samples (10 R460-R468) -/

/-- A modulator that converts is a sequencer's, and its converter is on. -/
theorem Chip.converting_some {c : Chip} {m : Nat} {w : Word} (h : c.converting m = some w) :
    c.converterOn = true ∧ m < c.seqs.length ∧ c.slotWord m (c.seq m).slot = w := by
  unfold Chip.converting at h
  dsimp only at h
  split at h
  · next hon =>
    rw [Bool.and_eq_true] at hon
    refine ⟨hon.1, Chip.seq_lt (fun hq => ?_), Option.some.inj h⟩
    rw [hq] at hon
    exact absurd hon.2 (by decide)
  · cases h

/-- At a sample boundary with no bank swap and no change of the sequence waiting, nothing happens. -/
theorem Chip.atBoundary_still {c : Chip} {m : Nat} (hswap : (c.chain m).swapPending = false) (hopen : (c.seq m).pendingOpen = none) :
    c.atBoundary m = c := by
  unfold Chip.atBoundary
  dsimp only
  rw [hswap, if_neg Bool.false_ne_true, hopen]
  split <;> rfl

theorem Chip.chainSample_taken {c : Chip} {m : Nat} {w : Word} (hm : m < 4) (hconv : c.converting m = some w) (x : Int) (sat : Bool) :
    c.chainSample m x sat = (c.takeSample m x sat).atBoundary m := by
  unfold Chip.chainSample
  rw [if_neg (by simp [(Chip.converting_some hconv).1, hm]), if_pos (by rw [hconv]; rfl)]

/-- A sample that is not settled is counted towards settling and goes nowhere, unless the filter set delivers it. -/
theorem Chip.takeSample_unsettled {c : Chip} {m : Nat} {w : Word} (hconv : c.converting m = some w) {x : Int} {sat : Bool}
    (hsettle : (c.seq m).sinceRestart + 1 < settleCount (slotPreset w)) (hraw : c.runB (0x1200 + m) 8 = false) :
    ((c.takeSample m x sat).seq m).sinceRestart = (c.seq m).sinceRestart + 1 ∧ ((c.takeSample m x sat).seq m).taken = (c.seq m).taken ∧
      ((c.takeSample m x sat).seq m).samples = (c.seq m).samples ∧ ((c.takeSample m x sat).seq m).pendingOpen = (c.seq m).pendingOpen ∧
      (c.takeSample m x sat).rings = c.rings ∧ (c.takeSample m x sat).chains = c.chains := by
  obtain ⟨-, hlt, hw⟩ := Chip.converting_some hconv
  unfold Chip.takeSample
  extract_lets q w' raw n settled counted last code tags c1 c2 c3 c4
  have hw' : w' = w := hw
  have hsettled : settled = false := by
    unfold settled n
    rw [hw']
    exact decide_eq_false (Nat.not_le.mpr hsettle)
  have hcounted : counted = false := by
    unfold counted
    rw [hsettled]
    rfl
  have hlast : last = false := by
    unfold last
    rw [hcounted]
    rfl
  have h4 : c4 = c2 := by
    have h3 : c3 = c2 := if_neg (by rw [hcounted, hraw]; decide)
    have h43 : c4 = c3 := if_neg (by rw [hcounted]; decide)
    rw [h43, h3]
  have hseqs : c2.seqs = c1.seqs := by
    unfold c2
    split <;> rfl
  have hrings : c2.rings = c.rings := by
    unfold c2
    split <;> rfl
  have hchains : c2.chains = c.chains := by
    unfold c2
    split <;> rfl
  rw [hlast, if_neg Bool.false_ne_true, h4, Chip.seq_of_seqs hseqs, Chip.seq_upSeq_self hlt, hrings, hchains]
  refine ⟨rfl, ?_, rfl, rfl, rfl, rfl⟩
  dsimp only
  rw [hcounted]
  rfl

/-- A sample that counts adds to the entry being filled, unless it fills it. -/
theorem Chip.deliver_adds {c : Chip} {m : Nat} (h : m < c.seqs.length) (hroom : (c.seq m).samples.length < 3) (v : Word) :
    c.deliver m v = c.upSeq m (fun q => { q with samples := q.samples ++ [v], index := q.index + 1 }) := by
  unfold Chip.deliver
  dsimp only
  rw [if_neg]
  rw [Chip.seq_upSeq_self h]
  simp
  omega

/-- TAGS of a settled sample that is not its slot's last and holds no awl pulse (R467). -/
theorem sampleTags_bits (bankB gap ovl : Bool) :
    b2n bankB * 64 + b2n true * 32 + b2n gap * 16 + b2n ovl * 4 + b2n false * 2 + b2n false < 256 ∧
    (b2n bankB * 64 + b2n true * 32 + b2n gap * 16 + b2n ovl * 4 + b2n false * 2 + b2n false).testBit 5 = true ∧
    (b2n bankB * 64 + b2n true * 32 + b2n gap * 16 + b2n ovl * 4 + b2n false * 2 + b2n false).testBit 0 = false ∧
    (ovl = true → (b2n bankB * 64 + b2n true * 32 + b2n gap * 16 + b2n ovl * 4 + b2n false * 2 + b2n false).testBit 2 = true) := by
  revert bankB gap ovl
  decide

/-- A settled sample that is not the slot's last: it is counted, and its value with its tags adds to the entry being filled. -/
theorem Chip.takeSample_settled {c : Chip} {m : Nat} {w : Word} (hconv : c.converting m = some w) {x : Int} {sat : Bool}
    (hsettle : settleCount (slotPreset w) ≤ (c.seq m).sinceRestart + 1) (hspan : (c.seq m).awlSpan = 0) (hmore : (c.seq m).taken + 1 < slotRepeat w)
    (hroom : (c.seq m).samples.length < 3) :
    ((c.takeSample m x sat).seq m).taken = (c.seq m).taken + 1 ∧ ((c.takeSample m x sat).seq m).index = (c.seq m).index + 1 ∧
      (∃ tags : Nat, tags < 256 ∧ tags.testBit 5 = true ∧ tags.testBit 0 = false ∧ (sat = true → tags.testBit 2 = true) ∧
        ((c.takeSample m x sat).seq m).samples = (c.seq m).samples ++
          [sampleWord (if slotPreset w = 4 then sx 24 (ux 24 x) else c.corrected m w x) tags]) ∧
      ((c.takeSample m x sat).seq m).pendingOpen = (c.seq m).pendingOpen ∧ (c.takeSample m x sat).chains = c.chains := by
  obtain ⟨-, hlt, hw⟩ := Chip.converting_some hconv
  unfold Chip.takeSample
  extract_lets q w' raw n settled counted last code tags c1 c2 c3 c4
  have hw' : w' = w := hw
  have hsettled : settled = true := by
    unfold settled n
    rw [hw']
    exact decide_eq_true hsettle
  have hspan' : decide (q.awlSpan = 0) = true := decide_eq_true hspan
  have hcounted : counted = true := by
    unfold counted
    rw [hsettled, hspan']
    rfl
  have hlast : last = false := by
    unfold last
    rw [hcounted, hw', decide_eq_false (show ¬ slotRepeat w ≤ q.taken + 1 from Nat.not_le.mpr hmore)]
    rfl
  have htags : tags = b2n ((c.chain m).activeB && !raw) * 64 + b2n true * 32 + b2n (decide (q.tbGap ≠ 0)) * 16 +
      b2n (sat || decide (q.ovlSpan ≠ 0)) * 4 + b2n false * 2 + b2n false := by
    unfold tags
    rw [hsettled, hlast, decide_eq_false (show ¬ q.awlSpan ≠ 0 from not_not.mpr hspan)]
  obtain ⟨hsize, h5, h0, h2⟩ := sampleTags_bits ((c.chain m).activeB && !raw) (decide (q.tbGap ≠ 0)) (sat || decide (q.ovlSpan ≠ 0))
  have h1 : c1.seq m = { q with
      sinceRestart := q.sinceRestart + 1, taken := q.taken + b2n counted, awlSpan := q.awlSpan - 1, tbGap := q.tbGap - 1,
      ovlSpan := if sat then n - 1 else q.ovlSpan - 1 } := Chip.seq_upSeq_self hlt _
  have h2seqs : c2.seqs = c1.seqs := by
    unfold c2
    split <;> rfl
  have h2chains : c2.chains = c.chains := by
    unfold c2
    split <;> rfl
  have hlt2 : m < c2.seqs.length := by
    rw [h2seqs, Chip.seqs_length_upSeq]
    exact hlt
  have hseq2 : c2.seq m = c1.seq m := Chip.seq_of_seqs h2seqs m
  have h3 : c3 = c2.upSeq m (fun q => { q with samples := q.samples ++ [sampleWord code tags], index := q.index + 1 }) := by
    have hgo : c3 = c2.deliver m (sampleWord code tags) := if_pos (by rw [hcounted]; rfl)
    rw [hgo, Chip.deliver_adds hlt2]
    rw [hseq2, h1]
    exact hroom
  have h4 : c4 = ((List.range 8).foldl (Chip.watchStep m q.slot code) c3).finMismatch w' code := if_pos hcounted
  have h43 : c4.hide [.rings, .rules, .regs, .girth] = c3.hide [.rings, .rules, .regs, .girth] := by
    rw [h4, Chip.hide_finMismatch _ _ _ (by decide), Chip.hide_foldl (fun d i => Chip.hide_watchStep m q.slot code d i (by decide))]
  have hend : c4.seq m = c3.seq m := Chip.seq_of_seqs (Chip.seqs_of_hide h43 (by decide)) m
  have hchains : c4.chains = c.chains := by
    rw [Chip.chains_of_hide h43 (by decide), h3]
    exact h2chains
  rw [hlast, if_neg Bool.false_ne_true, hend, h3, Chip.seq_upSeq_self hlt2, hseq2, h1, hchains]
  refine ⟨?_, rfl, ⟨tags, ?_, ?_, ?_, fun hsat => ?_, ?_⟩, rfl, rfl⟩
  · dsimp only
    rw [hcounted]
    rfl
  · rw [htags]; exact hsize
  · rw [htags]; exact h5
  · rw [htags]; exact h0
  · rw [htags]
    exact h2 (by rw [hsat]; rfl)
  · have hcode : code = if slotPreset w = 4 then sx 24 (ux 24 x) else c.corrected m w x := by
      unfold code raw
      rw [hw']
      by_cases hp : slotPreset w = 4
      · rw [if_pos hp, if_pos (decide_eq_true hp)]
      · rw [if_neg hp, if_neg (by simpa using hp)]
    rw [← hcode]

/-! ### Fast values and overloads (09 R410, 10 R462) -/

/-- A value of the fast path goes to its ring at once. -/
theorem Chip.fastValue_sent {c : Chip} {m : Nat} {w : Word} (hconv : c.converting m = some w) (x : Int) :
    ((c.fastValue m x).seq m).fastEseq = (c.seq m).fastEseq + 1 ∧
      (c.fastValue m x).rings = (c.produce 0x04 (12 + m) (c.sampleEntry m (c.seq m).fastEseq 0
        [sampleWord (c.corrected m w x / 4096 * 4096) (128 + b2n (c.chain m).activeB * 64 + b2n (decide ((c.seq m).tbGap ≠ 0)) * 16)])).rings := by
  obtain ⟨-, hlt, -⟩ := Chip.converting_some hconv
  unfold Chip.fastValue
  rw [hconv]
  dsimp only
  have hseqs (e : Entry) : (c.produce 0x04 (12 + m) e).seqs = c.seqs := Chip.noRings_seqs (Chip.noRings_produce _ _ _ _)
  rw [Chip.seq_upSeq_self (by rw [hseqs]; exact hlt), Chip.seq_of_seqs (hseqs _)]
  exact ⟨rfl, rfl⟩

/-- The low bit set leaves the upper half of a word. -/
theorem fld_or_one (w : Word) : fld (w ||| wd 1) 31 16 = fld w 31 16 ∧ fld (w ||| wd 1) 0 0 = 1 := by
  refine ⟨Nat.eq_of_testBit_eq fun i => ?_, fld_or_bit w 0 (by decide)⟩
  have hone : (wd 1).getLsbD (16 + i) = false := by
    rw [wd, BitVec.getLsbD_ofNat, Nat.testBit_one_eq_true_iff_self_eq_zero.not.mpr (by omega) |> Bool.eq_false_iff.mpr, Bool.and_false]
  rw [fld_bit, fld_bit, BitVec.getLsbD_or, hone, Bool.or_false]

/-- An overload restarts settling, and is counted and shown. -/
theorem Chip.overload_counted {c : Chip} {m : Nat} {w : Word} (hconv : c.converting m = some w) :
    ((c.overload m).seq m).sinceRestart = 0 ∧ ((c.overload m).seq m).ovlSpan = settleCount (slotPreset w) ∧
      (c.overload m).rf (0x1008 + m) 31 16 = satAdd 65535 (c.rf (0x1008 + m) 31 16) 1 ∧ (c.overload m).rf (0x1008 + m) 0 0 = 1 := by
  obtain ⟨-, hlt, -⟩ := Chip.converting_some hconv
  unfold Chip.overload
  rw [hconv]
  dsimp only
  generalize hc1 : (c.setFld (0x1008 + m) 31 16 (satAdd 65535 (c.rf (0x1008 + m) 31 16) 1)).setBits (0x1008 + m) 1 = c1
  have hpost := Chip.noRings_produce c1 0x04 0 (entry0 0x04 5 0x0101 false m (slotPos w) 0 0)
  have hlt1 : m < (c1.post0 0x04 5 0x0101 false m (slotPos w) 0 0).seqs.length := by
    rw [Chip.post0, Chip.noRings_seqs hpost, ← hc1]
    exact hlt
  have hreg : ((c1.post0 0x04 5 0x0101 false m (slotPos w) 0 0).upSeq m (fun q => { q with sinceRestart := 0, ovlSpan := settleCount (slotPreset w) })).reg
      (0x1008 + m) = putFld (c.reg (0x1008 + m)) 31 16 (satAdd 65535 (c.rf (0x1008 + m) 31 16) 1) ||| wd 1 := by
    have hregs : (c1.post0 0x04 5 0x0101 false m (slotPos w) 0 0).regs = c1.regs := Chip.noRings_regs hpost
    rw [Chip.reg_of_regs (Chip.upSeq_regs _ _ _), Chip.reg_of_regs hregs, ← hc1, Chip.reg_setBits, if_pos rfl, Chip.reg_setFld, if_pos rfl]
  obtain ⟨hhigh, hlow⟩ := fld_or_one (putFld (c.reg (0x1008 + m)) 31 16 (satAdd 65535 (c.rf (0x1008 + m) 31 16) 1))
  rw [Chip.seq_upSeq_self hlt1]
  refine ⟨rfl, rfl, ?_, ?_⟩
  · rw [Chip.rf, hreg, hhigh, fld_putFld _ _ _ _ (by decide) (by decide)]
    exact Nat.mod_eq_of_lt (by unfold satAdd; omega)
  · rw [Chip.rf, hreg, hlow]

/-! ### Sets of a sequence (09 R425, R426) -/

/-- The block in which an ARM of a unit has shown its result. -/
def Chip.armShown (c : Chip) (arm a hi lo res : Nat) : Chip := (c.armLast arm res).setFld a hi lo res

/-- The block in which the ARM of an accepted set has shown its result and let go of the set it held. -/
def Chip.armTaken (c : Chip) (arm a hi lo res : Nat) : Chip := (c.armShown arm a hi lo res).dropArmed arm

section
variable (c : Chip) (arm a hi lo res : Nat)

theorem Chip.armShown_run : (c.armShown arm a hi lo res).run = c.run := (Chip.setFld_run _ _ _ _ _).trans (Chip.armLast_run _ _ _)
theorem Chip.armShown_seqs : (c.armShown arm a hi lo res).seqs = c.seqs := (Chip.setFld_seqs _ _ _ _ _).trans (Chip.armLast_seqs _ _ _)
theorem Chip.armShown_girth : (c.armShown arm a hi lo res).girth = c.girth := (Chip.setFld_girth _ _ _ _ _).trans (Chip.armLast_girth _ _ _)
theorem Chip.armShown_modes : (c.armShown arm a hi lo res).modes = c.modes := (Chip.setFld_modes _ _ _ _ _).trans (Chip.armLast_modes _ _ _)
theorem Chip.armTaken_run : (c.armTaken arm a hi lo res).run = c.run := (Chip.dropArmed_run _ _).trans (c.armShown_run _ _ _ _ _)
theorem Chip.armTaken_seqs : (c.armTaken arm a hi lo res).seqs = c.seqs := (Chip.dropArmed_seqs _ _).trans (c.armShown_seqs _ _ _ _ _)
theorem Chip.dropArmed_converterOn : (c.dropArmed arm).converterOn = c.converterOn := rfl
theorem Chip.armTaken_converterOn : (c.armTaken arm a hi lo res).converterOn = c.converterOn := by
  rw [Chip.armTaken, Chip.dropArmed_converterOn]
  unfold Chip.converterOn Chip.silent Chip.lane Chip.mode
  rw [Chip.armShown_girth, Chip.armShown_modes]

end

section
variable {c : Chip} {l arm a hi lo res : Nat} (ws : List (Nat × Word)) (apply : Chip → List (Nat × Word) → Chip) (hsilent : c.silent l = false)
include hsilent

theorem Chip.unitArm_refused (hres : res ≠ 0) (ready : Bool) :
    c.unitArm l arm (some (a, hi, lo)) res ws ready apply = c.armShown arm a hi lo res := by
  unfold Chip.unitArm
  rw [hsilent, if_neg Bool.false_ne_true]
  dsimp only
  rw [if_pos hres]
  rfl

theorem Chip.unitArm_waits (hres : res = 0) : c.unitArm l arm (some (a, hi, lo)) res ws false apply = (c.armShown arm a hi lo res).holdSet arm ws := by
  unfold Chip.unitArm
  rw [hsilent, if_neg Bool.false_ne_true]
  dsimp only
  rw [if_neg (not_not.mpr hres), Bool.and_false, if_neg Bool.false_ne_true]
  rfl

theorem Chip.unitArm_applies (hres : res = 0) (hlive : c.live l = true) :
    c.unitArm l arm (some (a, hi, lo)) res ws true apply = apply (c.armTaken arm a hi lo res) ws := by
  have hlive' : ((c.armLast arm res).setFld a hi lo res).live l = true := by
    rw [Chip.live, Chip.lane, Chip.setFld_girth, Chip.armLast_girth]
    exact hlive
  unfold Chip.unitArm
  rw [hsilent, if_neg Bool.false_ne_true]
  dsimp only
  rw [if_neg (not_not.mpr hres), hlive', Bool.and_true, if_pos rfl, Chip.armTaken, Chip.armShown]

end

theorem Chip.silent_of_live {c : Chip} {l : Nat} (h : c.live l = true) : c.silent l = false := by
  have hl : c.lane l = .live := of_decide_eq_true h
  unfold Chip.silent
  rw [hl]
  rfl

theorem Chip.regain_hide (c : Chip) (m : Nat) : (c.regain m).hide [.burnish] = c.hide [.burnish] := by
  unfold Chip.regain
  dsimp only
  split <;> rfl

/-- A sequence that is not open starts nothing; nor does a suspended one. -/
theorem Chip.startSeq_still {c : Chip} {m : Nat} (h : (c.seq m).opened = false ∨ (c.seq m).round = true ∨ (c.seq m).suspended = true) :
    c.startSeq m = c.frontSettle := by
  unfold Chip.startSeq
  dsimp only
  rcases h with h | h | h <;> rw [h] <;> simp

/-- Nor does one whose round is running. -/
theorem Chip.startSeq_running {c d : Chip} (hseqs : d.seqs = c.seqs) {m : Nat} (h : (c.seq m).round = true) : d.startSeq m = d.frontSettle :=
  Chip.startSeq_still (.inr (.inl ((congrArg Sequencer.round (Chip.seq_of_seqs hseqs m)).trans h)))

theorem Chip.applyWords_seqs (c : Chip) (ws : List (Nat × Word)) : (c.applyWords ws).seqs = c.seqs :=
  Chip.seqs_of_hide (Chip.hide_applyWords _ _ (ps := others .seqs) (by decide)) (by decide)

theorem Chip.applyWords_runB {c d : Chip} (h : c.run = d.run) (ws : List (Nat × Word)) (a i : Nat) :
    (c.applyWords ws).runB a i = (d.applyWords ws).runB a i := by
  rw [Chip.runB, Chip.runB, Chip.runW, Chip.runW, applyWords_run ws c d h]

/-- The set of a sequence that stays closed runs. -/
theorem Chip.seqApply_closed {c : Chip} {m : Nat} {ws : List (Nat × Word)} (hclosed : (c.seq m).opened = false)
    (hbit : (c.applyWords ws).runB (0x1000 + m) 0 = false) :
    (Chip.seqApply m c ws).run = (c.applyWords ws).run ∧ ((Chip.seqApply m c ws).seq m).opened = false := by
  unfold Chip.seqApply
  extract_lets was c1 c2
  have hregain : c2.run = c1.run := Chip.run_of_hide (Chip.regain_hide c1 m) (by decide)
  have hrun : c2.run = (c.applyWords ws).run := hregain.trans rfl
  have hseq : c2.seq m = c1.seq m := Chip.seq_of_seqs (Chip.seqs_of_hide (Chip.regain_hide c1 m) (by decide)) m
  have hbit2 : c2.runB (0x1000 + m) 0 = false := by
    rw [Chip.runB, Chip.runW, hrun]
    exact hbit
  have hstill : (c1.seq m).opened = false := by
    by_cases hlt : m < c.seqs.length
    · have h1 : c1.seq m = _ := Chip.seq_upSeq_self (c := c.applyWords ws) (by rw [Chip.applyWords_seqs]; exact hlt) _
      rw [h1]
      exact (congrArg Sequencer.opened (Chip.seq_of_seqs (c.applyWords_seqs ws) m)).trans hclosed
    · rw [Chip.seq, List.getD_eq_getElem?_getD, List.getElem?_eq_none (by rw [Chip.seqs_length_upSeq, Chip.applyWords_seqs]; exact Nat.not_lt.mp hlt)]
      rfl
  have hwas : was = false := hclosed
  rw [hbit2, if_neg Bool.false_ne_true, hwas, if_neg Bool.false_ne_true, hseq]
  exact ⟨hrun, hstill⟩

/-- The set of a sequence that opens with the converter off: it is open, and suspended. -/
theorem Chip.seqApply_opens {c : Chip} {m : Nat} {ws : List (Nat × Word)} (hlt : m < c.seqs.length) (hclosed : (c.seq m).opened = false)
    (hbit : (c.applyWords ws).runB (0x1000 + m) 0 = true) (hoff : c.converterOn = false) :
    ((Chip.seqApply m c ws).seq m).opened = true ∧ ((Chip.seqApply m c ws).seq m).suspended = true ∧
      ((Chip.seqApply m c ws).seq m).first = fld (mget 0 ws (0x1000 + m)) 13 8 ∧
      ((Chip.seqApply m c ws).seq m).period = fld (mget 0 ws (0x1000 + m)) 27 16 := by
  unfold Chip.seqApply
  extract_lets was c1 c2
  have hregain : c2.run = c1.run := Chip.run_of_hide (Chip.regain_hide c1 m) (by decide)
  have hrun : c2.run = (c.applyWords ws).run := hregain.trans rfl
  have hseqs : c2.seqs = c1.seqs := Chip.seqs_of_hide (Chip.regain_hide c1 m) (by decide)
  have h1 : c1.seq m = _ := Chip.seq_upSeq_self (c := c.applyWords ws) (by rw [Chip.applyWords_seqs]; exact hlt) _
  have hbit2 : c2.runB (0x1000 + m) 0 = true := by
    rw [Chip.runB, Chip.runW, hrun]
    exact hbit
  have hoff2 : c2.converterOn = false := by
    have hmodes : c2.modes = c.modes := (Chip.modes_of_hide (Chip.regain_hide c1 m) (by decide)).trans
      (Chip.modes_of_hide (Chip.hide_applyWords c ws (ps := others .modes) (by decide)) (by decide))
    have hgirth : c2.girth = c.girth := (Chip.girth_of_hide (Chip.regain_hide c1 m) (by decide)).trans (c.applyWords_girth ws)
    rw [← hoff]
    unfold Chip.converterOn Chip.silent Chip.lane Chip.mode
    rw [hmodes, hgirth]
  have hlt2 : m < c2.seqs.length := by
    rw [hseqs, Chip.seqs_length_upSeq, Chip.applyWords_seqs]
    exact hlt
  have hwas : was = false := hclosed
  rw [hbit2, if_pos rfl, hwas, if_neg Bool.false_ne_true, Chip.openSeq, Chip.seq_upSeq_self (c := c2.setRun _ _) hlt2]
  refine ⟨rfl, ?_, ?_, ?_⟩
  · exact congrArg (!·) hoff2
  · change (c2.seq m).first = _
    rw [Chip.seq_of_seqs hseqs, h1]
  · change (c2.seq m).period = _
    rw [Chip.seq_of_seqs hseqs, h1]

/-- The code of the check of a sequence fits in its field. -/
theorem seqCheck_lt (word : Nat → Word) (first period : Nat) : seqCheck word first period < 16 := by
  unfold seqCheck
  dsimp only
  split_ifs <;> decide

theorem Chip.armShown_rf (c : Chip) {arm a hi lo res : Nat} (h1 : lo ≤ hi) (h2 : hi < 32) (h : res < 2 ^ (hi - lo + 1)) :
    (c.armShown arm a hi lo res).rf a hi lo = res :=
  (Chip.rf_setFld_self _ _ _ _ _ h1 h2).trans (Nat.mod_eq_of_lt h)

theorem Chip.seqArm_eq {c : Chip} {m res : Nat} {ws : List (Nat × Word)}
    (hres : res = seqCheck (fun i => c.reg (0x1100 + 64 * m + i)) (c.rf (0x1000 + m) 13 8) (c.rf (0x1000 + m) 27 16))
    (hws : ws = c.shadow (0x1000 + m) 1 ++ c.shadow (0x1100 + 64 * m) 64) :
    c.seqArm m = (c.unitArm 0 (0x1000 + m) (some (0x1004 + m, 7, 4)) res ws (!(c.seq m).round) (Chip.seqApply m)).startSeq m := by
  rw [hres, hws]
  rfl

/-- Settles O32: by what a round start, a sample, a fast value, an overload and an ARM do to their sequencer. -/
theorem sequencersRunTheirSlots : Obligations.SequencersRunTheirSlots := by
  refine ⟨fun s m w hawake hm hopened hsusp hconv hw => ⟨fun hround => ?late, fun hround hlisten hdue hburnish hskip hset => ⟨fun hfree => ?runs, fun hfree => ?waits⟩⟩,
    fun s m x sat w q hawake hm hconv hq hswap hpend => ⟨fun hsettle hraw => ?unsettled, fun hsettle hspan hmore hroom => ?settled⟩,
    fun s m x w hawake hm hconv => ⟨?fast, ?overload⟩,
    fun s m res ws hawake hopen hm hsilent hres hws => have hsize : res < 16 := hres ▸ seqCheck_lt _ _ _; ⟨fun hround hbad => ?refused, fun hround hok => ?held, fun hround hok hlive hclosed =>
      ⟨fun hbit => ?closed, fun hlt hbit hoff => ?opens⟩⟩⟩
  case late =>
    have hlt : m < s.chip.seqs.length := Chip.seq_lt (fun h => by simp [h] at hopened)
    refine Gives.run (exec_seqRoundStart m s) hawake ?_
    rw [if_pos hm, Chip.seq_follow, Chip.follow_rings, Chip.roundStart_late hopened hsusp hconv hround, Chip.seq_upSeq_self hlt]
    exact ⟨rfl, rfl⟩
  case runs =>
    have hlt : m < s.chip.seqs.length := Chip.seq_lt (fun h => by simp [h] at hopened)
    refine Gives.run (exec_seqRoundStart m s) hawake ?_
    rw [if_pos hm, Chip.seq_follow, Chip.seq_roundStart hopened hsusp hconv hw hround hlisten hdue hburnish hskip, if_pos hfree]
    obtain ⟨h1, h2, h3, h4, h5, h6⟩ := Chip.runSlot_seq (c := s.chip.newRound m) (m := m) (by rw [Chip.newRound, Chip.seqs_length_upSeq]; exact hlt) hset
    rw [h1, h2, h3, h4, h5, h6, Chip.seq_newRound hlt hburnish]
    exact ⟨rfl, rfl, rfl, rfl, rfl, rfl⟩
  case waits =>
    have hlt : m < s.chip.seqs.length := Chip.seq_lt (fun h => by simp [h] at hopened)
    refine Gives.run (exec_seqRoundStart m s) hawake ?_
    rw [if_pos hm, Chip.seq_follow, Chip.seq_roundStart hopened hsusp hconv hw hround hlisten hdue hburnish hskip, if_neg (by rw [hfree]; decide),
      Chip.seq_upSeq_self (by rw [Chip.newRound, Chip.seqs_length_upSeq]; exact hlt), Chip.seq_newRound hlt hburnish]
    exact ⟨rfl, rfl, rfl⟩
  case unsettled =>
    subst hq
    obtain ⟨h1, h2, h3, h4, h5, h6⟩ := Chip.takeSample_unsettled hconv (x := x) (sat := sat) hsettle hraw
    have hchain : ((s.chip.takeSample m x sat).chain m).swapPending = false := by rw [Chip.chain, h6]; exact hswap
    refine Gives.run (exec_chainSample m x sat s) hawake ?_
    rw [Chip.seq_follow, Chip.follow_rings, Chip.chainSample_taken hm hconv, Chip.atBoundary_still hchain (h4.trans hpend)]
    exact ⟨h1, h2, h3, h5⟩
  case settled =>
    subst hq
    obtain ⟨h1, h2, h3, h4, h5⟩ := Chip.takeSample_settled hconv (x := x) (sat := sat) hsettle hspan hmore hroom
    have hchain : ((s.chip.takeSample m x sat).chain m).swapPending = false := by rw [Chip.chain, h5]; exact hswap
    refine Gives.run (exec_chainSample m x sat s) hawake ?_
    rw [Chip.seq_follow, Chip.chainSample_taken hm hconv, Chip.atBoundary_still hchain (h4.trans hpend)]
    exact ⟨h1, h2, h3⟩
  case fast =>
    refine Gives.run (exec_fastPathValue m x s) hawake ?_
    rw [if_pos hm, Chip.seq_follow, Chip.follow_rings]
    exact Chip.fastValue_sent hconv x
  case overload =>
    refine Gives.run (exec_modOverload m s) hawake ?_
    rw [if_pos hm, Chip.seq_follow]
    exact Chip.overload_counted hconv
  case refused =>
    refine Gives.host (exec_seqArm m s) hawake hopen ?_
    rw [Chip.follow_run, Chip.follow_seqs, Chip.rf, Chip.reg_of_regs (Chip.follow_regs _ _), if_pos hm, Chip.seqArm_eq hres hws,
      Chip.unitArm_refused ws _ hsilent hbad, Chip.startSeq_running (Chip.armShown_seqs _ _ _ _ _ _) hround, Chip.frontSettle_run, Chip.frontSettle_seqs,
      Chip.reg_of_regs (Chip.frontSettle_regs _)]
    exact ⟨Chip.armShown_run _ _ _ _ _ _, Chip.armShown_seqs _ _ _ _ _ _, s.chip.armShown_rf (by decide) (by decide) hsize⟩
  case held =>
    refine Gives.host (exec_seqArm m s) hawake hopen ?_
    rw [Chip.follow_run, Chip.follow_seqs, Chip.armedSet_follow, Chip.rf, Chip.reg_of_regs (Chip.follow_regs _ _), if_pos hm, Chip.seqArm_eq hres hws, hround,
      Bool.not_true, Chip.unitArm_waits ws _ hsilent hok, Chip.startSeq_running (d := (s.chip.armShown (0x1000 + m) (0x1004 + m) 7 4 res).holdSet (0x1000 + m) ws)
        ((Chip.holdSet_seqs _ _ _).trans (Chip.armShown_seqs _ _ _ _ _ _)) hround, Chip.frontSettle_run, Chip.frontSettle_seqs,
      Chip.reg_of_regs (Chip.frontSettle_regs _), Chip.armedSet, Chip.frontSettle_girth]
    rw [Chip.holdSet_run, Chip.holdSet_seqs, Chip.reg_of_regs (Chip.holdSet_regs _ _ _)]
    exact ⟨Chip.armShown_run _ _ _ _ _ _, Chip.armShown_seqs _ _ _ _ _ _, armedSet_holdSet _ _ _, (s.chip.armShown_rf (by decide) (by decide) hsize).trans hok⟩
  case closed =>
    refine Gives.host (exec_seqArm m s) hawake hopen ?_
    obtain ⟨hrun, hstill⟩ := Chip.seqApply_closed (c := s.chip.armTaken (0x1000 + m) (0x1004 + m) 7 4 res)
      (by rw [Chip.seq_of_seqs (Chip.armTaken_seqs _ _ _ _ _ _)]; exact hclosed)
      ((Chip.applyWords_runB (Chip.armTaken_run _ _ _ _ _ _) ws _ _).trans hbit)
    rw [Chip.follow_run, Chip.seq_follow, if_pos hm, Chip.seqArm_eq hres hws, hround, Bool.not_false, Chip.unitArm_applies ws _ hsilent hok hlive,
      Chip.startSeq_still (.inl hstill), Chip.frontSettle_run, Chip.seq_frontSettle, hrun]
    exact ⟨applyWords_run _ _ _ (Chip.armTaken_run _ _ _ _ _ _), hstill⟩
  case opens =>
    refine Gives.host (exec_seqArm m s) hawake hopen ?_
    have hoffTaken : (s.chip.armTaken (0x1000 + m) (0x1004 + m) 7 4 res).converterOn = false := by
      rw [Chip.armTaken_converterOn, hoff]
    have hopened := Chip.seqApply_opens (c := s.chip.armTaken (0x1000 + m) (0x1004 + m) 7 4 res) hlt
      (by rw [Chip.seq_of_seqs (Chip.armTaken_seqs _ _ _ _ _ _)]; exact hclosed)
      ((Chip.applyWords_runB (Chip.armTaken_run _ _ _ _ _ _) ws _ _).trans hbit) hoffTaken
    rw [Chip.seq_follow, if_pos hm, Chip.seqArm_eq hres hws, hround, Bool.not_false, Chip.unitArm_applies ws _ hsilent hok hlive,
      Chip.startSeq_still (.inr (.inr hopened.2.1)), Chip.seq_frontSettle]
    exact hopened

end Sys2Proof.Machine
end

section
/-! SUPPORT. The run-signature classifier and the field inputs (09 R415-R419, R434-R447). -/

namespace Sys2Proof.Machine

/-! ### Listening windows (R434) -/

theorem exec_runListenWindow (s : State) : exec .runListenWindow s = s.run Chip.listenDue := rfl
theorem exec_runWindowEnd (freq amp vib : Nat) (s : State) : exec (.runWindowEnd freq amp vib) s = s.run (fun c => c.windowDone freq amp vib) := rfl
theorem exec_runCfgArm (s : State) : exec .runCfgArm s = s.runHost Chip.runCfgArm := rfl
theorem exec_finSample (i : Nat) (mv : Int) (s : State) : exec (.finSample i mv) s = s.run (fun c => c.finSample i mv) := rfl
theorem exec_fignSample (mv : Int) (s : State) : exec (.fignSample mv) s = s.run (fun c => c.fignSample mv) := rfl
theorem exec_finCfgArm (s : State) : exec .finCfgArm s = s.runHost Chip.finCfgArm := rfl

section
variable {c : Chip} {m : Nat} (hlisten : c.runB 0x1010 30 = true) (hon : c.converterOn = true) (hm : m = c.runF 0x1010 29 28)
include hlisten hon hm

theorem Chip.listenDue_now (hconv : c.converting m = none) (hsteal : (c.seq m).stolen = false) :
    c.listenDue = c.upSeq m (fun q => { q with listening := true, waiting := false }) := by
  subst hm
  unfold Chip.listenDue
  rw [hlisten, hon, if_pos (by rfl)]
  dsimp only
  rw [hconv, hsteal]
  rfl

theorem Chip.listenDue_later (hconv : (c.converting m).isSome = true) : c.listenDue = c.upSeq m (fun q => { q with listenDue := true }) := by
  subst hm
  unfold Chip.listenDue
  rw [hlisten, hon, if_pos (by rfl)]
  dsimp only
  rw [hconv]
  rfl

end

/-! ### The confidence (R435-R438) -/

theorem Chip.setSignal_runSig (c : Chip) (origin sig v : Nat) : (c.setSignal origin sig v).runSig = c.runSig :=
  Chip.runSig_of_hide (Chip.hide_setSignal c origin sig v (ps := others .runSig) (by decide)) (by decide)

theorem Chip.events_runSig (c : Chip) (origin cls : Nat) (idx : Nat → Nat) (n : Nat) :
    ((List.range n).foldl (fun c i => c.event origin cls (idx i) 0) c).runSig = c.runSig :=
  Chip.runSig_of_hide (Chip.hide_foldl (fun d i => Chip.hide_event d origin cls (idx i) 0 (ps := others .runSig) (by decide)) _ _) (by decide)

/-- The confidence takes the level; nothing else of the classifier changes. -/
theorem Chip.setConf_runSig (c : Chip) (l : Nat) : (c.setConf l).runSig = { c.runSig with conf := l } := by
  unfold Chip.setConf
  extract_lets old c1
  have h1 : c1.runSig = { c.runSig with conf := l } := Chip.setSignal_runSig _ _ _ _
  split
  · next h => rw [h]
  · split
    · rw [Chip.events_runSig _ _ _ (fun i => old + 1 + i), h1]
    · rw [Chip.events_runSig _ _ _ (fun i => old - i), h1]

/-- What the classifier holds after a window (R435-R437): a higher level is taken at once, a lower one at the second window in a row. -/
theorem Chip.classify_runSig (c : Chip) (freq amp vib : Nat) :
    (c.classify freq amp vib).runSig.freq = freq ∧ (c.classify freq amp vib).runSig.amp = amp ∧
      (c.runSig.conf ≤ c.runLevel (((freq, amp, vib) :: c.runSig.history).take 8) →
        (c.classify freq amp vib).runSig.conf = c.runLevel (((freq, amp, vib) :: c.runSig.history).take 8)) ∧
      (c.runLevel (((freq, amp, vib) :: c.runSig.history).take 8) < c.runSig.conf → c.runSig.fails = 0 →
        (c.classify freq amp vib).runSig.conf = c.runSig.conf ∧ (c.classify freq amp vib).runSig.fails = 1) ∧
      (c.runLevel (((freq, amp, vib) :: c.runSig.history).take 8) < c.runSig.conf → c.runSig.fails = 1 →
        (c.classify freq amp vib).runSig.conf = c.runLevel (((freq, amp, vib) :: c.runSig.history).take 8)) := by
  unfold Chip.classify
  extract_lets h l old fails c1
  have hf : c1.runSig.freq = freq := rfl
  have ha : c1.runSig.amp = amp := rfl
  have hc : c1.runSig.conf = old := rfl
  have hfails : c1.runSig.fails = if 2 ≤ fails then 0 else fails := rfl
  rcases Nat.lt_trichotomy old l with hlt | heq | hgt
  · rw [if_pos hlt, Chip.setConf_runSig]
    exact ⟨hf, ha, fun _ => rfl, fun h => absurd h (Nat.not_lt_of_gt hlt), fun h => absurd h (Nat.not_lt_of_gt hlt)⟩
  · have hzero : fails = 0 := if_neg (by omega)
    rw [if_neg (by omega), if_neg (by omega)]
    exact ⟨hf, ha, fun _ => hc.trans heq, fun h => absurd h (Nat.not_lt.mpr heq.le), fun h => absurd h (Nat.not_lt.mpr heq.le)⟩
  · have hcount : fails = c.runSig.fails + 1 := if_pos hgt
    rw [if_neg (Nat.not_lt_of_gt hgt)]
    by_cases htwo : 2 ≤ fails
    · rw [if_pos htwo, Chip.setConf_runSig]
      exact ⟨hf, ha, fun _ => rfl, fun _ h0 => absurd htwo (by omega), fun _ _ => rfl⟩
    · rw [if_neg htwo]
      exact ⟨hf, ha, fun h => absurd hgt (Nat.not_lt.mpr h), fun _ h0 => ⟨hc, by rw [hfails, if_neg htwo]; omega⟩, fun _ h1 => absurd htwo (by omega)⟩

theorem Chip.classify_seqs (c : Chip) (freq amp vib : Nat) : (c.classify freq amp vib).seqs = c.seqs :=
  Chip.seqs_of_hide (Chip.hide_classify c freq amp vib (ps := others .seqs) (by decide)) (by decide)

theorem Chip.classify_girth (c : Chip) (freq amp vib : Nat) : (c.classify freq amp vib).girth = c.girth :=
  Chip.girth_of_hide (Chip.hide_classify c freq amp vib (ps := others .girth) (by decide)) (by decide)

/-- The end of a window outside a round, with no set waiting, classifies it and nothing else. -/
theorem Chip.windowDone_classified {c : Chip} {m : Nat} (hm : m = c.runF 0x1010 29 28) (hlisten : (c.seq m).listening = true)
    (hround : (c.seq m).round = false) (harmed : c.armedSet 0x1010 = none) (freq amp vib : Nat) :
    c.windowDone freq amp vib = (c.upSeq m (fun q => { q with listening := false })).classify freq amp vib := by
  subst hm
  have hlt := Chip.seq_lt (c := c) (m := c.runF 0x1010 29 28) (fun h => by simp [h] at hlisten)
  unfold Chip.windowDone
  extract_lets m c1 c2
  have hm : m = c.runF 0x1010 29 28 := rfl
  have harmed1 : c1.armedSet 0x1010 = none := by
    rw [Chip.armedSet, Chip.classify_girth]
    exact harmed
  have h2 : c2 = c1 := by
    unfold c2
    rw [harmed1]
  have hround1 : (c1.seq m).round = false := by
    rw [Chip.seq_of_seqs (Chip.classify_seqs _ _ _ _), Chip.seq_upSeq_self (hm ▸ hlt)]
    exact hround
  rw [if_pos hlisten, h2, hround1, if_neg Bool.false_ne_true]

/-- An applied run-signature set restarts the confidence. -/
theorem Chip.runApply_restarts (c : Chip) (ws : List (Nat × Word)) :
    (c.runApply ws).run = (c.applyWords ws).run ∧ (c.runApply ws).runSig.conf = 0 ∧ (c.runApply ws).runSig.history = [] := by
  unfold Chip.runApply
  rw [Chip.setConf_runSig]
  exact ⟨Chip.run_of_hide (Chip.hide_setConf _ 0 (ps := others .run) (by decide)) (by decide), rfl, rfl⟩

/-! ### Sets of the unit whose words lie elsewhere -/

/-- An ARM shows its result in one word and names itself in another: words elsewhere keep their value. -/
theorem Chip.shadow_armShown {c : Chip} {arm a hi lo res base n : Nat} (ha : a < base ∨ base + n ≤ a) (hl : 0x0023 < base) :
    (c.armShown arm a hi lo res).shadow base n = c.shadow base n := by
  refine Chip.shadow_congr fun i hi => ?_
  rw [Chip.armShown, Chip.reg_setFld, if_neg (by omega), Chip.reg_armLast, if_neg (by omega)]

/-! ### Field inputs (R415-R419) -/

section
variable {c : Chip} {i : Nat} {mv : Int} {b : BitVec 8} (hpowered : ffPowered c.mode = true) (hi : i < 8) (hon : c.runB (0x1C10 + i) 0 = true)
  (hb : b = BitVec.ofNat 8 (2 ^ i))
include hpowered hi hon hb

/-- A sample that differs from the state, as the one before it did, changes the state and sets the input's edge bit. -/
theorem Chip.finSample_changes (hdiffers : (if c.fin.state.getLsbD i then decide (mv < ((c.runF (0x1C10 + i) 23 16 : Nat) : Int) * 250)
      else decide (((c.runF (0x1C10 + i) 31 24 : Nat) : Int) * 250 < mv)) = true) (hbefore : c.fin.lastDiffers.getLsbD i = true) :
    (c.finSample i mv).fin.state = c.fin.state ^^^ b ∧ (c.finSample i mv).reg 0x1C1A = c.reg 0x1C1A ||| wd (2 ^ i) := by
  have hon' : bit (c.runW (0x1C10 + i)) 0 = true := hon
  subst hb
  unfold Chip.finSample
  extract_lets w st hi' lo differs b c1
  have hd : differs = true := hdiffers
  have hfin : c1.fin.state = c.fin.state ^^^ b := rfl
  have hreg : c1.reg 0x1C1A = c.reg 0x1C1A ||| wd (2 ^ i) := by
    rw [Chip.reg_setBits, if_pos rfl]
    rfl
  rw [hpowered, hon', decide_eq_true hi, if_pos (by rfl), hd, hbefore, if_pos (by rfl)]
  split
  · exact ⟨hfin, hreg⟩
  · refine ⟨?_, ?_⟩
    · rw [Chip.fin_of_hide (Chip.hide_setSignal _ _ _ _ (ps := others .fin) (by decide)) (by decide),
        Chip.fin_of_hide (Chip.hide_event _ _ _ _ _ (ps := others .fin) (by decide)) (by decide), hfin]
    · rw [Chip.reg_of_regs (Chip.regs_of_hide (Chip.hide_setSignal _ _ _ _ (ps := others .regs) (by decide)) (by decide)),
        Chip.reg_of_regs (Chip.regs_of_hide (Chip.hide_event _ _ _ _ _ (ps := others .regs) (by decide)) (by decide)), hreg]

/-- The first sample that differs from the state is remembered. -/
theorem Chip.finSample_remembers (hdiffers : (if c.fin.state.getLsbD i then decide (mv < ((c.runF (0x1C10 + i) 23 16 : Nat) : Int) * 250)
      else decide (((c.runF (0x1C10 + i) 31 24 : Nat) : Int) * 250 < mv)) = true) (hbefore : c.fin.lastDiffers.getLsbD i = false) :
    c.finSample i mv = c.upFin (fun f => { f with lastDiffers := f.lastDiffers ||| b }) := by
  have hon' : bit (c.runW (0x1C10 + i)) 0 = true := hon
  subst hb
  unfold Chip.finSample
  extract_lets w st hi' lo differs b c1
  have hd : differs = true := hdiffers
  rw [hpowered, hon', decide_eq_true hi, if_pos (by rfl), hd, hbefore, if_neg (by decide)]
  rfl

/-- A sample that agrees with the state is forgotten. -/
theorem Chip.finSample_agrees (hagrees : (if c.fin.state.getLsbD i then decide (mv < ((c.runF (0x1C10 + i) 23 16 : Nat) : Int) * 250)
      else decide (((c.runF (0x1C10 + i) 31 24 : Nat) : Int) * 250 < mv)) = false) :
    c.finSample i mv = c.upFin (fun f => { f with lastDiffers := f.lastDiffers &&& ~~~b }) := by
  have hon' : bit (c.runW (0x1C10 + i)) 0 = true := hon
  subst hb
  unfold Chip.finSample
  extract_lets w st hi' lo differs b c1
  have hd : differs = false := hagrees
  rw [hpowered, hon', decide_eq_true hi, if_pos (by rfl), hd, Bool.false_and, if_neg (by decide)]
  rfl

end

/-- A sample of FIGN that differs from its state, as the one before it did, changes the state; the change is a keeper event. -/
theorem Chip.fignSample_changes {c : Chip} {mv : Int}
    (hdiffers : (if c.fin.fign then decide (mv < 3000) else decide (5000 < mv)) = true) (hbefore : c.fin.fignDiffers = true) :
    (c.fignSample mv).fin.fign = (!c.fin.fign) ∧ (c.fignSample mv).keeper.pending.any (fun p => p.source == 0x0400) = true := by
  unfold Chip.fignSample
  extract_lets st differs c1
  have hd : differs = true := hdiffers
  rw [hd, hbefore, if_pos (by rfl)]
  constructor
  · rw [Chip.fin_of_hide (Chip.hide_setSignal _ _ _ _ (ps := others .fin) (by decide)) (by decide),
      Chip.fin_of_hide (Chip.hide_keeperEvent _ _ _ _ _ (ps := others .fin) (by decide)) (by decide)]
    rfl
  · rw [Chip.keeper_of_hide (Chip.hide_setSignal _ _ _ _ (ps := others .keeper) (by decide)) (by decide)]
    unfold Chip.keeperEvent
    split
    · next h => exact h
    · simp

theorem Chip.fignSample_agrees {c : Chip} {mv : Int} (hlow : 3000 ≤ mv) (hhigh : mv ≤ 5000) :
    c.fignSample mv = c.upFin (fun f => { f with fignDiffers := false }) := by
  unfold Chip.fignSample
  extract_lets st differs c1
  have hd : differs = false := by
    unfold differs
    rw [decide_eq_false (by omega), decide_eq_false (by omega), ite_self]
  rw [hd, Bool.false_and, if_neg Bool.false_ne_true]

theorem Chip.finConverted_armTaken (c : Chip) (arm a hi lo res i : Nat) : (c.armTaken arm a hi lo res).finConverted i = c.finConverted i := by
  unfold Chip.finConverted Chip.converting Chip.slotWord Chip.runW Chip.seq
  rw [Chip.armTaken_converterOn, Chip.armTaken_seqs, Chip.armTaken_run]

/-- A field-input set with no input under conversion runs whole. -/
theorem Chip.finApply_run {c : Chip} (hfree : (List.range 8).all (fun i => !c.finConverted i) = true) (ws : List (Nat × Word)) :
    (c.finApply ws).run = (c.applyWords ws).run := by
  unfold Chip.finApply
  extract_lets waits c1 rest
  have hwaits (p : Nat × Word) : waits p = false := by
    unfold waits
    by_cases h1 : 0x1C10 ≤ p.1
    · by_cases h2 : p.1 < 0x1C18
      · have hone := List.all_eq_true.mp hfree (p.1 - 0x1C10) (List.mem_range.mpr (by omega))
        rw [Bool.not_eq_true'] at hone
        rw [hone, Bool.and_false]
      · rw [decide_eq_false h2, Bool.and_false, Bool.false_and]
    · rw [decide_eq_false h1, Bool.false_and, Bool.false_and]
  have hrest : rest = [] := List.filter_eq_nil_iff.mpr (fun p _ => by rw [hwaits]; decide)
  have hall : ws.filter (fun p => !waits p) = ws := List.filter_eq_self.mpr (fun p _ => by rw [hwaits]; rfl)
  rw [hrest, if_pos List.isEmpty_nil]
  unfold c1
  rw [hall]
  exact applyWords_run _ _ _ rfl

/-- Settles O33: by the window that opens or closes, and by whether a sample differs from the state it is compared with. -/
theorem runSignatureAndFieldInputsAreClassified : Obligations.RunSignatureAndFieldInputsAreClassified := by
  refine ⟨fun s m hawake hlisten hon hm hlt => ⟨fun hconv hsteal => ?now, fun hconv => ?later⟩,
    fun s freq amp vib m l hawake hm hlisten hround harmed hl => ?window,
    fun s hawake hopen => ⟨fun hsilent hlow => ?runRefused, fun hlive hquiet h1 h2 h3 h4 h5 h6 h7 => ?runApplied⟩,
    fun s i mv b hawake hpowered hi hon hb => ⟨fun hstate hmv => ⟨fun hbefore => ?first, fun hbefore => ?second⟩, fun hstate hmv hbefore => ?falls,
      fun hstate hmv => ?agrees⟩,
    fun s mv hawake => ⟨fun hstate hmv hbefore => ?ignOn, fun hstate hmv hbefore => ?ignOff, fun hlow hhigh => ?ignSame⟩,
    fun s hawake hopen hsilent => ⟨fun hbad => ?finRefused, fun hgood hfree hlive => ?finApplied⟩⟩
  case now =>
    refine Gives.run (exec_runListenWindow s) hawake ?_
    rw [Chip.seq_follow, Chip.listenDue_now hlisten hon hm hconv hsteal, Chip.seq_upSeq_self hlt]
    exact ⟨rfl, rfl⟩
  case later =>
    refine Gives.run (exec_runListenWindow s) hawake ?_
    rw [Chip.seq_follow, Chip.listenDue_later hlisten hon hm hconv, Chip.seq_upSeq_self hlt]
  case window =>
    have hlt := Chip.seq_lt (c := s.chip) (m := m) (fun h => by simp [h] at hlisten)
    refine Gives.run (exec_runWindowEnd freq amp vib s) hawake ?_
    rw [Chip.seq_follow, Chip.follow_runSig, Chip.windowDone_classified hm hlisten hround harmed, Chip.seq_of_seqs (Chip.classify_seqs _ _ _ _),
      Chip.seq_upSeq_self hlt, hl]
    exact ⟨rfl, Chip.classify_runSig _ _ _ _⟩
  case runRefused =>
    refine Gives.host (exec_runCfgArm s) hawake hopen ?_
    have hlow' : fld (s.chip.reg 0x1011) 15 0 < 200 := hlow
    rw [Chip.follow_run, Chip.follow_runSig, Chip.rf, Chip.reg_of_regs (Chip.follow_regs _ _), Chip.runCfgArm, if_pos (.inl hlow'), Chip.unitArm_refused _ _ hsilent (by decide)]
    exact ⟨s.chip.armShown_rf (by decide) (by decide) (by decide), s.chip.armShown_run _ _ _ _ _, (Chip.setFld_runSig _ _ _ _ _).trans (Chip.armLast_runSig _ _ _)⟩
  case runApplied =>
    refine Gives.host (exec_runCfgArm s) hawake hopen ?_
    simp only [Chip.rf] at h1 h2 h3 h4 h5 h6 h7
    rw [Chip.follow_run, Chip.follow_runSig, Chip.runCfgArm, if_neg (by omega), hquiet, Bool.not_false, Chip.unitArm_applies _ _ (Chip.silent_of_live hlive) rfl hlive]
    obtain ⟨hrun, hconf, hhist⟩ := Chip.runApply_restarts (s.chip.armTaken 0x1010 0x1015 3 0 0) (s.chip.shadow 0x1010 3)
    exact ⟨hrun.trans (applyWords_run _ _ _ (Chip.armTaken_run _ _ _ _ _ _)), hconf, hhist⟩
  case first =>
    refine Gives.run (exec_finSample i mv s) hawake ?_
    rw [Chip.follow_fin, Chip.follow_rings, Chip.finSample_remembers hpowered hi hon hb (by rw [hstate]; exact decide_eq_true hmv) hbefore]
    exact ⟨rfl, rfl⟩
  case second =>
    refine Gives.run (exec_finSample i mv s) hawake ?_
    rw [Chip.follow_fin, Chip.reg_of_regs (Chip.follow_regs _ _)]
    exact Chip.finSample_changes hpowered hi hon hb (by rw [hstate]; exact decide_eq_true hmv) hbefore
  case falls =>
    refine Gives.run (exec_finSample i mv s) hawake ?_
    rw [Chip.follow_fin]
    exact (Chip.finSample_changes hpowered hi hon hb (by rw [hstate]; exact decide_eq_true hmv) hbefore).1
  case agrees =>
    refine Gives.run (exec_finSample i mv s) hawake ?_
    rw [Chip.follow_fin, Chip.follow_rings, Chip.finSample_agrees hpowered hi hon hb (by rw [hstate]; exact decide_eq_false (not_lt.mpr hmv))]
    exact ⟨rfl, rfl⟩
  case ignOn =>
    refine Gives.run (exec_fignSample mv s) hawake ?_
    obtain ⟨hfign, hpend⟩ := Chip.fignSample_changes (c := s.chip) (mv := mv) (by rw [hstate]; exact decide_eq_true hmv) hbefore
    rw [Chip.follow_fin, Chip.follow_keeper, hfign, hstate]
    exact ⟨rfl, hpend⟩
  case ignOff =>
    refine Gives.run (exec_fignSample mv s) hawake ?_
    obtain ⟨hfign, -⟩ := Chip.fignSample_changes (c := s.chip) (mv := mv) (by rw [hstate]; exact decide_eq_true hmv) hbefore
    rw [Chip.follow_fin, hfign, hstate]
    rfl
  case ignSame =>
    refine Gives.run (exec_fignSample mv s) hawake ?_
    rw [Chip.follow_fin, Chip.follow_rings, Chip.fignSample_agrees hlow hhigh]
    exact ⟨rfl, rfl⟩
  case finRefused =>
    refine Gives.host (exec_finCfgArm s) hawake hopen ?_
    rw [Chip.follow_run, Chip.rf, Chip.reg_of_regs (Chip.follow_regs _ _), Chip.finCfgArm, if_pos hbad, Chip.unitArm_refused _ _ hsilent (by decide)]
    exact ⟨s.chip.armShown_rf (by decide) (by decide) (by decide), s.chip.armShown_run _ _ _ _ _⟩
  case finApplied =>
    refine Gives.host (exec_finCfgArm s) hawake hopen ?_
    have hnone : (List.range 8).any (fun i => finBad (s.chip.reg (0x1C10 + i))) ≠ true := by
      rw [List.all_eq_true] at hgood
      intro hany
      obtain ⟨i, hi, hbad⟩ := List.any_eq_true.mp hany
      have hone := hgood i hi
      rw [hbad] at hone
      exact absurd hone (by decide)
    rw [Chip.follow_run, Chip.rf, Chip.reg_of_regs (Chip.follow_regs _ _), Chip.finCfgArm, if_neg hnone, Chip.unitArm_applies _ _ hsilent rfl hlive]
    refine ⟨?_, ?_⟩
    · rw [Chip.reg_of_regs (Chip.regs_of_hide (Chip.hide_finApply _ _ (ps := others .regs) (by decide)) (by decide))]
      exact s.chip.armShown_rf (by decide) (by decide) (by decide)
    · rw [Chip.finApply_run (by simp only [Chip.finConverted_armTaken]; exact hfree)]
      exact applyWords_run _ _ _ (Chip.armTaken_run _ _ _ _ _ _)

end Sys2Proof.Machine
end

section
/-! SUPPORT. Awl tests, filter sets and coefficient banks (10 R456, R471-R473, R494, 11 R516-R520). -/

namespace Sys2Proof.Machine

theorem exec_awlTestEnd (m : Nat) (v0 v1 v2 : Int) (s : State) :
    exec (.awlTestEnd m v0 v1 v2) s = s.run (fun c => if m < 4 then c.awlEnd m v0 v1 v2 else c) := rfl
theorem exec_awlCtlArm (s : State) : exec .awlCtlArm s = s.runHost Chip.awlCtlArm := rfl
theorem exec_fltCtlArm (m : Nat) (s : State) : exec (.fltCtlArm m) s = s.runHost (fun c => if m < 4 then c.fltCtlArm m else c) := rfl
theorem exec_fltSwap (mask : Nat) (s : State) : exec (.fltSwap mask) s = s.runHost (fun c => if c.live 0 then c.fltSwap mask else c) := rfl
theorem exec_bankSwap (m : Nat) (s : State) : exec (.bankSwap m) s = s.run (fun c => if (c.chain m).swapPending then c.swapBank m else c) := rfl
theorem exec_fltBankData (w : Word) (s : State) : exec (.fltBankData w) s = s.runHost (fun c => if c.live 0 then c.bankData w else c) := rfl

/-! ### Awl tests (R517-R520) -/

/-- The class of an awl test fits in its field. -/
theorem awlClass_lt (awl opn short : Nat) (high low v0 v1 v2 : Int) : awlClass awl opn short high low v0 v1 v2 < 16 := by
  unfold awlClass
  dsimp only
  split_ifs <;> decide

/-- The words of a pin's test: its results, its class and its fault bit stand in words of their own. -/
theorem Chip.awlWords_reg (c : Chip) {p cls : Nat} (hp : p < 24) (hcls : cls < 16) (w : Word) :
    ((c.setReg (0x1310 + p) w).setFld (0x1328 + p / 8) (4 * (p % 8) + 3) (4 * (p % 8)) cls).reg (0x1310 + p) = w ∧
      ((c.setReg (0x1310 + p) w).setFld (0x1328 + p / 8) (4 * (p % 8) + 3) (4 * (p % 8)) cls).rf (0x1328 + p / 8) (4 * (p % 8) + 3) (4 * (p % 8)) = cls := by
  constructor
  · rw [Chip.reg_setFld, if_neg (by omega), Chip.reg_setReg, if_pos rfl]
  · exact (Chip.rf_setFld_self _ _ _ _ _ (by omega) (by omega)).trans (Nat.mod_eq_of_lt (by
      rw [show 4 * (p % 8) + 3 - 4 * (p % 8) + 1 = 4 by omega]
      exact hcls))

/-- The end of an awl test leaves its results and its class; a fault sets its bit, which is announced once. -/
theorem Chip.awlEnd_leaves {c : Chip} {m p k cls : Nat} {v0 v1 v2 : Int} {w : Word} (hconv : c.converting m = some w) (hawl : (c.seq m).awl = true)
    (hcut : c.girth.converterCut = false) (hp : p = slotPos w) (hpin : p < 24)
    (hk : k = c.runF (0x1308 + p / 16) (2 * (p % 16) + 1) (2 * (p % 16)))
    (hcls : cls = awlClass (slotAwl w) (fld (c.runW (0x1300 + 2 * k)) 31 16) (fld (c.runW (0x1300 + 2 * k)) 15 0)
      (sx 16 (fld (c.runW (0x1301 + 2 * k)) 31 16)) (sx 16 (fld (c.runW (0x1301 + 2 * k)) 15 0)) v0 v1 v2) :
    ((c.awlEnd m v0 v1 v2).seq m).awl = false ∧ (c.awlEnd m v0 v1 v2).rf (0x1328 + p / 8) (4 * (p % 8) + 3) (4 * (p % 8)) = cls ∧
      (c.awlEnd m v0 v1 v2).reg (0x1310 + p) = wd (ux 16 (clampI (-32768) 32767 (v1 - v0)) * 65536 + ux 16 (clampI (-32768) 32767 (divRound v0 10))) ∧
      (cls = 1 → (c.awlEnd m v0 v1 v2).rings = c.rings) ∧ (cls ≠ 1 → (c.awlEnd m v0 v1 v2).rf 0x132B p p = 1) := by
  obtain ⟨-, hlt, -⟩ := Chip.converting_some hconv
  unfold Chip.awlEnd
  rw [hconv]
  dsimp only
  rw [hawl, hcut, if_pos (by rfl), ← hp, ← hk, ← hcls]
  have hsize : cls < 16 := hcls ▸ awlClass_lt _ _ _ _ _ _ _ _
  generalize wd (ux 16 (clampI (-32768) 32767 (v1 - v0)) * 65536 + ux 16 (clampI (-32768) 32767 (divRound v0 10))) = res
  obtain ⟨hres, hfld⟩ := c.awlWords_reg hpin hsize res
  generalize hc1 : (c.setReg (0x1310 + p) res).setFld (0x1328 + p / 8) (4 * (p % 8) + 3) (4 * (p % 8)) cls = c1 at hres hfld
  have hseqs : c1.seqs = c.seqs := by
    rw [← hc1, Chip.setFld_seqs, Chip.setReg_seqs]
  have hrings : c1.rings = c.rings := by
    rw [← hc1, Chip.setFld_rings, Chip.setReg_rings]
  have hdone : ((c1.upSeq m (fun q => { q with awl := false })).seq m).awl = false := by rw [Chip.seq_upSeq_self (hseqs ▸ hlt)]
  split
  · next hstill =>
    exact ⟨hdone, hfld, hres, fun _ => hrings, fun hbad => hstill.resolve_left hbad⟩
  · next hnew =>
    rw [not_or] at hnew
    have hpost := Chip.noRings_produce ((c1.upSeq m (fun q => { q with awl := false })).setBits 0x132B (2 ^ p)) 0x04 0
      (entry0 0x04 1 0x0110 true p cls (ux 32 (v1 - v0)) (ux 32 (clampI (-32768) 32767 (divRound v0 10))))
    have hregs := Chip.noRings_regs hpost
    rw [Chip.protect, Chip.post0, Chip.seq_of_seqs (Chip.noRings_seqs hpost), Chip.rf, Chip.rf, Chip.reg_of_regs hregs, Chip.reg_of_regs hregs,
      Chip.reg_of_regs hregs, Chip.reg_setBits, Chip.reg_setBits, Chip.reg_setBits, if_neg (by omega), if_neg (by omega), if_pos rfl]
    exact ⟨hdone, hfld, hres, fun h => absurd h hnew.1, fun _ => fld_or_bit _ _ (by omega)⟩

/-! ### Coefficient banks (R471-R473, R494) -/

theorem Chip.chain_of_chains {c d : Chip} (h : c.chains = d.chains) (m : Nat) : c.chain m = d.chain m := by
  unfold Chip.chain
  rw [h]

theorem Chip.chain_upChain_self {c : Chip} {m : Nat} (h : m < c.chains.length) (f : Chain → Chain) : (c.upChain m f).chain m = f (c.chain m) := by
  simp [Chip.chain, Chip.upChain, List.getD_eq_getElem?_getD, h]

/-- A chain that is not as after reset is one of the machine's. -/
theorem Chip.chain_lt {c : Chip} {m : Nat} (h : c.chain m ≠ {}) : m < c.chains.length := by
  by_contra hm
  exact h (by simp [Chip.chain, List.getD_eq_getElem?_getD, List.getElem?_eq_none (Nat.not_lt.mp hm)])

theorem Chip.chain_follow (c w : Chip) (m : Nat) : (c.follow w).chain m = c.chain m := rfl

theorem Chip.upSeq_chains (c : Chip) (m : Nat) (f : Sequencer → Sequencer) : (c.upSeq m f).chains = c.chains := rfl

theorem Chip.chain_swapBank {c : Chip} {m : Nat} (h : m < c.chains.length) :
    (c.swapBank m).chain m = { c.chain m with activeB := !(c.chain m).activeB, swapPending := false } := by
  unfold Chip.swapBank
  dsimp only
  rw [Chip.chain_of_chains (Chip.upSeq_chains _ _ _), Chip.chain_upChain_self h]

/-- The swap mask of one chain asks that chain alone. -/
theorem Chip.fltSwap_one (c : Chip) {m : Nat} (h : m < 4) :
    c.fltSwap (2 ^ m) = if (c.chain m).held then c.setBits (0x1208 + m) 1 else c.requestSwap m := by
  unfold Chip.fltSwap
  interval_cases m <;> rfl

theorem Chain.setInactive_banks (x : Chain) (b : List Word) : (x.setInactive b).inactive = b ∧ (x.setInactive b).active = x.active := by
  unfold Chain.setInactive Chain.inactive Chain.active
  cases x.activeB <;> exact ⟨rfl, rfl⟩

theorem Chip.bankData_stored {c : Chip} {w : Word} {m i : Nat} (hm : m = c.rf 0x1210 9 8) (hi : i = c.rf 0x1210 7 0) (hlt : m < c.chains.length)
    (hheld : (c.chain m).held = false) (hin : i < 136) :
    ((c.bankData w).chain m).inactive = (c.chain m).inactive.set i w ∧ ((c.bankData w).chain m).active = (c.chain m).active ∧
      (c.bankData w).rf 0x1210 7 0 = i + 1 := by
  unfold Chip.bankData
  dsimp only
  rw [← hm, ← hi, if_neg (by rw [hheld]; simp; omega), Chip.chain_of_chains (Chip.setFld_chains _ _ _ _ _), Chip.chain_upChain_self hlt,
    Chip.rf_setFld_self _ _ _ _ _ (by decide) (by decide)]
  obtain ⟨hinactive, hactive⟩ := (c.chain m).setInactive_banks ((c.chain m).inactive.set i w)
  exact ⟨hinactive, hactive, Nat.mod_eq_of_lt (by omega)⟩

theorem Chip.bankData_refused {c : Chip} {w : Word} {m i : Nat} (hm : m = c.rf 0x1210 9 8) (hi : i = c.rf 0x1210 7 0)
    (hbad : (c.chain m).held = true ∨ 136 ≤ i) : c.bankData w = c.setBits (0x1208 + m) 2 := by
  unfold Chip.bankData
  dsimp only
  rw [← hm, ← hi, if_pos hbad]

/-- Settles O34: by the words of a pin's test, and by what a filter set, a swap and the data window do to their chain. -/
theorem awlTestsFiltersAndBanksFollowTheirRules : Obligations.AwlTestsFiltersAndBanksFollowTheirRules := by
  refine ⟨fun s m p k cls v0 v1 v2 w hawake hm hconv hawl hcut hp hpin hk hcls => ?test,
    fun s hawake hopen hlive => ?awlSet,
    fun s m hawake hopen hm hsilent => ⟨fun hrate hshift => ?held, fun hrate hshift => ?refused⟩,
    fun s m hawake hopen hm hlt hlive => ⟨fun hheld hconv => ?swapWaits, fun hheld hconv => ?swapNow, fun hheld => ?swapRefused⟩,
    fun s m hawake hpend => ?swapped,
    fun s w m i hawake hopen hlive hm hi hlt => ⟨fun hheld hin => ?stored, fun hbad => ?dataRefused⟩⟩
  case test =>
    refine Gives.run (exec_awlTestEnd m v0 v1 v2 s) hawake ?_
    rw [if_pos hm, Chip.seq_follow, Chip.follow_rings, Chip.rf, Chip.rf, Chip.reg_of_regs (Chip.follow_regs _ _), Chip.reg_of_regs (Chip.follow_regs _ _),
      Chip.reg_of_regs (Chip.follow_regs _ _)]
    exact Chip.awlEnd_leaves hconv hawl hcut hp hpin hk hcls
  case awlSet =>
    refine Gives.host (exec_awlCtlArm s) hawake hopen ?_
    rw [Chip.follow_run, Chip.rf, Chip.reg_of_regs (Chip.follow_regs _ _), Chip.awlCtlArm, Chip.unitArm_applies _ _ (Chip.silent_of_live hlive) rfl hlive,
      Chip.reg_of_regs (Chip.regs_of_hide (Chip.hide_applyWords _ _ (ps := others .regs) (by decide)) (by decide))]
    exact ⟨applyWords_run _ _ _ (Chip.armTaken_run _ _ _ _ _ _), s.chip.armShown_rf (by decide) (by decide) (by decide)⟩
  case held =>
    refine Gives.host (exec_fltCtlArm m s) hawake hopen ?_
    rw [if_pos hm, Chip.follow_run, Chip.armedSet_follow, Chip.rf, Chip.reg_of_regs (Chip.follow_regs _ _), Chip.fltCtlArm, if_neg hrate, hshift, if_neg Bool.false_ne_true, Chip.unitArm_waits _ _ hsilent rfl, Chip.holdSet_run, Chip.reg_of_regs (Chip.holdSet_regs _ _ _)]
    exact ⟨s.chip.armShown_run _ _ _ _ _, armedSet_holdSet _ _ _, s.chip.armShown_rf (by decide) (by decide) (by decide)⟩
  case refused =>
    refine Gives.host (exec_fltCtlArm m s) hawake hopen ?_
    rw [if_pos hm, Chip.follow_run, Chip.follow_girth_armed, Chip.rf, Chip.reg_of_regs (Chip.follow_regs _ _), Chip.fltCtlArm, if_neg hrate, hshift, if_pos rfl, Chip.unitArm_refused _ _ hsilent (by decide), Chip.armShown_girth]
    exact ⟨s.chip.armShown_run _ _ _ _ _, rfl, s.chip.armShown_rf (by decide) (by decide) (by decide)⟩
  case swapWaits =>
    refine Gives.host (exec_fltSwap (2 ^ m) s) hawake hopen ?_
    rw [Chip.chain_follow, if_pos hlive, Chip.fltSwap_one _ hm, hheld, if_neg Bool.false_ne_true, Chip.requestSwap, if_pos hconv,
      Chip.chain_upChain_self hlt]
  case swapNow =>
    refine Gives.host (exec_fltSwap (2 ^ m) s) hawake hopen ?_
    rw [Chip.chain_follow, if_pos hlive, Chip.fltSwap_one _ hm, hheld, if_neg Bool.false_ne_true, Chip.requestSwap, hconv, if_neg (by decide),
      Chip.chain_swapBank hlt]
  case swapRefused =>
    refine Gives.host (exec_fltSwap (2 ^ m) s) hawake hopen ?_
    rw [Chip.follow_chains, Chip.rf, Chip.reg_of_regs (Chip.follow_regs _ _), if_pos hlive, Chip.fltSwap_one _ hm, hheld, if_pos rfl, Chip.setBits_chains,
      Chip.reg_setBits, if_pos rfl]
    exact ⟨rfl, fld_or_bit _ 0 (by decide)⟩
  case swapped =>
    have hlt := Chip.chain_lt (c := s.chip) (m := m) (fun h => by simp [h] at hpend)
    refine Gives.run (exec_bankSwap m s) hawake ?_
    rw [Chip.chain_follow, if_pos hpend, Chip.chain_swapBank hlt]
  case stored =>
    refine Gives.host (exec_fltBankData w s) hawake hopen ?_
    rw [Chip.chain_follow, Chip.rf, Chip.reg_of_regs (Chip.follow_regs _ _), if_pos hlive]
    exact Chip.bankData_stored hm hi hlt hheld hin
  case dataRefused =>
    refine Gives.host (exec_fltBankData w s) hawake hopen ?_
    rw [Chip.follow_chains, Chip.rf, Chip.reg_of_regs (Chip.follow_regs _ _), if_pos hlive, Chip.bankData_refused hm hi hbad, Chip.setBits_chains,
      Chip.reg_setBits, if_pos rfl]
    exact ⟨rfl, fld_or_bit _ 1 (by decide)⟩

end Sys2Proof.Machine
end

section
/-! SUPPORT. Excitation channels, the monitor converter and the pin checks (11 R499-R533). -/

namespace Sys2Proof.Machine

theorem exec_excCodeWrite (ch code : Nat) (s : State) :
    exec (.excCodeWrite ch code) s = s.runHost (fun c => if decide (ch < 4) && c.live 0 then c.excWrite ch code else c) := rfl
theorem exec_deglitchEnd (ch : Nat) (s : State) : exec (.deglitchEnd ch) s = s.run (fun c => c.deglitchEnd ch) := rfl
theorem exec_excCut (ch mv : Nat) (s : State) : exec (.excCut ch mv) s = s.run (fun c => if ch < 4 then c.excCut ch mv else c) := rfl
theorem exec_excCfgArm (ch : Nat) (s : State) : exec (.excCfgArm ch) s = s.runHost (fun c => if ch < 4 then c.excCfgArm ch else c) := rfl
theorem exec_monScan (codes mvs : List Nat) (ex : Nat) (s : State) : exec (.monScan codes mvs ex) s = s.run (fun c => c.monScan codes mvs ex) := rfl
theorem exec_monCtlArm (s : State) : exec .monCtlArm s = s.runHost Chip.monCtlArm := rfl
theorem exec_fldPinArm (s : State) : exec .fldPinArm s = s.runHost Chip.fldPinArm := rfl
theorem exec_fignOpenCheck (mv : Int) (s : State) : exec (.fignOpenCheck mv) s =
    s.run (fun c => if c.runB 0x1C20 1 && !c.fin.fign && decide (2000 < mv) then c.fieldFault 0x030B 0 0 0 0 else c) := rfl
theorem exec_fignSuspect (s : State) : exec .fignSuspect s =
    s.run (fun c => if c.fin.fign && !c.power.fvinPresent then c.fieldFault 0x030C 0 0 0 0 else c) := rfl

/-! ### Channels one by one (R501-R506) -/

theorem Chip.excCh_of_exc {c d : Chip} (h : c.exc = d.exc) (ch : Nat) : c.excCh ch = d.excCh ch := by
  unfold Chip.excCh
  rw [h]

theorem Chip.excCh_upExc_self {c : Chip} {ch : Nat} (h : ch < c.exc.length) (f : ExcChannel → ExcChannel) : (c.upExc ch f).excCh ch = f (c.excCh ch) := by
  simp [Chip.excCh, Chip.upExc, List.getD_eq_getElem?_getD, h]

theorem Chip.excCh_follow (c w : Chip) (ch : Nat) : (c.follow w).excCh ch = c.excCh ch := rfl

/-- A channel that is not as after reset is one of the machine's. -/
theorem Chip.exc_lt {c : Chip} {ch : Nat} (h : c.excCh ch ≠ {}) : ch < c.exc.length := by
  by_contra hm
  exact h (by simp [Chip.excCh, List.getD_eq_getElem?_getD, List.getElem?_eq_none (Nat.not_lt.mp hm)])

theorem Chip.excUpdate_regs (c : Chip) (ch : Nat) : (c.excUpdate ch).regs = c.regs :=
  Chip.regs_of_hide (Chip.hide_excUpdate c ch (ps := others .regs) (by decide)) (by decide)

theorem Chip.excUpdate_run (c : Chip) (ch : Nat) : (c.excUpdate ch).run = c.run :=
  Chip.run_of_hide (Chip.hide_excUpdate c ch (ps := others .run) (by decide)) (by decide)

/-- A channel that is to be driven moves to its new drive code at once, or after a hold when it is driven over a major transition. -/
theorem Chip.excUpdate_wanted {c : Chip} {ch d : Nat} (hlt : ch < c.exc.length) (hwanted : c.excWanted ch = true) (hd : d = (c.excDrive ch).1) :
    ((c.excUpdate ch).excCh ch).driven = true ∧
      ((c.excCh ch).driven = false → ((c.excUpdate ch).excCh ch).drive = d ∧ ((c.excUpdate ch).excCh ch).hold = false) ∧
      ((c.excCh ch).driven = true → (c.excCh ch).hold = false → d / 4096 = (c.excCh ch).drive / 4096 →
        ((c.excUpdate ch).excCh ch).drive = d ∧ ((c.excUpdate ch).excCh ch).hold = false) ∧
      ((c.excCh ch).driven = true → (c.excCh ch).hold = false → d / 4096 ≠ (c.excCh ch).drive / 4096 →
        ((c.excUpdate ch).excCh ch).drive = (c.excCh ch).drive ∧ ((c.excUpdate ch).excCh ch).hold = true) ∧
      ((c.excCh ch).driven = true → (c.excCh ch).hold = true →
        ((c.excUpdate ch).excCh ch).drive = (c.excCh ch).drive ∧ ((c.excUpdate ch).excCh ch).hold = true) := by
  subst hd
  unfold Chip.excUpdate
  dsimp only
  rw [if_pos hwanted, Chip.excCh_upExc_self hlt]
  generalize c.excCh ch = x
  generalize c.excDrive ch = d
  cases hdriven : x.driven with
  | false => simp
  | true =>
    cases hhold : x.hold with
    | true => simp []
    | false => by_cases hsame : d.1 / 4096 = x.drive / 4096 <;> simp [hsame]

theorem Chip.excUpdate_unwanted {c : Chip} {ch : Nat} (hlt : ch < c.exc.length) (hwanted : c.excWanted ch = false) :
    ((c.excUpdate ch).excCh ch).driven = false := by
  unfold Chip.excUpdate
  dsimp only
  rw [hwanted, if_neg Bool.false_ne_true, Chip.excCh_upExc_self hlt]

theorem Chip.excWanted_setReg (c : Chip) (a : Nat) (w : Word) (ch : Nat) : (c.setReg a w).excWanted ch = c.excWanted ch := rfl

theorem Chip.deglitchEnd_steps {c : Chip} {ch : Nat} (hhold : (c.excCh ch).hold = true) (hset : c.armedSet (0x1800 + ch) = none) :
    (c.deglitchEnd ch).excCh ch = { c.excCh ch with hold := false, drive := (c.excDrive ch).1 } := by
  have hlt := Chip.exc_lt (c := c) (ch := ch) (fun h => by simp [h] at hhold)
  unfold Chip.deglitchEnd
  extract_lets c1
  have hset1 : c1.armedSet (0x1800 + ch) = none := hset
  rw [if_pos hhold, hset1]
  dsimp only
  rw [Chip.excCh_upExc_self hlt]

/-- A bit that is set stays set when other bits are. -/
theorem fld_or_keeps {r : Word} {k : Nat} (h : fld r k k = 1) (w : Word) : fld (r ||| w) k k = 1 := by
  have hbit : r.getLsbD (k + 0) = true := by
    simpa [h] using (fld_bit r k k 0).symm
  refine Nat.eq_of_testBit_eq fun i => ?_
  rw [fld_bit, BitVec.getLsbD_or]
  cases i with
  | zero => rw [hbit]; simp
  | succ i => simp [Nat.testBit_succ]

theorem Chip.excFault_exc (c : Chip) (ch kind mv : Nat) : (c.excFault ch kind mv).exc = c.exc :=
  Chip.exc_of_hide (Chip.hide_excFault c ch kind mv (ps := others .exc) (by decide)) (by decide)

theorem Chip.excFault_limit (c : Chip) {ch : Nat} (h : ch < 4) (mv : Nat) : (c.excFault ch 1 mv).rf 0x1809 (4 * ch) (4 * ch) = 1 := by
  unfold Chip.excFault
  dsimp only
  split
  · next hset => exact hset
  · rw [Chip.rf, Chip.protect, Chip.post0, Chip.reg_of_regs (Chip.noRings_regs (Chip.noRings_produce _ _ _ _)), Chip.reg_setBits, if_pos rfl]
    exact fld_or_bit _ _ (by omega)

theorem Chip.excCut_cuts {c : Chip} {ch : Nat} (h : ch < 4) (hdriven : (c.excCh ch).driven = true) (mv : Nat) :
    (c.excCut ch mv).excCh ch = { c.excCh ch with driven := false, hold := false, cut := true } ∧ (c.excCut ch mv).rf 0x1809 (4 * ch) (4 * ch) = 1 := by
  have hlt := Chip.exc_lt (c := c) (ch := ch) (fun h => by simp [h] at hdriven)
  unfold Chip.excCut
  rw [if_pos hdriven, Chip.excCh_of_exc (Chip.excFault_exc _ _ _ _), Chip.excCh_upExc_self hlt]
  exact ⟨rfl, Chip.excFault_limit _ h mv⟩

theorem Chip.excApply_run (ch : Nat) (c : Chip) (ws : List (Nat × Word)) : (Chip.excApply ch c ws).run = (c.applyWords ws).run := by
  unfold Chip.excApply
  extract_lets c1 c2 free
  rw [Chip.excUpdate_run]
  change c2.run = c1.run
  unfold c2
  split <;> rfl

/-- The set of a channel writes no register but the channel's code. -/
theorem Chip.excApply_reg (ch : Nat) (c : Chip) (ws : List (Nat × Word)) {a : Nat} (h : a ≠ 0x1804 + ch) : (Chip.excApply ch c ws).reg a = c.reg a := by
  unfold Chip.excApply
  extract_lets c1 c2 free
  have h1 : c1.regs = c.regs := Chip.regs_of_hide (Chip.hide_applyWords c ws (ps := others .regs) (by decide)) (by decide)
  have h2 : c2.reg a = c.reg a := by
    unfold c2
    split
    · rw [Chip.reg_setReg, if_neg h, Chip.reg_of_regs h1 a]
    · exact Chip.reg_of_regs h1 a
  rw [Chip.reg_of_regs (Chip.excUpdate_regs _ _), ← h2]
  rfl

/-! ### The monitor converter (R511-R514) -/

/-- A fold over a range meets an index once: what holds before it, what the step at it brings, and what the others keep. -/
theorem foldl_range_at {α : Type} (f : α → Nat → α) {I Q : α → Prop} {i : Nat} (hbefore : ∀ d j, j ≠ i → I d → I (f d j)) (hat : ∀ d, I d → Q (f d i))
    (hafter : ∀ d j, j ≠ i → Q d → Q (f d j)) {n : Nat} (hi : i < n) {c : α} (h : I c) : Q ((List.range n).foldl f c) := by
  have hbelow (k : Nat) (hk : k ≤ i) : I ((List.range k).foldl f c) := by
    induction k with
    | zero => exact h
    | succ k ih =>
      rw [List.range_succ, List.foldl_append]
      exact hbefore _ _ (by omega) (ih (by omega))
  induction n with
  | zero => omega
  | succ n ih =>
    rw [List.range_succ, List.foldl_append]
    by_cases hn : i = n
    · subst hn
      exact hat _ (hbelow i (Nat.le_refl i))
    · exact hafter _ _ (Ne.symm hn) (ih (by omega))

/-- The block in which an input of a scan has stored its reading. -/
def Chip.monRead (codes mvs : List Nat) (c : Chip) (i : Nat) : Chip :=
  if c.runB 0x1901 i then c.setReg (0x1910 + i) (wd ((mvs.getD i 0 % 65536) * 65536 + codes.getD i 0 % 4096)) else c

/-- What the reading of an input that is not excluded fails. -/
def Chip.monFound (mvs : List Nat) (excluded : Nat) (c : Chip) (i : Nat) : Option Nat :=
  if c.runB 0x1901 i && !excluded.testBit i then c.monFails i (mvs.getD i 0) else none

theorem Chip.monFails_setReg (c : Chip) (a : Nat) (w : Word) (i mv : Nat) : (c.setReg a w).monFails i mv = c.monFails i mv := rfl

theorem Chip.excFault_reg (c : Chip) (ch kind mv : Nat) {a : Nat} (h : a ≠ 0x1809) : (c.excFault ch kind mv).reg a = c.reg a := by
  unfold Chip.excFault
  dsimp only
  split
  · rfl
  · rw [Chip.protect, Chip.post0, Chip.reg_of_regs (Chip.noRings_regs (Chip.noRings_produce _ _ _ _)), Chip.reg_setBits, if_neg h]

section
variable (codes mvs : List Nat) (ex : Nat) (c : Chip) (j : Nat)

/-- What an input of a scan writes: its reading, and the fault bits. -/
theorem Chip.monInput_reg {a : Nat} (h : a ≠ 0x1809) : (Chip.monInput codes mvs ex c j).reg a = (Chip.monRead codes mvs c j).reg a ∨
    (a = 0x1902 ∧ (Chip.monInput codes mvs ex c j).reg a = (Chip.monRead codes mvs c j).reg a ||| wd (2 ^ j)) := by
  unfold Chip.monInput Chip.monRead
  by_cases hon : c.runB 0x1901 j = true
  · rw [if_pos hon, if_pos hon]
    extract_lets mv c1 f was c2 c3
    have h2 : c2.reg a = c1.reg a := Chip.reg_of_regs (Chip.upMon_regs c1 _) a
    cases f with
    | none => exact .inl h2
    | some kind =>
      dsimp only
      by_cases hwas : was = true
      · rw [if_pos hwas]
        have h3 : c3.reg a = c1.reg a ∨ (a = 0x1902 ∧ c3.reg a = c1.reg a ||| wd (2 ^ j)) := by
          unfold c3
          split
          · exact .inl h2
          · rw [Chip.protect, Chip.post0, Chip.reg_of_regs (Chip.noRings_regs (Chip.noRings_produce _ _ _ _)), Chip.reg_setBits, h2]
            split
            · next ha => exact .inr ⟨ha, by rw [← h2, ha]⟩
            · exact .inl rfl
        split
        · rw [Chip.excFault_reg _ _ _ _ h]
          exact h3
        · exact h3
      · rw [if_neg hwas]
        exact .inl h2
  · rw [if_neg hon, if_neg hon]
    exact .inl rfl

/-- The failed bits after an input: its own by what its reading fails, the others as before. -/
theorem Chip.monInput_failed {i : Nat} (hi : i < 16) : (Chip.monInput codes mvs ex c j).mon.failed.getLsbD i =
    if i = j then (Chip.monFound mvs ex c j).isSome else c.mon.failed.getLsbD i := by
  have hone : (BitVec.ofNat 16 (2 ^ j)).getLsbD i = decide (i = j) := by
    rw [BitVec.getLsbD_ofNat, Nat.testBit_two_pow, decide_eq_true hi, Bool.true_and, decide_eq_decide]
    exact eq_comm
  have hset (x : BitVec 16) : (x ||| BitVec.ofNat 16 (2 ^ j)).getLsbD i = if i = j then true else x.getLsbD i := by
    rw [BitVec.getLsbD_or, hone]
    by_cases h : i = j <;> simp [h]
  have hclear (x : BitVec 16) : (x &&& ~~~(BitVec.ofNat 16 (2 ^ j))).getLsbD i = if i = j then false else x.getLsbD i := by
    rw [BitVec.getLsbD_and, BitVec.getLsbD_not, hone]
    by_cases h : i = j
    · simp [h]
    · simp [h, hi]
  unfold Chip.monInput Chip.monFound
  by_cases hon : c.runB 0x1901 j = true
  · rw [if_pos hon, hon, Bool.true_and]
    extract_lets mv c1 f was c2 c3
    have hf : f = if !ex.testBit j then c.monFails j mv else none := by
      have hread : c1.monFails j mv = c.monFails j mv := Chip.monFails_setReg _ _ _ _ _
      unfold f
      rw [hread]
      cases ex.testBit j <;> rfl
    have h2 : c2.mon.failed.getLsbD i = if i = j then f.isSome else c.mon.failed.getLsbD i := by
      have h1 : c1.mon = c.mon := Chip.setReg_mon c _ _
      rw [← h1]
      change (if f.isSome then _ else _ : BitVec 16).getLsbD i = _
      cases f with
      | none => exact hclear _
      | some kind => exact hset _
    have h3 : c3.mon = c2.mon := by
      unfold c3
      split
      · rfl
      · exact Chip.mon_of_hide (Chip.hide_protect _ _ _ _ _ _ _ (ps := others .mon) (by decide)) (by decide)
    rw [← hf, ← h2]
    cases f with
    | none => rfl
    | some kind =>
      dsimp only
      split
      · split
        · rw [Chip.mon_of_hide (Chip.hide_excFault _ _ _ _ (ps := others .mon) (by decide)) (by decide), h3]
        · rw [h3]
      · rfl
  · rw [if_neg hon, Bool.eq_false_iff.mpr hon, Bool.false_and, if_neg Bool.false_ne_true]
    exact hclear _

/-- An enabled input whose reading fails as the one before it did has its fault bit set. -/
theorem Chip.monInput_faults (hon : c.runB 0x1901 j = true) (hin : 4 ≤ j ∧ j < 16) (hex : ex.testBit j = false)
    (hwas : c.mon.failed.getLsbD j = true) (hfails : (c.monFails j (mvs.getD j 0)).isSome = true) :
    (Chip.monInput codes mvs ex c j).rf 0x1902 j j = 1 := by
  obtain ⟨kind, hkind⟩ := Option.isSome_iff_exists.mp hfails
  unfold Chip.monInput
  rw [if_pos hon]
  extract_lets mv c1 f was c2 c3
  have hf : f = some kind := (if_neg (by rw [hex]; decide)).trans ((Chip.monFails_setReg _ _ _ _ _).trans hkind)
  have hwas' : was = true := (congrArg (fun m => m.failed.getLsbD j) (Chip.setReg_mon c _ _)).trans hwas
  rw [hf]
  dsimp only
  rw [if_pos hwas', if_neg (by omega)]
  unfold c3
  split
  · next hset => exact hset
  · rw [Chip.rf, Chip.protect, Chip.post0, Chip.reg_of_regs (Chip.noRings_regs (Chip.noRings_produce _ _ _ _)), Chip.reg_setBits, if_pos rfl]
    exact fld_or_bit _ _ (by omega)

theorem Chip.monInput_run : (Chip.monInput codes mvs ex c j).run = c.run :=
  Chip.run_of_hide (Chip.hide_monInput codes mvs ex c j (ps := others .run) (by decide)) (by decide)

theorem Chip.monInput_power : (Chip.monInput codes mvs ex c j).power = c.power :=
  Chip.power_of_hide (Chip.hide_monInput codes mvs ex c j (ps := others .power) (by decide)) (by decide)

end

/-- What a scan leaves of an enabled input (R512-R514): its reading; a second failure of its window shows its fault bit; a reading inside it clears
the failure. -/
theorem Chip.monScan_input {c : Chip} {codes mvs : List Nat} {ex i : Nat} (hon : c.converterOn = true) (hcut : c.girth.converterCut = false) (hi : i < 16)
    (hen : c.runB 0x1901 i = true) :
    (c.monScan codes mvs ex).reg (0x1910 + i) = wd ((mvs.getD i 0 % 65536) * 65536 + codes.getD i 0 % 4096) ∧
      (4 ≤ i → ex.testBit i = false → c.mon.failed.getLsbD i = true → (c.monFails i (mvs.getD i 0)).isSome = true →
        (c.monScan codes mvs ex).rf 0x1902 i i = 1) ∧
      (4 ≤ i → c.monFails i (mvs.getD i 0) = none → (c.monScan codes mvs ex).mon.failed.getLsbD i = false) := by
  have hwindow {d : Chip} (hrun : d.run = c.run) (hpower : d.power = c.power) (hin : 4 ≤ i) (mv : Nat) : d.monFails i mv = c.monFails i mv := by
    unfold Chip.monFails Chip.monWindow Chip.runB Chip.runW
    rw [if_neg (Nat.not_lt.mpr hin), if_neg (Nat.not_lt.mpr hin), hrun, hpower]
  have hscan := foldl_range_at (f := Chip.monInput codes mvs ex) (i := i) (n := 16) (c := c)
    (I := fun d => d.run = c.run ∧ d.power = c.power ∧ d.mon.failed.getLsbD i = c.mon.failed.getLsbD i)
    (Q := fun d => d.reg (0x1910 + i) = wd ((mvs.getD i 0 % 65536) * 65536 + codes.getD i 0 % 4096) ∧
      (4 ≤ i → ex.testBit i = false → c.mon.failed.getLsbD i = true → (c.monFails i (mvs.getD i 0)).isSome = true → d.rf 0x1902 i i = 1) ∧
      (4 ≤ i → c.monFails i (mvs.getD i 0) = none → d.mon.failed.getLsbD i = false))
    (fun d j hj ⟨hrun, hpower, hfailed⟩ => ⟨(Chip.monInput_run ..).trans hrun, (Chip.monInput_power ..).trans hpower, by
      rw [Chip.monInput_failed codes mvs ex d j hi, if_neg (Ne.symm hj), hfailed]⟩)
    (fun d ⟨hrun, hpower, hfailed⟩ => ?own) (fun d j hj ⟨hreg, hset, hclear⟩ => ?other) hi ⟨rfl, rfl, rfl⟩
  case own =>
    have hen' : d.runB 0x1901 i = true := by
      rw [Chip.runB, Chip.runW, hrun]
      exact hen
    refine ⟨?_, fun hin hex hwas hfails => Chip.monInput_faults codes mvs ex d i hen' ⟨hin, hi⟩ hex (hfailed.trans hwas) (by
      rw [hwindow hrun hpower hin]; exact hfails), fun hin hpass => ?_⟩
    · rcases Chip.monInput_reg codes mvs ex d i (a := 0x1910 + i) (by omega) with h | ⟨h, -⟩
      · rw [h, Chip.monRead, if_pos hen', Chip.reg_setReg, if_pos rfl]
      · omega
    · rw [Chip.monInput_failed codes mvs ex d i hi, if_pos rfl, Chip.monFound, hwindow hrun hpower hin, hpass, ite_self]
      rfl
  case other =>
    have hread {a : Nat} (ha : a ≠ 0x1910 + j) : (Chip.monRead codes mvs d j).reg a = d.reg a := by
      unfold Chip.monRead
      split
      · rw [Chip.reg_setReg, if_neg ha]
      · rfl
    refine ⟨?_, fun hin hex hwas hfails => ?_, fun hin hpass => ?_⟩
    · rcases Chip.monInput_reg codes mvs ex d j (a := 0x1910 + i) (by omega) with h | ⟨h, -⟩
      · rw [h, hread (by omega), hreg]
      · omega
    · have hbit := hset hin hex hwas hfails
      rcases Chip.monInput_reg codes mvs ex d j (a := 0x1902) (by decide) with h | ⟨-, h⟩
      · rw [Chip.rf, h, hread (by omega)]
        exact hbit
      · rw [Chip.rf, h, hread (by omega)]
        exact fld_or_keeps hbit _
    · rw [Chip.monInput_failed codes mvs ex d j hi, if_neg (Ne.symm hj)]
      exact hclear hin hpass
  unfold Chip.monScan
  rw [hon, hcut, if_pos (by rfl)]
  extract_lets c1 c2
  have h2regs : c2.regs = c1.regs := by
    unfold c2
    split
    · exact Chip.regs_of_hide (Chip.hide_setSignal _ _ _ _ (ps := others .regs) (by decide)) (by decide)
    · rfl
  have h2mon : c2.mon = c1.mon := by
    unfold c2
    split
    · exact Chip.mon_of_hide (Chip.hide_setSignal _ _ _ _ (ps := others .mon) (by decide)) (by decide)
    · rfl
  have hend (d : Chip) (hregs : d.regs = c2.regs) (hmon : d.mon = c2.mon) :
      d.reg (0x1910 + i) = c1.reg (0x1910 + i) ∧ d.rf 0x1902 i i = c1.rf 0x1902 i i ∧ d.mon = c1.mon := by
    have h := hregs.trans h2regs
    exact ⟨Chip.reg_of_regs h _, by rw [Chip.rf, Chip.reg_of_regs h, Chip.rf], hmon.trans h2mon⟩
  split
  · obtain ⟨hreg, hrf, hmon⟩ := hend (c2.upPower (fun p => { p with vcapGood := decide (2800 ≤ mvs.getD 13 0) })) rfl rfl
    rw [hreg, hrf, hmon]
    exact hscan
  · obtain ⟨hreg, hrf, hmon⟩ := hend c2 rfl rfl
    rw [hreg, hrf, hmon]
    exact hscan

/-! ### Sets without a result field, and pin checks -/

/-- The ARM of a unit without a result field on a LIVE lane runs its set at once. -/
theorem Chip.unitArm_bare {c : Chip} {l arm : Nat} (hlive : c.live l = true) (ws : List (Nat × Word)) :
    (c.unitArm l arm none 0 ws true Chip.applyWords).run = (c.applyWords ws).run := by
  have hlive' : (c.armLast arm 0).live l = true := by
    rw [Chip.live, Chip.lane, Chip.armLast_girth]
    exact hlive
  unfold Chip.unitArm
  rw [Chip.silent_of_live hlive, if_neg Bool.false_ne_true]
  dsimp only
  rw [if_neg (by decide), hlive', if_pos (by rfl)]
  exact applyWords_run _ _ _ ((Chip.dropArmed_run _ _).trans (Chip.armLast_run _ _ _))

/-- A fault of the field die shows its bit, new or not. -/
theorem Chip.fieldFault_shown {c : Chip} {code idx r b : Nat} (hcode : faultBit code idx = some (r, b)) (hb : b < 32) (a0 a1 a2 : Nat) :
    (c.fieldFault code idx a0 a1 a2).rf r b b = 1 := by
  by_cases h : c.rf r b b = 1
  · unfold Chip.fieldFault
    rw [hcode]
    dsimp only
    rw [if_pos h, h]
  · have hzero : c.rf r b b = 0 := by
      have hlt : c.rf r b b < 2 := by
        unfold Chip.rf fld
        rw [Nat.sub_self]
        exact Nat.mod_lt _ (by decide)
      omega
    rw [Chip.rf, Chip.fieldFault_sets hcode hzero]
    exact fld_or_bit _ _ hb

/-- Settles O35: by the channel, the scanned input or the pin that each clause is about. -/
theorem excitationMonitorAndPinChecksFollowTheirRules : Obligations.ExcitationMonitorAndPinChecksFollowTheirRules := by
  refine ⟨fun s ch code d hawake hopen hlive hch hlt hd => ⟨fun hwanted => ?off, fun hwanted => ?driven⟩,
    fun s ch mv hawake hch => ⟨fun hhold hset => ?deglitch, fun hdriven => ?cut⟩,
    fun s ch hawake hopen hch hsilent => ⟨fun hbad => ?refused, fun h1 h2 h3 h4 hlive hhold => ?applied⟩,
    fun s codes mvs ex i hawake hon hcut hi hen => ?scan,
    fun s hawake hopen => ⟨fun hlive => ?monSet, fun hlive => ?pinSet⟩,
    fun s mv hawake => ⟨fun hen hfign hmv => ?openPin, fun hmv => ?goodPin, fun hfign hfvin => ?suspect⟩⟩
  case off =>
    refine Gives.host (exec_excCodeWrite ch code s) hawake hopen ?_
    rw [Chip.excCh_follow, Chip.reg_of_regs (Chip.follow_regs _ _), decide_eq_true hch, hlive, if_pos (by rfl), Chip.excWrite,
      Chip.reg_of_regs (Chip.excUpdate_regs _ _), Chip.reg_setReg, if_pos rfl]
    exact ⟨rfl, Chip.excUpdate_unwanted hlt ((Chip.excWanted_setReg _ _ _ _).trans hwanted)⟩
  case driven =>
    refine Gives.host (exec_excCodeWrite ch code s) hawake hopen ?_
    rw [Chip.excCh_follow, Chip.reg_of_regs (Chip.follow_regs _ _), decide_eq_true hch, hlive, if_pos (by rfl), Chip.excWrite,
      Chip.reg_of_regs (Chip.excUpdate_regs _ _), Chip.reg_setReg, if_pos rfl]
    exact ⟨rfl, Chip.excUpdate_wanted (c := s.chip.setReg (0x1804 + ch) (wd (code % 65536))) hlt ((Chip.excWanted_setReg _ _ _ _).trans hwanted) hd⟩
  case deglitch =>
    refine Gives.run (exec_deglitchEnd ch s) hawake ?_
    rw [Chip.excCh_follow]
    exact Chip.deglitchEnd_steps hhold hset
  case cut =>
    refine Gives.run (exec_excCut ch mv s) hawake ?_
    rw [Chip.excCh_follow, Chip.rf, Chip.reg_of_regs (Chip.follow_regs _ _), if_pos hch]
    exact Chip.excCut_cuts hch hdriven mv
  case refused =>
    refine Gives.host (exec_excCfgArm ch s) hawake hopen ?_
    have hbad' : fld (s.chip.reg (0x1800 + ch)) 23 16 = 0 ∨ 200 < fld (s.chip.reg (0x1800 + ch)) 23 16 := hbad
    rw [Chip.follow_run, Chip.follow_exc, Chip.rf, Chip.reg_of_regs (Chip.follow_regs _ _), if_pos hch, Chip.excCfgArm, if_pos hbad', Chip.unitArm_refused _ _ hsilent (by decide)]
    exact ⟨s.chip.armShown_rf (by decide) (by decide) (by decide), s.chip.armShown_run _ _ _ _ _, (Chip.setFld_exc _ _ _ _ _).trans (Chip.armLast_exc _ _ _)⟩
  case applied =>
    refine Gives.host (exec_excCfgArm ch s) hawake hopen ?_
    have hgood : ¬ (fld (s.chip.reg (0x1800 + ch)) 23 16 = 0 ∨ 200 < fld (s.chip.reg (0x1800 + ch)) 23 16) :=
      not_or.mpr ⟨h1, Nat.not_lt.mpr h2⟩
    have hmode : ¬ fld (s.chip.reg (0x1800 + ch)) 9 8 = 3 := h3
    rw [Chip.follow_run, Chip.rf, Chip.reg_of_regs (Chip.follow_regs _ _), if_pos hch, Chip.excCfgArm, if_neg hgood, if_neg hmode, h4, if_neg (fun h => Bool.false_ne_true h.1), hhold, Bool.not_false, Chip.unitArm_applies _ _ hsilent rfl hlive,
      Chip.excApply_run, Chip.excApply_reg _ _ _ (by omega)]
    exact ⟨s.chip.armShown_rf (by decide) (by decide) (by decide), applyWords_run _ _ _ (Chip.armTaken_run _ _ _ _ _ _)⟩
  case scan =>
    refine Gives.run (exec_monScan codes mvs ex s) hawake ?_
    rw [Chip.follow_mon, Chip.rf, Chip.reg_of_regs (Chip.follow_regs _ _), Chip.reg_of_regs (Chip.follow_regs _ _)]
    exact Chip.monScan_input hon hcut hi hen
  case monSet => exact Gives.host (exec_monCtlArm s) hawake hopen (Chip.unitArm_bare hlive _)
  case pinSet => exact Gives.host (exec_fldPinArm s) hawake hopen (Chip.unitArm_bare hlive _)
  case openPin =>
    refine Gives.run (exec_fignOpenCheck mv s) hawake ?_
    rw [Chip.rf, Chip.reg_of_regs (Chip.follow_regs _ _), hen, hfign, decide_eq_true hmv, if_pos (by rfl)]
    exact Chip.fieldFault_shown rfl (by decide) _ _ _
  case goodPin =>
    refine Gives.run (exec_fignOpenCheck mv s) hawake ?_
    rw [Chip.follow_regs, decide_eq_false (not_lt.mpr hmv), Bool.and_false, if_neg Bool.false_ne_true]
  case suspect =>
    refine Gives.run (exec_fignSuspect s) hawake ?_
    rw [Chip.rf, Chip.reg_of_regs (Chip.follow_regs _ _), hfign, hfvin, if_pos (by rfl)]
    exact Chip.fieldFault_shown rfl (by decide) _ _ _

end Sys2Proof.Machine
end

section
/-! SUPPORT. Burnish requests, steps and ends (10 R474-R493). -/

namespace Sys2Proof.Machine

theorem exec_burnishRequest (target mask : Nat) (s : State) : exec (.burnishRequest target mask) s = s.runHost (fun c => (c.burnishReq target mask).1) := rfl
theorem exec_burnishStepEnd (m : Nat) (value mon temp : Int) (s : State) :
    exec (.burnishStepEnd m value mon temp) s = s.run (fun c => if m < 4 then c.stepEnd m value mon temp else c) := rfl

/-- What the first step of a burnish notes. -/
def Burnish.noted (b : Burnish) (active begun : Bool) (first last : Int) : Burnish :=
  { b with active := active, begun := begun, firstTemp := first, lastTemp := last }

/-! ### The first step (R484) -/

/-- The block in which the first step of a burnish has begun, whether or not it begins now. -/
theorem Chip.burnishBegin_notes (c : Chip) : ∃ active begun first last, c.burnishBegin.burnish = c.burnish.noted active begun first last := by
  unfold Chip.burnishBegin
  split
  · dsimp only
    rw [Chip.burnish_of_hide (Chip.hide_burnishRecord _ _ _ _ _ _ (ps := others .burnish) (by decide)) (by decide)]
    exact ⟨true, true, _, _, rfl⟩
  · exact ⟨_, _, _, _, rfl⟩

/-- A burnish that has begun, or that is over, begins no step. -/
theorem Chip.burnishBegin_still {c : Chip} (h : c.burnish.begun = true ∨ c.burnish.under = false) : c.burnishBegin = c := by
  unfold Chip.burnishBegin
  rcases h with h | h <;> rw [h] <;> simp

/-- With a step that runs, a burnish has begun. -/
theorem Chip.burnishBegin_begun {c : Chip} (hunder : c.burnish.under = true) {m : Nat} (hm : m < 4) (hstep : (c.runningStep m).isSome = true) :
    c.burnishBegin.burnish.begun = true := by
  have hany : (List.range 4).any (fun m => (c.runningStep m).isSome) = true := List.any_eq_true.mpr ⟨m, List.mem_range.mpr hm, hstep⟩
  unfold Chip.burnishBegin
  cases hbegun : c.burnish.begun with
  | false =>
    rw [hunder, hany, if_pos (by rfl)]
    dsimp only
    rw [Chip.burnish_of_hide (Chip.hide_burnishRecord _ _ _ _ _ _ (ps := others .burnish) (by decide)) (by decide)]
    rfl
  | true =>
    rw [Bool.not_true, Bool.and_false, Bool.false_and, if_neg Bool.false_ne_true, hbegun]

theorem Chip.excAll_burnish (c : Chip) : c.excAll.burnish = c.burnish :=
  Chip.burnish_of_hide (Chip.hide_excAll c (ps := others .burnish) (by decide)) (by decide)

theorem Chip.frontSettle_notes (c : Chip) : ∃ active begun first last, c.frontSettle.burnish = c.burnish.noted active begun first last := by
  rw [Chip.frontSettle, Chip.excAll_burnish]
  exact c.burnishBegin_notes

theorem Chip.frontSettle_burnish {c : Chip} (h : c.burnish.begun = true ∨ c.burnish.under = false) : c.frontSettle.burnish = c.burnish := by
  rw [Chip.frontSettle, Chip.excAll_burnish, Chip.burnishBegin_still h]

/-- A step that runs runs in a burnish under way. -/
theorem Chip.under_of_runningStep {c : Chip} {m : Nat} {st : BurnishStep} (h : c.runningStep m = some st) : c.burnish.under = true := by
  unfold Chip.runningStep at h
  split at h
  · next hplace =>
    unfold Chip.stepPlace at hplace
    simp only [Bool.and_eq_true] at hplace
    exact hplace.1.1.1.1
  · cases h

/-! ### Requests (R474, R479, R493) -/

section
variable {c : Chip} {target mask : Nat} (hmask : mask % 16 ≠ 0) (htarget : target < 8)
include hmask htarget

theorem Chip.burnishReq_unpowered (hoff : c.converterOn = false) :
    (c.burnishReq target mask).1.burnish = { c.burnish with reqResult := 2 } := by
  unfold Chip.burnishReq
  dsimp only
  rw [if_neg (by omega), hoff, if_pos (by rfl)]
  rfl

/-- A request with no burnish under way begins one. -/
theorem Chip.burnishReq_accepted (hon : c.converterOn = true) (hheld : c.held = false) (hunder : c.burnish.under = false) :
    (c.burnishReq target mask).1.burnish.reqResult = 0 ∧ (c.burnishReq target mask).1.burnish.under = true ∧
      (c.burnishReq target mask).1.burnish.target = target ∧ (c.burnishReq target mask).1.burnish.mask = mask % 16 ∧
      (c.burnishReq target mask).1.burnish.left = c.burnishSteps (target % 4) (mask % 16) ∧ (c.burnishReq target mask).1.burnish.done = [] := by
  unfold Chip.burnishReq
  extract_lets res mask2 scope commit left c1 c2 c3
  rw [if_neg (by omega), hon, hheld, if_neg (by decide), hunder, if_neg Bool.false_ne_true]
  obtain ⟨active, begun, first, last, hb⟩ := Chip.frontSettle_notes { c3 with seqs := c3.seqs.map Sequencer.noSteals }
  have hend (d : Chip) (r : Nat) : (res d r).1.burnish = { d.burnish with reqResult := r } := rfl
  rw [hend, hb]
  exact ⟨rfl, rfl, rfl, rfl, rfl, rfl⟩

/-- A request during a burnish merges into it. -/
theorem Chip.burnishReq_merged (hon : c.converterOn = true) (hheld : c.held = false) (hunder : c.burnish.under = true) :
    (c.burnishReq target mask).1.burnish.reqResult = 1 ∧ (c.burnishReq target mask).1.burnish.under = true ∧
      (c.burnishReq target mask).1.burnish.mask = (c.burnish.mask ||| mask % 16) ∧
      (c.burnishReq target mask).1.burnish.target = 4 * (c.burnish.target / 4 ||| target / 4) + max (c.burnish.target % 4) (target % 4) := by
  unfold Chip.burnishReq
  extract_lets res mask2 scope commit left c1 c2 c3
  rw [if_neg (by omega), hon, hheld, if_neg (by decide), if_pos hunder]
  obtain ⟨active, begun, first, last, hb⟩ := c2.frontSettle_notes
  have h2 : c2.burnish = c1.burnish := by
    unfold c2
    split <;> rfl
  have hend (d : Chip) (r : Nat) : (res d r).1.burnish = { d.burnish with reqResult := r } := rfl
  rw [hend, hb, h2]
  exact ⟨rfl, hunder, rfl, rfl⟩

end

/-! ### Ends of steps (R476, R480-R485) -/

/-- A burnish as it stands once it has ended. -/
def Burnish.ended (b : Burnish) (phase : Nat) : Burnish :=
  { b with active := false, under := false, begun := false, committing := false, left := [], done := [], lastEnd := phase - 1 }

theorem Chip.releaseBanks_burnish (c : Chip) : c.releaseBanks.burnish = c.burnish := rfl

theorem Chip.burnishEnd_burnish {c : Chip} (h : c.burnish.under = true) (phase reason seq : Nat) :
    (c.burnishEnd phase reason seq).burnish = c.burnish.ended phase := by
  unfold Chip.burnishEnd
  extract_lets c1 c2 c3
  have h1 : c1.burnish = c.burnish := (Chip.releaseBanks_burnish _).trans
    (Chip.burnish_of_hide (Chip.hide_burnishRecord c _ _ _ _ _ (ps := others .burnish) (by decide)) (by decide))
  rw [if_pos h, Chip.excAll_burnish, Chip.burnish_of_hide (Chip.hide_event c3 _ _ _ _ (ps := others .burnish) (by decide)) (by decide), ← h1]
  rfl

section
variable {c : Chip} {m : Nat} {exc : Bool}

theorem Chip.afterStep_out (h : c.burnishOut = true) (hunder : c.burnish.under = true) :
    (c.afterStep m exc).burnish = c.burnish.ended 4 := by
  unfold Chip.afterStep
  dsimp only
  rw [if_pos h, Chip.burnishEnd_burnish hunder]

theorem Chip.afterStep_goesOn (h : c.burnishOut = false) (hcommit : c.burnish.target.testBit 2 = true) (hleft : c.burnish.left ≠ []) :
    c.afterStep m exc = c := by
  unfold Chip.afterStep
  dsimp only
  rw [h, if_neg Bool.false_ne_true, hcommit, if_pos rfl, Bool.not_true, Bool.and_false, Bool.false_and, if_neg Bool.false_ne_true,
    if_neg (by simpa using hleft)]

theorem Chip.afterStep_done (h : c.burnishOut = false) (hunder : c.burnish.under = true) (hcommit : c.burnish.target.testBit 2 = false)
    (hleft : c.burnish.left = []) : (c.afterStep m exc).burnish = c.burnish.ended 2 := by
  unfold Chip.afterStep
  extract_lets commit c1 c2
  have hc : commit = false := hcommit
  have h1 : c1.burnish = c.burnish := by
    unfold c1
    rw [hc, if_neg Bool.false_ne_true]
    exact Chip.burnish_of_hide (Chip.hide_burnishSwap c m (ps := others .burnish) (by decide)) (by decide)
  have h2 : c2.burnish = c.burnish := by
    rw [← h1]
    unfold c2
    split
    · exact Chip.burnish_of_hide (Chip.hide_useExc c1 _ (ps := others .burnish) (by decide)) (by decide)
    · rfl
  rw [h, if_neg Bool.false_ne_true, h2, hleft, if_pos List.isEmpty_nil, hc, if_neg Bool.false_ne_true, Chip.burnishEnd_burnish (by rw [h2]; exact hunder), h2]

end

/-- The results of a burnish are judged by the burnish alone. -/
theorem Chip.burnishOut_of_burnish {c d : Chip} (hdone : c.burnish.done = d.burnish.done) (huse : c.burnish.calUse = d.burnish.calUse) :
    c.burnishOut = d.burnishOut := by
  unfold Chip.burnishOut Burnish.excResults Burnish.reading
  rw [hdone, huse]

/-- The block in which the result of a step stands. -/
def Chip.stepDone (c : Chip) (st : BurnishStep) (value mon temp : Int) : Chip :=
  c.burnishBegin.upBurnish (fun b => { b with
    left := b.left.erase st, done := b.done ++ [(st, value, mon)], lastTemp := temp,
    firstTemp := if c.burnishBegin.burnish.done.isEmpty then temp else b.firstTemp })

/-- A step that ends on a modulator with no stolen slot. -/
theorem Chip.stepEnd_eq {c : Chip} {m : Nat} {st : BurnishStep} (hstep : c.runningStep m = some st) (hstolen : (c.seq m).stolen = false)
    (value mon temp : Int) : c.stepEnd m value mon temp = ((c.stepDone st value mon temp).afterStep m st.channel.isSome).frontSettle := by
  have hseqs : c.burnishBegin.seqs = c.seqs := Chip.seqs_of_hide (Chip.hide_burnishBegin c (ps := others .seqs) (by decide)) (by decide)
  unfold Chip.stepEnd
  rw [hstep]
  dsimp only
  rw [Chip.seq_of_seqs hseqs, hstolen, if_neg Bool.false_ne_true]
  rfl

/-- The burnish once the result of a running step stands: what the request gave, and what the first step noted. -/
theorem Chip.stepDone_burnish {c : Chip} {m : Nat} {st : BurnishStep} (hm : m < 4) (hstep : c.runningStep m = some st) (value mon temp : Int) :
    ∃ active first, (c.stepDone st value mon temp).burnish =
      ({ c.burnish with left := c.burnish.left.erase st, done := c.burnish.done ++ [(st, value, mon)] } : Burnish).noted active true first temp := by
  have hbegun := Chip.burnishBegin_begun (Chip.under_of_runningStep hstep) hm (by rw [hstep]; rfl)
  obtain ⟨active, begun, first, last, hb⟩ := c.burnishBegin_notes
  rw [hb] at hbegun
  obtain rfl : begun = true := hbegun
  unfold Chip.stepDone
  rw [Chip.upBurnish_burnish, hb]
  exact ⟨_, _, rfl⟩

/-- Settles O36: by the answer to a request, and by how the burnish stands after a step. -/
theorem burnishRunsItsSteps : Obligations.BurnishRunsItsSteps := by
  refine ⟨fun s target mask hawake hopen => ⟨fun hbad => ?invalid, fun hmask htarget hoff => ?unpowered, fun hmask htarget hon hheld hunder => ?accepted,
      fun hmask htarget hon hheld hunder => ?merged⟩,
    fun s m value mon temp st b hawake hm hstep hstolen hb => ⟨fun hin hcommit hleft => ?goesOn, fun hout => ?abandoned, fun hin hcommit hleft => ?done⟩⟩
  case invalid =>
    refine Gives.host (exec_burnishRequest target mask s) hawake hopen ?_
    rw [Chip.follow_burnish, Chip.burnishReq]
    dsimp only
    rw [if_pos hbad]
    rfl
  case unpowered =>
    refine Gives.host (exec_burnishRequest target mask s) hawake hopen ?_
    rw [Chip.follow_burnish, Chip.burnishReq_unpowered hmask htarget hoff]
  case accepted =>
    refine Gives.host (exec_burnishRequest target mask s) hawake hopen ?_
    rw [Chip.follow_burnish]
    exact Chip.burnishReq_accepted hmask htarget hon hheld hunder
  case merged =>
    refine Gives.host (exec_burnishRequest target mask s) hawake hopen ?_
    rw [Chip.follow_burnish]
    exact Chip.burnishReq_merged hmask htarget hon hheld hunder
  all_goals
    refine Gives.run (exec_burnishStepEnd m value mon temp s) hawake ?_
    rw [if_pos hm, Chip.follow_burnish, Chip.stepEnd_eq hstep hstolen]
    obtain ⟨active, first, hdone⟩ := Chip.stepDone_burnish hm hstep value mon temp
    have hunder : (s.chip.stepDone st value mon temp).burnish.under = true := by
      rw [hdone]
      exact Chip.under_of_runningStep hstep
    have hsame : (s.chip.stepDone st value mon temp).burnishOut = ({ s.chip with burnish := b } : Chip).burnishOut :=
      Chip.burnishOut_of_burnish (by rw [hdone, hb]; rfl) (by rw [hdone, hb]; rfl)
    rw [← hb] at hdone
  case goesOn =>
    have hbegun : (s.chip.stepDone st value mon temp).burnish.begun = true := by rw [hdone]; rfl
    rw [Chip.afterStep_goesOn (hsame.trans hin) (by rw [hdone]; exact hcommit) (by rw [hdone]; exact hleft), Chip.frontSettle_burnish (.inl hbegun), hunder,
      hbegun, hdone]
    exact ⟨rfl, rfl, rfl, rfl, rfl⟩
  case abandoned =>
    have hend := Chip.afterStep_out (m := m) (exc := st.channel.isSome) (hsame.trans hout) hunder
    rw [Chip.frontSettle_burnish (.inr (by rw [hend]; rfl)), hend]
    exact ⟨rfl, rfl, rfl⟩
  case done =>
    have hend := Chip.afterStep_done (m := m) (exc := st.channel.isSome) (hsame.trans hin) hunder (by rw [hdone]; exact hcommit) (by rw [hdone]; exact hleft)
    rw [Chip.frontSettle_burnish (.inr (by rw [hend]; rfl)), hend]
    exact ⟨rfl, rfl, rfl⟩

end Sys2Proof.Machine
end

section
/-! SUPPORT. Fixes, captures, search passes and the keep (12 R541-R573). -/

namespace Sys2Proof.Machine

theorem exec_snapshotCaptureStart (n : Word) (s : State) : exec (.snapshotCaptureStart n) s = execSnapshotCaptureStart n s := rfl
theorem exec_snapshotCaptureEnd (samples : List Byte) (blanks : List (Nat × Nat)) (g1 g5 : Nat) (s : State) :
    exec (.snapshotCaptureEnd samples blanks g1 g5) s = s.run (fun c => c.captureEnd samples blanks g1 g5) := rfl
theorem exec_liveBlockComplete (samples : List Byte) (s : State) : exec (.liveBlockComplete samples) s = execLiveBlockComplete samples s := rfl
theorem exec_acqPassEnd (e pnr : Nat) (code : Word) (dop : Int) (cn0 : Nat) (s : State) :
    exec (.acqPassEnd e pnr code dop cn0) s = s.run (fun c => c.passEnd e pnr code dop cn0) := rfl
theorem exec_snapshotSolution (sol : Solution) (s : State) : exec (.snapshotSolution sol) s = s.run (fun c => c.snapshotSolution sol) := rfl
theorem exec_trackingBurstEnd (s : State) : exec .trackingBurstEnd s = s.run Chip.burstEnd := rfl
theorem exec_gacqKeepCommit (s : State) : exec .gacqKeepCommit s = s.runHost Chip.keepCommit := rfl
theorem exec_gacqKeepClear (s : State) : exec .gacqKeepClear s = s.runHost Chip.keepClear := rfl
theorem exec_gacqRfArm (s : State) : exec .gacqRfArm s = s.runHost Chip.gacqRfArm := rfl
theorem exec_gacqPlanArm (s : State) : exec .gacqPlanArm s = s.runHost Chip.gacqPlanArm := rfl

/-! ### The end of a fix (R567) -/

/-- The acquisition unit once its fix has ended. -/
def Acq.ended (a : Acq) (reason : Nat) : Acq :=
  { a with
    state := .idle, phase := 0, reason := reason, fixSnap := a.snapId, tasks := [], engines := List.replicate 32 none,
    wantBurst := false, fellBack := false, retaken := false, liveBlock := 0, burstSolved := false }

theorem Chip.leaveFix_acq (c : Chip) : c.leaveFix.acq = c.acq := Chip.acq_of_hide (Chip.hide_leaveFix c (ps := others .acq) (by decide)) (by decide)

theorem Chip.endFix_acq (c : Chip) (reason : Nat) : (c.endFix reason).acq = c.acq.ended reason := by
  unfold Chip.endFix
  extract_lets c1 c2 a3 c3 c4 c5
  have happlied (d : Chip) (arm : Nat) : ((d.armedSet arm).elim d (fun a => (d.applyWords a.words).dropArmed arm)).acq = d.acq :=
    Chip.acq_of_hide (Chip.hide_elim (ps := others .acq) (fun a => by
      rw [Chip.hide_dropArmed _ _ (by decide), Chip.hide_applyWords _ _ (by decide)]) (d.armedSet arm)) (by decide)
  have h2 : c2.acq = c.acq := (Chip.acq_of_hide (Chip.hide_event c1 _ _ _ _ (ps := others .acq) (by decide)) (by decide)).trans
    (Chip.noRings_acq (Chip.noRings_produce c _ _ _))
  have h3 : c3.acq = c.acq.ended reason := by
    rw [← h2]
    rfl
  rw [Chip.leaveFix_acq, happlied c4, happlied c3, h3]

theorem Chip.endFix_track (c : Chip) (reason : Nat) : (c.endFix reason).track = c.track :=
  Chip.track_of_hide (Chip.hide_endFix c reason (ps := others .track) (by decide)) (by decide)

/-! ### The engine pool (R549) -/

/-- Tasks after at most `k` grants: the same tasks in the same order, each with at most `k` passes fewer to grant. -/
def Granted (k : Nat) (ts us : List Machine.Task) : Prop :=
  us.length = ts.length ∧ ∀ (i : Nat) (t : Machine.Task), ts[i]? = some t → ∃ p, us[i]? = some { t with passesLeft := p } ∧ t.passesLeft ≤ p + k

theorem Granted.refl (ts : List Machine.Task) : Granted 0 ts ts := ⟨rfl, fun _ t h => ⟨t.passesLeft, h, Nat.le_refl _⟩⟩

theorem Granted.trans {j k : Nat} {ts us vs : List Machine.Task} (h : Granted j ts us) (h' : Granted k us vs) : Granted (j + k) ts vs := by
  refine ⟨h'.1.trans h.1, fun i t ht => ?_⟩
  obtain ⟨p, hp, hpj⟩ := h.2 i t ht
  obtain ⟨q, hq, hqk⟩ := h'.2 i _ hp
  dsimp only at hqk
  exact ⟨q, hq, by omega⟩

theorem Granted.mono {j k : Nat} (hjk : j ≤ k) {ts us : List Machine.Task} (h : Granted j ts us) : Granted k ts us :=
  ⟨h.1, fun i t ht => let ⟨p, hp, hpj⟩ := h.2 i t ht; ⟨p, hp, by omega⟩⟩

theorem grantEngine_granted (a : List Machine.Task × List (Option Nat)) (e : Nat) : Granted 1 a.1 (grantEngine a e).1 := by
  unfold grantEngine
  split
  · split
    · next n hn =>
      refine ⟨List.length_modify .., fun i t ht => ?_⟩
      by_cases hi : n = i
      · subst hi
        exact ⟨t.passesLeft - 1, by simp [ht], by omega⟩
      · exact ⟨t.passesLeft, by simp [ht, hi], by omega⟩
    · exact (Granted.refl _).mono (by omega)
  · exact (Granted.refl _).mono (by omega)

theorem foldl_grantEngine_granted (es : List Nat) (a : List Machine.Task × List (Option Nat)) : Granted es.length a.1 (es.foldl grantEngine a).1 := by
  induction es generalizing a with
  | nil => exact Granted.refl _
  | cons e es ih =>
    rw [List.foldl_cons, List.length_cons, Nat.add_comm]
    exact (grantEngine_granted a e).trans (ih _)

/-- A grant changes the tasks and engines of the unit alone. -/
theorem Chip.grant_eq (c : Chip) : ∃ ts es, c.grant = { c with acq := { c.acq with tasks := ts, engines := es } } ∧ Granted 32 c.acq.tasks ts := by
  unfold Chip.grant
  split
  · exact ⟨_, _, rfl, foldl_grantEngine_granted (List.range 32) (c.acq.tasks, c.acq.engines)⟩
  · exact ⟨_, _, rfl, (Granted.refl _).mono (by omega)⟩

theorem Chip.grant_acq (c : Chip) (a : Acq) : ∃ ts es, ({ c with acq := a } : Chip).grant.acq = { a with tasks := ts, engines := es } ∧
    Granted 32 a.tasks ts := by
  obtain ⟨ts, es, hgrant, htasks⟩ := Chip.grant_eq { c with acq := a }
  exact ⟨ts, es, by rw [hgrant], htasks⟩

/-! ### Captures (R551, R552) -/

theorem Chip.withAcq_run (c : Chip) (a : Acq) : ({ c with acq := a } : Chip).run = c.run := rfl
theorem Chip.withAcq_keeper (c : Chip) (a : Acq) : ({ c with acq := a } : Chip).keeper = c.keeper := rfl

theorem Acq.keep_captured (a : Acq) (memory : List Host.Cell) (blanked : List (Nat × Nat)) :
    ({ a with memory := memory, blanked := blanked } : Acq).keep = a.keep := rfl
theorem Acq.keep_searching (a : Acq) : ({ a with state := .correlating, phase := 1 } : Acq).keep = a.keep := rfl

theorem Chip.phaseA_congr {c d : Chip} (hrun : c.run = d.run) (hkeeper : c.keeper = d.keeper) (hkeep : c.acq.keep = d.acq.keep) :
    c.phaseA = d.phaseA := by
  unfold Chip.phaseA Chip.predicted Chip.aboveMask Chip.elevation Chip.runF Chip.runW
  rw [hrun, hkeeper, hkeep]

/-- The tasks of phase A are of GPS and QZSS. -/
theorem Chip.phaseA_system {c : Chip} {k : KeptSat} (h : k ∈ c.phaseA) : k.system = 0 ∨ k.system = 3 := by
  have hfilter := List.mem_mergeSort.mp (List.mem_of_mem_take h)
  simpa using (List.mem_filter.mp hfilter).2

/-- A task of phase A needs more passes than the pool has engines. -/
theorem phaseA_passes {system : Nat} (h : system = 0 ∨ system = 3) : 32 < passesOf 0 system 0 := by
  rcases h with rfl | rfl <;> decide

/-- A search that has an open task of its phase stays in it. -/
theorem Chip.phaseStep_open {c : Chip} {t : Machine.Task} (hphase : c.acq.phase = 1) (htask : c.acq.tasks[0]? = some t) (hin : t.phase = 1)
    (hfound : t.detected = false) (hleft : t.passesLeft ≠ 0) (n : Nat) : Chip.phaseStep n c = c := by
  cases n with
  | zero => rfl
  | succ n =>
    have hlt : 0 < c.acq.tasks.length := (List.getElem?_eq_some_iff.mp htask).1
    have hopen : c.phaseDone = false := by
      rw [Chip.phaseDone, Bool.eq_false_iff]
      intro hall
      have h0 := List.all_eq_true.mp hall 0 (List.mem_range.mpr hlt)
      rw [Chip.taskEnded, htask, List.getD_eq_getElem?_getD, htask] at h0
      simp [hfound, hleft, hin, hphase] at h0
    unfold Chip.phaseStep
    rw [if_pos hphase, hopen, if_neg Bool.false_ne_true, ite_self]

section
variable {c : Chip} {samples : List Byte} {blanks : List (Nat × Nat)} {g1 g5 : Nat} (hcapturing : c.acq.state = .capturing)
include hcapturing

theorem Chip.captureEnd_retaken (hblank : c.blankedOut blanks = true) (hfirst : c.acq.retaken = false) :
    (c.captureEnd samples blanks g1 g5).acq.state = .waiting ∧ (c.captureEnd samples blanks g1 g5).acq.retaken = true ∧
      (c.captureEnd samples blanks g1 g5).rings = c.rings := by
  unfold Chip.captureEnd
  extract_lets a1 c1 b1 c2 a2 c3 a3 c4
  have hblank1 : c1.blankedOut blanks = true := hblank
  have hfirst1 : c1.acq.retaken = false := hfirst
  rw [if_neg (not_not.mpr hcapturing), if_pos hblank1, hfirst1, if_neg Bool.false_ne_true]
  exact ⟨rfl, rfl, rfl⟩

theorem Chip.captureEnd_fails (hblank : c.blankedOut blanks = true) (hsecond : c.acq.retaken = true) :
    (c.captureEnd samples blanks g1 g5).acq.state = .idle ∧ (c.captureEnd samples blanks g1 g5).acq.reason = 6 := by
  unfold Chip.captureEnd
  extract_lets a1 c1 b1 c2 a2 c3 a3 c4
  have hblank1 : c1.blankedOut blanks = true := hblank
  have hsecond1 : c1.acq.retaken = true := hsecond
  rw [if_neg (not_not.mpr hcapturing), if_pos hblank1, if_pos hsecond1, Chip.endFix_acq]
  exact ⟨rfl, rfl⟩

theorem Chip.captureEnd_searches (hclear : c.blankedOut blanks = false) (hsome : c.phaseA ≠ []) :
    (c.captureEnd samples blanks g1 g5).acq.state = .correlating ∧ (c.captureEnd samples blanks g1 g5).acq.phase = 1 ∧
      (c.captureEnd samples blanks g1 g5).acq.tasks.length = c.phaseA.length ∧
      (c.captureEnd samples blanks g1 g5).acq.memory = memWrite 0 c.acq.memory 0 (samples.take 1048576) := by
  unfold Chip.captureEnd
  generalize memWrite 0 c.acq.memory 0 (samples.take 1048576) = memory
  extract_lets a1 c1 b1 c2 a2 c3 a3 c4
  have hclear1 : c1.blankedOut blanks = false := hclear
  rw [if_neg (not_not.mpr hcapturing), hclear1, if_neg Bool.false_ne_true]
  have h2 : c2.noRings = c1.noRings := Chip.noRings_produce c1 _ _ _
  have hrun : c2.run = c1.run := Chip.noRings_run h2
  have hkeeper : c2.keeper = c1.keeper := Chip.noRings_keeper h2
  have hacq2 : c2.acq = c1.acq := Chip.noRings_acq h2
  have hkeep : c3.acq.keep = c.acq.keep := (Acq.keep_searching c2.acq).trans ((congrArg Acq.keep hacq2).trans (Acq.keep_captured c.acq _ blanks))
  have hphase : c3.phaseA = c.phaseA := Chip.phaseA_congr
    ((Chip.withAcq_run c2 _).trans (hrun.trans (Chip.withAcq_run c _))) ((Chip.withAcq_keeper c2 _).trans (hkeeper.trans (Chip.withAcq_keeper c _))) hkeep
  obtain ⟨ts, es, hgrant, hlen, htasks⟩ := Chip.grant_acq c3 { c3.acq with tasks := c3.phaseA.map (fun (k : KeptSat) => taskOf 0 1 k.system 0 k.sv) }
  have h1 : c1.acq = { c.acq with memory := memory, blanked := blanks } := rfl
  have h3 : c3.acq = { c2.acq with state := .correlating, phase := 1 } := rfl
  have h4 : c4.acq = _ := hgrant
  rw [h3, hacq2, h1] at h4
  dsimp only at h4
  have hacq : (if c4.mode = 3 then c4.leaveFix else c4).acq = c4.acq := by
    split
    · exact c4.leaveFix_acq
    · rfl
  obtain ⟨k, ks, hks⟩ := List.exists_cons_of_ne_nil hsome
  obtain ⟨p, hp, hle⟩ := htasks 0 (taskOf 0 1 k.system 0 k.sv) (by
    change (c3.phaseA.map _)[0]? = _
    rw [hphase, hks]
    rfl)
  have hpasses := phaseA_passes (Chip.phaseA_system (c := c) (k := k) (by rw [hks]; exact List.mem_cons_self))
  change passesOf 0 k.system 0 ≤ p + 32 at hle
  have hopen : p ≠ 0 := by omega
  rw [Chip.phaseStep_open (t := { taskOf 0 1 k.system 0 k.sv with passesLeft := p }) (by rw [hacq, h4]) (by rw [hacq, h4]; exact hp) rfl rfl hopen, hacq, h4]
  exact ⟨rfl, rfl, hlen.trans (by rw [List.length_map, hphase]), rfl⟩

end

/-! ### Search passes (R542-R544, R556) -/

theorem Chip.channelFor_of_track {c d : Chip} (h : c.track = d.track) (cn0 : Nat) : c.channelFor cn0 = d.channelFor cn0 := by
  unfold Chip.channelFor Chip.chan
  rw [h]

theorem Chip.chan_upChan_self {c : Chip} {k : Nat} (h : k < c.track.channels.length) (f : Channel → Channel) : (c.upChan k f).chan k = f (c.chan k) := by
  simp [Chip.chan, Chip.upChan, List.getD_eq_getElem?_getD, h]

theorem Chip.chan_follow (c w : Chip) (k : Nat) : (c.follow w).chan k = c.chan k := rfl

/-- Outside a snapshot's correlation the search has no phases. -/
theorem Chip.phaseStep_still {c : Chip} (h : c.acq.state ≠ .correlating) (n : Nat) : Chip.phaseStep n c = c := by
  cases n with
  | zero => rfl
  | succ n =>
    unfold Chip.phaseStep
    rw [if_pos h]

/-- The block in which the engine of a pass that ended is free, and the pass is counted. -/
def Chip.passFreed (c : Chip) (e i : Nat) : Chip :=
  c.upAcq (fun a => { a with engines := a.engines.set e none, tasks := a.tasks.modify i (fun t => { t with passesRun := t.passesRun + 1 }) })

theorem Chip.passEnd_frees {c : Chip} {e i : Nat} (h : c.acq.engines.getD e none = some i) (pnr : Nat) (code : Word) (dop : Int) (cn0 : Nat) :
    c.passEnd e pnr code dop cn0 = Chip.phaseStep 4 ((c.passFreed e i).passResult i e pnr code dop cn0).grant := by
  unfold Chip.passEnd
  rw [h]
  rfl

/-- A pass of a burst that detects its task counts it, ends it and hands it to the channel there is for it. -/
theorem Chip.passEnd_detects {c : Chip} {e pnr i k cn0 : Nat} {code : Word} {dop : Int} {t : Machine.Task} (hburst : c.acq.state = .burst)
    (hengine : c.acq.engines.getD e none = some i) (htask : c.acq.tasks[i]? = some t) (hnew : t.detected = false) (hpnr : 1400 ≤ pnr)
    (hchan : c.channelFor cn0 = some k) (hk : k < c.track.channels.length) :
    (c.passEnd e pnr code dop cn0).acq.found = satAdd 255 c.acq.found 1 ∧ ((c.passEnd e pnr code dop cn0).acq.tasks.getD i t).detected = true ∧
      ((c.passEnd e pnr code dop cn0).acq.tasks.getD i t).passesRun = t.passesRun + 1 ∧
      (c.passEnd e pnr code dop cn0).chan k = { busy := true, system := t.system, band := t.band, sv := t.sv, cn0 := cn0 } := by
  rw [Chip.passEnd_frees hengine]
  generalize hc1 : c.passFreed e i = c1
  have htask1 : c1.acq.tasks[i]? = some { t with passesRun := t.passesRun + 1 } := by
    rw [← hc1]
    change (c.acq.tasks.modify i _)[i]? = _
    simp [htask]
  have hstate1 : c1.acq.state = .burst := by rw [← hc1]; exact hburst
  have htrack1 : c1.track = c.track := by rw [← hc1]; rfl
  have hfound1 : c1.acq.found = c.acq.found := by rw [← hc1]; rfl
  rw [Chip.passResult, htask1]
  dsimp only
  rw [hnew, if_neg Bool.false_ne_true, if_pos hpnr]
  unfold Chip.detect
  extract_lets c2 c3
  have h3 : c3.noRings = c2.noRings := Chip.noRings_produce c2 _ _ _
  have hacq : c3.acq = c2.acq := Chip.noRings_acq h3
  have htrack : c3.track = c.track := (Chip.noRings_track h3).trans htrack1
  have hstate : c3.acq.state = .burst := by
    rw [hacq]
    exact hstate1
  have htask2 : c2.acq.tasks[i]? = some { t with passesRun := t.passesRun + 1, detected := true } := by
    change (c1.acq.tasks.modify i _)[i]? = _
    simp [htask1]
  rw [if_pos hstate, Chip.handOff, Chip.channelFor_of_track htrack, hchan]
  dsimp only
  generalize hc4 : c3.upChan k (fun _ => { busy := true, system := t.system, band := t.band, sv := t.sv, cn0 := cn0 }) = c4
  have h4 : c4.acq = c2.acq := by
    rw [← hc4, ← hacq]
    exact Chip.acq_of_hide (Chip.hide_upChan c3 k _ (ps := others .acq) (by decide)) (by decide)
  have hchan4 : c4.chan k = { busy := true, system := t.system, band := t.band, sv := t.sv, cn0 := cn0 } := by
    rw [← hc4, Chip.chan_upChan_self (by rw [htrack]; exact hk)]
  obtain ⟨ts, es, hgrant, -, htasks⟩ := c4.grant_eq
  obtain ⟨p, hp, -⟩ := htasks i _ (by rw [h4]; exact htask2)
  have hstill : c4.grant.acq.state ≠ .correlating := by
    rw [hgrant]
    change c4.acq.state ≠ _
    rw [h4, ← hacq, hstate]
    decide
  rw [Chip.phaseStep_still hstill, hgrant]
  refine ⟨?_, ?_, ?_, hchan4⟩
  · change c4.acq.found = _
    rw [h4, ← hfound1]
    rfl
  · change (ts.getD i t).detected = true
    rw [List.getD_eq_getElem?_getD, hp]
    rfl
  · change (ts.getD i t).passesRun = _
    rw [List.getD_eq_getElem?_getD, hp]
    rfl

/-! ### Solutions and the end of a burst (R553-R559) -/

theorem Chip.snapshotSolution_ok {c : Chip} {sol : Solution} (hsolving : c.acq.state = .solving) (hok : sol.ok = true) :
    (c.snapshotSolution sol).acq.state = .idle ∧ (c.snapshotSolution sol).acq.reason = 0 ∧ (c.snapshotSolution sol).acq.tasks = [] := by
  unfold Chip.snapshotSolution
  extract_lets c1 c2
  rw [if_neg (not_not.mpr hsolving), if_pos hok, Chip.endFix_acq]
  exact ⟨rfl, rfl, rfl⟩

theorem Chip.snapshotSolution_fails {c : Chip} {sol : Solution} (hsolving : c.acq.state = .solving) (hok : sol.ok = false)
    (hburst : c.runB 0x2001 29 = false) : (c.snapshotSolution sol).acq.state = .idle ∧ (c.snapshotSolution sol).acq.reason = 1 := by
  unfold Chip.snapshotSolution
  extract_lets c1 c2
  have hburst1 : c1.runB 0x2001 29 = false := by
    rw [← hburst, Chip.runB, Chip.runB, Chip.runW, Chip.runW, Chip.run_of_hide (Chip.hide_solution c sol true (ps := others .run) (by decide)) (by decide)]
  rw [if_neg (not_not.mpr hsolving), hok, if_neg Bool.false_ne_true, Chip.tooFew, hburst1, Bool.false_and, Bool.false_and, if_neg Bool.false_ne_true,
    Chip.endFix_acq]
  exact ⟨rfl, rfl⟩

theorem Chip.keepCommit_track (c : Chip) : c.keepCommit.track = c.track :=
  Chip.track_of_hide (Chip.hide_keepCommit c (ps := others .track) (by decide)) (by decide)

/-- A keep commit leaves the acquisition unit as it was but for the keep. -/
theorem Chip.keepCommit_acq (c : Chip) : ∃ keep, c.keepCommit.acq = { c.acq with keep := keep } := by
  unfold Chip.keepCommit
  dsimp only
  rw [Chip.acq_of_hide (Chip.hide_requestCommit c 5 1 _ (ps := others .acq) (by decide)) (by decide)]
  exact ⟨_, rfl⟩

theorem Chip.tpHold_acq (c : Chip) : c.tpHold.acq = c.acq := Chip.acq_of_hide (Chip.hide_tpHold c (ps := others .acq) (by decide)) (by decide)

theorem Chip.tpHold_channels (c : Chip) : c.tpHold.track.channels = c.track.channels := by
  unfold Chip.tpHold
  split <;> rfl

theorem Chip.burstEnd_ends {c : Chip} (hburst : c.acq.state = .burst) :
    c.burstEnd.acq.state = .idle ∧ c.burstEnd.acq.reason = (if c.acq.burstSolved then 0 else 1) ∧
      (c.tracksOn = false → c.burstEnd.track.channels = List.replicate 72 {}) := by
  unfold Chip.burstEnd
  extract_lets c1 c2
  have h1 : c1.acq = c.acq := by
    unfold c1
    split
    · rfl
    · exact (Chip.tpHold_acq _).trans rfl
  have h2 : c2.acq.burstSolved = c.acq.burstSolved := by
    rw [← h1]
    unfold c2
    split
    · obtain ⟨keep, hkeep⟩ := c1.keepCommit_acq
      rw [hkeep]
    · rfl
  have h2track : c2.track = c1.track := by
    unfold c2
    split
    · exact c1.keepCommit_track
    · rfl
  rw [if_neg (not_not.mpr hburst), Chip.endFix_acq, Chip.endFix_track, h2, h2track]
  refine ⟨rfl, rfl, fun hoff => ?_⟩
  unfold c1
  rw [hoff, if_neg Bool.false_ne_true, Chip.tpHold_channels]
  rfl

/-! ### The keep (R559, R573) -/

theorem Chip.keepCommit_keeps (c : Chip) : c.keepCommit.acq.keep.changed = false ∧ c.keepCommit.acq.keep.commitSec = c.keeper.sec.toNat ∧
    (c.therm.warning = false → c.therm.trip = false → c.keepCommit.mram.commits = c.mram.commits ++ [(5, 1, c.acq.keep.body c.keeper.sec.toNat)] ∧
      c.keepCommit.acq.keep.deferred = false) ∧
    (c.therm.warning = true → c.keepCommit.mram = c.mram ∧ c.keepCommit.acq.keep.deferred = true) := by
  unfold Chip.keepCommit Chip.requestCommit
  refine ⟨rfl, rfl, fun hwarn htrip => ?_, fun hwarn => ?_⟩
  · rw [hwarn, htrip, if_neg (by decide)]
    dsimp only
    exact ⟨rfl, by rw [hwarn, htrip]; rfl⟩
  · rw [hwarn, Bool.true_or, if_pos rfl]
    dsimp only
    exact ⟨rfl, by rw [hwarn]; rfl⟩

/-- The commit words of both banks of a cleared keep read 0. -/
theorem Chip.keepClear_words (c : Chip) {i : Nat} (h : i < 8) :
    mget 0 c.keepClear.mram.bytes (0x14000 + 24568 + i) = 0 ∧ mget 0 c.keepClear.mram.bytes (0x0E000 + 24568 + i) = 0 := by
  have hzero (n k : Nat) : (List.replicate n (0 : Byte)).getD k 0 = 0 := by
    rw [List.getD_eq_getElem?_getD, List.getElem?_replicate]
    split <;> rfl
  unfold Chip.keepClear
  dsimp only
  constructor
  · rw [mget_memWrite, List.length_replicate, if_pos (by omega), hzero]
  · rw [mget_memWrite, mget_memWrite, List.length_replicate, if_neg (by omega), if_pos (by omega), hzero]

theorem Chip.reg_armLast_self (c : Chip) (arm res : Nat) : (c.armLast arm res).reg 0x0023 = wd (arm * 65536 + res) := by
  rw [Chip.reg_armLast, if_pos rfl]

theorem Chip.applyWords_reg (c : Chip) (ws : List (Nat × Word)) (a : Nat) : (c.applyWords ws).reg a = c.reg a :=
  Chip.reg_of_regs (Chip.regs_of_hide (Chip.hide_applyWords c ws (ps := others .regs) (by decide)) (by decide)) a

/-- Settles O37: by the state of the unit, and by what the capture, the pass or the solution says. -/
theorem fixesRunToTheirEnd : Obligations.FixesRunToTheirEnd := by
  refine ⟨fun s n hawake hwaiting hsnap hpowered hrefused => ?captures,
    fun s samples blanks g1 g5 hawake hcapturing => ⟨fun hblank hfirst => ?retaken, fun hblank hsecond => ?blanked, fun hclear => ?searched⟩,
    fun s samples hawake hburst => ?block,
    fun s e pnr i k cn0 code dop t hawake hburst hengine htask hnew hpnr hchan hk => ?detected,
    fun s sol hawake hsolving => ⟨fun hok => ?solved, fun hok hburst => ?unsolved⟩,
    fun s hawake hburst => ?burstEnds, fun s hawake hopen => ?committed, fun s hawake hopen => ?cleared,
    fun s hawake hopen => ⟨fun hband hidle => ?rfApplied, fun hband hbusy => ?rfHeld, fun h1 h3 => ?rfRefused, fun hok hidle => ?planApplied,
      fun hbad => ?planRefused⟩⟩
  case captures =>
    refine Gives.run (exec_snapshotCaptureStart n s) hawake ?_
    rw [Chip.follow_acq, if_pos ⟨hwaiting, hsnap, hpowered, hrefused⟩]
    refine ⟨rfl, rfl, rfl, rfl, fun hlong => ?_, fun hshort => ?_⟩
    · dsimp only
      rw [hlong]
      exact ⟨rfl, rfl⟩
    · dsimp only
      rw [hshort]
      exact ⟨rfl, rfl⟩
  case retaken =>
    refine Gives.run (exec_snapshotCaptureEnd samples blanks g1 g5 s) hawake ?_
    rw [Chip.follow_acq, Chip.follow_rings]
    exact Chip.captureEnd_retaken hcapturing hblank hfirst
  case blanked =>
    refine Gives.run (exec_snapshotCaptureEnd samples blanks g1 g5 s) hawake ?_
    rw [Chip.follow_acq]
    exact Chip.captureEnd_fails hcapturing hblank hsecond
  case searched =>
    refine Gives.run (exec_snapshotCaptureEnd samples blanks g1 g5 s) hawake ?_
    rw [Chip.follow_acq]
    exact fun hsome => Chip.captureEnd_searches hcapturing hclear hsome
  case block =>
    refine Gives.run (exec_liveBlockComplete samples s) hawake ?_
    rw [Chip.follow_acq, if_pos hburst]
    dsimp only
    generalize (if s.chip.acq.liveBlock % 2 = 0 then 0 else 520000) = off
    generalize memWrite 0 s.chip.acq.memory off (samples.take 520000) = memory
    obtain ⟨ts, es, hgrant, -⟩ := Chip.grant_acq s.chip { s.chip.acq with memory := memory, liveBlock := s.chip.acq.liveBlock + 1 }
    dsimp only at hgrant
    rw [hgrant]
    exact ⟨rfl, hburst, rfl⟩
  case detected =>
    refine Gives.run (exec_acqPassEnd e pnr code dop cn0 s) hawake ?_
    rw [Chip.follow_acq, Chip.chan_follow]
    exact Chip.passEnd_detects hburst hengine htask hnew hpnr hchan hk
  case solved =>
    refine Gives.run (exec_snapshotSolution sol s) hawake ?_
    rw [Chip.follow_acq]
    exact Chip.snapshotSolution_ok hsolving hok
  case unsolved =>
    refine Gives.run (exec_snapshotSolution sol s) hawake ?_
    rw [Chip.follow_acq]
    exact Chip.snapshotSolution_fails hsolving hok hburst
  case burstEnds =>
    refine Gives.run (exec_trackingBurstEnd s) hawake ?_
    rw [Chip.follow_acq]
    exact Chip.burstEnd_ends hburst
  case committed =>
    refine Gives.host (exec_gacqKeepCommit s) hawake hopen ?_
    rw [Chip.follow_acq, Chip.follow_mram]
    exact s.chip.keepCommit_keeps
  case cleared =>
    refine Gives.host (exec_gacqKeepClear s) hawake hopen ?_
    rw [Chip.follow_acq, Chip.follow_mram]
    exact ⟨rfl, fun i hi => s.chip.keepClear_words hi⟩
  case rfApplied =>
    refine Gives.host (exec_gacqRfArm s) hawake hopen ?_
    have hidle1 : (s.chip.armLast 0x2000 0).acq.state = .idle := (congrArg Acq.state (Chip.armLast_acq _ _ _)).trans hidle
    rw [Chip.follow_run, Chip.reg_of_regs (Chip.follow_regs _ _), Chip.gacqRfArm]
    dsimp only
    rw [if_pos hband, if_pos hidle1, Chip.applyWords_reg, Chip.reg_armLast_self]
    exact ⟨applyWords_run _ _ _ (Chip.armLast_run _ _ _), rfl⟩
  case rfHeld =>
    refine Gives.host (exec_gacqRfArm s) hawake hopen ?_
    have hbusy1 : (s.chip.armLast 0x2000 0).acq.state ≠ .idle := by
      rw [Chip.armLast_acq]
      exact hbusy
    rw [Chip.follow_run, Chip.armedSet_follow, Chip.gacqRfArm]
    dsimp only
    rw [if_pos hband, if_neg hbusy1]
    exact ⟨(Chip.holdSet_run _ _ _).trans (Chip.armLast_run _ _ _), armedSet_holdSet _ _ _⟩
  case rfRefused =>
    refine Gives.host (exec_gacqRfArm s) hawake hopen ?_
    rw [Chip.follow_run, Chip.reg_of_regs (Chip.follow_regs _ _), Chip.gacqRfArm]
    dsimp only
    rw [if_neg (not_or.mpr ⟨h1, h3⟩), Chip.reg_armLast_self]
    exact ⟨Chip.armLast_run _ _ _, rfl⟩
  case planApplied =>
    refine Gives.host (exec_gacqPlanArm s) hawake hopen ?_
    have hidle1 : (s.chip.armLast 0x2001 s.chip.gacqPlanCheck).acq.state = .idle := (congrArg Acq.state (Chip.armLast_acq _ _ _)).trans hidle
    rw [Chip.follow_run, Chip.gacqPlanArm, if_pos hok, if_pos hidle1]
    exact applyWords_run _ _ _ (Chip.armLast_run _ _ _)
  case planRefused =>
    refine Gives.host (exec_gacqPlanArm s) hawake hopen ?_
    rw [Chip.follow_run, Chip.reg_of_regs (Chip.follow_regs _ _), Chip.gacqPlanArm, if_neg hbad, Chip.reg_armLast_self]
    exact ⟨Chip.armLast_run _ _ _, rfl⟩

end Sys2Proof.Machine
end

section
/-! SUPPORT. Tracker channels, epochs, navigation units and solutions (13 R577-R600, R615). -/

namespace Sys2Proof.Machine

theorem exec_codeLock (ch : Nat) (s : State) : exec (.codeLock ch) s = execCodeLock ch s := rfl
theorem exec_carrierLock (ch : Nat) (bs : Bool) (s : State) : exec (.carrierLock ch bs) s = execCarrierLock ch bs s := rfl
theorem exec_cycleSlip (ch : Nat) (s : State) : exec (.cycleSlip ch) s = execCycleSlip ch s := rfl
theorem exec_navSyncLost (ch : Nat) (s : State) : exec (.navSyncLost ch) s = execNavSyncLost ch s := rfl
theorem exec_codeLockTimeout (ch : Nat) (s : State) : exec (.codeLockTimeout ch) s = execCodeLockTimeout ch s := rfl
theorem exec_channelLoss (ch : Nat) (s : State) : exec (.channelLoss ch) s = execChannelLoss ch s := rfl
theorem exec_measurementEpoch (mlg sc : Word) (ms : List Meas) (s : State) :
    exec (.measurementEpoch mlg sc ms) s = s.run (fun c => c.epoch mlg sc ms) := rfl
theorem exec_navUnit (ch tx nb : Nat) (bits : List Word) (n : NavContent) (s : State) :
    exec (.navUnit ch tx nb bits n) s = execNavUnit ch tx nb bits n s := rfl
theorem exec_navSolution (sol : Solution) (s : State) : exec (.navSolution sol) s = execNavSolution sol s := rfl
theorem exec_gtrkCfgArm (s : State) : exec .gtrkCfgArm s = s.runHost Chip.gtrkCfgArm := rfl
theorem exec_gtrkTrustArm (s : State) : exec .gtrkTrustArm s = s.runHost Chip.gtrkTrustArm := rfl

/-! ### Channels (R577-R579, R588-R591) -/

/-- A channel in use is one of the tracker's. -/
theorem Chip.chan_lt {c : Chip} {ch : Nat} (h : (c.chan ch).busy = true) : ch < c.track.channels.length := by
  by_contra hm
  rw [Chip.chan, List.getD_eq_getElem?_getD, List.getElem?_eq_none (Nat.not_lt.mp hm)] at h
  exact absurd h (by decide)

theorem Chip.chan_upChan_busy {c : Chip} {ch : Nat} (h : (c.chan ch).busy = true) (f : Channel → Channel) : (c.upChan ch f).chan ch = f (c.chan ch) :=
  Chip.chan_upChan_self (Chip.chan_lt h) f

theorem Chip.chan_of_track {c d : Chip} (h : c.track.channels = d.track.channels) (ch : Nat) : c.chan ch = d.chan ch := by
  unfold Chip.chan
  rw [h]

/-! ### Epochs (R585-R590) -/

/-- An epoch's entries leave the channels and the counters of the tracker but SKIP. -/
theorem Chip.produceEpoch_track (c : Chip) (es : List Entry) : ∃ skip, (c.produceEpoch es).track = { c.track with skip := skip } := by
  have hall : (es.foldl (fun c e => c.produce 0x08 18 e) c).track = c.track :=
    Chip.track_of_hide (Chip.hide_foldl (fun d e => Chip.hide_produce d 0x08 18 e (ps := others .track) (by decide)) es c) (by decide)
  unfold Chip.produceEpoch
  dsimp only
  split
  · exact ⟨_, hall⟩
  · split
    · exact ⟨_, rfl⟩
    · split
      · exact ⟨_, hall⟩
      · exact ⟨_, rfl⟩

/-- An epoch that does not fit in ring 18 is skipped whole (R586). -/
theorem Chip.produceEpoch_skips {c : Chip} {es : List Entry} (hsize : (c.ring 18).sizeLog2 ≠ 0) (hconsumer : (c.ring 18).consumer ≠ 0)
    (hcopying : (c.ring 18).copying = false) (hfull : (c.ring 18).size < (c.ring 18).fill + es.length) :
    (c.produceEpoch es).track = { c.track with skip := c.track.skip + 1 } ∧ ((c.produceEpoch es).ring 18).head = (c.ring 18).head := by
  unfold Chip.produceEpoch
  extract_lets r c1
  rw [if_neg (show ¬ (r.sizeLog2 = 0 ∨ r.consumer = 0) from not_or.mpr ⟨hsize, hconsumer⟩), if_neg (show ¬ r.copying = true by rw [hcopying]; decide),
    if_neg (show ¬ r.fill + es.length ≤ r.size from Nat.not_le.mpr hfull)]
  refine ⟨rfl, ?_⟩
  have hlt : 18 < c.rings.rings.length := c.ring_lt 18 (fun h => hsize (by rw [h]))
  change (c1.ring 18).head = _
  rw [Chip.ring_upRing_self _ _ _ hlt, Ring.drops_head]

/-- The block in which an epoch with one measurement has latched its channel. -/
theorem Chip.epoch_latches {c : Chip} {mlg sc : Word} {m : Meas} (htracking : c.tracking = true) (hmlg : c.tb.mlg = true)
    (hradio : c.girth.radioRefused = false) (hset : c.armedSet 0x2800 = none) (hbusy : (c.chan m.ch).busy = true) (hcode : (c.chan m.ch).code = true) :
    (c.epoch mlg sc [m]).track.epochId = c.track.epochId + 1 ∧ (c.epoch mlg sc [m]).acq.scount = sc ∧
      (c.epoch mlg sc [m]).chan m.ch = { (c.chan m.ch).latch m with slip := false } ∧
      ((c.ring 18).sizeLog2 ≠ 0 → (c.ring 18).consumer ≠ 0 → (c.ring 18).copying = false → (c.ring 18).size < (c.ring 18).fill + 2 →
        (c.epoch mlg sc [m]).track.skip = c.track.skip + 1 ∧ ((c.epoch mlg sc [m]).ring 18).head = (c.ring 18).head) := by
  unfold Chip.epoch
  rw [htracking, hmlg, hradio, if_pos (by rfl), hset]
  extract_lets c0 ms id c1 hdr c2 c3
  have hms : ms = [m] := by
    unfold ms
    rw [List.filter_cons_of_pos (by simp only [c0, hbusy, hcode]; rfl), List.filter_nil]
  have h1 : c1 = c.upChan m.ch (fun x => x.latch m) := by
    unfold c1
    rw [hms]
    rfl
  have h1chan : c1.chan m.ch = (c.chan m.ch).latch m := by rw [h1, Chip.chan_upChan_busy hbusy]
  have h3 : c3 = c2.upChan m.ch (fun x => { x with slip := false }) := by
    unfold c3
    rw [hms]
    rfl
  obtain ⟨skip, hskip⟩ := c1.produceEpoch_track (hdr :: ms.map (fun m => channelEntry id.toNat (c1.chan m.ch) m))
  have h2 : c2.track = { c1.track with skip := skip } := hskip
  have h2chan : c2.chan m.ch = (c.chan m.ch).latch m := (Chip.chan_of_track (by rw [h2]) _).trans h1chan
  have hlt : m.ch < c2.track.channels.length := by
    rw [h2, h1]
    simp [Chip.upChan, Chip.chan_lt hbusy]
  refine ⟨rfl, rfl, ?_, fun hsize hconsumer hcopying hfull => ?_⟩
  · have h3chan : c3.chan m.ch = { (c.chan m.ch).latch m with slip := false } := by rw [h3, Chip.chan_upChan_self hlt, h2chan]
    exact h3chan
  · have hring1 : c1.ring 18 = c.ring 18 := by rw [h1]; rfl
    obtain ⟨hnext, hhead⟩ := Chip.produceEpoch_skips (c := c1) (es := hdr :: ms.map (fun m => channelEntry id.toNat (c1.chan m.ch) m))
      (by rw [hring1]; exact hsize) (by rw [hring1]; exact hconsumer) (by rw [hring1]; exact hcopying) (by rw [hring1, hms]; exact hfull)
    have h2' : c2.track.skip = c1.track.skip + 1 := congrArg Track.skip hnext
    have h3skip : c3.track.skip = c2.track.skip := by rw [h3]; rfl
    have h3ring : c3.ring 18 = c2.ring 18 := by rw [h3]; rfl
    refine ⟨?_, ?_⟩
    · change c3.track.skip = _
      rw [h3skip, h2', h1]
      rfl
    · change (c3.ring 18).head = _
      rw [h3ring, ← hring1]
      exact hhead

/-! ### Navigation units (R591-R594) -/

/-- The block in which a unit has aligned its channel and gone to ring 21. -/
def Chip.navAligned (c : Chip) (ch tx nb : Nat) (bits : List Word) : Chip :=
  (navEntries (c.chan ch) ch tx nb bits).foldl (fun c e => c.produce 0x08 21 e) (c.upChan ch (fun x => { x with navSync := true }))

section
variable {c : Chip} {ch : Nat} (tx nb : Nat) (bits : List Word)

theorem Chip.navAligned_hide : (c.navAligned ch tx nb bits).hide [.rings] = (c.upChan ch (fun x => { x with navSync := true })).hide [.rings] :=
  Chip.hide_foldl (fun d e => Chip.hide_produce d 0x08 21 e (by decide)) _ _

theorem Chip.navAligned_acq : (c.navAligned ch tx nb bits).acq = c.acq :=
  (Chip.acq_of_hide (Chip.navAligned_hide tx nb bits) (by decide)).trans
    (Chip.acq_of_hide (Chip.hide_upChan c ch _ (ps := others .acq) (by decide)) (by decide))

theorem Chip.navAligned_chan (hbusy : (c.chan ch).busy = true) : (c.navAligned ch tx nb bits).chan ch = { c.chan ch with navSync := true } := by
  rw [Chip.chan_of_track (congrArg Track.channels (Chip.track_of_hide (Chip.navAligned_hide tx nb bits) (by decide))), Chip.chan_upChan_busy hbusy]

end

/-! ### Solutions (R595-R607) -/

theorem Chip.solution_run (c : Chip) (sol : Solution) (snap : Bool) : (c.solution sol snap).run = c.run :=
  Chip.run_of_hide (Chip.hide_solution c sol snap (ps := others .run) (by decide)) (by decide)

/-- The position of a keep. -/
def Keep.position (k : Keep) : Int × Int × Int := (k.lat, k.lon, k.height)

theorem Chip.keepSolution_position (c : Chip) (sol : Solution) (trust : Nat) (snap : Bool) :
    (c.keepSolution sol trust snap).acq.keep.lat = sol.lat ∧ (c.keepSolution sol trust snap).acq.keep.lon = sol.lon ∧
      (c.keepSolution sol trust snap).acq.keep.height = sol.height := by
  unfold Chip.keepSolution
  extract_lets k k1 k2 k3
  have h2 : k2.position = k1.position := by
    unfold k2
    split <;> rfl
  have h3 : k3.position = k2.position := by
    unfold k3
    split <;> rfl
  have hposition : k3.position = (sol.lat, sol.lon, sol.height) := (h3.trans h2).trans rfl
  exact ⟨congrArg Prod.fst hposition, congrArg (fun p => p.2.1) hposition, congrArg (fun p => p.2.2) hposition⟩

theorem Chip.withTrack_acq (c : Chip) (t : Track) : ({ c with track := t } : Chip).acq = c.acq := rfl

/-- What a solution that succeeded leaves of the tracker and the keep. -/
theorem Chip.solution_ok {c : Chip} {sol : Solution} (hok : sol.ok = true) :
    (c.solution sol false).track.trust = trustLevel sol (c.trustFlags sol false) ∧ (c.solution sol false).track.solved = true ∧
      (c.solution sol false).track.solution = solutionEntry 1 (trustLevel sol (c.trustFlags sol false)) (c.trustFlags sol false) c.track.epochId.toNat sol ∧
      (c.solution sol false).track.tp = c.track.tp ∧
      (c.solution sol false).acq.keep.lat = sol.lat ∧ (c.solution sol false).acq.keep.lon = sol.lon ∧
      (c.solution sol false).acq.keep.height = sol.height := by
  unfold Chip.solution
  extract_lets flags trust id e c1 t1 c2 t2 c3 c4
  rw [if_pos hok]
  have hkind : e = solutionEntry 1 trust flags c.track.epochId.toNat sol := by
    unfold e id
    rw [hok]
    rfl
  have h1 : c1.track = c.track := Chip.noRings_track (Chip.noRings_produce c _ _ _)
  have h4track : c4.track = c3.track := (Chip.track_of_hide (Chip.hide_setSignal _ _ _ _ (ps := others .track) (by decide)) (by decide)).trans
    (Chip.track_of_hide (Chip.hide_setSignal c3 _ _ _ (ps := others .track) (by decide)) (by decide))
  generalize hc5 : ((c4.keepSolution sol trust false).gnssTime trust sol.sec sol.sub).fencesStep sol.lat sol.lon trust = c5
  have h5track : c5.track = c3.track := by
    rw [← hc5, Chip.track_of_hide (Chip.hide_fencesStep _ _ _ _ (ps := others .track) (by decide)) (by decide),
      Chip.track_of_hide (Chip.hide_gnssTime _ _ _ _ (ps := others .track) (by decide)) (by decide),
      Chip.track_of_hide (Chip.hide_keepSolution _ _ _ _ (ps := others .track) (by decide)) (by decide), h4track]
  have h5acq : c5.acq = (c4.keepSolution sol trust false).acq := by
    rw [← hc5, Chip.acq_of_hide (Chip.hide_fencesStep _ _ _ _ (ps := others .acq) (by decide)) (by decide),
      Chip.acq_of_hide (Chip.hide_gnssTime _ _ _ _ (ps := others .acq) (by decide)) (by decide)]
  have hkeep : c5.acq.keep.lat = sol.lat ∧ c5.acq.keep.lon = sol.lon ∧ c5.acq.keep.height = sol.height := by
    rw [h5acq]
    exact c4.keepSolution_position sol trust false
  have h3 : c3.track = { t2 with solved := true, aligned := t2.aligned || (decide (2 ≤ trust) && !false) } := rfl
  have h2 : t2 = { t1 with solution := e, trust := trust, flags := flags, signals := sol.signals } := rfl
  have h3tp : c3.track.tp = c.track.tp := by
    rw [h3]
    dsimp only
    rw [h2]
    dsimp only
    exact congrArg Track.tp h1
  refine ⟨?_, ?_, ?_, ?_, hkeep⟩
  · rw [h5track]
  · rw [h5track]
  · rw [h5track, ← hkind]
  · rw [h5track, h3tp]

/-- A solution that failed leaves no trust, and everything else of the keep and the pulse. -/
theorem Chip.solution_fails {c : Chip} {sol : Solution} (hok : sol.ok = false) :
    (c.solution sol false).track.trust = 0 ∧ (c.solution sol false).track.solved = c.track.solved ∧ (c.solution sol false).track.tp = c.track.tp ∧
      (c.solution sol false).acq = c.acq := by
  unfold Chip.solution
  extract_lets flags trust id e c1 t1 c2 t2 c3 c4
  rw [hok, if_neg Bool.false_ne_true]
  have htrust : trust = 0 := by
    unfold trust trustLevel
    rw [hok]
    rfl
  have h1 : c1.noRings = c.noRings := Chip.noRings_produce c _ _ _
  have h2 : c2.track = { c1.track with solution := e, trust := trust, flags := flags, signals := sol.signals } := rfl
  have h2acq : c2.acq = c1.acq := Chip.withTrack_acq c1 _
  rw [Chip.track_of_hide (Chip.hide_setSignal c2 _ _ _ (ps := others .track) (by decide)) (by decide),
    Chip.acq_of_hide (Chip.hide_setSignal c2 _ _ _ (ps := others .acq) (by decide)) (by decide), h2acq, h2, Chip.noRings_track h1, Chip.noRings_acq h1]
  exact ⟨htrust, rfl, rfl, rfl⟩

theorem Chip.tpSolution_acq (c : Chip) (ok : Bool) (trust : Nat) : (c.tpSolution ok trust).acq = c.acq :=
  Chip.acq_of_hide (Chip.hide_tpSolution c ok trust (ps := others .acq) (by decide)) (by decide)

/-- The pulse alone follows a solution. -/
theorem Chip.tpSolution_track (c : Chip) (ok : Bool) (trust : Nat) : ∃ tp, (c.tpSolution ok trust).track = { c.track with tp := tp } ∧
    (ok = true → c.track.tp ≠ .off → c.runF 0x2C00 5 4 ≤ trust → tp = .running) ∧ (ok = false → c.track.tp = .running → tp = .holdover) := by
  unfold Chip.tpSolution
  split
  · next hoff => exact ⟨_, rfl, fun _ h => absurd hoff h, fun _ h => by rw [hoff] at h; cases h⟩
  · next hon =>
    split
    · next hgood =>
      rw [Bool.and_eq_true] at hgood
      exact ⟨_, rfl, fun _ _ _ => rfl, fun h => by rw [h] at hgood; exact absurd hgood.1 (by decide)⟩
    · next hbad =>
      unfold Chip.tpHold
      split
      · next hrun => exact ⟨_, rfl, fun hok _ hle => absurd (by rw [hok, decide_eq_true hle]; rfl) hbad, fun _ _ => rfl⟩
      · next hrun => exact ⟨_, rfl, fun hok _ hle => absurd (by rw [hok, decide_eq_true hle]; rfl) hbad, fun _ h => absurd h hrun⟩

/-! ### Sets of the tracker (R583, R615) -/

theorem Chip.gtrkApply_run (c : Chip) (ws : List (Nat × Word)) : (c.gtrkApply ws).run = (c.applyWords ws).run := by
  unfold Chip.gtrkApply
  dsimp only
  split <;> rfl

/-- The check of the tracker's set has two answers. -/
theorem Chip.gtrkCheck_refused {c : Chip} (h : c.gtrkCheck ≠ 0) : c.gtrkCheck = 6 := by
  unfold Chip.gtrkCheck at h ⊢
  dsimp only at h ⊢
  split at h
  · exact absurd rfl h
  · next hbad => rw [if_neg hbad]

/-- Settles O38: by the channel, the epoch, the content of the unit, the outcome of the solution and the check of the set. -/
theorem channelsEpochsAndSolutions : Obligations.ChannelsEpochsAndSolutions := by
  refine ⟨fun s ch x hawake hx hbusy => ⟨?codeLock, fun bs hcode hsync => ?carrier, fun hcode hdata => ?noCarrier, fun hcarrier => ?slip, ?syncLost,
      fun hcode => ?timeout, fun hcode => ?noTimeout, ?loss⟩,
    fun s mlg sc m hawake htracking hmlg hradio hset hbusy hcode => ?epoch,
    fun s ch tx nb bits x hawake hx hbusy => ⟨fun t ws => ?ephemeris, fun ws => ?almanac, fun n p d day ws hsystem => ?utc⟩,
    fun s sol tr hawake htracking htr => ⟨fun hok => ?solved, fun hok => ?unsolved⟩,
    fun s hawake hopen => ⟨fun hok hidle => ?applied, fun hok hbusy => ?held, fun hbad => ?refused, fun h1 h2 h3 h4 => ?trust, fun hlow => ?noTrust⟩⟩
  case codeLock =>
    subst hx
    refine Gives.run (exec_codeLock ch s) hawake ?_
    rw [Chip.chan_follow, Chip.chan_upChan_busy hbusy, if_pos hbusy]
  case carrier =>
    subst hx
    refine Gives.run (exec_carrierLock ch bs s) hawake ?_
    have hsync' : (bs || !dataOnly (s.chip.chan ch).system (s.chip.chan ch).band) = true := by
      rcases hsync with h | h
      · rw [h]; rfl
      · rw [h]; exact Bool.or_true _
    rw [Chip.chan_follow, Chip.chan_upChan_busy hbusy, hbusy, hcode, hsync', if_pos (by rfl)]
  case noCarrier =>
    subst hx
    refine Gives.run (exec_carrierLock ch false s) hawake ?_
    rw [Chip.chan_follow, Chip.chan_upChan_busy hbusy, hdata, if_neg (by simp)]
  case slip =>
    subst hx
    refine Gives.run (exec_cycleSlip ch s) hawake ?_
    rw [Chip.chan_follow, Chip.chan_upChan_busy hbusy, hbusy, hcarrier, if_pos (by rfl)]
  case syncLost =>
    subst hx
    refine Gives.run (exec_navSyncLost ch s) hawake ?_
    rw [Chip.chan_follow, Chip.chan_upChan_busy hbusy, if_pos hbusy]
  case timeout =>
    subst hx
    refine Gives.run (exec_codeLockTimeout ch s) hawake ?_
    rw [Chip.chan_follow, hbusy, hcode, if_pos (by rfl), Chip.release, Chip.chan_upChan_busy hbusy]
  case noTimeout =>
    subst hx
    refine Gives.run (exec_codeLockTimeout ch s) hawake ?_
    rw [Chip.chan_follow, hbusy, hcode, if_neg (by decide)]
  case loss =>
    subst hx
    refine Gives.run (exec_channelLoss ch s) hawake ?_
    rw [Chip.chan_follow, Chip.follow_acq]
    dsimp only
    rw [if_pos hbusy]
    exact ⟨Chip.chan_upChan_busy hbusy _, _, rfl, rfl, rfl, rfl, rfl⟩
  case epoch =>
    refine Gives.run (exec_measurementEpoch mlg sc [m] s) hawake ?_
    rw [Chip.chan_follow, Chip.ring_follow, Chip.follow_acq]
    exact Chip.epoch_latches htracking hmlg hradio hset hbusy hcode
  case ephemeris =>
    subst hx
    refine Gives.run (exec_navUnit ch tx nb bits _ s) hawake ?_
    rw [Chip.chan_follow, Chip.follow_acq]
    dsimp only
    rw [if_pos hbusy]
    have halign := Chip.navAligned_acq (c := s.chip) (ch := ch) tx nb bits
    exact ⟨Chip.navAligned_chan tx nb bits hbusy, rfl, congrArg (fun a : Acq => keepSat 64 a.keep.eph _) halign⟩
  case almanac =>
    subst hx
    refine Gives.run (exec_navUnit ch tx nb bits _ s) hawake ?_
    rw [Chip.follow_acq]
    dsimp only
    rw [if_pos hbusy]
    exact congrArg (fun a : Acq => keepSat 160 a.keep.alm _) (Chip.navAligned_acq (c := s.chip) (ch := ch) tx nb bits)
  case utc =>
    subst hx
    refine Gives.run (exec_navUnit ch tx nb bits _ s) hawake ?_
    rw [Chip.follow_acq, Chip.follow_keeper]
    dsimp only
    rw [if_pos hbusy, Chip.navContent, if_pos (by omega)]
    exact ⟨rfl, rfl, rfl⟩
  case solved =>
    subst htr
    refine Gives.run (exec_navSolution sol s) hawake ?_
    obtain ⟨htrust, hsolved, hentry, htp, hlat, hlon, hheight⟩ := Chip.solution_ok (c := s.chip) hok
    have hrun := s.chip.solution_run sol false
    obtain ⟨tp, htrack, hruns, -⟩ := (s.chip.solution sol false).tpSolution_track sol.ok (s.chip.solution sol false).track.trust
    have hacq := (s.chip.solution sol false).tpSolution_acq sol.ok (s.chip.solution sol false).track.trust
    rw [Chip.follow_acq, Chip.follow_track_trust, Chip.follow_track_solved, Chip.follow_track_solution, Chip.follow_track_tp, if_pos htracking]
    generalize s.chip.solution sol false = c1 at *
    dsimp only
    generalize c1.tpSolution sol.ok c1.track.trust = c2 at *
    rw [if_pos hok, htrack, hacq]
    refine ⟨htrust, hsolved, rfl, hentry, hlat, hlon, hheight, fun hon hle => hruns hok ?_ ?_⟩
    · rw [htp]
      exact hon
    · rw [Chip.runF, Chip.runW, hrun, htrust]
      exact hle
  case unsolved =>
    refine Gives.run (exec_navSolution sol s) hawake ?_
    obtain ⟨htrust, hsolved, htp, hacq⟩ := Chip.solution_fails (c := s.chip) hok
    obtain ⟨tp, htrack, -, hholds⟩ := (s.chip.solution sol false).tpSolution_track sol.ok (s.chip.solution sol false).track.trust
    have hacq2 := (s.chip.solution sol false).tpSolution_acq sol.ok (s.chip.solution sol false).track.trust
    rw [Chip.follow_acq, Chip.follow_track_trust, Chip.follow_track_solved, Chip.follow_track_tp, if_pos htracking]
    generalize s.chip.solution sol false = c1 at *
    dsimp only
    generalize c1.tpSolution sol.ok c1.track.trust = c2 at *
    rw [if_neg (by rw [hok]; decide), htrack, hacq2, hacq]
    exact ⟨htrust, hsolved, rfl, fun hrun => hholds hok (htp.trans hrun)⟩
  case applied =>
    refine Gives.host (exec_gtrkCfgArm s) hawake hopen ?_
    have hidle1 : (s.chip.armLast 0x2800 s.chip.gtrkCheck).tracking = false := hidle
    rw [Chip.follow_run, Chip.gtrkCfgArm, if_pos hok, hidle1, if_neg Bool.false_ne_true, Chip.gtrkApply_run]
    exact applyWords_run _ _ _ (Chip.armLast_run _ _ _)
  case held =>
    refine Gives.host (exec_gtrkCfgArm s) hawake hopen ?_
    have hbusy1 : (s.chip.armLast 0x2800 s.chip.gtrkCheck).tracking = true := hbusy
    rw [Chip.follow_run, Chip.armedSet_follow, Chip.gtrkCfgArm, if_pos hok, if_pos hbusy1]
    exact ⟨(Chip.holdSet_run _ _ _).trans (Chip.armLast_run _ _ _), armedSet_holdSet _ _ _⟩
  case refused =>
    refine Gives.host (exec_gtrkCfgArm s) hawake hopen ?_
    rw [Chip.follow_run, Chip.reg_of_regs (Chip.follow_regs _ _), Chip.gtrkCfgArm, if_neg hbad, Chip.reg_armLast_self, Chip.gtrkCheck_refused hbad]
    exact ⟨Chip.armLast_run _ _ _, rfl⟩
  case trust =>
    refine Gives.host (exec_gtrkTrustArm s) hawake hopen ?_
    simp only [Chip.rf] at h1 h2 h3 h4
    rw [Chip.follow_run, Chip.gtrkTrustArm, decide_eq_true h1, decide_eq_true h2, decide_eq_true h3, decide_eq_true h4, if_pos (by rfl)]
    exact applyWords_run _ _ _ (Chip.armLast_run _ _ _)
  case noTrust =>
    refine Gives.host (exec_gtrkTrustArm s) hawake hopen ?_
    simp only [Chip.rf] at hlow
    rw [Chip.follow_run, Chip.reg_of_regs (Chip.follow_regs _ _), Chip.gtrkTrustArm, decide_eq_false (Nat.not_le.mpr hlow), Bool.false_and, Bool.false_and, Bool.false_and, if_neg Bool.false_ne_true, Chip.reg_armLast_self]
    exact ⟨Chip.armLast_run _ _ _, rfl⟩

end Sys2Proof.Machine
end

section
/-! SUPPORT. The time pulse (13 R602-R614). -/

namespace Sys2Proof.Machine

theorem exec_timeMessage (sec ms : Nat) (mlg : Word) (ideal te : Nat) (leap : Int) (s : State) :
    exec (.timeMessage sec ms mlg ideal te leap) s = execTimeMessage sec ms mlg ideal te leap s := rfl
theorem exec_timePulse (s : State) : exec .timePulse s = execTimePulse s := rfl
theorem exec_pulseEnd (s : State) : exec .pulseEnd s = execPulseEnd s := rfl
theorem exec_pulseSkipped (sec ms : Nat) (leap : Int) (s : State) : exec (.pulseSkipped sec ms leap) s = execPulseSkipped sec ms leap s := rfl
theorem exec_tpStopped (s : State) : exec .tpStopped s = execTpStopped s := rfl
theorem exec_tpCfgArm (s : State) : exec .tpCfgArm s = s.runHost Chip.tpCfgArm := rfl

theorem Chip.withTrack_rings (c : Chip) (t : Track) : ({ c with track := t } : Chip).rings = c.rings := rfl

/-- Once an announced pulse has passed, only the state of the pulse follows EN. -/
theorem Chip.tpSettle_track (c : Chip) : ∃ tp, c.tpSettle.track = { c.track with tp := tp } := by
  unfold Chip.tpSettle
  split
  · exact ⟨_, rfl⟩
  · exact ⟨_, rfl⟩

/-- A pulse that stops waits for trust, or is off. -/
theorem Chip.tpStop_track {c : Chip} (h : c.track.tp = .holdover) :
    c.tpStop.track = { c.track with tp := if c.runB 0x2C00 0 then .waiting else .off, tpActive := false, announced := none } := by
  unfold Chip.tpStop
  rw [if_pos (.inr h)]
  have h1 : (c.produce 0x08 20 (c.timeEntry 3 c.keeper.sec.toNat (c.keeper.sub.toNat * 1000 / 32768) 0 0 0 0)).noRings = c.noRings :=
    Chip.noRings_produce c _ _ _
  dsimp only
  rw [Chip.runB, Chip.runB, Chip.runW, Chip.runW, Chip.noRings_run h1, Chip.noRings_track h1]

/-- The check of the pulse's set has two answers. -/
theorem Chip.tpCheck_refused {c : Chip} (h : c.tpCheck ≠ 0) : c.tpCheck = 6 := by
  unfold Chip.tpCheck at h ⊢
  dsimp only at h ⊢
  split at h
  · exact absurd rfl h
  · next hbad => rw [if_neg hbad]

section
variable {c : Chip} (hok : c.tpCheck = 0)
include hok

theorem Chip.tpCfgArm_applies : (c.tpCfgArm).run = (c.applyWords (c.shadow 0x2C00 3)).run ∧
    (c.track.tp = .off → (c.applyWords (c.shadow 0x2C00 3)).runB 0x2C00 0 = true → c.tpCfgArm.track.tp = .waiting) ∧
    (c.track.announced = none → (c.applyWords (c.shadow 0x2C00 3)).runB 0x2C00 0 = false → c.tpCfgArm.track.tp = .off) := by
  unfold Chip.tpCfgArm
  extract_lets r c1 c2
  have hrun : c2.run = (c.applyWords (c.shadow 0x2C00 3)).run := applyWords_run _ _ _ (Chip.armLast_run _ _ _)
  have htrack : c2.track = c.track := (Chip.track_of_hide (Chip.hide_applyWords c1 _ (ps := others .track) (by decide)) (by decide)).trans
    (Chip.armLast_track _ _ _)
  have hbit : c2.runB 0x2C00 0 = (c.applyWords (c.shadow 0x2C00 3)).runB 0x2C00 0 := by rw [Chip.runB, Chip.runB, Chip.runW, Chip.runW, hrun]
  rw [if_pos (show r = 0 from hok), hbit, htrack]
  split
  · next hon =>
    refine ⟨?_, fun hoff _ => by rw [if_pos hoff], fun _ h => absurd (hon.symm.trans h) (by decide)⟩
    split
    · exact hrun
    · exact hrun
  · next hoff =>
    refine ⟨?_, fun _ h => absurd h hoff, fun hnone _ => by rw [if_pos hnone]⟩
    split
    · exact hrun
    · exact hrun

end

/-- Settles O39: by the state of the pulse before each command. -/
theorem theTimePulseFollowsItsAnnouncement : Obligations.TheTimePulseFollowsItsAnnouncement := by
  refine ⟨fun s sec ms ideal te mlg leap hawake htp hnone => ?announced, fun s hawake hsome hdrives => ?driven, fun s hawake => ?ends,
    fun s sec ms leap hawake htp hdrives => ?skipped, fun s hawake htp => ?stopped, fun s hawake hopen => ⟨fun hok => ?applied, fun hbad => ?refused⟩⟩
  case announced =>
    refine Gives.run (exec_timeMessage sec ms mlg ideal te leap s) hawake ?_
    rw [Chip.ring_follow, Chip.follow_track_qerr, Chip.follow_track_announced, if_pos ⟨htp, hnone⟩]
    dsimp only
    generalize s.chip.timeEntry 1 sec ms (nearestEdge ideal s.chip.acq.keep.drift).2 te (mlg + wd (nearestEdge ideal s.chip.acq.keep.drift).1) leap = msg
    rw [Chip.noRings_track (Chip.noRings_produce _ 0x08 20 msg), ← Chip.produce_ring _ _ _ _ _ (by decide)]
    exact ⟨rfl, rfl, Chip.produce_ring_of_rings (Chip.withTrack_rings _ _) _ _ _ _ (by decide)⟩
  case driven =>
    refine Gives.run (exec_timePulse s) hawake ?_
    rw [Chip.follow_track_announced, Chip.follow_track_tpActive, Chip.follow_track_pulseNo, hsome, hdrives, if_pos (by rfl)]
    obtain ⟨tp, htrack⟩ := Chip.tpSettle_track
      { s.chip with track := { s.chip.track with announced := none, tpActive := true, pulseNo := s.chip.track.pulseNo + 1 } }
    rw [htrack]
    exact ⟨rfl, rfl, rfl⟩
  case ends =>
    refine Gives.run (exec_pulseEnd s) hawake ?_
    rw [Chip.follow_track_tpActive, Chip.follow_track_pulseNo]
    exact ⟨rfl, rfl⟩
  case skipped =>
    refine Gives.run (exec_pulseSkipped sec ms leap s) hawake ?_
    rw [Chip.follow_track_announced, Chip.follow_track_tpActive, Chip.follow_track_pulseNo, if_pos ⟨htp, hdrives⟩]
    dsimp only
    have h1 := Chip.noRings_track (Chip.noRings_produce s.chip 0x08 20 (s.chip.timeEntry 2 sec ms 0 0 0 leap))
    generalize s.chip.produce 0x08 20 (s.chip.timeEntry 2 sec ms 0 0 0 leap) = c1 at h1
    obtain ⟨tp, htrack⟩ := Chip.tpSettle_track { c1 with track := { c1.track with announced := none, pulseNo := c1.track.pulseNo + 1 } }
    rw [htrack, h1]
    exact ⟨rfl, rfl, rfl⟩
  case stopped =>
    refine Gives.run (exec_tpStopped s) hawake ?_
    rw [Chip.follow_track_announced, Chip.follow_track_tpActive, Chip.follow_track_tp, if_pos htp, Chip.tpStop_track htp]
    exact ⟨rfl, rfl, rfl⟩
  case applied =>
    refine Gives.host (exec_tpCfgArm s) hawake hopen ?_
    rw [Chip.follow_run, Chip.follow_track_tp]
    exact Chip.tpCfgArm_applies hok
  case refused =>
    refine Gives.host (exec_tpCfgArm s) hawake hopen ?_
    rw [Chip.follow_run, Chip.follow_track_tp, Chip.reg_of_regs (Chip.follow_regs _ _), Chip.tpCfgArm, if_neg hbad, Chip.reg_armLast_self,
      Chip.tpCheck_refused hbad, Chip.armLast_run, Chip.armLast_track]
    exact ⟨rfl, rfl, rfl⟩

end Sys2Proof.Machine
end

section
/-! SUPPORT. Transmit items: bursts, refusals and launches (14 R649-R665). -/

namespace Sys2Proof.Machine

theorem exec_burstRequest (n : Nat) (s : State) : exec (.burstRequest n) s = execBurstRequest n s := rfl
theorem exec_frameLaunch (n late : Nat) (s : State) :
    exec (.frameLaunch n late) s = s.run (fun c => if n < 32 ∨ 35 < n then c else c.frameLaunch n late) := rfl

/-! ### Items of a transmit ring -/

/-- A ring with an item at its head is not empty. -/
theorem Chip.headItem_fill {c : Chip} {n : Nat} {e : Entry} (h : c.headItem n = some e) : (c.ring n).fill ≠ 0 := by
  intro hzero
  unfold Chip.headItem at h
  dsimp only at h
  rw [if_pos hzero] at h
  cases h

/-- Consuming from a ring that is as one that is not empty moves its tail. -/
theorem Chip.consume_tail {c d : Chip} {n : Nat} (hring : d.ring n = c.ring n) (hfill : (c.ring n).fill ≠ 0) (k : Nat) :
    ((d.consume n k).ring n).tail = (c.ring n).tail + BitVec.ofNat 16 k := by
  have hlt := d.ring_lt n (fun h => hfill (by rw [← hring, h]; rfl))
  rw [Chip.ring_consume _ _ _ hlt, hring]

theorem Chip.txStatus_ring_ne (c : Chip) (kind reason : Nat) (f : RadioFrame) {n : Nat} (hn : n ≠ 0) (h38 : n ≠ 38) :
    (c.txStatus kind reason f).ring n = c.ring n := Chip.produce_ring_ne _ _ _ _ _ hn (Ne.symm h38)

/-- What a refusal leaves, in a state that follows it. -/
theorem Chip.itemRefused {c : Chip} {n : Nat} {e : Entry} (hlow : 32 ≤ n) (hhigh : n ≤ 35) (hhead : c.headItem n = some e) (why : Nat) (w : Chip) :
    ItemRefused c n why e ((c.refuseItem n why e).follow w) := by
  unfold ItemRefused
  rw [Chip.ring_follow, Chip.ring_follow, Chip.follow_radio, Chip.refuseItem]
  refine ⟨Chip.consume_tail (Chip.txStatus_ring_ne _ _ _ _ (by omega) (by omega)) (Chip.headItem_fill hhead) _, ?_, ?_⟩
  · exact Chip.radio_of_hide ((Chip.hide_consume _ _ _ (ps := others .radio) (by decide)).trans (Chip.hide_txStatus c _ _ _ (by decide))) (by decide)
  · exact Chip.ring_upRing_ne _ _ _ _ (by omega)

/-! ### Bursts (R658, R665) -/

section
variable {c : Chip} (htrans : c.modes.transition = none) (r : Reason)
include htrans

theorem Chip.wantBurst_watch (hmode : c.mode = 2) : (c.wantBurst r).radio.burstWanted = true ∧ (c.wantBurst r).modes.transition = some (4, r) ∧
    (c.wantBurst r).rings = c.rings := by
  unfold Chip.wantBurst
  extract_lets c1
  have hmode1 : c1.mode = 2 := hmode
  rw [if_pos (.inr hmode1), Chip.goTo_begins (c := c1) htrans (by omega) (by omega)]
  exact ⟨rfl, rfl, rfl⟩

theorem Chip.wantBurst_keeper (hmode : c.mode = 1) : (c.wantBurst r).radio.burstWanted = true ∧ (c.wantBurst r).modes.transition = some (2, r) ∧
    (c.wantBurst r).modes.thenTo = some (4, r) := by
  unfold Chip.wantBurst
  extract_lets c1
  have hmode1 : c1.mode = 1 := hmode
  have htrans1 : c1.modes.transition = none := htrans
  rw [if_pos (.inl hmode1), Chip.goTo, htrans1]
  dsimp only
  rw [if_neg (by omega), if_pos ⟨hmode1, .inr rfl⟩]
  exact ⟨rfl, rfl, rfl⟩

end

/-! ### Launches (R649-R651, R657) -/

section
variable {c : Chip} {n late : Nat} {e : Entry} (hhead : c.headItem n = some e) (hkind : fld (ew e 0) 31 24 = 1) (hfree : c.radioRefusal = none)
  (hpowered : rcPowered c.mode = true) (hidle : c.radio.state ≠ .transmitting)
include hhead hkind hfree hpowered hidle

theorem Chip.frameLaunch_late (hlimit : c.runF 0x3002 23 16 ≠ 0) (hlate : c.runF 0x3002 23 16 < late) : c.frameLaunch n late = c.refuseItem n 5 e := by
  unfold Chip.frameLaunch
  rw [hhead]
  dsimp only
  rw [if_neg (not_not.mpr hkind), hfree]
  dsimp only
  rw [hpowered, decide_eq_false hidle, if_neg (by decide), if_pos ⟨hlimit, hlate⟩]

/-- A frame in time is refused or launched by its checks. -/
theorem Chip.frameLaunch_checked (htime : late ≤ c.runF 0x3002 23 16) : c.frameLaunch n late =
    (c.txRefusal e).elim (c.launch n e) (fun why => c.refuseItem n why e) := by
  unfold Chip.frameLaunch
  rw [hhead]
  dsimp only
  rw [if_neg (not_not.mpr hkind), hfree]
  dsimp only
  rw [hpowered, decide_eq_false hidle, if_neg (by decide), if_neg (fun h => absurd htime (Nat.not_le.mpr h.2))]
  cases c.txRefusal e with
  | none => rfl
  | some why => rfl

end

section
variable {c : Chip} {e : Entry}

theorem Chip.txRefusal_format (h : c.formatBad e = true) : c.txRefusal e = some 6 := by
  unfold Chip.txRefusal
  dsimp only
  rw [if_pos h]

theorem Chip.txRefusal_band (h : c.formatBad e = false) (hband : inBand (c.freqOf e) (hBw e) = false ∨ c.budgetEntry (c.freqOf e) (hBw e) = none) :
    c.txRefusal e = some 2 := by
  have hnone : (if inBand (c.freqOf e) (hBw e) then c.budgetEntry (c.freqOf e) (hBw e) else none) = none := by
    rcases hband with hout | hno
    · rw [hout, if_neg Bool.false_ne_true]
    · rw [hno, ite_self]
  unfold Chip.txRefusal
  dsimp only
  rw [h, if_neg Bool.false_ne_true, hnone]

variable {k : Nat} (h : c.formatBad e = false) (hband : inBand (c.freqOf e) (hBw e) = true) (hentry : c.budgetEntry (c.freqOf e) (hBw e) = some k)
include h hband hentry

/-- The checks of a frame that its budget entry holds: power, on-air total, dwell. -/
theorem Chip.txRefusal_entry : c.txRefusal e =
    (if sx 8 (fld (c.runW (0x3011 + 3 * k)) 23 16) < hPower e then some 3
    else if fld (c.runW (0x3011 + 3 * k)) 15 0 * 360000 < c.usedUs k + c.airOf e then some 1
    else if hHop e = true ∧ (c.runF 0x3020 15 0 * 1000 < c.airOf e ∨ c.runF 0x3020 15 0 * 1000 < c.hopUs (fld (ew e 2) 5 0) + c.airOf e) then some 4
    else none) := by
  unfold Chip.txRefusal
  dsimp only
  rw [h, if_neg Bool.false_ne_true, if_pos hband, hentry]

theorem Chip.txRefusal_power (hpower : sx 8 (fld (c.runW (0x3011 + 3 * k)) 23 16) < hPower e) : c.txRefusal e = some 3 := by
  rw [Chip.txRefusal_entry h hband hentry, if_pos hpower]

theorem Chip.txRefusal_duty (hpower : hPower e ≤ sx 8 (fld (c.runW (0x3011 + 3 * k)) 23 16))
    (hduty : fld (c.runW (0x3011 + 3 * k)) 15 0 * 360000 < c.usedUs k + c.airOf e) : c.txRefusal e = some 1 := by
  rw [Chip.txRefusal_entry h hband hentry, if_neg (not_lt.mpr hpower), if_pos hduty]

theorem Chip.txRefusal_none (hpower : hPower e ≤ sx 8 (fld (c.runW (0x3011 + 3 * k)) 23 16))
    (hduty : c.usedUs k + c.airOf e ≤ fld (c.runW (0x3011 + 3 * k)) 15 0 * 360000) (hhop : hHop e = false) : c.txRefusal e = none := by
  rw [Chip.txRefusal_entry h hband hentry, if_neg (not_lt.mpr hpower), if_neg (not_lt.mpr hduty), hhop, if_neg (fun h => Bool.false_ne_true h.1)]

end

theorem Chip.rxStatus_ring_ne (c : Chip) (kind tag len : Nat) (w : Entry) {n : Nat} (hn : n ≠ 0) (h39 : n ≠ 39) :
    (c.rxStatus kind tag len w).ring n = c.ring n := Chip.produce_ring_ne _ _ _ _ _ hn (Ne.symm h39)

theorem Chip.preemptRx_ring_ne (c : Chip) {n : Nat} (hn : n ≠ 0) (h39 : n ≠ 39) : c.preemptRx.ring n = c.ring n := by
  unfold Chip.preemptRx
  split
  · exact (Chip.ring_of (Chip.upRadio_rings _ _)).trans (Chip.rxStatus_ring_ne c _ _ _ _ hn h39)
  · rfl

/-- A launched frame is on air, has left its ring and is counted. -/
theorem Chip.launch_onAir {c : Chip} {n k : Nat} {e : Entry} (hlow : 32 ≤ n) (hhigh : n ≤ 35) (hhead : c.headItem n = some e) (hhop : hHop e = false)
    (hentry : c.budgetEntry (c.freqOf e) (hBw e) = some k) :
    (c.launch n e).radio.state = .transmitting ∧ (c.launch n e).radio.paOn = true ∧ (c.launch n e).radio.power = hPower e ∧
      (c.launch n e).radio.foldback = 0 ∧ ((c.launch n e).ring n).tail = (c.ring n).tail + BitVec.ofNat 16 (itemEntries e) ∧
      (∃ f : RadioFrame, (c.launch n e).radio.tx = some f ∧ f.header = e ∧ f.freq = (ew e 2).toNat ∧ f.airUs = c.airOf e ∧
        f.payload = c.headPayload n (hLen e)) ∧
      (∃ a : AirTime, (c.launch n e).radio.air.head? = some a ∧ a.us = c.airOf e ∧ a.entry = k ∧ a.sec = c.keeper.sec.toNat) := by
  have hfreq : c.freqOf e = (ew e 2).toNat := by
    unfold Chip.freqOf
    rw [hhop, if_neg Bool.false_ne_true]
  have htail := Chip.consume_tail (Chip.preemptRx_ring_ne c (by omega) (by omega)) (Chip.headItem_fill hhead) (itemEntries e)
  have hk : (c.budgetEntry (c.freqOf e) (hBw e)).getD 0 = k := by rw [hentry]; rfl
  unfold Chip.launch
  extract_lets t f c1
  have hring : (c1.ring n).tail = (c.ring n).tail + BitVec.ofNat 16 (itemEntries e) := htail
  exact ⟨rfl, rfl, rfl, rfl, hring, ⟨f, rfl, rfl, hfreq, rfl, rfl⟩, ⟨_, rfl, rfl, hk, rfl⟩⟩

/-- Settles O40: by the first check of the item that refuses it. -/
theorem framesAreCheckedAndLaunched : Obligations.FramesAreCheckedAndLaunched := by
  refine ⟨fun s n e hawake hlow hhigh hhead hkind => ⟨fun why hwhy => ?burstRefused, fun hfree htrans hmode => ?watch, fun hfree htrans hmode => ?keeper⟩,
    fun s n late e hawake hlow hhigh hhead hkind hfree hpowered hidle => ⟨fun hlimit hlate => ?late, fun htime => ⟨fun hbad => ?format,
      fun hgood hband => ?band, fun k hgood hband hentry => ⟨fun hpower => ?power, fun hpower hduty => ?duty, fun hpower hduty hhop => ?launched⟩⟩⟩⟩
  case burstRefused =>
    refine Gives.run (exec_burstRequest n s) hawake ?_
    rw [if_neg (by omega), hhead]
    dsimp only
    rw [if_neg hkind, hwhy]
    exact Chip.itemRefused hlow hhigh hhead why _
  case watch =>
    refine Gives.run (exec_burstRequest n s) hawake ?_
    rw [Chip.follow_radio, Chip.follow_modes, Chip.follow_rings, if_neg (by omega), hhead]
    dsimp only
    rw [if_neg hkind, hfree]
    exact Chip.wantBurst_watch htrans _ hmode
  case keeper =>
    refine Gives.run (exec_burstRequest n s) hawake ?_
    rw [Chip.follow_radio, Chip.follow_modes, if_neg (by omega), hhead]
    dsimp only
    rw [if_neg hkind, hfree]
    exact Chip.wantBurst_keeper htrans _ hmode
  all_goals
    refine Gives.run (exec_frameLaunch n late s) hawake ?_
    rw [if_neg (by omega)]
  case late =>
    rw [Chip.frameLaunch_late hhead hkind hfree hpowered hidle hlimit hlate]
    exact Chip.itemRefused hlow hhigh hhead 5 _
  case format =>
    rw [Chip.frameLaunch_checked hhead hkind hfree hpowered hidle htime, Chip.txRefusal_format hbad, Option.elim_some]
    exact Chip.itemRefused hlow hhigh hhead 6 _
  case band =>
    rw [Chip.frameLaunch_checked hhead hkind hfree hpowered hidle htime, Chip.txRefusal_band hgood hband, Option.elim_some]
    exact Chip.itemRefused hlow hhigh hhead 2 _
  case power =>
    rw [Chip.frameLaunch_checked hhead hkind hfree hpowered hidle htime, Chip.txRefusal_power hgood hband hentry hpower, Option.elim_some]
    exact Chip.itemRefused hlow hhigh hhead 3 _
  case duty =>
    rw [Chip.frameLaunch_checked hhead hkind hfree hpowered hidle htime, Chip.txRefusal_duty hgood hband hentry hpower hduty, Option.elim_some]
    exact Chip.itemRefused hlow hhigh hhead 1 _
  case launched =>
    rw [Chip.frameLaunch_checked hhead hkind hfree hpowered hidle htime, Chip.txRefusal_none hgood hband hentry hpower hduty hhop, Option.elim_none, Chip.follow_radio,
      Chip.ring_follow]
    exact Chip.launch_onAir hlow hhigh hhead hhop hentry

end Sys2Proof.Machine
end

section
/-! SUPPORT. The ends of frames on air, reflection and the radio's sets (14 R637, R656, R663-R670). -/

namespace Sys2Proof.Machine

theorem exec_frameSent (s : State) : exec .frameSent s = s.run Chip.frameSentYard := rfl
theorem exec_txQueueEmpty (s : State) : exec .txQueueEmpty s = s.run (fun c => if c.radio.tx.isSome then (c.abortTx 7).burstOver else c) := rfl
theorem exec_txAbort (s : State) : exec .txAbort s = s.runHost Chip.txAbort := rfl
theorem exec_reflectCheck (loss : Nat) (s : State) : exec (.reflectCheck loss) s = s.run (fun c => c.reflect loss) := rfl
theorem exec_synthUnlock (s : State) : exec .synthUnlock s = s.run (fun c => c.setBits 0x3102 8) := rfl
theorem exec_wrfRxArm (s : State) : exec .wrfRxArm s = s.runHost (fun c => c.radioArm 0x3000) := rfl
theorem exec_wrfTxArm (s : State) : exec .wrfTxArm s = s.runHost (fun c => c.radioArm 0x3002) := rfl
theorem exec_wrfRfArm (s : State) : exec .wrfRfArm s = s.runHost (fun c => c.radioArm 0x3100) := rfl
theorem exec_wrfDutyArm (s : State) : exec .wrfDutyArm s = s.runHost (fun c => c.radioArm 0x301C) := rfl
theorem exec_wrfHopArm (s : State) : exec .wrfHopArm s = s.runHost (fun c => c.radioArm 0x3020) := rfl

/-! ### The end of a frame (R656, R663, R664) -/

theorem Chip.txStatus_radio (c : Chip) (kind reason : Nat) (f : RadioFrame) : (c.txStatus kind reason f).radio = c.radio :=
  Chip.radio_of_hide (Chip.hide_txStatus c kind reason f (ps := others .radio) (by decide)) (by decide)

theorem Chip.frameSent_ends {c : Chip} {f : RadioFrame} (h : c.radio.tx = some f) :
    c.frameSent.radio.tx = none ∧ c.frameSent.radio.sent = c.radio.sent + 1 ∧ c.frameSent.radio.paOn = false ∧
      c.frameSent.radio.air = c.radio.air ∧ c.frameSent.ring 38 = (c.txStatus 1 0 f).ring 38 := by
  unfold Chip.frameSent
  rw [h]
  dsimp only
  have h1 := c.txStatus_radio 1 0 f
  generalize c.txStatus 1 0 f = c1 at h1 ⊢
  obtain ⟨b, x, hradio⟩ := Chip.burstOver_radio
    (c1.upRadio (fun r => { r with tx := none, paOn := false, sent := r.sent + 1, power := 0, state := RadioState.afterTx r.window }))
  rw [hradio, Chip.ring_of (Chip.burstOver_rings _), Chip.upRadio_radio, h1, Chip.ring_of (Chip.upRadio_rings _ _)]
  exact ⟨rfl, rfl, rfl, rfl, rfl⟩

/-- The yard engine, told that its report was sent, leaves the radio and ring 38. -/
theorem Chip.frameSentYard_radio (c : Chip) : c.frameSentYard.radio = c.frameSent.radio ∧ c.frameSentYard.ring 38 = c.frameSent.ring 38 := by
  unfold Chip.frameSentYard
  cases h : c.radio.tx with
  | none =>
    have hsame : c.frameSent = c := by
      unfold Chip.frameSent
      rw [h]
    rw [hsame]
    exact ⟨rfl, rfl⟩
  | some f =>
    dsimp only
    split
    · refine ⟨?_, ?_⟩
      · exact (Chip.radio_of_hide (Chip.hide_reportEvent _ 0 (ps := others .radio) (by decide)) (by decide)).trans (Chip.upYard_radio _ _)
      · rw [Chip.reportEvent, Chip.event, Chip.post2_ring_ne _ _ _ _ _ (by decide) (by decide), Chip.ring_of (Chip.upUpd_rings _ _),
          Chip.ring_of (Chip.upYard_rings _ _)]
    · exact ⟨rfl, rfl⟩

theorem Chip.abortTx_ends {c : Chip} {f : RadioFrame} (h : c.radio.tx = some f) (reason : Nat) :
    (c.abortTx reason).burstOver.radio.tx = none ∧ (c.abortTx reason).burstOver.radio.aborted = c.radio.aborted + 1 ∧
      (c.abortTx reason).burstOver.radio.paOn = false ∧ (c.abortTx reason).burstOver.rf 0x3102 2 2 = 1 ∧
      (c.abortTx reason).burstOver.radio.air = c.radio.air ∧ (c.abortTx reason).burstOver.ring 38 = (c.txStatus 2 reason f).ring 38 := by
  have hregs : (c.abortTx reason).burstOver.regs = (c.abortTx reason).regs :=
    Chip.regs_of_hide (Chip.hide_burstOver _ (ps := others .regs) (by decide)) (by decide)
  rw [Chip.rf, Chip.reg_of_regs hregs]
  unfold Chip.abortTx
  rw [h]
  dsimp only
  have h1 := c.txStatus_radio 2 reason f
  generalize c.txStatus 2 reason f = c1 at h1 ⊢
  obtain ⟨b, x, hradio⟩ := Chip.burstOver_radio ((c1.setBits 0x3102 4).upRadio
    (fun r => { r with tx := none, paOn := false, aborted := r.aborted + 1, power := 0, state := RadioState.afterTx r.window }))
  rw [hradio, Chip.ring_of (Chip.burstOver_rings _), Chip.upRadio_radio, Chip.setBits_radio, h1, Chip.ring_of (Chip.upRadio_rings _ _),
    Chip.ring_of (Chip.setBits_rings _ _ _), Chip.reg_of_regs (Chip.upRadio_regs _ _), Chip.reg_setBits, if_pos rfl]
  exact ⟨rfl, rfl, rfl, fld_or_bit _ 2 (by decide), rfl, rfl⟩

/-! ### Reflection (R637, R638) -/

/-- A bit that is not 1 is 0. -/
theorem Chip.rf_bit_zero {c : Chip} {a b : Nat} (h : c.rf a b b ≠ 1) : c.rf a b b = 0 := by
  have hlt : c.rf a b b < 2 := by
    unfold Chip.rf fld
    rw [Nat.sub_self]
    exact Nat.mod_lt _ (by decide)
  omega

theorem Chip.protect_radio (c : Chip) (origin code a0 a1 a2 a3 : Nat) : (c.protect origin code a0 a1 a2 a3).radio = c.radio :=
  Chip.radio_of_hide (Chip.hide_protect c origin code a0 a1 a2 a3 (ps := others .radio) (by decide)) (by decide)

theorem Chip.protect_regs (c : Chip) (origin code a0 a1 a2 a3 : Nat) : (c.protect origin code a0 a1 a2 a3).regs = c.regs :=
  Chip.regs_of_hide (Chip.hide_protect c origin code a0 a1 a2 a3 (ps := others .regs) (by decide)) (by decide)

theorem Chip.reflect_lowers {c : Chip} {f : RadioFrame} {loss : Nat} (h : c.radio.tx = some f) (hloss : loss < 60) (hfold : c.radio.foldback < 6) :
    (c.reflect loss).radio.foldback = c.radio.foldback + 1 ∧ (c.reflect loss).radio.power = c.radio.power - 1 ∧ (c.reflect loss).radio.tx = some f ∧
      (c.radio.foldback = 0 → (c.reflect loss).rf 0x3102 (b2n (hPort f.header)) (b2n (hPort f.header)) = 1) := by
  unfold Chip.reflect
  rw [h]
  extract_lets c1
  have hradio : c1.radio = { c.radio with foldback := c.radio.foldback + 1, power := c.radio.power - 1 } := rfl
  have hfacts : c1.radio.foldback = c.radio.foldback + 1 ∧ c1.radio.power = c.radio.power - 1 ∧ c1.radio.tx = some f := by
    rw [hradio]
    exact ⟨rfl, rfl, h⟩
  have hb : b2n (hPort f.header) < 32 := by
    unfold b2n
    split <;> decide
  dsimp only
  rw [if_neg (by omega)]
  split
  · split
    · rw [Chip.protect_radio, Chip.setBits_radio, Chip.rf, Chip.reg_of_regs (Chip.protect_regs _ _ _ _ _ _ _), Chip.reg_setBits, if_pos rfl]
      exact ⟨hfacts.1, hfacts.2.1, hfacts.2.2, fun _ => fld_or_bit _ _ hb⟩
    · next hset => exact ⟨hfacts.1, hfacts.2.1, hfacts.2.2, fun _ => by_contra fun hne => hset (Chip.rf_bit_zero hne)⟩
  · next hmore => exact ⟨hfacts.1, hfacts.2.1, hfacts.2.2, fun hzero => absurd hzero hmore⟩

theorem Chip.reflect_keeps {c : Chip} {f : RadioFrame} {loss : Nat} (h : c.radio.tx = some f) (hkeep : 60 ≤ loss ∨ 6 ≤ c.radio.foldback) :
    c.reflect loss = c := by
  unfold Chip.reflect
  rw [h]
  dsimp only
  rw [if_pos hkeep]

/-! ### Sets of the radio (R667, R670) -/

/-- A waiting set of the radio is taken. -/
def Chip.radioTake (c : Chip) (arm : Nat) : Chip := match c.armedSet arm with
  | some s => if arm ≠ 0x3100 ∨ c.live 1 = true then (c.applyWords s.words).dropArmed arm else c
  | none => c

theorem Chip.radioApply_eq (c : Chip) : c.radioApply = if c.radioQuiet then radioArms.foldl Chip.radioTake c else c := rfl

theorem Chip.foldl_radioTake_none {c : Chip} (h : c.girth.armed = []) (l : List Nat) : l.foldl Chip.radioTake c = c := by
  induction l with
  | nil => rfl
  | cons b l ih =>
    have htake : c.radioTake b = c := by
      unfold Chip.radioTake Chip.armedSet
      rw [h]
      rfl
    rw [List.foldl_cons, htake, ih]

/-- With one set waiting, that set alone is taken. -/
theorem Chip.foldl_radioTake_one {c : Chip} {a : ArmedSet} (h : c.girth.armed = [a]) (hlane : a.arm ≠ 0x3100 ∨ c.live 1 = true) {l : List Nat}
    (hmem : a.arm ∈ l) : l.foldl Chip.radioTake c = (c.applyWords a.words).dropArmed a.arm := by
  induction l with
  | nil => exact absurd hmem List.not_mem_nil
  | cons b l ih =>
    rw [List.foldl_cons]
    by_cases hb : a.arm = b
    · have htake : c.radioTake b = (c.applyWords a.words).dropArmed b := by
        unfold Chip.radioTake Chip.armedSet
        rw [h, List.find?_cons_of_pos (by simpa using hb)]
        dsimp only
        rw [if_pos (hb ▸ hlane)]
      have hnone : ((c.applyWords a.words).dropArmed b).girth.armed = [] := by
        rw [Chip.dropArmed, Chip.applyWords_girth, h]
        simp [hb]
      rw [htake, Chip.foldl_radioTake_none hnone, hb]
    · have htake : c.radioTake b = c := by
        unfold Chip.radioTake Chip.armedSet
        rw [h, List.find?_cons_of_neg (by simpa using hb)]
        rfl
      rw [htake]
      exact ih ((List.mem_cons.mp hmem).resolve_left hb)

/-- The block in which an ARM of the radio has shown its result. -/
def Chip.radioShown (c : Chip) (arm res : Nat) : Chip := if arm = 0x3100 then c.armLast arm res else (c.armLast arm res).setFld 0x3000 3 0 res

section
variable (c : Chip) (arm res : Nat)

theorem Chip.radioShown_hide : (c.radioShown arm res).hide [.regs] = c.hide [.regs] := by
  unfold Chip.radioShown
  split
  · exact Chip.hide_armLast _ _ _ (by decide)
  · rw [Chip.hide_setFld _ _ _ _ _ (by decide), Chip.hide_armLast _ _ _ (by decide)]

theorem Chip.radioShown_run : (c.radioShown arm res).run = c.run := Chip.run_of_hide (c.radioShown_hide arm res) (by decide)
theorem Chip.radioShown_girth : (c.radioShown arm res).girth = c.girth := Chip.girth_of_hide (c.radioShown_hide arm res) (by decide)
theorem Chip.radioShown_radio : (c.radioShown arm res).radio = c.radio := Chip.radio_of_hide (c.radioShown_hide arm res) (by decide)

theorem Chip.radioShown_result (harm : arm ≠ 0x3100) (hres : res < 16) : (c.radioShown arm res).rf 0x3000 3 0 = res := by
  unfold Chip.radioShown
  rw [if_neg harm, Chip.rf_setFld_self _ _ _ _ _ (by decide) (by decide)]
  exact Nat.mod_eq_of_lt hres

end

section
variable {c : Chip} {arm : Nat} (hlane : arm = 0x3100 → c.silent 1 = false)
include hlane

theorem Chip.radioArm_eq : c.radioArm arm =
    if c.radioCheck arm = 0 then ((c.radioShown arm (c.radioCheck arm)).holdSet arm (c.radioWords arm)).radioApply else c.radioShown arm (c.radioCheck arm) := by
  unfold Chip.radioArm
  rw [if_neg (fun h => by rw [hlane h.1] at h; exact Bool.false_ne_true h.2)]
  rfl

theorem Chip.radioArm_refused (hbad : c.radioCheck arm ≠ 0) : c.radioArm arm = c.radioShown arm (c.radioCheck arm) := by
  rw [Chip.radioArm_eq hlane, if_neg hbad]

/-- An accepted set waits for the frame under way. -/
theorem Chip.radioArm_waits (hok : c.radioCheck arm = 0) (hbusy : c.radioQuiet = false) :
    c.radioArm arm = (c.radioShown arm 0).holdSet arm (c.radioWords arm) := by
  have hbusy1 : ((c.radioShown arm 0).holdSet arm (c.radioWords arm)).radioQuiet = false := by
    unfold Chip.radioQuiet
    rw [Chip.holdSet_radio, Chip.radioShown_radio]
    exact hbusy
  rw [Chip.radioArm_eq hlane, if_pos hok, hok, Chip.radioApply_eq, hbusy1, if_neg Bool.false_ne_true]

/-- With nothing else waiting and no frame under way, it applies at once. -/
theorem Chip.radioArm_applies (hok : c.radioCheck arm = 0) (hquiet : c.radioQuiet = true) (hnone : c.girth.armed = [])
    (hlive : arm ≠ 0x3100 ∨ c.live 1 = true) (hmem : arm ∈ radioArms) :
    c.radioArm arm = (((c.radioShown arm 0).holdSet arm (c.radioWords arm)).applyWords (c.radioWords arm)).dropArmed arm := by
  have hquiet1 : ((c.radioShown arm 0).holdSet arm (c.radioWords arm)).radioQuiet = true := by
    unfold Chip.radioQuiet
    rw [Chip.holdSet_radio, Chip.radioShown_radio]
    exact hquiet
  have harmed : ((c.radioShown arm 0).holdSet arm (c.radioWords arm)).girth.armed = [{ arm := arm, words := c.radioWords arm }] := by
    change (c.radioShown arm 0).girth.armed.filter _ ++ _ = _
    rw [Chip.radioShown_girth, hnone]
    rfl
  have hlive1 : arm ≠ 0x3100 ∨ ((c.radioShown arm 0).holdSet arm (c.radioWords arm)).live 1 = true := by
    refine hlive.imp id fun h => ?_
    change decide ((c.radioShown arm 0).lane 1 = .live) = true
    rw [Chip.lane, Chip.radioShown_girth]
    exact h
  rw [Chip.radioArm_eq hlane, if_pos hok, hok, Chip.radioApply_eq, hquiet1, if_pos rfl, Chip.foldl_radioTake_one harmed hlive1 hmem]

theorem Chip.radioArm_sets (hok : c.radioCheck arm = 0) (hquiet : c.radioQuiet = true) (hnone : c.girth.armed = [])
    (hlive : arm ≠ 0x3100 ∨ c.live 1 = true) (hmem : arm ∈ radioArms) :
    (c.radioArm arm).run = (c.applyWords (c.radioWords arm)).run ∧ (c.radioArm arm).regs = (c.radioShown arm 0).regs ∧
      (c.radioArm arm).radio = c.radio := by
  rw [Chip.radioArm_applies hlane hok hquiet hnone hlive hmem, Chip.dropArmed_run, Chip.dropArmed_regs, Chip.dropArmed_radio,
    Chip.regs_of_hide (Chip.hide_applyWords _ _ (ps := others .regs) (by decide)) (by decide),
    Chip.radio_of_hide (Chip.hide_applyWords _ _ (ps := others .radio) (by decide)) (by decide), Chip.holdSet_regs, Chip.holdSet_radio,
    Chip.radioShown_radio]
  exact ⟨applyWords_run _ _ _ ((Chip.holdSet_run _ _ _).trans (c.radioShown_run arm 0)), rfl, rfl⟩

end

/-- The hop table's check. -/
theorem Chip.radioCheck_hop (c : Chip) : c.radioCheck 0x3020 =
    if 1 ≤ c.rf 0x3020 22 16 ∧ c.rf 0x3020 22 16 ≤ 64 ∧ 1 ≤ c.rf 0x3020 15 0 then 0 else 6 := by
  unfold Chip.radioCheck Chip.rf
  rw [if_neg (by decide), if_pos rfl]
  simp only [Bool.and_eq_true, decide_eq_true_eq, and_assoc]

theorem Chip.radioCheck_rf (c : Chip) : c.radioCheck 0x3100 = if 2 ≤ c.rf 0x3100 29 24 then 0 else 6 := by
  unfold Chip.radioCheck
  rw [if_neg (by decide), if_neg (by decide), if_pos rfl]

theorem Chip.radioCheck_duty {c : Chip} (h : c.radioCheck 0x301C ≠ 0) : c.radioCheck 0x301C = 6 := by
  unfold Chip.radioCheck at h ⊢
  rw [if_pos rfl] at h ⊢
  split at h
  · exact absurd rfl h
  · next hbad => rw [if_neg hbad]

/-- Settles O41: by the frame on air, and by the check and the quiet of the radio. -/
theorem framesEndAndSetsApply : Obligations.FramesEndAndSetsApply := by
  refine ⟨fun s f hawake htx => ⟨?sent, ?queue, fun hopen => ?abort, fun loss hloss hfold => ?lowers, fun loss hkeep => ?keeps⟩, fun s hawake => ?unlock,
    fun s hawake hopen hnone => ⟨fun hquiet => ⟨?rx, ?tx⟩, fun hbusy => ⟨?rxWaits, ?txWaits⟩, fun hok hquiet => ?duty, fun hbad => ?dutyRefused,
      fun h1 h2 h3 hquiet => ?hop, fun hbad => ?hopRefused, fun hramp hlive hquiet => ?rf, fun hramp hsilent => ?rfRefused⟩⟩
  case sent =>
    refine Gives.run (exec_frameSent s) hawake ?_
    obtain ⟨hradio, hring⟩ := s.chip.frameSentYard_radio
    rw [Chip.follow_radio, Chip.ring_follow, hradio, hring]
    exact Chip.frameSent_ends htx
  case queue =>
    refine Gives.run (exec_txQueueEmpty s) hawake ?_
    rw [Chip.follow_radio, Chip.ring_follow, Chip.rf, Chip.reg_of_regs (Chip.follow_regs _ _), if_pos (by rw [htx]; rfl)]
    exact Chip.abortTx_ends htx 7
  case abort =>
    refine Gives.host (exec_txAbort s) hawake hopen ?_
    obtain ⟨hnone, haborted, -, hfault, -, hstatus⟩ := Chip.abortTx_ends htx 11
    rw [Chip.follow_radio, Chip.ring_follow, Chip.rf, Chip.reg_of_regs (Chip.follow_regs _ _), Chip.txAbort, if_pos (by rw [htx]; rfl)]
    exact ⟨hnone, haborted, hfault, hstatus⟩
  case lowers =>
    refine Gives.run (exec_reflectCheck loss s) hawake ?_
    rw [Chip.follow_radio, Chip.rf, Chip.reg_of_regs (Chip.follow_regs _ _)]
    exact Chip.reflect_lowers htx hloss hfold
  case keeps =>
    refine Gives.run (exec_reflectCheck loss s) hawake ?_
    rw [Chip.follow_radio, Chip.follow_regs, Chip.reflect_keeps htx hkeep]
    exact ⟨rfl, rfl⟩
  case unlock =>
    refine Gives.run (exec_synthUnlock s) hawake ?_
    rw [Chip.follow_radio, Chip.rf, Chip.reg_of_regs (Chip.follow_regs _ _), Chip.reg_setBits, if_pos rfl, Chip.setBits_radio]
    exact ⟨fld_or_bit _ 3 (by decide), rfl⟩
  case rx =>
    refine Gives.host (exec_wrfRxArm s) hawake hopen ?_
    obtain ⟨hrun, hregs, hradio⟩ := Chip.radioArm_sets (c := s.chip) (arm := 0x3000) (fun h => absurd h (by decide)) rfl hquiet hnone (.inl (by decide))
      (by decide)
    rw [Chip.follow_run, Chip.follow_radio, Chip.rf, Chip.reg_of_regs (Chip.follow_regs _ _), Chip.reg_of_regs hregs]
    exact ⟨hrun, s.chip.radioShown_result 0x3000 0 (by decide) (by decide), hradio⟩
  case tx =>
    refine Gives.host (exec_wrfTxArm s) hawake hopen ?_
    obtain ⟨hrun, hregs, hradio⟩ := Chip.radioArm_sets (c := s.chip) (arm := 0x3002) (fun h => absurd h (by decide)) rfl hquiet hnone (.inl (by decide))
      (by decide)
    rw [Chip.follow_run, Chip.follow_radio, Chip.rf, Chip.reg_of_regs (Chip.follow_regs _ _), Chip.reg_of_regs hregs]
    exact ⟨hrun, s.chip.radioShown_result 0x3002 0 (by decide) (by decide), hradio⟩
  case rxWaits =>
    refine Gives.host (exec_wrfRxArm s) hawake hopen ?_
    rw [Chip.follow_run, Chip.armedSet_follow, Chip.radioArm_waits (fun h => absurd h (by decide)) rfl hbusy, Chip.holdSet_run, Chip.radioShown_run]
    exact ⟨rfl, armedSet_holdSet _ _ _⟩
  case txWaits =>
    refine Gives.host (exec_wrfTxArm s) hawake hopen ?_
    rw [Chip.follow_run, Chip.armedSet_follow, Chip.radioArm_waits (fun h => absurd h (by decide)) rfl hbusy, Chip.holdSet_run, Chip.radioShown_run]
    exact ⟨rfl, armedSet_holdSet _ _ _⟩
  case duty =>
    refine Gives.host (exec_wrfDutyArm s) hawake hopen ?_
    obtain ⟨hrun, -, hradio⟩ := Chip.radioArm_sets (c := s.chip) (arm := 0x301C) (fun h => absurd h (by decide)) hok hquiet hnone (.inl (by decide))
      (by decide)
    rw [Chip.follow_run, Chip.follow_radio]
    exact ⟨hrun, hradio⟩
  case dutyRefused =>
    refine Gives.host (exec_wrfDutyArm s) hawake hopen ?_
    rw [Chip.follow_run, Chip.rf, Chip.reg_of_regs (Chip.follow_regs _ _), Chip.radioArm_refused (fun h => absurd h (by decide)) hbad,
      Chip.radioCheck_duty hbad, Chip.radioShown_run]
    exact ⟨rfl, s.chip.radioShown_result 0x301C 6 (by decide) (by decide)⟩
  case hop =>
    refine Gives.host (exec_wrfHopArm s) hawake hopen ?_
    have hok : s.chip.radioCheck 0x3020 = 0 := by rw [Chip.radioCheck_hop, if_pos ⟨h1, h2, h3⟩]
    obtain ⟨hrun, -, -⟩ := Chip.radioArm_sets (c := s.chip) (arm := 0x3020) (fun h => absurd h (by decide)) hok hquiet hnone (.inl (by decide))
      (by decide)
    rw [Chip.follow_run]
    exact hrun
  case hopRefused =>
    refine Gives.host (exec_wrfHopArm s) hawake hopen ?_
    have hsix : s.chip.radioCheck 0x3020 = 6 := by rw [Chip.radioCheck_hop, if_neg (by omega)]
    rw [Chip.follow_run, Chip.rf, Chip.reg_of_regs (Chip.follow_regs _ _), Chip.radioArm_refused (fun h => absurd h (by decide)) (by omega), hsix,
      Chip.radioShown_run]
    exact ⟨rfl, s.chip.radioShown_result 0x3020 6 (by decide) (by decide)⟩
  case rf =>
    refine Gives.host (exec_wrfRfArm s) hawake hopen ?_
    have hok : s.chip.radioCheck 0x3100 = 0 := by rw [Chip.radioCheck_rf, if_pos hramp]
    obtain ⟨hrun, hregs, -⟩ := Chip.radioArm_sets (c := s.chip) (arm := 0x3100) (fun _ => Chip.silent_of_live hlive) hok hquiet hnone (.inr hlive)
      (by decide)
    rw [Chip.follow_run, Chip.reg_of_regs (Chip.follow_regs _ _), Chip.reg_of_regs hregs, Chip.radioShown, if_pos rfl, Chip.reg_armLast_self]
    exact ⟨hrun, rfl⟩
  case rfRefused =>
    refine Gives.host (exec_wrfRfArm s) hawake hopen ?_
    have hsix : s.chip.radioCheck 0x3100 = 6 := by rw [Chip.radioCheck_rf, if_neg (Nat.not_le.mpr hramp)]
    rw [Chip.follow_run, Chip.reg_of_regs (Chip.follow_regs _ _), Chip.radioArm_refused (fun _ => hsilent) (by omega), hsix, Chip.radioShown_run,
      Chip.radioShown, if_pos rfl, Chip.reg_armLast_self]
    exact ⟨rfl, rfl⟩

end Sys2Proof.Machine
end

section
/-! SUPPORT. The temperature supervisor: samples, WARNING, TRIP and thermal hold (19 R843-R857). -/

namespace Sys2Proof.Machine

theorem exec_thermalSample (a b d f : Int) (s : State) :
    exec (.thermalSample a b d f) s = s.run (fun c => c.thermalSample [a, b, d, f]) := rfl
theorem exec_thermTrip (die : Nat) (reading : Int) (s : State) : exec (.thermTrip die reading) s = execThermTrip die reading s := rfl
theorem exec_thermalHoldEnter (s : State) : exec .thermalHoldEnter s = execThermalHoldEnter s := rfl

/-! ### Readings of the four dies -/

theorem Chip.readings_four (c : Chip) (ts : List Int) : ∃ p q r w, c.readings ts = [p, q, r, w] := ⟨_, _, _, _, rfl⟩

theorem hotDie_four (p q r w : Int) : (hotDie [p, q, r, w]).1 = max (max (max p q) r) w := by
  simp only [hotDie, List.length_cons, List.length_nil, List.range_succ, List.range_zero, List.nil_append, List.cons_append, List.foldl_cons,
    List.foldl_nil, List.getD_cons_zero, List.getD_cons_succ, lt_self_iff_false, if_false]
  split_ifs <;> simp only [] at * <;> omega

theorem le_hotDie (c : Chip) (ts : List Int) : ∀ x ∈ c.readings ts, x ≤ (hotDie (c.readings ts)).1 := by
  obtain ⟨p, q, r, w, h⟩ := c.readings_four ts
  rw [h, hotDie_four]
  intro x hx
  simp only [List.mem_cons, List.not_mem_nil, or_false] at hx
  omega

theorem hotDie_lt {c : Chip} {ts : List Int} {t : Int} (h : ∀ x ∈ c.readings ts, x < t) : (hotDie (c.readings ts)).1 < t := by
  obtain ⟨p, q, r, w, hr⟩ := c.readings_four ts
  rw [hr] at h ⊢
  simp only [List.mem_cons, List.not_mem_nil, or_false, forall_eq_or_imp, forall_eq] at h
  rw [hotDie_four]
  omega

/-- A mask that collects one bit per index is below its width, and 0 just when no index has its bit. -/
theorem maskOf_bound_and_zero (P : Nat → Prop) [DecidablePred P] (n : Nat) :
    (List.range n).foldl (fun a d => if P d then a + 2 ^ d else a) 0 < 2 ^ n ∧
      ((List.range n).foldl (fun a d => if P d then a + 2 ^ d else a) 0 = 0 ↔ ∀ d < n, ¬ P d) := by
  induction n with
  | zero => exact ⟨Nat.one_pos, fun _ d hd => absurd hd (Nat.not_lt_zero d), fun _ => rfl⟩
  | succ n ih =>
    obtain ⟨hbound, hzero⟩ := ih
    have hpos : 0 < 2 ^ n := Nat.two_pow_pos n
    rw [List.range_succ, List.foldl_append, List.foldl_cons, List.foldl_nil, Nat.pow_succ, Nat.forall_lt_succ_right, ← hzero]
    by_cases hP : P n
    · rw [if_pos hP]
      exact ⟨by omega, fun h => by omega, fun h => absurd hP h.2⟩
    · rw [if_neg hP]
      exact ⟨by omega, fun h => ⟨h, hP⟩, fun h => h.1⟩

/-- No die is at or above a threshold that every reading is below. -/
theorem diesAbove_eq_zero (c : Chip) (ts : List Int) (t : Int) : diesAbove (c.readings ts) t = 0 ↔ ∀ x ∈ c.readings ts, x < t := by
  obtain ⟨p, q, r, w, hr⟩ := c.readings_four ts
  obtain ⟨hbound, hzero⟩ := maskOf_bound_and_zero (fun d => t ≤ ([p, q, r, w] : List Int).getD d 0) 4
  rw [hr, diesAbove, ← BitVec.toNat_inj, BitVec.toNat_ofNat, Nat.mod_eq_of_lt hbound]
  refine hzero.trans ?_
  simp only [Nat.forall_lt_succ_right, Nat.not_lt_zero, false_imp_iff, forall_const, List.getD_cons_zero, List.getD_cons_succ, not_le,
    List.mem_cons, List.not_mem_nil, or_false, forall_eq_or_imp, forall_eq, true_and, and_assoc]

theorem all_lt_iff (l : List Int) (t : Int) : l.all (fun x => decide (x < t)) = true ↔ ∀ x ∈ l, x < t := by
  simp only [List.all_eq_true, decide_eq_true_eq]

/-! ### What each part of the supervisor writes -/

/-- The supervisor's words, but for what it holds back. -/
def Thermal.core (t : Thermal) : Thermal := { t with deferred := [], held := [], calHeld := false }

/-- What a sample shows: the readings, the dies at WARNING and the peak. -/
def Thermal.shown (t : Thermal) : List Int × BitVec 4 × Bool × Int := (t.temps, t.warnDies, t.peakSeen, t.peak)

theorem Thermal.core_shown (t : Thermal) : t.core.shown = t.shown := rfl
theorem Thermal.core_trip (t : Thermal) : t.core.trip = t.trip := rfl
theorem Thermal.core_below115 (t : Thermal) : t.core.below115 = t.below115 := rfl
theorem Thermal.core_warning (t : Thermal) : t.core.warning = t.warning := rfl
theorem Thermal.core_tripDies (t : Thermal) : t.core.tripDies = t.tripDies := rfl

/-- A sample's readings and the two counts of samples below a threshold. -/
def Thermal.sampled (t : Thermal) (rs : List Int) : Thermal :=
  { t with
    temps := rs, warnDies := diesAbove rs 2000,
    peak := if !t.peakSeen || decide (t.peak < (hotDie rs).1) then (hotDie rs).1 else t.peak,
    peakDie := if !t.peakSeen || decide (t.peak < (hotDie rs).1) then (hotDie rs).2 else t.peakDie, peakSeen := true,
    below120 := if rs.all (fun x => decide (x < 1920)) then t.below120 + 1 else 0,
    below115 := if rs.all (fun x => decide (x < 1840)) then t.below115 + 1 else 0 }

theorem Chip.postSignal_therm (c : Chip) (origin sig : Nat) : (c.postSignal origin sig).therm = c.therm :=
  Chip.therm_of_hide (Chip.hide_postSignal _ _ _ (ps := others .therm) (by decide)) (by decide)

theorem Chip.newTemps_sampled (c : Chip) (rs : List Int) : (c.newTemps rs).countBelow.therm = c.therm.sampled rs := by
  unfold Chip.newTemps
  extract_lets old h c1
  have hread : (if c1.hotDegrees = old then c1 else c1.postSignal 0x01 0x16).therm = c1.therm := by
    split
    · rfl
    · exact c1.postSignal_therm _ _
  unfold Chip.countBelow
  rw [Chip.upTherm_therm, hread]
  rfl

theorem Chip.thermEvent_therm (c : Chip) (code die : Nat) (reading : Int) : (c.thermEvent code die reading).therm = c.therm :=
  Chip.therm_of_hide (Chip.hide_thermEvent _ _ _ _ (ps := others .therm) (by decide)) (by decide)

theorem Chip.warningBegins_therm (c : Chip) : c.warningBegins.therm = { c.therm with warning := true, below120 := 0 } := by
  unfold Chip.warningBegins
  rw [Chip.thermEvent_therm, Chip.setBits_therm, Chip.upTherm_therm]

theorem Chip.warningBegins_regs (c : Chip) : c.warningBegins.rf 0x0071 0 0 = 1 := by
  unfold Chip.warningBegins
  rw [Chip.rf, Chip.reg_of_regs (Chip.regs_of_hide (Chip.hide_thermEvent _ _ _ _ (ps := others .regs) (by decide)) (by decide)), Chip.reg_setBits,
    if_pos rfl]
  exact fld_or_bit _ 0 (by decide)

theorem Chip.warningEnds_therm (c : Chip) : c.warningEnds.therm = { c.therm with warning := false, below120 := 0 } := by
  unfold Chip.warningEnds
  rw [Chip.thermEvent_therm, Chip.upTherm_therm]

/-! ### What WARNING deferred is written -/

theorem Chip.heldCal_therm (c : Chip) : c.heldCal.therm.core = c.therm.core ∧ c.heldCal.therm.deferred = c.therm.deferred := by
  unfold Chip.heldCal
  extract_lets c1
  split
  · split
    · exact ⟨rfl, rfl⟩
    · rw [Chip.therm_of_hide (Chip.hide_burnishEnd _ _ _ _ (ps := others .therm) (by decide)) (by decide)]
      exact ⟨rfl, rfl⟩
  · exact ⟨rfl, rfl⟩

theorem Chip.theftNote_hours (c : Chip) (type : Nat) : (c.theftNote type).keeper.deferredHours = c.keeper.deferredHours := by
  have hrecord (d : Chip) (rule old : Nat) : (d.theftRecord rule old).keeper = d.keeper :=
    Chip.keeper_of_hide (Chip.hide_theftRecord _ _ _ (ps := others .keeper) (by decide)) (by decide)
  unfold Chip.theftNote
  extract_lets now noted
  split_ifs
  · rfl
  · rw [hrecord]
    rfl
  · rfl

/-- One record of the deferral store is written. -/
def Chip.writeDeferred (c : Chip) (e : List Word) : Chip := (c.recordWords e).theftNote (fld (ew e 1) 31 24)

theorem Chip.writeDeferred_keeps (es : List (List Word)) (c : Chip) :
    (es.foldl Chip.writeDeferred c).therm = c.therm ∧ (es.foldl Chip.writeDeferred c).keeper.deferredHours = c.keeper.deferredHours := by
  induction es generalizing c with
  | nil => exact ⟨rfl, rfl⟩
  | cons e es ih =>
    have htherm : (c.writeDeferred e).therm = c.therm := Chip.therm_of_hide ((Chip.hide_theftNote _ _ (by decide)).trans
      (Chip.hide_recordWords _ _ (ps := others .therm) (by decide))) (by decide)
    have hhours : (c.writeDeferred e).keeper.deferredHours = c.keeper.deferredHours := Chip.theftNote_hours _ _
    rw [List.foldl_cons, (ih _).1, (ih _).2, htherm, hhours]
    exact ⟨rfl, rfl⟩

theorem Chip.flushDeferred_writes (c : Chip) : c.flushDeferred.therm.core = c.therm.core ∧ c.flushDeferred.therm.deferred = [] ∧
    c.flushDeferred.therm.held = [] ∧ c.flushDeferred.keeper.deferredHours = [] := by
  unfold Chip.flushDeferred
  extract_lets hours c1 recs c2 c3 hs c4
  have hrecords : c1.therm = c.therm :=
    Chip.therm_of_hide ((Chip.hide_upKeeper _ _ (by decide)).trans
      (Chip.hide_foldl (fun _ _ => Chip.hide_writeHour _ _ (ps := others .therm) (by decide)) _ _)) (by decide)
  obtain ⟨hstore, hhours⟩ := Chip.writeDeferred_keeps recs (c1.upTherm (fun t => { t with deferred := [] }))
  obtain ⟨hcore, hdeferred⟩ := c2.heldCal_therm
  have hkeeper : c3.keeper = c2.keeper := Chip.keeper_of_hide (Chip.hide_heldCal _ (ps := others .keeper) (by decide)) (by decide)
  refine ⟨?_, ?_, rfl, ?_⟩
  · change c3.therm.core = c.therm.core
    rw [hcore, ← hrecords]
    exact (congrArg Thermal.core hstore).trans rfl
  · change c3.therm.deferred = []
    rw [hdeferred]
    exact (congrArg Thermal.deferred hstore).trans rfl
  · change c3.keeper.deferredHours = []
    rw [hkeeper]
    exact hhours

/-! ### TRIP -/

theorem Chip.norDirty_reg_ne (c : Chip) (cause a : Nat) {b : Nat} (hb : b ≠ 0x3E02) : (c.norDirty cause a).reg b = c.reg b := by
  unfold Chip.norDirty
  rw [Chip.reg_of_regs (Chip.regs_of_hide (Chip.hide_journal _ _ _ _ _ _ (ps := others .regs) (by decide)) (by decide)), Chip.reg_setBits, if_neg hb,
    Chip.reg_of_regs (Chip.upMem_regs _ _)]

theorem Chip.norSpoil_reg (c : Chip) (a n b : Nat) : (c.norSpoil a n).reg b = c.reg b :=
  Chip.reg_of_regs (Chip.regs_of_hide (Chip.hide_norSpoil _ _ _ (ps := others .regs) (by decide)) (by decide)) _

theorem Chip.memTrip_reg (c : Chip) {b : Nat} (hb : b ≠ 0x3E02) : c.memTrip.reg b = c.reg b := by
  unfold Chip.memTrip
  extract_lets c1
  split
  · split_ifs
    · rw [Chip.norDirty_reg_ne _ _ _ hb]
      rfl
    · rw [Chip.norDirty_reg_ne _ _ _ hb, Chip.reg_of_regs (Chip.upMem_regs _ _), Chip.norSpoil_reg]
      rfl
    · rfl
  · rfl

theorem Chip.norDirty_mem (c : Chip) (cause a : Nat) : (c.norDirty cause a).mem.state = c.mem.state := by
  unfold Chip.norDirty
  rw [Chip.mem_of_hide (Chip.hide_journal _ _ _ _ _ _ (ps := others .mem) (by decide)) (by decide), Chip.setBits_mem, Chip.upMem_mem]

/-- TRIP suspends an erase that the NOR can suspend. -/
theorem Chip.memTrip_suspends {c : Chip} (hstate : c.mem.state = .erasing) (herase : c.mem.erase.isSome = true) (hok : c.mem.par.suspendOk = true) :
    c.memTrip.mem.state = .suspended := by
  obtain ⟨a, ha⟩ := Option.isSome_iff_exists.mp herase
  unfold Chip.memTrip
  extract_lets c1
  have herase1 : c1.mem.erase = some a := ha
  rw [herase1]
  dsimp only
  rw [if_pos (show c1.mem.state = .erasing from hstate), if_pos (show c1.mem.par.suspendOk = true from hok), Chip.norDirty_mem, Chip.upMem_mem]

theorem Chip.memTrip_phase (c : Chip) : c.memTrip.start.phase = c.start.phase := by
  have hdirty (d : Chip) (cause a : Nat) : (d.norDirty cause a).start = d.start :=
    Chip.start_of_hide (Chip.hide_norDirty _ _ _ (ps := others .start) (by decide)) (by decide)
  unfold Chip.memTrip
  extract_lets c1
  split
  · split_ifs
    · rw [hdirty]
      rfl
    · rw [hdirty]
      rfl
    · rfl
  · rfl

theorem Chip.recordCause_phase (c : Chip) (cause : Nat) (counted : Bool) : (c.recordCause cause counted).start.phase = c.start.phase := by
  unfold Chip.recordCause
  split <;> rfl

theorem Chip.abortRadio_reg_ne (c : Chip) (reason : Nat) {b : Nat} (hb : b ≠ 0x3102) : (c.abortRadio reason).reg b = c.reg b := by
  have hrx (d : Chip) : d.preemptRx.regs = d.regs := Chip.regs_of_hide (Chip.hide_preemptRx _ (ps := others .regs) (by decide)) (by decide)
  have htx : (c.abortTx reason).reg b = c.reg b := by
    unfold Chip.abortTx
    split
    · rfl
    · extract_lets c1
      rw [Chip.reg_of_regs (Chip.upRadio_regs _ _), Chip.reg_setBits, if_neg hb,
        Chip.reg_of_regs (Chip.regs_of_hide (Chip.hide_txStatus _ _ _ _ (ps := others .regs) (by decide)) (by decide))]
  unfold Chip.abortRadio
  rw [Chip.reg_of_regs (Chip.upRadio_regs _ _), Chip.reg_of_regs (hrx _), htx]

theorem Chip.tripCommits_core (c : Chip) : c.tripCommits.therm.core = c.therm.core := by
  unfold Chip.tripCommits
  extract_lets go c1
  have hinterrupt : (if c1.burnish.committing && !c1.therm.calHeld then c1.burnishInterrupt 3 else c1).therm = c1.therm := by
    split
    · exact Chip.therm_of_hide (Chip.hide_burnishInterrupt _ _ (ps := others .therm) (by decide)) (by decide)
    · rfl
  rw [hinterrupt]
  rfl

theorem Chip.ite_upStart_keeps (P : Prop) [Decidable P] (f : StartCtl → StartCtl) (c : Chip) : (if P then c.upStart f else c).therm = c.therm ∧
    (if P then c.upStart f else c).regs = c.regs ∧ (if P then c.upStart f else c).mem = c.mem ∧ (if P then c.upStart f else c).modes = c.modes := by
  split <;> exact ⟨rfl, rfl, rfl, rfl⟩

/-- What the beginning of TRIP leaves: the supervisor in TRIP, its mark, the NOR's erase suspended and a start stopped. -/
theorem Chip.tripBegins_writes (c : Chip) (die : Nat) (reading : Int) :
    (c.tripBegins die reading).therm.core = { c.therm.core with trip := true, below115 := 0 } ∧ (c.tripBegins die reading).rf 0x0071 1 1 = 1 ∧
    (c.start.phase = .dies → (c.tripBegins die reading).start.phase = .tripped) ∧
    (c.mem.state = .erasing → c.mem.erase.isSome = true → c.mem.par.suspendOk = true → (c.tripBegins die reading).mem.state = .suspended) := by
  unfold Chip.tripBegins
  extract_lets e c1 c2 c3
  obtain ⟨htherm, hregs, hmem, -⟩ := Chip.ite_upStart_keeps (c3.start.phase = .dies) (fun s => { s with phase := .tripped }) c3
  have hcause : c2.hide [.mram, .start] = c1.hide [.mram, .start] :=
    (Chip.hide_recordCause _ _ _ (by decide)).trans (Chip.hide_recordWords _ _ (by decide))
  refine ⟨?_, ?_, fun hphase => ?_, fun hstate herase hok => ?_⟩
  · rw [htherm, Chip.therm_of_hide ((Chip.hide_tripFix _ (by decide)).trans (Chip.hide_abortRadio _ _ (ps := others .therm) (by decide))) (by decide),
      Chip.tripCommits_core, Chip.therm_of_hide (Chip.hide_memTrip _ (ps := others .therm) (by decide)) (by decide),
      Chip.therm_of_hide hcause (by decide), Chip.thermEvent_therm]
    rfl
  · rw [Chip.rf, Chip.reg_of_regs hregs, Chip.reg_of_regs (Chip.regs_of_hide (Chip.hide_tripFix _ (ps := others .regs) (by decide)) (by decide)),
      Chip.abortRadio_reg_ne _ _ (by decide),
      Chip.reg_of_regs (Chip.regs_of_hide (Chip.hide_tripCommits _ (ps := others .regs) (by decide)) (by decide)), Chip.memTrip_reg _ (by decide),
      Chip.reg_of_regs (Chip.regs_of_hide hcause (by decide)),
      Chip.reg_of_regs (Chip.regs_of_hide (Chip.hide_thermEvent _ _ _ _ (ps := others .regs) (by decide)) (by decide)), Chip.reg_setBits, if_pos rfl]
    exact fld_or_bit _ 1 (by decide)
  · have hkept : c3.start = c2.memTrip.start := Chip.start_of_hide ((Chip.hide_tripFix _ (by decide)).trans ((Chip.hide_abortRadio _ _ (by decide)).trans
      (Chip.hide_tripCommits _ (ps := others .start) (by decide)))) (by decide)
    have hevent : c1.start = c.start := Chip.start_of_hide (Chip.hide_thermEvent _ _ _ _ (ps := others .start) (by decide)) (by decide)
    have hdies : c3.start.phase = .dies := by
      rw [hkept, Chip.memTrip_phase, Chip.recordCause_phase,
        Chip.start_of_hide (Chip.hide_recordWords _ _ (ps := others .start) (by decide)) (by decide), hevent, hphase]
    rw [if_pos hdies, Chip.upStart_start]
  · have hevent : c1.mem = c.mem := Chip.mem_of_hide (Chip.hide_thermEvent _ _ _ _ (ps := others .mem) (by decide)) (by decide)
    have hsame : c2.mem = c.mem := (Chip.mem_of_hide hcause (by decide)).trans hevent
    rw [hmem, Chip.mem_of_hide ((Chip.hide_tripFix _ (by decide)).trans ((Chip.hide_abortRadio _ _ (by decide)).trans
      (Chip.hide_tripCommits _ (ps := others .mem) (by decide)))) (by decide)]
    exact Chip.memTrip_suspends (by rw [hsame]; exact hstate) (by rw [hsame]; exact herase) (by rw [hsame]; exact hok)

/-- What the end of TRIP leaves: no TRIP, no thermal hold, the battery hold as it was, the NOR's erase resumed and a start continued. -/
theorem Chip.tripEnds_writes (c : Chip) : c.tripEnds.therm.trip = false ∧ c.tripEnds.therm.tripDies = 0 ∧ c.tripEnds.modes.thermalHold = false ∧
    c.tripEnds.modes.batHold = c.modes.batHold ∧ (c.mem.state = .suspended → c.tripEnds.mem.state = .erasing) ∧
    (c.start.phase = .tripped → c.tripEnds.start.phase = .dies) ∧ 
    c.tripEnds.therm.shown = c.therm.shown := by
  unfold Chip.tripEnds
  extract_lets h c1 c2 c3
  obtain ⟨htherm, -, hmem, hmodes⟩ := Chip.ite_upStart_keeps (c3.start.phase = .tripped) (fun s => { s with phase := .dies }) c3
  have hevent : c1.therm = { c.therm with trip := false, tripDies := 0, below115 := 0 } := by
    rw [Chip.thermEvent_therm, Chip.upTherm_therm]
  have hended : c2.therm.trip = false ∧ c2.therm.tripDies = 0 ∧ c2.therm.shown = c.therm.shown := by
    have hwarn : c2.therm = c1.therm ∨ c2.therm = { c1.therm with warning := false, below120 := 0 } := by
      by_cases hw : c1.therm.warning ∧ 2 ≤ c1.therm.below120
      · exact .inr ((congrArg Chip.therm (if_pos hw)).trans c1.warningEnds_therm)
      · exact .inl (congrArg Chip.therm (if_neg hw))
    rcases hwarn with h | h <;> rw [h, hevent] <;> exact ⟨rfl, rfl, rfl⟩
  have hbefore : c2.hide [.rings, .therm] = c.hide [.rings, .therm] := by
    have hfirst : c1.hide [.rings, .therm] = c.hide [.rings, .therm] :=
      (Chip.hide_thermEvent _ _ _ _ (by decide)).trans (Chip.hide_upTherm _ _ (by decide))
    rw [← hfirst]
    unfold c2
    rw [Chip.hide_ite, Chip.hide_warningEnds _ (by decide), ite_self]
  have hleft : c3.therm = c2.therm ∧ c3.start = c2.start :=
    ⟨Chip.therm_of_hide ((Chip.hide_leaveHold _ _ (by decide)).trans (Chip.hide_memResume _ (ps := others .therm) (by decide))) (by decide),
      Chip.start_of_hide ((Chip.hide_leaveHold _ _ (by decide)).trans (Chip.hide_memResume _ (ps := others .start) (by decide))) (by decide)⟩
  obtain ⟨htherm3, hstart3⟩ := hleft
  obtain ⟨hbat, hhold⟩ := leaveHold_modes c2.memResume true
  have hmodes2 : c2.memResume.modes = c.modes := (Chip.modes_of_hide (Chip.hide_memResume _ (ps := others .modes) (by decide)) (by decide)).trans
    (Chip.modes_of_hide hbefore (by decide))
  obtain ⟨htrip, hdies, hkept⟩ := hended
  rw [htherm, htherm3, hmodes, hmem, hbat, hhold, hmodes2]
  refine ⟨htrip, hdies, Bool.and_false _, Bool.and_true _, fun hstate => ?_, fun hphase => ?_, hkept⟩
  · have hstate2 : c2.mem.state = .suspended := by rw [Chip.mem_of_hide hbefore (by decide)]; exact hstate
    rw [Chip.mem_of_hide (Chip.hide_leaveHold _ _ (ps := others .mem) (by decide)) (by decide), Chip.memResume, if_pos hstate2, Chip.upMem_mem]
  · have hphase3 : c3.start.phase = .tripped := by rw [hstart3, Chip.start_of_hide hbefore (by decide)]; exact hphase
    rw [if_pos hphase3, Chip.upStart_start]

/-! ### A sample -/

/-- The supervisor after the readings of a sample, with WARNING begun where it is to begin, and the dies of a TRIP. -/
def Thermal.judged (t : Thermal) (rs : List Int) : Thermal :=
  let t1 := t.sampled rs
  let t2 := if !t1.warning && decide (2000 ≤ (hotDie rs).1) then { t1 with warning := true, below120 := 0 } else t1
  { t2 with tripDies := if t2.trip || decide (diesAbove rs 2240 ≠ 0) then diesAbove rs 2240 else 0 }

/-- The readings are taken and WARNING begins where it is to begin. -/
def Chip.measured (c : Chip) (ts : List Int) : Chip :=
  let c1 := (c.newTemps (c.readings ts)).countBelow
  let c2 := if !c1.therm.warning && decide (2000 ≤ (hotDie c1.therm.temps).1) then c1.warningBegins else c1
  c2.upTherm (fun t => { t with tripDies := if t.trip || decide (diesAbove c2.therm.temps 2240 ≠ 0) then diesAbove c2.therm.temps 2240 else 0 })

/-- TRIP or WARNING ends after its second sample below. -/
def Chip.relieved (c : Chip) : Chip :=
  if c.therm.trip && decide (2 ≤ c.therm.below115) then c.tripEnds
  else if c.therm.warning && !c.therm.trip && decide (2 ≤ c.therm.below120) then c.warningEnds else c

/-- What waits is written once no WARNING and no TRIP stands. -/
def Chip.flushed (c : Chip) : Chip := if c.deferPending && !c.therm.warning && !c.therm.trip then c.flushDeferred else c

theorem Chip.measured_hides (c : Chip) (ts : List Int) :
    (c.measured ts).hide [.regs, .keeper, .rings, .rules, .therm] = c.hide [.regs, .keeper, .rings, .rules, .therm] := by
  unfold Chip.measured
  extract_lets c1 c2
  have hread : c1.hide [.regs, .keeper, .rings, .rules, .therm] = c.hide [.regs, .keeper, .rings, .rules, .therm] :=
    (Chip.hide_countBelow _ (by decide)).trans (Chip.hide_newTemps _ _ (by decide))
  rw [← hread, Chip.hide_upTherm _ _ (by decide)]
  unfold c2
  rw [Chip.hide_ite, Chip.hide_warningBegins _ (by decide), ite_self]

theorem Chip.measured_therm (c : Chip) (ts : List Int) : (c.measured ts).therm = c.therm.judged (c.readings ts) := by
  unfold Chip.measured Thermal.judged
  extract_lets c1 c2 t1 t2
  have hread : c1.therm = t1 := c.newTemps_sampled _
  have htemps : t1.temps = c.readings ts := rfl
  have hwarn : c2.therm = t2 := by
    unfold c2 t2
    rw [apply_ite Chip.therm, Chip.warningBegins_therm, hread, htemps]
    rfl
  have htemps2 : t2.temps = c.readings ts := by
    unfold t2
    split <;> rfl
  rw [Chip.upTherm_therm, hwarn, htemps2]

theorem Chip.measured_temps (c : Chip) (ts : List Int) : (c.measured ts).therm.temps = c.readings ts := by
  rw [Chip.measured_therm]
  unfold Thermal.judged
  extract_lets t1 t2
  change t2.temps = c.readings ts
  unfold t2
  split <;> rfl

/-- A sample is its measurement, a TRIP where one begins, and the ends of TRIP and WARNING. -/
theorem Chip.thermalSample_stages (c : Chip) (ts : List Int) : ∃ die reading, c.thermalSample ts =
    (if diesAbove (c.readings ts) 2240 = 0 ∨ (c.measured ts).therm.trip = true then c.measured ts
      else (c.measured ts).tripBegins die reading).relieved.flushed := by
  refine ⟨(hotDie (c.newTemps (c.readings ts)).countBelow.therm.temps).2, (hotDie (c.newTemps (c.readings ts)).countBelow.therm.temps).1, ?_⟩
  unfold Chip.thermalSample
  extract_lets c1 h c2 hot c3 c4 c5
  have hmeasured : c.measured ts = c3 := rfl
  have hdies : diesAbove (c.readings ts) 2240 = hot := by
    rw [← c.measured_temps ts, hmeasured]
    rfl
  have hended : c4.relieved = c5 := rfl
  have htrips : (if hot = 0 ∨ c3.therm.trip = true then c3 else c3.tripBegins h.2 h.1) = c4 := rfl
  rw [hmeasured, hdies, htrips, hended]
  clear_value c5
  rfl

theorem Thermal.judged_kept (t : Thermal) (rs : List Int) : (t.judged rs).shown = (t.sampled rs).shown ∧ (t.judged rs).trip = t.trip ∧
    (t.judged rs).below115 = (t.sampled rs).below115 ∧ (t.judged rs).held = t.held ∧ (t.judged rs).deferred = t.deferred := by
  unfold Thermal.judged
  extract_lets t1 t2
  have hkept : t2.shown = t1.shown ∧ t2.trip = t1.trip ∧ t2.below115 = t1.below115 ∧ t2.held = t1.held ∧ t2.deferred = t1.deferred := by
    unfold t2
    split <;> exact ⟨rfl, rfl, rfl, rfl, rfl⟩
  exact hkept

/-- Without a reading at WARNING, a sample leaves WARNING as it is and counts. -/
theorem Thermal.judged_cool {t : Thermal} {rs : List Int} (h : t.warning = true ∨ (hotDie rs).1 < 2000) :
    (t.judged rs).warning = t.warning ∧ (t.judged rs).below120 = (t.sampled rs).below120 := by
  have hno : (!(t.sampled rs).warning && decide (2000 ≤ (hotDie rs).1)) = false := by
    change (!t.warning && _) = false
    rcases h with h | h
    · rw [h]; rfl
    · rw [decide_eq_false (by omega), Bool.and_false]
  unfold Thermal.judged
  extract_lets t1 t2
  have hsame : t2 = t1 := if_neg (by rw [hno]; decide)
  rw [hsame]
  exact ⟨rfl, rfl⟩

theorem Thermal.judged_hot {t : Thermal} {rs : List Int} (h : t.warning = false) (hhot : 2000 ≤ (hotDie rs).1) :
    (t.judged rs).warning = true ∧ (t.judged rs).below120 = 0 := by
  have hyes : (!(t.sampled rs).warning && decide (2000 ≤ (hotDie rs).1)) = true := by
    change (!t.warning && _) = true
    rw [h, decide_eq_true hhot]
    rfl
  unfold Thermal.judged
  extract_lets t1 t2
  have hbegun : t2 = { t1 with warning := true, below120 := 0 } := if_pos hyes
  rw [hbegun]
  exact ⟨rfl, rfl⟩

theorem Thermal.judged_tripDies {t : Thermal} {rs : List Int} (h : t.trip = true ∨ diesAbove rs 2240 ≠ 0) :
    (t.judged rs).tripDies = diesAbove rs 2240 := by
  obtain ⟨-, htrip, -⟩ := t.judged_kept rs
  have hpos : (t.judged rs).trip || decide (diesAbove rs 2240 ≠ 0) := by
    rw [htrip]
    rcases h with h | h
    · rw [h]; rfl
    · rw [decide_eq_true h, Bool.or_true]
  exact if_pos hpos

theorem Chip.flushed_hides (c : Chip) : c.flushed.hide [.keeper, .mram, .rings, .seqs, .chains, .burnish, .exc, .acq, .therm] =
    c.hide [.keeper, .mram, .rings, .seqs, .chains, .burnish, .exc, .acq, .therm] := by
  unfold Chip.flushed
  rw [Chip.hide_ite, Chip.hide_flushDeferred _ (by decide), ite_self]

theorem Chip.flushed_core (c : Chip) : c.flushed.therm.core = c.therm.core := by
  unfold Chip.flushed
  split
  · exact c.flushDeferred_writes.1
  · rfl

/-- While WARNING or TRIP stands nothing that waits is written. -/
theorem Chip.flushed_waits {c : Chip} (h : c.therm.warning = true ∨ c.therm.trip = true) : c.flushed = c := by
  unfold Chip.flushed
  rw [if_neg (by rcases h with h | h <;> simp [h])]

/-- Without WARNING and TRIP nothing waits any more. -/
theorem Chip.flushed_empty {c : Chip} (hwarn : c.therm.warning = false) (htrip : c.therm.trip = false) :
    c.flushed.therm.deferred = [] ∧ c.flushed.therm.held = [] ∧ c.flushed.keeper.deferredHours = [] := by
  unfold Chip.flushed
  split
  · exact c.flushDeferred_writes.2
  · next hnone =>
    simp only [Chip.deferPending, hwarn, htrip, Bool.not_false, Bool.and_true, Bool.or_eq_true, Bool.not_eq_true', List.isEmpty_eq_false_iff] at hnone
    tauto

theorem Chip.relieved_shown (c : Chip) : c.relieved.therm.shown = c.therm.shown := by
  unfold Chip.relieved
  split_ifs
  · exact c.tripEnds_writes.2.2.2.2.2.2
  · rw [c.warningEnds_therm]
    rfl
  · rfl

/-- Neither TRIP nor WARNING ends before its second sample below. -/
theorem Chip.relieved_stands {c : Chip} (htrip : c.therm.trip = true → c.therm.below115 < 2)
    (hwarn : c.therm.warning = true → c.therm.trip = false → c.therm.below120 < 2) : c.relieved = c := by
  unfold Chip.relieved
  rw [if_neg, if_neg]
  · simp only [Bool.and_eq_true, Bool.not_eq_true', decide_eq_true_eq, not_and, Nat.not_le, and_imp]
    exact hwarn
  · simp only [Bool.and_eq_true, decide_eq_true_eq, not_and, Nat.not_le]
    exact htrip

theorem Chip.thermalSample_calm {c : Chip} {ts : List Int} (h : (∀ x ∈ c.readings ts, x < 2240) ∨ c.therm.trip = true) :
    c.thermalSample ts = (c.measured ts).relieved.flushed := by
  obtain ⟨die, reading, hstages⟩ := c.thermalSample_stages ts
  rw [hstages, if_pos (h.imp (diesAbove_eq_zero c ts 2240).mpr (fun h => ?_))]
  rw [c.measured_therm, (c.therm.judged_kept _).2.1, h]

theorem Chip.thermalSample_trips {c : Chip} {ts : List Int} (hhot : ∃ x ∈ c.readings ts, 2240 ≤ x) (htrip : c.therm.trip = false) :
    ∃ die reading, c.thermalSample ts = (c.measured ts).tripBegins die reading := by
  obtain ⟨die, reading, hstages⟩ := c.thermalSample_stages ts
  refine ⟨die, reading, ?_⟩
  obtain ⟨x, hx, hle⟩ := hhot
  have hdies : diesAbove (c.readings ts) 2240 ≠ 0 := fun h => absurd ((diesAbove_eq_zero c ts 2240).mp h x hx) (by omega)
  have hnot : (c.measured ts).therm.trip = false := by rw [c.measured_therm, (c.therm.judged_kept _).2.1, htrip]
  obtain ⟨hcore, -⟩ := (c.measured ts).tripBegins_writes die reading
  have htripped : ((c.measured ts).tripBegins die reading).therm.trip = true := by rw [← Thermal.core_trip, hcore]
  have hcount : ((c.measured ts).tripBegins die reading).therm.below115 = 0 := by rw [← Thermal.core_below115, hcore]
  rw [hstages, if_neg (not_or.mpr ⟨hdies, by rw [hnot]; decide⟩), Chip.relieved_stands (fun _ => by omega) (fun _ h => by rw [htripped] at h; cases h),
    Chip.flushed_waits (.inr htripped)]

theorem Chip.thermalSample_shown (c : Chip) (ts : List Int) : (c.thermalSample ts).therm.shown = (c.therm.sampled (c.readings ts)).shown := by
  obtain ⟨die, reading, hstages⟩ := c.thermalSample_stages ts
  have hmeasured : (c.measured ts).therm.shown = (c.therm.sampled (c.readings ts)).shown := by
    rw [c.measured_therm, (c.therm.judged_kept _).1]
  have hflush (d : Chip) : d.flushed.therm.shown = d.therm.shown := by
    rw [← Thermal.core_shown, Chip.flushed_core, Thermal.core_shown]
  have htrip : ((c.measured ts).tripBegins die reading).therm.shown = (c.measured ts).therm.shown := by
    rw [← Thermal.core_shown, ((c.measured ts).tripBegins_writes die reading).1]
    rfl
  rw [hstages, hflush, Chip.relieved_shown, ← hmeasured]
  split
  · rfl
  · exact htrip

theorem Thermal.below120_of_hot {t : Thermal} {rs : List Int} (h : ∃ x ∈ rs, 1920 ≤ x) : (t.sampled rs).below120 = 0 := by
  obtain ⟨x, hx, hle⟩ := h
  exact if_neg (fun hall => absurd ((all_lt_iff rs 1920).mp hall x hx) (by omega))

theorem Thermal.below115_of_hot {t : Thermal} {rs : List Int} (h : ∃ x ∈ rs, 1840 ≤ x) : (t.sampled rs).below115 = 0 := by
  obtain ⟨x, hx, hle⟩ := h
  exact if_neg (fun hall => absurd ((all_lt_iff rs 1840).mp hall x hx) (by omega))

theorem Thermal.below120_of_cool {t : Thermal} {rs : List Int} (h : ∀ x ∈ rs, x < 1920) : (t.sampled rs).below120 = t.below120 + 1 :=
  if_pos ((all_lt_iff rs 1920).mpr h)

theorem Thermal.below115_of_cool {t : Thermal} {rs : List Int} (h : ∀ x ∈ rs, x < 1840) : (t.sampled rs).below115 = t.below115 + 1 :=
  if_pos ((all_lt_iff rs 1840).mpr h)

theorem Chip.measured_trip (c : Chip) (ts : List Int) : (c.measured ts).therm.trip = c.therm.trip := by
  rw [c.measured_therm, (c.therm.judged_kept _).2.1]

/-- A sample below every threshold of TRIP, outside TRIP, that ends no WARNING: the chip is as measured, but for what may be written. -/
theorem Chip.thermalSample_stands {c : Chip} {ts : List Int} (hcalm : ∀ x ∈ c.readings ts, x < 2240) (htrip : c.therm.trip = false)
    (hcount : (c.measured ts).therm.warning = true → (c.measured ts).therm.below120 < 2) : c.thermalSample ts = (c.measured ts).flushed := by
  rw [Chip.thermalSample_calm (.inl hcalm), Chip.relieved_stands (fun h => by rw [c.measured_trip, htrip] at h; cases h) (fun h _ => hcount h)]

/-- TRIP goes on over a sample whose count is not full. -/
theorem Chip.thermalSample_tripStands {c : Chip} {ts : List Int} (htrip : c.therm.trip = true)
    (hcount : (c.therm.sampled (c.readings ts)).below115 < 2) : c.thermalSample ts = c.measured ts := by
  have hstill : (c.measured ts).therm.trip = true := by rw [c.measured_trip, htrip]
  rw [Chip.thermalSample_calm (.inr htrip), Chip.relieved_stands (fun _ => ?_) (fun _ h => by rw [hstill] at h; cases h),
    Chip.flushed_waits (.inr hstill)]
  rw [c.measured_therm, (c.therm.judged_kept _).2.2.1]
  exact hcount

section Sample

variable {c : Chip} {ts : List Int}

theorem Chip.thermalSample_warns (hwarn : c.therm.warning = false) (htrip : c.therm.trip = false) (hcalm : ∀ x ∈ c.readings ts, x < 2240)
    (hhot : ∃ x ∈ c.readings ts, 2000 ≤ x) :
    (c.thermalSample ts).therm.warning = true ∧ (c.thermalSample ts).therm.below120 = 0 ∧ (c.thermalSample ts).therm.trip = false ∧
      (c.thermalSample ts).rf 0x0071 0 0 = 1 ∧ (c.thermalSample ts).therm.held = c.therm.held ∧
      (c.thermalSample ts).therm.deferred = c.therm.deferred := by
  obtain ⟨x, hx, hle⟩ := hhot
  have hmax : 2000 ≤ (hotDie (c.readings ts)).1 := hle.trans (le_hotDie c ts x hx)
  obtain ⟨hbegun, hcount⟩ := Thermal.judged_hot hwarn hmax
  obtain ⟨-, htripped, -, hheld, hdeferred⟩ := c.therm.judged_kept (c.readings ts)
  have hmeasured : c.thermalSample ts = c.measured ts := by
    rw [Chip.thermalSample_stands hcalm htrip (fun _ => by rw [c.measured_therm, hcount]; omega), Chip.flushed_waits (.inl (by rw [c.measured_therm, hbegun]))]
  have hmark : (c.measured ts).rf 0x0071 0 0 = 1 := by
    unfold Chip.measured
    extract_lets c1 c2
    have hread : c1.therm = c.therm.sampled (c.readings ts) := c.newTemps_sampled _
    have hwarned : c1.therm.warning = false := by
      rw [hread]
      exact hwarn
    have htemps : c1.therm.temps = c.readings ts := by rw [hread]; rfl
    have hbegins : c2 = c1.warningBegins := if_pos (by rw [htemps, hwarned, decide_eq_true hmax]; rfl)
    rw [Chip.rf, Chip.reg_of_regs (Chip.upTherm_regs _ _), hbegins]
    exact c1.warningBegins_regs
  rw [hmeasured, c.measured_therm]
  exact ⟨hbegun, hcount, htripped.trans htrip, hmark, hheld, hdeferred⟩

theorem Chip.thermalSample_cool (hwarn : c.therm.warning = false) (htrip : c.therm.trip = false) (hcool : ∀ x ∈ c.readings ts, x < 2000) :
    (c.thermalSample ts).therm.warning = false ∧ (c.thermalSample ts).therm.trip = false ∧
      (c.thermalSample ts).modes.thermalHold = c.modes.thermalHold := by
  obtain ⟨hstill, -⟩ := Thermal.judged_cool (t := c.therm) (.inr (hotDie_lt hcool))
  have hnone : (c.measured ts).therm.warning = false := by rw [c.measured_therm, hstill, hwarn]
  rw [Chip.thermalSample_stands (fun x hx => (hcool x hx).trans (by decide)) htrip (fun h => by rw [hnone] at h; cases h),
    Chip.modes_of_hide (Chip.flushed_hides _) (by decide), Chip.modes_of_hide (c.measured_hides ts) (by decide), ← Thermal.core_warning,
    ← Thermal.core_trip, Chip.flushed_core]
  exact ⟨hnone, (c.measured_trip ts).trans htrip, rfl⟩

theorem Chip.thermalSample_warningEnds (hwarn : c.therm.warning = true) (htrip : c.therm.trip = false) (hcool : ∀ x ∈ c.readings ts, x < 1920)
    (hcount : 1 ≤ c.therm.below120) :
    (c.thermalSample ts).therm.warning = false ∧ (c.thermalSample ts).therm.deferred = [] ∧ (c.thermalSample ts).therm.held = [] ∧
      (c.thermalSample ts).keeper.deferredHours = [] := by
  obtain ⟨hstill, hbelow⟩ := Thermal.judged_cool (t := c.therm) (rs := c.readings ts) (.inl hwarn)
  rw [Thermal.below120_of_cool hcool] at hbelow
  have hends : (c.measured ts).relieved = (c.measured ts).warningEnds := by
    unfold Chip.relieved
    rw [c.measured_trip, c.measured_therm, htrip, hstill, hwarn, hbelow, Bool.false_and, if_neg Bool.false_ne_true, if_pos (by simpa using hcount)]
  have hended : (c.measured ts).warningEnds.therm.warning = false ∧ (c.measured ts).warningEnds.therm.trip = false := by
    rw [Chip.warningEnds_therm]
    exact ⟨rfl, (c.measured_trip ts).trans htrip⟩
  rw [Chip.thermalSample_calm (.inl (fun x hx => (hcool x hx).trans (by decide))), hends, ← Thermal.core_warning, Chip.flushed_core, Thermal.core_warning]
  exact ⟨hended.1, Chip.flushed_empty hended.1 hended.2⟩

/-- WARNING goes on, with the count of the sample. -/
theorem Chip.thermalSample_warningStands (hwarn : c.therm.warning = true) (htrip : c.therm.trip = false) (hcalm : ∀ x ∈ c.readings ts, x < 2240)
    (hcount : (c.therm.sampled (c.readings ts)).below120 < 2) :
    (c.thermalSample ts).therm.warning = true ∧ (c.thermalSample ts).therm.below120 = (c.therm.sampled (c.readings ts)).below120 := by
  obtain ⟨hstill, hbelow⟩ := Thermal.judged_cool (t := c.therm) (rs := c.readings ts) (.inl hwarn)
  rw [Chip.thermalSample_stands hcalm htrip (fun _ => by rw [c.measured_therm, hbelow]; exact hcount),
    Chip.flushed_waits (.inl (by rw [c.measured_therm, hstill, hwarn])), c.measured_therm]
  exact ⟨hstill.trans hwarn, hbelow⟩

theorem Chip.thermalSample_tripEnds (htrip : c.therm.trip = true) (hcool : ∀ x ∈ c.readings ts, x < 1840) (hcount : 1 ≤ c.therm.below115) :
    (c.thermalSample ts).therm.trip = false ∧ (c.thermalSample ts).therm.tripDies = 0 ∧ (c.thermalSample ts).modes.thermalHold = false ∧
      (c.thermalSample ts).modes.batHold = c.modes.batHold ∧ (c.mem.state = .suspended → (c.thermalSample ts).mem.state = .erasing) ∧
      (c.start.phase = .tripped → (c.thermalSample ts).start.phase = .dies) := by
  obtain ⟨-, -, hbelow, -⟩ := c.therm.judged_kept (c.readings ts)
  rw [Thermal.below115_of_cool hcool] at hbelow
  have hends : (c.measured ts).relieved = (c.measured ts).tripEnds := by
    unfold Chip.relieved
    rw [c.measured_trip, c.measured_therm, htrip, hbelow, if_pos (by simpa using hcount)]
  obtain ⟨htripped, hdies, hhold, hbat, hmem, hstart, -⟩ := (c.measured ts).tripEnds_writes
  have hbefore := c.measured_hides ts
  rw [Chip.thermalSample_calm (.inr htrip), hends, ← Thermal.core_trip, ← Thermal.core_tripDies, Chip.flushed_core,
    Thermal.core_trip, Thermal.core_tripDies, Chip.modes_of_hide (Chip.flushed_hides _) (by decide), Chip.mem_of_hide (Chip.flushed_hides _) (by decide),
    Chip.start_of_hide (Chip.flushed_hides _) (by decide), hbat, ← Chip.modes_of_hide hbefore (by decide), ← Chip.mem_of_hide hbefore (by decide),
    ← Chip.start_of_hide hbefore (by decide)]
  exact ⟨htripped, hdies, hhold, rfl, hmem, hstart⟩

theorem Chip.thermalSample_tripBegins (htrip : c.therm.trip = false) (hhot : ∃ x ∈ c.readings ts, 2240 ≤ x) :
    (c.thermalSample ts).therm.trip = true ∧ (c.thermalSample ts).therm.warning = true ∧
      (c.thermalSample ts).therm.tripDies = diesAbove (c.readings ts) 2240 ∧ (c.thermalSample ts).rf 0x0071 1 1 = 1 ∧
      (c.start.phase = .dies → (c.thermalSample ts).start.phase = .tripped) ∧
      (c.mem.state = .erasing → c.mem.erase.isSome = true → c.mem.par.suspendOk = true → (c.thermalSample ts).mem.state = .suspended) := by
  obtain ⟨die, reading, hsample⟩ := Chip.thermalSample_trips hhot htrip
  obtain ⟨hcore, hmark, hstart, hmem⟩ := (c.measured ts).tripBegins_writes die reading
  have hbefore := c.measured_hides ts
  rw [Chip.mem_of_hide hbefore (by decide)] at hmem
  rw [Chip.start_of_hide hbefore (by decide)] at hstart
  obtain ⟨x, hx, hle⟩ := hhot
  have hdies : (c.measured ts).therm.tripDies = diesAbove (c.readings ts) 2240 := by
    rw [c.measured_therm]
    exact Thermal.judged_tripDies (.inr (fun h => absurd ((diesAbove_eq_zero c ts 2240).mp h x hx) (by omega)))
  have hwarn : (c.measured ts).therm.warning = true := by
    rw [c.measured_therm]
    cases hw : c.therm.warning with
    | true => exact (Thermal.judged_cool (.inl hw)).1.trans hw
    | false => exact (Thermal.judged_hot hw (by have := le_hotDie c ts x hx; omega)).1
  rw [hsample, ← Thermal.core_trip, ← Thermal.core_warning, ← Thermal.core_tripDies, hcore]
  exact ⟨rfl, hwarn, hdies, hmark, hstart, hmem⟩

end Sample

theorem Chip.enterHold_thermal {c : Chip} (h0 : c.mode ≠ 0) (h7 : c.mode ≠ 7) (hnot : c.modes.thermalHold = false) (hstarted : c.started = true)
    (hbefore : c.modes.before = none) :
    (c.enterHold true).modes.thermalHold = true ∧ (c.enterHold true).modes.batHold = c.modes.batHold ∧
      (c.enterHold true).modes.before = some c.mode ∧ (c.mode ≠ 1 → (c.enterHold true).modes.transition = some (1, .protection)) := by
  unfold Chip.enterHold
  rw [if_neg (by simp [h0, h7, hnot])]
  extract_lets was c1
  have hwas : was = some c.mode := by
    unfold was
    rw [hbefore]
    rfl
  have hheld : c1.modes.thermalHold = true ∧ c1.modes.batHold = c.modes.batHold ∧ c1.modes.before = some c.mode := by
    unfold c1
    rw [Chip.upModes_modes, hwas]
    exact ⟨Bool.or_true _, Bool.or_false _, if_pos hstarted⟩
  split
  · exact ⟨hheld.1, hheld.2.1, hheld.2.2, fun _ => rfl⟩
  · next hsame => exact ⟨hheld.1, hheld.2.1, hheld.2.2, fun hne => absurd ⟨hstarted, hne⟩ hsame⟩

theorem Chip.memGraceOver_modes (c : Chip) : c.memGraceOver.modes = c.modes :=
  Chip.modes_of_hide (Chip.hide_memGraceOver _ (ps := others .modes) (by decide)) (by decide)

theorem Chip.memGraceOver_phase (c : Chip) : c.memGraceOver.start.phase = c.start.phase := by
  have hdirty (d : Chip) (cause a : Nat) : (d.norDirty cause a).start = d.start :=
    Chip.start_of_hide (Chip.hide_norDirty _ _ _ (ps := others .start) (by decide)) (by decide)
  unfold Chip.memGraceOver
  split
  · split
    · rw [hdirty]
      rfl
    · rfl
  · rfl

/-- Settles O54: by what a sample measures, and by what TRIP, its end and the end of WARNING leave. -/
theorem theSupervisorFollowsItsThresholds : Obligations.TheSupervisorFollowsItsThresholds := by
  refine ⟨fun s a b d f rs hawake hrs => ?samples, fun s die reading hawake => ⟨fun hnot => ?unread, fun hread htrip => ?again, fun hread htrip => ?begins⟩,
    fun s hawake htrip => ⟨fun hstarted h7 hnot hbefore => ?enters, fun hnot => ?noHold⟩⟩
  case samples =>
    subst hrs
    have hshown := s.chip.thermalSample_shown [a, b, d, f]
    simp only [Thermal.shown, Prod.mk.injEq] at hshown
    obtain ⟨htemps, hdies, hseen, hpeak⟩ := hshown
    have hrun := exec_thermalSample a b d f s
    refine ⟨Gives.run hrun hawake ?shown, fun hwarn htrip hcalm hhot => Gives.run hrun hawake ?warns, fun hwarn htrip hcool => Gives.run hrun hawake ?cool,
      fun hwarn htrip hcool => ⟨fun hcount => Gives.run hrun hawake ?warningEnds, fun hcount => Gives.run hrun hawake ?first⟩,
      fun hwarn htrip hcalm hhot => Gives.run hrun hawake ?warningStands, fun htrip hhot => Gives.run hrun hawake ?tripBegins,
      fun htrip hcool => ⟨fun hcount => Gives.run hrun hawake ?tripEnds, fun hcount => Gives.run hrun hawake ?firstOfTrip⟩,
      fun htrip hhot => Gives.run hrun hawake ?tripStands⟩
    case shown =>
      rw [Chip.follow_therm, htemps, hdies, hseen, hpeak]
      have hmax := le_hotDie s.chip [a, b, d, f]
      refine ⟨rfl, rfl, rfl, fun x hx => ?_, fun hold => ?_⟩ <;> unfold Thermal.sampled <;> dsimp only <;> split
      · exact hmax x hx
      · next hno =>
        simp only [Bool.or_eq_true, decide_eq_true_eq, not_or, not_lt] at hno
        exact (hmax x hx).trans hno.2
      · next hyes =>
        rw [hold, Bool.not_true, Bool.false_or, decide_eq_true_eq] at hyes
        exact hyes.le
      · exact le_rfl
    case warns =>
      rw [Chip.follow_therm, Chip.rf, Chip.reg_of_regs (Chip.follow_regs _ _)]
      exact Chip.thermalSample_warns hwarn htrip hcalm hhot
    case cool =>
      rw [Chip.follow_therm, Chip.follow_modes]
      exact Chip.thermalSample_cool hwarn htrip hcool
    case warningEnds =>
      rw [Chip.follow_therm, Chip.follow_keeper]
      exact Chip.thermalSample_warningEnds hwarn htrip hcool hcount
    case first =>
      have hone := Thermal.below120_of_cool (t := s.chip.therm) hcool
      rw [hcount, Nat.zero_add] at hone
      rw [Chip.follow_therm, ← hone]
      exact Chip.thermalSample_warningStands hwarn htrip (fun x hx => (hcool x hx).trans (by decide)) (by omega)
    case warningStands =>
      have hzero := Thermal.below120_of_hot (t := s.chip.therm) hhot
      rw [Chip.follow_therm, ← hzero]
      exact Chip.thermalSample_warningStands hwarn htrip hcalm (by omega)
    case tripBegins =>
      rw [Chip.follow_therm, Chip.follow_start, Chip.follow_mem, Chip.rf, Chip.reg_of_regs (Chip.follow_regs _ _)]
      exact Chip.thermalSample_tripBegins htrip hhot
    case tripEnds =>
      rw [Chip.follow_therm, Chip.follow_start, Chip.follow_mem, Chip.follow_modes]
      exact Chip.thermalSample_tripEnds htrip hcool hcount
    case firstOfTrip =>
      have hone := Thermal.below115_of_cool (t := s.chip.therm) hcool
      obtain ⟨-, hstill, hbelow, -⟩ := s.chip.therm.judged_kept (s.chip.readings [a, b, d, f])
      rw [Chip.follow_therm, Chip.thermalSample_tripStands htrip (by omega), Chip.measured_therm, hstill, hbelow, hone, hcount]
      exact ⟨htrip, rfl⟩
    case tripStands =>
      have hzero := Thermal.below115_of_hot (t := s.chip.therm) hhot
      obtain ⟨-, hstill, hbelow, -⟩ := s.chip.therm.judged_kept (s.chip.readings [a, b, d, f])
      rw [Chip.follow_therm, Chip.thermalSample_tripStands htrip (by omega), Chip.measured_therm, hstill, hbelow, hzero,
        Thermal.judged_tripDies (.inl htrip)]
      exact ⟨htrip, rfl, rfl⟩
  case unread =>
    refine Gives.run (exec_thermTrip die reading s) hawake ?_
    rw [if_neg (by rw [hnot]; decide)]
  case again =>
    refine Gives.run (exec_thermTrip die reading s) hawake ?_
    rw [Chip.follow_therm, if_pos hread]
    dsimp only
    rw [Chip.upTherm_therm, if_pos htrip, Chip.upTherm_therm]
  case begins =>
    refine Gives.run (exec_thermTrip die reading s) hawake ?_
    rw [if_pos hread, if_neg (by rw [Chip.upTherm_therm, htrip]; decide), Chip.follow_therm, Chip.follow_start, Chip.follow_mem, Chip.rf,
      Chip.reg_of_regs (Chip.follow_regs _ _)]
    obtain ⟨hcore, hmark, hstart, hmem⟩ :=
      (s.chip.upTherm (fun t => { t with tripDies := t.tripDies ||| BitVec.ofNat 4 (2 ^ die) })).tripBegins_writes die reading
    rw [← Thermal.core_trip, ← Thermal.core_below115, ← Thermal.core_tripDies, hcore]
    exact ⟨rfl, rfl, rfl, hmark, hstart, hmem⟩
  case enters =>
    refine Gives.run (exec_thermalHoldEnter s) hawake ?_
    have h0 : s.chip.mode ≠ 0 := by
      simp only [Chip.awake, Bool.and_eq_true, decide_eq_true_eq] at hawake
      exact hawake.2
    have hmodes := s.chip.memGraceOver_modes
    have hmode : s.chip.memGraceOver.mode = s.chip.mode := congrArg Modes.mode hmodes
    have hphase : s.chip.memGraceOver.started = true := by
      rw [Chip.started, Chip.memGraceOver_phase]
      exact hstarted
    rw [if_pos htrip, if_pos hstarted, Chip.follow_modes, ← hmode, ← hmodes]
    exact Chip.enterHold_thermal (by rw [hmode]; exact h0) (by rw [hmode]; exact h7) (by rw [hmodes]; exact hnot) hphase (by rw [hmodes]; exact hbefore)
  case noHold =>
    refine Gives.run (exec_thermalHoldEnter s) hawake ?_
    rw [if_pos htrip, if_neg (by rw [hnot]; decide), Chip.follow_modes, Chip.memGraceOver_modes]

end Sys2Proof.Machine
end

section
/-! SUPPORT. The host port as a slave: the reply sent while a frame arrives, the words of a READ, and the frames examined (16 R722-R743). -/

namespace Sys2Proof.Machine

theorem exec_nop (alive fill : Nat) (s : State) : exec (.nop alive fill) s = s.run (fun c => c.frame 0 alive 0 0 [] fill) := rfl
theorem exec_push (alive addr : Nat) (ws : List Word) (fill : Nat) (s : State) :
    exec (.push alive addr ws fill) s = s.run (fun c => c.frame 3 alive addr ws.length ws fill) := rfl
theorem exec_read (alive addr count fill : Nat) (s : State) : exec (.read alive addr count fill) s = s.run (fun c => c.frame 1 alive addr count [] fill) := rfl
theorem exec_rejectedFrame (bytes : List Byte) (extra : Nat) (s : State) :
    exec (.rejectedFrame bytes extra) s = s.run (fun c => c.rawFrame bytes extra) := rfl

/-! ### The words of a READ -/

/-- The block with another stored reply. -/
def Chip.withStored (c : Chip) (x : Option Reply) : Chip := { c with host := { c.host with stored := x } }

/-- A word read for a reply. -/
def Chip.replyWord (c : Chip) (a : Nat) : ReplyWord := { word := (c.readWord a).1, flags := (c.readWord a).2 }

/-- The READ `q` with its reply `r` waits for no local word: it is complete, or its next word crosses the girth. -/
def Chip.fetched (c : Chip) (q : Request) (r : Reply) : Prop := q.cmd ≠ 1 ∨ r.count ≤ r.data.length ∨ c.overGirth (q.addr + r.data.length) = true

theorem Chip.fetch_idle {c : Chip} (h : ∀ q r, c.host.last = some q → c.host.stored = some r → c.fetched q r) (n : Nat) : Chip.fetch n c = c := by
  cases n with
  | zero => rfl
  | succ n =>
    unfold Chip.fetch
    split
    · next q r hlast hstored => exact if_pos (h q r hlast hstored)
    · rfl

theorem Chip.fetch_succ {c : Chip} {q : Request} {r : Reply} (hlast : c.host.last = some q) (hstored : c.host.stored = some r) (h : ¬ c.fetched q r) (n : Nat) :
    Chip.fetch (n + 1) c = Chip.fetch n (c.withStored (some { r with data := r.data ++ [c.replyWord (q.addr + r.data.length)] })) := by
  rw [Chip.fetch, hlast, hstored]
  exact if_neg h

/-- Fetching changes the stored reply alone, to which it appends words. -/
theorem Chip.fetch_stored (n : Nat) (c : Chip) : ∃ x, Chip.fetch n c = c.withStored x ∧ x.isSome = c.host.stored.isSome ∧
    ∀ r, c.host.stored = some r → ∃ more, x = some { r with data := r.data ++ more } := by
  have hsame : ∀ r, c.host.stored = some r → ∃ more, c.host.stored = some { r with data := r.data ++ more } :=
    fun r hr => ⟨[], by rw [List.append_nil]; exact hr⟩
  induction n generalizing c with
  | zero => exact ⟨c.host.stored, rfl, rfl, hsame⟩
  | succ n ih =>
    by_cases hidle : ∀ q r, c.host.last = some q → c.host.stored = some r → c.fetched q r
    · exact ⟨c.host.stored, c.fetch_idle hidle _, rfl, hsame⟩
    · simp only [not_forall] at hidle
      obtain ⟨q, r, hlast, hstored, hnot⟩ := hidle
      obtain ⟨x, hx, hsome, hmore⟩ := ih (c.withStored (some { r with data := r.data ++ [c.replyWord (q.addr + r.data.length)] }))
        (fun r hr => ⟨[], by rw [List.append_nil]; exact hr⟩)
      refine ⟨x, ?_, ?_, fun r' hr' => ?_⟩
      · rw [Chip.fetch_succ hlast hstored hnot, hx]
        rfl
      · rw [hsome, hstored]
        rfl
      · cases hstored.symm.trans hr'
        obtain ⟨more, hx'⟩ := hmore _ rfl
        exact ⟨c.replyWord (q.addr + r.data.length) :: more, by rw [hx', List.append_assoc, List.singleton_append]⟩

/-- Fetching appends the words up to the first that crosses the girth. -/
theorem Chip.fetch_reads (n k : Nat) (hk : k ≤ n) (c : Chip) {q : Request} {r : Reply} (hlast : c.host.last = some q) (hstored : c.host.stored = some r)
    (hread : q.cmd = 1) (hle : r.data.length + k ≤ r.count) (hlocal : ∀ i, i < k → c.overGirth (q.addr + r.data.length + i) = false)
    (hend : r.data.length + k = r.count ∨ c.overGirth (q.addr + r.data.length + k) = true) :
    (Chip.fetch n c).host.stored =
      some { r with data := r.data ++ (List.range k).map (fun i => c.replyWord (q.addr + r.data.length + i)) } := by
  induction k generalizing n c r with
  | zero =>
    have hidle : ∀ q' r', c.host.last = some q' → c.host.stored = some r' → c.fetched q' r' := by
      intro q' r' hq' hr'
      cases hlast.symm.trans hq'
      cases hstored.symm.trans hr'
      exact .inr (hend.imp (fun h => by omega) id)
    rw [c.fetch_idle hidle, hstored, List.range_zero, List.map_nil, List.append_nil]
  | succ k ih =>
    obtain ⟨n, rfl⟩ : ∃ m, n = m + 1 := ⟨n - 1, by omega⟩
    have hnot : ¬ c.fetched q r := by
      rintro (h | h | h)
      · exact h hread
      · omega
      · exact Bool.false_ne_true ((hlocal 0 (by omega)).symm.trans h)
    have hlen : (r.data ++ [c.replyWord (q.addr + r.data.length)]).length = r.data.length + 1 := List.length_append
    have hshift (i : Nat) : q.addr + (r.data.length + 1) + i = q.addr + r.data.length + (i + 1) := by omega
    rw [Chip.fetch_succ hlast hstored hnot]
    rw [ih n (by omega) (c.withStored (some { r with data := r.data ++ [c.replyWord (q.addr + r.data.length)] })) hlast rfl]
    · simp only [hlen, hshift]
      rw [List.range_succ_eq_map, List.map_cons, List.map_map, List.append_assoc, List.singleton_append]
      rfl
    · simp only [hlen]
      omega
    · intro i hi
      simp only [hlen, hshift]
      exact hlocal (i + 1) (by omega)
    · simp only [hlen, hshift]
      exact hend.imp (fun h => by omega) id

/-! ### The bytes of a reply -/

theorem beBytes_length (n v : Nat) : (beBytes n v).length = n := by
  rw [beBytes, List.length_reverse, leBytes_length]

theorem windowBytes_length {prev : List Byte} (h : prev.length = 4) (replay : Bool) (w : Option ReplyWord) : (windowBytes prev replay w).length = 4 := by
  unfold windowBytes
  split
  · split
    · exact h
    · exact beBytes_length _ _
  · exact h

theorem sentData_length (ws : List ReplyWord) (replay : Bool) (n i : Nat) {prev : List Byte} (h : prev.length = 4) :
    (sentData ws replay n i prev).length = 4 * n := by
  induction n generalizing i prev with
  | zero => rfl
  | succ n ih =>
    have hwindow := windowBytes_length h replay ws[i]?
    rw [sentData, List.length_append, hwindow, ih (i + 1) hwindow]
    omega

/-- Words that all came in time are sent as they are. -/
theorem sentData_inTime (ws : List ReplyWord) (replay : Bool) (h : ∀ w ∈ ws, w.late = true → replay = true) (n i : Nat) (hn : i + n = ws.length)
    (prev : List Byte) : sentData ws replay n i prev = (ws.drop i).flatMap (fun w => beBytes 4 w.word.toNat) := by
  induction n generalizing i prev with
  | zero => rw [sentData, List.drop_eq_nil_of_le (by omega), List.flatMap_nil]
  | succ n ih =>
    have hi : i < ws.length := by omega
    have hnot : ¬ (ws[i].late && !replay) = true := by
      cases hlate : ws[i].late with
      | true => rw [h _ (List.getElem_mem hi) hlate]; decide
      | false => exact Bool.false_ne_true
    have hwindow : windowBytes prev replay ws[i]? = beBytes 4 ws[i].word.toNat := by
      rw [List.getElem?_eq_getElem hi]
      exact if_neg hnot
    rw [sentData, ih (i + 1) (by omega), hwindow, List.drop_eq_getElem_cons hi, List.flatMap_cons]

theorem Chip.replyHead_length (c : Chip) (r : Reply) (b : Bool) :
    (bytesOf [r.code b, r.alive] ++ beBytes 2 (c.replyFlags r b)).length = 4 := by
  rw [List.length_append, beBytes_length]
  rfl

theorem crcBytes_length (bs : List Byte) : (crcBytes bs).length = 2 := beBytes_length 2 _

theorem Chip.replyBytes_length (c : Chip) (r : Reply) (b : Bool) : (c.replyBytes r b).length = 6 + 4 * r.count := by
  have hend (bs : List Byte) : (if r.spoiled b then (crcBytes bs).map (fun x => ~~~x) else crcBytes bs).length = 2 := by
    split
    · rw [List.length_map, crcBytes_length]
    · exact crcBytes_length _
  unfold Chip.replyBytes
  rw [List.length_append, hend, List.length_append, sentData_length _ _ _ _ (c.replyHead_length r b), c.replyHead_length r b]
  omega

theorem Reply.spoiled_inTime {r : Reply} {b : Bool} (hlen : r.data.length = r.count) (h : ∀ w ∈ r.data, w.late = true → b = true) :
    r.spoiled b = false := by
  have hany : (!b && r.data.any (fun w => w.late)) = false := by
    cases b with
    | true => rfl
    | false =>
      rw [Bool.not_false, Bool.true_and, List.any_eq_false]
      exact fun w hw hlate => Bool.false_ne_true (h w hw hlate)
  unfold Reply.spoiled
  rw [hany, hlen, decide_eq_false (lt_irrefl _), Bool.or_false]

theorem Chip.replyBytes_inTime (c : Chip) {r : Reply} {b : Bool} (hlen : r.data.length = r.count) (h : ∀ w ∈ r.data, w.late = true → b = true) :
    c.replyBytes r b = replyText c r b ++ beBytes 2 (crc16 (replyText c r b)) := by
  unfold Chip.replyBytes
  dsimp only
  rw [Reply.spoiled_inTime hlen h, sentData_inTime r.data b h r.count 0 (by omega)]
  rfl

theorem Chip.replyBytes_spoiled (c : Chip) {r : Reply} {b : Bool} (h : r.spoiled b = true) : ∃ body : List Byte, body.length = 4 + 4 * r.count ∧
    c.replyBytes r b = body ++ (beBytes 2 (crc16 body)).map (fun b => ~~~b) := by
  unfold Chip.replyBytes
  rw [h]
  refine ⟨_, ?_, rfl⟩
  rw [List.length_append, sentData_length _ _ _ _ (c.replyHead_length r b), c.replyHead_length r b]

/-! ### The reply sent while a frame arrives -/

/-- What the port drives in a frame and keeps of it for the next reply. -/
def HostPort.sending (h : HostPort) : List Byte × Bool × Bool × BitVec 16 := (h.hsdo, h.trunc, h.underrun, h.underruns)

theorem ReplySent.of_sending {c d t : Chip} {nb : Nat} (h : ReplySent c nb d) (hsame : t.host.sending = d.host.sending) : ReplySent c nb t := by
  simp only [HostPort.sending, Prod.mk.injEq] at hsame
  obtain ⟨hhsdo, htrunc, hunder, hcount⟩ := hsame
  unfold ReplySent
  rw [hhsdo, htrunc, hunder, hcount]
  exact h

theorem Chip.fetchAll_stored (c : Chip) : ∃ x, c.fetchAll = c.withStored x ∧ x.isSome = c.host.stored.isSome ∧
    ∀ r, c.host.stored = some r → ∃ more, x = some { r with data := r.data ++ more } := Chip.fetch_stored 256 c

theorem Chip.transmit_none {c : Chip} (h : c.fetchAll.host.due = none) (nb : Nat) : (c.transmit nb).host.hsdo = List.replicate nb 0xFF := by
  unfold Chip.transmit
  dsimp only
  rw [h]
  rfl

/-- What a due reply leaves on HSDO. -/
theorem Chip.transmit_due {c : Chip} {r : Reply} {b : Bool} (h : c.fetchAll.host.due = some (r, b)) (nb : Nat) :
    (c.transmit nb).host.sending = (padTo nb 0xFF (c.replyBytes r b), decide (nb < 6 + 4 * r.count), r.spoiled b,
      if r.spoiled b then c.host.underruns + 1 else c.host.underruns) := by
  obtain ⟨x, hx, -⟩ := c.fetchAll_stored
  rw [← c.replyBytes_length r b]
  unfold Chip.transmit
  dsimp only
  rw [h, hx]
  rfl

/-- The reply due while no word of the stored reply may come. -/
theorem Chip.fetchAll_fetched {c : Chip} {r : Reply} (hstored : c.host.stored = some r)
    (h : ∀ q, c.host.last = some q → c.fetched q r) : c.fetchAll = c :=
  Chip.fetch_idle (fun q r' hlast hr => by cases hstored.symm.trans hr; exact h q hlast) 256

theorem HostPort.due_pending {h : HostPort} (hw : h.writing = none) : h.due = match h.pending with
    | none => none
    | some (.short r) => some (r, false)
    | some .fresh => h.stored.map (fun r => (r, false))
    | some .replay => h.stored.map (fun r => (r, true)) := by
  unfold HostPort.due
  rw [hw]
  rfl

/-- The reply that a frame of `nb` bytes finds due is sent while it arrives. -/
theorem Chip.transmit_replySent (c : Chip) (nb : Nat) : ReplySent c nb (c.transmit nb) := by
  obtain ⟨x, hx, -⟩ := c.fetchAll_stored
  refine ⟨fun hw hp => ?none, fun r b hdue hlen htime => ?inTime, fun r hw hp hstored hlate => ?spoiled⟩
  case none =>
    refine Chip.transmit_none ?_ nb
    rw [hx, HostPort.due_pending (show (c.withStored x).host.writing = none from hw), show (c.withStored x).host.pending = none from hp]
  case inTime =>
    have hwhole (hstored : c.host.stored = some r) : c.fetchAll = c := Chip.fetchAll_fetched hstored (fun q _ => .inr (.inl hlen.ge))
    have hreply : c.fetchAll.host.due = some (r, b) := by
      rcases hdue with ⟨hw, hp, rfl⟩ | ⟨hw, hp, hstored, rfl⟩ | ⟨hw, hp, hstored, rfl⟩ | ⟨hw, rfl, rfl⟩
      · rw [hx, HostPort.due_pending (show (c.withStored x).host.writing = none from hw), show (c.withStored x).host.pending = _ from hp]
      · rw [hwhole hstored, HostPort.due_pending hw, hp, hstored]
        rfl
      · rw [hwhole hstored, HostPort.due_pending hw, hp, hstored]
        rfl
      · rw [hx]
        exact if_pos (Option.isSome_iff_ne_none.mpr hw)
    have hsent := Chip.transmit_due hreply nb
    rw [Reply.spoiled_inTime hlen htime, c.replyBytes_inTime hlen htime] at hsent
    simp only [HostPort.sending, Prod.mk.injEq] at hsent
    exact hsent
  case spoiled =>
    have hstill : c.fetchAll = c := Chip.fetchAll_fetched hstored (fun q hlast => by
      rcases hlate with ⟨hlen, -⟩ | ⟨q', hlast', -, -, hgirth⟩
      · exact .inr (.inl hlen.ge)
      · cases hlast.symm.trans hlast'
        exact .inr (.inr hgirth))
    have hspoiled : r.spoiled false = true := by
      unfold Reply.spoiled
      rcases hlate with ⟨-, w, hw, hwl⟩ | ⟨q, -, -, hless, -⟩
      · rw [Bool.not_false, Bool.true_and, List.any_eq_true.mpr ⟨w, hw, hwl⟩, Bool.or_true]
      · rw [decide_eq_true hless, Bool.true_or]
    have hreply : c.fetchAll.host.due = some (r, false) := by
      rw [hstill, HostPort.due_pending hw, hp, hstored]
      rfl
    have hsent := Chip.transmit_due hreply nb
    rw [hspoiled] at hsent
    simp only [HostPort.sending, Prod.mk.injEq] at hsent
    obtain ⟨hhsdo, htrunc, hunder, hcount⟩ := hsent
    obtain ⟨body, hbody, hbytes⟩ := c.replyBytes_spoiled hspoiled
    exact ⟨hunder, hcount, htrunc, body, hbody, by rw [hhsdo, hbytes]⟩

/-- The block after a transmission: what the port has driven, the stored reply, and whether a frame was answered BUSY. -/
def Chip.sends (c : Chip) (x : Option Reply) (hsdo : List Byte) (trunc underrun : Bool) (underruns : BitVec 16) : Chip :=
  { c with host := { c.host with
      stored := x, hsdo := hsdo, trunc := trunc, underrun := underrun, underruns := underruns,
      busyAnswered := c.host.busyAnswered || c.host.writing.isSome } }

theorem Chip.transmit_sends (c : Chip) (nb : Nat) : ∃ x hsdo trunc underrun underruns,
    c.transmit nb = c.sends x hsdo trunc underrun underruns ∧ x.isSome = c.host.stored.isSome := by
  obtain ⟨x, hx, hsome, -⟩ := c.fetchAll_stored
  unfold Chip.transmit
  dsimp only
  rw [hx]
  cases hdue : (c.withStored x).host.due with
  | some p =>
    obtain ⟨r, b⟩ := p
    exact ⟨x, padTo nb 0xFF ((c.withStored x).replyBytes r b), decide (nb < ((c.withStored x).replyBytes r b).length), r.spoiled b,
      if r.spoiled b then c.host.underruns + 1 else c.host.underruns, rfl, hsome⟩
  | none =>
    refine ⟨x, List.replicate nb 0xFF, c.host.trunc, c.host.underrun, c.host.underruns, ?_, hsome⟩
    have hidle : c.host.writing.isSome = false := by
      cases hw : c.host.writing.isSome with
      | false => rfl
      | true =>
        unfold HostPort.due at hdue
        rw [if_pos (show (c.withStored x).host.writing.isSome = true from hw)] at hdue
        cases hdue
    unfold Chip.sends
    rw [hidle, Bool.or_false]
    rfl

/-! ### Frames rejected -/

/-- Between two states of the block no request was accepted and no register, ring or running set changed. -/
def Chip.sameRequests (c d : Chip) : Prop :=
  d.host.last = c.host.last ∧ d.host.stored.isSome = c.host.stored.isSome ∧ d.host.accepted = c.host.accepted ∧ d.regs = c.regs ∧
    d.rings = c.rings ∧ d.run = c.run

theorem Chip.sameRequests_transmit (c : Chip) (nb : Nat) : c.sameRequests (c.transmit nb) := by
  obtain ⟨x, hsdo, trunc, underrun, underruns, hsent, hsome⟩ := c.transmit_sends nb
  rw [hsent]
  exact ⟨rfl, hsome, rfl, rfl, rfl, rfl⟩

theorem Chip.sameRequests.upHost {c d : Chip} (h : c.sameRequests d) {f : HostPort → HostPort}
    (hf : ∀ p, (f p).last = p.last ∧ (f p).stored = p.stored ∧ (f p).accepted = p.accepted) : c.sameRequests (d.upHost f) := by
  obtain ⟨hlast, hstored, haccepted⟩ := hf d.host
  obtain ⟨glast, gstored, gaccepted, grest⟩ := h
  exact ⟨hlast.trans glast, (congrArg Option.isSome hstored).trans gstored, haccepted.trans gaccepted, grest⟩

/-- Nothing that awaits a frame changes while one arrives, but that BUSY is answered. -/
theorem Chip.transmit_host (c : Chip) (nb : Nat) : (c.transmit nb).host.last = c.host.last ∧ (c.transmit nb).host.writing = c.host.writing ∧
    (c.transmit nb).host.accepted = c.host.accepted ∧ (c.transmit nb).host.retry = c.host.retry ∧ (c.transmit nb).host.crcErr = c.host.crcErr ∧
    (c.transmit nb).host.lenErr = c.host.lenErr ∧ (c.transmit nb).host.clash = c.host.clash ∧ (c.transmit nb).host.busy = c.host.busy ∧
    (c.transmit nb).host.busyAnswered = (c.host.busyAnswered || c.host.writing.isSome) := by
  obtain ⟨x, hsdo, trunc, underrun, underruns, hsent, -⟩ := c.transmit_sends nb
  rw [hsent]
  exact ⟨rfl, rfl, rfl, rfl, rfl, rfl, rfl, rfl, rfl⟩

theorem Rejected.of_sameRequests {c d : Chip} (h : c.sameRequests d) (st alive : Nat) : Rejected c st alive (d.rejectFrame st alive) := by
  obtain ⟨hlast, hstored, haccepted, hregs, hrings, hrun⟩ := h
  exact ⟨rfl, hlast, hstored, haccepted, hregs, hrings, hrun⟩

theorem Rejected.mod {c d : Chip} {st alive : Nat} (h : Rejected c st (alive % 256) d) : Rejected c st alive d := by
  unfold Rejected at h
  rw [Nat.mod_mod] at h
  exact h

theorem Rejected.follow {c d : Chip} {st alive : Nat} (h : Rejected c st alive d) (was : Chip) : Rejected c st alive (d.follow was) := h

/-! ### The examination of a frame -/

/-- A frame of a known form within the address range. -/
def Request.fits (q : Request) : Prop := q.cmd < 3 ∧ (q.cmd = 0 → q.count = 0) ∧ q.count ≤ 256 ∧ (q.cmd ≠ 0 → q.addr + q.count ≤ 0x10000)

section Examine

variable {d : Chip} {q : Request} {ws : List Word}

theorem Chip.examine_badCmd (h : 3 ≤ q.cmd) : d.examine q ws = d.rejectFrame 0x12 q.alive := if_pos (.inl h)

theorem Chip.examine_range (hcmd : q.cmd = 1 ∨ q.cmd = 2) (h : 256 < q.count ∨ 0x10000 < q.addr + q.count) :
    d.examine q ws = d.rejectFrame 0x13 q.alive := by
  unfold Chip.examine
  rw [if_neg (by omega), if_pos (by omega)]

theorem Chip.examine_busy (hfits : q.fits) (h : d.host.writing ≠ none) :
    d.examine q ws = (d.upHost (fun h => { h with busy := h.busy + 1 })).rejectFrame 0x14 q.alive := by
  obtain ⟨hcmd, hnop, hcount, hrange⟩ := hfits
  unfold Chip.examine
  rw [if_neg (by omega), if_neg (by omega), if_pos (Option.isSome_iff_ne_none.mpr h)]

theorem Chip.examine_nop (hcmd : q.cmd = 0) (hcount : q.count = 0) (h : d.host.writing = none) : d.examine q ws = d.hostNop q.alive := by
  unfold Chip.examine
  rw [if_neg (by omega), if_neg (by omega), if_neg (by rw [h]; decide), if_pos hcmd]

theorem Chip.examine_new (hfits : q.fits) (hcmd : q.cmd ≠ 0) (h : d.host.writing = none) (hnew : ∀ l, d.host.last = some l → q.alive ≠ l.alive) :
    d.examine q ws = d.acceptFrame q ws (d.host.last.any (fun l => decide (q.alive ≠ (l.alive + 1) % 256))) := by
  obtain ⟨hform, hnop, hcount, hrange⟩ := hfits
  unfold Chip.examine
  rw [if_neg (by omega), if_neg (by omega), if_neg (by rw [h]; decide), if_neg hcmd]
  cases hlast : d.host.last with
  | none => rfl
  | some l => exact if_neg (hnew l hlast)

theorem Chip.examine_again {l : Request} (hfits : q.fits) (hcmd : q.cmd ≠ 0) (h : d.host.writing = none) (hlast : d.host.last = some l)
    (halive : q.alive = l.alive) :
    d.examine q ws = if q = l then d.upHost (fun h => { h with retry := h.retry + 1, pending := some .replay })
      else (d.upHost (fun h => { h with clash := h.clash + 1 })).rejectFrame 0x15 q.alive := by
  obtain ⟨hform, hnop, hcount, hrange⟩ := hfits
  unfold Chip.examine
  rw [if_neg (by omega), if_neg (by omega), if_neg (by rw [h]; decide), if_neg hcmd, hlast]
  exact if_pos halive

end Examine

theorem frameBytes_length (cmd alive addr count : Nat) (ws : List Word) : (frameBytes cmd alive addr count ws).length = 6 + 4 * ws.length := by
  have hdata : (ws.flatMap (fun w => beBytes 4 w.toNat)).length = 4 * ws.length := by
    induction ws with
    | nil => rfl
    | cons w ws ih =>
      rw [List.flatMap_cons, List.length_append, beBytes_length, ih, List.length_cons]
      omega
  unfold frameBytes
  rw [List.length_append, List.length_append, List.length_append, beBytes_length, beBytes_length, hdata]
  rfl

theorem Chip.frame_slave {c : Chip} (h : c.slavePort = true) (cmd alive addr count : Nat) (ws : List Word) (fill : Nat) :
    c.frame cmd alive addr count ws fill = (c.transmit (8 + 4 * ws.length + fill)).examine
      { cmd := cmd % 256, alive := alive % 256, addr := addr % 65536, count := count % 65536, crc := crc16 (frameBytes cmd alive addr count ws) } ws := by
  unfold Chip.frame
  rw [if_pos h]
  dsimp only
  rw [frameBytes_length, show 6 + 4 * ws.length + 2 + fill = 8 + 4 * ws.length + fill by omega]

/-- A reply sent before a frame whose examination leaves HSDO alone. -/
theorem ReplySent.examined {c d t : Chip} {nb : Nat} (hsent : ReplySent c nb d) (h : t.host.sending = d.host.sending) (was : Chip) :
    ReplySent c nb (t.follow was) := hsent.of_sending h

/-- An accepted READ takes its words in address order up to the first that crosses the girth. -/
theorem Chip.acceptFrame_read {d : Chip} {q : Request} (hcmd : q.cmd = 1) (hcount : q.count ≤ 256) (ws : List Word) (gap : Bool) :
    (d.acceptFrame q ws gap).host.last = some q ∧ (d.acceptFrame q ws gap).host.accepted = d.host.accepted + 1 ∧
    (d.acceptFrame q ws gap).host.pending = some .fresh ∧ (d.acceptFrame q ws gap).regs = d.regs ∧
    (d.acceptFrame q ws gap).host.sending = d.host.sending ∧
    ∃ r : Reply, (d.acceptFrame q ws gap).host.stored = some r ∧ r.alive = q.alive ∧ r.count = q.count ∧ r.status = 0 ∧ r.gap = gap ∧
      ∀ k, k ≤ q.count → (∀ i, i < k → d.overGirth (q.addr + i) = false) → (k = q.count ∨ d.overGirth (q.addr + k) = true) →
        r.data = (List.range k).map (fun i => ({ d with host := (d.acceptFrame q ws gap).host } : Chip).replyWord (q.addr + i)) := by
  unfold Chip.acceptFrame
  extract_lets c1
  rw [if_pos hcmd]
  have hstored : c1.host.stored = some { alive := q.alive, gap := gap, count := q.count } := by
    change some _ = some _
    rw [if_pos hcmd]
  obtain ⟨x, hx, -, hmore⟩ := c1.fetchAll_stored
  obtain ⟨more, hreply⟩ := hmore _ hstored
  refine ⟨?_, ?_, ?_, ?_, ?_, { alive := q.alive, gap := gap, count := q.count, data := more }, ?_, rfl, rfl, rfl, rfl, fun k hk hlocal hend => ?_⟩
  iterate 5
    rw [hx]
    rfl
  · rw [hx]
    exact hreply
  · have hread := Chip.fetch_reads 256 k (hk.trans hcount) c1 (q := q) rfl hstored hcmd (by simpa using hk) hlocal (hend.imp (fun h => by simpa using h) id)
    have hwords := Option.some.inj (hreply.symm.trans ((congrArg (fun c : Chip => c.host.stored) hx).symm.trans hread))
    rw [hx]
    exact congrArg Reply.data hwords

theorem Chip.rejectFrame_sending (c : Chip) (st alive : Nat) : (c.rejectFrame st alive).host.sending = c.host.sending := rfl

/-- The examination of a READ drives nothing. -/
theorem Chip.examine_read_sending (d : Chip) {q : Request} (hcmd : q.cmd = 1) (ws : List Word) : (d.examine q ws).host.sending = d.host.sending := by
  by_cases hwrong : 256 < q.count ∨ 0x10000 < q.addr + q.count
  · rw [Chip.examine_range (.inl hcmd) hwrong, Chip.rejectFrame_sending]
  · have hfits : q.fits := ⟨by omega, by omega, by omega, by omega⟩
    by_cases hw : d.host.writing = none
    · by_cases hnew : ∀ l, d.host.last = some l → q.alive ≠ l.alive
      · rw [Chip.examine_new hfits (by omega) hw hnew]
        exact (Chip.acceptFrame_read hcmd (by omega) ws _).2.2.2.2.1
      · simp only [not_forall, not_not] at hnew
        obtain ⟨l, hlast, halive⟩ := hnew
        rw [Chip.examine_again hfits (by omega) hw hlast halive]
        split <;> rfl
    · rw [Chip.examine_busy hfits hw, Chip.rejectFrame_sending]
      rfl

/-- A frame that arrived with a wrong length or padding. -/
theorem Chip.rawFrame_length {c : Chip} (hslave : c.slavePort = true) {bs : List Byte} {extra : Nat}
    (h : extra % 8 ≠ 0 ∨ bs.length < 8 ∨ ((bs.getD 0 0).toNat < 2 ∧ ∃ b ∈ bs.drop 8, b ≠ 0xFF)) (hlen : 2 ≤ bs.length) :
    c.rawFrame bs extra = ((c.transmit bs.length).upHost (fun h => { h with lenErr := h.lenErr + 1 })).rejectFrame 0x10 (bs.getD 1 0).toNat := by
  unfold Chip.rawFrame
  rw [if_pos hslave]
  extract_lets c1 cmd alive count p n
  have halive : alive = (bs.getD 1 0).toNat := if_neg (by omega)
  have hwrong : extra % 8 ≠ 0 ∨ bs.length < n + 2 ∨ (bs.drop (n + 2)).any (fun b => b != 0xFF) = true := by
    rcases h with h | h | ⟨hcmd, b, hb, hne⟩
    · exact .inl h
    · exact .inr (.inl (by omega))
    · have hp : p = 0 := if_neg (by omega)
      have hn : n + 2 = 8 := by unfold n; rw [hp]
      rw [hn]
      exact .inr (.inr (List.any_eq_true.mpr ⟨b, hb, bne_iff_ne.mpr hne⟩))
  rw [if_pos hwrong, halive]

/-- A frame of 8 bytes whose CRC is wrong. -/
theorem Chip.rawFrame_crc {c : Chip} (hslave : c.slavePort = true) {bs : List Byte} {extra : Nat} (hextra : extra % 8 = 0) (hlen : bs.length = 8)
    (hcmd : (bs.getD 0 0).toNat < 2) (hcrc : beNat (slice bs 6 2) ≠ crc16 (bs.take 6)) :
    c.rawFrame bs extra = ((c.transmit bs.length).upHost (fun h => { h with crcErr := h.crcErr + 1 })).rejectFrame 0x11 (bs.getD 1 0).toNat := by
  unfold Chip.rawFrame
  rw [if_pos hslave]
  extract_lets c1 cmd alive count p n
  have halive : alive = (bs.getD 1 0).toNat := if_neg (by omega)
  have hn : n = 6 := by
    have hp : p = 0 := if_neg (by omega)
    unfold n
    rw [hp]
  have hright : ¬ (extra % 8 ≠ 0 ∨ bs.length < n + 2 ∨ (bs.drop (n + 2)).any (fun b => b != 0xFF) = true) := by
    rw [hn, List.drop_eq_nil_of_le hlen.le]
    simp [hextra, hlen]
  rw [if_neg hright, hn, if_pos hcrc, halive]

theorem Chip.frame_nop {c : Chip} (hslave : c.slavePort = true) (alive fill : Nat) : c.frame 0 alive 0 0 [] fill =
    if c.host.writing.isSome then ((c.transmit (8 + fill)).upHost (fun h => { h with busy := h.busy + 1 })).rejectFrame 0x14 (alive % 256)
    else (c.transmit (8 + fill)).hostNop (alive % 256) := by
  obtain ⟨-, hwriting, -⟩ := c.transmit_host (8 + fill)
  rw [Chip.frame_slave hslave, show 8 + 4 * ([] : List Word).length + fill = 8 + fill from rfl]
  split
  · next hw =>
    exact Chip.examine_busy ⟨Nat.succ_pos 2, fun _ => rfl, Nat.zero_le _, fun h => absurd rfl h⟩ (by rw [hwriting]; exact Option.isSome_iff_ne_none.mp hw)
  · next hw => exact Chip.examine_nop rfl rfl (by rw [hwriting]; simpa using hw)

theorem Chip.hostNop_sending (c : Chip) (alive : Nat) : (c.hostNop alive).host.sending = c.host.sending := by
  unfold Chip.hostNop
  split <;> rfl

/-- Settles O46: by what a transmission leaves, and by the examination of a frame of each kind. -/
theorem hostFramesAreExaminedAndAnswered : Obligations.HostFramesAreExaminedAndAnswered := by
  refine ⟨fun s alive fill hawake hslave => ?nop, fun s alive addr ws fill hawake hslave hlen => ?push,
    fun s bytes extra hawake hslave => ⟨fun hwrong hlen => ?length, fun hextra hlen hcmd hcrc => ?crc⟩,
    fun s alive addr count fill q hawake hslave halive haddr hcount hq => ?read⟩
  case nop =>
    refine Gives.run (exec_nop alive fill s) hawake ?_
    rw [Chip.frame_nop hslave]
    have hkept := s.chip.sameRequests_transmit (8 + fill)
    obtain ⟨hlast, hwriting, haccepted, -, -, -, -, hbusy, hanswered⟩ := s.chip.transmit_host (8 + fill)
    have hsent := s.chip.transmit_replySent (8 + fill)
    generalize s.chip.transmit (8 + fill) = d at hkept hlast hwriting haccepted hbusy hanswered hsent ⊢
    have hstored := hkept.2.1
    refine ⟨hsent.examined ?_ _, fun hw hnone => ?_, fun hw hsome => ?_, fun hw => ?_⟩
    · split
      · rfl
      · exact Chip.hostNop_sending _ _
    · rw [if_neg (by rw [hw]; decide), Chip.hostNop, if_neg (by rw [hstored, hnone]; decide)]
      exact ((Rejected.of_sameRequests hkept 2 (alive % 256)).mod).follow s.chip
    · have hreply : d.host.stored.isSome = true := hstored.trans (Option.isSome_iff_ne_none.mpr hsome)
      rw [if_neg (by rw [hw]; decide), Chip.hostNop, if_pos hreply]
      exact ⟨rfl, hlast, haccepted, hreply⟩
    · rw [if_pos (Option.isSome_iff_ne_none.mpr hw)]
      refine ⟨((Rejected.of_sameRequests (hkept.upHost (fun _ => ⟨rfl, rfl, rfl⟩)) 0x14 (alive % 256)).mod).follow s.chip, ?_, ?_, hwriting⟩
      · exact congrArg (· + 1) hbusy
      · exact hanswered.trans (by rw [Option.isSome_iff_ne_none.mpr hw, Bool.or_true])
  case push =>
    refine Gives.run (exec_push alive addr ws fill s) hawake ?_
    rw [Chip.frame_slave hslave, Chip.examine_badCmd (Nat.le_refl 3)]
    have hkept := s.chip.sameRequests_transmit (8 + 4 * ws.length + fill)
    have hsent := s.chip.transmit_replySent (8 + 4 * ws.length + fill)
    generalize s.chip.transmit (8 + 4 * ws.length + fill) = d at hkept hsent ⊢
    exact ⟨hsent.examined rfl s.chip, ((Rejected.of_sameRequests hkept 0x12 (alive % 256)).mod).follow s.chip⟩
  case length =>
    refine Gives.run (exec_rejectedFrame bytes extra s) hawake ?_
    rw [Chip.rawFrame_length hslave hwrong hlen]
    obtain ⟨-, -, -, -, hcrc, hlength, -⟩ := s.chip.transmit_host bytes.length
    have hkept := s.chip.sameRequests_transmit bytes.length
    have hsent := s.chip.transmit_replySent bytes.length
    generalize s.chip.transmit bytes.length = d at hcrc hlength hkept hsent ⊢
    exact ⟨hsent.examined rfl s.chip, (Rejected.of_sameRequests (hkept.upHost (fun _ => ⟨rfl, rfl, rfl⟩)) 0x10 (bytes.getD 1 0).toNat).follow s.chip, congrArg (· + 1) hlength, hcrc⟩
  case crc =>
    refine Gives.run (exec_rejectedFrame bytes extra s) hawake ?_
    rw [Chip.rawFrame_crc hslave hextra hlen hcmd hcrc]
    obtain ⟨-, -, -, -, hcrcs, hlength, -⟩ := s.chip.transmit_host bytes.length
    have hkept := s.chip.sameRequests_transmit bytes.length
    have hsent := s.chip.transmit_replySent bytes.length
    generalize s.chip.transmit bytes.length = d at hcrcs hlength hkept hsent ⊢
    exact ⟨hsent.examined rfl s.chip, (Rejected.of_sameRequests (hkept.upHost (fun _ => ⟨rfl, rfl, rfl⟩)) 0x11 (bytes.getD 1 0).toNat).follow s.chip, congrArg (· + 1) hcrcs, hlength⟩
  case read =>
    refine Gives.run (exec_read alive addr count fill s) hawake ?_
    have hform : s.chip.frame 1 alive addr count [] fill = (s.chip.transmit (8 + fill)).examine q [] := by
      rw [Chip.frame_slave hslave, hq, Nat.mod_eq_of_lt halive, Nat.mod_eq_of_lt haddr, Nat.mod_eq_of_lt hcount]
      rfl
    have hcmd : q.cmd = 1 := by rw [hq]
    have hqalive : q.alive = alive := by rw [hq]
    have hqaddr : q.addr = addr := by rw [hq]
    have hqcount : q.count = count := by rw [hq]
    rw [hform]
    clear hform hq
    subst hqalive hqaddr hqcount
    have hkept := s.chip.sameRequests_transmit (8 + fill)
    obtain ⟨hlast, hwriting, haccepted, hretry, -, -, hclash, hbusy, -⟩ := s.chip.transmit_host (8 + fill)
    have hsent := s.chip.transmit_replySent (8 + fill)
    have hgirth (a : Nat) : (s.chip.transmit (8 + fill)).overGirth a = s.chip.overGirth a := by
      obtain ⟨x, hsdo, trunc, underrun, underruns, hsends, -⟩ := s.chip.transmit_sends (8 + fill)
      rw [hsends]
      rfl
    have hrest : ∀ p, ({ s.chip.transmit (8 + fill) with host := p } : Chip) = { s.chip with host := p } := by
      obtain ⟨x, hsdo, trunc, underrun, underruns, hsends, -⟩ := s.chip.transmit_sends (8 + fill)
      rw [hsends]
      exact fun p => rfl
    generalize s.chip.transmit (8 + fill) = d at hlast hwriting haccepted hretry hclash hbusy hkept hsent hgirth hrest ⊢
    have hfits (hc : q.count ≤ 256) (hr : q.addr + q.count ≤ 65536) : q.fits := ⟨by omega, fun h => by omega, hc, fun _ => hr⟩
    refine ⟨hsent.examined ?_ _, fun hwrong => ?_, fun hc hr hw => ?_, fun hc hr hw => ⟨fun l hl hsame => ?_, fun hnew => ?_⟩⟩
    · exact d.examine_read_sending hcmd []
    · rw [Chip.examine_range (.inl hcmd) hwrong]
      exact (Rejected.of_sameRequests hkept 0x13 q.alive).follow s.chip
    · rw [Chip.examine_busy (hfits hc hr) (by rw [hwriting]; exact hw)]
      exact ⟨(Rejected.of_sameRequests (hkept.upHost (fun _ => ⟨rfl, rfl, rfl⟩)) 0x14 q.alive).follow s.chip, congrArg (· + 1) hbusy⟩
    · rw [Chip.examine_again (hfits hc hr) (by omega) (hwriting.trans hw) (hlast.trans hl) hsame]
      refine ⟨fun heq => ?_, fun hne => ?_⟩
      · rw [if_pos heq]
        exact ⟨congrArg (· + 1) hretry, rfl, hlast.trans hl, haccepted, hkept.2.1⟩
      · rw [if_neg hne]
        exact ⟨(Rejected.of_sameRequests (hkept.upHost (fun _ => ⟨rfl, rfl, rfl⟩)) 0x15 q.alive).follow s.chip, congrArg (· + 1) hclash⟩
    · rw [Chip.examine_new (hfits hc hr) (by omega) (hwriting.trans hw) (by rw [hlast]; exact hnew), hlast]
      obtain ⟨hnow, hone, hpending, hregs, -, r, hstored, hralive, hrcount, hrstatus, hrgap, hdata⟩ := Chip.acceptFrame_read (d := d) hcmd hc []
        (s.chip.host.last.any (fun l => decide (q.alive ≠ (l.alive + 1) % 256)))
      refine ⟨hnow, hone.trans (congrArg (· + 1) haccepted), hpending, hregs.trans hkept.2.2.2.1, r, hstored, hralive, hrcount, hrstatus, hrgap,
        fun k hk hlocal hend => ?_⟩
      rw [hdata k hk (fun i hi => (hgirth _).trans (hlocal i hi)) (hend.imp id (hgirth _).trans), hrest]
      rfl

end Sys2Proof.Machine
end

section
/-! SUPPORT. WRITE: its words stored in order, the word that crosses the girth, DONE, and the remote words of a READ (16 R728, R739, R740, 01 R52-R54). -/

namespace Sys2Proof.Machine

theorem exec_write (alive addr : Nat) (ws : List Word) (fill : Nat) (s : State) :
    exec (.write alive addr ws fill) s = s.run (fun c => c.frame 2 alive addr ws.length ws fill) := rfl
theorem exec_remoteWriteAck (s : State) : exec .remoteWriteAck s = s.run Chip.writeAck := rfl
theorem exec_writeDone (s : State) : exec .writeDone s = s.run Chip.writeDone := rfl
theorem exec_remoteWordReady (late : Bool) (s : State) : exec (.remoteWordReady late) s = s.run (fun c => c.wordReady late) := rfl

/-! ### Words stored in order -/

theorem WordWritten.host {a : Nat} {v : Word} {c d : Chip} (h : WordWritten a v c d) : d.host = c.host := (congrArg Chip.host h.rest :)

/-- A plain word that its die takes is written by the host. -/
theorem Chip.hostWrite_plain {c : Chip} {a : Nat} {r : RegRow} (w : Word) (hopen : c.hostOpen = true) (hp : plainRow a r) (hd : c.dieTakes r a) :
    WordWritten a (plainWord r (c.reg a) w) c (c.hostWrite a w).1 := by
  have ⟨hr, harm, _, _, ha, _, _, hown, _⟩ := hp
  have hsh := c.takeShadow_written r a w
  have hrw := (c.takeShadow r a w).takeRw_written r a w hown
  rw [hsh.word] at hrw
  rw [Chip.hostWrite, hopen, Bool.true_or, if_pos rfl, Chip.writeWord_of_mapped _ w ha hr, Chip.storeWord_of_dieTakes _ _ _ _ hd,
    Chip.storeOwn_of_plain _ w hp, Chip.storeArm_of_unarmed _ _ _ _ harm]
  exact hsh.trans hrw

theorem Chip.storeWords_done {c : Chip} (h : c.host.writing = some [] ∨ c.host.writing = none) (n : Nat) : Chip.storeWords n c = c := by
  cases n with
  | zero => rfl
  | succ n => rcases h with h | h <;> rw [Chip.storeWords, h]

theorem Chip.storeWords_waits {c : Chip} {a : Nat} {w : Word} {rest : List (Nat × Word)} (h : c.host.writing = some ((a, w) :: rest))
    (hgirth : c.overGirth a = true) (n : Nat) : Chip.storeWords n c = c := by
  cases n with
  | zero => rfl
  | succ n =>
    rw [Chip.storeWords, h]
    exact if_pos hgirth

/-- What of the host port a stored word does not change. -/
def HostPort.settled (h : HostPort) : HostPort := { h with writing := none, stored := none }

/-- Between two states of the block only register words and the WRITE in progress changed. -/
def Chip.stores (c t : Chip) : Prop := { t with regs := c.regs, host := c.host } = c ∧ t.host.settled = c.host.settled

theorem Chip.stores.trans {c d t : Chip} (h : c.stores d) (k : d.stores t) : c.stores t := by
  have hrest : ({ t with regs := c.regs, host := c.host } : Chip) = { d with regs := c.regs, host := c.host } :=
    congrArg (fun x : Chip => { x with regs := c.regs, host := c.host }) k.1
  exact ⟨hrest.trans h.1, k.2.trans h.2⟩

theorem Chip.stores.rings {c t : Chip} (h : c.stores t) : t.rings = c.rings := (congrArg Chip.rings h.1 :)
theorem Chip.stores.hostOpen {c t : Chip} (h : c.stores t) : t.hostOpen = c.hostOpen := (congrArg Chip.hostOpen h.1 :)
theorem Chip.stores.last {c t : Chip} (h : c.stores t) : t.host.last = c.host.last := (congrArg HostPort.last h.2 :)
theorem Chip.stores.pending {c t : Chip} (h : c.stores t) : t.host.pending = c.host.pending := (congrArg HostPort.pending h.2 :)
theorem Chip.stores.sending {c t : Chip} (h : c.stores t) : t.host.sending = c.host.sending := (congrArg HostPort.sending h.2 :)

/-- The block after one word of a WRITE whose die takes it. -/
def Chip.stored1 (c : Chip) (a : Nat) (w : Word) (rest : List (Nat × Word)) : Chip :=
  let p := (c.upHost (fun h => { h with writing := some rest })).hostWrite a w
  p.1.upHost (fun h => { h with stored := h.stored.map (fun r => { r with flags := r.flags ||| p.2 }) })

theorem Chip.stored1_plain {c : Chip} {a : Nat} {r : RegRow} (w : Word) (rest : List (Nat × Word)) (hopen : c.hostOpen = true) (hp : plainRow a r)
    (hd : c.dieTakes r a) : c.stores (c.stored1 a w rest) ∧ (c.stored1 a w rest).host.writing = some rest ∧
      (c.stored1 a w rest).reg a = plainWord r (c.reg a) w ∧ ∀ b, b ≠ a → (c.stored1 a w rest).reg b = c.reg b := by
  have hword := Chip.hostWrite_plain (c := c.upHost (fun h => { h with writing := some rest })) w hopen hp hd
  have hhost := hword.host
  unfold Chip.stored1
  extract_lets p
  have hrest : ({ p.1 with regs := c.regs, host := c.host } : Chip) = c :=
    congrArg (fun x : Chip => { x with host := c.host }) hword.rest
  refine ⟨⟨hrest, ?_⟩, ?_, hword.word, hword.others⟩
  · exact (congrArg HostPort.settled hhost :)
  · exact (congrArg HostPort.writing hhost :)

theorem Chip.storeWords_step {c : Chip} {a : Nat} {w : Word} {rest : List (Nat × Word)} (h : c.host.writing = some ((a, w) :: rest))
    (hgirth : c.overGirth a = false) (hnext : (c.stored1 a w rest).host.writing = some rest) (n : Nat) :
    Chip.storeWords (n + 1) c = Chip.storeWords n (c.stored1 a w rest) := by
  rw [Chip.storeWords, h]
  dsimp only
  rw [if_neg (by rw [hgirth]; decide), if_neg]
  · rfl
  · have hsome : ((c.upHost (fun h => { h with writing := some rest })).hostWrite a w).1.host.writing = some rest := hnext
    rw [hsome]
    exact Bool.false_ne_true

/-- The plain local words of a WRITE are stored in order. -/
theorem Chip.storeWords_plain (ws : List Word) (addr n : Nat) (c : Chip) (hn : ws.length ≤ n) (hopen : c.hostOpen = true)
    (hw : c.host.writing = some (ws.mapIdx (fun i x => (addr + i, x))))
    (hplain : ∀ i, i < ws.length → ∃ r, plainRow (addr + i) r ∧ r.onDie = false) :
    c.stores (Chip.storeWords n c) ∧ (Chip.storeWords n c).host.writing = some [] ∧
      (∀ i x, ws[i]? = some x → ∀ r, regRow (addr + i) = some r → (Chip.storeWords n c).reg (addr + i) = plainWord r (c.reg (addr + i)) x) ∧
      ∀ b, (b < addr ∨ addr + ws.length ≤ b) → (Chip.storeWords n c).reg b = c.reg b := by
  induction ws generalizing addr n c with
  | nil =>
    have hdone : Chip.storeWords n c = c := Chip.storeWords_done (.inl hw) n
    rw [hdone]
    exact ⟨⟨rfl, rfl⟩, hw, fun i x hx => by simp at hx, fun b _ => rfl⟩
  | cons w ws ih =>
    obtain ⟨n, rfl⟩ : ∃ m, n = m + 1 := ⟨n - 1, by rw [List.length_cons] at hn; omega⟩
    obtain ⟨r, hp, hdie⟩ := hplain 0 (by simp)
    rw [Nat.add_zero] at hp
    have hlist : (w :: ws).mapIdx (fun i x => (addr + i, x)) = (addr, w) :: ws.mapIdx (fun i x => (addr + 1 + i, x)) := by
      rw [List.mapIdx_cons]
      congr 1
      exact congrArg (fun f => List.mapIdx f ws) (funext fun i => funext fun x => by rw [show addr + (i + 1) = addr + 1 + i by omega])
    rw [hlist] at hw
    have hgirth : c.overGirth addr = false := by
      unfold Chip.overGirth
      rw [hp.1, Option.any_some, hdie, Bool.false_and]
    obtain ⟨hstores, hnext, hword, hothers⟩ := Chip.stored1_plain w (ws.mapIdx (fun i x => (addr + 1 + i, x))) hopen hp (.inl hdie)
    rw [Chip.storeWords_step hw hgirth hnext]
    obtain ⟨krest, kdone, kwords, kothers⟩ := ih (addr + 1) n _ (by rw [List.length_cons] at hn; omega) (hstores.hostOpen.trans hopen) hnext
      (fun i hi => by
        have := hplain (i + 1) (by rw [List.length_cons]; omega)
        rwa [show addr + (i + 1) = addr + 1 + i by omega] at this)
    refine ⟨hstores.trans krest, kdone, fun i x hx r' hr' => ?_, fun b hb => ?_⟩
    · cases i with
      | zero =>
        cases hx
        rw [Nat.add_zero] at hr'
        cases hp.1.symm.trans hr'
        simp only [Nat.add_zero]
        rw [kothers addr (.inl (by omega)), hword]
      | succ i =>
        rw [show addr + (i + 1) = addr + 1 + i by omega] at hr' ⊢
        rw [kwords i x hx r' hr', hothers _ (by omega)]
    · rw [List.length_cons] at hb
      rw [kothers b (by omega), hothers b (by omega)]

/-! ### An accepted WRITE -/

/-- The block that has accepted a WRITE, before its first word is stored. -/
def Chip.writes (d : Chip) (q : Request) (ws : List Word) (gap : Bool) : Chip := d.upHost (fun h => { h with
  last := some q, accepted := h.accepted + 1, gap := if gap then h.gap + 1 else h.gap, stored := some { alive := q.alive, gap := gap, count := 0 },
  pending := none, busyAnswered := false, writing := some (ws.mapIdx (fun i w => (q.addr + i, w))) })

theorem Chip.acceptFrame_write {d : Chip} {q : Request} (hcmd : q.cmd = 2) (ws : List Word) (gap : Bool) :
    d.acceptFrame q ws gap = Chip.storeWords 256 (d.writes q ws gap) := by
  unfold Chip.acceptFrame Chip.writes
  rw [if_neg (by omega), if_neg (by omega)]
  rfl

/-- A WRITE within the address range, and what it finds. -/
theorem Chip.frame_write {s : State} {alive addr fill : Nat} {ws : List Word} (hslave : s.chip.slavePort = true) (halive : alive < 256)
    (hlen : ws.length ≤ 256) (haddr : addr < 65536) : s.chip.frame 2 alive addr ws.length ws fill = (s.chip.transmit (8 + 4 * ws.length + fill)).examine
      { cmd := 2, alive := alive, addr := addr, count := ws.length, crc := crc16 (frameBytes 2 alive addr ws.length ws) } ws := by
  rw [Chip.frame_slave hslave, Nat.mod_eq_of_lt halive, Nat.mod_eq_of_lt haddr, Nat.mod_eq_of_lt (show ws.length < 65536 by omega)]

/-- The alive value of a request does not follow the one before. -/
def Chip.gapOf (c : Chip) (alive : Nat) : Bool := c.host.last.any (fun l => decide (alive ≠ (l.alive + 1) % 256))

theorem Chip.frame_accepts {s : State} {alive addr fill : Nat} {ws : List Word} {q : Request} (hslave : s.chip.slavePort = true) (halive : alive < 256)
    (hlen : ws.length ≤ 256) (haddr : addr < 65536) (hrange : addr + ws.length ≤ 65536) (hw : s.chip.host.writing = none)
    (hq : q = { cmd := 2, alive := alive, addr := addr, count := ws.length, crc := crc16 (frameBytes 2 alive addr ws.length ws) })
    (hnew : ∀ l, s.chip.host.last = some l → alive ≠ l.alive) :
    s.chip.frame 2 alive addr ws.length ws fill =
      Chip.storeWords 256 ((s.chip.transmit (8 + 4 * ws.length + fill)).writes q ws (s.chip.gapOf alive)) := by
  obtain ⟨hlast, hwriting, -⟩ := s.chip.transmit_host (8 + 4 * ws.length + fill)
  have hfits : q.fits := by
    rw [hq]
    exact ⟨Nat.lt_succ_self 2, fun h => absurd h (Nat.succ_ne_zero 1), hlen, fun _ => hrange⟩
  have hcmd : q.cmd = 2 := by rw [hq]
  have hqalive : q.alive = alive := by rw [hq]
  rw [Chip.frame_write hslave halive hlen haddr, ← hq, Chip.examine_new hfits (by omega) (hwriting.trans hw) (by rw [hlast, hqalive]; exact hnew),
    Chip.acceptFrame_write hcmd, hlast, hqalive]
  rfl

theorem Chip.frame_again {s : State} {alive addr fill : Nat} {ws : List Word} {l : Request} (hslave : s.chip.slavePort = true) (halive : alive < 256)
    (hlen : ws.length ≤ 256) (haddr : addr < 65536) (hrange : addr + ws.length ≤ 65536) (hw : s.chip.host.writing = none)
    (hl : s.chip.host.last = some l) (hsame : alive = l.alive) :
    s.chip.frame 2 alive addr ws.length ws fill =
      if { cmd := 2, alive := alive, addr := addr, count := ws.length, crc := crc16 (frameBytes 2 alive addr ws.length ws) } = l then
        (s.chip.transmit (8 + 4 * ws.length + fill)).upHost (fun h => { h with retry := h.retry + 1, pending := some .replay })
      else ((s.chip.transmit (8 + 4 * ws.length + fill)).upHost (fun h => { h with clash := h.clash + 1 })).rejectFrame 0x15 alive := by
  obtain ⟨hlast, hwriting, -⟩ := s.chip.transmit_host (8 + 4 * ws.length + fill)
  rw [Chip.frame_write hslave halive hlen haddr]
  exact Chip.examine_again ⟨Nat.lt_succ_self 2, fun h => absurd h (Nat.succ_ne_zero 1), hlen, fun _ => hrange⟩ (Nat.succ_ne_zero 1) (hwriting.trans hw)
    (hlast.trans hl) hsame

/-- A transmission changes the host port alone. -/
theorem Chip.transmit_rest (c : Chip) (nb : Nat) (p : HostPort) : ({ c.transmit nb with host := p } : Chip) = { c with host := p } := by
  obtain ⟨x, hsdo, trunc, underrun, underruns, hsends, -⟩ := c.transmit_sends nb
  rw [hsends]
  rfl

/-- The word of a READ that arrives from its remote die. -/
def Chip.arrivedWord (c : Chip) (a : Nat) (late : Bool) : ReplyWord := { word := (c.readWord a).1, late := late, flags := (c.readWord a).2 }

theorem Chip.wordReady_eq {c : Chip} {q : Request} {r : Reply} (hlast : c.host.last = some q) (hstored : c.host.stored = some r) (hcmd : q.cmd = 1)
    (hless : r.data.length < r.count) (hgirth : c.overGirth (q.addr + r.data.length) = true) (late : Bool) :
    c.wordReady late = (c.withStored (some { r with data := r.data ++ [c.arrivedWord (q.addr + r.data.length) late] })).fetchAll := by
  unfold Chip.wordReady
  rw [hlast, hstored]
  exact if_pos ⟨hcmd, hless, hgirth⟩

/-- A remote word is followed by the words of the READ that need not wait. -/
theorem Chip.wordReady_appends {c : Chip} {q : Request} {r : Reply} (hlast : c.host.last = some q) (hstored : c.host.stored = some r) (hcmd : q.cmd = 1)
    (hless : r.data.length < r.count) (hgirth : c.overGirth (q.addr + r.data.length) = true) (late : Bool) :
    (c.wordReady late).host.last = some q ∧ ∃ more, (c.wordReady late).host.stored =
      some { r with data := r.data ++ c.arrivedWord (q.addr + r.data.length) late :: more } ∧ (r.data.length + 1 = r.count → more = []) := by
  rw [Chip.wordReady_eq hlast hstored hcmd hless hgirth late]
  have hcame : (c.withStored (some { r with data := r.data ++ [c.arrivedWord (q.addr + r.data.length) late] })).host.stored = some _ := rfl
  obtain ⟨x, hx, -, hmore⟩ := (c.withStored (some { r with data := r.data ++ [c.arrivedWord (q.addr + r.data.length) late] })).fetchAll_stored
  obtain ⟨more, hreply⟩ := hmore _ hcame
  rw [hx]
  refine ⟨hlast, more, ?_, fun hfull => ?_⟩
  · rw [List.append_assoc, List.singleton_append] at hreply
    exact hreply
  · have hstill := Chip.fetchAll_fetched hcame (fun q' _ => .inr (.inl (by rw [List.length_append]; exact hfull.ge)))
    have hsame := congrArg (fun c : Chip => c.host.stored) (hx.symm.trans hstill)
    have hdata := congrArg Reply.data (Option.some.inj (hreply.symm.trans hsame))
    exact List.append_right_eq_self.mp hdata

/-- Settles O47: by the words a WRITE stores, and by what the acknowledgement, DONE and a remote word find. -/
theorem writesExecuteAndRemoteWordsArrive : Obligations.WritesExecuteAndRemoteWordsArrive := by
  refine ⟨fun s alive addr fill ws q hawake hslave halive hlen haddr hrange hw hq hnew => ⟨fun hne hgirth => ?crosses, fun hplain hopen => ?stores⟩,
    fun s alive addr fill ws l hawake hslave halive hlen haddr hrange hw hl hsame => ⟨fun heq => ?retry, fun hne => ?clash⟩,
    fun s a w rest r hawake hw => ⟨fun hlocal => ?noAck, fun hgirth hp hopen hrest => ?ack⟩,
    fun s hawake => ⟨fun hdone => ?done, fun a w rest hw hgirth => ?waits, fun hnone => ?idle⟩,
    fun s late q r hawake hlast hstored => ⟨fun hcmd hless hgirth => ?word, fun hno => ?noWord⟩⟩
  case crosses =>
    refine Gives.run (exec_write alive addr ws fill s) hawake ?_
    rw [Chip.frame_accepts hslave halive hlen haddr hrange hw hq hnew]
    have hkept := s.chip.sameRequests_transmit (8 + 4 * ws.length + fill)
    have hsent := s.chip.transmit_replySent (8 + 4 * ws.length + fill)
    have hrest := s.chip.transmit_rest (8 + 4 * ws.length + fill)
    generalize s.chip.transmit (8 + 4 * ws.length + fill) = d at hkept hsent hrest ⊢
    obtain ⟨-, -, haccepted, hregs, hrings, -⟩ := hkept
    obtain ⟨w, ws, rfl⟩ := List.exists_cons_of_ne_nil hne
    have hlist : (d.writes q (w :: ws) (s.chip.gapOf alive)).host.writing = some ((addr, w) :: ws.mapIdx (fun i x => (addr + (i + 1), x))) := by
      change some _ = some _
      rw [List.mapIdx_cons, hq]
      rfl
    have hover : (d.writes q (w :: ws) (s.chip.gapOf alive)).overGirth addr = true :=
      (congrArg (fun c : Chip => c.overGirth addr) (hrest d.host) :).trans hgirth
    rw [Chip.storeWords_waits hlist hover]
    exact ⟨hsent.examined rfl s.chip, rfl, congrArg (· + 1) haccepted, rfl, rfl, by rw [hq]; rfl, hregs, hrings⟩
  case stores =>
    refine Gives.run (exec_write alive addr ws fill s) hawake ?_
    rw [Chip.frame_accepts hslave halive hlen haddr hrange hw hq hnew]
    have hkept := s.chip.sameRequests_transmit (8 + 4 * ws.length + fill)
    have hsent := s.chip.transmit_replySent (8 + 4 * ws.length + fill)
    have hrest := s.chip.transmit_rest (8 + 4 * ws.length + fill)
    generalize s.chip.transmit (8 + 4 * ws.length + fill) = d at hkept hsent hrest ⊢
    obtain ⟨-, -, -, hregs, hrings, -⟩ := hkept
    have hlist : (d.writes q ws (s.chip.gapOf alive)).host.writing = some (ws.mapIdx (fun i x => (addr + i, x))) := by
      change some _ = some _
      rw [hq]
    have hfree : (d.writes q ws (s.chip.gapOf alive)).hostOpen = true := (congrArg Chip.hostOpen (hrest d.host) :).trans hopen
    obtain ⟨hstores, hdone, hwords, hothers⟩ := Chip.storeWords_plain ws addr 256 _ hlen hfree hlist hplain
    have hreg (a : Nat) : (d.writes q ws (s.chip.gapOf alive)).reg a = s.chip.reg a := Chip.reg_of_regs hregs a
    refine ⟨hsent.examined hstores.sending s.chip, hstores.last, hdone, hstores.pending, hstores.rings.trans hrings, fun i x hx r hr => ?_, fun b hb => ?_⟩
    · rw [← hreg]
      exact hwords i x hx r hr
    · rw [← hreg]
      exact hothers b hb
  case retry =>
    refine Gives.run (exec_write alive addr ws fill s) hawake ?_
    rw [Chip.frame_again hslave halive hlen haddr hrange hw hl hsame, if_pos heq.symm]
    obtain ⟨-, -, -, hretry, -⟩ := s.chip.transmit_host (8 + 4 * ws.length + fill)
    obtain ⟨-, -, -, hregs, hrings, hrun⟩ := s.chip.sameRequests_transmit (8 + 4 * ws.length + fill)
    exact ⟨congrArg (· + 1) hretry, rfl, hregs, hrings, hrun⟩
  case clash =>
    refine Gives.run (exec_write alive addr ws fill s) hawake ?_
    rw [Chip.frame_again hslave halive hlen haddr hrange hw hl hsame, if_neg (Ne.symm hne)]
    obtain ⟨-, -, -, -, -, -, hclash, -⟩ := s.chip.transmit_host (8 + 4 * ws.length + fill)
    have hkept := s.chip.sameRequests_transmit (8 + 4 * ws.length + fill)
    exact ⟨(Rejected.of_sameRequests (hkept.upHost (fun _ => ⟨rfl, rfl, rfl⟩)) 0x15 alive).follow s.chip, congrArg (· + 1) hclash⟩
  case noAck =>
    refine Gives.run (exec_remoteWriteAck s) hawake ?_
    rw [Chip.writeAck, hw]
    dsimp only
    rw [if_neg (by rw [hlocal]; decide)]
    exact ⟨rfl, rfl⟩
  case ack =>
    refine Gives.run (exec_remoteWriteAck s) hawake ?_
    have hd : s.chip.dieTakes r a := by
      unfold Chip.overGirth at hgirth
      rw [hp.1, Option.any_some, Bool.and_eq_true, Option.any_eq_true] at hgirth
      obtain ⟨-, l, hlane, hlive⟩ := hgirth
      exact .inr (.inr ⟨l, hlane, hlive⟩)
    obtain ⟨hstores, hnext, hword, hothers⟩ := Chip.stored1_plain w rest hopen hp hd
    have hend : Chip.storeWords 256 (s.chip.stored1 a w rest) = s.chip.stored1 a w rest := by
      rcases hrest with rfl | ⟨b, x, t, rfl, hb⟩
      · exact Chip.storeWords_done (.inl hnext) 256
      · refine Chip.storeWords_waits hnext ?_ 256
        exact (congrArg (fun c : Chip => c.overGirth b) hstores.1 :).trans hb
    have hack : s.chip.writeAck = s.chip.stored1 a w rest := by
      rw [← hend, Chip.writeAck, hw]
      exact if_pos hgirth
    rw [hack]
    exact ⟨hnext, hword, hothers⟩
  case done =>
    refine Gives.run (exec_writeDone s) hawake ?_
    rw [Chip.writeDone, Chip.storeWords_done (.inl hdone), hdone]
    dsimp only
    refine ⟨?_, ?_, fun hno => ?_, fun hyes => ?_⟩
    · split <;> rfl
    · split <;> rfl
    · rw [if_neg (by rw [hno]; decide)]
      exact ⟨if_neg (by rw [hno]; decide), rfl⟩
    · rw [if_pos hyes]
      refine ⟨if_pos hyes, ?_⟩
      rw [Chip.rf, Chip.reg_of_regs (Chip.follow_regs _ _), Chip.reg_setBits, if_pos rfl]
      exact fld_or_bit _ 2 (by decide)
  case waits =>
    refine Gives.run (exec_writeDone s) hawake ?_
    rw [Chip.writeDone, Chip.storeWords_waits hw hgirth, hw]
    rfl
  case idle =>
    refine Gives.run (exec_writeDone s) hawake ?_
    rw [Chip.writeDone, Chip.storeWords_done (.inr hnone), hnone]
    rfl
  case word =>
    refine Gives.run (exec_remoteWordReady late s) hawake ?_
    exact Chip.wordReady_appends hlast hstored hcmd hless hgirth late
  case noWord =>
    refine Gives.run (exec_remoteWordReady late s) hawake ?_
    rw [Chip.wordReady, hlast, hstored]
    dsimp only
    rw [if_neg (by omega)]
    rfl

end Sys2Proof.Machine
end

section
/-! SUPPORT. The NOR: mapped reads, programs, erases, their ends, and a NOR that stays silent (17 R775-R788). -/

namespace Sys2Proof.Machine

theorem exec_mappedRead (a n : Nat) (s : State) : exec (.mappedRead a n) s = s.run (fun c => c.mappedRead a n) := rfl
theorem exec_pageProgram (a : Nat) (bs : List Byte) (s : State) : exec (.pageProgram a bs) s = s.run (fun c => c.pageProgram a bs) := rfl
theorem exec_sectorErase (a : Nat) (s : State) : exec (.sectorErase a) s = s.run (fun c => c.sectorErase a) := rfl
theorem exec_statusPoll (wip intact : Bool) (s : State) : exec (.statusPoll wip intact) s = s.run (fun c => c.statusPoll wip intact) := rfl
theorem exec_eraseReadTimeout (s : State) : exec .eraseReadTimeout s = s.run Chip.eraseReadTimeout := rfl
theorem exec_nvmSilent (s : State) : exec .nvmSilent s = s.run Chip.norSilent := rfl

/-! ### A mapped read -/

theorem MemPort.norRead_eq {m : MemPort} (hwf : Memory.wf 0xFF m.nor = true) (a n : Nat) :
    m.norRead a n = (List.range n).map (fun i => if a + i < m.par.density then mget 0xFF m.nor (a + i) else 0xFF) := by
  unfold MemPort.norRead
  dsimp only
  rw [memRead_eq _ _ _ _ hwf]
  refine List.ext_getElem ?_ (fun i h1 h2 => ?_)
  · simp only [List.length_append, List.length_map, List.length_range, List.length_replicate]
    omega
  · rw [List.length_map, List.length_range] at h2
    rw [List.getElem_append]
    simp only [List.length_map, List.length_range, List.getElem_map, List.getElem_range, List.getElem_replicate]
    by_cases hin : a + i < m.par.density
    · rw [dif_pos (by omega), if_pos hin]
    · rw [dif_neg (by omega), if_neg hin]

theorem Chip.tryRead_waits {c : Chip} (h : c.busTaken = true ∨ (c.mem.state = .erasing ∧ c.mem.par.suspendOk = false)) (a n : Nat) :
    (c.tryRead a n).mem = { c.mem with readWaits := some (a, n), answer := 1 } := by
  unfold Chip.tryRead
  by_cases hbusy : c.busTaken = true
  · rw [if_pos hbusy]
    rfl
  · obtain ⟨hstate, hno⟩ := h.resolve_left hbusy
    rw [if_neg hbusy, if_pos hstate, if_neg (by rw [hno]; decide)]
    rfl

theorem Chip.tryRead_served {c : Chip} (hfree : c.busTaken = false) (herasing : c.mem.state = .erasing → c.mem.par.suspendOk = true) (a n : Nat) :
    (c.tryRead a n).mem.readData = c.mem.norRead a n ∧ (c.tryRead a n).mem.answer = 0 ∧ (c.tryRead a n).mem.readWaits = none ∧
      (c.tryRead a n).mem.nor = c.mem.nor ∧ (c.tryRead a n).mem.state = c.mem.state ∧ (c.tryRead a n).mem.erase = c.mem.erase ∧
      (c.tryRead a n).mem.suspends = c.mem.suspends + (if c.mem.state = .erasing then 1 else 0) ∧ (c.tryRead a n).rings = c.rings ∧
      (c.tryRead a n).regs = c.regs := by
  unfold Chip.tryRead
  rw [if_neg (by rw [hfree]; decide)]
  by_cases hstate : c.mem.state = .erasing
  · rw [if_pos hstate, if_pos (herasing hstate), if_pos hstate]
    exact ⟨rfl, rfl, rfl, rfl, rfl, rfl, rfl, rfl, rfl⟩
  · rw [if_neg hstate, if_neg hstate]
    exact ⟨rfl, rfl, rfl, rfl, rfl, rfl, (add_zero _).symm, rfl, rfl⟩

/-! ### What waits for the bus -/

/-- The memory port but for what a request that waited changes when the bus is free. -/
def MemPort.still (m : MemPort) : MemPort :=
  { m with program := none, lines := [], omitCmd := false, resetOwed := false, programs := 0, answer := 0, readData := [], readWaits := none,
           suspends := 0, initLeft := [], xfer := none }

theorem Chip.memWaited_mem (c : Chip) : c.memWaited.mem = c.mem :=
  Chip.mem_of_hide (Chip.hide_memWaited _ (ps := others .mem) (by decide)) (by decide)

theorem Chip.tryRead_still (c : Chip) (a n : Nat) : (c.tryRead a n).mem.still = c.mem.still ∧ (c.tryRead a n).mem.program = c.mem.program := by
  unfold Chip.tryRead
  split_ifs <;> exact ⟨rfl, rfl⟩

theorem Chip.nextInit_still (c : Chip) : c.nextInit.mem.still = c.mem.still ∧ c.nextInit.mem.program = c.mem.program := by
  unfold Chip.nextInit
  split
  · exact ⟨rfl, rfl⟩
  · split <;> exact ⟨rfl, rfl⟩

/-- The program that waited is sent once nothing holds it. -/
def Chip.sendWaiting (c : Chip) : Chip := match c.mem.program with
  | some p => if !p.sent && c.mem.erase.isNone && c.mem.xfer.isNone then c.sendProgram p else c
  | none => c

/-- The read that waited is tried again. -/
def Chip.readWaiting (c : Chip) : Chip := match c.mem.readWaits with
  | some (a, n) => c.tryRead a n
  | none => c

theorem Chip.busFree_eq (c : Chip) : c.busFree = c.memWaited.sendWaiting.readWaiting.nextInit := rfl

theorem Chip.sendWaiting_still (c : Chip) : c.sendWaiting.mem.still = c.mem.still := by
  unfold Chip.sendWaiting
  split
  · split <;> rfl
  · rfl

theorem Chip.readWaiting_still (c : Chip) : c.readWaiting.mem.still = c.mem.still ∧ c.readWaiting.mem.program = c.mem.program := by
  unfold Chip.readWaiting
  split
  · exact c.tryRead_still _ _
  · exact ⟨rfl, rfl⟩

theorem Chip.busFree_still (c : Chip) : c.busFree.mem.still = c.mem.still := by
  rw [Chip.busFree_eq, (Chip.nextInit_still _).1, (Chip.readWaiting_still _).1, Chip.sendWaiting_still, Chip.memWaited_mem]

theorem Chip.busFree_program (c : Chip) : c.busFree.mem.program = c.memWaited.sendWaiting.mem.program := by
  rw [Chip.busFree_eq, (Chip.nextInit_still _).2, (Chip.readWaiting_still _).2]

theorem Chip.busFree_noProgram {c : Chip} (h : c.mem.program = none) : c.busFree.mem.program = none := by
  have hmem := c.memWaited_mem
  rw [Chip.busFree_program, Chip.sendWaiting, hmem, h]
  exact (congrArg MemPort.program hmem).trans h

theorem Chip.busFree_sends {c : Chip} {p : Program} (h : c.mem.program = some p) (hsent : p.sent = false) (herase : c.mem.erase = none)
    (hxfer : c.mem.xfer = none) : c.busFree.mem.program = some { p with sent := true } := by
  rw [Chip.busFree_program, Chip.sendWaiting, Chip.memWaited_mem, h]
  dsimp only
  rw [hsent, herase, hxfer]
  rfl

/-- With nothing waiting for the bus the memory port stays as it is. -/
theorem Chip.busFree_idle {c : Chip} (hidle : BusIdle c.mem) (hprogram : c.mem.program = none) : c.busFree.mem = c.mem := by
  obtain ⟨hreads, hinit⟩ := hidle
  have hmem := c.memWaited_mem
  have hsend : c.memWaited.sendWaiting = c.memWaited := by rw [Chip.sendWaiting, hmem, hprogram]
  have hread : c.memWaited.readWaiting = c.memWaited := by rw [Chip.readWaiting, hmem, hreads]
  have hnext : c.memWaited.nextInit.mem = c.memWaited.mem := by
    rw [Chip.nextInit, hmem, hinit]
    split
    · exact hmem
    · exact hmem
  rw [Chip.busFree_eq, hsend, hread, hnext, hmem]

/-! ### Programs and erases -/

theorem Chip.norSpoil_outside (c : Chip) (a n : Nat) {x : Nat} (h : x < a ∨ a + n ≤ x) :
    mget 0xFF (c.norSpoil a n).mem.nor x = mget 0xFF c.mem.nor x := by
  unfold Chip.norSpoil
  dsimp only
  rw [Chip.upMem_mem, mget_memWrite, if_neg (by rw [List.length_map, List.length_range]; omega), Chip.upStart_mem]

theorem MemPort.still_fields {m k : MemPort} (h : m.still = k.still) : m.nor = k.nor ∧ m.buf = k.buf ∧ m.result = k.result ∧ m.chain = k.chain ∧
    m.state = k.state ∧ m.erase = k.erase :=
  ⟨(congrArg MemPort.nor h :), (congrArg MemPort.buf h :), (congrArg MemPort.result h :), (congrArg MemPort.chain h :),
    (congrArg MemPort.state h :), (congrArg MemPort.erase h :)⟩

/-- A program that reads back intact stands in the NOR. -/
theorem Chip.statusPoll_programmed {c : Chip} {p : Program} (hp : c.mem.program = some p) (hsent : p.sent = true) :
    NorHolds c.mem (c.statusPoll false true).mem p.addr p.bytes ∧ (c.statusPoll false true).mem.program = none ∧
      (BusIdle c.mem → (c.statusPoll false true).mem.answer = 0) := by
  have hpoll : c.statusPoll false true = ((c.upMem (fun m => { m with program := none, tripGrace := false })).upMem
      (fun m => { m with nor := memWrite 0xFF m.nor p.addr p.bytes, answer := 0 })).busFree := by
    rw [Chip.statusPoll, hp]
    exact if_pos hsent
  rw [hpoll]
  refine ⟨fun x => ?_, Chip.busFree_noProgram rfl, fun hidle => ?_⟩
  · obtain ⟨hnor, -⟩ := MemPort.still_fields (Chip.busFree_still _)
    rw [hnor, Chip.upMem_mem, mget_memWrite]
    rfl
  · exact (congrArg MemPort.answer (Chip.busFree_idle (by exact hidle) rfl)).trans rfl

/-- A program that does not read back intact is answered so, and leaves the rest of the NOR. -/
theorem Chip.statusPoll_spoiled {c : Chip} {p : Program} (hp : c.mem.program = some p) (hsent : p.sent = true) :
    (c.statusPoll false false).mem.program = none ∧ (c.statusPoll false false).rf 0x3E02 2 2 = 1 ∧
      (BusIdle c.mem → (c.statusPoll false false).mem.answer = 5) ∧
      ∀ x, (x < p.addr ∨ p.addr + p.bytes.length ≤ x) → mget 0xFF (c.statusPoll false false).mem.nor x = mget 0xFF c.mem.nor x := by
  have hpoll : c.statusPoll false false = ((((c.upMem (fun m => { m with program := none, tripGrace := false })).norSpoil p.addr p.bytes.length).setBits
      0x3E02 4).norAnswer 5).busFree := by
    rw [Chip.statusPoll, hp]
    exact if_pos hsent
  rw [hpoll]
  refine ⟨Chip.busFree_noProgram rfl, ?_, fun hidle => ?_, fun x hx => ?_⟩
  · rw [Chip.rf, Chip.reg_of_regs (Chip.regs_of_hide (Chip.hide_busFree _ (ps := others .regs) (by decide)) (by decide)), Chip.norAnswer,
      Chip.reg_of_regs (Chip.upMem_regs _ _), Chip.reg_setBits, if_pos rfl]
    exact fld_or_bit _ 2 (by decide)
  · exact (congrArg MemPort.answer (Chip.busFree_idle (by exact hidle) rfl)).trans rfl
  · obtain ⟨hnor, -⟩ := MemPort.still_fields (Chip.busFree_still _)
    rw [hnor]
    exact Chip.norSpoil_outside _ _ _ hx

/-- An erase that has ended leaves 0xFF in its sector, and a program that waited is sent. -/
theorem Chip.statusPoll_erased {c : Chip} {a : Nat} (ha : c.mem.erase = some a) (hstate : c.mem.state = .erasing)
    (hnone : ∀ p, c.mem.program = some p → p.sent = false) (intact : Bool) :
    NorHolds c.mem (c.statusPoll false intact).mem a (List.replicate 4096 0xFF) ∧ (c.statusPoll false intact).mem.erase = none ∧
      (c.statusPoll false intact).mem.state = .ready ∧
      ∀ p, c.mem.program = some p → c.mem.xfer = none → (c.statusPoll false intact).mem.program = some { p with sent := true } := by
  have hdone : c.eraseDone = (c.upMem (fun m => { m with
      nor := memWrite 0xFF m.nor a (List.replicate 4096 0xFF), erase := none, state := .ready })).busFree := by
    rw [Chip.eraseDone, ha]
    exact if_pos hstate
  have hpoll : c.statusPoll false intact = c.eraseDone := by
    rw [Chip.statusPoll]
    cases hp : c.mem.program with
    | none => rfl
    | some p => exact if_neg (show ¬ p.sent = true by rw [hnone p hp]; decide)
  rw [hpoll, hdone]
  obtain ⟨hnor, -, -, -, hready, herase⟩ := MemPort.still_fields (Chip.busFree_still (c.upMem (fun m => { m with
      nor := memWrite 0xFF m.nor a (List.replicate 4096 0xFF), erase := none, state := .ready })))
  refine ⟨fun x => ?_, herase, hready, fun p hp hxfer => Chip.busFree_sends hp (hnone p hp) rfl hxfer⟩
  rw [hnor, Chip.upMem_mem, mget_memWrite]

theorem Chip.pageProgram_takes {c : Chip} {a : Nat} {bs : List Byte} (hknown : c.mem.state ≠ .undiscovered) (hne : bs ≠ [])
    (hpage : a % max 1 c.mem.par.page + bs.length ≤ max 1 c.mem.par.page) (hnone : c.mem.program = none) (hok : c.norRefusal = none) :
    c.pageProgram a bs = if c.therm.warning then c.norAnswer 4
      else if c.mem.erase.isSome || c.mem.xfer.isSome then c.upMem (fun m => { m with program := some { addr := a, bytes := bs }, answer := 1 })
      else c.sendProgram { addr := a, bytes := bs } := by
  unfold Chip.pageProgram
  dsimp only
  rw [if_neg (by simp only [hknown, List.isEmpty_iff, hne, hnone, Option.isSome_none, Bool.false_eq_true, false_or, or_false]; omega), hok]

/-- What the end of a transfer leaves of the memory port. -/
theorem Chip.endXfer_mem (c : Chip) (x : Transfer2) (res : Nat) : (x.init = none → (c.endXfer x res).mem.result = res) ∧
    (c.endXfer x res).mem.nor = c.mem.nor ∧ (c.endXfer x res).mem.buf = c.mem.buf ∧
    (c.endXfer x res).mem.chain = (if x.keep then some x.cs else if c.mem.chain = some x.cs then none else c.mem.chain) ∧
    (BusIdle c.mem → c.mem.program = none → (c.endXfer x res).mem.xfer = none) := by
  unfold Chip.endXfer
  extract_lets c1
  have hevent : (c1.xferEvent res).mem = c1.mem := Chip.mem_of_hide (Chip.hide_xferEvent _ _ (ps := others .mem) (by decide)) (by decide)
  obtain ⟨hnor, hbuf, hresult, hchain, -⟩ := MemPort.still_fields (c1.xferEvent res).busFree_still
  rw [hnor, hbuf, hresult, hchain, hevent]
  refine ⟨fun hinit => if_neg (by rw [hinit]; decide), rfl, rfl, rfl, fun hidle hnone => ?_⟩
  rw [Chip.busFree_idle (by rw [hevent]; exact hidle) (by rw [hevent]; exact hnone), hevent]
  rfl

/-! ### Silence -/

/-- After the start a silent NOR drops what it was doing. -/
theorem Chip.norSilent_after {c : Chip} (hno : c.starting = false) (hstarted : c.started = true) (hknown : c.mem.state ≠ .undiscovered)
    (hsilent : c.mem.state ≠ .silent) :
    c.norSilent.mem.state = .silent ∧ c.norSilent.mem.program = none ∧ c.norSilent.mem.erase = none ∧ c.norSilent.mem.readWaits = none ∧
      c.norSilent.mem.answer = 3 ∧ c.norSilent.rf 0x3E02 0 0 = 1 ∧
      (c.mem.program = none → c.mem.erase = none → c.norSilent.mem.nor = c.mem.nor) := by
  unfold Chip.norSilent
  rw [if_neg (by rw [hno]; decide), if_neg (by simp [hstarted, hknown, hsilent])]
  extract_lets a c1
  have hmem : (((c1.setBits 0x3E02 1).protect 0x0C 0x0501 a 0 0 0).recordCause 0x05 false).mem = c1.mem :=
    Chip.mem_of_hide ((Chip.hide_recordCause _ _ _ (by decide)).trans ((Chip.hide_protect _ _ _ _ _ _ _ (by decide)).trans
      (Chip.hide_setBits _ _ _ (ps := others .mem) (by decide)))) (by decide)
  rw [hmem]
  refine ⟨rfl, rfl, rfl, rfl, rfl, ?_, fun hprogram herase => ?_⟩
  · rw [Chip.rf, Chip.reg_of_regs (Chip.regs_of_hide ((Chip.hide_recordCause _ _ _ (by decide)).trans
      (Chip.hide_protect _ _ _ _ _ _ _ (ps := others .regs) (by decide))) (by decide)), Chip.reg_setBits, if_pos rfl]
    exact fld_or_bit _ 0 (by decide)
  · have hcut : c.norCut = c := by
      rw [Chip.norCut, hprogram]
      dsimp only
      rw [herase]
    change c.norCut.mem.nor = c.mem.nor
    rw [hcut]

/-- Settles O50: by what each request finds of the NOR, and by what waits for the bus. -/
theorem theNorIsReadProgrammedAndErased : Obligations.TheNorIsReadProgrammedAndErased := by
  refine ⟨fun s a n hawake hknown hle => ⟨fun hsilent => ?silent, fun hno htrip => ?thermal, fun hno htrip hvio => ?vio, fun hok hwait => ?waits,
      fun hok hfree herasing hwf => ?served⟩,
    fun s a bs hawake hknown hok => ⟨fun hne hpage hnone => ⟨fun hwarn => ?programWarm, fun hwarn => ⟨fun hbusy => ?programWaits, fun herase hxfer => ?sent⟩⟩,
      fun hnone hfree => ⟨fun hwarn => ?eraseWarm, fun hwarn => ?erases⟩⟩,
    fun s hawake => ⟨fun intact => ?wip, fun p hp hsent => ⟨?programmed, ?spoiled⟩, fun a intact ha hstate hnone => ?erased⟩,
    fun s hawake hstate => ⟨fun hok => ?suspends, fun hok hxfer hwaits => ?refused, fun x hok hxfer hcs hinit => ?busy⟩,
    fun s hawake => ⟨fun hno hstarted hknown hsilent => ?after, fun hstarting hnormal => ?during⟩⟩
  case silent =>
    refine Gives.run (exec_mappedRead a n s) hawake ?_
    rw [Chip.follow_mem, Chip.mappedRead, if_neg (by simp [hknown]; omega), Chip.norRefusal, if_pos hsilent]
    rfl
  case thermal =>
    refine Gives.run (exec_mappedRead a n s) hawake ?_
    rw [Chip.follow_mem, Chip.mappedRead, if_neg (by simp [hknown]; omega), Chip.norRefusal, if_neg hno, if_pos htrip]
    rfl
  case vio =>
    refine Gives.run (exec_mappedRead a n s) hawake ?_
    rw [Chip.follow_mem, Chip.mappedRead, if_neg (by simp [hknown]; omega), Chip.norRefusal, if_neg hno, if_neg (by rw [htrip]; decide),
      if_pos (by rw [hvio]; decide)]
    rfl
  case waits =>
    refine Gives.run (exec_mappedRead a n s) hawake ?_
    rw [Chip.follow_mem, Chip.mappedRead, if_neg (by simp [hknown]; omega), hok]
    exact Chip.tryRead_waits hwait a n
  case served =>
    refine Gives.run (exec_mappedRead a n s) hawake ?_
    rw [Chip.follow_mem, Chip.follow_rings, Chip.follow_regs, Chip.mappedRead, if_neg (by simp [hknown]; omega), hok]
    obtain ⟨hdata, hrest⟩ := Chip.tryRead_served hfree herasing a n
    exact ⟨hdata.trans (MemPort.norRead_eq hwf a n), hrest⟩
  case programWarm =>
    refine Gives.run (exec_pageProgram a bs s) hawake ?_
    rw [Chip.follow_mem, Chip.pageProgram_takes hknown hne hpage hnone hok, if_pos hwarn]
    rfl
  case programWaits =>
    refine Gives.run (exec_pageProgram a bs s) hawake ?_
    rw [Chip.follow_mem, Chip.pageProgram_takes hknown hne hpage hnone hok, if_neg (by rw [hwarn]; decide), if_pos (by rw [Bool.or_eq_true]; exact hbusy)]
    rfl
  case sent =>
    refine Gives.run (exec_pageProgram a bs s) hawake ?_
    rw [Chip.follow_mem, Chip.pageProgram_takes hknown hne hpage hnone hok, if_neg (by rw [hwarn]; decide), if_neg (by rw [herase, hxfer]; decide)]
    exact ⟨rfl, rfl, rfl, rfl, rfl⟩
  case eraseWarm =>
    refine Gives.run (exec_sectorErase a s) hawake ?_
    rw [Chip.follow_mem, Chip.sectorErase, if_neg (by simp [hknown, hnone, hfree]), hok]
    exact congrArg Chip.mem (if_pos hwarn)
  case erases =>
    refine Gives.run (exec_sectorErase a s) hawake ?_
    rw [Chip.follow_mem, Chip.sectorErase, if_neg (by simp [hknown, hnone, hfree]), hok]
    dsimp only
    rw [if_neg (by rw [hwarn]; decide), show a - a % 4096 = a / 4096 * 4096 by omega]
    exact ⟨rfl, rfl, rfl, rfl, rfl, rfl⟩
  case wip => exact Gives.run (exec_statusPoll true intact s) hawake rfl
  case programmed =>
    refine Gives.run (exec_statusPoll false true s) hawake ?_
    rw [Chip.follow_mem]
    exact Chip.statusPoll_programmed hp hsent
  case spoiled =>
    refine Gives.run (exec_statusPoll false false s) hawake ?_
    rw [Chip.follow_mem, Chip.rf, Chip.reg_of_regs (Chip.follow_regs _ _)]
    exact Chip.statusPoll_spoiled hp hsent
  case erased =>
    refine Gives.run (exec_statusPoll false intact s) hawake ?_
    rw [Chip.follow_mem]
    exact Chip.statusPoll_erased ha hstate hnone intact
  case suspends =>
    refine Gives.run (exec_eraseReadTimeout s) hawake ?_
    rw [Chip.follow_mem, Chip.eraseReadTimeout, if_neg (by simp [hok])]
  case refused =>
    refine Gives.run (exec_eraseReadTimeout s) hawake ?_
    rw [Chip.follow_mem, Chip.eraseReadTimeout, if_pos ⟨hstate, hok⟩, hxfer]
    exact congrArg Chip.mem (if_pos hwaits)
  case busy =>
    refine Gives.run (exec_eraseReadTimeout s) hawake ?_
    rw [Chip.follow_mem, Chip.eraseReadTimeout, if_pos ⟨hstate, hok⟩, hxfer]
    dsimp only
    rw [if_pos hcs]
    obtain ⟨hresult, hnor, hbuf, -, hfree⟩ := s.chip.endXfer_mem x 6
    exact ⟨hresult hinit, hnor, hbuf, hfree⟩
  case after =>
    refine Gives.run (exec_nvmSilent s) hawake ?_
    rw [Chip.follow_mem, Chip.rf, Chip.reg_of_regs (Chip.follow_regs _ _)]
    exact Chip.norSilent_after hno hstarted hknown hsilent
  case during =>
    refine Gives.run (exec_nvmSilent s) hawake ?_
    rw [Chip.follow_mem, Chip.follow_start, Chip.mode, Chip.follow_modes, Chip.norSilent, if_pos hstarting, if_neg (by rw [hnormal]; decide)]
    obtain ⟨hphase, hmode, -⟩ := (s.chip.upMem (fun m => { m with state := .silent })).startFail_failed 0x05
    rw [Chip.mem_of_hide (Chip.hide_startFail _ _ (ps := others .mem) (by decide)) (by decide), Chip.upMem_mem]
    exact ⟨rfl, hmode, hphase⟩

end Sys2Proof.Machine
end

section
/-! SUPPORT. Explicit transfers, KEEP chains, the port's sets and the start-up list (17 R756, R762-R766, R782, R789, R794). -/

namespace Sys2Proof.Machine

theorem exec_memXferGo (s : State) : exec .memXferGo s = s.runHost Chip.xferGo := rfl
theorem exec_xferDone (data : List Byte) (s : State) : exec (.xferDone data) s = s.run (fun c => c.xferDone data) := rfl
theorem exec_keepChainTimeout (s : State) : exec .keepChainTimeout s = s.run Chip.chainEnd := rfl
theorem exec_memCtlArm (s : State) : exec .memCtlArm s = s.runHost Chip.memCtlArm := rfl
theorem exec_memInitArm (s : State) : exec .memInitArm s = s.runHost Chip.memInitArm := rfl

/-! ### GO -/

theorem fld_lt (w : Word) (hi lo : Nat) : fld w hi lo < 2 ^ (hi - lo + 1) := Nat.mod_lt _ (Nat.two_pow_pos _)

theorem Chip.csClaimed_eq (c : Chip) {cs : Nat} (hlt : cs < 16) (h : ¬ (4 ≤ cs ∧ cs < 8)) :
    c.csClaimed cs = false ↔ 8 ≤ cs ∧ c.gpClaimed (cs - 8) = false := by
  unfold Chip.csClaimed
  by_cases hmcs : cs < 4
  · rw [decide_eq_true hmcs, Bool.true_or]
    exact ⟨fun h => absurd h (by decide), fun ⟨h, _⟩ => absurd h (by omega)⟩
  · rw [decide_eq_false hmcs, decide_eq_true (show 8 ≤ cs by omega), Bool.false_or, Bool.true_and]
    exact ⟨fun h => ⟨by omega, h⟩, fun h => h.2⟩

theorem Chip.rf_follow (c was : Chip) (a hi lo : Nat) : (c.follow was).rf a hi lo = c.rf a hi lo := rfl

/-- The check of GO with its conditions as the spec words them. -/
theorem Chip.goCheck_eq (c : Chip) (w : Word) (len : Nat) : c.goCheck w len =
    if (4 ≤ fld w 31 28 ∧ fld w 31 28 < 8) ∨ fld w 25 24 = 3 ∨ fld w 23 22 = 3 ∨ (fld w 25 24 ≠ 0 ∧ len % 4 ≠ 0) then 2
    else if fld w 31 28 = 0 ∧ (fld w 7 0 ∉ [0x03, 0x0B, 0x05, 0x9F, 0x5A] ∨ bit w 26 = false ∨ bit w 8 = false ∨ bit w 27 = true) then 3
    else if 8 ≤ fld w 31 28 ∧ c.gpClaimed (fld w 31 28 - 8) = false then 2
    else if c.xferLong w len = true then 4
    else if fld w 31 28 = 0 ∧ c.mem.state = .silent then 5
    else if c.mem.xfer.isSome = true ∨ c.therm.trip = true then 6
    else 0 := by
  unfold Chip.goCheck
  dsimp only
  by_cases h1 : (4 ≤ fld w 31 28 ∧ fld w 31 28 < 8) ∨ fld w 25 24 = 3 ∨ fld w 23 22 = 3 ∨ (fld w 25 24 ≠ 0 ∧ len % 4 ≠ 0)
  · rw [if_pos h1, if_pos h1]
  · have hcs := c.csClaimed_eq (fld_lt w 31 28) (fun h => h1 (.inl h))
    have hcmd : [0x03, 0x0B, 0x05, 0x9F, 0x5A].contains (fld w 7 0) = false ↔ fld w 7 0 ∉ [0x03, 0x0B, 0x05, 0x9F, 0x5A] := by
      rw [← Bool.not_eq_true, List.contains_iff_mem]
    rw [if_neg h1, if_neg h1]
    simp only [hcs, hcmd]

/-! ### The end of a transfer -/

theorem rxBytes_length (len : Nat) (data : List Byte) : (rxBytes len data).length = (len + 7) / 8 := by
  rw [rxBytes, List.length_map, List.length_range]

/-- A whole byte received stands in the buffer; what lies beyond the transfer stays. -/
theorem rxBytes_stored (buf : List Host.Cell) (len : Nat) (data : List Byte) (i : Nat) :
    (8 * i + 8 ≤ len → mget 0 (memWrite 0 buf 0 (rxBytes len data)) i = data.getD i 0) ∧
      (len ≤ 8 * i → mget 0 (memWrite 0 buf 0 (rxBytes len data)) i = mget 0 buf i) := by
  rw [mget_memWrite, rxBytes_length]
  refine ⟨fun h => ?_, fun h => if_neg (by omega)⟩
  have hi : i < (rxBytes len data).length := by rw [rxBytes_length]; omega
  rw [if_pos (by omega), Nat.sub_zero, List.getD_eq_getElem _ _ hi]
  simp only [rxBytes, List.getElem_map, List.getElem_range]
  exact if_neg (by omega)

/-- What a transfer received stands in the buffer. -/
def Chip.received (c : Chip) (x : Transfer2) (data : List Byte) : Chip :=
  if x.rx then c.upMem (fun m => { m with buf := memWrite 0 m.buf 0 (rxBytes x.len data) }) else c

section
variable (c : Chip) (x : Transfer2) (data : List Byte)

theorem Chip.received_mem :
    (c.received x data).mem = { c.mem with buf := if x.rx then memWrite 0 c.mem.buf 0 (rxBytes x.len data) else c.mem.buf } := by
  unfold Chip.received
  split <;> rfl

theorem Chip.received_run : (c.received x data).run = c.run := by
  unfold Chip.received
  split <;> rfl

theorem Chip.received_rings : (c.received x data).rings = c.rings := by
  unfold Chip.received
  split <;> rfl

end

theorem Chip.xferDone_ends {c : Chip} {x : Transfer2} (hx : c.mem.xfer = some x)
    (h : x.cs = 0 → c.mem.state = .erasing → c.mem.par.suspendOk = true) (data : List Byte) :
    c.xferDone data = (c.received x data).endXfer x 0 := by
  unfold Chip.xferDone
  rw [hx]
  refine if_neg ?_
  rintro ⟨hcs, hstate, hno⟩
  rw [h hcs hstate] at hno
  cases hno

theorem Chip.endXfer_rings {c : Chip} (h : c.runB 0x3E00 16 = false) (x : Transfer2) (res : Nat) : (c.endXfer x res).rings = c.rings := by
  unfold Chip.endXfer
  extract_lets c1
  have hquiet : c1.xferEvent res = c1 := if_neg (show ¬ c1.runB 0x3E00 16 = true by rw [show c1.runB 0x3E00 16 = false from h]; decide)
  rw [Chip.rings_of_hide (Chip.hide_busFree _ (ps := others .rings) (by decide)) (by decide), hquiet]
  rfl

/-- A GO that its check refuses shows the result alone. -/
theorem Chip.xferGo_refused {c : Chip} (h : c.goCheck (c.reg 0x3E18) (c.rf 0x3E1A 15 0) ≠ 0) :
    c.xferGo.mem = { c.mem with result := c.goCheck (c.reg 0x3E18) (c.rf 0x3E1A 15 0) } := by
  unfold Chip.xferGo
  dsimp only
  rw [if_pos h]
  rfl

theorem Chip.xferGo_vioLost {c : Chip} (h : c.goCheck (c.reg 0x3E18) (c.rf 0x3E1A 15 0) = 0) (hvio : c.lands.vioGood = false) :
    c.xferGo.mem = { c.mem with result := 8 } ∧ c.xferGo.rf 0x3E02 3 3 = 1 := by
  unfold Chip.xferGo
  dsimp only
  rw [if_neg (not_not.mpr h), if_pos (by rw [hvio]; decide)]
  exact ⟨rfl, rf_setBits_bit _ 0x3E02 3 (by decide)⟩

theorem Chip.xferGo_begins {c : Chip} (h : c.goCheck (c.reg 0x3E18) (c.rf 0x3E1A 15 0) = 0) (hvio : c.lands.vioGood = true) :
    c.xferGo.mem.xfer = some { cs := fld (c.reg 0x3E18) 31 28, keep := bit (c.reg 0x3E18) 27, rx := bit (c.reg 0x3E18) 26, len := c.rf 0x3E1A 15 0,
                               cmd := fld (c.reg 0x3E18) 7 0 } ∧ c.xferGo.mem.result = 1 ∧
      c.xferGo.mem.nor = c.mem.nor ∧ c.xferGo.mem.buf = c.mem.buf ∧ c.xferGo.regs = c.regs := by
  unfold Chip.xferGo
  dsimp only
  rw [if_neg (not_not.mpr h), if_neg (by rw [hvio]; decide)]
  exact ⟨rfl, rfl, rfl, rfl, rfl⟩

/-! ### The port's sets -/

/-- An applied set of consecutive words is what the registers held. -/
theorem Chip.applyWords_shadow_runW (c : Chip) (a n : Nat) {i : Nat} (hi : i < n) : (c.applyWords (c.shadow a n)).runW (a + i) = c.reg (a + i) := by
  induction n with
  | zero => omega
  | succ n ih =>
    have hlast : c.shadow a (n + 1) = c.shadow a n ++ [(a + n, c.reg (a + n))] := by
      unfold Chip.shadow
      rw [List.range_succ, List.map_append, List.map_singleton]
    have hset : c.applyWords (c.shadow a (n + 1)) = (c.applyWords (c.shadow a n)).setRun (a + n) (c.reg (a + n)) := by
      rw [hlast, Chip.applyWords, List.foldl_append]
      rfl
    rw [hset]
    change mget 0 (mset 0 (c.applyWords (c.shadow a n)).run (a + n) (c.reg (a + n))) (a + i) = _
    rw [mget_mset]
    by_cases heq : a + i = a + n
    · rw [if_pos heq, heq]
    · rw [if_neg heq]
      exact ih (by omega)

theorem Chip.csBusy_congr {c d : Chip} (hrun : d.run = c.run) (hmem : d.mem = c.mem) (ws : List (Nat × Word)) : d.csBusy ws = c.csBusy ws := by
  unfold Chip.csBusy Chip.runB Chip.runW
  rw [hrun, hmem]

/-- The result of MEM_CTL.ARM. -/
def Chip.memCtlCheck (c : Chip) : Nat :=
  if divBad (c.reg 0x3E08) 16 || [0x3E0A, 0x3E0C, 0x3E0E, 0x3E10].any (fun a => divBad (c.reg a) 254) then 6
  else if c.rf 0x3E12 1 0 = 3 then 2 else 0

theorem Chip.memCtlArm_eq (c : Chip) : c.memCtlArm =
    (let c1 := c.armShown 0x3E00 0x3E00 3 0 c.memCtlCheck
     let ws := c1.shadow 0x3E00 1 ++ c1.shadow 0x3E08 11
     if c.memCtlCheck ≠ 0 then c1
     else if c1.csBusy ws then c1.holdSet 0x3E00 ws
     else (c1.dropArmed 0x3E00).applyWords ws) := rfl

/-- MEM_CTL.ARM shows its result; an accepted set waits for its chip select or applies. -/
theorem Chip.memCtlArm_sets (c : Chip) {ws : List (Nat × Word)} {res : Nat}
    (hws : ws = [(0x3E00, putFld (c.reg 0x3E00) 3 0 0)] ++ c.shadow 0x3E08 11) (hres : res = c.memCtlCheck) :
    (res ≠ 0 → c.memCtlArm.rf 0x3E00 3 0 = res ∧ c.memCtlArm.run = c.run ∧ c.memCtlArm.girth.armed = c.girth.armed ∧ c.memCtlArm.mem = c.mem) ∧
    (res = 0 → c.csBusy ws = true → c.memCtlArm.rf 0x3E00 3 0 = 0 ∧ c.memCtlArm.run = c.run ∧
      c.memCtlArm.armedSet 0x3E00 = some { arm := 0x3E00, words := ws }) ∧
    (res = 0 → c.csBusy ws = false → c.memCtlArm.rf 0x3E00 3 0 = 0 ∧ c.memCtlArm.run = (c.applyWords ws).run) := by
  have hsize : c.memCtlCheck < 2 ^ (3 - 0 + 1) := by
    unfold Chip.memCtlCheck
    split_ifs <;> decide
  have hshown := c.armShown_rf (arm := 0x3E00) (a := 0x3E00) (hi := 3) (lo := 0) (by decide) (by decide) hsize
  have hrun := c.armShown_run 0x3E00 0x3E00 3 0 c.memCtlCheck
  have hgirth := c.armShown_girth 0x3E00 0x3E00 3 0 c.memCtlCheck
  have hmem : (c.armShown 0x3E00 0x3E00 3 0 c.memCtlCheck).mem = c.mem := (Chip.setFld_mem _ _ _ _ _).trans (Chip.armLast_mem _ _ _)
  have hword : (c.armShown 0x3E00 0x3E00 3 0 c.memCtlCheck).reg 0x3E00 = putFld (c.reg 0x3E00) 3 0 c.memCtlCheck := by
    rw [Chip.armShown, Chip.reg_setFld, if_pos rfl, Chip.reg_armLast, if_neg (by decide)]
  have hset (hzero : c.memCtlCheck = 0) : (c.armShown 0x3E00 0x3E00 3 0 c.memCtlCheck).shadow 0x3E00 1 ++
      (c.armShown 0x3E00 0x3E00 3 0 c.memCtlCheck).shadow 0x3E08 11 = ws := by
    rw [hws, Chip.shadow_armShown (base := 0x3E08) (.inl (by decide)) (by decide), show (c.armShown 0x3E00 0x3E00 3 0 c.memCtlCheck).shadow 0x3E00 1 =
      [(0x3E00, (c.armShown 0x3E00 0x3E00 3 0 c.memCtlCheck).reg 0x3E00)] from rfl, hword, hzero]
  rw [Chip.memCtlArm_eq]
  dsimp only
  subst hres
  generalize c.armShown 0x3E00 0x3E00 3 0 c.memCtlCheck = d at *
  refine ⟨fun hne => ?_, fun hzero hbusy => ?_, fun hzero hquiet => ?_⟩
  · rw [if_pos hne, hrun, hgirth, hmem]
    exact ⟨hshown, rfl, rfl, rfl⟩
  · rw [if_neg (not_not.mpr hzero), hset hzero, if_pos ((Chip.csBusy_congr hrun hmem ws).trans hbusy)]
    exact ⟨hshown.trans hzero, (Chip.holdSet_run _ _ _).trans hrun, armedSet_holdSet _ _ _⟩
  · rw [if_neg (not_not.mpr hzero), hset hzero, if_neg (by rw [Chip.csBusy_congr hrun hmem ws, hquiet]; decide)]
    exact ⟨(congrArg (fun w => fld w 3 0) (Chip.applyWords_reg _ _ _)).trans (hshown.trans hzero),
      applyWords_run _ _ _ ((Chip.dropArmed_run _ _).trans hrun)⟩

/-! ### The start-up list -/

theorem Chip.memInitArm_refused {c : Chip} (h : c.initEntries.any c.initBad = true) :
    c.memInitArm.rf 0x3E50 3 0 = 2 ∧ c.memInitArm.run = c.run ∧ c.memInitArm.mem = c.mem := by
  have hshows : c.memInitArm = c.armShown 0x3E50 0x3E50 3 0 2 := by
    unfold Chip.memInitArm
    rw [if_pos h]
    rfl
  rw [hshows]
  exact ⟨c.armShown_rf (by decide) (by decide) (by decide), c.armShown_run _ _ _ _ _, (Chip.setFld_mem _ _ _ _ _).trans (Chip.armLast_mem _ _ _)⟩

/-- The block that has accepted a start-up list. -/
def Chip.initTaken (c : Chip) : Chip :=
  (((c.armShown 0x3E50 0x3E50 3 0 0).applyWords (c.shadow 0x3E40 16))).upMem (fun m => { m with initLeft := if c.therm.trip then [] else c.initEntries })

theorem Chip.memInitArm_accepted {c : Chip} (h : c.initEntries.any c.initBad = false) : c.memInitArm = c.initTaken.nextInit := by
  unfold Chip.memInitArm Chip.initTaken
  extract_lets res c1
  have hres : res = 0 := if_neg (by rw [h]; decide)
  have hshown : c1 = c.armShown 0x3E50 0x3E50 3 0 0 := congrArg (c.armShown 0x3E50 0x3E50 3 0) hres
  rw [if_pos hres, hshown, ← Chip.shadow_armShown (c := c) (arm := 0x3E50) (a := 0x3E50) (hi := 3) (lo := 0) (res := 0) (base := 0x3E40) (n := 16)
    (.inr (by decide)) (by decide)]

/-- What an accepted list leaves before its first entry runs. -/
theorem Chip.initTaken_parts (c : Chip) : c.initTaken.run = (c.applyWords (c.shadow 0x3E40 16)).run ∧
    c.initTaken.mem = { c.mem with initLeft := if c.therm.trip then [] else c.initEntries } ∧ c.initTaken.therm = c.therm ∧
    c.initTaken.lands = c.lands := by
  have happly := Chip.hide_applyWords (c.armShown 0x3E50 0x3E50 3 0 0) (c.shadow 0x3E40 16) (ps := [.run]) (by decide)
  have hshown : (c.armShown 0x3E50 0x3E50 3 0 0).hide [.regs] = c.hide [.regs] := (Chip.hide_setFld _ _ _ _ _ (by decide)).trans (Chip.hide_armLast _ _ _ (by decide))
  unfold Chip.initTaken
  rw [Chip.upMem_run, Chip.upMem_mem, Chip.upMem_therm, Chip.upMem_lands, Chip.mem_of_hide happly (by decide), Chip.therm_of_hide happly (by decide),
    Chip.lands_of_hide happly (by decide), Chip.mem_of_hide hshown (by decide), Chip.therm_of_hide hshown (by decide),
    Chip.lands_of_hide hshown (by decide), applyWords_run _ _ _ (c.armShown_run _ _ _ _ _)]
  exact ⟨rfl, rfl, rfl, rfl⟩

theorem Chip.initTaken_busTaken (c : Chip) : c.initTaken.busTaken = c.busTaken := by
  obtain ⟨-, hmem, -⟩ := c.initTaken_parts
  unfold Chip.busTaken
  rw [hmem]

/-- Where nothing may run now, the list waits. -/
theorem Chip.memInitArm_waits {c : Chip} (h : c.initEntries.any c.initBad = false)
    (hwait : c.busTaken = true ∨ c.therm.trip = true ∨ c.lands.vioGood = false) :
    c.memInitArm.run = (c.applyWords (c.shadow 0x3E40 16)).run ∧
      c.memInitArm.mem = { c.mem with initLeft := if c.therm.trip then [] else c.initEntries } := by
  obtain ⟨hrun, hmem, htherm, hlands⟩ := c.initTaken_parts
  have hstays : c.initTaken.nextInit = c.initTaken := by
    unfold Chip.nextInit
    rw [c.initTaken_busTaken, htherm, hlands, if_pos]
    rcases hwait with h | h | h <;> simp [h]
  rw [Chip.memInitArm_accepted h, hstays]
  exact ⟨hrun, hmem⟩

/-- The first entry of an accepted list runs at once on a free bus. -/
theorem Chip.memInitArm_runs {c : Chip} (h : c.initEntries.any c.initBad = false) (hfree : c.busTaken = false) (htrip : c.therm.trip = false)
    (hvio : c.lands.vioGood = true) {i : Nat} {rest : List Nat} (hentries : c.initEntries = i :: rest) :
    c.memInitArm.mem.initLeft = rest ∧ c.memInitArm.mem.xfer =
        some { cs := c.rf (0x3E40 + i) 31 28, keep := false, rx := false, len := 8 * c.rf (0x3E40 + i) 27 26, cmd := 0, init := some i } ∧
      c.memInitArm.mem.nor = c.mem.nor ∧ c.memInitArm.mem.buf = c.mem.buf := by
  obtain ⟨hrun, hmem, htherm, hlands⟩ := c.initTaken_parts
  have hleft : c.initTaken.mem.initLeft = i :: rest := by
    rw [hmem]
    dsimp only
    rw [htrip, if_neg (by decide), hentries]
  have hi : i < 16 := by
    have hin : i ∈ c.initEntries := by rw [hentries]; exact List.mem_cons_self
    exact List.mem_range.mp ((List.takeWhile_subset _) hin)
  have hword : c.initTaken.runW (0x3E40 + i) = c.reg (0x3E40 + i) := by
    rw [← c.applyWords_shadow_runW 0x3E40 16 hi]
    exact congrArg (fun r => mget 0 r (0x3E40 + i)) hrun
  have hnor : c.initTaken.mem.nor = c.mem.nor ∧ c.initTaken.mem.buf = c.mem.buf := by
    rw [hmem]
    exact ⟨rfl, rfl⟩
  rw [Chip.memInitArm_accepted h, Chip.nextInit, c.initTaken_busTaken, htherm, hlands, hfree, htrip, hvio, if_neg (by decide), hleft]
  dsimp only
  rw [hword]
  exact ⟨rfl, rfl, hnor.1, hnor.2⟩

/-- Settles O51: by the check of GO, the end of a transfer, and the moments of the port's sets. -/
theorem memoryTransfersFollowTheirChecks : Obligations.MemoryTransfersFollowTheirChecks := by
  refine ⟨fun s w len cs hawake hopen hw hlen hcs => ?go, fun s data x hawake hx => ⟨fun hcs hstate hno => ?notRun, fun hrun => ?ends⟩,
    fun s hawake => ⟨fun hnone => ?noChain, fun cs hchain hother => ?chainEnds, fun x hchain hx => ?chainRuns⟩,
    fun s ws res hawake hopen hres hws => ?ctl, fun s hawake hopen => ?init⟩
  case go =>
    subst hw hlen hcs
    refine Gives.host (exec_memXferGo s) hawake hopen ?_
    rw [Chip.follow_mem, Chip.rf_follow, Chip.follow_regs]
    have hcheck := s.chip.goCheck_eq (s.chip.reg 0x3E18) (s.chip.rf 0x3E1A 15 0)
    have hrefused (r : Nat) (hr : s.chip.goCheck (s.chip.reg 0x3E18) (s.chip.rf 0x3E1A 15 0) = r) (hne : r ≠ 0) :
        s.chip.xferGo.mem = { s.chip.mem with result := r } := by
      subst hr
      exact Chip.xferGo_refused hne
    split_ifs with h1 h2 h3 h4 h5 h6 h7
    · exact hrefused 2 (by rw [hcheck, if_pos h1]) (by decide)
    · exact hrefused 3 (by rw [hcheck, if_neg h1, if_pos h2]) (by decide)
    · exact hrefused 2 (by rw [hcheck, if_neg h1, if_neg h2, if_pos h3]) (by decide)
    · exact hrefused 4 (by rw [hcheck, if_neg h1, if_neg h2, if_neg h3, if_pos h4]) (by decide)
    · exact hrefused 5 (by rw [hcheck, if_neg h1, if_neg h2, if_neg h3, if_neg h4, if_pos h5]) (by decide)
    · exact hrefused 6 (by rw [hcheck, if_neg h1, if_neg h2, if_neg h3, if_neg h4, if_neg h5, if_pos h6]) (by decide)
    · exact Chip.xferGo_vioLost (by rw [hcheck, if_neg h1, if_neg h2, if_neg h3, if_neg h4, if_neg h5, if_neg h6]) h7
    · exact Chip.xferGo_begins (by rw [hcheck, if_neg h1, if_neg h2, if_neg h3, if_neg h4, if_neg h5, if_neg h6]) (Bool.eq_true_of_not_eq_false h7)
  case notRun =>
    refine Gives.run (exec_xferDone data s) hawake ?_
    rw [Chip.follow_mem, Chip.xferDone, hx]
    exact congrArg Chip.mem (if_pos ⟨hcs, hstate, hno⟩)
  case ends =>
    refine Gives.run (exec_xferDone data s) hawake ?_
    rw [Chip.follow_mem, Chip.follow_rings, Chip.xferDone_ends hx hrun]
    obtain ⟨hresult, hnor, hbuf, hchain, hfree⟩ := (s.chip.received x data).endXfer_mem x 0
    have hquiet (hoff : s.chip.runB 0x3E00 16 = false) := Chip.endXfer_rings (c := s.chip.received x data)
      ((congrArg (fun r => bit (mget 0 r 0x3E00) 16) (s.chip.received_run x data)).trans hoff) x 0
    rw [hnor, hbuf, hchain, s.chip.received_mem]
    rw [s.chip.received_mem] at hfree
    refine ⟨hresult, rfl, fun hkeep => if_pos hkeep, fun hkeep hsame => ?_, fun hkeep hne => ?_, fun hrx => ?_, fun hrx => ?_, hfree,
      fun hoff => (hquiet hoff).trans (s.chip.received_rings x data)⟩
    · rw [if_neg (by rw [hkeep]; decide)]
      exact if_pos hsame
    · rw [if_neg (by rw [hkeep]; decide)]
      exact if_neg hne
    · exact if_neg (by rw [hrx]; decide)
    · dsimp only
      rw [if_pos hrx]
      exact rxBytes_stored s.chip.mem.buf x.len data
  case noChain =>
    refine Gives.run (exec_keepChainTimeout s) hawake ?_
    rw [Chip.follow_mem, Chip.chainEnd, hnone]
  case chainEnds =>
    refine Gives.run (exec_keepChainTimeout s) hawake ?_
    have hfree : ¬ s.chip.mem.xfer.any (fun x => x.cs == cs) = true := by
      cases hx : s.chip.mem.xfer with
      | none => exact Bool.false_ne_true
      | some x => exact fun h => hother x hx (beq_iff_eq.mp h)
    rw [Chip.follow_mem, Chip.chainEnd, hchain]
    dsimp only
    rw [if_neg hfree]
    obtain ⟨hnor, hbuf, hresult, hnone, -⟩ := MemPort.still_fields (s.chip.upMem (fun m => { m with chain := none, result := 7 })).busFree_still
    exact ⟨hnone, hresult, hnor, hbuf⟩
  case chainRuns =>
    refine Gives.run (exec_keepChainTimeout s) hawake ?_
    rw [Chip.follow_mem, Chip.chainEnd, hchain]
    dsimp only
    rw [if_pos (by rw [hx]; exact beq_iff_eq.mpr rfl)]
  case ctl =>
    obtain ⟨hrefused, hwaits, happlies⟩ := s.chip.memCtlArm_sets hws hres
    refine ⟨fun hne => Gives.host (exec_memCtlArm s) hawake hopen ?_, fun hzero hbusy => Gives.host (exec_memCtlArm s) hawake hopen ?_,
      fun hzero hquiet => Gives.host (exec_memCtlArm s) hawake hopen ?_⟩
    · rw [Chip.rf_follow, Chip.follow_run, Chip.follow_girth_armed, Chip.follow_mem]
      exact hrefused hne
    · rw [Chip.rf_follow, Chip.follow_run, Chip.armedSet_follow]
      exact hwaits hzero hbusy
    · rw [Chip.rf_follow, Chip.follow_run]
      exact happlies hzero hquiet
  case init =>
    refine ⟨fun hbad => Gives.host (exec_memInitArm s) hawake hopen ?_, fun hok => ⟨fun htrip => Gives.host (exec_memInitArm s) hawake hopen ?_,
      fun htrip hwait => Gives.host (exec_memInitArm s) hawake hopen ?_,
      fun i rest htrip hfree hvio hentries => Gives.host (exec_memInitArm s) hawake hopen ?_⟩⟩
    · rw [Chip.rf_follow, Chip.follow_run, Chip.follow_mem]
      exact Chip.memInitArm_refused hbad
    · obtain ⟨hrun, hmem⟩ := Chip.memInitArm_waits hok (.inr (.inl htrip))
      rw [Chip.follow_run, Chip.follow_mem, hmem, if_pos htrip]
      exact ⟨hrun, rfl⟩
    · obtain ⟨hrun, hmem⟩ := Chip.memInitArm_waits hok (hwait.imp id .inr)
      rw [Chip.follow_run, Chip.follow_mem, hmem, if_neg (by rw [htrip]; decide)]
      exact ⟨hrun, rfl⟩
    · rw [Chip.follow_mem]
      exact Chip.memInitArm_runs hok hfree htrip hvio hentries

end Sys2Proof.Machine
end

section
/-! SUPPORT. The update engine: ring-6 entries and chunks (18 R801-R809, R815, R835, R836, R839). -/

namespace Sys2Proof.Machine

theorem exec_begin (s : State) : exec .begin s = s.run (fun c => c.updRow (some 1) Chip.updBegin) := rfl
theorem exec_data (s : State) : exec .data s = s.run (fun c => c.updRow (some 2) Chip.updDataEntry) := rfl
theorem exec_activate (s : State) : exec .activate s = s.run (fun c => c.updRow (some 3) Chip.updActivate) := rfl
theorem exec_abort (s : State) : exec .abort s = s.run (fun c => c.updRow (some 4) Chip.updAbort) := rfl
theorem exec_revert (s : State) : exec .revert s = s.run (fun c => c.updRow (some 5) Chip.updRevert) := rfl
theorem exec_updateEntryInvalid (s : State) : exec .updateEntryInvalid s = s.run (fun c => c.updRow none (fun c _ => c.updErr 1)) := rfl
theorem exec_chunkWrite (intact : Bool) (s : State) : exec (.chunkWrite intact) s = s.run (fun c => c.chunkWrite intact) := rfl
theorem exec_chunkCommit (s : State) : exec .chunkCommit s = s.run Chip.chunkCommit := rfl

/-! ### Commits of the update-state record (R800, R835) -/

/-- What a commit of the record speaks of, and no more: the record, MRAM and the supervisor. -/
theorem RecordIs.congr {c t u : Chip} {r : UpdRec} (h : RecordIs c r t) (hupd : u.upd.record = t.upd.record ∧ u.upd.present = t.upd.present)
    (hmram : u.mram = t.mram) (htherm : u.therm = t.therm) : RecordIs c r u := by
  unfold RecordIs at h ⊢
  rw [hupd.1, hupd.2, hmram, htherm]
  exact h

/-- The record changes by its commit, made or held as the supervisor says. -/
theorem Chip.recordIs_commitUpd {c d : Chip} (hmram : d.mram = c.mram) (htherm : d.therm = c.therm) (r : UpdRec) : RecordIs c r (d.commitUpd r) := by
  unfold RecordIs Chip.commitUpd Chip.atWarning
  rw [htherm]
  cases hwarn : c.therm.warning || c.therm.trip
  · rw [if_neg Bool.false_ne_true]
    refine ⟨rfl, rfl, fun _ => ⟨?_, ?_⟩, fun h => absurd h Bool.false_ne_true⟩
    · rw [← hmram]; rfl
    · show d.therm.warning = false
      rw [htherm]
      exact (Bool.or_eq_false_iff.mp hwarn).1
  · rw [if_pos rfl]
    have hreq : (d.upUpd (fun u => { u with record := r, present := true })).requestCommit 2 1 r.body =
        { d.upUpd (fun u => { u with record := r, present := true }) with
          therm := { d.therm with held := d.therm.held.filter (fun h => h.1 != 2) ++ [(2, 1, r.body)] } } := by
      unfold Chip.requestCommit
      rw [Chip.upUpd_therm, htherm, if_pos hwarn]
    rw [hreq]
    exact ⟨rfl, rfl, (fun h => by cases h), fun _ => ⟨List.mem_append_right _ (List.mem_singleton_self _), hmram⟩⟩

theorem Chip.commitUpd_rings (c : Chip) (r : UpdRec) : (c.commitUpd r).rings = c.rings :=
  Chip.rings_of_hide (Chip.hide_commitUpd c r (ps := others .rings) (by decide)) (by decide)

theorem Chip.commitUpd_start (c : Chip) (r : UpdRec) : (c.commitUpd r).start = c.start :=
  Chip.start_of_hide (Chip.hide_commitUpd c r (ps := others .start) (by decide)) (by decide)

theorem Chip.commitUpd_mem (c : Chip) (r : UpdRec) : (c.commitUpd r).mem = c.mem :=
  Chip.mem_of_hide (Chip.hide_commitUpd c r (ps := others .mem) (by decide)) (by decide)

/-- The commit touches the record and its presence, and nothing else of the engine. -/
theorem Chip.commitUpd_upd (c : Chip) (r : UpdRec) : (c.commitUpd r).upd = { c.upd with record := r, present := true } := by
  unfold Chip.commitUpd Chip.requestCommit
  split
  · split <;> rfl
  · rfl

theorem Chip.commitUpd_warning (c : Chip) (r : UpdRec) : (c.commitUpd r).atWarning = c.atWarning := by
  unfold Chip.commitUpd Chip.requestCommit Chip.atWarning
  split
  · split <;> rfl
  · rfl

theorem Chip.updErr_six (c : Chip) : c.updErr 6 = c.upUpd (fun u => { u with record := { u.record with lastErr := 6 } }) := if_pos rfl

theorem Chip.updErr_eq (c : Chip) {e : Nat} (h : e ≠ 6) : c.updErr e = c.commitUpd { c.upd.record with lastErr := e } := if_neg h

theorem Chip.updErr_rings (c : Chip) (e : Nat) : (c.updErr e).rings = c.rings := by
  unfold Chip.updErr Chip.upRec
  split
  · rfl
  · exact Chip.commitUpd_rings _ _

/-- A stage event fills ring 0 and nothing else. -/
theorem Chip.noRings_updEvent (c : Chip) (code slot : Nat) : (c.updEvent code slot).noRings = c.noRings := Chip.noRings_produce _ _ _ _

theorem Chip.updEvent_ring (c : Chip) (code slot : Nat) {n : Nat} (h : n ≠ 0) : (c.updEvent code slot).ring n = c.ring n :=
  Chip.produce_ring_ne _ _ _ _ _ h (Ne.symm h)

theorem RecordIs.updEvent {c d : Chip} {r : UpdRec} (h : RecordIs c r d) (code slot : Nat) : RecordIs c r (d.updEvent code slot) :=
  have hsame := Chip.noRings_updEvent d code slot
  have hupd := Chip.noRings_upd hsame
  h.congr (by rw [hupd]; exact ⟨rfl, rfl⟩) (Chip.noRings_mram hsame) (Chip.noRings_therm hsame)

/-! ### Ring-6 entries (R801) -/

/-- The engine consumes the entry of its kind and acts. -/
theorem Gives.updEntry {i : Instr} {s : State} {e : Entry} {kind : Option Nat} {act : Chip → Entry → Chip} {P : Chip → Prop}
    (hexec : exec i s = s.run (fun c => c.updRow kind act)) (h : UpdEntry s.chip e) (hkind : updKind e = kind)
    (hP : P ((act (s.chip.consume 6 1) e).follow s.chip)) : Gives i s P := by
  obtain ⟨hawake, hstarted, hmode, hfill, he⟩ := h
  refine Gives.run hexec hawake ?_
  have hhead : s.chip.updHead = some e := by
    unfold Chip.updHead Chip.updRuns
    rw [hstarted, decide_eq_true hmode, decide_eq_true hfill, he]
    rfl
  rw [Chip.updRow, hhead]
  dsimp only
  rwa [if_pos hkind]

/-- An act that leaves ring 6 alone has taken its entry and no more. -/
theorem taken6_of_ring {c d w : Chip} (hfill : (c.ring 6).fill ≠ 0) (h : d.ring 6 = (c.consume 6 1).ring 6) : Taken6 c (d.follow w) := by
  have hlt := c.ring_lt 6 (fun hnone => hfill (by rw [hnone]; rfl))
  unfold Taken6
  rw [Chip.ring_follow, h, Chip.ring_consume _ _ _ hlt]
  exact ⟨rfl, rfl⟩

/-- A kind other than DATA has no further fields to check. -/
theorem updKind_plain {e : Entry} {k : Nat} (h : fld (ew e 0) 31 24 = k) (hk : k = 1 ∨ k = 3 ∨ k = 4 ∨ k = 5) : updKind e = some k := by
  unfold updKind
  rw [h]
  exact (if_neg (by omega)).trans (if_pos hk)

theorem updKind_data {e : Entry} (h : fld (ew e 0) 31 24 = 2) : updKind e =
    if fld (ew e 0) 23 16 % 4 = 0 ∧ 4 ≤ fld (ew e 0) 23 16 ∧ fld (ew e 0) 23 16 ≤ 24 ∧ fld (ew e 1) 15 0 % 4 = 0 then some 2 else none := by
  unfold updKind
  exact if_pos h

/-- An unknown kind, or DATA with a field out of range. -/
theorem updKind_invalid {e : Entry} (h : fld (ew e 0) 31 24 = 0 ∨ 5 < fld (ew e 0) 31 24 ∨ (fld (ew e 0) 31 24 = 2 ∧
    (fld (ew e 0) 23 16 % 4 ≠ 0 ∨ fld (ew e 0) 23 16 < 4 ∨ 24 < fld (ew e 0) 23 16 ∨ fld (ew e 1) 15 0 % 4 ≠ 0))) : updKind e = none := by
  by_cases hdata : fld (ew e 0) 31 24 = 2
  · rw [updKind_data hdata]
    exact if_neg (by omega)
  · unfold updKind
    exact (if_neg hdata).trans (if_neg (by omega))

theorem Chip.updBegin_ring (c : Chip) (e : Entry) : (c.updBegin e).rings = c.rings := by
  unfold Chip.updBegin Chip.upRec
  dsimp only
  split
  · exact Chip.updErr_rings _ _
  · split
    · exact Chip.updErr_rings _ _
    · split
      · exact Chip.updErr_rings _ _
      · split
        · rfl
        · exact Chip.commitUpd_rings _ _

/-- BEGIN (R802, R836). -/
theorem Chip.updBegin_begins (c : Chip) (e : Entry) :
    if c.mem.state = .silent then (c.updBegin e).upd = { c.upd with record := { c.upd.record with lastErr := 6 } } ∧ (c.updBegin e).mram = c.mram
    else if c.upd.record.state = 3 ∨ c.upd.record.state = 5 then RecordIs c { c.upd.record with lastErr := 2 } (c.updBegin e)
    else if (ew e 1).toNat % 4 ≠ 0 ∨ (ew e 1).toNat < 352 ∨ 2097152 < (ew e 1).toNat then RecordIs c { c.upd.record with lastErr := 1 } (c.updBegin e)
    else if c.upd.record.state ≠ 0 ∧ bit (ew e 0) 0 = false ∧ (ew e 1).toNat = c.upd.record.total ∧ (ew e 2).toNat = c.upd.record.version then
      (c.updBegin e).upd = c.upd
    else RecordIs c { c.upd.record with state := 1, target := 1 - c.start.slot, total := (ew e 1).toNat, version := (ew e 2).toNat, bitmap := 0 }
      (c.updBegin e) ∧ (c.updBegin e).upd.staging = [] := by
  unfold Chip.updBegin
  dsimp only
  split
  · rw [Chip.updErr_six]
    exact ⟨rfl, rfl⟩
  · split
    · rw [Chip.updErr_eq _ (by decide)]
      exact Chip.recordIs_commitUpd rfl rfl _
    · split
      · rw [Chip.updErr_eq _ (by decide)]
        exact Chip.recordIs_commitUpd rfl rfl _
      · split
        · rfl
        · refine ⟨Chip.recordIs_commitUpd rfl rfl _, ?_⟩
          rw [Chip.upRec, Chip.commitUpd_upd]
          rfl

theorem Chip.updDataEntry_ring (c : Chip) (e : Entry) : (c.updDataEntry e).rings = c.rings := by
  unfold Chip.updDataEntry
  dsimp only
  split
  · exact Chip.updErr_rings _ _
  · split
    · exact Chip.updErr_rings _ _
    · split
      · exact Chip.updErr_rings _ _
      · split
        · rfl
        · split
          · rfl
          · split
            · rfl
            · exact Chip.updErr_rings _ _

/-- DATA (R803, R804, R836). -/
theorem Chip.updDataEntry_stores (c : Chip) (e : Entry) {chunk off : Nat} {bs : List Byte} (hchunk : chunk = fld (ew e 1) 31 16)
    (hoff : off = fld (ew e 1) 15 0) (hbs : bs = updData e) :
    if c.mem.state = .silent then
      (c.updDataEntry e).upd = { c.upd with record := { c.upd.record with lastErr := 6 } } ∧ (c.updDataEntry e).mram = c.mram
    else if c.upd.record.state ≠ 1 then RecordIs c { c.upd.record with lastErr := 2 } (c.updDataEntry e)
    else if c.upd.record.chunks ≤ chunk ∨ 4096 < off + bs.length ∨ c.upd.record.total < 4096 * chunk + off + bs.length then
      RecordIs c { c.upd.record with lastErr := 1 } (c.updDataEntry e)
    else if c.upd.record.bitmap.getLsbD chunk = true then (c.updDataEntry e).upd = { c.upd with dup := c.upd.dup + 1 }
    else if (∃ b ∈ c.upd.staging, b.chunk = chunk ∧ b.written = false) then (c.updDataEntry e).upd = { c.upd with
      staging := c.upd.staging.map (fun b => if b.chunk = chunk then b.add off bs else b) }
    else if c.upd.staging.length < 2 ∧ (∀ b ∈ c.upd.staging, b.chunk ≠ chunk) then (c.updDataEntry e).upd = { c.upd with
      staging := c.upd.staging ++ [({ chunk := chunk } : Staging).add off bs] }
    else (c.updDataEntry e).upd.dropped = c.upd.dropped + 1 ∧ (c.updDataEntry e).upd.staging = c.upd.staging ∧
      RecordIs c { c.upd.record with lastErr := 3 } (c.updDataEntry e) := by
  have hopen : c.upd.staging.any (fun b => b.chunk == chunk && !b.written) = true ↔ ∃ b ∈ c.upd.staging, b.chunk = chunk ∧ b.written = false := by
    simp only [List.any_eq_true, Bool.and_eq_true, beq_iff_eq, Bool.not_eq_true']
  have hnone : c.upd.staging.any (fun b => b.chunk == chunk) = false ↔ ∀ b ∈ c.upd.staging, b.chunk ≠ chunk := by
    simp only [List.any_eq_false, beq_iff_eq, ne_eq]
  have hact : c.updDataEntry e = _ := Chip.updDataEntry.eq_1 c e
  rw [← hchunk, ← hoff, ← hbs] at hact
  by_cases hsilent : c.mem.state = .silent
  · rw [if_pos hsilent] at hact ⊢
    rw [hact, Chip.updErr_six]
    exact ⟨rfl, rfl⟩
  rw [if_neg hsilent] at hact ⊢
  by_cases hstate : c.upd.record.state ≠ 1
  · rw [if_pos hstate] at hact ⊢
    rw [hact, Chip.updErr_eq _ (by decide)]
    exact Chip.recordIs_commitUpd rfl rfl _
  rw [if_neg hstate] at hact ⊢
  by_cases hrange : c.upd.record.chunks ≤ chunk ∨ 4096 < off + bs.length ∨ c.upd.record.total < 4096 * chunk + off + bs.length
  · rw [if_pos hrange] at hact ⊢
    rw [hact, Chip.updErr_eq _ (by decide)]
    exact Chip.recordIs_commitUpd rfl rfl _
  rw [if_neg hrange] at hact ⊢
  by_cases hdup : c.upd.record.bitmap.getLsbD chunk = true
  · rw [if_pos hdup] at hact ⊢
    rw [hact]
    rfl
  rw [if_neg hdup] at hact ⊢
  by_cases hbuf : ∃ b ∈ c.upd.staging, b.chunk = chunk ∧ b.written = false
  · rw [if_pos (hopen.mpr hbuf)] at hact
    rw [if_pos hbuf, hact]
    rfl
  rw [if_neg (fun h => hbuf (hopen.mp h))] at hact
  rw [if_neg hbuf]
  by_cases hroom : c.upd.staging.length < 2 ∧ ∀ b ∈ c.upd.staging, b.chunk ≠ chunk
  · rw [if_pos ⟨hroom.1, hnone.mpr hroom.2⟩] at hact
    rw [if_pos hroom, hact]
    rfl
  rw [if_neg (fun h => hroom ⟨h.1, hnone.mp h.2⟩), Chip.updErr_eq _ (by decide)] at hact
  rw [if_neg hroom, hact]
  refine ⟨?_, ?_, Chip.recordIs_commitUpd rfl rfl _⟩
  · rw [Chip.commitUpd_upd]; rfl
  · rw [Chip.commitUpd_upd]; rfl

/-! ### Activation, abort and reversion (R809, R815, R839) -/

/-- The record as an accepted ACTIVATE leaves it. -/
def UpdRec.activated (r : UpdRec) : UpdRec :=
  { r with boot := r.target, state := 5, trialStarts := 0, trialSec := 0, checks := 0, migBank := 0xFF, failedCheck := 0xFF }

theorem Chip.updActivate_refused {c : Chip} (hlive : c.mem.state ≠ .silent) (h : c.upd.record.state ≠ 4) (e : Entry) :
    c.updActivate e = c.commitUpd { c.upd.record with lastErr := 2 } := by
  unfold Chip.updActivate
  rw [if_neg hlive, if_pos h, Chip.updErr_eq _ (by decide)]

theorem Chip.updActivate_accepted {c : Chip} (hlive : c.mem.state ≠ .silent) (h : c.upd.record.state = 4) (e : Entry) :
    c.updActivate e = if bit (ew e 0) 0 then ((c.commitUpd c.upd.record.activated).updEvent 0x0604 c.upd.record.target).startAfter
      else (c.commitUpd c.upd.record.activated).updEvent 0x0604 c.upd.record.target := by
  unfold Chip.updActivate
  rw [if_neg hlive, if_neg (fun hne => hne h)]
  rfl

theorem Chip.startAfter_begins {c : Chip} (h : c.atWarning = false) : c.startAfter = c.beginStart 4 := by
  unfold Chip.atWarning at h
  unfold Chip.startAfter
  rw [h]
  exact if_neg Bool.false_ne_true

theorem Chip.startAfter_waits {c : Chip} (h : c.atWarning = true) : c.startAfter = c.upUpd (fun u => { u with after := 1 }) := if_pos h

theorem Chip.updEvent_warning (c : Chip) (code slot : Nat) : (c.updEvent code slot).atWarning = c.atWarning := by
  unfold Chip.atWarning
  rw [Chip.noRings_therm (Chip.noRings_updEvent c code slot)]

theorem Chip.updAbort_aborts {c : Chip} (h : c.upd.record.state = 1 ∨ c.upd.record.state = 2 ∨ c.upd.record.state = 4) (e : Entry) :
    RecordIs c { c.upd.record with state := 0, bitmap := 0 } (c.updAbort e) ∧ (c.updAbort e).upd.staging = [] := by
  have heq : c.updAbort e = (c.upUpd (fun u => { u with staging := [] })).commitUpd { c.upd.record with state := 0, bitmap := 0 } := if_pos h
  refine ⟨?_, ?_⟩
  · rw [heq]
    exact Chip.recordIs_commitUpd (Chip.upUpd_mram _ _) (Chip.upUpd_therm _ _) _
  · rw [heq, Chip.commitUpd_upd, Chip.upUpd_upd]

theorem Chip.updAbort_refused {c : Chip} (h1 : c.upd.record.state ≠ 1) (h2 : c.upd.record.state ≠ 2) (h4 : c.upd.record.state ≠ 4) (e : Entry) :
    c.updAbort e = c.commitUpd { c.upd.record with lastErr := 2 } :=
  (if_neg fun h => h.elim h1 (fun h => h.elim h2 h4)).trans (c.updErr_eq (by decide))

theorem Chip.updRevert_reverts {c : Chip} (h : c.upd.record.state = 5) (e : Entry) :
    c.updRevert e = (c.commitUpd { c.upd.record with trialStarts := 3 }).startAfter := if_pos h

theorem Chip.updRevert_refused {c : Chip} (h : c.upd.record.state ≠ 5) (e : Entry) :
    c.updRevert e = c.commitUpd { c.upd.record with lastErr := 2 } := (if_neg h).trans (c.updErr_eq (by decide))

theorem Chip.updAbort_ring (c : Chip) (e : Entry) : (c.updAbort e).rings = c.rings := by
  unfold Chip.updAbort Chip.upRec
  dsimp only
  split
  · exact Chip.commitUpd_rings _ _
  · exact Chip.updErr_rings _ _

/-! ### Chunks (R805-R807, R835) -/

theorem padTo_length {α : Type} (n : Nat) (d : α) (l : List α) : (padTo n d l).length = n := by
  unfold padTo
  rw [List.length_append, List.length_take, List.length_replicate]
  omega

theorem padTo_getD {α : Type} {n : Nat} (d : α) (l : List α) {i : Nat} (h : i < n) : (padTo n d l).getD i d = l.getD i d := by
  unfold padTo
  by_cases hin : i < l.length
  · rw [List.getD_append _ _ _ _ (by rw [List.length_take]; omega), List.getD_eq_getElem?_getD, List.getElem?_take_of_lt h,
      List.getD_eq_getElem?_getD]
  · rw [List.getD_append_right _ _ _ _ (by rw [List.length_take]; omega), List.getD_eq_default l _ (by omega), List.getD_replicate _ (by rw [List.length_take]; omega)]

/-- The sector of a buffer: its bytes within TOTAL, and 0xFF beyond. -/
theorem Staging.sector_getD {b : Staging} (hwf : Memory.wf 0xFF b.bytes = true) (total : Nat) {i : Nat} (h : i < 4096) :
    (b.sector total).getD i 0xFF = if 4096 * b.chunk + i < total then mget 0xFF b.bytes i else 0xFF := by
  unfold Staging.sector
  rw [padTo_getD _ _ h, memRead_eq _ _ _ _ hwf]
  split
  · rw [List.getD_eq_getElem?_getD, List.getElem?_map, List.getElem?_range (by omega)]
    show mget 0xFF b.bytes (0 + i) = _
    rw [Nat.zero_add]
  · exact List.getD_eq_default _ _ (by rw [List.length_map, List.length_range]; omega)

/-- The engine writes and commits chunks while it runs and downloads. -/
def Chip.downloads (c : Chip) : Prop := c.started = true ∧ c.mode ≠ 7 ∧ c.upd.record.state = 1

theorem Chip.downloads_runs {c : Chip} (h : c.downloads) : (!c.updRuns || decide (c.upd.record.state ≠ 1)) = false := by
  obtain ⟨hstarted, hmode, hstate⟩ := h
  unfold Chip.updRuns
  rw [hstarted, decide_eq_true hmode, hstate]
  rfl

/-- What CHUNK_WRITE does with the first complete buffer. -/
theorem Chip.chunkWrite_eq {c : Chip} {b : Staging} (h : c.downloads)
    (hb : c.upd.staging.find? (fun b => b.complete c.upd.record.total && !b.written) = some b) (intact : Bool) : c.chunkWrite intact =
    if c.mem.state = .silent then c.chunkFails b 6
    else if c.atWarning then (if intact then c else (c.norSpoil (slotBase c.upd.record.target + 4096 * b.chunk) 4096).chunkFails b 5)
    else if !intact || !c.lands.vioGood then (c.norSpoil (slotBase c.upd.record.target + 4096 * b.chunk) 4096).chunkFails b 4
    else (c.upMem (fun m => { m with
        nor := memWrite 0xFF m.nor (slotBase c.upd.record.target + 4096 * b.chunk) (b.sector c.upd.record.total), lines := [], omitCmd := false,
        resetOwed := false, erases := m.erases + 1, programs := m.programs + BitVec.ofNat 16 (4096 / max 1 m.par.page) })).upUpd
      (fun u => { u with staging := u.staging.map (fun x => if x.chunk = b.chunk then { x with written := true } else x) }) := by
  unfold Chip.chunkWrite Chip.atWarning
  dsimp only
  rw [if_neg (by rw [Chip.downloads_runs h]; exact Bool.false_ne_true), hb]

/-- A refused write keeps the flash but the sector it had begun, and changes the record by its commit. -/
theorem Chip.chunkFails_refused {c d : Chip} (hupd : d.upd = c.upd) (hmram : d.mram = c.mram) (htherm : d.therm = c.therm) (b : Staging) {e : Nat}
    (he : e ≠ 6) : RecordIs c { c.upd.record with lastErr := e } (d.chunkFails b e) ∧
      (d.chunkFails b e).upd.staging = c.upd.staging.filter (fun x => x.chunk != b.chunk) ∧ (d.chunkFails b e).mem = d.mem := by
  have hcut : d.chunkFails b e =
      (d.upUpd (fun u => { u with staging := u.staging.filter (fun x => x.chunk != b.chunk) })).commitUpd { d.upd.record with lastErr := e } :=
    Chip.updErr_eq _ he
  rw [hcut, hupd]
  refine ⟨Chip.recordIs_commitUpd ?_ ?_ _, ?_, ?_⟩
  · rw [Chip.upUpd_mram, hmram]
  · rw [Chip.upUpd_therm, htherm]
  · rw [Chip.commitUpd_upd, Chip.upUpd_upd, hupd]
  · rw [Chip.commitUpd_mem, Chip.upUpd_mem]

/-- The record with the chunk's bit set. -/
def UpdRec.withChunk (r : UpdRec) (k : Nat) : UpdRec :=
  { r with bitmap := r.bitmap ||| BitVec.ofNat 512 (2 ^ k),
           state := if (List.range r.chunks).all (fun i => (r.bitmap ||| BitVec.ofNat 512 (2 ^ k)).getLsbD i) then 2 else r.state }

theorem UpdRec.withChunk_bit (r : UpdRec) {k : Nat} (h : k < 512) (i : Nat) :
    (r.bitmap ||| BitVec.ofNat 512 (2 ^ k)).getLsbD i = (r.bitmap.getLsbD i || decide (i = k)) := by
  rw [BitVec.getLsbD_or, BitVec.getLsbD_ofNat, Nat.testBit_two_pow]
  congr 1
  by_cases hi : i = k
  · rw [hi, decide_eq_true h, decide_eq_true rfl]; rfl
  · rw [decide_eq_false hi, decide_eq_false (Ne.symm hi), Bool.and_false]

/-- The last chunk makes the download DOWNLOADED. -/
theorem UpdRec.withChunk_last (r : UpdRec) {k : Nat} (h : k < 512) :
    (List.range r.chunks).all (fun i => (r.bitmap ||| BitVec.ofNat 512 (2 ^ k)).getLsbD i) = true ↔
      ∀ i, i < r.chunks → r.bitmap.getLsbD i = true ∨ i = k := by
  simp only [List.all_eq_true, List.mem_range, r.withChunk_bit h, Bool.or_eq_true, decide_eq_true_eq]

theorem Chip.chunkCommit_eq {c : Chip} {b : Staging} (h : c.downloads) (hb : c.upd.staging.find? (fun b => b.written) = some b) : c.chunkCommit =
    if (List.range c.upd.record.chunks).all (fun i => (c.upd.record.bitmap ||| BitVec.ofNat 512 (2 ^ b.chunk)).getLsbD i) then
      ((c.upUpd (fun u => { u with staging := u.staging.filter (fun x => x.chunk != b.chunk) })).commitUpd
        (c.upd.record.withChunk b.chunk)).updEvent 0x0601 c.upd.record.target
    else (c.upUpd (fun u => { u with staging := u.staging.filter (fun x => x.chunk != b.chunk) })).commitUpd (c.upd.record.withChunk b.chunk) := by
  unfold Chip.chunkCommit
  dsimp only
  rw [Chip.downloads_runs h, if_neg Bool.false_ne_true, hb]
  rfl

/-- The engine's words after a CHUNK_COMMIT. -/
theorem Chip.chunkCommit_upd {c : Chip} {b : Staging} (h : c.downloads) (hb : c.upd.staging.find? (fun b => b.written) = some b) :
    c.chunkCommit.upd = { c.upd with staging := c.upd.staging.filter (fun x => x.chunk != b.chunk),
                                     record := c.upd.record.withChunk b.chunk, present := true } := by
  rw [Chip.chunkCommit_eq h hb]
  split
  · rw [Chip.noRings_upd (Chip.noRings_updEvent _ _ _), Chip.commitUpd_upd]
    rfl
  · rw [Chip.commitUpd_upd]
    rfl

/-! ### The commands -/

/-- The entry consumed, the record changes by its commit. -/
theorem Chip.recordIs_consumed (c : Chip) (r : UpdRec) : RecordIs c r ((c.consume 6 1).commitUpd r) := Chip.recordIs_commitUpd rfl rfl r

theorem RecordIs.follow {c d : Chip} {r : UpdRec} (h : RecordIs c r d) (w : Chip) : RecordIs c r (d.follow w) := h

/-- What waits for the commit is no part of the record. -/
theorem RecordIs.after {c d : Chip} {r : UpdRec} (h : RecordIs c r d) (k : Nat) : RecordIs c r (d.upUpd (fun u => { u with after := k })) := h

theorem Chip.consume_upd (c : Chip) (n k : Nat) : (c.consume n k).upd = c.upd := rfl

theorem activate_commands {s : State} {e : Entry} (he : UpdEntry s.chip e) (hkind : fld (ew e 0) 31 24 = 3) (hlive : s.chip.mem.state ≠ .silent) :
    (s.chip.upd.record.state ≠ 4 → Gives .activate s (fun c => Taken6 s.chip c ∧ RecordIs s.chip { s.chip.upd.record with lastErr := 2 } c)) ∧
    (s.chip.upd.record.state = 4 → bit (ew e 0) 0 = false → Gives .activate s (fun c => Taken6 s.chip c ∧ c.start = s.chip.start ∧
      RecordIs s.chip s.chip.upd.record.activated c)) ∧
    (s.chip.upd.record.state = 4 → bit (ew e 0) 0 = true →
      (s.chip.atWarning = false → Gives .activate s (StartBegun 4)) ∧
      (s.chip.atWarning = true → Gives .activate s (fun c => c.upd.after = 1 ∧ c.start = s.chip.start ∧ c.upd.record.state = 5 ∧
        c.upd.record.boot = s.chip.upd.record.target))) := by
  have hrow {P : Chip → Prop} := Gives.updEntry (P := P) (exec_activate s) he (updKind_plain hkind (.inr (.inl rfl)))
  have hring (r : UpdRec) (w : Chip) (code slot : Nat) : Taken6 s.chip ((((s.chip.consume 6 1).commitUpd r).updEvent code slot).follow w) :=
    taken6_of_ring he.2.2.2.1 ((Chip.updEvent_ring _ _ _ (by decide)).trans (Chip.ring_of (Chip.commitUpd_rings _ _)))
  have hstart (r : UpdRec) (code slot : Nat) : (((s.chip.consume 6 1).commitUpd r).updEvent code slot).start = s.chip.start :=
    (Chip.noRings_start (Chip.noRings_updEvent _ _ _)).trans (Chip.commitUpd_start _ _)
  have hwarning (r : UpdRec) (code slot : Nat) : (((s.chip.consume 6 1).commitUpd r).updEvent code slot).atWarning = s.chip.atWarning :=
    (Chip.updEvent_warning _ _ _).trans (Chip.commitUpd_warning _ _)
  refine ⟨fun hstate => hrow ?_, fun hstate hbit => hrow ?_, fun hstate hbit => ⟨fun hwarn => hrow ?_, fun hwarn => hrow ?_⟩⟩
  · rw [Chip.updActivate_refused (c := s.chip.consume 6 1) hlive hstate, Chip.consume_upd]
    exact ⟨taken6_of_ring he.2.2.2.1 (Chip.ring_of (Chip.commitUpd_rings _ _)), (s.chip.recordIs_consumed _).follow _⟩
  · rw [Chip.updActivate_accepted (c := s.chip.consume 6 1) hlive hstate, hbit, if_neg Bool.false_ne_true, Chip.consume_upd]
    exact ⟨hring _ _ _ _, (Chip.follow_start _ _).trans (hstart _ _ _), ((s.chip.recordIs_consumed _).updEvent _ _).follow _⟩
  · rw [Chip.updActivate_accepted (c := s.chip.consume 6 1) hlive hstate, hbit, if_pos rfl]
    exact startBegun_follow_of_eq (Chip.startAfter_begins ((hwarning _ _ _).trans hwarn))
  · rw [Chip.updActivate_accepted (c := s.chip.consume 6 1) hlive hstate, hbit, if_pos rfl, Chip.startAfter_waits ((hwarning _ _ _).trans hwarn),
      Chip.follow_upd, Chip.follow_start, Chip.upUpd_upd, Chip.upUpd_start, hstart, Chip.noRings_upd (Chip.noRings_updEvent _ _ _), Chip.commitUpd_upd]
    exact ⟨rfl, rfl, rfl, rfl⟩

theorem abort_commands {s : State} {e : Entry} (he : UpdEntry s.chip e) (hkind : fld (ew e 0) 31 24 = 4) {r : UpdRec} (hr : r = s.chip.upd.record) :
    (r.state = 1 ∨ r.state = 2 ∨ r.state = 4 → Gives .abort s (fun c => Taken6 s.chip c ∧ c.upd.staging = [] ∧
      RecordIs s.chip { r with state := 0, bitmap := 0 } c)) ∧
    (r.state ≠ 1 → r.state ≠ 2 → r.state ≠ 4 → Gives .abort s (fun c => Taken6 s.chip c ∧ RecordIs s.chip { r with lastErr := 2 } c)) := by
  subst hr
  have hrow {P : Chip → Prop} := Gives.updEntry (P := P) (exec_abort s) he (updKind_plain hkind (.inr (.inr (.inl rfl))))
  refine ⟨fun hstate => hrow ?_, fun h1 h2 h4 => hrow ?_⟩
  · refine ⟨taken6_of_ring he.2.2.2.1 (Chip.ring_of (Chip.updAbort_ring _ _)), ?_⟩
    obtain ⟨hrec, hstaging⟩ := Chip.updAbort_aborts (c := s.chip.consume 6 1) hstate e
    exact ⟨hstaging, RecordIs.follow (c := s.chip) hrec _⟩
  · refine ⟨taken6_of_ring he.2.2.2.1 (Chip.ring_of (Chip.updAbort_ring _ _)), ?_⟩
    rw [Chip.updAbort_refused (c := s.chip.consume 6 1) h1 h2 h4]
    exact (s.chip.recordIs_consumed _).follow _

theorem revert_commands {s : State} {e : Entry} (he : UpdEntry s.chip e) (hkind : fld (ew e 0) 31 24 = 5) {r : UpdRec} (hr : r = s.chip.upd.record) :
    (r.state = 5 → s.chip.atWarning = false → Gives .revert s (StartBegun 4)) ∧
    (r.state = 5 → s.chip.atWarning = true → Gives .revert s (fun c => c.upd.after = 1 ∧ c.start = s.chip.start ∧
      RecordIs s.chip { r with trialStarts := 3 } c)) ∧
    (r.state ≠ 5 → Gives .revert s (fun c => Taken6 s.chip c ∧ RecordIs s.chip { r with lastErr := 2 } c)) := by
  subst hr
  have hrow {P : Chip → Prop} := Gives.updEntry (P := P) (exec_revert s) he (updKind_plain hkind (.inr (.inr (.inr rfl))))
  have hwarning (r : UpdRec) : ((s.chip.consume 6 1).commitUpd r).atWarning = s.chip.atWarning := Chip.commitUpd_warning _ _
  refine ⟨fun hstate hwarn => hrow ?_, fun hstate hwarn => hrow ?_, fun hstate => hrow ?_⟩
  · rw [Chip.updRevert_reverts (c := s.chip.consume 6 1) hstate]
    exact startBegun_follow_of_eq (Chip.startAfter_begins ((hwarning _).trans hwarn))
  · rw [Chip.updRevert_reverts (c := s.chip.consume 6 1) hstate, Chip.startAfter_waits ((hwarning _).trans hwarn)]
    exact ⟨rfl, Chip.commitUpd_start _ _, ((s.chip.recordIs_consumed _).after 1).follow _⟩
  · rw [Chip.updRevert_refused (c := s.chip.consume 6 1) hstate]
    exact ⟨taken6_of_ring he.2.2.2.1 (Chip.ring_of (Chip.commitUpd_rings _ _)), (s.chip.recordIs_consumed _).follow _⟩

theorem chunkWrite_commands {s : State} {b : Staging} {r : UpdRec} {a : Nat} (hawake : s.chip.awake = true) (hruns : s.chip.downloads)
    (hr : r = s.chip.upd.record) (hb : s.chip.upd.staging.find? (fun b => b.complete r.total && !b.written) = some b)
    (ha : a = slotBase r.target + 4096 * b.chunk) :
    (s.chip.mem.state = .silent → ∀ i, Gives (.chunkWrite i) s (fun c => c.mem = s.chip.mem ∧ c.mram = s.chip.mram ∧ c.upd.record = { r with lastErr := 6 } ∧
      c.upd.staging = s.chip.upd.staging.filter (fun x => x.chunk != b.chunk))) ∧
    (s.chip.mem.state ≠ .silent → s.chip.atWarning = true →
      Gives (.chunkWrite true) s (fun c => c = s.chip.follow s.chip) ∧
      Gives (.chunkWrite false) s (fun c => RecordIs s.chip { r with lastErr := 5 } c ∧
        c.upd.staging = s.chip.upd.staging.filter (fun x => x.chunk != b.chunk))) ∧
    (s.chip.mem.state ≠ .silent → s.chip.atWarning = false →
      (s.chip.lands.vioGood = true → Memory.wf 0xFF b.bytes = true → Gives (.chunkWrite true) s (fun c =>
        (∀ x, mget 0xFF c.mem.nor x = if a ≤ x ∧ x < a + 4096 then (if 4096 * b.chunk + (x - a) < r.total then mget 0xFF b.bytes (x - a) else 0xFF)
          else mget 0xFF s.chip.mem.nor x) ∧
        c.upd = { s.chip.upd with staging := s.chip.upd.staging.map (fun x => if x.chunk = b.chunk then { x with written := true } else x) } ∧
        c.mem.erases = s.chip.mem.erases + 1 ∧ c.mram = s.chip.mram)) ∧
      Gives (.chunkWrite false) s (fun c => RecordIs s.chip { r with lastErr := 4 } c ∧
        c.upd.staging = s.chip.upd.staging.filter (fun x => x.chunk != b.chunk) ∧
        ∀ x, (x < a ∨ a + 4096 ≤ x) → mget 0xFF c.mem.nor x = mget 0xFF s.chip.mem.nor x)) := by
  subst hr ha
  have heq := Chip.chunkWrite_eq hruns hb
  have hspoilt (k : Nat) (hk : k ≠ 6) := Chip.chunkFails_refused (c := s.chip)
    (d := s.chip.norSpoil (slotBase s.chip.upd.record.target + 4096 * b.chunk) 4096) rfl rfl rfl b hk
  refine ⟨fun hsilent i => ?_, fun hsilent hwarn => ⟨?_, ?_⟩, fun hsilent hwarn => ⟨fun hvio hwf => ?_, ?_⟩⟩
  · refine Gives.run (exec_chunkWrite i s) hawake ?_
    rw [heq, if_pos hsilent, Chip.chunkFails, Chip.updErr_six]
    exact ⟨rfl, rfl, rfl, rfl⟩
  · refine Gives.run (exec_chunkWrite true s) hawake ?_
    rw [heq, if_neg hsilent, if_pos hwarn]
    rfl
  · refine Gives.run (exec_chunkWrite false s) hawake ?_
    rw [heq, if_neg hsilent, if_pos hwarn, if_neg Bool.false_ne_true]
    obtain ⟨hrec, hstaging, -⟩ := hspoilt 5 (by decide)
    exact ⟨hrec.congr ⟨rfl, rfl⟩ rfl rfl, hstaging⟩
  · refine Gives.run (exec_chunkWrite true s) hawake ?_
    rw [heq, if_neg hsilent, hwarn, if_neg Bool.false_ne_true, hvio, if_neg (show ¬ (!true || !true) = true from Bool.false_ne_true)]
    refine ⟨fun x => ?_, rfl, rfl, rfl⟩
    rw [Chip.follow_mem, Chip.upUpd_mem, Chip.upMem_mem]
    dsimp only
    rw [mget_memWrite, show (b.sector s.chip.upd.record.total).length = 4096 from padTo_length _ _ _]
    split
    · exact Staging.sector_getD hwf _ (by omega)
    · rfl
  · refine Gives.run (exec_chunkWrite false s) hawake ?_
    rw [heq, if_neg hsilent, hwarn, if_neg Bool.false_ne_true, if_pos (show (!false || !s.chip.lands.vioGood) = true from rfl)]
    obtain ⟨hrec, hstaging, hmem⟩ := hspoilt 4 (by decide)
    refine ⟨hrec.congr ⟨rfl, rfl⟩ rfl rfl, hstaging, fun x hx => ?_⟩
    rw [Chip.follow_mem, hmem]
    exact Chip.norSpoil_outside _ _ _ hx

theorem chunkCommit_commands {s : State} {b : Staging} {r : UpdRec} (hawake : s.chip.awake = true) (hruns : s.chip.downloads)
    (hr : r = s.chip.upd.record) (hb : s.chip.upd.staging.find? (fun b => b.written) = some b) : Gives .chunkCommit s (fun c =>
      c.upd.staging = s.chip.upd.staging.filter (fun x => x.chunk != b.chunk) ∧
      (b.chunk < 512 → ∀ i, c.upd.record.bitmap.getLsbD i = (r.bitmap.getLsbD i || decide (i = b.chunk))) ∧
      ((∀ i, i < r.chunks → r.bitmap.getLsbD i = true ∨ i = b.chunk) → b.chunk < 512 → c.upd.record.state = 2) ∧
      ((∃ i, i < r.chunks ∧ r.bitmap.getLsbD i = false ∧ i ≠ b.chunk) → b.chunk < 512 →
        RecordIs s.chip { r with bitmap := c.upd.record.bitmap } c ∧ c.rings = s.chip.rings)) := by
  subst hr
  refine Gives.run (exec_chunkCommit s) hawake ?_
  rw [Chip.follow_upd, Chip.follow_rings, Chip.chunkCommit_upd hruns hb]
  refine ⟨rfl, fun hlt i => UpdRec.withChunk_bit _ hlt i, fun hall hlt => ?_, fun ⟨i, hi, hclear, hne⟩ hlt => ?_⟩
  · exact if_pos ((UpdRec.withChunk_last _ hlt).mpr hall)
  · have hmore : ¬ (List.range s.chip.upd.record.chunks).all
        (fun i => (s.chip.upd.record.bitmap ||| BitVec.ofNat 512 (2 ^ b.chunk)).getLsbD i) = true := by
      rw [UpdRec.withChunk_last _ hlt]
      intro h
      rcases h i hi with hset | heq
      · rw [hclear] at hset; cases hset
      · exact hne heq
    have hrec : s.chip.upd.record.withChunk b.chunk =
        { s.chip.upd.record with bitmap := s.chip.upd.record.bitmap ||| BitVec.ofNat 512 (2 ^ b.chunk) } := by
      unfold UpdRec.withChunk
      rw [if_neg hmore]
    rw [Chip.chunkCommit_eq hruns hb, if_neg hmore, Chip.commitUpd_rings, hrec]
    exact ⟨(Chip.recordIs_commitUpd (Chip.upUpd_mram _ _) (Chip.upUpd_therm _ _) _).congr ⟨rfl, rfl⟩ rfl rfl, Chip.upUpd_rings _ _⟩

/-- Settles O52: an entry is consumed and acts by its kind; a chunk is written, then committed. -/
theorem theUpdateEngineDownloadsAndActivates : Obligations.TheUpdateEngineDownloadsAndActivates := by
  unfold Obligations.TheUpdateEngineDownloadsAndActivates
  refine ⟨fun s e r he hr => ?_, fun s b r a hawake hstarted hmode hr hstate hb ha =>
      chunkWrite_commands hawake ⟨hstarted, hmode, hr ▸ hstate⟩ hr hb ha,
    fun s b r hawake hstarted hmode hr hstate hb => chunkCommit_commands hawake ⟨hstarted, hmode, hr ▸ hstate⟩ hr hb⟩
  subst hr
  have hfill := he.2.2.2.1
  refine ⟨fun hkind => ?_, fun n off chunk bs hkind hn hword hlow hhigh hoff hoffWord hchunk hbs => ?_,
    fun hkind hlive => activate_commands he hkind hlive, fun hkind => abort_commands he hkind rfl, fun hkind => revert_commands he hkind rfl, fun hkind => ?_⟩
  · refine Gives.updEntry (exec_begin s) he (updKind_plain hkind (.inl rfl)) ⟨taken6_of_ring hfill (Chip.ring_of (Chip.updBegin_ring _ _)), ?_⟩
    exact Chip.updBegin_begins (s.chip.consume 6 1) e
  · have hdata : updKind e = some 2 := (updKind_data hkind).trans (if_pos (by rw [← hn, ← hoff]; exact ⟨hword, hlow, hhigh, hoffWord⟩))
    refine Gives.updEntry (exec_data s) he hdata ⟨taken6_of_ring hfill (Chip.ring_of (Chip.updDataEntry_ring _ _)), ?_⟩
    exact Chip.updDataEntry_stores (s.chip.consume 6 1) e hchunk hoff (by rw [hbs, hn]; rfl)
  · refine Gives.updEntry (exec_updateEntryInvalid s) he (updKind_invalid hkind) ⟨taken6_of_ring hfill (Chip.ring_of (Chip.updErr_rings _ _)), ?_⟩
    rw [Chip.updErr_eq _ (by decide)]
    exact (s.chip.recordIs_consumed _).follow _

end Sys2Proof.Machine
end

section
/-! SUPPORT. Verification, trial, confirmation, settings and key roll (18 R811-R813, R818-R822, R830-R834). -/

namespace Sys2Proof.Machine

theorem exec_verification (s : State) : exec .verification s = s.run Chip.verify := rfl
theorem exec_trialCheck (check : Nat) (s : State) : exec (.trialCheck check) s = s.run (fun c => c.trialCheck check) := rfl
theorem exec_checkFailed (check : Nat) (s : State) : exec (.checkFailed check) s = s.run (fun c => c.checkFailed check) := rfl
theorem exec_trialSecCommit (s : State) :
    exec .trialSecCommit s = s.run (fun c => if decide (600 ≤ c.upd.trialRun) then c.trialCommit else c) := rfl
theorem exec_settingsSave (s : State) : exec .settingsSave s = s.runHost Chip.settingsSave := rfl
theorem exec_settingsClear (s : State) : exec .settingsClear s = s.runHost Chip.settingsClear := rfl
theorem exec_setNext (s : State) : exec .setNext s = s.runHost Chip.keyRoll := rfl
theorem exec_clearNext (s : State) : exec .clearNext s = s.runHost Chip.keyRoll := rfl

/-! ### Verification (R811, R812) -/

theorem Chip.commitUpd_keys (c : Chip) (r : UpdRec) : (c.commitUpd r).mram.keys = c.mram.keys := by
  unfold Chip.commitUpd Chip.requestCommit
  split
  · split <;> rfl
  · rfl

/-- Off WARNING the record's commit is made at once. -/
theorem Chip.commitUpd_bytes {c : Chip} (h : c.atWarning = false) (r : UpdRec) : (c.commitUpd r).mram.bytes = (c.mram.commit 2 1 r.body).bytes :=
  ((c.recordIs_commitUpd (c := c) rfl rfl r).2.2.1 h).1

/-- A commit of a bank depends on the bytes of MRAM only. -/
theorem Mram.commit_bytes {m k : Mram} (h : m.bytes = k.bytes) (struct fmt : Nat) (body : List Byte) :
    (m.commit struct fmt body).bytes = (k.commit struct fmt body).bytes := by
  unfold Mram.commit Mram.current Mram.bank
  rw [h]

/-- The state in which the image is checked: VERIFYING is committed. -/
def Chip.verifying (c : Chip) : Chip := c.commitUpd { c.upd.record with state := 3 }

/-- The checks of the image see the memory, the keys and the record's other fields as they were. -/
theorem Chip.verifying_err (c : Chip) : c.verifying.verifyErr = c.verifyErr := by
  unfold Chip.verifyErr Chip.inactiveSlot Chip.verifying
  rw [Chip.commitUpd_start, Chip.commitUpd_mem, Chip.commitUpd_keys, Chip.commitUpd_upd]

theorem Chip.verifyErr_eq {c : Chip} {slot : Nat} (hslot : slot = 1 - c.start.slot) : c.verifyErr = match c.mem.imageFault slot with
    | some 2 => some 7
    | some _ => some 1
    | none => if !c.mem.imageSigned slot c.mram.keys c.upd.record.nextKeyHash then some 8
      else if imgLen (c.mem.header slot) + 96 ≠ c.upd.record.total ∨ imgVersion (c.mem.header slot) ≠ c.upd.record.version then some 1
      else none := by
  subst hslot
  rfl

/-- The engine verifies: it runs, the download is complete or was verifying, and no die is at WARNING. -/
def Chip.mayVerify (c : Chip) : Prop :=
  c.started = true ∧ c.mode ≠ 7 ∧ (c.upd.record.state = 2 ∨ c.upd.record.state = 3) ∧ c.atWarning = false

theorem Chip.verify_eq {c : Chip} (h : c.mayVerify) : c.verify = if c.mem.state = .silent then c.updErr 6
    else match c.verifyErr with
      | none => (c.verifying.commitUpd { c.verifying.upd.record with state := 4 }).updEvent 0x0602 c.upd.record.target
      | some e => (c.verifying.commitUpd { c.verifying.upd.record with state := 1, bitmap := 0, lastErr := e }).updEvent 0x0603 c.upd.record.target := by
  obtain ⟨hstarted, hmode, hstate, hwarn⟩ := h
  have hopen : (!c.updRuns || (decide (c.upd.record.state ≠ 2) && decide (c.upd.record.state ≠ 3)) || c.therm.warning || c.therm.trip) = false := by
    unfold Chip.atWarning at hwarn
    unfold Chip.updRuns
    rw [Bool.or_assoc, hwarn, hstarted, decide_eq_true hmode]
    rcases hstate with h | h
    · rw [h]; rfl
    · rw [h]; rfl
  unfold Chip.verify
  rw [hopen, if_neg Bool.false_ne_true, ← c.verifying_err]
  rfl

/-- The record after a verification that ends with an error, and after one that passes. -/
theorem Chip.verified_record (c : Chip) (r : UpdRec) (code slot : Nat) : ((c.verifying.commitUpd r).updEvent code slot).upd.record = r := by
  rw [Chip.noRings_upd (Chip.noRings_updEvent _ _ _), Chip.commitUpd_upd]

theorem Chip.verifying_record (c : Chip) : c.verifying.upd.record = { c.upd.record with state := 3 } := by
  rw [Chip.verifying, Chip.commitUpd_upd]

theorem Chip.verify_fails {c : Chip} (h : c.mayVerify) (hlive : c.mem.state ≠ .silent) {e : Nat} (he : c.verifyErr = some e) :
    c.verify.upd.record = { c.upd.record with state := 1, bitmap := 0, lastErr := e } := by
  rw [Chip.verify_eq h, if_neg hlive, he]
  dsimp only
  rw [Chip.verified_record, Chip.verifying_record]

theorem Chip.verify_passes {c : Chip} (h : c.mayVerify) (hlive : c.mem.state ≠ .silent) (he : c.verifyErr = none) :
    c.verify.upd.record = { c.upd.record with state := 4 } ∧
      c.verify.mram.bytes = ((c.mram.commit 2 1 ({ c.upd.record with state := 3 } : UpdRec).body).commit 2 1
        ({ c.upd.record with state := 4 } : UpdRec).body).bytes := by
  have hwarn : c.verifying.atWarning = false := (Chip.commitUpd_warning _ _).trans h.2.2.2
  rw [Chip.verify_eq h, if_neg hlive, he]
  dsimp only
  rw [Chip.verified_record, Chip.verifying_record, Chip.noRings_mram (Chip.noRings_updEvent _ _ _), Chip.commitUpd_bytes hwarn]
  exact ⟨rfl, Mram.commit_bytes (Chip.commitUpd_bytes h.2.2.2 _) _ _ _⟩

/-! ### Trial checks and confirmation (R818-R822, R834) -/

/-- A trial check of an image on trial, and the check's bit is not set. -/
def Chip.mayCheck (c : Chip) (k : Nat) : Prop :=
  c.started = true ∧ c.upd.trial = true ∧ c.upd.record.state = 5 ∧ c.start.retryDue = false ∧ k < 5 ∧ c.upd.record.checks.getLsbD k = false

theorem Chip.mayCheck_onTrial {c : Chip} {k : Nat} (h : c.mayCheck k) : c.onTrial = true := by
  obtain ⟨hstarted, htrial, hstate, hretry, -, -⟩ := h
  unfold Chip.onTrial
  rw [hstarted, htrial, hstate, hretry]
  rfl

/-- The record with a check's bit set. -/
def UpdRec.withCheck (r : UpdRec) (k : Nat) : UpdRec := { r with checks := r.checks ||| BitVec.ofNat 5 (2 ^ k) }

theorem Chip.trialCheck_passed {c : Chip} {k : Nat} (h : c.mayCheck k) (hpass : c.trialPasses k = true) : c.trialCheck k =
    if (c.upd.record.checks ||| BitVec.ofNat 5 (2 ^ k)).toNat = 31 then (c.commitUpd (c.upd.record.withCheck k)).confirm
    else c.commitUpd (c.upd.record.withCheck k) := by
  obtain ⟨-, -, -, -, hlt, hclear⟩ := id h
  have hgo : (c.onTrial && decide (k < 5) && !c.upd.record.checks.getLsbD k && c.trialPasses k) = true := by
    rw [Chip.mayCheck_onTrial h, decide_eq_true hlt, hclear, hpass]
    rfl
  have hchecks : (c.commitUpd (c.upd.record.withCheck k)).upd.record.checks = c.upd.record.checks ||| BitVec.ofNat 5 (2 ^ k) := by
    rw [Chip.commitUpd_upd]
    rfl
  unfold Chip.trialCheck
  rw [if_pos hgo]
  dsimp only
  rw [← hchecks]
  rfl

theorem Chip.trialCheck_waits {c : Chip} {k : Nat} (hpass : c.trialPasses k = false) : c.trialCheck k = c := by
  unfold Chip.trialCheck
  rw [hpass, Bool.and_false]
  exact if_neg Bool.false_ne_true

/-- The record of a confirmed image, before a key change. -/
def UpdRec.settled (r : UpdRec) : UpdRec := { r with state := 0, confirmed := r.boot, trialStarts := 0, migBank := 0xFF }

/-- The confirmation committed, and its event posted. -/
def Chip.confirming (c : Chip) : Chip :=
  ((c.commitUpd c.upd.record.settled).updEvent 0x0605 c.upd.record.boot).upUpd (fun u => { u with trial := false })

theorem Chip.confirm_eq (c : Chip) : c.confirm =
    if c.confirming.atWarning then c.confirming.upUpd (fun u => { u with after := 3 }) else c.confirming.confirmed := rfl

theorem Chip.confirming_upd (c : Chip) : c.confirming.upd = { c.upd with record := c.upd.record.settled, present := true, trial := false } := by
  unfold Chip.confirming
  rw [Chip.upUpd_upd, Chip.noRings_upd (Chip.noRings_updEvent _ _ _), Chip.commitUpd_upd]

theorem Chip.confirming_mem (c : Chip) : c.confirming.mem = c.mem := by
  unfold Chip.confirming
  rw [Chip.upUpd_mem, Chip.noRings_mem (Chip.noRings_updEvent _ _ _), Chip.commitUpd_mem]

theorem Chip.confirming_keys (c : Chip) : c.confirming.mram.keys = c.mram.keys := by
  unfold Chip.confirming
  rw [Chip.upUpd_mram, Chip.noRings_mram (Chip.noRings_updEvent _ _ _), Chip.commitUpd_keys]

theorem Chip.confirming_warning (c : Chip) : c.confirming.atWarning = c.atWarning := by
  have hkeep (d : Chip) (f : Update → Update) : (d.upUpd f).atWarning = d.atWarning := rfl
  unfold Chip.confirming
  rw [hkeep, Chip.updEvent_warning, Chip.commitUpd_warning]

theorem Chip.confirming_lands (c : Chip) : c.confirming.lands = c.lands := by
  unfold Chip.confirming
  rw [Chip.upUpd_lands, Chip.noRings_lands (Chip.noRings_updEvent _ _ _)]
  exact Chip.lands_of_hide (Chip.hide_commitUpd c _ (ps := others .lands) (by decide)) (by decide)

/-- The save that was held until the confirmation. -/
def Chip.heldSaved (c : Chip) : Chip := if c.upd.heldSave then (c.upUpd (fun u => { u with heldSave := false })).saveNow else c

theorem Chip.confirmed_eq (c : Chip) : c.confirmed = (c.heldSaved.bootWrite c.upd.record.confirmed).keyChange := rfl

/-- A settings save changes its result and asks for a commit, and changes nothing else of the engine. -/
theorem Chip.saveNow_keeps (c : Chip) : c.saveNow.upd = { c.upd with saveResult := c.saveNow.upd.saveResult } ∧ c.saveNow.mem = c.mem ∧
    c.saveNow.lands = c.lands ∧ c.saveNow.mram.keys = c.mram.keys ∧ c.saveNow.atWarning = c.atWarning := by
  unfold Chip.saveNow Chip.requestCommit
  split
  · exact ⟨rfl, rfl, rfl, rfl, rfl⟩
  · split
    · exact ⟨rfl, rfl, rfl, rfl, rfl⟩
    · exact ⟨rfl, rfl, rfl, rfl, rfl⟩

theorem Chip.heldSaved_keeps (c : Chip) :
    c.heldSaved.upd = { c.upd with heldSave := false, saveResult := c.heldSaved.upd.saveResult } ∧ c.heldSaved.mem = c.mem ∧
      c.heldSaved.lands = c.lands ∧ c.heldSaved.mram.keys = c.mram.keys ∧ c.heldSaved.atWarning = c.atWarning := by
  unfold Chip.heldSaved
  cases hheld : c.upd.heldSave
  · rw [if_neg Bool.false_ne_true, ← hheld]
    exact ⟨rfl, rfl, rfl, rfl, rfl⟩
  · rw [if_pos rfl]
    obtain ⟨hupd, hmem, hlands, hkeys, hwarn⟩ := (c.upUpd (fun u => { u with heldSave := false })).saveNow_keeps
    exact ⟨hupd, hmem, hlands, hkeys, hwarn⟩

theorem Chip.bootWrite_upd (c : Chip) (slot : Nat) : (c.bootWrite slot).upd = c.upd :=
  Chip.upd_of_hide (Chip.hide_bootWrite c slot (ps := others .upd) (by decide)) (by decide)

theorem Chip.bootWrite_mram (c : Chip) (slot : Nat) : (c.bootWrite slot).mram = c.mram :=
  Chip.mram_of_hide (Chip.hide_bootWrite c slot (ps := others .mram) (by decide)) (by decide)

/-- The boot pointer cannot be written: PTR_FAIL, and the NOR is as it was. -/
theorem Chip.bootWrite_fails {c : Chip} (h : c.mem.state = .silent ∨ c.lands.vioGood = false) (slot : Nat) :
    (c.bootWrite slot).rf 0x4060 21 21 = 1 ∧ (c.bootWrite slot).mem = c.mem := by
  have heq : c.bootWrite slot = c.setBits 0x4060 0x200000 :=
    if_pos (h.elim .inl (fun hvio => .inr (.inr (.inl hvio))))
  rw [heq]
  exact ⟨rf_setBits_bit _ 0x4060 21 (by decide), rfl⟩

/-- The boot pointer names the slot in the sector that is next. -/
theorem Chip.bootWrite_writes {c : Chip} (hlive : c.mem.state ≠ .silent) (hfound : c.mem.state ≠ .undiscovered) (hvio : c.lands.vioGood = true)
    (hwarn : c.atWarning = false) (slot : Nat) :
    NorHolds c.mem (c.bootWrite slot).mem c.mem.nextBoot.1 (padTo 4096 0xFF (bootBytes c.mem.nextBoot.2 slot)) := by
  have hwrite : ¬ (c.mem.state = .silent ∨ c.mem.state = .undiscovered ∨ c.lands.vioGood = false ∨ c.atWarning = true) := by
    rw [hvio, hwarn]
    rintro (h | h | h | h)
    · exact hlive h
    · exact hfound h
    · cases h
    · cases h
  intro x
  unfold Chip.bootWrite
  rw [if_neg hwrite]
  exact mget_memWrite _ _ _ _ _

theorem Chip.keyChange_mem (c : Chip) : c.keyChange.mem = c.mem :=
  Chip.mem_of_hide (Chip.hide_keyChange c (ps := others .mem) (by decide)) (by decide)

theorem Chip.keyChange_regs (c : Chip) : c.keyChange.regs = c.regs :=
  Chip.regs_of_hide (Chip.hide_keyChange c (ps := others .regs) (by decide)) (by decide)

/-- The image's signer is not the key named next, or none is named. -/
theorem Chip.keyChange_keeps {c : Chip} (h : ¬ (leNat c.upd.record.nextKeyHash ≠ 0 ∧ c.upd.signerHash = c.upd.record.nextKeyHash)) :
    c.keyChange = c := if_neg h

theorem Chip.keyChange_rolls {c : Chip} (h : leNat c.upd.record.nextKeyHash ≠ 0) (hsigner : c.upd.signerHash = c.upd.record.nextKeyHash) :
    c.keyChange.mram.keys.imageKeyHash = c.upd.record.nextKeyHash ∧
      c.keyChange.upd = { c.upd with record := { c.upd.record with nextKeyHash := List.replicate 32 0 }, present := true } := by
  have heq : c.keyChange = (c.upMram (fun m => { m with keys := { m.keys with imageKeyHash := c.upd.record.nextKeyHash } })).commitUpd
      { c.upd.record with nextKeyHash := List.replicate 32 0 } := if_pos ⟨h, hsigner⟩
  rw [heq, Chip.commitUpd_keys, Chip.commitUpd_upd]
  exact ⟨rfl, rfl⟩

/-- A key change touches nothing of the engine but NEXT_KEY_HASH. -/
theorem Chip.keyChange_upd (c : Chip) : ∃ hash b, c.keyChange.upd = { c.upd with record := { c.upd.record with nextKeyHash := hash }, present := b } := by
  by_cases h : leNat c.upd.record.nextKeyHash ≠ 0 ∧ c.upd.signerHash = c.upd.record.nextKeyHash
  · exact ⟨_, _, (Chip.keyChange_rolls h.1 h.2).2⟩
  · exact ⟨c.upd.record.nextKeyHash, c.upd.present, by rw [Chip.keyChange_keeps h]⟩

/-- What a confirmation off WARNING leaves of a block whose record names the confirmed slot. -/
theorem Chip.confirmed_result {c : Chip} (hwarn : c.atWarning = false) :
    c.confirmed.upd.trial = c.upd.trial ∧ c.confirmed.upd.heldSave = false ∧ c.confirmed.upd.record.state = c.upd.record.state ∧
    c.confirmed.upd.record.confirmed = c.upd.record.confirmed ∧ c.confirmed.upd.record.trialStarts = c.upd.record.trialStarts ∧
    c.confirmed.upd.record.migBank = c.upd.record.migBank ∧
    (c.mem.state ≠ .silent → c.mem.state ≠ .undiscovered → c.lands.vioGood = true →
      NorHolds c.mem c.confirmed.mem c.mem.nextBoot.1 (padTo 4096 0xFF (bootBytes c.mem.nextBoot.2 c.upd.record.confirmed))) ∧
    (c.mem.state = .silent ∨ c.lands.vioGood = false → c.confirmed.rf 0x4060 21 21 = 1 ∧ c.confirmed.mem = c.mem) ∧
    (leNat c.upd.record.nextKeyHash ≠ 0 → c.upd.signerHash = c.upd.record.nextKeyHash →
      c.confirmed.mram.keys.imageKeyHash = c.upd.record.nextKeyHash ∧ c.confirmed.upd.record.nextKeyHash = List.replicate 32 0) ∧
    (c.upd.signerHash ≠ c.upd.record.nextKeyHash →
      c.confirmed.mram.keys = c.mram.keys ∧ c.confirmed.upd.record.nextKeyHash = c.upd.record.nextKeyHash) := by
  obtain ⟨hupd, hmem, hlands, hkeys, hsaved⟩ := c.heldSaved_keeps
  have hboot : (c.heldSaved.bootWrite c.upd.record.confirmed).upd = { c.upd with heldSave := false, saveResult := c.heldSaved.upd.saveResult } :=
    (Chip.bootWrite_upd _ _).trans hupd
  have hbootKeys : (c.heldSaved.bootWrite c.upd.record.confirmed).mram.keys = c.mram.keys := by rw [Chip.bootWrite_mram, hkeys]
  have hbootMem : c.confirmed.mem = (c.heldSaved.bootWrite c.upd.record.confirmed).mem := by rw [Chip.confirmed_eq, Chip.keyChange_mem]
  obtain ⟨hash, b, hkey⟩ := (c.heldSaved.bootWrite c.upd.record.confirmed).keyChange_upd
  have hall : c.confirmed.upd = { c.upd with heldSave := false, saveResult := c.heldSaved.upd.saveResult,
                                             record := { c.upd.record with nextKeyHash := hash }, present := b } := by
    rw [Chip.confirmed_eq, hkey, hboot]
  refine ⟨by rw [hall], by rw [hall], by rw [hall], by rw [hall], by rw [hall], by rw [hall], fun hlive hfound hvio => ?_, fun h => ?_,
    fun hnext hsigner => ?_, fun hsigner => ?_⟩
  · rw [hbootMem, ← hmem]
    exact Chip.bootWrite_writes (by rwa [hmem]) (by rwa [hmem]) (by rwa [hlands]) (hsaved.trans hwarn) _
  · obtain ⟨hptr, hnor⟩ := Chip.bootWrite_fails (c := c.heldSaved) (by rwa [hmem, hlands]) c.upd.record.confirmed
    rw [hbootMem, hnor]
    refine ⟨?_, hmem⟩
    rw [Chip.confirmed_eq, Chip.rf, Chip.reg_of_regs (Chip.keyChange_regs _)]
    exact hptr
  · rw [Chip.confirmed_eq]
    obtain ⟨hroll, hrollUpd⟩ := Chip.keyChange_rolls (c := c.heldSaved.bootWrite c.upd.record.confirmed) (by rwa [hboot]) (by rwa [hboot])
    rw [hroll, hrollUpd, hboot]
    exact ⟨rfl, rfl⟩
  · rw [Chip.confirmed_eq, Chip.keyChange_keeps (by rw [hboot]; exact fun h => hsigner h.2), hboot, hbootKeys]
    exact ⟨rfl, rfl⟩

/-! ### The trial checks' commands -/

theorem trialCheck_commands {s : State} {k : Nat} {r : UpdRec} (hawake : s.chip.awake = true) (h : s.chip.mayCheck k) (hr : r = s.chip.upd.record)
    (hpass : s.chip.trialPasses k = true) :
    ((r.checks ||| BitVec.ofNat 5 (2 ^ k)).toNat ≠ 31 → Gives (.trialCheck k) s (fun c =>
        RecordIs s.chip { r with checks := r.checks ||| BitVec.ofNat 5 (2 ^ k) } c ∧ c.mem = s.chip.mem)) ∧
      ((r.checks ||| BitVec.ofNat 5 (2 ^ k)).toNat = 31 →
        (s.chip.atWarning = true → Gives (.trialCheck k) s (fun c => c.upd.after = 3 ∧ c.upd.record.state = 0 ∧ c.upd.record.confirmed = r.boot ∧
          c.mem = s.chip.mem)) ∧
        (s.chip.atWarning = false → Gives (.trialCheck k) s (fun c => c.upd.trial = false ∧ c.upd.heldSave = false ∧ c.upd.record.state = 0 ∧
          c.upd.record.confirmed = r.boot ∧ c.upd.record.trialStarts = 0 ∧ c.upd.record.migBank = 0xFF ∧
          (s.chip.mem.state ≠ .silent → s.chip.mem.state ≠ .undiscovered → s.chip.lands.vioGood = true →
            NorHolds s.chip.mem c.mem s.chip.mem.nextBoot.1 (padTo 4096 0xFF (bootBytes s.chip.mem.nextBoot.2 r.boot))) ∧
          (s.chip.mem.state = .silent ∨ s.chip.lands.vioGood = false → c.rf 0x4060 21 21 = 1 ∧ c.mem = s.chip.mem) ∧
          (leNat r.nextKeyHash ≠ 0 → s.chip.upd.signerHash = r.nextKeyHash → c.mram.keys.imageKeyHash = r.nextKeyHash ∧
            c.upd.record.nextKeyHash = List.replicate 32 0) ∧
          (s.chip.upd.signerHash ≠ r.nextKeyHash → c.mram.keys = s.chip.mram.keys ∧ c.upd.record.nextKeyHash = r.nextKeyHash)))) := by
  subst hr
  have hcheck := Chip.trialCheck_passed h hpass
  have hlands : (s.chip.commitUpd (s.chip.upd.record.withCheck k)).lands = s.chip.lands :=
    Chip.lands_of_hide (Chip.hide_commitUpd s.chip _ (ps := others .lands) (by decide)) (by decide)
  refine ⟨fun hmore => Gives.run (exec_trialCheck k s) hawake ?_,
    fun hlast => ⟨fun hwarn => Gives.run (exec_trialCheck k s) hawake ?_, fun hwarn => Gives.run (exec_trialCheck k s) hawake ?_⟩⟩
  · rw [hcheck, if_neg hmore]
    exact ⟨(Chip.recordIs_commitUpd rfl rfl _).follow _, Chip.commitUpd_mem _ _⟩
  · rw [hcheck, if_pos hlast, Chip.confirm_eq, if_pos ((Chip.confirming_warning _).trans ((Chip.commitUpd_warning _ _).trans hwarn)),
      Chip.follow_upd, Chip.follow_mem, Chip.upUpd_upd, Chip.upUpd_mem, Chip.confirming_upd, Chip.confirming_mem, Chip.commitUpd_upd,
      Chip.commitUpd_mem]
    exact ⟨rfl, rfl, rfl, rfl⟩
  · have hoff : (s.chip.commitUpd (s.chip.upd.record.withCheck k)).confirming.atWarning = false :=
      (Chip.confirming_warning _).trans ((Chip.commitUpd_warning _ _).trans hwarn)
    have hres := Chip.confirmed_result hoff
    rw [Chip.confirming_upd, Chip.confirming_mem, Chip.confirming_lands, Chip.confirming_keys, Chip.commitUpd_upd, Chip.commitUpd_mem,
      Chip.commitUpd_keys, hlands] at hres
    rw [hcheck, if_pos hlast, Chip.confirm_eq, if_neg (by rw [hoff]; exact Bool.false_ne_true)]
    generalize (s.chip.commitUpd (s.chip.upd.record.withCheck k)).confirming.confirmed = d at hres ⊢
    exact hres

theorem Chip.checkFailed_eq {c : Chip} {k : Nat} (h : c.mayCheck k) (hlow : 1 ≤ k) (hhigh : k ≤ 3) : c.checkFailed k =
    if c.atWarning then (c.commitUpd { c.upd.record with lastErr := 9, failedCheck := k }).upUpd (fun u => { u with after := 2 })
    else (c.commitUpd { c.upd.record with lastErr := 9, failedCheck := k }).failedCheckWait := by
  have hgo : (c.onTrial && decide (1 ≤ k ∧ k ≤ 3) && !c.upd.record.checks.getLsbD k) = true := by
    obtain ⟨-, -, -, -, -, hclear⟩ := id h
    rw [Chip.mayCheck_onTrial h, decide_eq_true ⟨hlow, hhigh⟩, hclear]
    rfl
  unfold Chip.checkFailed
  rw [if_pos hgo, ← Chip.commitUpd_warning c { c.upd.record with lastErr := 9, failedCheck := k }]
  rfl

theorem checkFailed_commands {s : State} {k : Nat} {r : UpdRec} (hawake : s.chip.awake = true) (h : s.chip.mayCheck k) (hr : r = s.chip.upd.record)
    (hlow : 1 ≤ k) (hhigh : k ≤ 3) :
    (s.chip.atWarning = true → Gives (.checkFailed k) s (fun c => c.upd.after = 2 ∧ c.mode = s.chip.mode ∧
        RecordIs s.chip { r with lastErr := 9, failedCheck := k } c)) ∧
      (s.chip.atWarning = false → Gives (.checkFailed k) s (fun c => c.start.retryDue = true ∧ c.upd.record = { r with lastErr := 9, failedCheck := k } ∧
        (s.chip.modes.transition = none → s.chip.mode ≠ 1 → c.modes.transition = some (1, .start)))) := by
  subst hr
  have hmodes (r : UpdRec) : (s.chip.commitUpd r).modes = s.chip.modes :=
    Chip.modes_of_hide (Chip.hide_commitUpd s.chip r (ps := others .modes) (by decide)) (by decide)
  refine ⟨fun hwarn => Gives.run (exec_checkFailed k s) hawake ?_, fun hwarn => Gives.run (exec_checkFailed k s) hawake ?_⟩
  · rw [Chip.checkFailed_eq h hlow hhigh, if_pos hwarn]
    refine ⟨rfl, ?_, ((Chip.recordIs_commitUpd rfl rfl _).after 2).follow _⟩
    rw [Chip.follow_mode, Chip.mode, Chip.upUpd_modes, hmodes]
    rfl
  · rw [Chip.checkFailed_eq h hlow hhigh, if_neg (by rw [hwarn]; exact Bool.false_ne_true), Chip.follow_start, Chip.follow_upd, Chip.follow_modes,
      Chip.failedCheckWait, Chip.goTo_start, Chip.goTo_upd, Chip.upStart_upd, Chip.commitUpd_upd]
    refine ⟨rfl, rfl, fun htrans hmode => ?_⟩
    rw [Chip.goTo_begins (by rwa [Chip.upStart_modes, hmodes]) (by rwa [Chip.mode, Chip.upStart_modes, hmodes]) (fun hon => by
      rw [Chip.mode, Chip.upStart_modes, hmodes] at hon
      exact hmode hon.1)]
    rfl

/-! ### Settings (R830, R831) -/

theorem Chip.settingsSave_off {c : Chip} (h : c.upd.record.state ≠ 5) (hread : c.upd.unreadable = false) : c.settingsSave =
    (c.requestCommit 3 c.upd.settingsFormat (settingsBody c.keeper.sec.toNat (c.upd.settingsList.map (fun a => (a, (c.readWord a).1))))).saveRes
      (if c.atWarning then 2 else 0) := by
  unfold Chip.settingsSave Chip.saveNow
  rw [if_neg h, hread]
  rfl

theorem Chip.settingsSave_unreadable {c : Chip} (h : c.upd.record.state ≠ 5) (hread : c.upd.unreadable = true) : c.settingsSave = c.saveRes 3 := by
  unfold Chip.settingsSave Chip.saveNow
  rw [if_neg h, if_pos hread]

theorem Chip.settingsClear_off {c : Chip} (h : c.upd.record.state ≠ 5) (hwarn : c.atWarning = false) : c.settingsClear =
    (c.upMram (fun m => ({ m with commits := m.commits.filter (fun q => q.1 != 3) }.clearCommitWord 3 false).clearCommitWord 3 true)).saveRes 0 := by
  unfold Chip.settingsClear
  rw [if_neg h, hwarn]
  rfl

theorem settings_commands {s : State} (hawake : s.chip.awake = true) (hopen : s.chip.hostOpen = true) :
    (s.chip.upd.record.state = 5 → Gives .settingsSave s (fun c => c.upd = { s.chip.upd with heldSave := true, saveResult := 1 } ∧ c.mram = s.chip.mram) ∧
      Gives .settingsClear s (fun c => c.upd = { s.chip.upd with saveResult := 4 } ∧ c.mram = s.chip.mram)) ∧
    (s.chip.upd.record.state ≠ 5 →
      (s.chip.upd.unreadable = true → Gives .settingsSave s (fun c => c.upd = { s.chip.upd with saveResult := 3 } ∧ c.mram = s.chip.mram)) ∧
      (s.chip.upd.unreadable = false → s.chip.atWarning = false → Gives .settingsSave s (fun c => c.upd = { s.chip.upd with saveResult := 0 } ∧
        c.mram = { s.chip.mram with commits := s.chip.mram.commits ++ [(3, s.chip.upd.settingsFormat,
          settingsBody s.chip.keeper.sec.toNat (s.chip.upd.settingsList.map (fun a => (a, (s.chip.readWord a).1))))] })) ∧
      (s.chip.upd.unreadable = false → s.chip.atWarning = true → Gives .settingsSave s (fun c => c.upd = { s.chip.upd with saveResult := 2 } ∧
        c.mram = s.chip.mram ∧ (3, s.chip.upd.settingsFormat,
          settingsBody s.chip.keeper.sec.toNat (s.chip.upd.settingsList.map (fun a => (a, (s.chip.readWord a).1)))) ∈ c.therm.held)) ∧
      (s.chip.atWarning = false → Gives .settingsClear s (fun c => c.upd = { s.chip.upd with saveResult := 0 } ∧
        ∀ x, mget 0 c.mram.bytes x = if (0x05FF8 ≤ x ∧ x < 0x06000) ∨ (0x09FF8 ≤ x ∧ x < 0x0A000) then 0 else mget 0 s.chip.mram.bytes x))) := by
  refine ⟨fun hstate => ⟨Gives.host (exec_settingsSave s) hawake hopen ?_, Gives.host (exec_settingsClear s) hawake hopen ?_⟩, fun hstate =>
    ⟨fun hread => Gives.host (exec_settingsSave s) hawake hopen ?_, fun hread hwarn => Gives.host (exec_settingsSave s) hawake hopen ?_,
      fun hread hwarn => Gives.host (exec_settingsSave s) hawake hopen ?_, fun hwarn => Gives.host (exec_settingsClear s) hawake hopen ?_⟩⟩
  · rw [Chip.settingsSave, if_pos hstate]
    exact ⟨rfl, rfl⟩
  · rw [Chip.settingsClear, if_pos hstate]
    exact ⟨rfl, rfl⟩
  · rw [Chip.settingsSave_unreadable hstate hread]
    exact ⟨rfl, rfl⟩
  · rw [Chip.settingsSave_off hstate hread, hwarn, if_neg Bool.false_ne_true, Chip.requestCommit,
      if_neg (show ¬ (s.chip.therm.warning || s.chip.therm.trip) = true from fun h => by cases hwarn.symm.trans h)]
    exact ⟨rfl, rfl⟩
  · rw [Chip.settingsSave_off hstate hread, if_pos hwarn, Chip.requestCommit, if_pos (show (s.chip.therm.warning || s.chip.therm.trip) = true from hwarn)]
    exact ⟨rfl, rfl, List.mem_append_right _ (List.mem_singleton_self _)⟩
  · rw [Chip.settingsClear_off hstate hwarn]
    refine ⟨rfl, fun x => ?_⟩
    show mget 0 (memWrite 0 (memWrite 0 s.chip.mram.bytes 0x05FF8 (List.replicate 8 0)) 0x09FF8 (List.replicate 8 0)) x = _
    rw [mget_memWrite, mget_memWrite, List.length_replicate]
    by_cases hb : 0x09FF8 ≤ x ∧ x < 0x09FF8 + 8
    · rw [if_pos hb, if_pos (.inr hb), List.getD_replicate _ (by omega)]
    · rw [if_neg hb]
      by_cases ha : 0x05FF8 ≤ x ∧ x < 0x05FF8 + 8
      · rw [if_pos ha, if_pos (.inl ha), List.getD_replicate _ (by omega)]
      · rw [if_neg ha, if_neg (fun h => h.elim ha hb)]

/-! ### Key-roll commands (R832) -/

/-- GO draws a new challenge and shows the result. -/
def Chip.keyShown (c : Chip) (res : Nat) : Chip := c.draw.1.upUpd (fun u => { u with nonce := c.draw.2, keyResult := res })

theorem Chip.keyRoll_eq {c : Chip} {cmd : List Byte} {res : Nat} (hcmd : cmd = c.bufBytes 0x4080 44) (hres : res = c.keyRollResult cmd) : c.keyRoll =
    if res = 1 then (c.keyShown res).commitUpd { c.upd.record with nextKeyHash := if leAt cmd 2 1 = 1 then slice cmd 16 32 else List.replicate 32 0 }
    else c.keyShown res := by
  subst hres hcmd
  rfl

theorem Chip.keyRoll_refused {c : Chip} {cmd : List Byte} {res : Nat} (hcmd : cmd = c.bufBytes 0x4080 44) (hres : res = c.keyRollResult cmd)
    (h : res ≠ 1) : c.keyRoll.upd.keyResult = res ∧ c.keyRoll.upd.record = c.upd.record ∧ c.keyRoll.upd.nonce ≠ 0 := by
  rw [Chip.keyRoll_eq hcmd hres, if_neg h]
  exact ⟨rfl, rfl, c.draw_ne_zero⟩

theorem Chip.keyRoll_accepted {c : Chip} {cmd : List Byte} {res : Nat} (hcmd : cmd = c.bufBytes 0x4080 44) (hres : res = c.keyRollResult cmd)
    (h : res = 1) : c.keyRoll.upd.keyResult = 1 ∧ c.keyRoll.upd.nonce ≠ 0 ∧
      RecordIs c { c.upd.record with nextKeyHash := if leAt cmd 2 1 = 1 then slice cmd 16 32 else List.replicate 32 0 } c.keyRoll := by
  rw [Chip.keyRoll_eq hcmd hres, if_pos h, Chip.commitUpd_upd]
  exact ⟨h, c.draw_ne_zero, Chip.recordIs_commitUpd rfl rfl _⟩

theorem keyRoll_commands {s : State} {cmd : List Byte} {res : Nat} (hawake : s.chip.awake = true) (hopen : s.chip.hostOpen = true)
    (hcmd : cmd = s.chip.bufBytes 0x4080 44) (hres : res = s.chip.keyRollResult cmd) :
    (s.chip.upd.record.state = 5 ∨ s.chip.started = false → res = 0xA) ∧
    (res ≠ 1 → Gives .setNext s (fun c => c.upd.keyResult = res ∧ c.upd.record = s.chip.upd.record ∧ c.upd.nonce ≠ 0) ∧
      Gives .clearNext s (fun c => c.upd.keyResult = res ∧ c.upd.record = s.chip.upd.record ∧ c.upd.nonce ≠ 0)) ∧
    (res = 1 → leAt cmd 2 1 = 1 → Gives .setNext s (fun c => c.upd.keyResult = 1 ∧ c.upd.nonce ≠ 0 ∧
      RecordIs s.chip { s.chip.upd.record with nextKeyHash := slice cmd 16 32 } c)) ∧
    (res = 1 → leAt cmd 2 1 ≠ 1 → Gives .clearNext s (fun c => c.upd.keyResult = 1 ∧ c.upd.nonce ≠ 0 ∧
      RecordIs s.chip { s.chip.upd.record with nextKeyHash := List.replicate 32 0 } c)) := by
  refine ⟨fun hnotReady => hres.trans (if_pos hnotReady), fun hrefused => ?_, fun haccepted hop => ?_, fun haccepted hop => ?_⟩
  · have hroll := Chip.keyRoll_refused hcmd hres hrefused
    exact ⟨Gives.host (exec_setNext s) hawake hopen hroll, Gives.host (exec_clearNext s) hawake hopen hroll⟩
  · obtain ⟨hresult, hnonce, hrec⟩ := Chip.keyRoll_accepted hcmd hres haccepted
    rw [if_pos hop] at hrec
    exact Gives.host (exec_setNext s) hawake hopen ⟨hresult, hnonce, hrec.follow _⟩
  · obtain ⟨hresult, hnonce, hrec⟩ := Chip.keyRoll_accepted hcmd hres haccepted
    rw [if_neg hop] at hrec
    exact Gives.host (exec_clearNext s) hawake hopen ⟨hresult, hnonce, hrec.follow _⟩

/-! ### Verification's and the trial time's commands -/

theorem verification_commands {s : State} {r : UpdRec} (hawake : s.chip.awake = true) (h : s.chip.mayVerify) (hr : r = s.chip.upd.record) :
    (s.chip.mem.state = .silent → Gives .verification s (fun c => c.upd.record = { r with lastErr := 6 } ∧ c.mram = s.chip.mram)) ∧
    (s.chip.mem.state ≠ .silent → ∀ slot, slot = 1 - s.chip.start.slot →
      (s.chip.mem.imageFault slot = some 2 → Gives .verification s (fun c => c.upd.record = { r with state := 1, bitmap := 0, lastErr := 7 })) ∧
      (∀ k, s.chip.mem.imageFault slot = some k → k ≠ 2 →
        Gives .verification s (fun c => c.upd.record = { r with state := 1, bitmap := 0, lastErr := 1 })) ∧
      (s.chip.mem.imageFault slot = none →
        (s.chip.mem.imageSigned slot s.chip.mram.keys r.nextKeyHash = false →
          Gives .verification s (fun c => c.upd.record = { r with state := 1, bitmap := 0, lastErr := 8 })) ∧
        (s.chip.mem.imageSigned slot s.chip.mram.keys r.nextKeyHash = true →
          (imgLen (s.chip.mem.header slot) + 96 ≠ r.total ∨ imgVersion (s.chip.mem.header slot) ≠ r.version →
            Gives .verification s (fun c => c.upd.record = { r with state := 1, bitmap := 0, lastErr := 1 })) ∧
          (imgLen (s.chip.mem.header slot) + 96 = r.total → imgVersion (s.chip.mem.header slot) = r.version →
            Gives .verification s (fun c => c.upd.record = { r with state := 4 } ∧
              c.mram.bytes = ((s.chip.mram.commit 2 1 ({ r with state := 3 } : UpdRec).body).commit 2 1 ({ r with state := 4 } : UpdRec).body).bytes))))) := by
  subst hr
  refine ⟨fun hsilent => ?_, fun hlive slot hslot => ?_⟩
  · refine Gives.run (exec_verification s) hawake ?_
    rw [Chip.verify_eq h, if_pos hsilent, Chip.updErr_six]
    exact ⟨rfl, rfl⟩
  · have herr := Chip.verifyErr_eq (c := s.chip) hslot
    have hfails {e : Nat} (he : s.chip.verifyErr = some e) :
        Gives .verification s (fun c => c.upd.record = { s.chip.upd.record with state := 1, bitmap := 0, lastErr := e }) :=
      Gives.run (exec_verification s) hawake (Chip.verify_fails h hlive he)
    refine ⟨fun hfault => hfails ?_, fun k hfault hk => hfails ?_, fun hfault => ⟨fun hsigned => hfails ?_, fun hsigned => ⟨fun hdiff => hfails ?_,
      fun htotal hversion => ?_⟩⟩⟩
    · rw [herr, hfault]
      rfl
    · rw [herr, hfault]
      split
      · rename_i heq
        exact absurd (Option.some.inj heq) hk
      · rfl
      · rename_i heq
        cases heq
    · rw [herr, hfault, hsigned]
      rfl
    · rw [herr, hfault, hsigned]
      exact if_pos hdiff
    · refine Gives.run (exec_verification s) hawake (Chip.verify_passes h hlive ?_)
      rw [herr, hfault, hsigned]
      exact if_neg (not_or.mpr ⟨not_not.mpr htotal, not_not.mpr hversion⟩)

theorem trialSecCommit_commands {s : State} {r : UpdRec} (hawake : s.chip.awake = true) (hr : r = s.chip.upd.record) :
    (s.chip.upd.trialRun < 600 → Gives .trialSecCommit s (fun c => c = s.chip.follow s.chip)) ∧
    (600 ≤ s.chip.upd.trialRun → s.chip.upd.trial = true → r.state = 5 → Gives .trialSecCommit s (fun c => c.upd.trialRun = 0 ∧
      RecordIs s.chip { r with trialSec := r.trialSec + s.chip.upd.trialRun } c)) := by
  subst hr
  refine ⟨fun hearly => Gives.run (exec_trialSecCommit s) hawake ?_, fun hdue htrial hstate => Gives.run (exec_trialSecCommit s) hawake ?_⟩
  · rw [if_neg (by rw [decide_eq_true_eq]; omega)]
  · have hgo : (s.chip.upd.trial && decide (s.chip.upd.record.state = 5) && decide (0 < s.chip.upd.trialRun)) = true := by
      rw [htrial, hstate, decide_eq_true (show 0 < s.chip.upd.trialRun by omega)]
      rfl
    rw [if_pos (decide_eq_true hdue), Chip.trialCommit, if_pos hgo]
    refine ⟨?_, (Chip.recordIs_commitUpd (Chip.upUpd_mram _ _) (Chip.upUpd_therm _ _) _).follow _⟩
    rw [Chip.follow_upd, Chip.commitUpd_upd]
    rfl

/-! ### When a trial check passes (R818, R819) -/

theorem Chip.trialPasses_of {c : Chip} {k : Nat} (h : k = 0 ∨ (k = 1 ∧ c.live 0 = true ∧ c.mon.failed.toNat / 16 % 128 = 0) ∨
    (k = 2 ∧ rgPowered c.mode = true ∧ c.tb.mlg = true ∧ c.acq.state = .idle) ∨
    (k = 3 ∧ rcPowered c.mode = true ∧ (c.radio.state = .idle ∨ c.radio.state = .searching)) ∨
    (k = 4 ∧ (c.upd.reported = true ∨ (0 < c.upd.confirmHours ∧ c.upd.confirmHours * 3600 ≤ c.upd.trialSeconds) ∨
      (c.upd.confirmHours = 0 ∧ c.yardIn = false)))) : c.trialPasses k = true := by
  unfold Chip.trialPasses
  rcases h with rfl | ⟨rfl, hlive, hmon⟩ | ⟨rfl, hpower, hlock, hidle⟩ | ⟨rfl, hpower, hidle⟩ | ⟨rfl, hreport⟩
  · rfl
  · rw [hlive, hmon]
    rfl
  · rw [hpower, hlock, hidle]
    rfl
  · rw [hpower, decide_eq_true hidle]
    rfl
  · simp only [Bool.or_eq_true, Bool.and_eq_true, decide_eq_true_eq, Bool.not_eq_true', or_assoc]
    exact hreport

theorem Chip.trialPasses_not {c : Chip} {k : Nat}
    (h : (k = 1 ∧ c.live 0 = false) ∨ (k = 2 ∧ c.tb.mlg = false) ∨ (k = 3 ∧ rcPowered c.mode = false)) : c.trialPasses k = false := by
  unfold Chip.trialPasses
  rcases h with ⟨rfl, hlane⟩ | ⟨rfl, hlock⟩ | ⟨rfl, hpower⟩
  · rw [hlane, Bool.false_and]
    rfl
  · rw [hlock, Bool.and_false, Bool.false_and]
    rfl
  · rw [hpower, Bool.false_and]
    rfl

/-- Settles O53: verification, trial, confirmation, settings and key roll, each by its own lemma. -/
theorem imagesAreVerifiedTriedAndConfirmed : Obligations.ImagesAreVerifiedTriedAndConfirmed := by
  unfold Obligations.ImagesAreVerifiedTriedAndConfirmed
  refine ⟨fun s r hawake hstarted hmode hr hstate hwarn => verification_commands hawake ⟨hstarted, hmode, hr ▸ hstate, hwarn⟩ hr,
    fun s k r hawake hstarted htrial hr hstate hretry hlt hclear => ?_, fun s r hawake hr => trialSecCommit_commands hawake hr,
    fun s hawake hopen => settings_commands hawake hopen, fun s cmd res hawake hopen hcmd hres => keyRoll_commands hawake hopen hcmd hres⟩
  have hcheck : s.chip.mayCheck k := ⟨hstarted, htrial, hr ▸ hstate, hretry, hlt, hr ▸ hclear⟩
  refine ⟨fun hpass => trialCheck_commands hawake hcheck hr (Chip.trialPasses_of hpass), fun hwait => ?_,
    fun hlow hhigh => checkFailed_commands hawake hcheck hr hlow hhigh⟩
  refine Gives.run (exec_trialCheck k s) hawake ?_
  rw [Chip.trialCheck_waits (Chip.trialPasses_not hwait)]

end Sys2Proof.Machine
end

section
/-! SUPPORT. The yard's receiving side: the frame at the head of ring 36, and what the events of the yard leave alone (15 R671, R690). -/

namespace Sys2Proof.Machine

/-! ### Rings that an event does not reach -/

theorem Chip.event_ring_ne (c : Chip) (origin cls idx arg : Nat) {k : Nat} (hk : k ≠ 0) (h2 : k ≠ 2) :
    (c.event origin cls idx arg).ring k = c.ring k := Chip.post2_ring_ne _ _ _ _ _ hk h2

theorem Chip.yardEvent_ring_ne (c : Chip) (idx num : Nat) {k : Nat} (hk : k ≠ 0) (h2 : k ≠ 2) (h44 : k ≠ 44) :
    (c.yardEvent idx num).ring k = c.ring k :=
  (Chip.produce_ring_ne _ _ _ _ _ hk (Ne.symm h44)).trans (Chip.event_ring_ne _ _ _ _ _ hk h2)

theorem Chip.reportEvent_ring_ne (c : Chip) (idx : Nat) {k : Nat} (hk : k ≠ 0) (h2 : k ≠ 2) : (c.reportEvent idx).ring k = c.ring k :=
  Chip.event_ring_ne _ _ _ _ _ hk h2

theorem Chip.postSignal_ring_ne (c : Chip) (origin sig : Nat) {k : Nat} (hk : k ≠ 0) (h2 : k ≠ 2) : (c.postSignal origin sig).ring k = c.ring k := by
  have hpost (d : Chip) : (d.post2 origin 2 sig 0).ring k = d.ring k := Chip.post2_ring_ne _ _ _ _ _ hk h2
  unfold Chip.postSignal
  split
  · split
    · dsimp only
      split
      · rfl
      · exact hpost _
    · exact hpost _
  · rfl

theorem Chip.setTime_ring_ne (c : Chip) (sec sub src : Nat) {k : Nat} (hk : k ≠ 0) (h1 : k ≠ 1) (h2 : k ≠ 2) : (c.setTime sec sub src).ring k = c.ring k := by
  have hrec (d : Chip) (old : Nat) : (d.timeSetRecord old src).ring k = d.ring k := Chip.produce_ring_ne _ _ _ _ _ hk (Ne.symm h1)
  unfold Chip.setTime
  dsimp only
  split
  · exact hrec _ _
  · rw [Chip.postSignal_ring_ne _ _ _ hk h2, hrec]
    rfl

theorem Chip.takeTime_ring_ne (c : Chip) (off : Int) {k : Nat} (hk : k ≠ 0) (h1 : k ≠ 1) (h2 : k ≠ 2) (h44 : k ≠ 44) :
    (c.takeTime off).ring k = c.ring k := by
  unfold Chip.takeTime
  split
  · rfl
  · dsimp only
    rw [Chip.yardEvent_ring_ne _ _ _ hk h2 h44]
    split
    · exact Chip.setTime_ring_ne _ _ _ _ hk h1 h2
    · exact Chip.produce_ring_ne _ _ _ _ _ hk (Ne.symm h1)

theorem foldl_produce_ring_ne (a n : Nat) (es : List Entry) (c : Chip) {k : Nat} (hk : k ≠ 0) (hn : n ≠ k) :
    (es.foldl (fun c e => c.produce a n e) c).ring k = c.ring k :=
  foldl_produce_keeps (fun c => c.ring k) a n (fun c e => Chip.produce_ring_ne c a n k e hk hn) es c

/-! ### What the yard's events leave as it is -/

theorem Chip.noRings_event (c : Chip) (origin cls idx arg : Nat) : (c.event origin cls idx arg).noRings = c.noRings := Chip.noRings_produce _ _ _ _

theorem Chip.noRings_yardEvent (c : Chip) (idx num : Nat) : (c.yardEvent idx num).noRings = c.noRings :=
  (Chip.noRings_produce _ _ _ _).trans (Chip.noRings_event _ _ _ _ _)

theorem Chip.yardEvent_yard (c : Chip) (idx num : Nat) : (c.yardEvent idx num).yard = c.yard := Chip.noRings_yard (Chip.noRings_yardEvent c idx num)
theorem Chip.yardEvent_mram (c : Chip) (idx num : Nat) : (c.yardEvent idx num).mram = c.mram := Chip.noRings_mram (Chip.noRings_yardEvent c idx num)
theorem Chip.yardEvent_keeper (c : Chip) (idx num : Nat) : (c.yardEvent idx num).keeper = c.keeper :=
  Chip.noRings_keeper (Chip.noRings_yardEvent c idx num)
theorem Chip.yardEvent_regs (c : Chip) (idx num : Nat) : (c.yardEvent idx num).regs = c.regs := Chip.noRings_regs (Chip.noRings_yardEvent c idx num)

theorem Chip.reportEvent_yard (c : Chip) (idx : Nat) : (c.reportEvent idx).yard = c.yard :=
  Chip.yard_of_hide (Chip.hide_reportEvent c idx (ps := others .yard) (by decide)) (by decide)

theorem Chip.takeTime_yard (c : Chip) (off : Int) : (c.takeTime off).yard = c.yard :=
  Chip.yard_of_hide (Chip.hide_takeTime c off (ps := others .yard) (by decide)) (by decide)

theorem Chip.takeTime_mram (c : Chip) (off : Int) : (c.takeTime off).mram = c.mram :=
  Chip.mram_of_hide (Chip.hide_takeTime c off (ps := others .mram) (by decide)) (by decide)

/-! ### The frame is consumed -/

/-- Consuming as many entries as a ring holds leaves it empty. -/
theorem Chip.consume_empties {c : Chip} {n k : Nat} (hlt : n < c.rings.rings.length) (h : (c.ring n).fill = k) : ((c.consume n k).ring n).fill = 0 := by
  rw [Chip.ring_consume _ _ _ hlt]
  unfold Ring.fill at h ⊢
  dsimp only
  have hdiff : BitVec.ofNat 16 k = (c.ring n).head - (c.ring n).tail := by rw [← h, BitVec.ofNat_toNat, BitVec.setWidth_eq]
  rw [hdiff]
  bv_omega

/-- A frame of the yard stands alone at the head of ring 36. -/
structure YardFrameAt (c : Chip) (f : RxYard) : Prop where
  yardIn : c.yardIn = true
  head : c.yardHead = some f
  fill : (c.ring 36).fill = itemEntries f.entry
  len : 13 ≤ f.len
  ptype : f.ptype ≤ 9
  mine : c.yardMine f = true

theorem NewFrame.atHead {c : Chip} {f : RxYard} {body : List Byte} (h : NewFrame c f body) : YardFrameAt c f := by
  obtain ⟨hin, hhead, hfill, hlen, hptype, hmine, -⟩ := h
  exact ⟨hin, hhead, hfill, hlen, hptype, hmine⟩

theorem OldFrame.atHead {c : Chip} {f : RxYard} {body : List Byte} (h : OldFrame c f body) : YardFrameAt c f := by
  obtain ⟨hin, hhead, hfill, hlen, hptype, hmine, -⟩ := h
  exact ⟨hin, hhead, hfill, hlen, hptype, hmine⟩

theorem NewFrame.fate {c : Chip} {f : RxYard} {body : List Byte} (h : NewFrame c f body) : c.yardFate f = .fresh body := h.2.2.2.2.2.2
theorem OldFrame.fate {c : Chip} {f : RxYard} {body : List Byte} (h : OldFrame c f body) : c.yardFate f = .dup body := h.2.2.2.2.2.2

/-- The yard engine consumes ring 36, which so is one of the block. -/
theorem YardFrameAt.ring_ne {c : Chip} {f : RxYard} (h : YardFrameAt c f) : c.ring 36 ≠ {} := by
  intro hnone
  have hhead := h.head
  unfold Chip.yardHead at hhead
  rw [hnone, if_pos (by decide)] at hhead
  cases hhead

/-- The frame dropped, ring 36 is empty. -/
theorem YardFrameAt.dropped {c d : Chip} {f : RxYard} (h : YardFrameAt c f) (hring : d.ring 36 = c.ring 36) : ((d.dropHead f).ring 36).fill = 0 := by
  refine Chip.consume_empties (d.ring_lt 36 (by rw [hring]; exact h.ring_ne)) ?_
  rw [hring]
  exact h.fill

theorem Chip.dropHead_ring_ne (c : Chip) (f : RxYard) {k : Nat} (hk : k ≠ 36) : (c.dropHead f).ring k = c.ring k := Chip.ring_upRing_ne _ _ _ _ (Ne.symm hk)

theorem Chip.yardAccept_rings (c : Chip) (f : RxYard) : (c.yardAccept f).rings = c.rings :=
  Chip.rings_of_hide (Chip.hide_yardAccept c f (ps := others .rings) (by decide)) (by decide)

/-- Accepting a frame as new notes it in the replay state and nowhere else. -/
theorem Chip.yardAccept_eq (c : Chip) (f : RxYard) : ∃ l, c.yardAccept f = c.upYard (fun y => { y with replay := l }) := by
  unfold Chip.yardAccept
  split
  · exact ⟨c.yard.replay, rfl⟩
  · split
    · exact ⟨_, rfl⟩
    · exact ⟨_, rfl⟩

/-- The frame taken as new: noted for replays, and consumed. -/
def Chip.taken (c : Chip) (f : RxYard) : Chip := (c.yardAccept f).dropHead f

theorem Chip.taken_yard (c : Chip) (f : RxYard) : ∃ l, (c.taken f).yard = { c.yard with replay := l } := by
  obtain ⟨l, hl⟩ := c.yardAccept_eq f
  refine ⟨l, ?_⟩
  unfold Chip.taken
  rw [hl]
  rfl

theorem YardFrameAt.taken {c : Chip} {f : RxYard} (h : YardFrameAt c f) : ((c.taken f).ring 36).fill = 0 :=
  h.dropped (Chip.ring_of (c.yardAccept_rings f))

theorem Chip.taken_ring_ne (c : Chip) (f : RxYard) {k : Nat} (hk : k ≠ 36) : (c.taken f).ring k = c.ring k :=
  (Chip.dropHead_ring_ne _ _ hk).trans (Chip.ring_of (c.yardAccept_rings f))

theorem Chip.taken_length (c : Chip) (f : RxYard) : (c.taken f).rings.rings.length = c.rings.rings.length := by
  unfold Chip.taken Chip.dropHead Chip.consume
  rw [Chip.len_upRing, c.yardAccept_rings f]

/-- Taking the frame changes ring 36 and the replay state only. -/
theorem Chip.hide_taken (c : Chip) (f : RxYard) {ps : List Part} (h : .rings ∈ ps ∧ .yard ∈ ps) : (c.taken f).hide ps = c.hide ps :=
  (Chip.hide_dropHead _ f h.1).trans (Chip.hide_yardAccept c f h.2)

theorem Chip.taken_keeper (c : Chip) (f : RxYard) : (c.taken f).keeper = c.keeper :=
  Chip.keeper_of_hide (c.hide_taken f (ps := others .keeper) (by decide)) (by decide)
theorem Chip.taken_mram (c : Chip) (f : RxYard) : (c.taken f).mram = c.mram :=
  Chip.mram_of_hide (c.hide_taken f (ps := others .mram) (by decide)) (by decide)
theorem Chip.taken_power (c : Chip) (f : RxYard) : (c.taken f).power = c.power :=
  Chip.power_of_hide (c.hide_taken f (ps := others .power) (by decide)) (by decide)
theorem Chip.taken_girth (c : Chip) (f : RxYard) : (c.taken f).girth = c.girth :=
  Chip.girth_of_hide (c.hide_taken f (ps := others .girth) (by decide)) (by decide)

/-! ### A row of the frame (R671, R690) -/

/-- An empty ring 36 is left as it is. -/
theorem Chip.yardSift_empty {c : Chip} (h : (c.ring 36).fill = 0) : c.yardSift = c := by
  unfold Chip.yardSift
  rw [h]
  rfl

theorem Chip.sift_none {c : Chip} (h : c.sift1 = none) (n : Nat) : Chip.sift n c = c := by
  cases n with
  | zero => rfl
  | succ n =>
    unfold Chip.sift
    rw [h]

/-- No row but its own takes the frame: its PTYPE is of the yard, and a command's opcode is known. -/
def RxYard.known (f : RxYard) (body : List Byte) : Prop := f.ptype ≠ 0 ∧ (f.ptype = 4 → unknownOp body = false)

theorem Chip.yardSift_new {c : Chip} {f : RxYard} {body : List Byte} (h : NewFrame c f body) (hf : f.known body) : c.yardSift = c := by
  refine Chip.sift_none ?_ _
  obtain ⟨hzero, hop⟩ := hf
  unfold Chip.sift1
  rw [h.atHead.yardIn, if_neg (by decide), h.atHead.head]
  dsimp only
  rw [if_neg (show ¬ (f.len < 13 ∨ f.ptype = 0 ∨ 9 < f.ptype) from fun hbad => by have := h.atHead.len; have := h.atHead.ptype; omega), h.fate]
  dsimp only
  rw [h.atHead.mine, if_neg (by decide), if_neg (fun hunknown => by rw [hop hunknown.1] at hunknown; exact Bool.false_ne_true hunknown.2)]

theorem Chip.yardSift_old {c : Chip} {f : RxYard} {body : List Byte} (h : OldFrame c f body) (hf : f.known body) : c.yardSift = c := by
  refine Chip.sift_none ?_ _
  obtain ⟨hzero, hop⟩ := hf
  unfold Chip.sift1
  rw [h.atHead.yardIn, if_neg (by decide), h.atHead.head]
  dsimp only
  rw [if_neg (show ¬ (f.len < 13 ∨ f.ptype = 0 ∨ 9 < f.ptype) from fun hbad => by have := h.atHead.len; have := h.atHead.ptype; omega), h.fate]
  dsimp only
  rw [h.atHead.mine, if_neg (by decide), if_neg (fun hunknown => by rw [hop hunknown.1] at hunknown; exact Bool.false_ne_true hunknown.2)]

/-- The row of a new frame acts on it, once. -/
theorem Chip.yardRow_new {c : Chip} {f : RxYard} {body : List Byte} {p : Nat} {act : Chip → RxYard → List Byte → Bool → Chip} (h : NewFrame c f body)
    (hf : f.known body) (hp : f.ptype = p) (hempty : ((act c f body false).ring 36).fill = 0) : c.yardRow p act = act c f body false := by
  unfold Chip.yardRow
  dsimp only
  rw [h.atHead.yardIn, if_neg (by decide), Chip.yardSift_new h hf, h.atHead.head]
  dsimp only
  rw [if_pos ⟨hp, h.atHead.mine⟩, h.fate]
  exact Chip.yardSift_empty hempty

theorem Chip.yardRow_old {c : Chip} {f : RxYard} {body : List Byte} {p : Nat} {act : Chip → RxYard → List Byte → Bool → Chip} (h : OldFrame c f body)
    (hf : f.known body) (hp : f.ptype = p) (hempty : ((act c f body true).ring 36).fill = 0) : c.yardRow p act = act c f body true := by
  unfold Chip.yardRow
  dsimp only
  rw [h.atHead.yardIn, if_neg (by decide), Chip.yardSift_old h hf, h.atHead.head]
  dsimp only
  rw [if_pos ⟨hp, h.atHead.mine⟩, h.fate]
  exact Chip.yardSift_empty hempty

theorem RxYard.known_of {f : RxYard} {p : Nat} (hp : f.ptype = p) (h0 : p ≠ 0) (h4 : p ≠ 4) (body : List Byte) : f.known body :=
  ⟨hp ▸ h0, fun h => absurd (hp.symm.trans h) h4⟩

/-- What a command of a row does with a new frame, when the act leaves ring 36 empty. -/
theorem Gives.yardNew {i : Instr} {s : State} {p : Nat} {act : Chip → RxYard → List Byte → Bool → Chip} {f : RxYard} {body : List Byte}
    {P : Chip → Prop} (hexec : exec i s = s.run (fun c => c.yardRow p act)) (hawake : s.chip.awake = true) (h : NewFrame s.chip f body)
    (hf : f.known body) (hp : f.ptype = p) (hempty : ((act s.chip f body false).ring 36).fill = 0)
    (hP : P ((act s.chip f body false).follow s.chip)) : Gives i s P := by
  refine Gives.run hexec hawake ?_
  rw [Chip.yardRow_new h hf hp hempty]
  exact hP

theorem Gives.yardOld {i : Instr} {s : State} {p : Nat} {act : Chip → RxYard → List Byte → Bool → Chip} {f : RxYard} {body : List Byte}
    {P : Chip → Prop} (hexec : exec i s = s.run (fun c => c.yardRow p act)) (hawake : s.chip.awake = true) (h : OldFrame s.chip f body)
    (hf : f.known body) (hp : f.ptype = p) (hempty : ((act s.chip f body true).ring 36).fill = 0)
    (hP : P ((act s.chip f body true).follow s.chip)) : Gives i s P := by
  refine Gives.run hexec hawake ?_
  rw [Chip.yardRow_old h hf hp hempty]
  exact hP

end Sys2Proof.Machine
end

section
/-! SUPPORT. What a member does with the frame at the head of ring 36 (15 R683, R690, R691, R696, R699, R701, R704, R706, R709). -/

namespace Sys2Proof.Machine

theorem exec_beacon (s : State) : exec .beacon s = s.run (fun c => c.yardRow 1 Chip.beaconRow) := rfl
theorem exec_alarm (s : State) : exec .alarm s = s.run (fun c => c.yardRow 5 Chip.alarmRow) := rfl
theorem exec_alarmAck (s : State) : exec .alarmAck s = s.run (fun c => c.yardRow 6 Chip.alarmAckRow) := rfl
theorem exec_buckleOffer (s : State) : exec .buckleOffer s = s.run (fun c => c.yardRow 8 Chip.offerRow) := rfl

/-! ### The beacon (R683, R696) -/

theorem Chip.takeTime_sets {c : Chip} (h : c.keeper.valid = false) (off : Int) :
    (c.takeTime off).keeper.valid = true ∧ (c.takeTime off).keeper.tsrc = 2 := by
  unfold Chip.takeTime
  dsimp only
  rw [h, if_neg (show ¬ (false && decide (c.keeper.tsrc = 3) && c.timeUnc.any (fun u => decide (u ≤ 1000))) = true from Bool.false_ne_true),
    Chip.yardEvent_keeper, if_pos (show (!false || decide (66 ≤ off) || decide (off ≤ -66)) = true from rfl), Chip.setTime_keeper]
  exact ⟨rfl, rfl⟩

/-- The frame acknowledged, the beacon's own words stay. -/
theorem Chip.acked_keeps (c : Chip) : c.acked.yard.beaconHeard = c.yard.beaconHeard ∧ c.acked.yard.openSlot = c.yard.openSlot ∧
    c.acked.yard.downSlot = c.yard.downSlot := by
  unfold Chip.acked
  dsimp only
  split
  · rw [Chip.yardEvent_yard]
    exact ⟨rfl, rfl, rfl⟩
  · split
    · rw [Chip.reportEvent_yard]
      exact ⟨rfl, rfl, rfl⟩
    · split
      · split
        · rw [Chip.yardEvent_yard]
          exact ⟨rfl, rfl, rfl⟩
        · exact ⟨rfl, rfl, rfl⟩
      · exact ⟨rfl, rfl, rfl⟩

theorem Chip.acked_ring_ne (c : Chip) {k : Nat} (hk : k ≠ 0) (h2 : k ≠ 2) (h44 : k ≠ 44) : c.acked.ring k = c.ring k := by
  unfold Chip.acked
  dsimp only
  split
  · exact Chip.yardEvent_ring_ne _ _ _ hk h2 h44
  · split
    · exact Chip.reportEvent_ring_ne _ _ hk h2
    · split
      · split
        · exact Chip.yardEvent_ring_ne _ _ _ hk h2 h44
        · rfl
      · rfl

theorem Chip.acked_keeper (c : Chip) : c.acked.keeper = c.keeper :=
  Chip.keeper_of_hide (Chip.hide_acked c (ps := others .keeper) (by decide)) (by decide)

theorem Chip.acked_report {c : Chip} (h : c.yard.lastSent = 2) : c.acked.yard.report = none := by
  unfold Chip.acked
  dsimp only
  rw [h, if_neg (by decide), if_pos rfl, Chip.reportEvent_yard]
  rfl

theorem Chip.acked_confirm {c : Chip} (h : c.yard.lastSent = 9) : c.acked.yard.confirm = none ∧ c.acked.yard.member = true := by
  unfold Chip.acked
  dsimp only
  rw [h, if_pos rfl, Chip.yardEvent_yard]
  exact ⟨rfl, rfl⟩

/-- The beacon's time and open yard slot taken. -/
def Chip.beaconTaken (c : Chip) (f : RxYard) (body : List Byte) : Chip :=
  ((c.taken f).takeTime (c.beaconOffset f body)).upYard (fun y => { y with
    beaconHeard := true, openSlot := if (leAt body 12 1).testBit 1 then leAt body 13 1 else 0 })

theorem Chip.beaconTaken_yard (c : Chip) (f : RxYard) (body : List Byte) : ∃ l, (c.beaconTaken f body).yard = { c.yard with
    replay := l, beaconHeard := true, openSlot := if (leAt body 12 1).testBit 1 then leAt body 13 1 else 0 } := by
  obtain ⟨l, hl⟩ := c.taken_yard f
  refine ⟨l, ?_⟩
  unfold Chip.beaconTaken
  rw [Chip.upYard_yard, Chip.takeTime_yard, hl]

theorem Chip.beaconTaken_number (c : Chip) (f : RxYard) (body : List Byte) : (c.beaconTaken f body).yardNumber = c.yardNumber := by
  obtain ⟨l, hl⟩ := c.beaconTaken_yard f body
  have hmram : (c.beaconTaken f body).mram = c.mram := (Chip.takeTime_mram _ _).trans (c.taken_mram f)
  unfold Chip.yardNumber
  rw [hl, hmram]

theorem Chip.beaconTaken_ring (c : Chip) (f : RxYard) (body : List Byte) : (c.beaconTaken f body).ring 36 = (c.taken f).ring 36 :=
  Chip.takeTime_ring_ne _ _ (by decide) (by decide) (by decide) (by decide)

theorem Chip.beaconTaken_sets {c : Chip} (h : c.keeper.valid = false) (f : RxYard) (body : List Byte) :
    (c.beaconTaken f body).keeper.valid = true ∧ (c.beaconTaken f body).keeper.tsrc = 2 :=
  Chip.takeTime_sets (c := c.taken f) (by rw [Chip.taken_keeper]; exact h) _

/-- The beacon with the DOWN pair of a unit that has a number. -/
def Chip.beaconNamed (c : Chip) (f : RxYard) (body : List Byte) (n : Nat) : Chip := (c.beaconTaken f body).upYard (fun y => { y with downSlot := downFor body n })

theorem Chip.beaconRow_eq (c : Chip) (f : RxYard) (body : List Byte) : c.beaconRow f body false = c.yardNumber.elim (c.beaconTaken f body)
    (fun n => if ackBit body n && decide (c.yard.lastSent ≠ 0) then (c.beaconNamed f body n).acked else c.beaconNamed f body n) := by
  have hrow : c.beaconRow f body false = (c.beaconTaken f body).yardNumber.elim (c.beaconTaken f body)
      (fun n => if ackBit body n && decide ((c.beaconNamed f body n).yard.lastSent ≠ 0) then (c.beaconNamed f body n).acked
        else c.beaconNamed f body n) := by
    unfold Chip.beaconRow
    rw [if_neg Bool.false_ne_true]
    cases h : (c.beaconTaken f body).yardNumber with
    | none =>
      unfold Chip.beaconTaken at h ⊢
      unfold Chip.taken at h ⊢
      dsimp only
      rw [h]
      rfl
    | some n =>
      unfold Chip.beaconNamed
      unfold Chip.beaconTaken at h ⊢
      unfold Chip.taken at h ⊢
      dsimp only
      rw [h]
      rfl
  obtain ⟨l, hl⟩ := c.beaconTaken_yard f body
  have hlast (n : Nat) : (c.beaconNamed f body n).yard.lastSent = c.yard.lastSent := by
    unfold Chip.beaconNamed
    rw [Chip.upYard_yard, hl]
  rw [hrow, Chip.beaconTaken_number]
  simp only [hlast]

theorem beacon_new {s : State} {f : RxYard} {body : List Byte} (hawake : s.chip.awake = true) (h : NewFrame s.chip f body) (hp : f.ptype = 1) :
    Gives .beacon s (fun c => c.yard.beaconHeard = true ∧ (c.ring 36).fill = 0 ∧
        c.yard.openSlot = (if (leAt body 12 1).testBit 1 then leAt body 13 1 else 0) ∧
        (s.chip.keeper.valid = false → c.keeper.valid = true ∧ c.keeper.tsrc = 2) ∧
        (∀ n, s.chip.yardNumber = some n → c.yard.downSlot = downFor body n ∧
          (ackBit body n = true → s.chip.yard.lastSent = 2 → c.yard.report = none) ∧
          (ackBit body n = true → s.chip.yard.lastSent = 9 → c.yard.confirm = none ∧ c.yard.member = true) ∧
          (ackBit body n = false → c.yard.report = s.chip.yard.report ∧ c.yard.confirm = s.chip.yard.confirm))) := by
  obtain ⟨l, hl⟩ := s.chip.beaconTaken_yard f body
  have hempty : ((s.chip.beaconTaken f body).ring 36).fill = 0 := by rw [Chip.beaconTaken_ring]; exact h.atHead.taken
  have htime (hv : s.chip.keeper.valid = false) := Chip.beaconTaken_sets hv f body
  cases hnumber : s.chip.yardNumber with
  | none =>
    have hrow : s.chip.beaconRow f body false = s.chip.beaconTaken f body := by rw [Chip.beaconRow_eq, hnumber]; rfl
    refine Gives.yardNew (exec_beacon s) hawake h (RxYard.known_of hp (by decide) (by decide) _) hp (by rw [hrow]; exact hempty) ?_
    rw [hrow, Chip.follow_yard, Chip.follow_keeper, Chip.ring_follow, hl]
    exact ⟨rfl, hempty, rfl, htime, fun n hn => by cases hn⟩
  | some n =>
    have hnamed : (s.chip.beaconNamed f body n).yard = { (s.chip.beaconTaken f body).yard with downSlot := downFor body n } := rfl
    by_cases hack : (ackBit body n && decide (s.chip.yard.lastSent ≠ 0)) = true
    · have hrow : s.chip.beaconRow f body false = (s.chip.beaconNamed f body n).acked := by
        rw [Chip.beaconRow_eq, hnumber]
        exact if_pos hack
      have hring : (s.chip.beaconNamed f body n).acked.ring 36 = (s.chip.beaconTaken f body).ring 36 :=
        Chip.acked_ring_ne _ (by decide) (by decide) (by decide)
      have hlast : (s.chip.beaconNamed f body n).yard.lastSent = s.chip.yard.lastSent := by rw [hnamed, hl]
      obtain ⟨hheard, hopen, hdown⟩ := (s.chip.beaconNamed f body n).acked_keeps
      refine Gives.yardNew (exec_beacon s) hawake h (RxYard.known_of hp (by decide) (by decide) _) hp (by rw [hrow, hring]; exact hempty) ?_
      rw [hrow, Chip.follow_yard, Chip.follow_keeper, Chip.ring_follow, hring, hheard, hopen, hdown, Chip.acked_keeper, hnamed, hl]
      refine ⟨rfl, hempty, rfl, htime, fun m hm => ?_⟩
      cases hm
      refine ⟨rfl, fun _ hsent => Chip.acked_report (hlast.trans hsent), fun _ hsent => Chip.acked_confirm (hlast.trans hsent), fun hno => ?_⟩
      rw [hno] at hack
      cases hack
    · have hrow : s.chip.beaconRow f body false = s.chip.beaconNamed f body n := by
        rw [Chip.beaconRow_eq, hnumber]
        exact if_neg hack
      refine Gives.yardNew (exec_beacon s) hawake h (RxYard.known_of hp (by decide) (by decide) _) hp (by rw [hrow]; exact hempty) ?_
      rw [hrow, Chip.follow_yard, Chip.follow_keeper, Chip.ring_follow, hnamed, hl]
      refine ⟨rfl, hempty, rfl, htime, fun m hm => ?_⟩
      cases hm
      refine ⟨rfl, fun hbit hsent => ?_, fun hbit hsent => ?_, fun _ => ⟨rfl, rfl⟩⟩
      · rw [hbit, hsent] at hack
        exact absurd rfl hack
      · rw [hbit, hsent] at hack
        exact absurd rfl hack

/-! ### Alarms, ALARM_ACK and offers (R704, R706, R709) -/

theorem Chip.alarmRow_member {c : Chip} (hmember : c.yard.sec.lead = false) (f : RxYard) (body : List Byte) :
    c.alarmRow f body false = (c.taken f).relayAlarm body := by
  unfold Chip.alarmRow
  rw [hmember]
  rfl

theorem Chip.relayAlarm_rings (c : Chip) (body : List Byte) : (c.relayAlarm body).rings = c.rings :=
  Chip.rings_of_hide (Chip.hide_relayAlarm c body (ps := others .rings) (by decide)) (by decide)

/-- A new pair is noted, and relayed where this member relays. -/
theorem Chip.relayAlarm_new {c : Chip} {body : List Byte} (h : c.yard.seenAlarms.contains (leAt body 1 1, leAt body 0 1) = false) :
    (c.relayAlarm body).yard = { c.yard with
      seenAlarms := ((leAt body 1 1, leAt body 0 1) :: c.yard.seenAlarms).take 16,
      relay := if c.miniOn && decide (leAt body 2 1 < 3) && !c.yard.ackedAlarms.contains (leAt body 1 1, leAt body 0 1) then
          some { origin := leAt body 1 1, id := leAt body 0 1, hops := leAt body 2 1 + 1, rule := leAt body 3 1, theft := leAt body 4 1 }
        else c.yard.relay } := by
  unfold Chip.relayAlarm
  dsimp only
  rw [h, Bool.not_false, Bool.and_true, if_neg Bool.false_ne_true]
  split
  · rfl
  · rfl

theorem Chip.miniOn_congr {c d : Chip} (hmini : d.yard.miniListen = c.yard.miniListen) (hpower : d.power = c.power) : d.miniOn = c.miniOn := by
  unfold Chip.miniOn
  rw [hmini, hpower]

theorem alarm_new {s : State} {f : RxYard} {body : List Byte} (hawake : s.chip.awake = true) (hmember : s.chip.yard.sec.lead = false)
    (h : NewFrame s.chip f body) (hp : f.ptype = 5)
    (hnew : s.chip.yard.seenAlarms.contains (leAt body 1 1, leAt body 0 1) = false) :
    (s.chip.miniOn = true → leAt body 2 1 < 3 → s.chip.yard.ackedAlarms.contains (leAt body 1 1, leAt body 0 1) = false →
          Gives .alarm s (fun c =>
            c.yard.relay = some { origin := leAt body 1 1, id := leAt body 0 1, hops := leAt body 2 1 + 1, rule := leAt body 3 1, theft := leAt body 4 1 } ∧
            c.yard.seenAlarms.head? = some (leAt body 1 1, leAt body 0 1))) ∧
        (3 ≤ leAt body 2 1 → Gives .alarm s (fun c => c.yard.relay = s.chip.yard.relay ∧
          c.yard.seenAlarms.head? = some (leAt body 1 1, leAt body 0 1))) := by
  obtain ⟨l, hl⟩ := s.chip.taken_yard f
  have hempty : ((s.chip.alarmRow f body false).ring 36).fill = 0 := by
    rw [Chip.alarmRow_member hmember, Chip.ring_of (Chip.relayAlarm_rings _ _)]
    exact h.atHead.taken
  have hmini : (s.chip.taken f).miniOn = s.chip.miniOn := Chip.miniOn_congr (by rw [hl]) (s.chip.taken_power f)
  have hyard := Chip.relayAlarm_new (c := s.chip.taken f) (body := body) (by rw [hl]; exact hnew)
  rw [hmini, hl] at hyard
  have hrow {P : Chip → Prop} (hP : P (((s.chip.taken f).relayAlarm body).follow s.chip)) : Gives .alarm s P :=
    Gives.yardNew (exec_alarm s) hawake h (RxYard.known_of hp (by decide) (by decide) _) hp hempty (by rw [Chip.alarmRow_member hmember]; exact hP)
  refine ⟨fun hon hhops hacked => hrow ?_, fun hhops => hrow ?_⟩
  · rw [Chip.follow_yard, hyard]
    refine ⟨if_pos ?_, rfl⟩
    dsimp only
    rw [hon, hacked, decide_eq_true hhops]
    rfl
  · rw [Chip.follow_yard, hyard]
    refine ⟨if_neg ?_, rfl⟩
    rw [decide_eq_false (by omega), Bool.and_false, Bool.false_and]
    exact Bool.false_ne_true

/-- ALARM_ACK of a pair ends the alarm of that pair. -/
theorem Chip.alarmAckRow_yard (c : Chip) (f : RxYard) (body : List Byte) :
    (c.alarmAckRow f body false).yard.ackedAlarms.head? = some (leAt body 0 1, leAt body 1 1) ∧
      ∀ a : Alarm, c.yard.alarm = some a →
        (a.origin = leAt body 0 1 → a.id = leAt body 1 1 → (c.alarmAckRow f body false).yard.alarm = none) ∧
        (a.id ≠ leAt body 1 1 → (c.alarmAckRow f body false).yard.alarm = some a) := by
  obtain ⟨l, hl⟩ := c.taken_yard f
  have hrow : (c.alarmAckRow f body false).yard = { (c.taken f).yard with
      alarm := if (c.taken f).yard.alarm.any (fun a => decide (a.origin = leAt body 0 1) && decide (a.id = leAt body 1 1)) then none
        else (c.taken f).yard.alarm,
      relay := if (c.taken f).yard.relay.any (fun a => decide (a.origin = leAt body 0 1) && decide (a.id = leAt body 1 1)) then none
        else (c.taken f).yard.relay,
      ackedAlarms := ((leAt body 0 1, leAt body 1 1) :: (c.taken f).yard.ackedAlarms).take 16 } := rfl
  rw [hrow, hl]
  refine ⟨rfl, fun a ha => ⟨fun horigin hid => ?_, fun hid => ?_⟩⟩
  · dsimp only
    rw [ha]
    exact if_pos (by rw [Option.any_some, decide_eq_true horigin, decide_eq_true hid]; rfl)
  · dsimp only
    rw [ha]
    exact if_neg (by rw [Option.any_some, decide_eq_false hid, Bool.and_false]; exact Bool.false_ne_true)

theorem alarmAck_new {s : State} {f : RxYard} {body : List Byte} (hawake : s.chip.awake = true) (h : NewFrame s.chip f body) (hp : f.ptype = 6) :
    Gives .alarmAck s (fun c => c.yard.ackedAlarms.head? = some (leAt body 0 1, leAt body 1 1) ∧ (c.ring 36).fill = 0 ∧
        ∀ a : Alarm, s.chip.yard.alarm = some a →
          (a.origin = leAt body 0 1 → a.id = leAt body 1 1 → c.yard.alarm = none) ∧ (a.id ≠ leAt body 1 1 → c.yard.alarm = some a)) := by
  have hempty : ((s.chip.alarmAckRow f body false).ring 36).fill = 0 := h.atHead.taken
  obtain ⟨hacked, halarm⟩ := s.chip.alarmAckRow_yard f body
  exact Gives.yardNew (exec_alarmAck s) hawake h (RxYard.known_of hp (by decide) (by decide) _) hp hempty ⟨hacked, hempty, halarm⟩

/-- An offer for this UID: the number and the ERA are committed, and the confirm waits. -/
theorem Chip.offerRow_mine {c : Chip} {body : List Byte} (huid : leAt body 0 8 = c.start.uid.toNat) (f : RxYard) (dup : Bool) :
    (c.offerRow f body dup).mram.keys.yard.number = some (leAt body 8 1) ∧
      (c.offerRow f body dup).mram.keys.yard.era = max c.era (leAt body 9 2) ∧ (c.offerRow f body dup).yard.buckle = .offered ∧
      (c.offerRow f body dup).yard.counters = [] ∧ (c.offerRow f body dup).rings = (c.dropHead f).rings ∧
      ∃ g : YardFrame, (c.offerRow f body dup).yard.confirm = some g ∧ g.ptype = 9 ∧ g.ackReq = true := by
  have hera : (c.dropHead f).era = c.era := rfl
  unfold Chip.offerRow
  dsimp only
  rw [if_neg (show ¬ (leAt body 0 8 ≠ c.start.uid.toNat) from fun hne => hne huid), ← hera]
  exact ⟨rfl, rfl, rfl, rfl, rfl, _, rfl, rfl, rfl⟩

theorem Chip.offerRow_other {c : Chip} {body : List Byte} (huid : leAt body 0 8 ≠ c.start.uid.toNat) (f : RxYard) (dup : Bool) :
    c.offerRow f body dup = c.dropHead f := by
  unfold Chip.offerRow
  dsimp only
  rw [if_pos huid]

theorem offer_new {s : State} {f : RxYard} {body : List Byte} (hawake : s.chip.awake = true) (h : NewFrame s.chip f body) (hp : f.ptype = 8) :
    (leAt body 0 8 = s.chip.start.uid.toNat → Gives .buckleOffer s (fun c => c.mram.keys.yard.number = some (leAt body 8 1) ∧
          c.mram.keys.yard.era = max s.chip.era (leAt body 9 2) ∧ c.yard.buckle = .offered ∧ c.yard.counters = [] ∧
          ∃ g : YardFrame, c.yard.confirm = some g ∧ g.ptype = 9 ∧ g.ackReq = true)) ∧
        (leAt body 0 8 ≠ s.chip.start.uid.toNat → Gives .buckleOffer s (fun c => c.mram = s.chip.mram ∧ c.yard = s.chip.yard)) := by
  have hdrop : (((s.chip.dropHead f).ring 36)).fill = 0 := h.atHead.dropped rfl
  have hknown := RxYard.known_of hp (by decide) (by decide) body
  refine ⟨fun huid => ?_, fun huid => ?_⟩
  · obtain ⟨hnumber, hera, hbuckle, hcounters, hrings, hconfirm⟩ := Chip.offerRow_mine huid f false
    refine Gives.yardNew (exec_buckleOffer s) hawake h hknown hp (by rw [Chip.ring_of hrings]; exact hdrop) ?_
    rw [Chip.follow_mram, Chip.follow_yard]
    exact ⟨hnumber, hera, hbuckle, hcounters, hconfirm⟩
  · refine Gives.yardNew (exec_buckleOffer s) hawake h hknown hp (by rw [Chip.offerRow_other huid]; exact hdrop) ?_
    rw [Chip.offerRow_other huid]
    exact ⟨rfl, rfl⟩

end Sys2Proof.Machine
end

section
/-! SUPPORT. Downlink commands at a member (15 R690, R691, R699, R701), and the statement on members. -/

namespace Sys2Proof.Machine

/-- What a command row does with the frame: the row of its OPCODE executes or answers it. -/
def commandAct (op : Nat) (act : Chip → Nat → List Byte → Chip × Nat × List Byte) (c : Chip) (f : RxYard) (body : List Byte) (dup : Bool) : Chip :=
  if leAt body 0 1 ≠ op then c else if dup then c.dupCommand f else c.command f body act

theorem exec_theftClear (s : State) : exec .theftClear s = s.run (fun c => c.yardRow 4 (commandAct 1 Chip.doTheftClear)) := rfl
theorem exec_updateData (s : State) : exec .updateData s = s.run (fun c => c.yardRow 4 (commandAct 2 Chip.doUpdateData)) := rfl
theorem exec_yardHostEvent (s : State) : exec .yardHostEvent s = s.run (fun c => c.yardRow 4 (commandAct 3 Chip.doHostEvent)) := rfl
theorem exec_requestReport (s : State) : exec .requestReport s = s.run (fun c => c.yardRow 4 (commandAct 4 Chip.doRequestReport)) := rfl
theorem exec_rebuckle (s : State) : exec .rebuckle s = s.run (fun c => c.yardRow 4 (commandAct 5 Chip.doRebuckle)) := rfl

/-! ### The answer (R699, R701) -/

/-- An answer is stored with its command and queued, and touches nothing else. -/
theorem Chip.answerCommand_yard (c : Chip) (f : RxYard) (op res : Nat) (data : List Byte) : ∃ l, (c.answerCommand f op res data).yard = { c.yard with
    replay := l, replies := c.yard.replies ++ [{ ptype := 3, dst := 0, seq := 0, body := replyBody op res f.seq data, ackReq := true,
                                                 notBefore := c.keeper.units + 8192 }] } := ⟨_, rfl⟩

theorem Chip.answerCommand_rings (c : Chip) (f : RxYard) (op res : Nat) (data : List Byte) : (c.answerCommand f op res data).rings = c.rings := rfl
theorem Chip.answerCommand_mram (c : Chip) (f : RxYard) (op res : Nat) (data : List Byte) : (c.answerCommand f op res data).mram = c.mram := rfl
theorem Chip.answerCommand_keeper (c : Chip) (f : RxYard) (op res : Nat) (data : List Byte) : (c.answerCommand f op res data).keeper = c.keeper := rfl
theorem Chip.answerCommand_regs (c : Chip) (f : RxYard) (op res : Nat) (data : List Byte) : (c.answerCommand f op res data).regs = c.regs := rfl

/-- A block that has executed a command in a state: ring 36 is empty, and the replies and the keeper time are those of that state. -/
structure Executed (s : State) (d : Chip) : Prop where
  fill : (d.ring 36).fill = 0
  replies : d.yard.replies = s.chip.yard.replies
  units : d.keeper.units = s.chip.keeper.units

theorem Executed.answered {s : State} {d : Chip} (h : Executed s d) (f : RxYard) (op res : Nat) (data : List Byte) (w : Chip) :
    Answered s f op res data ((d.answerCommand f op res data).follow w) := by
  obtain ⟨l, hl⟩ := d.answerCommand_yard f op res data
  unfold Answered
  rw [Chip.follow_yard, Chip.ring_follow, hl, h.replies, h.units, Chip.ring_of (d.answerCommand_rings f op res data)]
  exact ⟨rfl, h.fill⟩

theorem YardFrameAt.executed {s : State} {f : RxYard} (h : YardFrameAt s.chip f) : Executed s (s.chip.taken f) := by
  obtain ⟨l, hl⟩ := s.chip.taken_yard f
  exact ⟨h.taken, by rw [hl], by rw [Chip.taken_keeper]⟩

/-- The age of a command is told by the keeper time. -/
theorem Chip.commandFresh_congr {c d : Chip} (h : d.keeper = c.keeper) (body : List Byte) : d.commandFresh body = c.commandFresh body := by
  unfold Chip.commandFresh Chip.timeLo
  rw [h]

theorem known_command {f : RxYard} {body : List Byte} {op : Nat} (hp : f.ptype = 4) (hop : leAt body 0 1 = op) (hlow : 1 ≤ op) (hhigh : op ≤ 5) :
    f.known body := by
  refine ⟨by omega, fun _ => ?_⟩
  unfold unknownOp
  rw [hop]
  have hcases : op = 1 ∨ op = 2 ∨ op = 3 ∨ op = 4 ∨ op = 5 := by omega
  rcases hcases with rfl | rfl | rfl | rfl | rfl
  · rfl
  · rfl
  · rfl
  · rfl
  · rfl

/-- A fresh command is executed by its row, and answered. -/
theorem Gives.command {i : Instr} {s : State} {op : Nat} {act : Chip → Nat → List Byte → Chip × Nat × List Byte} {f : RxYard} {body : List Byte}
    {d : Chip} {res : Nat} {data : List Byte} {P : Chip → Prop} (hexec : exec i s = s.run (fun c => c.yardRow 4 (commandAct op act)))
    (hlow : 1 ≤ op) (hhigh : op ≤ 5) (hawake : s.chip.awake = true) (h : NewFrame s.chip f body) (hp : f.ptype = 4) (hop : leAt body 0 1 = op)
    (hfresh : s.chip.commandFresh body = true) (hact : act (s.chip.taken f) (leAt body 1 1) (body.drop 6) = (d, res, data)) (hd : Executed s d)
    (hP : P ((d.answerCommand f op res data).follow s.chip)) : Gives i s P := by
  have hrow : commandAct op act s.chip f body false = d.answerCommand f op res data := by
    have hnow : (s.chip.taken f).commandFresh body = true := (Chip.commandFresh_congr (s.chip.taken_keeper f) body).trans hfresh
    unfold commandAct
    rw [if_neg (fun hne => hne hop), if_neg Bool.false_ne_true]
    unfold Chip.command
    unfold Chip.taken at hact hnow
    dsimp only
    rw [hnow, if_pos rfl, hact, hop]
  refine Gives.yardNew hexec hawake h (known_command hp hop hlow hhigh) hp ?_ ?_
  · rw [hrow, Chip.ring_of (Chip.answerCommand_rings _ _ _ _ _)]
    exact hd.fill
  · rw [hrow]
    exact hP

/-- A command that is not fresh is answered RESULT 2 (R691). -/
theorem Gives.commandStale {i : Instr} {s : State} {op : Nat} {act : Chip → Nat → List Byte → Chip × Nat × List Byte} {f : RxYard} {body : List Byte}
    {P : Chip → Prop} (hexec : exec i s = s.run (fun c => c.yardRow 4 (commandAct op act)))
    (hlow : 1 ≤ op) (hhigh : op ≤ 5) (hawake : s.chip.awake = true) (h : NewFrame s.chip f body) (hp : f.ptype = 4) (hop : leAt body 0 1 = op)
    (hstale : s.chip.commandFresh body = false) (hP : P (((s.chip.taken f).answerCommand f op 2 []).follow s.chip)) : Gives i s P := by
  have hrow : commandAct op act s.chip f body false = (s.chip.taken f).answerCommand f op 2 [] := by
    have hnow : (s.chip.taken f).commandFresh body = false := (Chip.commandFresh_congr (s.chip.taken_keeper f) body).trans hstale
    unfold commandAct
    rw [if_neg (fun hne => hne hop), if_neg Bool.false_ne_true]
    unfold Chip.command
    unfold Chip.taken at hnow ⊢
    dsimp only
    rw [hnow, if_neg Bool.false_ne_true, hop]
  refine Gives.yardNew hexec hawake h (known_command hp hop hlow hhigh) hp ?_ ?_
  · rw [hrow, Chip.ring_of (Chip.answerCommand_rings _ _ _ _ _)]
    exact h.atHead.taken
  · rw [hrow]
    exact hP

/-! ### Entries of the yard engine into a ring with room -/

/-- The yard engine's entries go into ring `n`: LOSSLESS, consumed, not being copied, with no producer waiting. -/
structure YardRing (c : Chip) (n : Nat) : Prop where
  ring : n ≠ 0
  size : (c.ring n).sizeLog2 ≠ 0
  consumer : (c.ring n).consumer ≠ 0
  copying : (c.ring n).copying = false
  cls : (c.ring n).active = .lossless
  waiting : (c.ring n).waiting = []

theorem YardRing.produced {c : Chip} {n : Nat} (h : YardRing c n) (hfull : (c.ring n).full = false) (e : Entry) :
    Produced c 0x0A n e (c.ring n).pushed .done := by
  obtain ⟨hn, hsize, hconsumer, hcopying, hcls, hwaiting⟩ := h
  have hlt : n < c.rings.rings.length := c.ring_lt n fun hnone => hsize (by rw [hnone])
  have hmeets : (c.ring n).meetsFull n 0x0A e = false := by
    simp [Ring.meetsFull, Ring.fullFor, timebaseDriven, hn, hfull, hwaiting]
  rw [← c.ring_pushEntry_self n e hlt]
  refine Produced.of_eq (b := false) ?_
  simp [Chip.produceRaw, hsize, hconsumer, hcopying, hcls, hmeets]

theorem YardRing.produce_ring {c : Chip} {n : Nat} (h : YardRing c n) (hfull : (c.ring n).full = false) (e : Entry) :
    (c.produce 0x0A n e).ring n = (c.ring n).pushed := (Chip.produce_ring _ _ _ _ _ h.ring).trans (h.produced hfull e).1

theorem YardRing.produce_answer {c : Chip} {n : Nat} (h : YardRing c n) (hfull : (c.ring n).full = false) (e : Entry) :
    (c.produce 0x0A n e).rings.answer = .done := (Chip.produce_answer _ _ _ _).trans (h.produced hfull e).2

theorem YardRing.of_ring {c d : Chip} {n : Nat} (h : YardRing c n) (hring : d.ring n = c.ring n) : YardRing d n := by
  obtain ⟨hn, hsize, hconsumer, hcopying, hcls, hwaiting⟩ := h
  exact ⟨hn, by rwa [hring], by rwa [hring], by rwa [hring], by rwa [hring], by rwa [hring]⟩

theorem YardRing.of_pushed {c d : Chip} {n : Nat} (h : YardRing c n) (hring : d.ring n = (c.ring n).pushed) : YardRing d n := by
  obtain ⟨hn, hsize, hconsumer, hcopying, hcls, hwaiting⟩ := h
  exact ⟨hn, by rwa [hring], by rwa [hring], by rwa [hring], by rw [hring]; exact hcls, by rwa [hring]⟩

theorem Ring.fill_pushed_le (r : Ring) : r.pushed.fill ≤ r.fill + 1 := by
  unfold Ring.pushed Ring.fill
  dsimp only
  bv_omega

theorem Ring.full_of_room {r : Ring} {k : Nat} (h : r.fill + (k + 1) ≤ r.size) : r.full = false := decide_eq_false (by omega)

/-- As many entries as there is room for advance HEAD by their number. -/
theorem YardRing.foldl_produce {n : Nat} (es : List Entry) {c : Chip} (h : YardRing c n) (hroom : (c.ring n).fill + es.length ≤ (c.ring n).size) :
    ((es.foldl (fun c e => c.produce 0x0A n e) c).ring n).head = (c.ring n).head + BitVec.ofNat 16 es.length ∧
      ((es.foldl (fun c e => c.produce 0x0A n e) c).ring n).tail = (c.ring n).tail := by
  induction es generalizing c with
  | nil => exact ⟨by simp, rfl⟩
  | cons e es ih =>
    rw [List.length_cons] at hroom
    have hring := h.produce_ring (Ring.full_of_room hroom) e
    have hnext : ((c.produce 0x0A n e).ring n).fill + es.length ≤ ((c.produce 0x0A n e).ring n).size := by
      rw [hring]
      have := (c.ring n).fill_pushed_le
      show (c.ring n).pushed.fill + es.length ≤ (c.ring n).size
      omega
    obtain ⟨hhead, htail⟩ := ih (h.of_pushed hring) hnext
    rw [List.foldl_cons, hhead, htail, hring, Ring.pushed_head, Ring.pushed_tail, List.length_cons]
    refine ⟨?_, rfl⟩
    rw [Nat.add_comm es.length 1, BitVec.ofNat_add, BitVec.add_assoc]
    rfl

/-- What a produce does to its ring depends on that ring alone. -/
theorem Chip.produce_ring_congr {c d : Chip} {n : Nat} (h : c.ring n = d.ring n) (hlen : c.rings.rings.length = d.rings.rings.length) (a : Nat)
    (e : Entry) (hn : n ≠ 0) : (c.produce a n e).ring n = (d.produce a n e).ring n := by
  rw [Chip.produce_ring _ _ _ _ _ hn, Chip.produce_ring _ _ _ _ _ hn]
  unfold Chip.produceRaw
  dsimp only
  rw [h]
  repeat' split
  all_goals simp only [Chip.ring_answer, Chip.ring_pushEntry, Chip.ring_upRing, Chip.len_upRing, h, hlen]

/-! ### The five commands (R701) -/

theorem Chip.doTheftClear_eq (c : Chip) (arg : Nat) (data : List Byte) : c.doTheftClear arg data =
    (c.theftClear data, if (c.theftClear data).rf 0x0CE8 3 0 = 1 then 0 else 1,
      bytesOf [(c.theftClear data).rf 0x0CE8 3 0] ++ leBytes 4 (c.theftClear data).keeper.theftNonce.toNat) := rfl

/-- A signed clear shows its result; an accepted one is queued and posts its entry. -/
theorem Chip.theftClear_shape (c : Chip) (cmd : List Byte) : ∃ res, c.theftClear cmd = c.clearShown res ∨
    ∃ st arg, c.theftClear cmd = ((c.clearShown res).clearQueued st).post2 0x03 3 0x0002 arg := by
  unfold Chip.theftClear
  extract_lets op res p c1
  refine ⟨res, ?_⟩
  split
  · exact .inr ⟨_, _, rfl⟩
  · exact .inl rfl

/-- A signed clear draws a new challenge and changes nothing else of keeper time. -/
theorem Chip.theftClear_units (c : Chip) (cmd : List Byte) : (c.theftClear cmd).keeper.units = c.keeper.units := by
  obtain ⟨res, h | ⟨st, arg, h⟩⟩ := c.theftClear_shape cmd
  · rw [h]
    rfl
  · rw [h, Chip.post2, Chip.produce_keeper]
    rfl

theorem Chip.theftClear_ring_ne (c : Chip) (cmd : List Byte) {k : Nat} (hk : k ≠ 0) (h2 : k ≠ 2) : (c.theftClear cmd).ring k = c.ring k := by
  obtain ⟨res, h | ⟨st, arg, h⟩⟩ := c.theftClear_shape cmd
  · rw [h]
    rfl
  · rw [h, Chip.post2_ring_ne _ _ _ _ _ hk h2]
    rfl

theorem Chip.theftClear_yard (c : Chip) (data : List Byte) : (c.theftClear data).yard = c.yard :=
  Chip.yard_of_hide (Chip.hide_theftClear c data (ps := others .yard) (by decide)) (by decide)

theorem Executed.theftClear {s : State} {c : Chip} (h : Executed s c) (data : List Byte) : Executed s (c.theftClear data) :=
  ⟨by rw [Chip.theftClear_ring_ne _ _ (by decide) (by decide)]; exact h.fill, by rw [Chip.theftClear_yard]; exact h.replies,
    by rw [Chip.theftClear_units]; exact h.units⟩

theorem theftClear_new {s : State} {f : RxYard} {body : List Byte} (hawake : s.chip.awake = true) (h : NewFrame s.chip f body) (hp : f.ptype = 4)
    (hop : leAt body 0 1 = 1) (hfresh : s.chip.commandFresh body = true) : Gives .theftClear s (fun c =>
      ∃ r : Nat, c.rf 0x0CE8 3 0 = r ∧ Answered s f 1 (if r = 1 then 0 else 1) (bytesOf [r] ++ leBytes 4 c.keeper.theftNonce.toNat) c) := by
  have hdone := h.atHead.executed.theftClear (body.drop 6)
  refine Gives.command (exec_theftClear s) (by decide) (by decide) hawake h hp hop hfresh (Chip.doTheftClear_eq _ _ _) hdone ?_
  generalize (s.chip.taken f).theftClear (body.drop 6) = d at hdone ⊢
  refine ⟨d.rf 0x0CE8 3 0, ?_, ?_⟩
  · rw [Chip.rf_follow, Chip.rf, Chip.reg_of_regs (Chip.answerCommand_regs _ _ _ _ _), Chip.rf]
  · rw [Chip.follow_keeper, Chip.answerCommand_keeper]
    exact hdone.answered f 1 _ _ s.chip

/-- UPDATE_DATA as its conditions order it. -/
theorem Chip.doUpdateData_eq (c : Chip) (arg : Nat) (data : List Byte) : c.doUpdateData arg data =
    if c.mayProduce 0x0A 6 = false then (c, 1, bytesOf [1])
    else if data.length / 32 = 0 ∨ 6 < data.length / 32 ∨ data.length % 32 ≠ 0 then (c, 1, [])
    else if (c.ring 6).free < data.length / 32 ∨ (c.ring 6).waiting ≠ [] then (c, 1, bytesOf [2])
    else ((dataEntries data).foldl (fun c e => c.produce 0x0A 6 e) c, 0, []) := by
  unfold Chip.doUpdateData
  dsimp only
  cases c.mayProduce 0x0A 6
  · rw [if_pos (show (!false) = true from rfl), if_pos rfl]
  · rw [if_neg (show ¬ (!true) = true from Bool.false_ne_true), if_neg (show ¬ true = false from Bool.noConfusion)]

theorem Chip.taken_mayProduce (c : Chip) (f : RxYard) : (c.taken f).mayProduce 0x0A 6 = c.mayProduce 0x0A 6 := by
  unfold Chip.mayProduce
  rw [c.taken_ring_ne f (by decide)]

theorem dataEntries_length {bs : List Byte} (h : bs.length % 32 = 0) : (dataEntries bs).length = bs.length / 32 := by
  unfold dataEntries
  rw [List.length_map, List.length_range]
  omega

theorem updateData_refused {s : State} {f : RxYard} {body : List Byte} (hawake : s.chip.awake = true) (h : NewFrame s.chip f body) (hp : f.ptype = 4)
    (hop : leAt body 0 1 = 2) (hfresh : s.chip.commandFresh body = true) {data : List Byte}
    (hact : (s.chip.taken f).doUpdateData (leAt body 1 1) (body.drop 6) = (s.chip.taken f, 1, data)) :
    Gives .updateData s (fun c => Answered s f 2 1 data c ∧ c.ring 6 = s.chip.ring 6) :=
  Gives.command (exec_updateData s) (by decide) (by decide) hawake h hp hop hfresh hact h.atHead.executed
    ⟨h.atHead.executed.answered f 2 1 data s.chip, s.chip.taken_ring_ne f (by decide)⟩

theorem updateData_taken {s : State} {f : RxYard} {body : List Byte} (hawake : s.chip.awake = true) (h : NewFrame s.chip f body) (hp : f.ptype = 4)
    (hop : leAt body 0 1 = 2) (hfresh : s.chip.commandFresh body = true) (hmay : s.chip.mayProduce 0x0A 6 = true)
    (hwhole : (body.drop 6).length % 32 = 0) (hlow : 1 ≤ (body.drop 6).length / 32) (hhigh : (body.drop 6).length / 32 ≤ 6)
    (hroom : (body.drop 6).length / 32 ≤ (s.chip.ring 6).free) (hcls : (s.chip.ring 6).active = .lossless) (hconsumer : (s.chip.ring 6).consumer ≠ 0)
    (hcopying : (s.chip.ring 6).copying = false) (hwaiting : (s.chip.ring 6).waiting = []) : Gives .updateData s (fun c => Answered s f 2 0 [] c ∧
      (c.ring 6).head = (s.chip.ring 6).head + BitVec.ofNat 16 ((body.drop 6).length / 32) ∧ (c.ring 6).tail = (s.chip.ring 6).tail) := by
  have hring : (s.chip.taken f).ring 6 = s.chip.ring 6 := s.chip.taken_ring_ne f (by decide)
  have hfits : (s.chip.ring 6).fill + (body.drop 6).length / 32 ≤ (s.chip.ring 6).size := by
    unfold Ring.free at hroom
    omega
  have hsize : (s.chip.ring 6).sizeLog2 ≠ 0 := fun hzero => by
    have : (s.chip.ring 6).size = 0 := if_pos hzero
    omega
  have hready : YardRing (s.chip.taken f) 6 := YardRing.of_ring ⟨by decide, hsize, hconsumer, hcopying, hcls, hwaiting⟩ hring
  have hact : (s.chip.taken f).doUpdateData (leAt body 1 1) (body.drop 6) =
      ((dataEntries (body.drop 6)).foldl (fun c e => c.produce 0x0A 6 e) (s.chip.taken f), 0, []) := by
    rw [Chip.doUpdateData_eq, Chip.taken_mayProduce, hmay, if_neg (show ¬ true = false from Bool.noConfusion), if_neg (by omega), hring,
      if_neg (fun hno => hno.elim (fun h => by omega) (fun h => h hwaiting))]
  obtain ⟨hhead, htail⟩ := hready.foldl_produce (dataEntries (body.drop 6)) (by rw [hring, dataEntries_length hwhole]; exact hfits)
  rw [hring, dataEntries_length hwhole] at hhead
  rw [hring] at htail
  have hdone : Executed s ((dataEntries (body.drop 6)).foldl (fun c e => c.produce 0x0A 6 e) (s.chip.taken f)) :=
    ⟨by rw [foldl_produce_ring_ne _ _ _ _ (by decide) (by decide)]; exact h.atHead.taken,
      (congrArg Yard.replies (foldl_produce_keeps Chip.yard 0x0A 6 (fun c e => Chip.produce_yard c _ _ e) _ _)).trans h.atHead.executed.replies,
      (congrArg Keeper.units (foldl_produce_keeps Chip.keeper 0x0A 6 (fun c e => Chip.produce_keeper c _ _ e) _ _)).trans h.atHead.executed.units⟩
  exact Gives.command (exec_updateData s) (by decide) (by decide) hawake h hp hop hfresh hact hdone
    ⟨hdone.answered f 2 0 [] s.chip, hhead, htail⟩

theorem yardHostEvent_new {s : State} {f : RxYard} {body : List Byte} (hawake : s.chip.awake = true) (h : NewFrame s.chip f body) (hp : f.ptype = 4)
    (hop : leAt body 0 1 = 3) (hfresh : s.chip.commandFresh body = true) : Gives .yardHostEvent s (fun c => Answered s f 3 0 [] c ∧
      c.ring 2 = (s.chip.event 0x0A 0x11 (leAt body 1 1) 0).ring 2) := by
  have hsame := Chip.noRings_event (s.chip.taken f) 0x0A 0x11 (leAt body 1 1) 0
  have hdone : Executed s ((s.chip.taken f).event 0x0A 0x11 (leAt body 1 1) 0) :=
    ⟨by rw [Chip.event_ring_ne _ _ _ _ _ (by decide) (by decide)]; exact h.atHead.taken,
      by rw [Chip.noRings_yard hsame]; exact h.atHead.executed.replies, by rw [Chip.noRings_keeper hsame]; exact h.atHead.executed.units⟩
  refine Gives.command (d := (s.chip.taken f).event 0x0A 0x11 (leAt body 1 1) 0) (exec_yardHostEvent s) (by decide) (by decide) hawake h hp hop hfresh
    rfl hdone ⟨hdone.answered f 3 0 [] s.chip, ?_⟩
  rw [Chip.ring_follow, Chip.ring_of (Chip.answerCommand_rings _ _ _ _ _)]
  exact Chip.produce_ring_congr (s.chip.taken_ring_ne f (by decide)) (s.chip.taken_length f) _ _ (by decide)

theorem Chip.taken_yardIn (c : Chip) (f : RxYard) : (c.taken f).yardIn = c.yardIn := by
  obtain ⟨l, hl⟩ := c.taken_yard f
  unfold Chip.yardIn
  rw [Chip.taken_mram, hl]

theorem Chip.silent_congr {c d : Chip} (h : d.girth = c.girth) (l : Nat) : d.silent l = c.silent l := by
  unfold Chip.silent Chip.lane
  rw [h]

theorem requestReport_silent {s : State} {f : RxYard} {body : List Byte} (hawake : s.chip.awake = true) (h : NewFrame s.chip f body) (hp : f.ptype = 4)
    (hop : leAt body 0 1 = 4) (hfresh : s.chip.commandFresh body = true) (hsilent : s.chip.silent 1 = true) :
    Gives .requestReport s (fun c => Answered s f 4 1 [] c ∧ c.ring 33 = s.chip.ring 33) := by
  have hact : (s.chip.taken f).doRequestReport (leAt body 1 1) (body.drop 6) = (s.chip.taken f, 1, []) := by
    unfold Chip.doRequestReport Chip.sendReport
    rw [Chip.taken_yardIn, h.atHead.yardIn, if_neg (show ¬ (!true) = true from Bool.false_ne_true),
      if_pos (.inl ((Chip.silent_congr (s.chip.taken_girth f) 1).trans hsilent))]
    rfl
  exact Gives.command (exec_requestReport s) (by decide) (by decide) hawake h hp hop hfresh hact h.atHead.executed
    ⟨h.atHead.executed.answered f 4 1 [] s.chip, s.chip.taken_ring_ne f (by decide)⟩

/-- SEND_REPORT with room on ring 33 makes its entry. -/
theorem Chip.sendReport_done {c : Chip} (hin : c.yardIn = true) (hlive : c.silent 1 = false) (hradio : c.girth.radioRefused = false)
    (hring : YardRing c 33) (hroom : (c.ring 33).full = false) (tpl rule value : Nat) :
    (c.sendReport 0x0A tpl rule value).2 = none ∧ ((c.sendReport 0x0A tpl rule value).1.ring 33) = (c.ring 33).pushed ∧
      (c.sendReport 0x0A tpl rule value).1.ring 36 = c.ring 36 := by
  unfold Chip.sendReport
  dsimp only
  rw [hin, if_neg (show ¬ (!true) = true from Bool.false_ne_true), if_neg (by rw [hlive, hradio]; decide), hring.produce_answer hroom]
  exact ⟨rfl, hring.produce_ring hroom _, Chip.produce_ring_ne _ _ _ _ _ (by decide) (by decide)⟩

theorem requestReport_done {s : State} {f : RxYard} {body : List Byte} (hawake : s.chip.awake = true) (h : NewFrame s.chip f body) (hp : f.ptype = 4)
    (hop : leAt body 0 1 = 4) (hfresh : s.chip.commandFresh body = true) (hlive : s.chip.silent 1 = false)
    (hradio : s.chip.girth.radioRefused = false) (harg : leAt body 1 1 < 16) (hring : YardRing s.chip 33) (hroom : (s.chip.ring 33).full = false) :
    Gives .requestReport s (fun c => Answered s f 4 0 [] c ∧ (c.ring 33).head = (s.chip.ring 33).head + 1) := by
  have h33 : (s.chip.taken f).ring 33 = s.chip.ring 33 := s.chip.taken_ring_ne f (by decide)
  obtain ⟨hok, hpushed, hkept⟩ := Chip.sendReport_done (c := s.chip.taken f) ((s.chip.taken_yardIn f).trans h.atHead.yardIn)
    ((Chip.silent_congr (s.chip.taken_girth f) 1).trans hlive) (by rw [Chip.taken_girth]; exact hradio) (hring.of_ring h33) (by rw [h33]; exact hroom)
    (leAt body 1 1 % 16) 0xFF 0
  have hact : (s.chip.taken f).doRequestReport (leAt body 1 1) (body.drop 6) =
      (((s.chip.taken f).sendReport 0x0A (leAt body 1 1 % 16) 0xFF 0).1, 0, []) := by
    unfold Chip.doRequestReport
    dsimp only
    rw [hok, decide_eq_true harg]
    rfl
  have hdone : Executed s ((s.chip.taken f).sendReport 0x0A (leAt body 1 1 % 16) 0xFF 0).1 :=
    ⟨by rw [hkept]; exact h.atHead.taken,
      (congrArg Yard.replies (Chip.yard_of_hide (Chip.hide_sendReport _ _ _ _ _ (ps := others .yard) (by decide)) (by decide))).trans
        h.atHead.executed.replies,
      (congrArg Keeper.units (Chip.keeper_of_hide (Chip.hide_sendReport _ _ _ _ _ (ps := others .keeper) (by decide)) (by decide))).trans
        h.atHead.executed.units⟩
  refine Gives.command (exec_requestReport s) (by decide) (by decide) hawake h hp hop hfresh hact hdone
    ⟨hdone.answered f 4 0 [] s.chip, ?_⟩
  rw [Chip.ring_follow, Chip.ring_of (Chip.answerCommand_rings _ _ _ _ _), hpushed, h33]
  rfl

theorem rebuckle_new {s : State} {f : RxYard} {body : List Byte} (hawake : s.chip.awake = true) (h : NewFrame s.chip f body) (hp : f.ptype = 4)
    (hop : leAt body 0 1 = 5) :
    (s.chip.commandFresh body = true → Gives .rebuckle s (fun c => Answered s f 5 0 [] c ∧ c.yard.rebuckle = true ∧ c.mram = s.chip.mram)) ∧
      (s.chip.commandFresh body = false → Gives .rebuckle s (fun c => Answered s f 5 2 [] c ∧ c.yard.rebuckle = s.chip.yard.rebuckle)) := by
  refine ⟨fun hfresh => ?_, fun hstale => ?_⟩
  · have hdone : Executed s ((s.chip.taken f).upYard (fun y => { y with rebuckle := true })) :=
      ⟨h.atHead.taken, h.atHead.executed.replies, h.atHead.executed.units⟩
    refine Gives.command (d := (s.chip.taken f).upYard (fun y => { y with rebuckle := true })) (exec_rebuckle s) (by decide) (by decide) hawake h hp hop
      hfresh rfl hdone ⟨hdone.answered f 5 0 [] s.chip, rfl, ?_⟩
    rw [Chip.follow_mram, Chip.answerCommand_mram, Chip.upYard_mram, Chip.taken_mram]
  · obtain ⟨l, hl⟩ := s.chip.taken_yard f
    refine Gives.commandStale (exec_rebuckle s) (by decide) (by decide) hawake h hp hop hstale ⟨h.atHead.executed.answered f 5 2 [] s.chip, ?_⟩
    exact (congrArg Yard.rebuckle hl :)

/-! ### Duplicates (R690, R699) -/

theorem Chip.dupHead_yard (c : Chip) (f : RxYard) : (c.dupHead f).yard = { c.yard with dup := c.yard.dup + 1 } := rfl

theorem YardFrameAt.dupped {c : Chip} {f : RxYard} (h : YardFrameAt c f) : ((c.dupHead f).ring 36).fill = 0 := h.dropped rfl

/-- The stored reply of a duplicate goes again, and nothing else changes but its count. -/
theorem Chip.dupCommand_keeps (c : Chip) (f : RxYard) : (c.dupCommand f).rings = (c.dropHead f).rings ∧
    (c.dupCommand f).yard.dup = c.yard.dup + 1 ∧ (c.dupCommand f).yard.rebuckle = c.yard.rebuckle := by
  unfold Chip.dupCommand
  dsimp only
  split
  · exact ⟨rfl, rfl, rfl⟩
  · split
    · exact ⟨rfl, rfl, rfl⟩
    · exact ⟨rfl, rfl, rfl⟩

theorem rebuckle_old {s : State} {f : RxYard} {body : List Byte} (hawake : s.chip.awake = true) (h : OldFrame s.chip f body) (hp : f.ptype = 4)
    (hop : leAt body 0 1 = 5) : Gives .rebuckle s (fun c => c.yard.dup = s.chip.yard.dup + 1 ∧ c.yard.rebuckle = s.chip.yard.rebuckle) := by
  obtain ⟨hrings, hdup, hrebuckle⟩ := s.chip.dupCommand_keeps f
  have hrow : commandAct 5 Chip.doRebuckle s.chip f body true = s.chip.dupCommand f := (if_neg (fun hne => hne hop)).trans (if_pos rfl)
  refine Gives.yardOld (exec_rebuckle s) hawake h (known_command hp hop (by decide) (by decide)) hp ?_ ?_
  · rw [hrow, Chip.ring_of hrings]
    exact h.atHead.dropped rfl
  · rw [hrow]
    exact ⟨hdup, hrebuckle⟩

theorem beacon_old {s : State} {f : RxYard} {body : List Byte} (hawake : s.chip.awake = true) (h : OldFrame s.chip f body) (hp : f.ptype = 1) :
    Gives .beacon s (fun c => c.yard = { s.chip.yard with dup := s.chip.yard.dup + 1 } ∧ c.keeper = s.chip.keeper) :=
  Gives.yardOld (exec_beacon s) hawake h (RxYard.known_of hp (by decide) (by decide) _) hp h.atHead.dupped ⟨s.chip.dupHead_yard f, rfl⟩

theorem alarm_old {s : State} {f : RxYard} {body : List Byte} (hawake : s.chip.awake = true) (hmember : s.chip.yard.sec.lead = false)
    (h : OldFrame s.chip f body) (hp : f.ptype = 5) : Gives .alarm s (fun c => c.yard = { s.chip.yard with dup := s.chip.yard.dup + 1 }) := by
  have hrow : s.chip.alarmRow f body true = s.chip.dupHead f := by
    unfold Chip.alarmRow
    rw [hmember]
    rfl
  refine Gives.yardOld (exec_alarm s) hawake h (RxYard.known_of hp (by decide) (by decide) _) hp (by rw [hrow]; exact h.atHead.dupped) ?_
  rw [hrow]
  exact s.chip.dupHead_yard f

/-- Settles O43: each kind of frame at a member, new and duplicate. -/
theorem membersTakeYardFrames : Obligations.MembersTakeYardFrames := by
  unfold Obligations.MembersTakeYardFrames
  intro s f body hawake hmember
  refine ⟨fun h => ⟨beacon_new hawake h, fun hp hnew => alarm_new hawake hmember h hp hnew, alarmAck_new hawake h, offer_new hawake h, fun hp => ?_⟩,
    fun h => ⟨beacon_old hawake h, alarm_old hawake hmember h, fun hp hop => rebuckle_old hawake h hp hop⟩⟩
  refine ⟨theftClear_new hawake h hp, fun hop hfresh hmay => ?_, fun hop hfresh hmay hwhole hlow hhigh hfree => ?_,
    fun hop hfresh hmay hwhole hlow hhigh hfree hcls hconsumer hcopying hwaiting =>
      updateData_taken hawake h hp hop hfresh hmay hwhole hlow hhigh hfree hcls hconsumer hcopying hwaiting,
    yardHostEvent_new hawake h hp,
    fun hop hfresh hlive hradio harg hsize hconsumer hcopying hcls hfull hwaiting =>
      requestReport_done hawake h hp hop hfresh hlive hradio harg ⟨by decide, hsize, hconsumer, hcopying, hcls, hwaiting⟩ hfull,
    requestReport_silent hawake h hp, fun hop => (rebuckle_new hawake h hp hop).1, fun hop => (rebuckle_new hawake h hp hop).2⟩
  · refine updateData_refused hawake h hp hop hfresh ?_
    rw [Chip.doUpdateData_eq, Chip.taken_mayProduce, if_pos hmay]
  · refine updateData_refused hawake h hp hop hfresh ?_
    rw [Chip.doUpdateData_eq, Chip.taken_mayProduce, hmay, if_neg (show ¬ true = false from Bool.noConfusion), if_neg (by omega),
      s.chip.taken_ring_ne f (by decide), if_pos (.inl hfree)]

end Sys2Proof.Machine
end

section
/-! SUPPORT. What the lead does with the frame at the head of ring 36, and with host commands (15 R696, R699, R700, R705, R708-R712, R718). -/

namespace Sys2Proof.Machine

theorem exec_report (b : Option Baseline) (s : State) : exec (.report b) s = s.run (fun c => c.yardRow 2 (Chip.reportRow b)) := rfl
theorem exec_reply (s : State) : exec .reply s = s.run (fun c => c.yardRow 3 Chip.replyRow) := rfl
theorem exec_buckleReq (s : State) : exec .buckleReq s = s.run (fun c => c.yardRow 7 Chip.buckleReqRow) := rfl
theorem exec_buckleConfirm (s : State) : exec .buckleConfirm s = s.run (fun c => c.yardRow 9 Chip.confirmRow) := rfl
theorem exec_yardCommandQueued (s : State) : exec .yardCommandQueued s = s.run Chip.commandQueued := rfl

/-! ### ACK bits and the table (R696, R708) -/

theorem ack_bit (a : BitVec 256) {n : Nat} (h : n < 256) : (a ||| (1#256 <<< (n % 256))).getLsbD n = true := by
  rw [Nat.mod_eq_of_lt h, BitVec.getLsbD_or, BitVec.getLsbD_shiftLeft, decide_eq_true h, Nat.sub_self]
  simp

theorem Chip.ackUnit_yard (c : Chip) (f : RxYard) : ∃ a, (c.ackUnit f).yard = { c.yard with acks := a } ∧
    (f.src < 256 → f.ackReq = true → a.getLsbD f.src = true) := by
  unfold Chip.ackUnit
  split
  · exact ⟨_, rfl, fun hsrc _ => ack_bit _ hsrc⟩
  · exact ⟨c.yard.acks, rfl, fun _ hreq => by contradiction⟩

theorem Chip.ackUnit_rings (c : Chip) (f : RxYard) : (c.ackUnit f).rings = c.rings := by
  unfold Chip.ackUnit
  split
  · rfl
  · rfl

/-- A number that is heard has a row that is fresh, with the UID it gave. -/
theorem heardRow_mem (n : Nat) (uid : Option (BitVec 64)) (ms : List YardMember) :
    ∃ m ∈ heardRow n uid ms, m.number = n ∧ m.quiet = 0 ∧ (∀ u, uid = some u → m.uid = some u) := by
  induction ms with
  | nil => exact ⟨_, List.mem_singleton_self _, rfl, rfl, fun u hu => hu⟩
  | cons m ms ih =>
    unfold heardRow
    by_cases hm : m.number = n
    · rw [if_pos hm]
      refine ⟨_, List.mem_cons_self, hm, rfl, fun u hu => ?_⟩
      dsimp only
      rw [hu]
      rfl
    · rw [if_neg hm]
      obtain ⟨k, hk, hrow⟩ := ih
      exact ⟨k, List.mem_cons_of_mem _ hk, hrow⟩

/-- What the lead's acceptance of a frame changes of the yard. -/
theorem Chip.leadAccept_yard (c : Chip) (f : RxYard) (uid : Option (BitVec 64)) : ∃ l a, (c.leadAccept f uid).yard = { c.yard with
    replay := l, acks := a, members := heardRow f.src uid c.yard.members } ∧ (f.src < 256 → f.ackReq = true → a.getLsbD f.src = true) := by
  obtain ⟨l, hl⟩ := c.taken_yard f
  obtain ⟨a, ha, hbit⟩ := (c.taken f).ackUnit_yard f
  refine ⟨l, a, ?_, hbit⟩
  have hrow : (c.leadAccept f uid).yard = { ((c.taken f).ackUnit f).yard with members := heardRow f.src uid ((c.taken f).ackUnit f).yard.members } := rfl
  rw [hrow, ha, hl]

theorem Chip.leadAccept_rings (c : Chip) (f : RxYard) (uid : Option (BitVec 64)) : (c.leadAccept f uid).rings = (c.taken f).rings :=
  (c.taken f).ackUnit_rings f

/-! ### Entries for the host (R718) -/

/-- Entries put out go into their ring, and change nothing but rings. -/
theorem Chip.putOut_keeps {c d : Chip} {n : Nat} {es : List Entry} (h : c.putOut n es = some d) :
    d = es.foldl (fun c e => c.produce 0x0A n e) c := by
  unfold Chip.putOut at h
  dsimp only at h
  split at h
  · cases h
  · exact (Option.some.inj h).symm

theorem Chip.putOut_noRings {c d : Chip} {n : Nat} {es : List Entry} (h : c.putOut n es = some d) : d.noRings = c.noRings := by
  rw [Chip.putOut_keeps h]
  exact foldl_produce_keeps Chip.noRings 0x0A n (fun c e => Chip.noRings_produce c _ _ e) es c

theorem Chip.putOut_ring_ne {c d : Chip} {n : Nat} {es : List Entry} (h : c.putOut n es = some d) {k : Nat} (hk : k ≠ 0) (hn : n ≠ k) :
    d.ring k = c.ring k := by
  rw [Chip.putOut_keeps h]
  exact foldl_produce_ring_ne _ _ _ _ hk hn

/-- The frame taken in a block whose ring 36 is as it was. -/
theorem YardFrameAt.taken_of {c d : Chip} {f : RxYard} (h : YardFrameAt c f) (hring : d.ring 36 = c.ring 36) : ((d.taken f).ring 36).fill = 0 :=
  h.dropped ((Chip.ring_of (d.yardAccept_rings f)).trans hring)

/-! ### Reports and baselines (R696, R711, R712, R718) -/

theorem Chip.reportRow_full {c : Chip} {f : RxYard} {body : List Byte} (h : c.putOut 40 (c.rxRingEntries 1 f.seq f body) = none) (b : Option Baseline) :
    Chip.reportRow b c f body false = c.dropHead f := by
  unfold Chip.reportRow
  rw [if_neg Bool.false_ne_true, h]

theorem Chip.reportRow_plain {c d : Chip} {f : RxYard} {body : List Byte} (h : c.putOut 40 (c.rxRingEntries 1 f.seq f body) = some d) :
    Chip.reportRow none c f body false = d.leadAccept f none := by
  unfold Chip.reportRow
  rw [if_neg Bool.false_ne_true, h]

theorem Chip.reportRow_baseline {c d : Chip} {f : RxYard} {body : List Byte} (h : c.putOut 40 (c.rxRingEntries 1 f.seq f body) = some d) {b : Baseline}
    (hcarried : (leAt body 3 1).testBit 0 = true) (hmode : c.mode = 5) (hsignals : 5 ≤ b.signals) :
    Chip.reportRow (some b) c f body false = (d.leadAccept f none).baselineStep f.src b := by
  unfold Chip.reportRow
  rw [if_neg Bool.false_ne_true, h]
  dsimp only
  rw [hcarried, hmode, decide_eq_true hsignals]
  rfl

/-- The rows of the lead's table with a unit's baseline. -/
def Chip.baselineKept (c : Chip) (n : Nat) (b : Baseline) (k : Nat) : Chip := c.upYard (fun y => { y with members := y.members.map (fun m =>
  if m.number = n then { m with baseline := some (b.e, b.n, b.u), moved := k } else m) })

/-- A baseline is kept in the rows of its unit, and put out with an event where it moved. -/
theorem Chip.baselineStep_shape (c : Chip) (n : Nat) (b : Baseline) : ∃ k e, c.baselineStep n b = (c.baselineKept n b k).produce 0x0A 41 e ∨
    c.baselineStep n b = ((c.baselineKept n b k).produce 0x0A 41 e).yardEvent 5 n := by
  unfold Chip.baselineStep
  extract_lets old change count moved c1 c2
  by_cases hmoved : moved = true
  · exact ⟨count, _, .inr (if_pos hmoved)⟩
  · exact ⟨count, _, .inl (if_neg hmoved)⟩

theorem Chip.baselineStep_yard (c : Chip) (n : Nat) (b : Baseline) : ∃ k, (c.baselineStep n b).yard = { c.yard with
    members := c.yard.members.map (fun m => if m.number = n then { m with baseline := some (b.e, b.n, b.u), moved := k } else m) } := by
  obtain ⟨k, e, h | h⟩ := c.baselineStep_shape n b
  · refine ⟨k, ?_⟩
    rw [h, Chip.produce_yard]
    rfl
  · refine ⟨k, ?_⟩
    rw [h, Chip.yardEvent_yard, Chip.produce_yard]
    rfl

theorem Chip.baselineStep_ring_ne (c : Chip) (n : Nat) (b : Baseline) {k : Nat} (hk : k ≠ 0) (h2 : k ≠ 2) (h41 : k ≠ 41) (h44 : k ≠ 44) :
    (c.baselineStep n b).ring k = c.ring k := by
  obtain ⟨m, e, h | h⟩ := c.baselineStep_shape n b
  · rw [h, Chip.produce_ring_ne _ _ _ _ _ hk (Ne.symm h41)]
    rfl
  · rw [h, Chip.yardEvent_ring_ne _ _ _ hk h2 h44, Chip.produce_ring_ne _ _ _ _ _ hk (Ne.symm h41)]
    rfl

theorem Chip.ackUnit_old (c : Chip) (f : RxYard) : ∃ a, ((c.dupHead f).ackUnit f).yard = { c.yard with dup := c.yard.dup + 1, acks := a } ∧
    (f.src < 256 → f.ackReq = true → a.getLsbD f.src = true) := by
  obtain ⟨a, ha, hbit⟩ := (c.dupHead f).ackUnit_yard f
  exact ⟨a, by rw [ha, Chip.dupHead_yard], hbit⟩

theorem YardFrameAt.ackedOld {c : Chip} {f : RxYard} (h : YardFrameAt c f) : (((c.dupHead f).ackUnit f).ring 36).fill = 0 := by
  rw [Chip.ring_of (Chip.ackUnit_rings _ _)]
  exact h.dupped

/-- The frame accepted by the lead after its entries went out. -/
theorem leadAccept_putOut {c d : Chip} {f : RxYard} {n : Nat} {es : List Entry} (h : YardFrameAt c f) (hput : c.putOut n es = some d) (hn : n ≠ 36)
    (uid : Option (BitVec 64)) : ((d.leadAccept f uid).ring 36).fill = 0 ∧ ∃ l a, (d.leadAccept f uid).yard = { c.yard with
      replay := l, acks := a, members := heardRow f.src uid c.yard.members } ∧ (f.src < 256 → f.ackReq = true → a.getLsbD f.src = true) := by
  have hyard : d.yard = c.yard := Chip.noRings_yard (Chip.putOut_noRings hput)
  refine ⟨?_, ?_⟩
  · rw [Chip.ring_of (d.leadAccept_rings f uid)]
    exact h.taken_of (Chip.putOut_ring_ne hput (by decide) hn)
  · rw [← hyard]
    exact d.leadAccept_yard f uid

theorem report_new {s : State} {f : RxYard} {body : List Byte} (hawake : s.chip.awake = true) (hsrc : f.src < 256) (h : NewFrame s.chip f body)
    (hp : f.ptype = 2) :
    (s.chip.putOut 40 (s.chip.rxRingEntries 1 f.seq f body) = none → Gives (.report none) s (fun c => c.yard = s.chip.yard ∧
          (c.ring 36).fill = 0 ∧ c.ring 40 = s.chip.ring 40)) ∧
        ((s.chip.putOut 40 (s.chip.rxRingEntries 1 f.seq f body)).isSome = true →
          Gives (.report none) s (fun c => (f.ackReq = true → c.yard.acks.getLsbD f.src = true) ∧ (c.ring 36).fill = 0 ∧
            ∃ m ∈ c.yard.members, m.number = f.src ∧ m.quiet = 0) ∧
          (∀ b : Baseline, (leAt body 3 1).testBit 0 = true → s.chip.mode = 5 → 5 ≤ b.signals → Gives (.report (some b)) s (fun c =>
            (f.ackReq = true → c.yard.acks.getLsbD f.src = true) ∧ ∃ m ∈ c.yard.members, m.number = f.src ∧ m.baseline = some (b.e, b.n, b.u)))) := by
  have hknown := RxYard.known_of hp (by decide) (by decide) body
  refine ⟨fun hfull => ?_, fun hroom => ?_⟩
  · have hempty : ((s.chip.dropHead f).ring 36).fill = 0 := h.atHead.dropped rfl
    refine Gives.yardNew (exec_report none s) hawake h hknown hp (by rw [Chip.reportRow_full hfull]; exact hempty) ?_
    rw [Chip.reportRow_full hfull]
    exact ⟨rfl, hempty, s.chip.dropHead_ring_ne f (by decide)⟩
  · obtain ⟨d, hput⟩ := Option.isSome_iff_exists.mp hroom
    obtain ⟨hempty, l, a, hyard, hbit⟩ := leadAccept_putOut h.atHead hput (by decide) none
    obtain ⟨m, hm, hnumber, hquiet, -⟩ := heardRow_mem f.src none s.chip.yard.members
    refine ⟨?_, fun b hcarried hmode hsignals => ?_⟩
    · refine Gives.yardNew (exec_report none s) hawake h hknown hp (by rw [Chip.reportRow_plain hput]; exact hempty) ?_
      rw [Chip.reportRow_plain hput, Chip.follow_yard, Chip.ring_follow, hyard]
      exact ⟨hbit hsrc, hempty, m, hm, hnumber, hquiet⟩
    · obtain ⟨k, hk⟩ := (d.leadAccept f none).baselineStep_yard f.src b
      have hring : ((d.leadAccept f none).baselineStep f.src b).ring 36 = (d.leadAccept f none).ring 36 :=
        Chip.baselineStep_ring_ne _ _ _ (by decide) (by decide) (by decide) (by decide)
      refine Gives.yardNew (exec_report (some b) s) hawake h hknown hp
        (by rw [Chip.reportRow_baseline hput hcarried hmode hsignals, hring]; exact hempty) ?_
      rw [Chip.reportRow_baseline hput hcarried hmode hsignals, Chip.follow_yard, hk, hyard]
      refine ⟨hbit hsrc, _, List.mem_map_of_mem hm, ?_⟩
      rw [if_pos hnumber]
      exact ⟨hnumber, rfl⟩

/-! ### Replies (R700) -/

theorem Chip.replyRow_taken {c d : Chip} {f : RxYard} {body : List Byte} (h : c.putOut 40 (c.rxRingEntries 2 f.seq f body) = some d) :
    c.replyRow f body false = (d.leadAccept f none).endCommand f body := by
  unfold Chip.replyRow
  rw [if_neg Bool.false_ne_true, h]

/-- The command that a reply names is the one it ends. -/
theorem Chip.endCommand_yard (c : Chip) (f : RxYard) (body : List Byte) : ∃ l, (c.endCommand f body).yard = { c.yard with commands := l } ∧
    ∀ x, c.yard.commands.find? (fun x => decide (x.dst = f.src) && decide (x.seq = leAt body 2 4) && decide (x.seq ≠ 0)) = some x →
      l = c.yard.commands.filter (fun z => z != x) := by
  unfold Chip.endCommand
  cases hfind : c.yard.commands.find? (fun x => decide (x.dst = f.src) && decide (x.seq = leAt body 2 4) && decide (x.seq ≠ 0)) with
  | none => exact ⟨c.yard.commands, rfl, fun x hx => by cases hx⟩
  | some x =>
    dsimp only
    rw [Chip.yardEvent_yard, foldl_produce_keeps Chip.yard 0x0A 43 (fun c e => Chip.produce_yard c _ _ e)]
    exact ⟨_, rfl, fun z hz => by rw [Option.some.inj hz]⟩

theorem Chip.endCommand_ring_ne (c : Chip) (f : RxYard) (body : List Byte) {k : Nat} (hk : k ≠ 0) (h2 : k ≠ 2) (h43 : k ≠ 43) (h44 : k ≠ 44) :
    (c.endCommand f body).ring k = c.ring k := by
  unfold Chip.endCommand
  split
  · rfl
  · rw [Chip.yardEvent_ring_ne _ _ _ hk h2 h44, foldl_produce_ring_ne _ _ _ _ hk (Ne.symm h43)]
    rfl

theorem reply_new {s : State} {f : RxYard} {body : List Byte} (hawake : s.chip.awake = true) (hsrc : f.src < 256) (h : NewFrame s.chip f body)
    (hp : f.ptype = 3) (hroom : (s.chip.putOut 40 (s.chip.rxRingEntries 2 f.seq f body)).isSome = true) : Gives .reply s (fun c =>
        (f.ackReq = true → c.yard.acks.getLsbD f.src = true) ∧
        (∀ x : YardFrame, s.chip.yard.commands.find? (fun x => decide (x.dst = f.src) && decide (x.seq = leAt body 2 4) && decide (x.seq ≠ 0)) = some x →
          c.yard.commands = s.chip.yard.commands.filter (fun z => z != x))) := by
  obtain ⟨d, hput⟩ := Option.isSome_iff_exists.mp hroom
  obtain ⟨hempty, l, a, hyard, hbit⟩ := leadAccept_putOut h.atHead hput (by decide) none
  have hring : ((d.leadAccept f none).endCommand f body).ring 36 = (d.leadAccept f none).ring 36 :=
    Chip.endCommand_ring_ne _ _ _ (by decide) (by decide) (by decide) (by decide)
  refine Gives.yardNew (exec_reply s) hawake h (RxYard.known_of hp (by decide) (by decide) body) hp
    (by rw [Chip.replyRow_taken hput, hring]; exact hempty) ?_
  obtain ⟨cs, hcs, hended⟩ := (d.leadAccept f none).endCommand_yard f body
  rw [hyard] at hcs hended
  rw [Chip.replyRow_taken hput, Chip.follow_yard, hcs]
  exact ⟨hbit hsrc, hended⟩

/-! ### Alarms, requests and confirms at the lead (R705, R708-R710) -/

theorem Chip.alarmRow_lead {c d : Chip} (hlead : c.yard.sec.lead = true) {f : RxYard} {body : List Byte}
    (h : c.putOut 40 (c.rxRingEntries 3 f.seq f body) = some d) : c.alarmRow f body false =
      (((d.taken f).upYard (fun y => { y with ackOwed := some (leAt body 1 1, leAt body 0 1) })).heard f.src none).yardEvent 3 (leAt body 1 1) := by
  unfold Chip.alarmRow Chip.leadAlarm
  rw [if_pos hlead]
  dsimp only
  rw [if_neg Bool.false_ne_true, h]
  rfl

theorem alarm_lead {s : State} {f : RxYard} {body : List Byte} (hawake : s.chip.awake = true) (hlead : s.chip.yard.sec.lead = true)
    (h : NewFrame s.chip f body) (hp : f.ptype = 5) (hroom : (s.chip.putOut 40 (s.chip.rxRingEntries 3 f.seq f body)).isSome = true) :
    Gives .alarm s (fun c => c.yard.ackOwed = some (leAt body 1 1, leAt body 0 1) ∧ (c.ring 36).fill = 0) := by
  obtain ⟨d, hput⟩ := Option.isSome_iff_exists.mp hroom
  have hempty : ((s.chip.alarmRow f body false).ring 36).fill = 0 := by
    rw [Chip.alarmRow_lead hlead hput, Chip.yardEvent_ring_ne _ _ _ (by decide) (by decide) (by decide)]
    exact h.atHead.taken_of (Chip.putOut_ring_ne hput (by decide) (by decide))
  refine Gives.yardNew (exec_alarm s) hawake h (RxYard.known_of hp (by decide) (by decide) body) hp hempty ⟨?_, hempty⟩
  rw [Chip.follow_yard, Chip.alarmRow_lead hlead hput, Chip.yardEvent_yard]
  rfl

theorem Chip.buckleReqRow_held {c : Chip} (h : c.yard.holdOff ≠ 0) (f : RxYard) (body : List Byte) (dup : Bool) :
    c.buckleReqRow f body dup = c.dropHead f := by
  unfold Chip.buckleReqRow
  dsimp only
  rw [if_pos (show (c.dropHead f).yard.holdOff ≠ 0 from h)]

theorem Chip.buckleReqRow_assigned {c : Chip} (h : c.yard.holdOff = 0) {body : List Byte} {n : Nat}
    (hn : c.assignNumber (BitVec.ofNat 64 (leAt body 0 8)) (leAt body 8 1) = some n) (f : RxYard) (dup : Bool) :
    c.buckleReqRow f body dup = (c.dropHead f).upYard (fun y => { y with
      members := heardRow n (some (BitVec.ofNat 64 (leAt body 0 8))) (y.members.filter (fun m => m.uid != some (BitVec.ofNat 64 (leAt body 0 8)))),
      offer := some { ptype := 8, dst := 0xFF, seq := 0, join := true, age := y.round,
                      body := leBytes 8 (BitVec.ofNat 64 (leAt body 0 8)).toNat ++ bytesOf [n] ++ leBytes 2 (min 65535 (leAt body 9 2 + 1)) } }) := by
  have hassign : (c.dropHead f).assignNumber (BitVec.ofNat 64 (leAt body 0 8)) (leAt body 8 1) = some n := hn
  unfold Chip.buckleReqRow
  dsimp only
  rw [if_neg (show ¬ (c.dropHead f).yard.holdOff ≠ 0 from fun hne => hne h), hassign]

theorem buckleReq_new {s : State} {f : RxYard} {body : List Byte} (hawake : s.chip.awake = true) (h : NewFrame s.chip f body) (hp : f.ptype = 7) :
    (s.chip.yard.holdOff = 0 → ∀ n, s.chip.assignNumber (BitVec.ofNat 64 (leAt body 0 8)) (leAt body 8 1) = some n →
        Gives .buckleReq s (fun c => (∃ g : YardFrame, c.yard.offer = some g ∧ g.ptype = 8 ∧ g.join = true ∧ g.age = s.chip.yard.round ∧
          g.body = leBytes 8 (leAt body 0 8 % 2 ^ 64) ++ bytesOf [n] ++ leBytes 2 (min 65535 (leAt body 9 2 + 1))) ∧
          ∃ m ∈ c.yard.members, m.number = n ∧ m.quiet = 0)) ∧
      (s.chip.yard.holdOff ≠ 0 → Gives .buckleReq s (fun c => c.yard = s.chip.yard ∧ (c.ring 36).fill = 0)) := by
  have hknown := RxYard.known_of hp (by decide) (by decide) body
  have hdrop : ((s.chip.dropHead f).ring 36).fill = 0 := h.atHead.dropped rfl
  refine ⟨fun hopen n hn => ?_, fun hheld => ?_⟩
  · have hrow := Chip.buckleReqRow_assigned hopen hn f false
    obtain ⟨m, hm, hnumber, hquiet, -⟩ := heardRow_mem n (some (BitVec.ofNat 64 (leAt body 0 8)))
      (s.chip.yard.members.filter (fun m => m.uid != some (BitVec.ofNat 64 (leAt body 0 8))))
    refine Gives.yardNew (exec_buckleReq s) hawake h hknown hp (by rw [hrow]; exact hdrop) ?_
    rw [hrow, Chip.follow_yard, Chip.upYard_yard, BitVec.toNat_ofNat]
    exact ⟨⟨_, rfl, rfl, rfl, rfl, rfl⟩, m, hm, hnumber, hquiet⟩
  · refine Gives.yardNew (exec_buckleReq s) hawake h hknown hp (by rw [Chip.buckleReqRow_held hheld]; exact hdrop) ?_
    rw [Chip.buckleReqRow_held hheld]
    exact ⟨rfl, hdrop⟩

theorem buckleConfirm_new {s : State} {f : RxYard} {body : List Byte} (hawake : s.chip.awake = true) (hsrc : f.src < 256) (h : NewFrame s.chip f body)
    (hp : f.ptype = 9) : Gives .buckleConfirm s (fun c => (f.ackReq = true → c.yard.acks.getLsbD f.src = true) ∧
        ∃ m ∈ c.yard.members, m.number = f.src ∧ m.quiet = 0 ∧ m.uid = some (BitVec.ofNat 64 (leAt body 0 8))) := by
  have hrow : s.chip.confirmRow f body false = s.chip.leadAccept f (some (BitVec.ofNat 64 (leAt body 0 8))) := if_neg Bool.false_ne_true
  obtain ⟨l, a, hyard, hbit⟩ := s.chip.leadAccept_yard f (some (BitVec.ofNat 64 (leAt body 0 8)))
  obtain ⟨m, hm, hnumber, hquiet, huid⟩ := heardRow_mem f.src (some (BitVec.ofNat 64 (leAt body 0 8))) s.chip.yard.members
  refine Gives.yardNew (exec_buckleConfirm s) hawake h (RxYard.known_of hp (by decide) (by decide) body) hp ?_ ?_
  · rw [hrow, Chip.ring_of (Chip.leadAccept_rings _ _ _)]
    exact h.atHead.taken
  · rw [hrow, Chip.follow_yard, hyard]
    exact ⟨hbit hsrc, m, hm, hnumber, hquiet, huid _ rfl⟩

/-! ### Duplicates at the lead -/

theorem report_old {s : State} {f : RxYard} {body : List Byte} (hawake : s.chip.awake = true) (hsrc : f.src < 256) (h : OldFrame s.chip f body)
    (hp : f.ptype = 2) : Gives (.report none) s (fun c => c.yard.dup = s.chip.yard.dup + 1 ∧ c.ring 40 = s.chip.ring 40 ∧
        (f.ackReq = true → c.yard.acks.getLsbD f.src = true)) := by
  have hrow : Chip.reportRow none s.chip f body true = (s.chip.dupHead f).ackUnit f := if_pos rfl
  obtain ⟨a, hyard, hbit⟩ := s.chip.ackUnit_old f
  refine Gives.yardOld (exec_report none s) hawake h (RxYard.known_of hp (by decide) (by decide) body) hp (by rw [hrow]; exact h.atHead.ackedOld) ?_
  rw [hrow, Chip.follow_yard, Chip.ring_follow, hyard, Chip.ring_of (Chip.ackUnit_rings _ _)]
  exact ⟨rfl, s.chip.dropHead_ring_ne f (by decide), hbit hsrc⟩

theorem buckleConfirm_old {s : State} {f : RxYard} {body : List Byte} (hawake : s.chip.awake = true) (hsrc : f.src < 256) (h : OldFrame s.chip f body)
    (hp : f.ptype = 9) : Gives .buckleConfirm s (fun c => c.yard.dup = s.chip.yard.dup + 1 ∧ c.yard.members = s.chip.yard.members ∧
        (f.ackReq = true → c.yard.acks.getLsbD f.src = true)) := by
  have hrow : s.chip.confirmRow f body true = (s.chip.dupHead f).ackUnit f := if_pos rfl
  obtain ⟨a, hyard, hbit⟩ := s.chip.ackUnit_old f
  refine Gives.yardOld (exec_buckleConfirm s) hawake h (RxYard.known_of hp (by decide) (by decide) body) hp (by rw [hrow]; exact h.atHead.ackedOld) ?_
  rw [hrow, Chip.follow_yard, hyard]
  exact ⟨rfl, rfl, hbit hsrc⟩

/-! ### Host commands (R700-R702) -/

/-- The frame of a host command at the head of ring 42. -/
def hostCommand (e : Entry) (body : List Byte) : YardFrame :=
  { ptype := 4, dst := fld (ew e 0) 15 8, seq := 0, body := body, ackReq := true, tag := (ew e 1).toNat }

theorem Chip.commandQueued_eq {c : Chip} {e : Entry} {b body : List Byte} (hlead : c.yardLead = true) (hfew : c.yard.commands.length < 4)
    (hfill : (c.ring 42).fill ≠ 0) (he : e = c.tailEntry 42 0) (hwhole : frameEntries (fld (ew e 0) 7 0) ≤ (c.ring 42).fill)
    (hb : b = c.headPayload 42 (fld (ew e 0) 7 0)) (hbody : body = b.take 2 ++ leBytes 4 c.timeLo.toNat ++ b.drop 6) : c.commandQueued =
    if 224000 < c.yard.sec.slot.airUs (13 + body.length) c.ramp ∨ 255 < 13 + body.length then
      (c.consume 42 (frameEntries (fld (ew e 0) 7 0))).commandFailed (hostCommand e body) (bytesOf [leAt b 0 1, 1])
    else (c.consume 42 (frameEntries (fld (ew e 0) 7 0))).upYard (fun y => { y with commands := y.commands ++ [hostCommand e body] }) := by
  unfold Chip.commandQueued
  dsimp only
  rw [hlead, decide_eq_false hfill, decide_eq_false (by omega), if_neg (show ¬ (!true || false || false) = true from Bool.false_ne_true), ← he,
    if_neg (by omega), ← hb, ← hbody]
  rfl

theorem Chip.consume_tail_of_fill {c : Chip} {n : Nat} (hfill : (c.ring n).fill ≠ 0) (k : Nat) :
    ((c.consume n k).ring n).tail = (c.ring n).tail + BitVec.ofNat 16 k := Chip.consume_tail rfl hfill k

theorem commandQueued_commands {s : State} {e : Entry} {b body : List Byte} (hawake : s.chip.awake = true) (hlead : s.chip.yardLead = true)
    (hfew : s.chip.yard.commands.length < 4) (hfill : (s.chip.ring 42).fill ≠ 0) (he : e = s.chip.tailEntry 42 0)
    (hwhole : frameEntries (fld (ew e 0) 7 0) ≤ (s.chip.ring 42).fill) (hb : b = s.chip.headPayload 42 (fld (ew e 0) 7 0))
    (hbody : body = b.take 2 ++ leBytes 4 s.chip.timeLo.toNat ++ b.drop 6) :
    (s.chip.yard.sec.slot.airUs (13 + body.length) s.chip.ramp ≤ 224000 → 13 + body.length ≤ 255 → Gives .yardCommandQueued s (fun c =>
      c.yard.commands = s.chip.yard.commands ++
        [{ ptype := 4, dst := fld (ew e 0) 15 8, seq := 0, body := body, ackReq := true, tag := (ew e 1).toNat }] ∧
      (c.ring 42).tail = (s.chip.ring 42).tail + BitVec.ofNat 16 (frameEntries (fld (ew e 0) 7 0)))) ∧
    (224000 < s.chip.yard.sec.slot.airUs (13 + body.length) s.chip.ramp → Gives .yardCommandQueued s (fun c =>
      c.yard.commands = s.chip.yard.commands ∧ (c.ring 42).tail = (s.chip.ring 42).tail + BitVec.ofNat 16 (frameEntries (fld (ew e 0) 7 0)))) := by
  have heq := Chip.commandQueued_eq hlead hfew hfill he hwhole hb hbody
  have htail := Chip.consume_tail_of_fill hfill (frameEntries (fld (ew e 0) 7 0))
  refine ⟨fun hair hlen => ?_, fun hair => ?_⟩
  · refine Gives.run (exec_yardCommandQueued s) hawake ?_
    rw [heq, if_neg (by omega)]
    exact ⟨rfl, htail⟩
  · refine Gives.run (exec_yardCommandQueued s) hawake ?_
    rw [heq, if_pos (.inl hair), Chip.commandFailed, Chip.follow_yard, Chip.ring_follow,
      foldl_produce_keeps Chip.yard 0x0A 43 (fun c e => Chip.produce_yard c _ _ e), foldl_produce_ring_ne _ _ _ _ (by decide) (by decide)]
    exact ⟨rfl, htail⟩

/-- Settles O44: each kind of frame at the lead, new and duplicate, and the host's commands. -/
theorem theLeadTakesYardFrames : Obligations.TheLeadTakesYardFrames := by
  unfold Obligations.TheLeadTakesYardFrames
  refine ⟨fun s f body hawake hlead hsrc => ⟨fun h => ?_, fun h => ⟨report_old hawake hsrc h, buckleConfirm_old hawake hsrc h⟩⟩,
    fun s e b body hawake hlead hfew hfill he hwhole hb hbody => commandQueued_commands hawake hlead hfew hfill he hwhole hb hbody⟩
  exact ⟨report_new hawake hsrc h, fun hp hroom => reply_new hawake hsrc h hp hroom, fun hp hroom => alarm_lead hawake hlead h hp hroom,
    fun hp hopen n hn => (buckleReq_new hawake h hp).1 hopen n hn, fun hp hheld => (buckleReq_new hawake h hp).2 hheld,
    buckleConfirm_new hawake hsrc h⟩

end Sys2Proof.Machine
end

section
/-! SUPPORT. Yard rounds, yard slots, retries, buckling and yard keys (15 R672, R673, R677-R680, R685, R692, R695-R697, R704, R707, R709, R720, R721). -/

namespace Sys2Proof.Machine

theorem exec_yardRoundStart (s : State) : exec .yardRoundStart s = s.run (fun c => if c.yardIn then c.yardRound else c) := rfl
theorem exec_yardSlotStart (slot : Nat) (s : State) : exec (.yardSlotStart slot) s = s.run (fun c => c.yardDrain.yardSlot slot) := rfl
theorem exec_beaconMissed (s : State) : exec .beaconMissed s = s.run (fun c => match c.yardNumber with
    | some n => if c.yardIn && !c.yard.sec.lead && c.yard.beaconNeeded && !c.yard.beaconHeard then c.yardEvent 2 n else c
    | none => c) := rfl
theorem exec_reportReq (s : State) : exec .reportReq s = s.run Chip.reportReq := rfl
theorem exec_alarmRetry (s : State) : exec .alarmRetry s = s.run Chip.alarmRetry := rfl
theorem exec_buckleRetry (s : State) : exec .buckleRetry s = s.run Chip.buckleRetry := rfl
theorem exec_buckleListenTimeout (s : State) : exec .buckleListenTimeout s =
    s.run (fun c => if c.yard.buckle = .listening then c.upYard (fun y => { y with buckle := .idle }) else c) := rfl
theorem exec_yardKeyLoad (s : State) : exec .yardKeyLoad s = s.runHost Chip.yardLoad := rfl
theorem exec_yardKeyErase (s : State) : exec .yardKeyErase s = s.runHost Chip.yardLoad := rfl
theorem exec_yardCfgArm (s : State) : exec .yardCfgArm s = s.runHost Chip.yardCfgArm := rfl

/-! ### The round start (R677, R695, R700, R707, R709) -/

theorem Chip.yardCfgApply_yard (c : Chip) : ∃ lease mini, c.yardCfgApply.yard = { c.yard with lease := lease, miniListen := mini } := by
  unfold Chip.yardCfgApply
  split
  · exact ⟨c.yard.lease, c.yard.miniListen, rfl⟩
  · next set hset =>
    have hyard : ((c.applyWords set.words).dropArmed 0x3808).yard = c.yard :=
      Chip.yard_of_hide ((Chip.hide_dropArmed _ _ (ps := others .yard) (by decide)).trans (Chip.hide_applyWords c _ (by decide))) (by decide)
    refine ⟨((c.applyWords set.words).dropArmed 0x3808).runF 0x3808 27 16, ((c.applyWords set.words).dropArmed 0x3808).runF 0x3808 9 8, ?_⟩
    dsimp only
    rw [Chip.upYard_yard, hyard]

theorem Chip.yardCfgApply_mram (c : Chip) : c.yardCfgApply.mram = c.mram :=
  Chip.mram_of_hide (Chip.hide_yardCfgApply c (ps := others .mram) (by decide)) (by decide)

theorem foldl_commandFailed_yard (l : List YardFrame) (c : Chip) :
    (l.foldl (fun c f => c.commandFailed { f with tries := 7 } []) c).yard = c.yard := by
  induction l generalizing c with
  | nil => rfl
  | cons f l ih =>
    rw [List.foldl_cons, ih]
    exact Chip.yard_of_hide (Chip.hide_commandFailed c _ _ (ps := others .yard) (by decide)) (by decide)

theorem Chip.failCommands_yard (c : Chip) : ∃ k, c.failCommands.yard = { c.yard with
    commands := c.yard.commands.filter (fun f => decide (f.tries ≤ 7)), retry := k } := by
  unfold Chip.failCommands
  dsimp only
  rw [foldl_commandFailed_yard]
  exact ⟨_, rfl⟩

theorem Chip.failCommands_mram (c : Chip) : c.failCommands.mram = c.mram :=
  Chip.mram_of_hide (Chip.hide_failCommands c (ps := others .mram) (by decide)) (by decide)

theorem Chip.buckleWindow_yard (c : Chip) : c.buckleWindow.yard = c.yard :=
  Chip.yard_of_hide (Chip.hide_buckleWindow c (ps := others .yard) (by decide)) (by decide)

/-- Buckling at a round start: a unit without a number listens, and a waiting one counts down. -/
theorem Chip.buckleRound_yard (c : Chip) : ∃ b, c.buckleRound.yard = { c.yard with buckle := b } ∧
    (c.yardIn = true → c.yard.sec.lead = false → c.yard.buckle = .idle → c.mram.keys.yard.number = none → b = .listening) ∧
    (∀ n, c.yardIn = true → c.yard.sec.lead = false → c.yard.buckle = .waiting n → 2 ≤ n → b = .waiting (n - 1)) := by
  unfold Chip.buckleRound
  by_cases hout : (!c.yardIn || c.yard.sec.lead) = true
  · rw [if_pos hout]
    refine ⟨c.yard.buckle, rfl, fun hin hlead => ?_, fun n hin hlead => ?_⟩
    · rw [hin, hlead] at hout
      cases hout
    · rw [hin, hlead] at hout
      cases hout
  · rw [if_neg hout]
    have hself {b : Buckle} (hb : c.yard.buckle = b) : c.yard = { c.yard with buckle := b } := by rw [← hb]
    cases hbuckle : c.yard.buckle with
    | idle =>
      dsimp only
      cases hnumber : c.mram.keys.yard.number with
      | none =>
        rw [if_pos (show (none : Option Nat).isNone = true from rfl), Chip.buckleWindow_yard]
        exact ⟨_, rfl, fun _ _ _ _ => rfl, fun n _ _ h => by cases h⟩
      | some k =>
        rw [if_neg (show ¬ (some k).isNone = true from Bool.false_ne_true)]
        exact ⟨.idle, hself hbuckle, fun _ _ _ h => (by cases h), fun n _ _ h => by cases h⟩
    | waiting k =>
      dsimp only
      split
      · next hlast =>
        rw [Chip.buckleWindow_yard]
        refine ⟨_, rfl, fun _ _ h => (by cases h), fun n _ _ h hn => ?_⟩
        cases h
        omega
      · refine ⟨_, rfl, fun _ _ h => (by cases h), fun n _ _ h hn => ?_⟩
        cases h
        rfl
    | listening => exact ⟨.listening, hself hbuckle, fun _ _ h => (by cases h), fun n _ _ h => by cases h⟩
    | requested => exact ⟨.requested, hself hbuckle, fun _ _ h => (by cases h), fun n _ _ h => by cases h⟩
    | offered => exact ⟨.offered, hself hbuckle, fun _ _ h => (by cases h), fun n _ _ h => by cases h⟩

/-- The yard of a round that begins, before commands fail and buckling goes on. -/
def Chip.roundBegun (c : Chip) : Chip :=
  (c.yardCfgApply.upYard (fun y => { y with
    round := c.keeper.round, beaconHeard := false, downSlot := 0, openSlot := 0, holdOff := y.holdOff - 1, sinceAck := y.sinceAck + 1,
    members := y.members.map (fun m => { m with quiet := m.quiet + 1 }), commands := y.commands.map YardFrame.aged })).upYard
    (fun y => { y with members := y.members.filter (fun m => decide (m.quiet ≤ y.lease)) })

theorem Chip.yardRound_eq (c : Chip) : c.yardRound = c.roundBegun.failCommands.buckleRound := rfl

theorem yardRoundStart_begins {s : State} (hawake : s.chip.awake = true) (hin : s.chip.yardIn = true) :
    Gives .yardRoundStart s (fun c => c.yard.round = s.chip.keeper.round ∧ c.yard.beaconHeard = false ∧ c.yard.downSlot = 0 ∧ c.yard.openSlot = 0 ∧
      c.yard.sinceAck = s.chip.yard.sinceAck + 1 ∧ (∀ m ∈ c.yard.members, m.quiet ≤ c.yard.lease) ∧ (∀ f ∈ c.yard.commands, f.tries ≤ 7) ∧
      (s.chip.yard.sec.lead = false → s.chip.yard.buckle = .idle → s.chip.mram.keys.yard.number = none → c.yard.buckle = .listening) ∧
      (∀ n, s.chip.yard.sec.lead = false → s.chip.yard.buckle = .waiting n → 2 ≤ n → c.yard.buckle = .waiting (n - 1))) := by
  obtain ⟨lease, mini, hcfg⟩ := s.chip.yardCfgApply_yard
  obtain ⟨k, hfail⟩ := s.chip.roundBegun.failCommands_yard
  obtain ⟨b, hbuckle, hidle, hwaiting⟩ := s.chip.roundBegun.failCommands.buckleRound_yard
  have hbegun : s.chip.roundBegun.yard = { s.chip.yardCfgApply.yard with
      round := s.chip.keeper.round, beaconHeard := false, downSlot := 0, openSlot := 0, holdOff := s.chip.yardCfgApply.yard.holdOff - 1,
      sinceAck := s.chip.yardCfgApply.yard.sinceAck + 1,
      members := (s.chip.yardCfgApply.yard.members.map (fun m => { m with quiet := m.quiet + 1 })).filter
        (fun m => decide (m.quiet ≤ s.chip.yardCfgApply.yard.lease)),
      commands := s.chip.yardCfgApply.yard.commands.map YardFrame.aged } := rfl
  have hmram : s.chip.roundBegun.failCommands.mram = s.chip.mram := (Chip.failCommands_mram _).trans s.chip.yardCfgApply_mram
  rw [hcfg] at hbegun
  rw [hbegun] at hfail
  have hinRound : s.chip.roundBegun.failCommands.yardIn = true := by
    unfold Chip.yardIn at hin ⊢
    rw [hmram, hfail]
    exact hin
  refine Gives.run (exec_yardRoundStart s) hawake ?_
  rw [if_pos hin, Chip.yardRound_eq, Chip.follow_yard, hbuckle, hfail]
  rw [hfail, hmram] at hidle
  rw [hfail] at hwaiting
  refine ⟨rfl, rfl, rfl, rfl, rfl, fun m hm => ?_, fun f hf => ?_, hidle hinRound, fun n => hwaiting n hinRound⟩
  · exact of_decide_eq_true (List.mem_filter.mp hm).2
  · exact of_decide_eq_true (List.mem_filter.mp hf).2

end Sys2Proof.Machine
end

section
/-! SUPPORT. Yard slots: the lead's beacon and a member's report (15 R678-R681, R688, R695, R696). -/

namespace Sys2Proof.Machine

/-! ### Frames on ring 35 (R653, R654) -/

theorem xorPad_length (a b : List Byte) : (xorPad a b).length = a.length := by
  unfold xorPad
  rw [List.length_map, List.length_range]

/-- Ciphertext and MIC are at most four bytes longer than the body. -/
theorem ccmSeal_length_le (key nonce aad plain : List Byte) : (ccmSeal key nonce aad plain).length ≤ plain.length + 4 := by
  have htag : (ccmTag key nonce aad plain).length ≤ 4 := List.length_take_le _ _
  unfold ccmSeal
  rw [List.length_append, xorPad_length, xorPad_length]
  omega

theorem bytesOf_length (ns : List Nat) : (bytesOf ns).length = ns.length := List.length_map _

theorem yardHeader_length (src dst flags era seq : Nat) : (yardHeader src dst flags era seq).length = 9 := by
  unfold yardHeader
  rw [List.length_append, List.length_append, bytesOf_length, leBytes_length, leBytes_length]
  rfl

theorem Chip.yardPayload_length_le (c : Chip) (src : Nat) (f : YardFrame) : (c.yardPayload src f).length ≤ 13 + f.body.length := by
  unfold Chip.yardPayload
  dsimp only
  rw [List.length_append, yardHeader_length]
  have := ccmSeal_length_le (yardKey c.mram.keys.yard.key f.join src c.mram.keys.yard.era)
    (yardNonce c.mram.keys.yard.code src f.dst (yardFlags f.bcast f.join) c.mram.keys.yard.era f.seq f.ptype)
    (yardHeader src f.dst (yardFlags f.bcast f.join) c.mram.keys.yard.era f.seq) f.body
  omega

theorem Chip.yardEntries_length_le (c : Chip) (src : Nat) (f : YardFrame) (r : RadioSetting) (units us : Nat) :
    (c.yardEntries src f r units us).length ≤ 1 + (13 + f.body.length + 31) / 32 := by
  have := c.yardPayload_length_le src f
  unfold Chip.yardEntries dataEntries
  dsimp only
  rw [List.length_cons, List.length_map, List.length_range]
  omega

/-- Entries go into a ring that has room for them, and change nothing but rings. -/
theorem Chip.putItem_some {c : Chip} {n : Nat} {es : List Entry} (hsize : (c.ring n).sizeLog2 ≠ 0) (hconsumer : (c.ring n).consumer ≠ 0)
    (hwaiting : (c.ring n).waiting = []) (hroom : (c.ring n).fill + es.length ≤ (c.ring n).size) :
    ∃ d, c.putItem n es = some d ∧ d.noRings = c.noRings := by
  refine ⟨es.foldl (fun c e => c.produce 0x0A n e) c, ?_, foldl_produce_keeps Chip.noRings 0x0A n (fun c e => Chip.noRings_produce c _ _ e) es c⟩
  unfold Chip.putItem
  dsimp only
  rw [if_neg (fun hno => by
    rcases hno with h | h | h | h
    · exact hsize h
    · exact hconsumer h
    · omega
    · exact h hwaiting)]

theorem Chip.putItem_keeps {c d : Chip} {n : Nat} {es : List Entry} (h : c.putItem n es = some d) :
    d = es.foldl (fun c e => c.produce 0x0A n e) c := by
  unfold Chip.putItem at h
  dsimp only at h
  split at h
  · cases h
  · exact (Option.some.inj h).symm

/-- A frame that ends in time goes onto ring 35, when the ring has room for it. -/
theorem Chip.yardSend_some {c : Chip} {src : Nat} {f : YardFrame} {r : RadioSetting} {limit : Nat} (hair : r.airUs (13 + f.body.length) c.ramp ≤ limit)
    (hsize : (c.ring 35).sizeLog2 ≠ 0) (hconsumer : (c.ring 35).consumer ≠ 0) (hwaiting : (c.ring 35).waiting = [])
    (hroom : (c.ring 35).fill + (1 + (13 + f.body.length + 31) / 32) ≤ (c.ring 35).size) (units us : Nat) :
    ∃ d, c.yardSend 35 src f r units us limit = some d ∧ d.noRings = c.noRings := by
  have := c.yardEntries_length_le src f r units us
  obtain ⟨d, hd, hsame⟩ := Chip.putItem_some (es := c.yardEntries src f r units us) hsize hconsumer hwaiting (by omega)
  refine ⟨d, ?_, hsame⟩
  unfold Chip.yardSend
  rw [if_neg (by omega), hd]

/-! ### Before the slot: what waits in other rings is drained (R694) -/

theorem foldl_consume_keeps {α : Type} (g : Chip → α) (hg : ∀ c n k, n ≠ 35 → g (c.consume n k) = g c) (l : List Nat) (hl : 35 ∉ l) (c : Chip) :
    g (l.foldl (fun c n => if (c.ring n).consumer = 0x0A then c.consume n (c.ring n).fill else c) c) = g c := by
  induction l generalizing c with
  | nil => rfl
  | cons n l ih =>
    rw [List.foldl_cons, ih (fun h => hl (List.mem_cons_of_mem _ h))]
    split
    · exact hg _ _ _ (fun h => hl (h ▸ List.mem_cons_self))
    · rfl

/-- Draining leaves ring 35 and everything but rings as it was. -/
theorem Chip.yardDrain_keeps {α : Type} (g : Chip → α) (hg : ∀ c n k, n ≠ 35 → g (Chip.consume c n k) = g c) (c : Chip) : g c.yardDrain = g c := by
  have hfold := foldl_consume_keeps g hg ([8, 9, 10, 11, 12, 13, 14, 15, 38] : List Nat) (by decide) c
  unfold Chip.yardDrain
  dsimp only
  split
  · split
    · rw [hg _ _ _ (by decide), hfold]
    · exact hfold
  · exact hfold

theorem Chip.yardDrain_noRings (c : Chip) : c.yardDrain.noRings = c.noRings := Chip.yardDrain_keeps Chip.noRings (fun _ _ _ _ => rfl) c

theorem Chip.yardDrain_ring (c : Chip) : c.yardDrain.ring 35 = c.ring 35 :=
  Chip.yardDrain_keeps (fun c => c.ring 35) (fun _ _ _ hn => Chip.ring_upRing_ne _ _ _ _ hn) c

/-! ### The minislot (R678) -/

theorem Chip.upYard_self {c : Chip} {f : Yard → Yard} (h : f c.yard = c.yard) : c.upYard f = c := by
  unfold Chip.upYard
  rw [h]

/-- Nothing is due in a minislot. -/
structure MiniIdle (c : Chip) : Prop where
  alarm : c.yard.alarm = none
  relay : c.yard.relay = none

theorem MiniIdle.wait {c : Chip} (h : MiniIdle c) : c.miniWait = c := by
  refine Chip.upYard_self ?_
  rw [h.alarm]
  exact congrArg (fun a => { c.yard with alarm := a }) h.alarm.symm

theorem MiniIdle.own {c : Chip} (h : MiniIdle c) (s own : Nat) : c.miniOwn s own = c := by
  unfold Chip.miniOwn
  rw [h.alarm, h.relay]
  dsimp only
  split
  · rfl
  · rfl

/-- With nothing to send, the lead listens. -/
theorem MiniIdle.lead {c : Chip} (h : MiniIdle c) (hlead : c.yard.sec.lead = true) (howed : c.yard.ackOwed = none) (s : Nat) :
    c.minislot s = c.yardListen c.yard.sec.alarm c.keeper.units 0 20 := by
  have hnumber : c.yardNumber = some 0 := if_pos hlead
  have hack : c.miniAck = c := by
    unfold Chip.miniAck
    rw [howed]
  unfold Chip.minislot
  dsimp only
  rw [h.wait, hnumber]
  dsimp only
  rw [if_pos hlead, hack, h.own, Chip.miniListen, if_pos (.inl hlead)]

/-- A member that does not relay has nothing to do in it. -/
theorem MiniIdle.member {c : Chip} (h : MiniIdle c) (hmember : c.yard.sec.lead = false) (hmini : c.miniOn = false) {own : Nat}
    (hown : c.yardNumber = some own) (s : Nat) : c.minislot s = c := by
  unfold Chip.minislot
  dsimp only
  rw [h.wait, hown]
  dsimp only
  rw [if_neg (by rw [hmember]; exact Bool.false_ne_true), h.own, Chip.miniListen, if_neg (by
    rw [hmember, hmini, h.alarm]
    rintro (h | h | h)
    · cases h
    · cases h
    · cases h)]

/-- A listen entry goes onto ring 35 where there is room. -/
theorem Chip.yardListen_keeps (c : Chip) (r : RadioSetting) (units us ms : Nat) : (c.yardListen r units us ms).noRings = c.noRings := by
  unfold Chip.yardListen
  cases h : c.putItem 35 _ with
  | none => rfl
  | some d =>
    rw [Chip.putItem_keeps h]
    exact Chip.noRings_produce _ _ _ _

theorem YardRing.listened {c : Chip} (h : YardRing c 35) (hroom : (c.ring 35).fill + 1 ≤ (c.ring 35).size) (r : RadioSetting) (units us ms : Nat) :
    (c.yardListen r units us ms).ring 35 = (c.ring 35).pushed := by
  obtain ⟨d, hd, -⟩ := Chip.putItem_some (c := c) (n := 35) (es := [[wd (2 * 2 ^ 24), settingWord1 0xFF r, wd r.freq,
    wd (c.mram.keys.yard.code * 65536 + min 65535 (max 1 ms))] ++ launchWords c units us ++ [0]]) h.size h.consumer h.waiting hroom
  unfold Chip.yardListen
  rw [hd, Option.getD_some, Chip.putItem_keeps hd]
  exact h.produce_ring (Ring.full_of_room (k := 0) hroom) _

/-! ### The beacon (R680, R681) -/

theorem Chip.beaconBody_length (c : Chip) : c.beaconBody.length = 54 := by
  unfold Chip.beaconBody downBytes ackBytes
  dsimp only
  simp only [List.length_append, leBytes_length, bytesOf_length, padTo_length, List.length_cons, List.length_nil]

/-- A counter below its end gives its next value. -/
theorem Chip.nextSeq_below {c : Chip} {dst : Nat} (hgoes : c.yard.exhausted = false) (hbelow : mget 0 c.yard.counters dst < 0xFFFFFFFF) :
    c.nextSeq dst = some (c.upYard (fun y => { y with counters := mset 0 y.counters dst (mget 0 c.yard.counters dst + 1) }),
      mget 0 c.yard.counters dst + 1) := by
  have hmore : mget 0 c.yard.counters dst ≠ 0xFFFFFFFF := Nat.ne_of_lt hbelow
  unfold Chip.nextSeq
  simp only [hgoes, if_neg hmore, Bool.false_eq_true, if_false]

theorem Chip.ramp_congr {c d : Chip} (h : d.run = c.run) : d.ramp = c.ramp := by
  unfold Chip.ramp Chip.runF Chip.runW
  rw [h]

/-- The beacon's commands named, and the open yard slot set. -/
def Chip.beaconReady (c : Chip) : Chip :=
  c.upYard (fun y => { y with commands := nameCommands y.commands (c.downSlots.filter (fun n => some n != c.lowestFree)) [],
                              openSlot := if c.bucklingOpen then c.lowestFree.getD 0 else 0 })

/-- A lead whose time is good sends its beacon, when ring 35 has room, and begins to collect ACK bits. -/
theorem Chip.sendBeacon_sent {c : Chip} {u : Nat} (hunc : c.timeUnc = some u) (hgood : u ≤ 1000) (hgoes : c.yard.exhausted = false)
    (hbelow : mget 0 c.yard.counters 256 < 0xFFFFFFFF) (hair : c.yard.sec.beacon.airUs 67 c.ramp ≤ 224000) (hsize : (c.ring 35).sizeLog2 ≠ 0)
    (hconsumer : (c.ring 35).consumer ≠ 0) (hwaiting : (c.ring 35).waiting = []) (hroom : (c.ring 35).fill + 4 ≤ (c.ring 35).size) :
    ∃ cs ns, c.sendBeacon.yard = { c.yard with commands := cs, counters := ns, acks := 0,
                                               openSlot := if c.bucklingOpen then c.lowestFree.getD 0 else 0 } := by
  have hseq := Chip.nextSeq_below (c := c.beaconReady) (dst := 256) hgoes hbelow
  generalize hm : mget 0 c.beaconReady.yard.counters 256 + 1 = m at hseq
  generalize hq : c.beaconReady.upYard (fun y => { y with counters := mset 0 y.counters 256 m }) = q at hseq
  have hqring : q.ring 35 = c.ring 35 := by rw [← hq]; rfl
  have hqyard : q.yard = { c.beaconReady.yard with counters := mset 0 c.beaconReady.yard.counters 256 m } := by rw [← hq]; rfl
  have hqsec : q.yard.sec = c.yard.sec := by rw [hqyard]; rfl
  have hqramp : q.ramp = c.ramp := Chip.ramp_congr (by rw [← hq]; rfl)
  obtain ⟨d, hd, hsame⟩ := Chip.yardSend_some (c := q) (src := 0)
    (f := { ptype := 1, dst := 0xFF, seq := m, bcast := true, body := c.beaconReady.beaconBody }) (r := q.yard.sec.beacon) (limit := 224000)
    (by rw [hqsec, hqramp, Chip.beaconBody_length]; exact hair) (by rwa [hqring]) (by rwa [hqring]) (by rwa [hqring])
    (by rw [hqring, Chip.beaconBody_length]; exact hroom) q.keeper.units 22000
  have hsent : c.sendBeacon = d.upYard (fun y => { y with acks := 0 }) := by
    unfold Chip.sendBeacon
    rw [hunc, if_neg (by rw [Option.any_some, decide_eq_true hgood]; exact Bool.false_ne_true)]
    dsimp only
    unfold Chip.beaconReady at hseq hd
    rw [hseq, Option.bind_some, hd]
    rfl
  rw [hsent, Chip.upYard_yard, Chip.noRings_yard hsame, hqyard]
  exact ⟨_, _, rfl⟩

/-- A lead whose time is not good sends none. -/
theorem Chip.sendBeacon_none {c : Chip} {u : Nat} (hunc : c.timeUnc = some u) (hbad : 1000 < u) : c.sendBeacon = c := by
  unfold Chip.sendBeacon
  rw [hunc, if_pos (by rw [Option.any_some, decide_eq_false (by omega)]; rfl)]

/-! ### The slot begins: a block that differs from another in its rings only -/

theorem Chip.noRings_yardIn {c d : Chip} (h : c.noRings = d.noRings) : c.yardIn = d.yardIn := (congrArg Chip.yardIn h :)
theorem Chip.noRings_timeUnc {c d : Chip} (h : c.noRings = d.noRings) : c.timeUnc = d.timeUnc := (congrArg Chip.timeUnc h :)
theorem Chip.noRings_bucklingOpen {c d : Chip} (h : c.noRings = d.noRings) : c.bucklingOpen = d.bucklingOpen := (congrArg Chip.bucklingOpen h :)
theorem Chip.noRings_lowestFree {c d : Chip} (h : c.noRings = d.noRings) : c.lowestFree = d.lowestFree := (congrArg Chip.lowestFree h :)
theorem Chip.noRings_upYard (c : Chip) (f : Yard → Yard) : (c.upYard f).noRings = c.noRings.upYard f := rfl

theorem Chip.yardSlot_eq {c : Chip} {s : Nat} (hin : c.yardIn = true) (hs : s ≤ 255) :
    c.yardSlot s = ((c.upYard (fun y => { y with slot := s })).minislot s).slotRest s := by
  unfold Chip.yardSlot
  rw [hin, decide_eq_false (by omega)]
  rfl

/-- The block in which a yard slot begins. -/
def Chip.inSlot (c : Chip) (s : Nat) : Chip := c.yardDrain.upYard (fun y => { y with slot := s })

theorem Chip.inSlot_noRings (c : Chip) (s : Nat) : (c.inSlot s).noRings = (c.upYard (fun y => { y with slot := s })).noRings := by
  rw [Chip.inSlot, Chip.noRings_upYard, Chip.yardDrain_noRings, Chip.noRings_upYard]

theorem Chip.inSlot_yard (c : Chip) (s : Nat) : (c.inSlot s).yard = { c.yard with slot := s } := by
  rw [Chip.noRings_yard (c.inSlot_noRings s), Chip.upYard_yard]

theorem Chip.inSlot_ring (c : Chip) (s : Nat) : (c.inSlot s).ring 35 = c.ring 35 := by
  rw [Chip.inSlot, Chip.ring_of (Chip.upYard_rings _ _), Chip.yardDrain_ring]

theorem Chip.inSlot_slot {c : Chip} {s : Nat} (hin : c.yardIn = true) (hs : s ≤ 255) :
    c.yardDrain.yardSlot s = ((c.inSlot s).minislot s).slotRest s :=
  Chip.yardSlot_eq ((Chip.noRings_yardIn c.yardDrain_noRings).trans hin) hs

theorem beaconSlot_commands {s : State} {u : Nat} (hawake : s.chip.awake = true) (hin : s.chip.yardIn = true) (hlead : s.chip.yard.sec.lead = true)
    (hidle : MiniIdle s.chip) (howed : s.chip.yard.ackOwed = none) (hgoes : s.chip.yard.exhausted = false)
    (hbelow : mget 0 s.chip.yard.counters 256 < 0xFFFFFFFF) (hunc : s.chip.timeUnc = some u)
    (hair : s.chip.yard.sec.beacon.airUs 67 s.chip.ramp ≤ 224000) (hring : YardRing s.chip 35)
    (hroom : (s.chip.ring 35).fill + 6 ≤ (s.chip.ring 35).size) :
    (u ≤ 1000 → Gives (.yardSlotStart 0) s (fun c => c.yard.acks = 0 ∧ c.yard.slot = 0 ∧
        c.yard.openSlot = (if s.chip.bucklingOpen then s.chip.lowestFree.getD 0 else 0))) ∧
      (1000 < u → Gives (.yardSlotStart 0) s (fun c => c.yard.acks = s.chip.yard.acks ∧ c.yard.openSlot = s.chip.yard.openSlot ∧
        c.yard.counters = s.chip.yard.counters)) := by
  have hyard := s.chip.inSlot_yard 0
  have hmini : (s.chip.inSlot 0).minislot 0 = (s.chip.inSlot 0).yardListen (s.chip.inSlot 0).yard.sec.alarm (s.chip.inSlot 0).keeper.units 0 20 :=
    MiniIdle.lead ⟨by rw [hyard]; exact hidle.alarm, by rw [hyard]; exact hidle.relay⟩ (by rw [hyard]; exact hlead) (by rw [hyard]; exact howed) 0
  generalize hg : (s.chip.inSlot 0).yardListen (s.chip.inSlot 0).yard.sec.alarm (s.chip.inSlot 0).keeper.units 0 20 = g at hmini
  have hsame : g.noRings = (s.chip.upYard (fun y => { y with slot := 0 })).noRings := by
    rw [← hg, Chip.yardListen_keeps]
    exact s.chip.inSlot_noRings 0
  have hgring : g.ring 35 = (s.chip.ring 35).pushed := by
    rw [← hg, YardRing.listened (hring.of_ring (s.chip.inSlot_ring 0)) (by rw [s.chip.inSlot_ring 0]; omega), s.chip.inSlot_ring 0]
  have hgyard : g.yard = { s.chip.yard with slot := 0 } := Chip.noRings_yard hsame
  have hgunc : g.timeUnc = some u := (Chip.noRings_timeUnc hsame).trans hunc
  have hslot : s.chip.yardDrain.yardSlot 0 = g.sendBeacon := by
    rw [Chip.inSlot_slot hin (by decide), hmini, Chip.slotRest, if_pos (show g.yard.sec.lead = true by rw [hgyard]; exact hlead), if_pos rfl]
  refine ⟨fun hgood => ?_, fun hbad => ?_⟩
  · have hfill := (s.chip.ring 35).fill_pushed_le
    have hgsize : (g.ring 35).size = (s.chip.ring 35).size := by rw [hgring]; rfl
    obtain ⟨cs, ns, hsent⟩ := Chip.sendBeacon_sent (c := g) hgunc hgood (by rw [hgyard]; exact hgoes) (by rw [hgyard]; exact hbelow)
      (by rw [hgyard, Chip.ramp_congr (Chip.noRings_run hsame)]; exact hair) (by rw [hgring]; exact hring.size) (by rw [hgring]; exact hring.consumer)
      (by rw [hgring]; exact hring.waiting) (by rw [hgsize, hgring]; omega)
    refine Gives.run (exec_yardSlotStart 0 s) hawake ?_
    rw [hslot, Chip.follow_yard, hsent, hgyard]
    refine ⟨rfl, rfl, ?_⟩
    show (if g.bucklingOpen = true then g.lowestFree.getD 0 else 0) = _
    rw [Chip.noRings_bucklingOpen hsame, Chip.noRings_lowestFree hsame]
    rfl
  · refine Gives.run (exec_yardSlotStart 0 s) hawake ?_
    rw [hslot, Chip.sendBeacon_none hgunc hbad, Chip.follow_yard, hgyard]
    exact ⟨rfl, rfl, rfl⟩

end Sys2Proof.Machine
end

section
/-! SUPPORT. A member's own yard slot, report requests, retries, buckling, yard keys and YARD_CFG (15 R672, R673, R685, R692, R695, R696, R704,
R707, R709, R720, R721), and the statement on them. -/

namespace Sys2Proof.Machine

/-! ### The own yard slot (R679, R695, R696) -/

/-- A report is all that a member has to send, and it has not been given up. -/
structure ReportWaits (c : Chip) (f : YardFrame) : Prop where
  confirm : c.yard.confirm = none
  replies : c.yard.replies = []
  report : c.yard.report = some f
  spent : f.spent = false
  waits : f.waits = false

theorem ReportWaits.dropSpent {c : Chip} {f : YardFrame} (h : ReportWaits c f) : c.dropSpent = c := by
  have hreplies : c.upYard (fun y => { y with replies := y.replies.filter (fun f => !f.spent) }) = c := by
    refine Chip.upYard_self ?_
    rw [h.replies]
    exact congrArg (fun r => { c.yard with replies := r }) h.replies.symm
  unfold Chip.dropSpent
  rw [h.report, Option.any_some, h.spent, if_neg Bool.false_ne_true]
  dsimp only
  rw [hreplies, h.confirm]
  rfl

theorem ReportWaits.ownFrame {c : Chip} {f : YardFrame} (h : ReportWaits c f) : c.ownFrame = some f := by
  have hreply : c.dueReply = none := by
    unfold Chip.dueReply
    rw [h.replies]
    rfl
  unfold Chip.ownFrame
  rw [h.confirm, hreply, h.report]
  dsimp only
  rw [h.waits]
  rfl

/-- The frame's SEQ is drawn at its first sending, and kept after. -/
theorem Chip.withSeq_kept {c : Chip} (hgoes : c.yard.exhausted = false) {f : YardFrame} (h : f.seq ≠ 0) :
    c.withSeq f = some (c.upYard (fun y => { y with counters := c.yard.counters }), f) := by
  unfold Chip.withSeq
  rw [Chip.upYard_self rfl, hgoes, if_neg Bool.false_ne_true, if_pos h]

theorem Chip.withSeq_drawn {c : Chip} (hgoes : c.yard.exhausted = false) {f : YardFrame} (h : f.seq = 0) (hbcast : f.bcast = false)
    (hbelow : mget 0 c.yard.counters f.dst < 0xFFFFFFFF) : c.withSeq f =
      some (c.upYard (fun y => { y with counters := mset 0 y.counters f.dst (mget 0 c.yard.counters f.dst + 1) }),
        { f with seq := mget 0 c.yard.counters f.dst + 1 }) := by
  unfold Chip.withSeq
  rw [hgoes, if_neg Bool.false_ne_true, if_neg (not_not.mpr h), hbcast, if_neg Bool.false_ne_true, Chip.nextSeq_below hgoes hbelow]
  rfl

/-- The frame with its TRY as it goes out. -/
def YardFrame.going (f : YardFrame) : YardFrame := if f.sent then { f with tries := f.tries + 1 } else f

/-- What sending a slot frame leaves of the yard. -/
theorem Chip.slotFrame_sent {c c1 : Chip} {src : Nat} {f g : YardFrame} (hseq : c.withSeq f.going = some (c1, g))
    (hrun : c1.run = c.run) (hring : c1.ring 35 = c.ring 35) (hsec : c1.yard.sec = c.yard.sec)
    (hbody : g.body = f.body) (hair : c.yard.sec.slot.airUs (13 + f.body.length) c.ramp ≤ 224000) (hlen : f.body.length ≤ 224)
    (hsize : (c.ring 35).sizeLog2 ≠ 0) (hconsumer : (c.ring 35).consumer ≠ 0) (hwaiting : (c.ring 35).waiting = [])
    (hroom : (c.ring 35).fill + 9 ≤ (c.ring 35).size) : ∃ d, c.slotFrame src f = some (d, { g with sent := true }) ∧ d.yard = { c1.yard with
      retry := if f.sent then c1.yard.retry + 1 else c1.yard.retry, lastSent := if g.ackReq then g.ptype else 0 } := by
  have hramp : c1.ramp = c.ramp := Chip.ramp_congr hrun
  obtain ⟨d, hd, hsame⟩ := Chip.yardSend_some (c := c1) (src := src) (f := g) (r := c1.yard.sec.slot) (limit := 224000)
    (by rw [hsec, hbody, hramp]; exact hair) (by rwa [hring]) (by rwa [hring]) (by rwa [hring]) (by rw [hring, hbody]; omega) c1.keeper.units 22000
  have hyard := Chip.noRings_yard hsame
  unfold YardFrame.going at hseq
  unfold Chip.slotFrame
  dsimp only
  rw [hseq]
  dsimp only
  rw [hd, Option.map_some]
  refine ⟨_, rfl, ?_⟩
  cases f.sent
  · rw [if_neg Bool.false_ne_true, Chip.upYard_yard, hyard]
    rfl
  · rw [if_pos rfl, Chip.upYard_yard, Chip.upYard_yard, hyard]
    rfl

/-- The own yard slot of a member whose time is good carries its frame. -/
theorem Chip.ownSlot_sent {c d : Chip} {own u : Nat} {f g : YardFrame} (h : ReportWaits c f) (hunc : c.timeUnc = some u) (hgood : u ≤ 2000)
    (hbeacon : c.yard.beaconNeeded = false ∨ c.yard.beaconHeard = true)
    (hsent : (c.upYard (fun y => { y with lastSent := 0 })).slotFrame own f = some (d, g)) : c.ownSlot own = d.keepSent f g := by
  have hwaits : ReportWaits (c.upYard (fun y => { y with lastSent := 0 })) f := ⟨h.confirm, h.replies, h.report, h.spent, h.waits⟩
  have hunc' : (c.upYard (fun y => { y with lastSent := 0 })).timeUnc = some u := hunc
  have hgo : ((c.yard.beaconNeeded && !c.yard.beaconHeard) || !(some u).any (fun u => decide (u ≤ 2000))) = false := by
    rw [Option.any_some, decide_eq_true hgood]
    rcases hbeacon with h | h
    · rw [h]; rfl
    · rw [h, Bool.not_true, Bool.and_false]; rfl
  unfold Chip.ownSlot
  dsimp only
  rw [h.dropSpent, hunc', if_neg (show ¬ (((c.upYard (fun y => { y with lastSent := 0 })).yard.beaconNeeded &&
    !(c.upYard (fun y => { y with lastSent := 0 })).yard.beaconHeard) || !(some u).any (fun u => decide (u ≤ 2000))) = true by
      rw [Chip.upYard_yard, hgo]; exact Bool.false_ne_true), hwaits.ownFrame]
  dsimp only
  rw [hsent]

/-- The report goes back to where it waits for its acknowledgement. -/
theorem Chip.keepSent_report {c : Chip} {old new : YardFrame} (h : new.ptype = 2) : c.keepSent old new = c.upYard (fun y => { y with report := some new }) := by
  unfold Chip.keepSent
  rw [h, if_neg (by decide), if_neg (by decide)]

theorem Chip.beaconWindow_yard (c : Chip) : ∃ b, c.beaconWindow.yard = { c.yard with beaconNeeded := b } := by
  unfold Chip.beaconWindow
  dsimp only
  split
  · rw [Chip.noRings_yard (Chip.yardListen_keeps _ _ _ _ _)]
    exact ⟨_, rfl⟩
  · exact ⟨_, rfl⟩

/-- The rest of a member's own yard slot. -/
theorem Chip.slotRest_own {c : Chip} {s : Nat} (hmember : c.yard.sec.lead = false) (hown : c.yardNumber = some s) :
    ∃ b, (c.slotRest s).yard = { (c.ownSlot s).yard with beaconNeeded := b } := by
  unfold Chip.slotRest
  rw [hmember, if_neg Bool.false_ne_true, hown]
  dsimp only
  rw [if_pos rfl]
  split
  · exact Chip.beaconWindow_yard _
  · exact ⟨(c.ownSlot s).yard.beaconNeeded, rfl⟩

/-- The own yard slot of a member that has a report to send, with room for it on ring 35 and good time. -/
structure OwnSlot (c : Chip) (slot : Nat) (f : YardFrame) : Prop where
  yardIn : c.yardIn = true
  last : slot ≤ 255
  member : c.yard.sec.lead = false
  number : c.mram.keys.yard.number = some slot
  idle : MiniIdle c
  mini : c.miniOn = false
  report : ReportWaits c f
  goes : c.yard.exhausted = false
  good : ∃ u, c.timeUnc = some u ∧ u ≤ 2000
  beacon : c.yard.beaconNeeded = false ∨ c.yard.beaconHeard = true
  air : c.yard.sec.slot.airUs (13 + f.body.length) c.ramp ≤ 224000
  len : f.body.length ≤ 224
  size : (c.ring 35).sizeLog2 ≠ 0
  consumer : (c.ring 35).consumer ≠ 0
  waiting : (c.ring 35).waiting = []
  room : (c.ring 35).fill + 9 ≤ (c.ring 35).size

/-- What a slot looks at outside the rings. -/
theorem Chip.noRings_miniOn {c d : Chip} (h : c.noRings = d.noRings) : c.miniOn = d.miniOn := (congrArg Chip.miniOn h :)

theorem OwnSlot.yardNumber {c : Chip} {slot : Nat} {f : YardFrame} (h : OwnSlot c slot f) : c.yardNumber = some slot := by
  unfold Chip.yardNumber
  rw [h.member, if_neg Bool.false_ne_true, h.number]

/-- The conditions hold in the block in which the slot begins. -/
theorem OwnSlot.inSlot {c : Chip} {slot : Nat} {f : YardFrame} (h : OwnSlot c slot f) : OwnSlot (c.inSlot slot) slot f := by
  have hsame := c.inSlot_noRings slot
  have hyard := c.inSlot_yard slot
  have hring := c.inSlot_ring slot
  have hramp : (c.inSlot slot).ramp = c.ramp := Chip.ramp_congr ((Chip.noRings_run hsame).trans rfl)
  exact {
    yardIn := (Chip.noRings_yardIn hsame).trans h.yardIn
    last := h.last
    member := by rw [hyard]; exact h.member
    number := by rw [Chip.noRings_mram hsame]; exact h.number
    idle := ⟨by rw [hyard]; exact h.idle.alarm, by rw [hyard]; exact h.idle.relay⟩
    mini := (Chip.noRings_miniOn hsame).trans h.mini
    report := ⟨by rw [hyard]; exact h.report.confirm, by rw [hyard]; exact h.report.replies, by rw [hyard]; exact h.report.report,
      h.report.spent, h.report.waits⟩
    goes := by rw [hyard]; exact h.goes
    good := by rw [Chip.noRings_timeUnc hsame]; exact h.good
    beacon := by rw [hyard]; exact h.beacon
    air := by rw [hyard, hramp]; exact h.air
    len := h.len
    size := by rw [hring]; exact h.size
    consumer := by rw [hring]; exact h.consumer
    waiting := by rw [hring]; exact h.waiting
    room := by rw [hring]; exact h.room }

/-- In the own slot the report goes out, with the SEQ that it has or draws. -/
theorem OwnSlot.sends {c : Chip} {slot : Nat} {f g : YardFrame} (h : OwnSlot c slot f) {ns : List (Nat × Nat)}
    (hseq : (c.upYard (fun y => { y with lastSent := 0 })).withSeq f.going =
      some ((c.upYard (fun y => { y with lastSent := 0 })).upYard (fun y => { y with counters := ns }), g))
    (hbody : g.body = f.body) (hptype : g.ptype = 2) : (c.ownSlot slot).yard.report = some { g with sent := true } ∧
      (c.ownSlot slot).yard.retry = (if f.sent then c.yard.retry + 1 else c.yard.retry) ∧
      (c.ownSlot slot).yard.lastSent = if g.ackReq then g.ptype else 0 := by
  obtain ⟨u, hunc, hgood⟩ := h.good
  obtain ⟨d, hd, hyard⟩ := Chip.slotFrame_sent (src := slot) hseq rfl rfl rfl hbody h.air h.len h.size h.consumer h.waiting h.room
  rw [Chip.ownSlot_sent h.report hunc hgood h.beacon hd, Chip.keepSent_report (new := { g with sent := true }) hptype, Chip.upYard_yard, hyard]
  exact ⟨rfl, rfl, rfl⟩

theorem Chip.slotRest_report {c : Chip} {s : Nat} (hmember : c.yard.sec.lead = false) (hown : c.yardNumber = some s) :
    (c.slotRest s).yard.report = (c.ownSlot s).yard.report ∧ (c.slotRest s).yard.retry = (c.ownSlot s).yard.retry ∧
      (c.slotRest s).yard.lastSent = (c.ownSlot s).yard.lastSent := by
  obtain ⟨b, hb⟩ := Chip.slotRest_own hmember hown
  rw [hb]
  exact ⟨rfl, rfl, rfl⟩

theorem OwnSlot.step {s : State} {slot : Nat} {f : YardFrame} (hawake : s.chip.awake = true) (h : OwnSlot s.chip slot f) {P : Option YardFrame → BitVec 16 → Nat → Prop}
    (hsends : P ((s.chip.inSlot slot).ownSlot slot).yard.report ((s.chip.inSlot slot).ownSlot slot).yard.retry
      ((s.chip.inSlot slot).ownSlot slot).yard.lastSent) :
    Gives (.yardSlotStart slot) s (fun c => P c.yard.report c.yard.retry c.yard.lastSent) := by
  have hin := h.inSlot
  obtain ⟨hreport, hretry, hlast⟩ := Chip.slotRest_report hin.member hin.yardNumber
  refine Gives.run (exec_yardSlotStart slot s) hawake ?_
  rw [Chip.follow_yard, Chip.inSlot_slot h.yardIn h.last, hin.idle.member hin.member hin.mini hin.yardNumber, hreport, hretry, hlast]
  exact hsends

/-- A report that went out before goes again, with TRY one greater and the SEQ it has. -/
theorem OwnSlot.again {c : Chip} {slot : Nat} {f : YardFrame} (h : OwnSlot c slot f) (hptype : f.ptype = 2) (hsent : f.sent = true)
    (hack : f.ackReq = true) (hseq : f.seq ≠ 0) : (c.ownSlot slot).yard.report = some { f with tries := f.tries + 1 } ∧
      (c.ownSlot slot).yard.retry = c.yard.retry + 1 ∧ (c.ownSlot slot).yard.lastSent = 2 := by
  have hgoing : f.going = { f with tries := f.tries + 1 } := if_pos hsent
  have hkept := Chip.withSeq_kept (c := c.upYard (fun y => { y with lastSent := 0 })) h.goes (f := { f with tries := f.tries + 1 }) hseq
  obtain ⟨hreport, hretry, hlast⟩ := h.sends (g := { f with tries := f.tries + 1 }) (by rw [hgoing]; exact hkept) rfl hptype
  rw [hreport, hretry, hlast, if_pos hsent, if_pos hack]
  refine ⟨congrArg some ?_, rfl, hptype⟩
  rw [hsent]

/-- At its first sending the SEQ is drawn. -/
theorem OwnSlot.first {c : Chip} {slot : Nat} {f : YardFrame} (h : OwnSlot c slot f) (hptype : f.ptype = 2) (hbcast : f.bcast = false)
    (hsent : f.sent = false) (hseq : f.seq = 0) (hbelow : mget 0 c.yard.counters f.dst < 0xFFFFFFFF) :
    (c.ownSlot slot).yard.report = some { f with seq := mget 0 c.yard.counters f.dst + 1, sent := true } ∧
      (c.ownSlot slot).yard.retry = c.yard.retry ∧ (c.ownSlot slot).yard.lastSent = if f.ackReq then 2 else 0 := by
  have hnot : ¬ f.sent = true := by rw [hsent]; exact Bool.false_ne_true
  have hgoing : f.going = f := if_neg hnot
  have hdrawn := Chip.withSeq_drawn (c := c.upYard (fun y => { y with lastSent := 0 })) h.goes hseq hbcast hbelow
  obtain ⟨hreport, hretry, hlast⟩ := h.sends (g := { f with seq := mget 0 c.yard.counters f.dst + 1 }) (by rw [hgoing]; exact hdrawn) rfl hptype
  rw [hreport, hretry, hlast, if_neg hnot, ← hptype]
  exact ⟨rfl, rfl, rfl⟩

theorem reportAgain_step {s : State} {slot : Nat} {f : YardFrame} (hawake : s.chip.awake = true) (h : OwnSlot s.chip slot f) (hptype : f.ptype = 2)
    (hsent : f.sent = true) (hack : f.ackReq = true) (hseq : f.seq ≠ 0) : Gives (.yardSlotStart slot) s (fun c => ∃ g : YardFrame,
      c.yard.report = some g ∧ g.sent = true ∧ g.tries = f.tries + 1 ∧ g.seq = f.seq ∧ g.body = f.body ∧ c.yard.lastSent = 2 ∧
      c.yard.retry = s.chip.yard.retry + 1) := by
  obtain ⟨hreport, hretry, hlast⟩ := h.inSlot.again hptype hsent hack hseq
  refine OwnSlot.step hawake h (P := fun report retry lastSent => ∃ g : YardFrame,
    report = some g ∧ g.sent = true ∧ g.tries = f.tries + 1 ∧ g.seq = f.seq ∧ g.body = f.body ∧ lastSent = 2 ∧ retry = s.chip.yard.retry + 1) ?_
  rw [hreport, hretry, hlast, s.chip.inSlot_yard slot]
  exact ⟨_, rfl, hsent, rfl, rfl, rfl, rfl, rfl⟩

theorem reportFirst_step {s : State} {slot : Nat} {f : YardFrame} (hawake : s.chip.awake = true) (h : OwnSlot s.chip slot f) (hptype : f.ptype = 2)
    (hbcast : f.bcast = false) (hsent : f.sent = false) (hseq : f.seq = 0) (hbelow : mget 0 s.chip.yard.counters f.dst < 0xFFFFFFFF) :
    Gives (.yardSlotStart slot) s (fun c => ∃ g : YardFrame,
      c.yard.report = some g ∧ g.sent = true ∧ g.tries = f.tries ∧ g.seq = mget 0 s.chip.yard.counters f.dst + 1 ∧ g.body = f.body ∧
      c.yard.lastSent = (if f.ackReq then 2 else 0) ∧ c.yard.retry = s.chip.yard.retry) := by
  have hyard := s.chip.inSlot_yard slot
  obtain ⟨hreport, hretry, hlast⟩ := h.inSlot.first hptype hbcast hsent hseq (by rw [hyard]; exact hbelow)
  refine OwnSlot.step hawake h (P := fun report retry lastSent => ∃ g : YardFrame,
    report = some g ∧ g.sent = true ∧ g.tries = f.tries ∧ g.seq = mget 0 s.chip.yard.counters f.dst + 1 ∧ g.body = f.body ∧
      lastSent = (if f.ackReq then 2 else 0) ∧ retry = s.chip.yard.retry) ?_
  rw [hreport, hretry, hlast, hyard]
  exact ⟨_, rfl, rfl, rfl, rfl, rfl, rfl, rfl⟩

end Sys2Proof.Machine
end

section
/-! SUPPORT. Missed beacons, report requests, retries, buckling, yard keys and YARD_CFG (15 R672, R673, R685, R692, R695, R704, R707, R720, R721),
and the statement on them. -/

namespace Sys2Proof.Machine

/-! ### A missed beacon, report requests and the retries (R685, R692, R704, R707) -/

theorem beaconMissed_step {s : State} {n : Nat} (hawake : s.chip.awake = true) (hnumber : s.chip.yardNumber = some n) (hin : s.chip.yardIn = true)
    (hmember : s.chip.yard.sec.lead = false) (hneeded : s.chip.yard.beaconNeeded = true) (hnone : s.chip.yard.beaconHeard = false) :
    Gives .beaconMissed s (fun c => c.yard = s.chip.yard ∧ c.ring 44 = (s.chip.yardEvent 2 n).ring 44) := by
  refine Gives.run (exec_beaconMissed s) hawake ?_
  rw [hnumber]
  dsimp only
  rw [if_pos (show (s.chip.yardIn && !s.chip.yard.sec.lead && s.chip.yard.beaconNeeded && !s.chip.yard.beaconHeard) = true by
    rw [hin, hmember, hneeded, hnone]; rfl), Chip.follow_yard, Chip.ring_follow, Chip.yardEvent_yard]
  exact ⟨rfl, rfl⟩

/-- The alarm that a report template asks for. -/
theorem Chip.raiseAlarm_yard (c : Chip) (rule : Nat) : ∃ a : Alarm, (c.raiseAlarm rule).yard =
    { c.yard with alarm := some a, nextAlarm := c.yard.nextAlarm + 1 } ∧ a.id = c.yard.nextAlarm.toNat ∧ a.hops = 0 :=
  ⟨_, rfl, rfl, rfl⟩

/-- A member keeps the report that it builds for its next own slot. -/
theorem Chip.buildReport_member {c : Chip} (hmember : c.yard.sec.lead = false) (tpl rule value : Nat) : ∃ f : YardFrame,
    c.buildReport tpl rule value = (if (c.yard.sec.templates.getD tpl {}).alarm then c.raiseAlarm rule else c).upYard
      (fun y => { y with report := some f }) ∧ f.ptype = 2 ∧ f.sent = false ∧ f.tries = 0 ∧ f.ackReq = (c.yard.sec.templates.getD tpl {}).ackReq := by
  have hlead : c.yardLead = false := by
    unfold Chip.yardLead
    rw [hmember, Bool.and_false]
  unfold Chip.buildReport
  dsimp only
  rw [hlead, if_neg Bool.false_ne_true]
  exact ⟨_, rfl, rfl, rfl, rfl, rfl⟩

theorem Chip.reportReq_eq {c : Chip} {e : Entry} (hhead : c.headItem 33 = some e) (hkind : fld (ew e 0) 31 24 = 3) (hnone : c.yard.report = none)
    (hin : c.yardIn = true) : c.reportReq = (c.consume 33 1).buildReport (fld (ew e 0) 11 8) (fld (ew e 0) 7 0) (ew e 1).toNat := by
  unfold Chip.reportReq
  rw [hhead]
  dsimp only
  rw [if_pos ⟨hkind, by rw [hnone]; rfl, hin⟩]

theorem reportReq_step {s : State} {e : Entry} (hawake : s.chip.awake = true) (hhead : s.chip.headItem 33 = some e) (hkind : fld (ew e 0) 31 24 = 3)
    (hnone : s.chip.yard.report = none) (hin : s.chip.yardIn = true) (hmember : s.chip.yard.sec.lead = false) : Gives .reportReq s (fun c =>
      (c.ring 33).tail = (s.chip.ring 33).tail + 1 ∧
      (∃ f : YardFrame, c.yard.report = some f ∧ f.ptype = 2 ∧ f.sent = false ∧ f.tries = 0 ∧
        f.ackReq = (s.chip.yard.sec.templates.getD (fld (ew e 0) 11 8) {}).ackReq) ∧
      ((s.chip.yard.sec.templates.getD (fld (ew e 0) 11 8) {}).alarm = true → c.yard.nextAlarm = s.chip.yard.nextAlarm + 1 ∧
        ∃ a : Alarm, c.yard.alarm = some a ∧ a.id = s.chip.yard.nextAlarm.toNat ∧ a.hops = 0)) := by
  have htail := Chip.consume_tail (d := s.chip) rfl (Chip.headItem_fill hhead) 1
  have hyard : (s.chip.consume 33 1).yard = s.chip.yard := rfl
  obtain ⟨f, hbuilt, hf⟩ := Chip.buildReport_member (c := s.chip.consume 33 1) hmember (fld (ew e 0) 11 8) (fld (ew e 0) 7 0) (ew e 1).toNat
  have heq := (Chip.reportReq_eq hhead hkind hnone hin).trans hbuilt
  generalize s.chip.consume 33 1 = d at htail hyard heq hf
  rw [← hyard]
  refine Gives.run (exec_reportReq s) hawake ?_
  rw [heq, Chip.ring_follow, Chip.follow_yard, Chip.ring_of (Chip.upYard_rings _ _), Chip.upYard_yard]
  by_cases halarm : (d.yard.sec.templates.getD (fld (ew e 0) 11 8) {}).alarm = true
  · obtain ⟨a, hraised, ha⟩ := d.raiseAlarm_yard (fld (ew e 0) 7 0)
    have hring : (d.raiseAlarm (fld (ew e 0) 7 0)).ring 33 = d.ring 33 := rfl
    rw [if_pos halarm, hraised, hring]
    exact ⟨htail, ⟨f, rfl, hf⟩, fun _ => ⟨rfl, a, rfl, ha⟩⟩
  · rw [if_neg halarm]
    exact ⟨htail, ⟨f, rfl, hf⟩, fun h => absurd h halarm⟩

theorem alarmRetry_step {s : State} {a : Alarm} (hawake : s.chip.awake = true) (halarm : s.chip.yard.alarm = some a) (hdue : a.due = false)
    (hwaited : 7 ≤ a.waited) :
    (a.tries ≠ 7 → Gives .alarmRetry s (fun c => c.yard.alarm = some { a with tries := a.tries + 1, due := true, waited := 0 } ∧
      c.yard.retry = s.chip.yard.retry + 1)) ∧
    (a.tries = 7 → Gives .alarmRetry s (fun c => c.yard.alarm = none)) := by
  have heq : s.chip.alarmRetry = if a.tries = 7 then (s.chip.upYard (fun y => { y with alarm := none })).yardEvent 4 (s.chip.yardNumber.getD 0xFF)
      else s.chip.upYard (fun y => { y with alarm := some { a with tries := a.tries + 1, due := true, waited := 0 }, retry := y.retry + 1 }) := by
    unfold Chip.alarmRetry
    rw [halarm]
    dsimp only
    rw [hdue, decide_eq_false (by omega), if_neg (show ¬ (false || false) = true from Bool.false_ne_true)]
  refine ⟨fun hmore => ?_, fun hlast => ?_⟩
  · refine Gives.run (exec_alarmRetry s) hawake ?_
    rw [heq, if_neg hmore, Chip.follow_yard, Chip.upYard_yard]
    exact ⟨rfl, rfl⟩
  · refine Gives.run (exec_alarmRetry s) hawake ?_
    rw [heq, if_pos hlast, Chip.follow_yard, Chip.yardEvent_yard, Chip.upYard_yard]

theorem buckleRetry_steps {s : State} (hawake : s.chip.awake = true) :
    (s.chip.yard.buckle = .requested → Gives .buckleRetry s (fun c => ∃ n, c.yard.buckle = .waiting n ∧ 1 ≤ n ∧ n ≤ 8)) ∧
    (s.chip.yard.buckle = .listening → Gives .buckleListenTimeout s (fun c => c.yard = { s.chip.yard with buckle := .idle })) := by
  refine ⟨fun hrequested => ?_, fun hlistening => ?_⟩
  · have hrange := (Config.buckleWait s.chip.start.freeCtr).isLt
    refine Gives.run (exec_buckleRetry s) hawake ?_
    rw [Chip.buckleRetry, if_pos hrequested, Chip.follow_yard]
    exact ⟨_, rfl, by omega, by omega⟩
  · refine Gives.run (exec_buckleListenTimeout s) hawake ?_
    rw [if_pos hlistening, Chip.follow_yard, Chip.upYard_yard]

/-! ### Yard keys (R672, R673) -/

theorem Chip.commandCheck_lt (c : Chip) (cmd : List Byte) (len : Nat) (m0 m1 : Byte) (challenge : Word) (key : Nat) (opOk : Bool) :
    c.commandCheck cmd len m0 m1 challenge key opOk < 16 := by
  unfold Chip.commandCheck
  split_ifs <;> decide

theorem Chip.yardLoadResult_lt (c : Chip) (cmd : List Byte) : c.yardLoadResult cmd < 16 := by
  unfold Chip.yardLoadResult
  dsimp only
  split
  · decide
  · exact Chip.commandCheck_lt _ _ _ _ _ _ _ _

/-- Unbuckling ends the membership and its counters, and keeps the yard record and the registers. -/
theorem Chip.unbuckle_keeps (c : Chip) : c.unbuckle.mram = c.mram ∧ c.unbuckle.regs = c.regs ∧ c.unbuckle.yard.member = false ∧
    c.unbuckle.yard.counters = [] := by
  unfold Chip.unbuckle
  dsimp only
  split
  · rw [Chip.yardEvent_mram, Chip.yardEvent_regs, Chip.yardEvent_yard]
    exact ⟨rfl, rfl, rfl, rfl⟩
  · exact ⟨rfl, rfl, rfl, rfl⟩

/-- The block with the answer of the check shown and a new nonce drawn. -/
def Chip.loadAnswered (c : Chip) (res : Nat) : Chip := (c.draw.1.upYard (fun y => { y with nonce := c.draw.2 })).setFld 0x3848 3 0 res

theorem Chip.loadAnswered_shows (c : Chip) {res : Nat} (h : res < 16) : (c.loadAnswered res).rf 0x3848 3 0 = res :=
  Sys2Proof.Machine.rf_setFld_self _ _ _ _ _ (by decide) (by decide) h

theorem Chip.loadAnswered_mram (c : Chip) (res : Nat) : (c.loadAnswered res).mram = c.mram := rfl
theorem Chip.loadAnswered_yard (c : Chip) (res : Nat) : (c.loadAnswered res).yard = { c.yard with nonce := c.draw.2 } := rfl

theorem Chip.rf_congr {c d : Chip} (h : c.regs = d.regs) (a hi lo : Nat) : c.rf a hi lo = d.rf a hi lo := by
  unfold Chip.rf Chip.reg
  rw [h]

/-- The yard record of a key that is loaded. -/
def keyRecord (cmd : List Byte) (era : Nat) : YardRecord :=
  { present := true, code := leAt cmd 3 1, key := slice cmd 16 16, number := none, era := min 65535 (era + 1) }

section
variable {s : State} {cmd : List Byte}

theorem Chip.yardLoad_refused {c : Chip} (hcmd : cmd = c.bufBytes 0x3820 40) (h : c.yardLoadResult cmd ≠ 1) :
    c.yardLoad = c.loadAnswered (c.yardLoadResult cmd) := by
  unfold Chip.yardLoad
  dsimp only
  rw [← hcmd, if_pos h]
  rfl

theorem Chip.yardLoad_accepted {c : Chip} (hcmd : cmd = c.bufBytes 0x3820 40) (h : c.yardLoadResult cmd = 1) : c.yardLoad =
    if leAt cmd 2 1 = 1 then
      ((c.loadAnswered 1).unbuckle.commitYard (keyRecord cmd (c.loadAnswered 1).unbuckle.era)).upYard
        (fun y => { y with exhausted := decide ((c.loadAnswered 1).unbuckle.era = 65534) })
    else (c.loadAnswered 1).unbuckle.commitYard { present := false, code := 0, key := [], number := none, era := (c.loadAnswered 1).unbuckle.era } := by
  unfold Chip.yardLoad
  dsimp only
  rw [← hcmd, h, if_neg (not_not.mpr rfl)]
  rfl

/-- The yard record is kept up to its own words, and the answer 1 stands. -/
theorem Chip.loadUnbuckled (c : Chip) : (c.loadAnswered 1).unbuckle.era = c.mram.keys.yard.era ∧ (c.loadAnswered 1).unbuckle.rf 0x3848 3 0 = 1 ∧
    (c.loadAnswered 1).unbuckle.yard.member = false ∧ (c.loadAnswered 1).unbuckle.yard.counters = [] := by
  obtain ⟨hmram, hregs, hmember, hcounters⟩ := (c.loadAnswered 1).unbuckle_keeps
  refine ⟨?_, (Chip.rf_congr hregs 0x3848 3 0).trans (c.loadAnswered_shows (by decide)), hmember, hcounters⟩
  unfold Chip.era
  rw [hmram, Chip.loadAnswered_mram]

theorem yardKeyLoad_loads (hawake : s.chip.awake = true) (hopen : s.chip.hostOpen = true) (hcmd : cmd = s.chip.bufBytes 0x3820 40)
    (h : s.chip.yardLoadResult cmd = 1) (hload : leAt cmd 2 1 = 1) : Gives .yardKeyLoad s (fun c =>
      c.mram.keys.yard = { present := true, code := leAt cmd 3 1, key := slice cmd 16 16, number := none, era := min 65535 (s.chip.mram.keys.yard.era + 1) } ∧
      c.rf 0x3848 3 0 = 1 ∧ c.yard.member = false ∧ c.yard.counters = []) := by
  obtain ⟨hera, hshown, hmember, hcounters⟩ := s.chip.loadUnbuckled
  have heq := Chip.yardLoad_accepted hcmd h
  rw [if_pos hload, hera] at heq
  generalize (s.chip.loadAnswered 1).unbuckle = d at heq hshown hmember hcounters
  refine Gives.host (exec_yardKeyLoad s) hawake hopen ?_
  rw [heq, Chip.follow_mram, Chip.rf_follow, Chip.follow_yard]
  exact ⟨rfl, hshown, hmember, hcounters⟩

theorem yardKeyErase_erases (hawake : s.chip.awake = true) (hopen : s.chip.hostOpen = true) (hcmd : cmd = s.chip.bufBytes 0x3820 40)
    (h : s.chip.yardLoadResult cmd = 1) (herase : leAt cmd 2 1 = 2) : Gives .yardKeyErase s (fun c => c.mram.keys.yard.present = false ∧
      c.mram.keys.yard.era = s.chip.mram.keys.yard.era ∧ c.rf 0x3848 3 0 = 1 ∧ c.yard.member = false) := by
  obtain ⟨hera, hshown, hmember, -⟩ := s.chip.loadUnbuckled
  have heq := Chip.yardLoad_accepted hcmd h
  rw [if_neg (by rw [herase]; decide), hera] at heq
  generalize (s.chip.loadAnswered 1).unbuckle = d at heq hshown hmember
  refine Gives.host (exec_yardKeyErase s) hawake hopen ?_
  rw [heq, Chip.follow_mram, Chip.rf_follow, Chip.follow_yard]
  exact ⟨rfl, rfl, hshown, hmember⟩

theorem yardKeyLoad_refused (hawake : s.chip.awake = true) (hopen : s.chip.hostOpen = true) (hcmd : cmd = s.chip.bufBytes 0x3820 40)
    (h : s.chip.yardLoadResult cmd ≠ 1) : Gives .yardKeyLoad s (fun c => c.mram.keys = s.chip.mram.keys ∧ c.rf 0x3848 3 0 = s.chip.yardLoadResult cmd ∧
      c.yard = { s.chip.yard with nonce := c.yard.nonce }) := by
  refine Gives.host (exec_yardKeyLoad s) hawake hopen ?_
  rw [Chip.yardLoad_refused hcmd h, Chip.follow_mram, Chip.rf_follow, Chip.follow_yard, Chip.loadAnswered_shows _ (Chip.yardLoadResult_lt _ _),
    Chip.loadAnswered_mram, Chip.loadAnswered_yard]
  exact ⟨rfl, rfl, rfl⟩

/-! ### YARD_CFG (R720, R721) -/

theorem yardCfgArm_steps (hawake : s.chip.awake = true) (hopen : s.chip.hostOpen = true) :
    (16 ≤ s.chip.rf 0x3808 27 16 → s.chip.rf 0x3808 9 8 ≤ 2 → Gives .yardCfgArm s (fun c => c.yard = s.chip.yard ∧
      c.armedSet 0x3808 = some { arm := 0x3808, words := s.chip.shadow 0x3808 1 })) ∧
    ((s.chip.rf 0x3808 27 16 < 16 ∨ 2 < s.chip.rf 0x3808 9 8) → Gives .yardCfgArm s (fun c => c.girth.armed = s.chip.girth.armed ∧
      c.reg 0x0023 = wd (0x3808 * 65536 + 2))) := by
  have heq : s.chip.yardCfgArm = if s.chip.rf 0x3808 27 16 < 16 ∨ 2 < s.chip.rf 0x3808 9 8 then s.chip.armLast 0x3808 2
      else (s.chip.armLast 0x3808 0).holdSet 0x3808 (s.chip.shadow 0x3808 1) := rfl
  refine ⟨fun hlease hmini => ?_, fun hbad => ?_⟩
  · refine Gives.host (exec_yardCfgArm s) hawake hopen ?_
    rw [heq, if_neg (by omega), Chip.follow_yard, Chip.armedSet_follow, armedSet_holdSet]
    exact ⟨rfl, rfl⟩
  · refine Gives.host (exec_yardCfgArm s) hawake hopen ?_
    rw [heq, if_pos hbad]
    exact ⟨rfl, Chip.reg_armLast_self s.chip 0x3808 2⟩

end

/-- Settles O45: rounds, slots, retries, buckling, yard keys and the configuration, command by command. -/
theorem roundsSlotsRetriesAndKeys : Obligations.RoundsSlotsRetriesAndKeys := by
  unfold Obligations.RoundsSlotsRetriesAndKeys
  refine ⟨fun s hawake hin => yardRoundStart_begins hawake hin, fun s slot hawake hin hslot => ⟨?_, ?_⟩,
    fun s n hawake hnumber hin hmember hneeded hnone => beaconMissed_step hawake hnumber hin hmember hneeded hnone,
    fun s e hawake hhead hkind hnone hin hmember => reportReq_step hawake hhead hkind hnone hin hmember,
    fun s a hawake halarm hdue hwaited => alarmRetry_step hawake halarm hdue hwaited, fun s hawake => buckleRetry_steps hawake,
    fun s cmd hawake hopen hcmd => ⟨yardKeyLoad_loads hawake hopen hcmd, yardKeyErase_erases hawake hopen hcmd, yardKeyLoad_refused hawake hopen hcmd⟩,
    fun s hawake hopen => yardCfgArm_steps hawake hopen⟩
  · intro u hzero hlead halarm hrelay howed hgoes hbelow hunc hair hsize hconsumer hcopying hactive hwaiting hroom
    subst hzero
    exact beaconSlot_commands hawake hin hlead ⟨halarm, hrelay⟩ howed hgoes hbelow hunc hair
      ⟨by decide, hsize, hconsumer, hcopying, hactive, hwaiting⟩ hroom
  · intro f u hmember hnumber halarm hrelay hmini hconfirm hreplies hreport hptype hbcast hgoes hunc hgood hbeacon hair hlen hsize hconsumer hwaiting
      hroom
    have hslots (hspent : f.spent = false) (hwaits : f.waits = false) : OwnSlot s.chip slot f :=
      { yardIn := hin, last := hslot, member := hmember, number := hnumber, idle := ⟨halarm, hrelay⟩, mini := hmini,
        report := ⟨hconfirm, hreplies, hreport, hspent, hwaits⟩, goes := hgoes, good := ⟨u, hunc, hgood⟩, beacon := hbeacon,
        air := hair, len := hlen, size := hsize, consumer := hconsumer, waiting := hwaiting, room := hroom }
    refine ⟨fun hsent hack htries hseq => ?_, fun hsent hseq hbelow => ?_⟩
    · have hspent : f.spent = false := by rw [YardFrame.spent, decide_eq_false (by omega), Bool.and_false]
      have hwaits : f.waits = false := by rw [YardFrame.waits, hack, Bool.not_true, Bool.and_false]
      exact reportAgain_step hawake (hslots hspent hwaits) hptype hsent hack hseq
    · have hspent : f.spent = false := by rw [YardFrame.spent, hsent, Bool.false_and, Bool.false_and]
      have hwaits : f.waits = false := by rw [YardFrame.waits, hsent, Bool.false_and]
      exact reportFirst_step hawake (hslots hspent hwaits) hptype hbcast hsent hseq hbelow

end Sys2Proof.Machine
end
